-- ==== Sys2Proof/Word.lean ====
section
/-! DEFINITION. Bytes, fixed-size arrays of like things, and the plainest arithmetic the chapters share. -/

namespace Sys2Proof

/-- A byte on a bus, in a store or in an object value. -/
abbrev Byte := BitVec 8

/-- The array with element `i` replaced. -/
def vset {α : Type} {n : Nat} (v : Vector α n) (i : Fin n) (x : α) : Vector α n := v.set i.val x i.isLt

/-- The array with element `i` changed by `f`. -/
def vmod {α : Type} {n : Nat} (v : Vector α n) (i : Fin n) (f : α → α) : Vector α n := vset v i (f v[i])

@[simp] theorem vset_get_same {α : Type} {n : Nat} (v : Vector α n) (i : Fin n) (x : α) : (vset v i x)[i] = x := by
  simp [vset]

theorem vset_get_ne {α : Type} {n : Nat} (v : Vector α n) (i j : Fin n) (x : α) (h : i ≠ j) :
    (vset v i x)[j] = v[j] := by
  have : i.val ≠ j.val := fun e => h (Fin.ext e)
  simp [vset, this]

@[simp] theorem vmod_get_same {α : Type} {n : Nat} (v : Vector α n) (i : Fin n) (f : α → α) :
    (vmod v i f)[i] = f v[i] := vset_get_same v i _

theorem vmod_get_ne {α : Type} {n : Nat} (v : Vector α n) (i j : Fin n) (f : α → α) (h : i ≠ j) :
    (vmod v i f)[j] = v[j] := vset_get_ne v i j _ h

/-- A counter that saturates at `m` (every counter of the manual called saturating). -/
def satAdd (m a b : Nat) : Nat := if m ≤ a + b then m else a + b

/-- 0xFF, 0xFFFF and 0xFFFFFFFF, where 8-, 16- and 32-bit counters saturate. -/
abbrev max8  : Nat := 0xFF
abbrev max16 : Nat := 0xFFFF
abbrev max32 : Nat := 0xFFFFFFFF
abbrev max64 : Nat := 0xFFFFFFFFFFFFFFFF

/-- A flag as a bit. -/
def bit (b : Bool) : Nat := if b then 1 else 0

/-- The number whose bit `i` is the `i`-th flag. -/
def bitsOf : List Bool → Nat
  | [] => 0
  | b :: l => bit b + 2 * bitsOf l

/-- Bit `i` of a number. -/
def bitAt (w i : Nat) : Bool := w.testBit i

/-- Bits [hi:lo] of a number. -/
def field (w hi lo : Nat) : Nat := w / 2 ^ lo % 2 ^ (hi + 1 - lo)

/-- The number with bit `i` set. -/
def setBit (w i : Nat) : Nat := w ||| 2 ^ i

/-- The number with bit `i` cleared. -/
def clrBit (w i : Nat) : Nat := if w.testBit i then w - 2 ^ i else w

/-- The two's complement pattern of `n` bits. -/
def toTwos (n : Nat) (x : Int) : Nat := (x % (2 ^ n : Nat)).toNat

/-- The signed value of an `n`-bit pattern. -/
def ofTwos (n w : Nat) : Int := if w < 2 ^ (n - 1) then w else (w : Int) - (2 ^ n : Nat)

/-- The value `x` limited to the range `lo` to `hi`. -/
def clampI (lo hi x : Int) : Int := max lo (min hi x)

/-- Quotient rounded to nearest, halves rounded up. -/
def divHalfUp (a b : Nat) : Nat := (2 * a + b) / (2 * b)

/-- The same for integers. -/
def divHalfUpI (a : Int) (b : Nat) : Int := (2 * a + b) / (2 * b)

/-- A numbered element of `Fin n`, where it exists. -/
def fin? (n i : Nat) : Option (Fin n) := if h : i < n then some ⟨i, h⟩ else none

/-- All numbers of `Fin n` in ascending order. -/
abbrev allFin (n : Nat) : List (Fin n) := List.finRange n

/-- The least bit-width little-endian bytes of `w`, `n` of them. -/
def leBytes : Nat → Nat → List Byte
  | 0, _ => []
  | n + 1, w => BitVec.ofNat 8 w :: leBytes n (w / 256)

/-- The number that little-endian bytes spell. -/
def leNat : List Byte → Nat
  | [] => 0
  | b :: l => b.toNat + 256 * leNat l

/-- Big-endian bytes of `w`, `n` of them. -/
def beBytes (n w : Nat) : List Byte := (leBytes n w).reverse

/-- One bit of a CRC register shifted through polynomial `poly`, MSB first, width `wd`. -/
def crcBit (wd poly r : Nat) : Nat :=
  if r.testBit (wd - 1) then ((2 * r) % 2 ^ wd) ^^^ poly else (2 * r) % 2 ^ wd

/-- CRC-16 with polynomial 0x1021, fed MSB first (R32, R433). -/
def crc16 (init : Nat) (l : List Byte) : Nat :=
  l.foldl (fun r b => Nat.repeat (crcBit 16 0x1021) 8 (r ^^^ (b.toNat * 256))) init

end Sys2Proof
end

