-- ==== Sys2Proof/Syntax.lean ====
section
/-! DEFINITION. The commands of the block: one constructor per row of spec/opcode_table.json, in the table's order. -/

namespace Sys2Proof

/-- An object access port (R496): 0 to 3 the CAN ports, 4 and 5 the dictionary tunnels of two-wire ports 0 and 1. -/
abbrev Port := Fin 6

/-- One of the twelve fused channels: a zone input or a fused output (chapter 05). -/
inductive Chan
  | zin (n : Fin 4)
  | fo (n : Fin 8)
  deriving DecidableEq, Repr

/-- The requesters of the Hamper (R26, R28). -/
inductive HamperMaster
  | linkHub (die : Fin 7) | supervisor | network | mramIf | pack
  | canPort (n : Fin 4) | twPort (n : Fin 2) | hkConv | logbook | scrub | holdUp
  deriving DecidableEq, Repr

/-- What the SECDED code of R26 finds when a word is read (R30). -/
inductive EccFind
  | clean | single | double
  deriving DecidableEq, Repr

/-- One 64-bit access waiting at the Hamper (R26). -/
structure HamperReq where
  master : HamperMaster
  /-- Byte offset; the access is the 64-bit word that holds it. -/
  offset : Nat
  write  : Bool
  data   : Nat
  deriving DecidableEq, Repr

/-- Which end of a link receives (R32): the helm die or the rail die. -/
inductive LinkEndSel
  | atHelm | atRail
  deriving DecidableEq, Repr

/-- A change of a ganged rail's phase set, stride or rotation enable (R183, R264). -/
inductive GangChange
  | shed (ph : Fin 56)
  | stride (s : Nat)
  | rotEn (b : Bool)
  | limits (valley tot : Nat)
  deriving DecidableEq, Repr

/-- The commands a rail die's loop manager applies (R199, R183, R228). -/
inductive RailCmd
  /-- A new target in mV at the output, the slew setting used and the source code of R198. -/
  | setTarget (rail : Fin 28) (mv slew src : Nat)
  | enable (rail : Fin 28)
  | disable (rail : Fin 28) (atOnce : Bool)
  /-- A Forecast hint: I_fc in 0.1 A and t_fc in µs. -/
  | hint (rail : Fin 28) (ifc tfc : Nat)
  | clearFault (rail : Fin 28)
  deriving DecidableEq, Repr

/-- The rail a command addresses. -/
def RailCmd.rail : RailCmd → Fin 28
  | .setTarget r _ _ _ | .enable r | .disable r _ | .hint r _ _ | .clearFault r => r

/-- What a link frame carries (R32). -/
inductive FramePayload
  | idle
  | nak (seq : Nat)
  | command (c : RailCmd)
  | event (source cause : Nat)
  | objWrite (obj sub value : Nat)
  | objRead (obj sub : Nat)
  | objData (obj sub value : Nat)
  | telemetry (offset data : Nat)
  /-- A frame known by its body alone: it failed at the receiver and is to be resent (R35). -/
  | raw (body : Nat)
  deriving DecidableEq, Repr

/-- A frame at a link end: its SEQ, ACKSEQ and TAG, what it carries and the attempts that failed (R32, R35, R36). -/
structure LinkFrame where
  seq      : Nat
  ackSeq   : Nat
  tag      : Nat
  payload  : FramePayload
  failed   : Nat
  deriving DecidableEq, Repr

/-- A function whose disable has a safe boundary (R43). -/
inductive DisableFn
  | hkScan
  | canPort (n : Fin 4)
  | rail (r : Fin 28)
  | charger
  | fusedOut (n : Fin 8)
  | zoneIn (n : Fin 4)
  | report (r : Fin 64)
  | group (g : Fin 8)
  | balance (r : Fin 28)
  | busTrim (r : Fin 28)
  deriving DecidableEq, Repr

/-- The fault codes of R452. -/
inductive FaultCode
  | lockstep | sysClkFail | rsysClkFail | clkCanFail | linkDown | fabricErr
  | hamperDed | mramDed | engineWdt | testStrap | configRepaired | configSplit
  | homeChartInvalid | skTimeout | mramWriteFail | hamperBistWeak | tamper | zinTrip
  | foTrip | railOv | railUv | railOc | stageFault | valleyLimit
  | gangCfgErr | gangChgFail | gangRotErr | gangHold | vdrLow | cmdRefused
  | fcLate | railOvGanged | seqCfgErr | seqOffTimeout | itemFault | lbusOverload
  | srcMismatch | chgFault | packLost | ggDisagree | almanacAbandoned | almanacInvalid
  | hkSliceRetired | roImplausible | dieTFallback | tsFault | thermalBlind | throttle
  | thermalShutdown | wdCycleFail | wdReaction | twBusErr | twStuck | canBusOff
  | xbearAbort | imageRefused | bankFallback
  deriving DecidableEq, Repr

/-- The codes of R452. -/
def FaultCode.code : FaultCode → Nat
  | .lockstep => 0x0101 | .sysClkFail => 0x0102 | .rsysClkFail => 0x0103 | .clkCanFail => 0x0104 | .linkDown => 0x0105
  | .fabricErr => 0x0106 | .hamperDed => 0x0107 | .mramDed => 0x0108 | .engineWdt => 0x0109 | .testStrap => 0x010A
  | .configRepaired => 0x0201 | .configSplit => 0x0202 | .homeChartInvalid => 0x0203 | .skTimeout => 0x0204 | .mramWriteFail => 0x0205
  | .hamperBistWeak => 0x0206 | .tamper => 0x0207 | .zinTrip => 0x0301 | .foTrip => 0x0302 | .railOv => 0x0401
  | .railUv => 0x0402 | .railOc => 0x0403 | .stageFault => 0x0404 | .valleyLimit => 0x0405 | .gangCfgErr => 0x0406
  | .gangChgFail => 0x0407 | .gangRotErr => 0x0408 | .gangHold => 0x0409 | .vdrLow => 0x040A | .cmdRefused => 0x040B
  | .fcLate => 0x040C | .railOvGanged => 0x040D | .seqCfgErr => 0x0501 | .seqOffTimeout => 0x0502 | .itemFault => 0x0503
  | .lbusOverload => 0x0601 | .srcMismatch => 0x0602 | .chgFault => 0x0603 | .packLost => 0x0604 | .ggDisagree => 0x0605
  | .almanacAbandoned => 0x0606 | .almanacInvalid => 0x0607 | .hkSliceRetired => 0x0701 | .roImplausible => 0x0702 | .dieTFallback => 0x0703
  | .tsFault => 0x0704 | .thermalBlind => 0x0705 | .throttle => 0x0706 | .thermalShutdown => 0x0707 | .wdCycleFail => 0x0801
  | .wdReaction => 0x0802 | .twBusErr => 0x0901 | .twStuck => 0x0902 | .canBusOff => 0x0A01 | .xbearAbort => 0x0A02
  | .imageRefused => 0x0B01 | .bankFallback => 0x0B02

/-- The fault classes of R449. -/
inductive FaultClass | a | b | c
  deriving DecidableEq, Repr

/-- The class codes of a journal record (R379). -/
def FaultClass.code : FaultClass → Nat
  | .a => 1 | .b => 2 | .c => 3

/-- The class of each code (R452). -/
def FaultCode.cls : FaultCode → FaultClass
  | .lockstep | .sysClkFail | .rsysClkFail | .stageFault | .gangHold | .railOvGanged | .thermalShutdown => .a
  | .linkDown | .fabricErr | .hamperDed | .mramDed | .engineWdt | .configSplit | .homeChartInvalid
  | .skTimeout | .mramWriteFail | .tamper | .zinTrip | .foTrip | .railOv | .railUv
  | .railOc | .gangCfgErr | .gangChgFail | .vdrLow | .itemFault | .chgFault | .packLost
  | .almanacInvalid | .hkSliceRetired | .dieTFallback | .thermalBlind | .wdCycleFail | .wdReaction | .twStuck
  | .canBusOff | .bankFallback => .b
  | .clkCanFail | .testStrap | .configRepaired | .hamperBistWeak | .valleyLimit | .gangRotErr | .cmdRefused
  | .fcLate | .seqCfgErr | .seqOffTimeout | .lbusOverload | .srcMismatch | .ggDisagree | .almanacAbandoned
  | .roImplausible | .tsFault | .throttle | .twBusErr | .xbearAbort | .imageRefused => .c

/-- One SNS cycle at a rail's pins (R157, R168): V_sense in units of 0.15625 mV and V_IMON in µV of each phase of the rail, in
ascending order of global phase number. -/
structure SnsMeas where
  vsense : Nat
  imon   : List Nat
  deriving DecidableEq, Repr

/-- What one charger control cycle measures (R308): the current that the `LBUS` loads draw in mA, `CHVIN` in mV, the power that reaches
`LBUS` of that drawn from `CHVIN` in per mille, `LBUS` and V_PKP in mV, the pack temperature in 0.1 °C, and over-current of the
charger switch. -/
structure ChargeMeas where
  loads : Nat
  chvin : Nat
  eff   : Nat
  lbus  : Nat
  vpkp  : Nat
  temp  : Int
  swOc  : Bool
  deriving DecidableEq, Repr

/-- How the removal of a pack under charge shows (R317): `PKT` open through its filter; two 250 µs means of V_PKP in mV that follow each
other and the change of the charge current in mA between them; the charge current in mA that has flowed for 100 µs while `LBUS`
rises. -/
inductive RemovalSign
  | pktOpen
  | jump (before after : Nat) (di : Int)
  | starved (mA : Nat)
  deriving DecidableEq, Repr

/-- The commands. -/
inductive Instr
  -- clocks, links, Meridian bus (chapter 01)
  | lockstepMismatch (word : Nat)
  | sysClockCheck (kHz : Nat)
  | rsysClockCheck (k : Fin 7) (kHz : Nat)
  | crystalStartTimeout
  | canPllLockLoss
  | canClockGood
  | hamperAccess (reqs : List HamperReq) (ecc : EccFind)
  | backgroundScrub (ecc : EccFind)
  | linkFrameBad (k : Fin 7) (recv : LinkEndSel) (body crc : Nat)
  | linkNak (k : Fin 7) (recv : LinkEndSel) (seq : Nat)
  | linkIdle (k : Fin 7) (recv : LinkEndSel) (ack : Nat)
  | linkAckTimeout (k : Fin 7) (sender : LinkEndSel)
  | linkCommand (k : Fin 7) (seq ack : Nat) (c : RailCmd)
  | linkEvent (k : Fin 7) (seq ack : Nat) (source cause : Nat)
  | linkObjWrite (k : Fin 7) (seq ack tag : Nat) (obj sub value : Nat)
  | linkObjRead (k : Fin 7) (seq ack tag : Nat) (obj sub : Nat)
  | linkObjData (k : Fin 7) (seq ack tag : Nat) (obj sub value : Nat)
  | linkTelemetry (k : Fin 7) (seq ack : Nat) (offset data : Nat)
  | linkDown (k : Fin 7)
  | linkRetrained (k : Fin 7)
  | demandLaneFail (g : Fin 4) (k : Fin 7)
  | laneParityError (g : Fin 4) (k : Fin 7)
  | packageFaultLineAssert
  | stageFault (k : Fin 7)
  | disableBoundaryReached (f : DisableFn)
  -- straps and VDR (chapter 02)
  | strapSample (a b c : BitVec 5)
  | vdrLow (k : Fin 7)
  | vdrRestored (k : Fin 7)
  -- power-up, sleep states, full reset (chapters 03, 04)
  | vauxPowerOnReset
  | powerOnResetRelease
  | hamperSelfTestEnd (weak : Vector Nat 8) (failed : Nat)
  | objectDictionaryReady (units : Nat)
  | pwrStateReqRun (p : Port)
  | pwrStateReqDoze (p : Port)
  | pwrStateReqPark (p : Port)
  | dozeEntry
  | sysStop
  | wake (sources : Nat)
  | wakeTimerExpire
  | oldChartWakeLatch (source : Fin 12)
  | resetPinRecognised
  | resetPinRise
  | resetCmd (p : Port) (value : Nat)
  | resetEnd
  | skReadoptionDeadline (r : Fin 28)
  | skHardwareTimeout (k : Fin 7)
  -- zone inputs and fused outputs (chapter 05)
  | zinWindowEnter (n : Fin 4)
  | zinWindowExit (n : Fin 4)
  | zbusWindowEnter
  | zbusWindowExit
  | insertionDelayExpire (c : Chan) (nearBus : Bool)
  | retryTimerExpire (c : Chan) (nearBus : Bool)
  | inrushComplete (c : Chan)
  | limitEnter (c : Chan) (sense : Nat)
  | limitRelease (c : Chan)
  | limitTimerExpire (c : Chan)
  | fastTrip (c : Chan) (sense : Nat)
  | absoluteTrip (c : Chan)
  | reverseDetected (n : Fin 4)
  | forwardDetected (n : Fin 4)
  | zinEnSet (p : Port) (n : Fin 4)
  | zinEnClear (p : Port) (n : Fin 4)
  | zinClear (p : Port) (n : Fin 4) (value : Nat)
  | foClear (p : Port) (n : Fin 8) (value : Nat)
  | normalOperationTimer (c : Chan)
  | coldStartQualify (n : Fin 4)
  | coldStartLimitTimeout (n : Fin 4)
  | coldStartBandExit (n : Fin 4)
  | foGateOff (n : Fin 8)
  | presenceLost (n : Fin 8)
  | presenceDetected (n : Fin 8)
  | pfwThreshold
  | pfwSlopeSample (code : Nat)
  | pfwRelease
  -- loop, rotation, balance, ganging (chapter 06)
  | loopCommit (p : Port) (r : Fin 28) (value : Nat)
  | rotationEpoch (r : Fin 28) (m : List SnsMeas)
  | balanceUpdate (r : Fin 28)
  | balanceAverageTimeout (g : Fin 4) (k : Fin 7)
  | gangChangeRequest (g : Fin 4) (change : GangChange)
  | gangChangeAck (g : Fin 4) (k : Fin 7)
  | gangAckTimeout (g : Fin 4)
  | followerEpochStrobe (g : Fin 4) (k : Fin 7) (ns : Nat)
  | followerReaddStrobe (g : Fin 4) (k : Fin 7) (ns : Nat)
  | syncStrobeLoss (g : Fin 4) (k : Fin 7)
  | followerHoldEnd (g : Fin 4) (k : Fin 7)
  -- rail dynamics (chapter 07)
  | railVsetWrite (p : Port) (r : Fin 28) (mv : Nat)
  | vsetWindowWrite (h : Fin 2) (j : Fin 8) (mv : Nat)
  | slewTargetReached (r : Fin 28)
  | transitionQualified (r : Fin 28)
  | stepAlarmAssert (r : Fin 28)
  | stepAlarmRelease (r : Fin 28)
  | stepTmaxExpire (r : Fin 28)
  | shedDwellExpire (r : Fin 28)
  | shedStart (r : Fin 28) (m : List SnsMeas)
  | shedComplete (r : Fin 28) (m : List SnsMeas)
  | addThreshold (r : Fin 28) (mA : Nat)
  | readdEpoch (r : Fin 28) (m : List SnsMeas)
  | shedHoldoffExpire (r : Fin 28)
  | phmDisable (p : Port) (r : Fin 28)
  | hintPinEdge (h : Fin 2)
  | fcWindowWrite (h : Fin 2) (j : Fin 8) (value : Nat)
  | fcReqWrite (p : Port) (r : Fin 28) (value : Nat)
  | forecastDeadline (r : Fin 28)
  | forecastInhibitEnd (r : Fin 28)
  | trimPeriod (r : Fin 28)
  | trimFreeze (r : Fin 28)
  | trimDisable (p : Port) (r : Fin 28)
  | stepAlarmDisable (p : Port) (r : Fin 28)
  -- rail protection and power-good (chapter 08)
  | ovAbsTrip (r : Fin 28) (vsense : Nat)
  | ovTrackingTrip (r : Fin 28) (vsense : Nat)
  | pgWindowChange (r : Fin 28) (vsense : Nat)
  | uvTimerExpire (r : Fin 28)
  | ocCondition (r : Fin 28) (k : Fin 7) (mA : Int)
  | ocTimerExpire (r : Fin 28)
  | valleyLimit (ph : Fin 56) (mA : Nat)
  | pgQualified (r : Fin 28)
  | pgHoldEnd (r : Fin 28)
  | railFclr (p : Port) (r : Fin 28) (value : Nat)
  -- sequencer (chapter 09)
  | groupUpCmd (p : Port) (g : Fin 8)
  | groupDownCmd (p : Port) (g : Fin 8)
  | groupInputQualified (g : Fin 8)
  | groupInputLost (g : Fin 8)
  | stepDelayEnd (g : Fin 8)
  | itemQualified (i : Fin 46)
  | itemPgFall (i : Fin 46)
  | stepTimeout (g : Fin 8) (retried : Option (Fin 46))
  | itemOff (i : Fin 46)
  | shutdownStepTimeout (g : Fin 8)
  | minOffEnd (g : Fin 8)
  | itemRetryDelayEnd (i : Fin 46)
  | itemNormalTimer (i : Fin 46)
  | enPinFall (r : Fin 28)
  | enPinRise (r : Fin 28)
  | regCurrentLimitFault (n : Fin 10)
  | buckOverVoltage (n : Fin 6)
  | regPgChange (n : Fin 10) (inWindow : Bool)
  | regPgLostTimeout (n : Fin 10)
  | rstoConditionsEnd (n : Fin 4)
  | rstoStretchEnd (n : Fin 4)
  | rstoForce (p : Port) (n : Fin 4) (value : Nat)
  | rstoPulseEnd (n : Fin 4)
  -- Lantern bus, charger, power path (chapter 10)
  | serviceQualified
  | serviceWindowExit
  | srcAnncWrite (p : Port) (n : Fin 4) (value : Nat)
  | srcAnncTimeout (n : Fin 4)
  | sourceTypeChange
  | chargerControlCycle (m : ChargeMeas)
  | lbusGoodRise
  | lbusGoodFall
  | chgEnSet (p : Port)
  | chgEnClear (p : Port)
  | chargeStartConditions (temp : Int) (vpkp : Nat)
  | chgHbDelayEnd
  | prechargeDone
  | prechargeTimeout
  | chargeTerminationSample (v : Nat) (temp : Int) (currents : List Nat)
  | chargeBackstop (v : Nat) (temp : Int) (swOc : Bool)
  | packRemoval (sign : RemovalSign)
  | chgFaultRead (p : Port)
  | sourceLost (zbus : Nat)
  | handOverMakeDone
  | handOverBreakDone (t : Nat)
  | handBackStart (zbus : Nat)
  | handBackComplete
  -- gauge (chapter 11)
  | gaugeEstimate (vpkp : Nat) (ppI : Int) (temp : Int)
  | restQualified
  | gaugeStart (vpkp : Nat) (closed : Bool)
  | learnFullWaitLapse
  | ggNewpack (p : Port) (value : Nat)
  | outingStartCmd (p : Port)
  | outingEndCmd (p : Port)
  | outingTimeout
  | ggAlmTablesWrite (p : Port) (bytes : List Byte)
  | writeBackTimer
  | almanacWriteBackDone (ok : Bool)
  -- store and hold-up (chapter 12)
  | cfgSave (p : Port) (value : Nat)
  | configCopyWritten (ok : Bool)
  | hcImageWrite (p : Port) (bytes : List Byte)
  | hcLock (p : Port) (value : Nat)
  | journalAppend
  | holdUpEntry (hucap : Nat)
  | holdUpSaveEnd (vauxHigh : Bool)
  | hucapPowerOnReset (step : Fin 7)
  | tamper
  -- housekeeping and thermal (chapter 13)
  | hkConversionEnd (ch : Fin 48) (slice : Fin 5) (raw vref : Nat)
  | hkSlowRound (raws : List (Fin 5 × Nat)) (vref : Nat)
  | hkScanDisable (p : Port)
  | hkCalCmd (p : Port) (value : Nat)
  | selfCalibrationDone (gain : Vector Nat 5) (ofs : Vector Int 5)
  | backgroundCalibration (slice : Fin 5) (gain : Nat) (ofs : Int)
  | hkRefSelWrite (p : Port) (value : Nat)
  | refSettlingEnd
  | roSample (die : Fin 8) (temps : List Int)
  | thermalComparator
  | throttleEvaluation
  | throttleDisable (p : Port)
  -- Star Sight, engine watchdog, Logbook (chapter 14)
  | wdEnable (p : Port) (value : Nat)
  | wdWindowClose
  | wdAnswer (p : Port) (n : Fin 2) (token tick : Nat)
  | wdCheckin (p : Port) (n : Fin 2) (task : Nat)
  | wdCycleEnd
  | engineService (e : Fin 18)
  | engineWatchdogExpire (e : Fin 18)
  | engineSuspensionEnd
  | logbookEntry (code : FaultCode) (die src detail : Nat)
  | logFclr (p : Port) (value : Nat)
  -- two-wire ports (chapter 15)
  | twReadAddress (n : Fin 2) (len : Nat)
  | twWritePointer (n : Fin 2) (ptr : Byte)
  | registerWrite (n : Fin 2) (offset : Nat) (bytes : List Byte) (pec : Nat)
  | claim (n : Fin 2)
  | complete (n : Fin 2) (src : Nat)
  | twErrRead (n : Fin 2)
  | tunCmdRead (n : Fin 2)
  | tunCmdWrite (n : Fin 2) (last : Bool)
  | tunnelDone (n : Fin 2)
  | twBusIdle (n : Fin 2)
  | twStartInTransfer (n : Fin 2)
  | twNotify (n : Fin 2)
  | twNotifyRepeat (n : Fin 2)
  | twNotifyNack (n : Fin 2)
  | twArbitrationLost (n : Fin 2)
  | twControllerBusError (n : Fin 2)
  | twLineStuck (n : Fin 2) (sda : Bool)
  | twWedged (n : Fin 2)
  -- event controller (chapter 15)
  | eventSourceEdge (slot : Fin 128)
  | eventLevelChange (slot : Fin 128) (holds : Bool)
  | evcRouteWrite (p : Port) (slot : Fin 128) (value : Nat)
  | evcGdisWrite (p : Port) (value : Nat)
  -- CAN ports and the Bearing protocol (chapter 16)
  | canPortStart (n : Fin 4)
  | canEnClear (p : Port) (n : Fin 4)
  | canBusOff (n : Fin 4)
  | canBoffRec (p : Port) (n : Fin 4) (value : Nat)
  | canRecoveryDone (n : Fin 4)
  | read (n : Fin 4) (tag idx sub : Nat)
  | write (n : Fin 4) (tag idx sub : Nat) (bytes : List Byte)
  | blockWriteInit (n : Fin 4) (tag idx sub total : Nat)
  | segment (n : Fin 4) (tag seq flags : Nat) (bytes : List Byte)
  | blockReadInit (n : Fin 4) (tag idx sub : Nat)
  | blockRequest (n : Fin 4) (tag block : Nat)
  | malformed (n : Fin 4) (classical : Bool) (bytes : List Byte)
  | transferTimeout (n : Fin 4)
  | xbearTimeout
  | heartbeat (n : Fin 4)
  | peerHeartbeat (n : Fin 4) (classical : Bool)
  | peerHeartbeatTimeout (n : Fin 4)
  | reportPeriod (r : Fin 64)
  | reportChangeSample (r : Fin 64)
  | rptModeWrite (p : Port) (r : Fin 64) (value : Nat)
  -- update and life-cycle (chapter 17)
  | updateHeaderCheck (p : Port) (bytes : List Byte)
  | bankWipeDone
  | bankBlockWrite
  | updateVerify
  | updActivate (p : Port)
  | updConfirm (p : Port)
  | updAbandon (p : Port)
  | activationPauseEnd
  | activationTimeout (e : Fin 18)
  | trialEnd
  | lcAdvance (p : Port) (value : Nat)
  -- object dictionary (chapter 18)
  | odDirStep (p : Port) (value : Nat)
  | objectWrite (p : Port) (idx sub : Nat) (bytes : List Byte)
  -- rows at the table's end
  | packLost
  | stageFaultRelease (k : Fin 7)
  | tamperRelease
  | canErrorStateChange (n : Fin 4) (tec rec : Nat)
  | periodBoundary (r : Fin 28) (m : List SnsMeas)
  | objectDictionaryAnswering
  | homeChartWritten (ok : Bool)
  | serviceReverseTurnOff
  | serviceDiodeConducts
  deriving DecidableEq, Repr

end Sys2Proof
end

