-- ==== Sys2Proof/Decode.lean ====
section
/-! DEFINITION. Words of the opcode table: no row of it gives bits, so no word spells a command. -/

namespace Sys2Proof

/-- The command a table word spells: none. DESIGN CHOICE, log entry 5. -/
def decodeTableWord (_nbits _w : Nat) : Option Instr := none

end Sys2Proof
end

