-- ==== Sys2Proof/Config.lean ====
section
/-! DEFINITION. What the manual leaves open: constants with no body, so that nothing can evaluate them. -/

namespace Sys2Proof

/-- What a setting written outside its stated range acts as (R13): setting key, written value, free counter.
DESIGN CHOICE, log entry 10. -/
opaque Config.outOfRange : Nat → Nat → Nat → Nat

/-- A value the manual states no rule for; the number names the use, the second argument is the free counter.
DESIGN CHOICE, log entry 11. -/
opaque Config.free : Nat → Nat → Nat

/-- A signed value the manual states no rule for. DESIGN CHOICE, log entry 11. -/
opaque Config.freeInt : Nat → Nat → Int

/-- A flag the manual states no rule for. DESIGN CHOICE, log entry 11. -/
opaque Config.freeBool : Nat → Nat → Bool

/-- The 48 payload bits that carry a command to a rail die (R32): the manual gives neither the command codes nor the layout of
the arguments. DESIGN CHOICE, log entry 12. -/
opaque Config.cmdPayload : RailCmd → Nat

/-- The local object number and subindex under which a rail die holds an object of the dictionary (R32): stated nowhere.
DESIGN CHOICE, log entry 12. -/
opaque Config.localObj : Nat → Nat → Nat × Nat

/-- The natural exponential of R333, a function the manual names and gives no algorithm for. DESIGN CHOICE, log entry 12. -/
opaque Config.expRat : Rat → Rat

/-- The natural logarithm of R416, R417 and R310. DESIGN CHOICE, log entry 12. -/
opaque Config.lnRat : Rat → Rat

/-- The generic NiMH tables of R358 (1,240 bytes, stated nowhere). DESIGN CHOICE, log entry 12. -/
opaque Config.genericTables : Nat → Byte

/-- Dravarant's image public key in the helm die's mask ROM (R529). DESIGN CHOICE, log entry 12. -/
opaque Config.imageKey : Nat × Nat

/-- The 64-bit unit ID (R558). DESIGN CHOICE, log entry 12. -/
opaque Config.unitId : Nat

/-- The helm die's and the rail dies' revisions (R529, R558) and the column repair fuses (R392). DESIGN CHOICE, log entry 12. -/
opaque Config.helmRev : Nat
opaque Config.railRev : Nat
opaque Config.hamperRepair : Nat

end Sys2Proof
end

