-- ==== Sys2Proof/Machine/Digest.lean ====
section
/-! DEFINITION. The two algorithms that R529 names for an update image: SHA-256, and ECDSA on the curve P-256. The manual names them
and does not repeat their standards (FIPS 180-4, FIPS 186-4). PRESUMED, log entry 86. -/

namespace Sys2Proof.Machine

/-! ### SHA-256 -/

/-- 32-bit words: rotation, shift, the six logical functions and addition. -/
def rotr (n x : Nat) : Nat := (x >>> n ||| x <<< (32 - n)) % 2 ^ 32
def shaCh (x y z : Nat) : Nat := (x &&& y) ^^^ ((2 ^ 32 - 1 - x) &&& z)
def shaMaj (x y z : Nat) : Nat := (x &&& y) ^^^ (x &&& z) ^^^ (y &&& z)
def shaBig0 (x : Nat) : Nat := rotr 2 x ^^^ rotr 13 x ^^^ rotr 22 x
def shaBig1 (x : Nat) : Nat := rotr 6 x ^^^ rotr 11 x ^^^ rotr 25 x
def shaSmall0 (x : Nat) : Nat := rotr 7 x ^^^ rotr 18 x ^^^ x >>> 3
def shaSmall1 (x : Nat) : Nat := rotr 17 x ^^^ rotr 19 x ^^^ x >>> 10

/-- The round constants. -/
def shaK : List Nat :=
  [0x428a2f98, 0x71374491, 0xb5c0fbcf, 0xe9b5dba5, 0x3956c25b, 0x59f111f1, 0x923f82a4, 0xab1c5ed5] ++
  [0xd807aa98, 0x12835b01, 0x243185be, 0x550c7dc3, 0x72be5d74, 0x80deb1fe, 0x9bdc06a7, 0xc19bf174] ++
  [0xe49b69c1, 0xefbe4786, 0x0fc19dc6, 0x240ca1cc, 0x2de92c6f, 0x4a7484aa, 0x5cb0a9dc, 0x76f988da] ++
  [0x983e5152, 0xa831c66d, 0xb00327c8, 0xbf597fc7, 0xc6e00bf3, 0xd5a79147, 0x06ca6351, 0x14292967] ++
  [0x27b70a85, 0x2e1b2138, 0x4d2c6dfc, 0x53380d13, 0x650a7354, 0x766a0abb, 0x81c2c92e, 0x92722c85] ++
  [0xa2bfe8a1, 0xa81a664b, 0xc24b8b70, 0xc76c51a3, 0xd192e819, 0xd6990624, 0xf40e3585, 0x106aa070] ++
  [0x19a4c116, 0x1e376c08, 0x2748774c, 0x34b0bcb5, 0x391c0cb3, 0x4ed8aa4a, 0x5b9cca4f, 0x682e6ff3] ++
  [0x748f82ee, 0x78a5636f, 0x84c87814, 0x8cc70208, 0x90befffa, 0xa4506ceb, 0xbef9a3f7, 0xc67178f2]

/-- The initial hash value. -/
def shaInit : List Nat := [0x6a09e667, 0xbb67ae85, 0x3c6ef372, 0xa54ff53a, 0x510e527f, 0x9b05688c, 0x1f83d9ab, 0x5be0cd19]

/-- The number that big-endian bytes spell. -/
def beNat (l : List Byte) : Nat := leNat l.reverse

/-- The padded message: a one bit, zeros, and the length in bits. -/
def shaPad (l : List Byte) : List Byte :=
  l ++ [0x80] ++ List.replicate ((119 - l.length % 64) % 64) 0 ++ beBytes 8 (8 * l.length)

/-- The schedule, newest word first: `f` words more. -/
def shaSchedule : Nat → List Nat → List Nat
  | 0, w => w
  | f + 1, w =>
    shaSchedule f ((shaSmall1 (w.getD 1 0) + w.getD 6 0 + shaSmall0 (w.getD 14 0) + w.getD 15 0) % 2 ^ 32 :: w)

/-- One round on the eight working words. -/
def shaRound (v : List Nat) (kw : Nat × Nat) : List Nat :=
  match v with
  | [a, b, c, d, e, f, g, h] =>
    let t1 := h + shaBig1 e + shaCh e f g + kw.1 + kw.2
    [(t1 + shaBig0 a + shaMaj a b c) % 2 ^ 32, a, b, c, (d + t1) % 2 ^ 32, e, f, g]
  | l => l

/-- The words of a 64-byte block. -/
def shaWords (l : List Byte) : List Nat := (List.range 16).map fun i => beNat ((l.drop (4 * i)).take 4)

/-- One block. -/
def shaBlock (h : List Nat) (l : List Byte) : List Nat :=
  let w := (shaSchedule 48 (shaWords l).reverse).reverse
  (h.zip ((shaK.zip w).foldl shaRound h)).map fun x => (x.1 + x.2) % 2 ^ 32

/-- SHA-256. PRESUMED, log entry 86. -/
def sha256 (l : List Byte) : List Byte :=
  let m := shaPad l
  ((List.range (m.length / 64)).foldl (fun h i => shaBlock h ((m.drop (64 * i)).take 64)) shaInit).flatMap (beBytes 4)

/-! ### ECDSA on P-256 -/

/-- The field prime, the order of the base point and the base point. -/
def ecP : Nat := 2 ^ 256 - 2 ^ 224 + 2 ^ 192 + 2 ^ 96 - 1
def ecN : Nat := 0xFFFFFFFF00000000FFFFFFFFFFFFFFFFBCE6FAADA7179E84F3B9CAC2FC632551
def ecG : Nat × Nat :=
  (0x6B17D1F2E12C4247F8BCE6E563A440F277037D812DEB33A0F4A13945D898C296,
    0x4FE342E2FE1A7F9B8EE7EB4A7C0F9E162BCE33576B315ECECBB6406837BF51F5)

/-- `a` to the power `e` modulo `m`, over the low `f` bits of `e`. -/
def powMod (m : Nat) : Nat → Nat → Nat → Nat
  | 0, _, _ => 1
  | f + 1, a, e => (if e % 2 = 1 then a else 1) * powMod m f (a * a % m) (e / 2) % m

/-- The inverse modulo a prime. -/
def invMod (m a : Nat) : Nat := powMod m 256 (a % m) (m - 2)

/-- Addition of points; none is the point at infinity. PRESUMED, log entry 86. -/
def ecAdd : Option (Nat × Nat) → Option (Nat × Nat) → Option (Nat × Nat)
  | none, q => q
  | p, none => p
  | some (x1, y1), some (x2, y2) =>
    if x1 = x2 ∧ (y1 + y2) % ecP = 0 then none else
      let k := if x1 = x2 then (3 * x1 * x1 + ecP - 3) * invMod ecP (2 * y1) % ecP
        else (y2 + ecP - y1) * invMod ecP (x2 + ecP - x1) % ecP
      let x := (k * k + 2 * ecP - x1 - x2) % ecP
      some (x, (k * (x1 + ecP - x) + ecP - y1) % ecP)

/-- `e` times a point, over the low `f` bits of `e`. -/
def ecMul : Nat → Nat → Option (Nat × Nat) → Option (Nat × Nat)
  | 0, _, _ => none
  | f + 1, e, p => ecAdd (if e % 2 = 1 then p else none) (ecMul f (e / 2) (ecAdd p p))

/-- Whether `r`, `s` sign a digest under a public key. PRESUMED, log entry 86. -/
def ecdsaOk (key : Nat × Nat) (digest : List Byte) (r s : Nat) : Bool :=
  let w := invMod ecN s
  let p := ecAdd (ecMul 256 (beNat digest * w % ecN) (some ecG)) (ecMul 256 (r * w % ecN) (some key))
  decide (0 < r ∧ r < ecN ∧ 0 < s ∧ s < ecN) && match p with
    | none => false
    | some (x, _) => decide (x % ecN = r)

end Sys2Proof.Machine
end

