-- ==== Sys2Proof/Machine/State.lean ====
section
/-! DEFINITION. The state of a Quellamin part: every register, counter, mode, latch, queue and store the manual names. -/

namespace Sys2Proof.Machine

/-! ### Clocks, Hamper, links (chapter 01) -/

/-- The Hamper partitions of R26. -/
inductive Partition
  | secure | logRing | portQueue (port : Fin 6) | mirror (die : Fin 7) | staging | telemetry | engineWork
  deriving DecidableEq, Repr

/-- The clock status of R46 (`CLK_STATUS`, `CLK_FAIL_CNT`). -/
structure ClockState where
  sysLock  : Bool
  canLock  : Bool
  xtalOk   : Bool
  huRun    : Bool
  aonOk    : Bool
  rsysLock : Vector Bool 7
  failCnt  : Nat
  deriving DecidableEq, Repr

/-- The Hamper of R25 to R31: its bytes, its arbitration wheel, its scrubber and its counters. -/
structure HamperState where
  /-- The 512 KiB of R26 in canonical form (`Memory.wf`); an unlisted byte reads 0 (R393). -/
  mem         : List Host.Cell
  wheelSlot   : Fin 20
  scrubPtr    : Nat
  scrubPass   : Nat
  secCnt      : Nat
  dedCnt      : Nat
  /-- Words whose single-bit error was corrected in the data returned and waits for the next scrub slot (R30). -/
  correctPend : List Nat
  /-- The wheel position and outcome of the last grant: who was served, blocked or not, the data returned. -/
  lastGrant   : Option HamperReq
  lastData    : Nat
  lastBlocked : Bool
  lastEccErr  : Bool
  deriving DecidableEq, Repr

/-- The link states of `LINK_STATUS_k` (R46). -/
inductive LinkPhase | down | training | up
  deriving DecidableEq, Repr

/-- One end of a package link (R34, R35). -/
structure LinkEnd where
  /-- SEQ the next sent frame carries. -/
  nextSeq  : Nat
  /-- SEQ expected of the next received frame. -/
  expected : Nat
  /-- Frames sent and not yet acknowledged, oldest first, at most seven. -/
  unacked  : List LinkFrame
  /-- Frames waiting to be sent. -/
  waiting  : List LinkFrame
  /-- The last frame sent: its eight body bytes as one word, and its CRC-16 (R32). -/
  sent     : Option (Nat × Nat)
  deriving DecidableEq, Repr

/-- One package link (R32 to R37). -/
structure LinkState where
  phase     : LinkPhase
  retrained : Bool
  retryCnt  : Nat
  helm      : LinkEnd
  rail      : LinkEnd
  /-- Local objects of the rail die written by OBJ_WRITE: (number × 256 + subindex, value words, lowest first). -/
  objs      : List (Nat × List Nat)
  /-- TAG and object of the last OBJ_WRITE frame: a next one with the same is the value's next word (R33). -/
  lastWr    : Option (Nat × Nat)
  /-- The last object data or status received by the helm die under each TAG: words, lowest first (R33). -/
  data      : List (Nat × List Nat)
  /-- Device time at which the present training or retraining began (R36). -/
  downAt    : Nat
  /-- Reads of the die's objects that wait for it: port, index, subindex (R562). -/
  reads     : List (Port × Nat × Nat)
  deriving DecidableEq, Repr

/-! ### Straps and VDR (chapter 02) -/

/-- The sampled strap values of R60 to R65. -/
structure StrapState where
  twa      : Nat
  oldChart : Bool
  testEn   : Bool
  deriving DecidableEq, Repr

/-! ### Power states, boot and full reset (chapter 04) -/

/-- The power states of R88. -/
inductive PwrState | run | doze | park | off
  deriving DecidableEq, Repr

/-- Where the device stands between its reference points (R95, R106, R386). -/
inductive BootPhase
  | porHeld      -- `VAUX` power-on reset asserted
  | strapWait    -- boot steps 1 and 2: straps being sampled
  | selfTest     -- boot step 3
  | halted       -- the Hamper self-test halted the boot (R394)
  | starting     -- boot step 6 and 7: object dictionary not ready
  | ready        -- step 7 passed
  | inReset      -- a full reset between its start and its end
  | holdUp       -- the hold-up save runs (R386)
  deriving DecidableEq, Repr

/-- Boot, reset record and configuration vote results (R95 to R120). -/
structure BootState where
  phase        : BootPhase
  attempts     : Nat
  /-- Dictionary answers (step 7 passed, and not in the BUSY interval after a wake, R477). -/
  odAnswering  : Bool
  /-- Step 8 begun. -/
  step8        : Bool
  /-- A THERMAL reset holds step 8 off (R112). -/
  thermalHold  : Bool
  bootTime     : Nat
  rstCause     : Nat
  rstSub       : Nat
  rstMask      : Nat
  rstPrev      : Nat
  bootCount    : Nat
  /-- Cause, subcause and mask of the full reset in progress. -/
  curCause     : Nat
  curSub       : Nat
  curMask      : Nat
  /-- The flush of R106 step 2 has ended. -/
  flushDone    : Bool
  /-- `RESET_N` is held low. -/
  resetNLow    : Bool
  /-- A `RESET_N` recognised during a hold-up save waits (R84). -/
  resetNInSave : Bool
  /-- The reset in progress is station-keeping (R113). -/
  skActive     : Bool
  /-- This boot follows a power-on reset, with no full reset after its step 6 (R110, R327). -/
  cold         : Bool
  cfgRepaired  : Bool
  cfgAbandoned : Bool
  cfgSplit     : Bool
  hcUsed       : Bool
  hcInvalid    : Bool
  crcValid     : Nat
  copyUsed     : Nat
  cfgGen       : Nat
  /-- Copies marked by the vote to be rewritten after step 7 (R102). -/
  repairs      : List (Fin 3)
  /-- The bank found in TRIAL at step 4, to be logged after step 7 (R532). -/
  fellBack     : Option (Fin 2)
  deriving DecidableEq, Repr

/-- A rail that left station-keeping before step 8 (R115). -/
structure SkLeft where
  rail   : Nat
  /-- The `RAIL_FAULT` bit of its trip; 15 stands for a fall of `EN_gg`. -/
  why    : Nat
  /-- Its trip had its Logbook entry when it happened. -/
  logged : Bool
  deriving DecidableEq, Repr

/-- Station-keeping (R113 to R119). -/
structure SkState where
  kept     : Vector Bool 28
  adopted  : Vector Bool 28
  down     : Vector Bool 28
  fused    : Vector Bool 8
  /-- The shadow copies of R113: for each kept rail the settings in force at the reset that began to keep it. -/
  shadow   : Vector (List (Nat × Nat)) 28
  /-- The rails that left station-keeping and that step 8 has not dealt with. -/
  left     : List SkLeft
  /-- Kept rails whose deadline has passed and whose turn in the shutdown order of their group has not come (R118). -/
  due      : Vector Bool 28
  /-- The rail die timer t_SKB expired (R118). -/
  hwTimeout : Bool
  deriving DecidableEq, Repr

/-- Power state control (R88 to R94). -/
structure PwrCtl where
  state     : PwrState
  req       : PwrState
  /-- PARK entry is in progress: accepted and SYS not yet stopped. -/
  parkEntry : Bool
  wakeCause : Nat
  /-- Wake sources that have fired in PARK or during PARK entry, layout of `WAKE_CAUSE`. -/
  fired     : Nat
  /-- The WAKE_TIMER value latched at PARK entry still counts. -/
  wakeTimerOn : Bool
  /-- Old Chart asynchronous wake latches (R568), layout of `WAKE_MASK` [7:0]. -/
  ocLatch   : Nat
  /-- Old Chart mode in force (R6). -/
  oldChart  : Bool
  deriving DecidableEq, Repr

/-! ### Zone inputs and fused outputs (chapter 05) -/

/-- The zone input channel states, in the order of their codes. -/
inductive ZinPhase
  | off | waitIn | qualify | retryWait | inrush | on | block | limit | locked | disabling
  deriving DecidableEq, Repr

/-- One zone input channel (R121 to R149). -/
structure ZinChan where
  phase       : ZinPhase
  /-- `ZIN_n` stands inside its window (R123). -/
  inWindow    : Bool
  /-- The insertion delay t_ins runs (R125). -/
  insRunning  : Bool
  /-- t_ins has been satisfied since the input last entered its window. -/
  qualified   : Bool
  retryTimer  : Bool
  limTimer    : Bool
  normTimer   : Bool
  retryCnt    : Nat
  fault       : Nat
  /-- The channel runs in cold start (R126). -/
  coldStart   : Bool
  /-- It has completed cold-start qualification and has not turned off since (R127). -/
  coldOn      : Bool
  /-- It has qualified once in this cold start and does not retry (R126). -/
  coldDone    : Bool
  /-- Its ideal diode has turned the gate off for a reverse voltage (R126, R132). -/
  coldBlock   : Bool
  /-- An enable written while DISABLING is held (R44). -/
  enHeld      : Bool
  /-- Trips in PARK that wait for their Logbook entries at the next wake: the detail of each (R148). -/
  tripPend    : List Nat
  /-- Timers stopped: at reset start (R111) or in PARK (R148). -/
  timersStopped : Bool
  v           : Nat
  deriving DecidableEq, Repr

/-- The fused output states, in the order of their codes. -/
inductive FoPhase
  | off | absent | waitBus | qualify | retryWait | turnOn | on | limit | locked | disabling
  deriving DecidableEq, Repr

/-- One fused output channel (R122 to R149). -/
structure FoChan where
  phase       : FoPhase
  /-- `PRES_n` reads present through t_PRF. -/
  present     : Bool
  /-- The sequencer commands it on. -/
  commanded   : Bool
  insRunning  : Bool
  qualified   : Bool
  retryTimer  : Bool
  limTimer    : Bool
  normTimer   : Bool
  retryCnt    : Nat
  fault       : Nat
  /-- A command on given while DISABLING is held (R44). -/
  onHeld      : Bool
  tripPend    : List Nat
  v           : Nat
  deriving DecidableEq, Repr

/-- The zone bus, its window and the early power-fail warning (R123, R143 to R145). -/
structure ZbusState where
  inWindow   : Bool
  /-- `ZBUS_MODE` in force since the last boot (R124): 0 is 48 V, 1 is 12 V. -/
  mode       : Nat
  /-- `ZBUS_V`: the last slope sample in mV. -/
  v          : Nat
  /-- The last eight sampler codes, newest first (R144). -/
  hist       : List Nat
  /-- The slope S in units of 0.5 mV/ms (R144). -/
  slope      : Int
  slopeAlarm : Bool
  pfw        : Bool
  pfwThr     : Bool
  pfwSlope   : Bool
  pfwPack    : Bool
  /-- Every sample since the last fall of `ZBUS` or slope alarm allows the release of `PFW_N` (R145). -/
  pfwClear   : Bool
  deriving DecidableEq, Repr

/-! ### Rails, phases and ganged groups (chapters 06, 07 and 08) -/

/-- The four loop coefficients of R160. -/
structure Coeffs where
  kp   : Nat
  ki   : Nat
  kd   : Nat
  pole : Nat
  deriving DecidableEq, Repr

/-- The control loop of one rail (R157 to R161, R171 to R173, R180). -/
structure LoopState where
  /-- The coefficients in force. -/
  co       : Coeffs
  /-- A written coefficient waits for its commit (`LOOP_STATUS` [4]). -/
  pend     : Bool
  /-- The demand U in t_RESE. -/
  u        : Int
  /-- The integral I with 16 fractional bits. -/
  i        : Int
  /-- e[n−1]. -/
  e        : Int
  /-- The last sense code. -/
  code     : Nat
  /-- V_sense of the last sample, units of 0.15625 mV. -/
  vsense   : Nat
  /-- Filtered I_rail of R161, mA with 16 fractional bits. -/
  iFilt    : Int
  /-- The noise shaper remainder E of R180. -/
  laneE    : Int
  /-- The last lane word W of R180. -/
  laneW    : Nat
  /-- The lead position L. -/
  lead     : Nat
  /-- The effective stride S. -/
  stride   : Nat
  /-- Rotation enable in force. -/
  rotOn    : Bool
  /-- Stride setting in force (`ROT_STRIDE` as of the last epoch). -/
  strideSet : Nat
  /-- Periods since the last epoch. -/
  epochCnt : Nat
  /-- `RAIL_DMAX` in force since the last period boundary (R190). -/
  dmax     : Nat
  balDisabling : Bool
  deriving DecidableEq, Repr

/-- Voltage commands and slew (R195 to R208), shedding, hints and bus trim (R210 to R237). -/
structure DynState where
  /-- V_SP, units of 0.15625 mV, with 16 fractional bits. -/
  vsp      : Nat
  /-- Final target at the pins, units of 0.15625 mV with 16 fractional bits. -/
  target   : Nat
  /-- Increment per SNS cycle, same units; fixed at the command (R205). -/
  inc      : Nat
  moving   : Bool
  transition : Bool
  vtgt     : Nat
  src      : Nat
  cmdCnt   : Nat
  turnCnt  : Nat
  held     : Bool
  /-- The soft-start target has been reached since enable (R259). -/
  softDone : Bool
  /-- A shutdown ramp of the off sequence runs (R270). -/
  rampDown : Bool
  stepArmed  : Bool
  stepAlarm  : Bool
  stepBlocked : Bool
  stepCnt    : Nat
  tmaxCnt    : Nat
  /-- `STEP_THR` and `STEP_TMAX` in force since the last boundary (R238). -/
  stepThr    : Nat
  stepTmax   : Nat
  /-- `STEP_EN` was cleared and its boundary is not reached (R237). -/
  stepDisabling : Bool
  /-- The period boundary of that disable has passed and the alarm is still asserted. -/
  stepBndry  : Bool
  dwellRun   : Bool
  /-- The dwell ended and the shed waits for its boundary (R216). -/
  shedDue    : Bool
  readdPend  : Bool
  holdoff    : Bool
  shedCnt    : Nat
  keepCnt    : Nat
  readdCnt   : Nat
  phmDisabling : Bool
  deriving DecidableEq, Repr

/-- One Forecast hint accepted and not ended (R226 to R230): expected current in 0.1 A, delay, announced time passed. -/
structure Hint where
  ifc   : Nat
  tfc   : Nat
  due   : Bool
  deriving DecidableEq, Repr

/-- Forecast hints and bus trim of one rail (R226 to R237). -/
structure FcTrim where
  hints     : List Hint
  fcCnt     : Nat
  lateCnt   : Nat
  trimActive : Bool
  trimFrozen : Bool
  /-- Bus trim stopped for the rest of this enable by a shutdown ramp (R203). -/
  trimStopped : Bool
  /-- A freeze condition has been seen since the last trim period. -/
  freezeSeen : Bool
  trimDisabling : Bool
  pdep      : Nat
  vtgt      : Nat
  deriving DecidableEq, Repr

/-- Protection and power-good of one rail (R241 to R268). -/
structure ProtState where
  ovLatch   : Bool
  faultLatch : Bool
  fault     : Nat
  /-- `OV_ABS` taken from the Home Chart at boot, mV (R242). -/
  ovAbs     : Nat
  w         : Bool
  /-- V_sense below V_ref − `PG_WIN_LO` by two samples (R248). -/
  uvCond    : Bool
  ocCond    : Bool
  /-- An IGNORE reaction waits for the condition to go before the latch is cleared (R256). -/
  ignored   : Bool
  /-- A latch set during station-keeping: cleared by `RAIL_FCLR` alone (R265). -/
  skLatched : Bool
  /-- A timer fault was declared: `PG_gg` does not rise during this enable (R262). -/
  noPg      : Bool
  /-- Enabled while `VDR` of one of its dies was low: the fault is to be declared (R57). -/
  vdrDue    : Bool
  uvTimer   : Bool
  ocTimer   : Bool
  /-- Under-voltage armed (R241). -/
  uvArmed   : Bool
  qualified : Bool
  hold      : Bool
  pg        : Bool
  /-- `PG_gg` has risen since enable. -/
  pgRose    : Bool
  dropCnt   : Nat
  valleyCnt : Nat
  /-- A valley withholding has been logged since enable (R251). -/
  valleyLogged : Bool
  ovTrips   : Nat
  /-- The throttle step applied to the valley limit (R420). -/
  thrN      : Nat
  deriving DecidableEq, Repr

/-- One rail of a rail die. -/
structure RailState where
  /-- Enabled: switched on and its off sequence not ended. -/
  enabled   : Bool
  /-- A disable was accepted and its off sequence runs (R44). -/
  disabling : Bool
  /-- An enable given during the off sequence is held (R44). -/
  enHeld    : Bool
  /-- A pulse has been sent since enable (tracking over-voltage armed, R241). -/
  pulsed    : Bool
  enPin     : Bool
  stationKept : Bool
  /-- Loop absorbed by a ganged group (R176), or held off by a refused group (R177). -/
  absorbed  : Bool
  heldOff   : Bool
  loop      : LoopState
  dyn       : DynState
  fc        : FcTrim
  prot      : ProtState
  vout      : Nat
  deriving DecidableEq, Repr

/-- The stored part of `PH_STATE` (R193); UNUSED, OFF, FORCED_ON, LOW_HELD, SAFE and HOLD are derived. -/
inductive PhaseRun
  | active | leaving | shed
  deriving DecidableEq, Repr

/-- One phase of a rail die. -/
structure PhaseState where
  run      : PhaseRun
  /-- Periods since it became LEAVING (R217). -/
  leaveCnt : Nat
  trim     : Int
  /-- I_p averaged over the last period, mA (R168). -/
  iAvg     : Int
  /-- Sum and number of the period averages of the running balance period (R169). -/
  balSum   : Int
  balNum   : Nat
  /-- `PH_IMON_GAIN`, `PH_IMON_OFS` in force since the last balance period (R190). -/
  gain     : Nat
  ofs      : Nat
  pulses   : Nat
  /-- It has sent a pulse since enable (R151). -/
  pulsed   : Bool
  /-- Dithering in force, changed at the phase's next pulse with j = 0 (R190). -/
  dither   : Bool
  /-- On-time D latched at the last rising edge, t_RESE ÷ 4 (R165). -/
  onTime   : Int
  leadCnt  : Nat
  /-- Its pulse is withheld in the running period (R251). -/
  withheld : Bool
  deriving DecidableEq, Repr

/-- `GANG_STATUS` [1:0]. -/
inductive GangPhase | unused | formed | refused | failed
  deriving DecidableEq, Repr

/-- One set of Meridian group wires and the group that uses it (R175 to R188). -/
structure GangState where
  phase    : GangPhase
  code     : Nat
  /-- First die index (k − 1), number of dies and `GANG_DLSB` as formed at the last boot. -/
  first    : Nat
  dies     : Nat
  dlsb     : Nat
  parCnt   : Nat
  rotErr   : Nat
  holdCnt  : Nat
  /-- The copies of `OC_VALLEY` and `OC_TOT` in force on the group (R264, R420), mA. -/
  valley   : Nat
  tot      : Nat
  /-- The change under handshake, and the follower dies (k − 1) still to acknowledge. -/
  change   : Option GangChange
  waiting  : List (Fin 7)
  /-- All acknowledged: the next boundary is an epoch. -/
  epochDue : Bool
  stepLine : Bool
  deriving DecidableEq, Repr

/-- What one rail die keeps besides its rails, phases and link. -/
structure DieState where
  vdrOk     : Bool
  stf       : Bool
  rsysBad   : Bool
  /-- Follower hold (R186): running, and ended. -/
  holding   : Bool
  held      : Bool
  /-- Which failure of R186 started the hold: 1 lane, 2 strobe, 3 link. -/
  holdWhy   : Nat
  /-- Trims frozen for want of an I_avg (R185). -/
  balFrozen : Bool
  /-- The die's own lead position as a follower (R182). -/
  ownLead   : Nat
  /-- A pending change held by this die as a follower (R183). -/
  pendChange : Option GangChange
  /-- The last good word of the demand lane (R180, R181, R186). -/
  lane      : Nat
  /-- The next lane word has bad parity (R181). -/
  laneBad   : Bool
  /-- The last I_avg that reached the die, mA (R185). -/
  balAvg    : Rat
  /-- The filtered sum of its phases of the ganged rail × N ÷ N_die exceeds `OC_TOT` (R253). -/
  ocOver    : Bool
  /-- The code the die runs, and its standby code store (R535, R538). -/
  code      : List Byte
  standby   : List Byte
  deriving DecidableEq, Repr

/-! ### Sequencer, regulators, reset outputs (chapter 09) -/

/-- The item states of `ITEM_STATUS` [3:0], in the order of their codes. -/
inductive ItemPhase
  | unsequenced | off | waiting | starting | qualifying | up | retryWait | stopping | faulted | heldOff | enLow
  deriving DecidableEq, Repr

/-- One sequence item (R269 to R296). -/
structure ItemState where
  phase     : ItemPhase
  code      : Nat
  lastFault : Nat
  chatter   : Nat
  retryCnt  : Nat
  /-- Counts as qualified in its step (by qualification, re-adoption, IGNORE or HELD_OFF). -/
  qual      : Bool
  /-- Switched on by the sequencer. -/
  cmdOn     : Bool
  /-- A retry of the item runs: waiting, or restarted and not yet qualified. -/
  retrying  : Bool
  normTimer : Bool
  /-- Re-adopted under R117 or R119, or kept on in PARK: qualifies without t_qual (R279). -/
  readopted : Bool
  /-- Its move at the running step counts as done (R278). -/
  moveOk    : Bool
  /-- `ITEM_RETRY_DLY` has ended and the restart waits for `VDR` (R256). -/
  retryDue  : Bool
  /-- Its step timed out under IGNORE: it counts as qualified in that step whatever its function does (R278). -/
  passed    : Bool
  deriving DecidableEq, Repr

/-- The group states of `GRP_STATUS` [3:0], in the order of their codes. -/
inductive GroupPhase
  | off | waitInput | poweringUp | up | shuttingDown | minOff | faulted | parked
  deriving DecidableEq, Repr

/-- One sequencing group (R271 to R296). -/
structure GroupState where
  phase     : GroupPhase
  request   : Bool
  input     : Bool
  disabling : Bool
  /-- A SYSTEM_RESET reaction held until `GRP_TOFF` ends, with its item (R284). -/
  heldReset : Option Nat
  /-- Step in progress. -/
  step      : Option (Fin 64)
  /-- `STEP_DELAY` of the step in progress runs; the step has not started. -/
  delaying  : Bool
  /-- `STEP_DELAY` has ended and the step waits for RUN. -/
  delayDone : Bool
  /-- Steps that have started since power-up began. -/
  started   : List (Fin 64)
  stepTimer : Bool
  toffTimer : Bool
  /-- The shutdown was caused by a GROUP_OFF reaction. -/
  byFault   : Bool
  faultItem : Nat
  puTime    : Nat
  /-- DEV_TIME at which the running power-up began. -/
  puStart   : Nat
  /-- Retry counts are to be cleared when a held UP takes the group out of MIN_OFF (R281). -/
  clearHeld : Bool
  deriving DecidableEq, Repr

/-- One integrated buck (0 to 5) or LDO (6 to 9) (R292). -/
structure RegState where
  on      : Bool
  fault   : Nat
  pgWin   : Bool
  /-- Stopped by its own protection. -/
  stopped : Bool
  v       : Nat
  deriving DecidableEq, Repr

/-- One reset output (R293, R294). -/
structure RstoState where
  pin     : Bool
  forced  : Bool
  stretch : Bool
  deriving DecidableEq, Repr

/-! ### Lantern bus, charger and power path (chapter 10) -/

/-- The power path states of R325, in the order of their codes. -/
inductive PpPhase | source | handingOver | onPack | handingBack | outing
  deriving DecidableEq, Repr

/-- The pack FET: off, linear, fully on. -/
inductive FetMode | off | linear | full
  deriving DecidableEq, Repr

/-- The source types of R306, in the order of their codes. -/
inductive SrcType | unknown | zone48 | zone12 | service
  deriving DecidableEq, Repr

/-- One announcement of R305: the last accepted value, and whether it is still valid. -/
structure Announce where
  value : Nat
  valid : Bool
  deriving DecidableEq, Repr

/-- Source selection and power path (R302 to R309, R319 to R327). -/
structure PathState where
  phase     : PpPhase
  fet       : FetMode
  /-- Make has completed and the break runs (R320). -/
  made      : Bool
  /-- The charger regulates `LBUS`. -/
  regulating : Bool
  /-- Drawing from the pack (R319). -/
  drawing   : Bool
  svcQual   : Bool
  /-- The service ideal diode is in reverse turn-off (R304). -/
  svcRev    : Bool
  /-- `SVCG` was pulled down by the break of a hand-over and the path has not qualified since (R320). -/
  svcPulled : Bool
  typ       : SrcType
  /-- The type whose limit is in force (R307). -/
  limTyp    : SrcType
  mismatch  : Bool
  /-- An announcement disagrees with another or with the band (R305). -/
  annMis    : Bool
  annc      : Vector Announce 4
  /-- `LBUS` has risen above `LBUS_GOOD_R` and not fallen below `LBUS_GOOD_F` since (R303). -/
  lbusUp    : Bool
  /-- The Lantern bus is good (R303). -/
  lbusGood  : Bool
  /-- End of discharge took the bus down and SOURCE has not been reached since (R303). -/
  eodHeld   : Bool
  limIn     : Bool
  limOut    : Bool
  limFet    : Bool
  /-- `LBUS` is clamped after a pack removal, and at most at what (R318), mV. -/
  clamp     : Bool
  clampMax  : Nat
  overload  : Bool
  hoCnt     : Nat
  hbCnt     : Nat
  hoLastT   : Nat
  lbusV     : Nat
  chgIin    : Nat
  lbusIout  : Nat
  /-- `PP_I`, mA, positive when charging. -/
  packI     : Int
  packV     : Nat
  packT     : Int
  present   : Bool
  deriving DecidableEq, Repr

/-- The charge states of R310, in the order of their codes. -/
inductive ChgPhase | off | wait | precharge | fast | trickle | fault | disabling
  deriving DecidableEq, Repr

/-- The charger (R310 to R318). -/
structure ChargerState where
  phase     : ChgPhase
  /-- The terminated flag of R311. -/
  terminated : Bool
  term      : Nat
  fault     : Nat
  /-- A read has cleared `CHG_FAULT` and the next sample may leave FAULT. -/
  faultRead : Bool
  /-- An enable written while DISABLING is held (R44). -/
  enHeld    : Bool
  hbDone    : Bool
  /-- Charging paused because the temperature left its range (R310). -/
  tempPause : Bool
  /-- A removal under charge was detected and the pack has not been present since (R318). -/
  removed   : Bool
  /-- The charger switch was in over-current at the last look (R316). -/
  swOc      : Bool
  /-- Charge current in force, mA. -/
  current   : Rat
  /-- FAST and PRECHARGE times in units of 10 µs; the retained counters hold their minutes (R311). -/
  fastTime  : Nat
  preTime   : Nat
  /-- Termination samples since FAST began. -/
  fastSamples : Nat
  peak      : Option Nat
  /-- The peak restarts from the next valid sample (R312). -/
  peakRestart : Bool
  /-- Charge current in force at the last sample. -/
  lastCurrent : Rat
  dvCnt     : Nat
  dtCnt     : Nat
  /-- T_(k−1) and T_(k−2) of the valid samples, 0.1 °C. -/
  temps     : List Int
  deriving DecidableEq, Repr

/-! ### Pack gauge and Almanac (chapter 11) -/

/-- The learning states of R348, in the order of their codes. -/
inductive LearnPhase | idle | full | discharge
  deriving DecidableEq, Repr

/-- The Almanac fields of R356. -/
structure Almanac where
  cells      : Nat
  tablesSet  : Bool
  capLearned : Bool
  cap        : Nat
  learnCnt   : Nat
  cycles     : Nat
  /-- The discharge accumulator in mAh. -/
  disAcc     : Rat
  /-- Learn age in minutes. -/
  age        : Nat
  result     : Nat
  /-- `GG_ALM_TABLES`: 1,240 bytes, meaningful while `tablesSet`. -/
  tables     : List Byte
  deriving DecidableEq, Repr

/-- The gauge (R332 to R362). Model values are exact rationals: cell voltages in mV, charge in mAh. -/
structure GaugeState where
  running   : Bool
  /-- The next estimate is the first after a start (R347). -/
  first     : Bool
  v1        : Rat
  v2        : Rat
  socV      : Rat
  sRaw      : Rat
  qInt      : Rat
  u         : Rat
  rser      : Rat
  /-- Estimates at rest without a break, one second each (R346). -/
  restSec   : Nat
  restQual  : Bool
  eod       : Bool
  eodFloor  : Bool
  eodCntV   : Nat
  eodCntF   : Nat
  /-- Estimates charging above `GG_REST_I` without a break (R342). -/
  chgRun    : Nat
  disagree  : Bool
  dir       : Bool
  /-- Discharge currents i in mA of the last 60 estimates, newest first. -/
  hist      : List Int
  learn     : LearnPhase
  /-- Estimates with i above `GG_REST_I` without a break in FULL (R348). -/
  aboveRun  : Nat
  /-- Estimates with i at or below `GG_REST_I` without a break in DISCHARGE (row 6 of R349). -/
  lowRun    : Nat
  qDis      : Rat
  cMeas     : Rat
  soc       : Nat
  tte       : Nat
  /-- SOC_I, `GG_RC`, `GG_RC_INT` and `GG_FCC` of the last estimate (R332, R339). -/
  socIEst   : Rat
  rcEst     : Rat
  rcIntEst  : Rat
  fccEst    : Rat
  /-- The choice of roundings of the last estimate: the model's own. DESIGN CHOICE, log entry 14. -/
  rnd       : Nat
  /-- The working copy of the Almanac in the Hamper. -/
  alm       : Almanac
  almInvalid : Bool
  /-- Seconds of the running learn-age minute. -/
  ageSec    : Nat
  outRunning : Bool
  outReason  : Nat
  outCnt     : Nat
  /-- DEV_TIME at PARK entry, and whether the power path has stayed in SOURCE since (R346). -/
  parkStart  : Nat
  parkSource : Bool
  deriving DecidableEq, Repr

/-! ### MRAM and hold-up (chapter 12) -/

/-- A configuration copy (R369, R372): valid, its generation and its body. DESIGN CHOICE, log entry 79. -/
structure CfgCopy where
  valid : Bool
  gen   : Nat
  body  : List Byte
  deriving DecidableEq, Repr

/-- The Home Chart and its lock word (R374 to R376). DESIGN CHOICE, log entry 79. -/
structure HomeChart where
  valid  : Bool
  body   : List Byte
  lockLo : Nat
  lockHi : Nat
  deriving DecidableEq, Repr

/-- A counter record of R378; a torn one fails its CRC and is ignored. -/
structure CtrRec where
  torn  : Bool
  id    : Nat
  value : Nat
  rseq  : Nat
  deriving DecidableEq, Repr

/-- A gauge slot (R377). DESIGN CHOICE, log entry 79. -/
structure GaugeSlot where
  valid : Bool
  seq   : Nat
  alm   : Almanac
  /-- Base values of counters 0x01 to 0x0C. -/
  base  : Vector Nat 12
  recs  : List CtrRec
  /-- A write-back to the slot began and has not ended; it carries an accepted learning (R360). -/
  wip      : Bool
  wipLearn : Bool
  deriving DecidableEq, Repr

/-- A journal record or an entry of the Hamper's Logbook ring (R379, R450). DESIGN CHOICE, log entry 79. -/
structure LogRec where
  seq    : Nat
  time   : Nat
  boot   : Nat
  code   : Nat
  cls    : Nat
  fromLf : Bool
  die    : Nat
  src    : Nat
  detail : Nat
  rep    : Nat
  deriving DecidableEq, Repr

/-- A Last Fix slot (R388, R389). DESIGN CHOICE, log entry 79. -/
structure LfSlot where
  valid   : Bool
  /-- Its save was cut off and the loss has not been counted (R387). -/
  torn    : Bool
  seq     : Nat
  boot    : Nat
  time    : Nat
  hucap   : Nat
  lost    : Nat
  pwr     : Nat
  /-- Content offsets 0x000 to 0x1FF. -/
  head    : List Byte
  /-- The Logbook tail, oldest first, at most 112 records. -/
  tail    : List LogRec
  deriving DecidableEq, Repr

/-- The stages of a write-back (R359). -/
inductive WriteBack
  | idle
  | running (slot : Fin 2)
  deriving DecidableEq, Repr

/-- The store interface: saves, write-backs, counters, hold-up (R365 to R397). -/
structure StoreState where
  secCnt     : Nat
  dedCnt     : Nat
  slotUse    : Option (Fin 2)
  /-- The value of each retained counter, id 0x01 first. -/
  ctr        : Vector Nat 12
  ctrSeq     : Nat
  /-- Records held while a write-back runs (R378). -/
  ctrHeld    : List CtrRec
  wb         : WriteBack
  wbReq      : Bool
  /-- An accepted learning waits for its write-back (R360). -/
  wbLearn    : Bool
  /-- Copy being written by a configuration save. -/
  saveCopy   : Option (Fin 3)
  saveGen    : Nat
  saveBody   : List Byte
  saveStatus : Nat
  /-- Copy being rewritten by a vote repair (R102). -/
  repairing  : Bool
  /-- The body of an accepted `HC_IMAGE` being written, with the port that waits for the answer. -/
  hcWrite    : Option (List Byte)
  hcPort     : Port
  /-- A Home Chart write waits for the next boot (`HC_STATUS` [2]). -/
  hcNext     : Bool
  jnlTorn    : Nat
  jnlLost    : Nat
  lfShown    : Option (Fin 2)
  lfFresh    : Bool
  lfInvalid  : Bool
  lfTrunc    : Bool
  lfTailDone : Bool
  /-- Records of a fresh Last Fix tail still to be journaled (R381). -/
  lfTail     : List LogRec
  hucap      : Nat
  /-- Entry conditions allow the save of R386 to run (R388). -/
  huSave     : Bool
  huSlot     : Fin 2
  /-- Outputs of hold-up: nothing else runs until the save ends. -/
  tamperLow  : Bool
  keyLoaded  : Bool
  wiped      : Bool
  wipeTamper : Bool
  wipeLc     : Bool
  withheld   : Bool
  bistWeak   : Nat
  bistTries  : Nat
  weakCnt    : Nat
  deriving DecidableEq, Repr

/-! ### Housekeeping converter and thermal management (chapter 13) -/

/-- The housekeeping converter (R400 to R412). -/
structure HkState where
  /-- Disable in progress: the conversion in progress will be discarded (R412). -/
  disabling   : Bool
  settling    : Bool
  calibrating : Bool
  calValid    : Bool
  background  : Bool
  retired     : Option (Fin 5)
  spare       : Fin 5
  /-- The channel a scan converts next. -/
  next        : Nat
  /-- `HK_SCAN_MASK` in force since the last scan start. -/
  mask        : Nat
  scanCnt     : Nat
  /-- `HK_REF_SEL` in force since the last conversion of channels 0 to 7. -/
  refSel      : Nat
  armed       : Vector Bool 48
  outside     : Vector Bool 48
  evt         : Vector Bool 48
  result      : Vector Nat 48
  value       : Vector Int 48
  gain        : Vector Nat 5
  ofs         : Vector Int 5
  /-- Factors of the last self-calibration (R411). -/
  gain0       : Vector Nat 5
  ofs0        : Vector Int 5
  deriving DecidableEq, Repr

/-- Where a die's temperature comes from (`DIE_T_STATUS` [1:0]). -/
inductive ThermSource | sensors | fallback | blind
  deriving DecidableEq, Repr

/-- One ring-oscillator sensor (R414). -/
structure RoSensor where
  t    : Int
  bad  : Nat
  good : Nat
  excl : Bool
  deriving DecidableEq, Repr

/-- One remote temperature input (R416, R417). -/
structure TsInput where
  t       : Int
  valid   : Bool
  isOpen  : Bool
  shorted : Bool
  deriving DecidableEq, Repr

/-- One die's temperature and throttle step (R413 to R422). -/
structure DieTherm where
  t      : Int
  source : ThermSource
  fast   : Bool
  n      : Nat
  /-- A rise from 0 has been logged (R422). -/
  logged : Bool
  deriving DecidableEq, Repr

/-- Thermal management (R413 to R426). -/
structure ThermState where
  ro       : Vector RoSensor 34
  ts       : Vector TsInput 8
  die      : Vector DieTherm 8
  disabling : Bool
  stepCnt  : Nat
  /-- The thermal shutdown latch, the paths that set it ([0] sensor, [1] comparator, [2] fall-back) and its die. -/
  latch    : Bool
  path     : Nat
  latchDie : Nat
  deriving DecidableEq, Repr

/-! ### Star Sight, engine watchdog, Logbook (chapter 14) -/

/-- One host of Star Sight (R434 to R443). -/
structure WdHost where
  /-- Its obligation has started: `RSTO_m` is released, or the start of R430 and R431. -/
  started  : Bool
  /-- Cycles that have begun since the obligation started. -/
  cycles   : Nat
  obliged  : Bool
  /-- It has answered in the present cycle. -/
  answered : Bool
  /-- Failure flags of the present cycle: EARLY, LATE, WRONG, MISSING, EXTRA, UNKNOWN_TASK. -/
  flags    : Nat
  /-- A later answer of this cycle was judged EARLY against the next cycle's question (R436). -/
  earlyNext : Bool
  failCnt  : Nat
  lastFail : Nat
  deriving DecidableEq, Repr

/-- Star Sight (R430 to R445). -/
structure WdState where
  on       : Bool
  locked   : Bool
  /-- Started: cycles run. -/
  running  : Bool
  lfsr     : Nat
  tick     : Nat
  cycleCnt : Nat
  hosts    : Vector WdHost 2
  /-- Check-ins of each task in the present cycle. -/
  checkins : Vector Nat 16
  extra    : Vector Nat 16
  miss     : Vector Nat 16
  earlyCnt : Nat
  lateCnt  : Nat
  wrongCnt : Nat
  /-- PARK was accepted in this cycle, which is abandoned unjudged (R445). -/
  abandoned : Bool
  /-- Reactions due in the activation pause, each with its subcause; they are applied when it ends (R445). -/
  held     : List (Fin 2 × Nat)
  deriving DecidableEq, Repr

/-- The internal engine watchdog (R446 to R448). -/
structure EwdState where
  running  : Bool
  /-- µs since each engine's last service or the end of its last suspension. -/
  since    : Vector Nat 18
  wipeSusp : Bool
  suspCnt  : Nat
  deriving DecidableEq, Repr

/-- A fault detected before the Logbook has its sequence (R381). -/
structure HeldFault where
  code   : FaultCode
  die    : Nat
  src    : Nat
  detail : Nat
  deriving DecidableEq, Repr

/-- The Logbook (R449 to R458). -/
structure LogState where
  /-- The sequence is known (R381); before that faults are held. -/
  ready    : Bool
  held     : List HeldFault
  nextSeq  : Nat
  /-- Entries of the Hamper ring not yet journaled, oldest first. -/
  ring     : List LogRec
  /-- Dies that assert the package fault line: bit k is die k (R453). -/
  aDies    : Nat
  bLatched : Bool
  cSeen    : Bool
  refused  : Bool
  aCode    : Nat
  bCode    : Nat
  /-- Class A faults active and class B entries since the last clear: what R457 asks to have ended. -/
  since    : List HeldFault
  entryCnt : Nat
  deriving DecidableEq, Repr

/-- First-error capture (R456). -/
structure FabState where
  valid  : Bool
  addr   : Nat
  master : Nat
  typ    : Nat
  time   : Nat
  cnt    : Nat
  deriving DecidableEq, Repr

/-! ### Two-wire ports and event controller (chapter 15) -/

/-- The refusals of R515, R526 and R530. -/
inductive AbortCode
  | malformed | transferTimeout | transferReplaced | noTransfer
  | writeOnly | readOnly | role | noObject | mapping
  | length | tooLong
  | busy | state | storeFail
  | xbearMismatch | xbearTimeout | xbearFull | xbearReplaced
  | image (n : Fin 9)
  deriving DecidableEq, Repr

/-- How a request ended, or that it waits. -/
inductive Ack
  | none
  | done
  | value (bytes : List Byte)
  | pending
  | abort (c : AbortCode)
  deriving DecidableEq, Repr

/-- The write results of R466. -/
inductive WrResult
  | accepted | pending | busy | notPermitted | state | readOnly | incomplete | pec | ignored | align
  deriving DecidableEq, Repr

/-- The states of `TUN_STATUS`. -/
inductive TunPhase | idle | busy | done | aborted
  deriving DecidableEq, Repr

/-- The dictionary tunnel of a port (R474 to R476). -/
structure Tunnel where
  index  : Nat
  sub    : Nat
  len    : Nat
  offset : Nat
  phase  : TunPhase
  abort  : Nat
  size   : Nat
  data   : List Byte
  /-- The object of the DOMAIN write that is gathered, and its segments so far. -/
  gatherOf : Option (Nat × Nat)
  gather : List Byte
  /-- The outcome that ends the BUSY request. -/
  outcome : Ack
  deriving DecidableEq, Repr

/-- One two-wire port (R462 to R484). -/
structure TwPort where
  pointer   : Nat
  /-- A transfer addressed to the port is open. -/
  transfer  : Bool
  /-- The window as it stood when the activate pause began (R467). -/
  frozen    : List Byte
  /-- The bytes since the START of the open transfer, address bytes included (R469). -/
  seen      : List Byte
  /-- The window snapshot of the open read (R468), and the bytes the read returned. -/
  snapshot  : List Byte
  readData  : List Byte
  wrResult  : WrResult
  wrOffset  : Nat
  /-- `TW_ERR`. -/
  err       : Nat
  /-- `TW_ADDR`, `TW_PEC_EN`, `TW_CTRL_SPEED` in force since the last bus idle (R463). -/
  addr      : Nat
  pec       : Bool
  speed     : Nat
  claimFlags : Nat
  claimOvf  : Nat
  /-- The source of the most recent claim. -/
  claimed   : Option Nat
  /-- A claim was made on this port since `ALERT_n` rose (R478). -/
  sinceRise : Bool
  /-- A notification is due; the last one sent. -/
  due       : Bool
  notified  : List Byte
  sclStuck  : Bool
  sdaStuck  : Bool
  wedged    : Bool
  busErrCnt : Nat
  pecErrCnt : Nat
  arbCnt    : Nat
  notifyCnt : Nat
  nackCnt   : Nat
  stuckCnt  : Nat
  tun       : Tunnel
  deriving DecidableEq, Repr

/-- The event controller (R485 to R492): 128-bit maps. -/
structure EvcState where
  pend   : Nat
  inserv : Nat
  /-- Of the sources in service, those in service for host 1. -/
  host1  : Nat
  wdrawn : Nat
  /-- Conditions of the level sources. -/
  level  : Nat
  ovf    : Vector Nat 128
  alert  : Vector Bool 2
  deriving DecidableEq, Repr

/-! ### CAN ports and the Bearing protocol (chapter 16) -/

/-- The states of `CAN_STATE`, in the order of their codes. -/
inductive CanPhase
  | disabled | starting | errorActive | errorPassive | busOff | recovering | noClock | monitoring
  deriving DecidableEq, Repr

/-- A frame queued to or sent by a CAN port. -/
structure CanFrame where
  id        : Nat
  classical : Bool
  brs       : Bool
  /-- The error state indicator: the sender is error-passive (R497). -/
  esi       : Bool
  data      : List Byte
  deriving DecidableEq, Repr

/-- An open block transfer (R511, R513). -/
inductive Transfer
  | none
  | blockRead (tag idx sub : Nat) (value : List Byte)
  | blockWrite (tag idx sub total block seq : Nat) (skip : Bool) (got : List Byte)
  deriving DecidableEq, Repr

/-- A response that a request still waits for: its command byte, tag, index and subindex, and the data it carries when it is
DONE. -/
structure PendResp where
  cmd  : Nat
  tag  : Nat
  idx  : Nat
  sub  : Nat
  data : List Byte
  deriving DecidableEq, Repr

/-- A frame at the request identifier of a CAN port, by what it spells (R507, R508). -/
inductive NetReq
  | read (tag idx sub : Nat)
  | write (tag idx sub : Nat) (bytes : List Byte)
  | blockReadInit (tag idx sub : Nat)
  | blockWriteInit (tag idx sub total : Nat)
  | segment (tag seq flags : Nat) (bytes : List Byte)
  | blockRequest (tag block : Nat)
  /-- Well formed but for a `LEN` that its `CMD` does not have. -/
  | wrongLen (cmd tag idx sub : Nat)
  | malformed (cmd tag idx sub : Nat)
  deriving DecidableEq, Repr

/-- One CAN port (R497 to R525). -/
structure CanPort where
  phase     : CanPhase
  /-- `CAN_EN` cleared and its boundary not reached (R502). -/
  disabling : Bool
  enHeld    : Bool
  /-- The values of R500 in force since the last enable: objects 0x02 to 0x0C of the port, and `BRG_BASE`. -/
  inForce   : List Nat
  base      : Nat
  tec       : Nat
  rec_      : Nat
  /-- The transmitter delay last measured, CAN clock periods (R499). -/
  tdcVal    : Nat
  rxCnt     : Nat
  txCnt     : Nat
  rxDrop    : Nat
  txDrop    : Nat
  boffCnt   : Nat
  peerCur   : Bool
  peerClassical : Bool
  reqCnt    : Nat
  abortCnt  : Nat
  lastAbort : Nat
  hbCnt     : Nat
  /-- Frames waiting to be sent, oldest first. -/
  txQueue   : List CanFrame
  transfer  : Transfer
  /-- Requests to this port that wait for their answer: writes that reach MRAM, blocks with no free buffer (R534). -/
  waiting   : List PendResp
  /-- Request frames received and not yet served, oldest first (R506). -/
  rxQueue   : List NetReq
  deriving DecidableEq, Repr

/-- A report frame (R520 to R522). -/
structure Report where
  /-- Byte 0 of the next frame. -/
  cnt    : Nat
  sent   : Nat
  /-- The values last sent. -/
  last   : List Byte
  disabling : Bool
  /-- Device time of its last on-change frame (R521). -/
  changeAt : Option Nat
  deriving DecidableEq, Repr

/-- A pending bearing (R523): object, port, tag, value. -/
structure Bearing where
  idx   : Nat
  sub   : Nat
  port  : Port
  tag   : Nat
  bytes : List Byte
  deriving DecidableEq, Repr

/-- Cross-bearing (R523 to R525), oldest bearing first. -/
structure XbState where
  pend     : List Bearing
  doneCnt  : Nat
  abortCnt : Nat
  last     : Nat
  deriving DecidableEq, Repr

/-! ### Firmware update and life-cycle (chapter 17) -/

/-- The bank states of R531, in the order of their codes. -/
inductive BankPhase | empty | writing | staged | trial | active | previous | failed
  deriving DecidableEq, Repr

/-- A firmware bank (R531): its state record, its header and its payload. DESIGN CHOICE, log entry 79. -/
structure Bank where
  phase   : BankPhase
  header  : List Byte
  payload : List Byte
  deriving DecidableEq, Repr

/-- The faults an item declares (R296). -/
inductive ItemFaultCode
  | stepTimeout | overVoltage | underVoltage | overCurrent | stageFault | linkDown | gangChgFail
  | regCurrentLimit | regOverVoltage | regUnderVoltage | locked | retriesOut | notReadopted | vdrLow
  deriving DecidableEq, Repr

/-- The update states of R541, in the order of their codes. -/
inductive UpdPhase | idle | wiping | receiving | staged | activating | trial
  deriving DecidableEq, Repr

/-- The update path (R529 to R543). -/
structure UpdState where
  phase    : UpdPhase
  refuse   : Nat
  /-- The header accepted, and the port that sent it. -/
  header   : List Byte
  port     : Port
  /-- The payload received in order, and how much of it the bank holds. -/
  got      : List Byte
  written  : Nat
  rxBlocks : Nat
  /-- Seconds of t_TRIAL left. -/
  trialLeft : Nat
  /-- Bank running: 0 A, 1 B. -/
  sel      : Fin 2
  /-- The activation pause of R538. -/
  pause    : Bool
  /-- Class A faults of the pause whose follow-up waits for its end (R543); none for a line that another circuit asserted. -/
  heldA    : List (Option FaultCode)
  /-- Item faults of the pause whose reactions wait for its end (R539). -/
  heldB    : List (Fin 46 × ItemFaultCode)
  /-- Image verification state in the secure partition (R395). -/
  verified : Bool
  deriving DecidableEq, Repr

/-- What is wrong with a word of the MRAM: one bit reads wrong, two do (R367), or it takes no write (R369). -/
inductive MramFlaw | single | double | stuck
  deriving DecidableEq, Repr

/-- An 8-byte word of the MRAM, by its offset, and its flaw. -/
structure MramErr where
  word : Nat
  flaw : MramFlaw
  deriving DecidableEq, Repr

/-- The MRAM (R366) by its records, with the life-cycle fuses (R542). DESIGN CHOICE, log entry 79. -/
structure Mram where
  cfg     : Vector CfgCopy 3
  hc      : HomeChart
  journal : List LogRec
  slots   : Vector GaugeSlot 2
  lf      : Vector LfSlot 2
  banks   : Vector Bank 2
  lc      : Nat
  /-- The record after the newest of the journal is torn: its write was cut off (R369, R380). -/
  jnlTornRec : Bool
  /-- Its words with a flaw (R367, R369); no command makes one. -/
  errs    : List MramErr
  deriving DecidableEq, Repr

/-- The parts of the family (R1). -/
inductive Part | qmn2402 | qmn2404 | qmn2408
  deriving DecidableEq, Repr

/-! ### The whole state -/

/-- A Quellamin part. -/
structure State where
  part     : Part
  /-- The settings that have been written or loaded (R553, R555): key index × 256 + subindex, rising; every other setting
  stands at its default. -/
  settings : List (Nat × Nat)
  mram     : Mram
  nv       : StoreState
  clk      : ClockState
  hamper   : HamperState
  links    : Vector LinkState 7
  straps   : StrapState
  boot     : BootState
  sk       : SkState
  pwr      : PwrCtl
  zin      : Vector ZinChan 4
  fo       : Vector FoChan 8
  zbus     : ZbusState
  rails    : Vector RailState 28
  phases   : Vector PhaseState 56
  gangs    : Vector GangState 4
  dies     : Vector DieState 7
  items    : Vector ItemState 46
  groups   : Vector GroupState 8
  regs     : Vector RegState 10
  rsto     : Vector RstoState 4
  pp       : PathState
  chg      : ChargerState
  gauge    : GaugeState
  hk       : HkState
  therm    : ThermState
  wd       : WdState
  ewd      : EwdState
  log      : LogState
  /-- The package fault line is asserted (R40). -/
  faultLine : Bool
  /-- `SAFE_N` is asserted, low (R455). -/
  safeN    : Bool
  fab      : FabState
  evc      : EvcState
  tw       : Vector TwPort 2
  can      : Vector CanPort 4
  /-- Port roles (R496): 0 MASTER, 1 ZONE, 2 HOST, 3 OBSERVER. -/
  roles    : Vector Nat 6
  reports  : Vector Report 64
  xb       : XbState
  /-- The port that the network engine served last (R506). -/
  netLast  : Port
  /-- Directory selections of the six ports (R560). -/
  dirSel   : Vector (Nat × Nat) 6
  update   : UpdState
  skipCnt  : Nat
  /-- Device time of the last recognised rising edge of each `HINT_n` (R227). -/
  hintAt   : Vector (Option Nat) 2
  /-- How the last command that is an object access ended. -/
  ack      : Ack
  devTime  : Nat
  /-- Millionths of an AON tick since the last tick. -/
  aonAcc   : Nat
  /-- The model's own: counts the uses of free values. -/
  freeCtr  : Nat
  /-- The commands that wait, first in, first out. -/
  pending  : List Instr
  deriving DecidableEq, Repr

/-- Why the machine stops. -/
inductive Fault
  /-- A command names a die, rail or phase that the part does not have (R5): raised by every meaning that takes one. Safe:
  no object, pin or circuit of that die exists. -/
  | absentInPart
  deriving DecidableEq, Repr

/-- Why a command has no meaning. -/
inductive Refusal
  /-- A command that is not modelled: raised by exec alone. Safe. -/
  | notModelled (mnemonic : String)
  deriving DecidableEq, Repr

/-! ### Reset -/

/-- The clocks before the release of the power-on reset. DESIGN CHOICE, log entry 2. -/
def ClockState.init : ClockState := ⟨false, false, false, false, false, Vector.replicate 7 false, 0⟩

def HamperState.init : HamperState :=
  { mem := [], wheelSlot := 0, scrubPtr := 0, scrubPass := 0, secCnt := 0, dedCnt := 0, correctPend := [],
    lastGrant := none, lastData := 0, lastBlocked := false, lastEccErr := false }

def LinkState.init : LinkState :=
  { phase := .down, retrained := false, retryCnt := 0, helm := ⟨0, 0, [], [], none⟩, rail := ⟨0, 0, [], [], none⟩, objs := [],
    lastWr := none, data := [], downAt := 0, reads := [] }

def BootState.init : BootState :=
  { phase := .porHeld, attempts := 0, odAnswering := false, step8 := false, thermalHold := false, bootTime := 0,
    rstCause := 0, rstSub := 0, rstMask := 0, rstPrev := 0, bootCount := 0, curCause := 1, curSub := 0, curMask := 0,
    flushDone := false, resetNLow := false, resetNInSave := false, skActive := false, cold := true, cfgRepaired := false,
    cfgAbandoned := false, cfgSplit := false, hcUsed := false, hcInvalid := false, crcValid := 0, copyUsed := 0,
    cfgGen := 0, repairs := [], fellBack := none }

def SkState.init : SkState :=
  { kept := Vector.replicate 28 false, adopted := Vector.replicate 28 false, down := Vector.replicate 28 false,
    fused := Vector.replicate 8 false, shadow := Vector.replicate 28 [], left := [],
    due := Vector.replicate 28 false, hwTimeout := false }

def PwrCtl.init : PwrCtl :=
  { state := .off, req := .run, parkEntry := false, wakeCause := 0, fired := 0, wakeTimerOn := false, ocLatch := 0, oldChart := false }

def ZinChan.init : ZinChan :=
  { phase := .off, inWindow := false, insRunning := false, qualified := false, retryTimer := false, limTimer := false,
    normTimer := false, retryCnt := 0, fault := 0, coldStart := true, coldOn := false, coldDone := false, coldBlock := false,
    enHeld := false, tripPend := [], timersStopped := true, v := 0 }

def FoChan.init : FoChan :=
  { phase := .off, present := false, commanded := false, insRunning := false, qualified := false, retryTimer := false,
    limTimer := false, normTimer := false, retryCnt := 0, fault := 0, onHeld := false, tripPend := [], v := 0 }

def ZbusState.init : ZbusState :=
  { inWindow := false, mode := 0, v := 0, hist := [], slope := 0, slopeAlarm := false, pfw := false, pfwThr := false,
    pfwSlope := false, pfwPack := false, pfwClear := false }

def LoopState.init : LoopState :=
  { co := ⟨0, 0, 0, 0⟩, pend := false, u := 0, i := 0, e := 0, code := 512, vsense := 0, iFilt := 0,
    laneE := 0, laneW := 0, lead := 0, stride := 0, rotOn := false, strideSet := 1, epochCnt := 0, dmax := 0, balDisabling := false }

def DynState.init : DynState :=
  { vsp := 0, target := 0, inc := 0, moving := false, transition := false, vtgt := 0, src := 0, cmdCnt := 0, turnCnt := 0,
    held := false, softDone := false, rampDown := false, stepArmed := false, stepAlarm := false, stepBlocked := false,
    stepCnt := 0, tmaxCnt := 0, stepThr := 0, stepTmax := 0, stepDisabling := false, stepBndry := false, dwellRun := false,
    shedDue := false, readdPend := false, holdoff := false, shedCnt := 0, keepCnt := 0, readdCnt := 0, phmDisabling := false }

def FcTrim.init : FcTrim :=
  { hints := [], fcCnt := 0, lateCnt := 0, trimActive := false, trimFrozen := false, trimStopped := false,
    freezeSeen := false, trimDisabling := false, pdep := 0, vtgt := 0 }

def ProtState.init : ProtState :=
  { ovLatch := false, faultLatch := false, fault := 0, ovAbs := 1950, w := false, uvCond := false, ocCond := false,
    ignored := false, skLatched := false, noPg := false, vdrDue := false, uvTimer := false, ocTimer := false, uvArmed := false, qualified := false, hold := false, pg := false,
    pgRose := false, dropCnt := 0, valleyCnt := 0, valleyLogged := false, ovTrips := 0, thrN := 0 }

def RailState.init : RailState :=
  { enabled := false, disabling := false, enHeld := false, pulsed := false, enPin := false, stationKept := false,
    absorbed := false, heldOff := false, loop := .init, dyn := .init, fc := .init, prot := .init, vout := 0 }

def PhaseState.init : PhaseState :=
  { run := .active, leaveCnt := 0, trim := 0, iAvg := 0, balSum := 0, balNum := 0, gain := 5000, ofs := 0, pulses := 0,
    pulsed := false, dither := false, onTime := 0, leadCnt := 0, withheld := false }

def GangState.init : GangState :=
  { phase := .unused, code := 0, first := 0, dies := 0, dlsb := 0, parCnt := 0, rotErr := 0, holdCnt := 0, valley := 0,
    tot := 0, change := none, waiting := [], epochDue := false, stepLine := false }

def DieState.init : DieState :=
  { vdrOk := false, stf := false, rsysBad := false, holding := false, held := false, holdWhy := 0, balFrozen := false,
    ownLead := 0, pendChange := none, lane := 0, laneBad := false, balAvg := 0, ocOver := false, code := [], standby := [] }

def ItemState.init : ItemState :=
  { phase := .unsequenced, code := 0, lastFault := 0, chatter := 0, retryCnt := 0, qual := false, cmdOn := false,
    retrying := false, normTimer := false, readopted := false, moveOk := false, retryDue := false, passed := false }

def GroupState.init : GroupState :=
  { phase := .off, request := false, input := false, disabling := false, heldReset := none, step := none, delaying := false, delayDone := false,
    started := [], stepTimer := false, toffTimer := false, byFault := false, faultItem := 0xFF, puTime := 0, puStart := 0,
    clearHeld := false }

def RegState.init : RegState := { on := false, fault := 0, pgWin := false, stopped := false, v := 0 }

def RstoState.init : RstoState := { pin := true, forced := false, stretch := false }

/-- The pin without a supply: held low by R_PD (R76). DESIGN CHOICE, log entry 2; DEDUCED, log entry 77. -/
def RstoState.unpowered : RstoState := { pin := false, forced := false, stretch := false }

def PathState.init : PathState :=
  { phase := .source, fet := .off, made := false, regulating := false, drawing := false, svcQual := false, svcRev := false,
    svcPulled := false, typ := .unknown, limTyp := .unknown, mismatch := false, annMis := false, annc := Vector.replicate 4 ⟨0, false⟩,
    lbusUp := false, lbusGood := false, eodHeld := false, limIn := false, limOut := false, limFet := false, clamp := false, clampMax := 0, overload := false,
    hoCnt := 0, hbCnt := 0, hoLastT := 0, lbusV := 0, chgIin := 0, lbusIout := 0, packI := 0, packV := 0, packT := 250,
    present := false }

def ChargerState.init : ChargerState :=
  { phase := .off, terminated := false, term := 0, fault := 0, faultRead := false, enHeld := false, hbDone := false,
    tempPause := false, removed := false, swOc := false, current := 0, fastTime := 0, preTime := 0, fastSamples := 0, peak := none, peakRestart := false,
    lastCurrent := 0, dvCnt := 0, dtCnt := 0, temps := [] }

def Almanac.init : Almanac :=
  { cells := 0, tablesSet := false, capLearned := false, cap := 0, learnCnt := 0, cycles := 0, disAcc := 0, age := 0,
    result := 0, tables := [] }

def GaugeState.init : GaugeState :=
  { running := false, first := true, v1 := 0, v2 := 0, socV := 0, sRaw := 0, qInt := 0, u := 0, rser := 0, restSec := 0,
    restQual := false, eod := false, eodFloor := false, eodCntV := 0, eodCntF := 0, chgRun := 0, disagree := false,
    dir := false, hist := [], learn := .idle, aboveRun := 0, lowRun := 0, qDis := 0, cMeas := 0, soc := 0, tte := 0xFFFF, socIEst := 0, rcEst := 0, rcIntEst := 0, fccEst := 0, rnd := 0,
    alm := .init, almInvalid := false, ageSec := 0, outRunning := false, outReason := 0, outCnt := 0, parkStart := 0,
    parkSource := false }

def GaugeSlot.init : GaugeSlot :=
  { valid := false, seq := 0, alm := .init, base := Vector.replicate 12 0, recs := [], wip := false, wipLearn := false }

def LfSlot.init : LfSlot :=
  { valid := false, torn := false, seq := 0, boot := 0, time := 0, hucap := 0, lost := 0, pwr := 0, head := [], tail := [] }

def StoreState.init : StoreState :=
  { secCnt := 0, dedCnt := 0, slotUse := none, ctr := Vector.replicate 12 0, ctrSeq := 0, ctrHeld := [], wb := .idle,
    wbReq := false, wbLearn := false, saveCopy := none, saveGen := 0, saveBody := [], saveStatus := 0, repairing := false,
    hcWrite := none, hcPort := 0, hcNext := false, jnlTorn := 0, jnlLost := 0, lfShown := none, lfFresh := false,
    lfInvalid := false, lfTrunc := false, lfTailDone := false, lfTail := [], hucap := 0,
    huSave := false, huSlot := 0, tamperLow := false, keyLoaded := false, wiped := false, wipeTamper := false,
    wipeLc := false, withheld := false, bistWeak := 0, bistTries := 0, weakCnt := 0 }

def HkState.init : HkState :=
  { disabling := false, settling := false, calibrating := false, calValid := false, background := false, retired := none,
    spare := 4, next := 0, mask := 0xFFFFFFFFFFFF, scanCnt := 0, refSel := 0, armed := Vector.replicate 48 true,
    outside := Vector.replicate 48 false, evt := Vector.replicate 48 false, result := Vector.replicate 48 0,
    value := Vector.replicate 48 0, gain := Vector.replicate 5 16384, ofs := Vector.replicate 5 0,
    gain0 := Vector.replicate 5 16384, ofs0 := Vector.replicate 5 0 }

def ThermState.init : ThermState :=
  { ro := Vector.replicate 34 ⟨250, 0, 0, false⟩, ts := Vector.replicate 8 ⟨250, false, false, false⟩,
    die := Vector.replicate 8 ⟨250, .sensors, false, 0, false⟩, disabling := false, stepCnt := 0, latch := false, path := 0,
    latchDie := 0 }

def WdHost.init : WdHost :=
  { started := false, cycles := 0, obliged := false, answered := false, flags := 0, earlyNext := false, failCnt := 0, lastFail := 0 }

def WdState.init : WdState :=
  { on := false, locked := false, running := false, lfsr := 0, tick := 0, cycleCnt := 0, hosts := Vector.replicate 2 .init,
    checkins := Vector.replicate 16 0, extra := Vector.replicate 16 0, miss := Vector.replicate 16 0, earlyCnt := 0,
    lateCnt := 0, wrongCnt := 0, abandoned := false, held := [] }

def EwdState.init : EwdState := { running := false, since := Vector.replicate 18 0, wipeSusp := false, suspCnt := 0 }

def LogState.init : LogState :=
  { ready := false, held := [], nextSeq := 1, ring := [], aDies := 0, bLatched := false, cSeen := false, refused := false,
    aCode := 0, bCode := 0, since := [], entryCnt := 0 }

def FabState.init : FabState := { valid := false, addr := 0, master := 0, typ := 0, time := 0, cnt := 0 }

def EvcState.init : EvcState :=
  { pend := 0, inserv := 0, host1 := 0, wdrawn := 0, level := 0, ovf := Vector.replicate 128 0, alert := Vector.replicate 2 false }

def Tunnel.init : Tunnel :=
  { index := 0, sub := 0, len := 0, offset := 0, phase := .idle, abort := 0, size := 0, data := List.replicate 64 0,
    gatherOf := none, gather := [], outcome := .none }

def TwPort.init : TwPort :=
  { pointer := 0, transfer := false, frozen := [], seen := [], snapshot := [], readData := [], wrResult := .accepted, wrOffset := 0,
    err := 0, addr := 0, pec := false, speed := 1, claimFlags := 0, claimOvf := 0, claimed := none, sinceRise := false, due := false,
    notified := [], sclStuck := false, sdaStuck := false, wedged := false, busErrCnt := 0, pecErrCnt := 0, arbCnt := 0,
    notifyCnt := 0, nackCnt := 0, stuckCnt := 0, tun := .init }

def CanPort.init : CanPort :=
  { phase := .disabled, disabling := false, enHeld := false, inForce := [], base := 0x500, tec := 0, rec_ := 0, tdcVal := 0,
    rxCnt := 0, txCnt := 0, rxDrop := 0, txDrop := 0, boffCnt := 0, peerCur := false, peerClassical := false, reqCnt := 0,
    abortCnt := 0, lastAbort := 0, hbCnt := 0, txQueue := [], transfer := .none, waiting := [], rxQueue := [] }

def UpdState.init : UpdState :=
  { phase := .idle, refuse := 0, header := [], port := 0, got := [], written := 0, rxBlocks := 0, trialLeft := 0, sel := 0,
    pause := false, heldA := [], heldB := [], verified := false }

/-- A store as no device has written it: no valid record, life-cycle BLANK. The manual does not state what a new part's banks
hold: bank A is ACTIVE with a header of zeros but for its CRC, so that a boot can select it (R531, R532). DESIGN CHOICE, log entry 2. -/
def Mram.init : Mram :=
  { cfg := Vector.replicate 3 ⟨false, 0, []⟩, hc := ⟨false, [], 0, 0⟩, journal := [], slots := Vector.replicate 2 .init,
    lf := Vector.replicate 2 .init, banks := #v[⟨.active, List.replicate 252 0 ++ [0xF1, 0x59, 0x63, 0xA6], []⟩, ⟨.empty, [], []⟩], lc := 0,
    jnlTornRec := false, errs := [] }

/-- The roles of R104: CAN port 0 MASTER, every other port OBSERVER. DESIGN CHOICE, log entry 2. -/
def defaultRoles : Vector Nat 6 := #v[0, 3, 3, 3, 3, 3]

/-- The machine with `VAUX` in power-on reset: OFF, every setting at its default, an unwritten store, an empty queue.
DESIGN CHOICE, log entry 2. -/
def State.reset : State :=
  { part := .qmn2408, settings := [], mram := .init, nv := .init, clk := .init, hamper := .init,
    links := Vector.replicate 7 .init, straps := ⟨0, false, false⟩, boot := .init, sk := .init, pwr := .init,
    zin := Vector.replicate 4 .init, fo := Vector.replicate 8 .init, zbus := .init, rails := Vector.replicate 28 .init,
    phases := Vector.replicate 56 .init, gangs := Vector.replicate 4 .init, dies := Vector.replicate 7 .init,
    items := Vector.replicate 46 .init, groups := Vector.replicate 8 .init, regs := Vector.replicate 10 .init,
    rsto := Vector.replicate 4 .unpowered, pp := .init, chg := .init, gauge := .init, hk := .init, therm := .init, wd := .init,
    ewd := .init, log := .init, faultLine := false, safeN := true, fab := .init, evc := .init,
    tw := Vector.replicate 2 .init, can := Vector.replicate 4 .init, roles := defaultRoles,
    reports := Vector.replicate 64 ⟨0, 0, [], false, none⟩, xb := ⟨[], 0, 0, 0⟩, netLast := 5, dirSel := Vector.replicate 6 (0x2000, 0),
    update := .init, skipCnt := 0, hintAt := Vector.replicate 2 none, ack := .none, devTime := 0, aonAcc := 0, freeCtr := 0, pending := [] }

/-- What a meaning answers. -/
abbrev Res := Host.Outcome State Fault Refusal

end Sys2Proof.Machine
end

