-- ==== Sys2Proof/Machine/ObjTable.lean ====
section
/-! DEFINITION. The object dictionary: the object tables of every chapter (R46, R65, R120, ..., R558, R560), which objects
exist in a part (R5, R485, R546, R561), types (R548), access codes (R551) and which objects are stored (R553). -/

namespace Sys2Proof.Machine

/-- Object types (R548). -/
inductive ObjType
  | bool | u8 | u16 | u32 | u64 | i16 | i32 | string | domain
  deriving DecidableEq, Repr

/-- Access codes (R551). -/
inductive Acc
  | const | ro | wo | rw | rwx
  deriving DecidableEq, Repr

/-- The type codes of R548. -/
def ObjType.code : ObjType → Nat
  | .bool => 1 | .u8 => 2 | .u16 => 3 | .u32 => 4 | .u64 => 5 | .i16 => 6 | .i32 => 7 | .string => 0x0A | .domain => 0x0B

/-- Bytes of a fixed-size type (R548). -/
def ObjType.bytes : ObjType → Nat
  | .bool | .u8 => 1 | .u16 | .i16 => 2 | .u32 | .i32 => 4 | .u64 => 8 | .string => 8 | .domain => 0

/-- The access codes of R551. -/
def Acc.code : Acc → Nat
  | .const => 0 | .ro => 1 | .wo => 2 | .rw => 3 | .rwx => 4

/-- One row of an object table: first index, number of indices, first subindex, number of subindices, type, access and,
for a setting, its default in the 48 V and the 12 V mode (R124) as encoded. -/
structure ObjRow where
  base : Nat
  cnt  : Nat
  sub  : Nat
  nsub : Nat
  typ  : ObjType
  acc  : Acc
  d48  : Nat
  d12  : Nat
  deriving DecidableEq, Repr

/-- Rows from 0x2000 (R558) on. -/
def objRows0 : List ObjRow := [
  ⟨0x2000, 1, 1, 1, .u16, .const, 0, 0⟩,
  ⟨0x2000, 1, 2, 1, .string, .const, 0, 0⟩,
  ⟨0x2000, 1, 3, 1, .u64, .const, 0, 0⟩,
  ⟨0x2000, 1, 4, 1, .u8, .const, 0, 0⟩,
  ⟨0x2000, 1, 5, 1, .u8, .const, 0, 0⟩,
  ⟨0x2000, 1, 6, 1, .u8, .const, 0, 0⟩,
  ⟨0x2000, 1, 7, 1, .u8, .const, 0, 0⟩,
  ⟨0x2000, 1, 8, 1, .u8, .const, 0, 0⟩,
  ⟨0x2000, 1, 9, 1, .u8, .const, 0, 0⟩,
  ⟨0x2000, 1, 10, 1, .u32, .ro, 0, 0⟩,
  ⟨0x2000, 1, 11, 1, .u16, .const, 0, 0⟩,
  ⟨0x2000, 1, 12, 1, .u16, .const, 0, 0⟩,
  ⟨0x2000, 1, 13, 1, .u64, .ro, 0, 0⟩,
  ⟨0x2000, 1, 14, 1, .u8, .ro, 0, 0⟩,
  ⟨0x2000, 1, 15, 1, .u32, .ro, 0, 0⟩,
  ⟨0x2000, 1, 16, 1, .bool, .rw, 0, 0⟩,
  ⟨0x2000, 1, 17, 1, .bool, .ro, 0, 0⟩,
  ⟨0x2000, 1, 18, 1, .u16, .ro, 0, 0⟩,
  ⟨0x2001, 1, 1, 1, .u16, .rw, 8192, 8192⟩,
  ⟨0x2001, 1, 2, 1, .u8, .rw, 0, 0⟩,
  ⟨0x2001, 1, 3, 1, .u32, .ro, 0, 0⟩,
  ⟨0x2001, 1, 4, 1, .u32, .ro, 0, 0⟩,
  ⟨0x2001, 1, 5, 1, .u8, .wo, 0, 0⟩,
  ⟨0x2100, 1, 1, 1, .u16, .ro, 0, 0⟩,
  ⟨0x2100, 1, 2, 1, .u16, .ro, 0, 0⟩,
  ⟨0x2101, 1, 1, 7, .u8, .ro, 0, 0⟩,
  ⟨0x2102, 1, 1, 7, .u32, .ro, 0, 0⟩,
  ⟨0x2103, 1, 1, 1, .u32, .ro, 0, 0⟩,
  ⟨0x2103, 1, 2, 1, .u16, .ro, 0, 0⟩,
  ⟨0x2103, 1, 3, 1, .u32, .ro, 0, 0⟩,
  ⟨0x2104, 1, 1, 1, .u8, .ro, 0, 0⟩,
  ⟨0x2104, 1, 2, 1, .u8, .const, 0, 0⟩,
  ⟨0x2104, 1, 3, 1, .u8, .ro, 0, 0⟩,
  ⟨0x2105, 1, 1, 1, .u32, .wo, 0, 0⟩,
  ⟨0x2105, 1, 2, 1, .u8, .ro, 0, 0⟩,
  ⟨0x2105, 1, 3, 1, .u16, .ro, 0, 0⟩,
  ⟨0x2105, 1, 4, 1, .u16, .ro, 0, 0⟩,
  ⟨0x2105, 1, 5, 1, .u8, .ro, 0, 0⟩,
  ⟨0x2105, 1, 6, 1, .u32, .ro, 0, 0⟩,
  ⟨0x2105, 1, 7, 1, .u16, .ro, 0, 0⟩,
  ⟨0x2106, 1, 1, 1, .bool, .rwx, 0, 0⟩,
  ⟨0x2106, 1, 2, 1, .u32, .ro, 0, 0⟩,
  ⟨0x2106, 1, 3, 1, .u32, .ro, 0, 0⟩,
  ⟨0x2106, 1, 4, 1, .u32, .ro, 0, 0⟩,
  ⟨0x2106, 1, 5, 1, .u8, .ro, 0, 0⟩,
  ⟨0x2107, 1, 1, 1, .u16, .ro, 0, 0⟩,
  ⟨0x2107, 1, 2, 1, .u32, .ro, 0, 0⟩,
  ⟨0x2107, 1, 3, 3, .u32, .ro, 0, 0⟩]

/-- Rows from 0x2108 (R120) on. -/
def objRows1 : List ObjRow := [
  ⟨0x2108, 1, 1, 1, .u8, .ro, 0, 0⟩,
  ⟨0x2108, 1, 2, 1, .u8, .rw, 0, 0⟩,
  ⟨0x2108, 1, 3, 1, .u32, .rw, 0, 0⟩,
  ⟨0x2108, 1, 4, 1, .u16, .rw, 4095, 4095⟩,
  ⟨0x2108, 1, 5, 1, .u16, .ro, 0, 0⟩,
  ⟨0x2108, 1, 6, 1, .u32, .rw, 0, 0⟩,
  ⟨0x2200, 1, 1, 1, .u8, .rwx, 0, 0⟩,
  ⟨0x2200, 1, 2, 1, .u16, .rwx, 23000, 8500⟩,
  ⟨0x2200, 1, 3, 1, .u16, .rwx, 25000, 9000⟩,
  ⟨0x2200, 1, 4, 1, .u16, .rwx, 61000, 16500⟩,
  ⟨0x2200, 1, 5, 1, .u16, .rwx, 59500, 16000⟩,
  ⟨0x2200, 1, 6, 1, .u16, .rw, 26000, 9500⟩,
  ⟨0x2200, 1, 7, 1, .u16, .rw, 1000, 300⟩,
  ⟨0x2200, 1, 8, 1, .u16, .rw, 2000, 500⟩,
  ⟨0x2200, 1, 9, 1, .u16, .ro, 0, 0⟩,
  ⟨0x2200, 1, 10, 1, .i16, .ro, 0, 0⟩,
  ⟨0x2200, 1, 11, 1, .u8, .ro, 0, 0⟩,
  ⟨0x2210, 4, 1, 1, .bool, .rw, 0, 0⟩,
  ⟨0x2210, 4, 2, 1, .u16, .rwx, 500, 500⟩,
  ⟨0x2210, 4, 3, 1, .u16, .rwx, 20000, 20000⟩,
  ⟨0x2210, 4, 4, 1, .u16, .rwx, 5000, 5000⟩,
  ⟨0x2210, 4, 5, 1, .u8, .rwx, 10, 10⟩,
  ⟨0x2210, 4, 6, 1, .u16, .rwx, 23000, 8500⟩,
  ⟨0x2210, 4, 7, 1, .u16, .rwx, 25000, 9000⟩,
  ⟨0x2210, 4, 8, 1, .u16, .rwx, 61000, 16500⟩,
  ⟨0x2210, 4, 9, 1, .u16, .rwx, 59500, 16000⟩,
  ⟨0x2210, 4, 10, 1, .u16, .rw, 100, 100⟩,
  ⟨0x2210, 4, 11, 1, .u8, .rwx, 3, 3⟩,
  ⟨0x2210, 4, 12, 1, .u16, .rw, 100, 100⟩,
  ⟨0x2210, 4, 13, 1, .u8, .ro, 0, 0⟩,
  ⟨0x2210, 4, 14, 1, .u8, .ro, 0, 0⟩,
  ⟨0x2210, 4, 15, 1, .u8, .ro, 0, 0⟩,
  ⟨0x2210, 4, 16, 1, .u8, .wo, 0, 0⟩,
  ⟨0x2210, 4, 17, 1, .u16, .ro, 0, 0⟩,
  ⟨0x2210, 4, 18, 1, .i32, .ro, 0, 0⟩,
  ⟨0x2220, 8, 1, 1, .u16, .rwx, 2000, 2000⟩,
  ⟨0x2220, 8, 2, 1, .u16, .rwx, 5000, 5000⟩,
  ⟨0x2220, 8, 3, 1, .u16, .rwx, 2000, 2000⟩,
  ⟨0x2220, 8, 4, 1, .u8, .rwx, 10, 10⟩,
  ⟨0x2220, 8, 5, 1, .u16, .rw, 100, 100⟩,
  ⟨0x2220, 8, 6, 1, .u8, .rwx, 3, 3⟩,
  ⟨0x2220, 8, 7, 1, .u16, .rw, 100, 100⟩,
  ⟨0x2220, 8, 8, 1, .u8, .ro, 0, 0⟩,
  ⟨0x2220, 8, 9, 1, .u8, .ro, 0, 0⟩,
  ⟨0x2220, 8, 10, 1, .u8, .ro, 0, 0⟩,
  ⟨0x2220, 8, 11, 1, .u8, .wo, 0, 0⟩,
  ⟨0x2220, 8, 12, 1, .i32, .ro, 0, 0⟩,
  ⟨0x2220, 8, 13, 1, .u16, .ro, 0, 0⟩]

/-- Rows from 0x2300 (R194) on. -/
def objRows2 : List ObjRow := [
  ⟨0x2300, 4, 1, 1, .u8, .rwx, 0, 0⟩,
  ⟨0x2300, 4, 2, 1, .u8, .rwx, 0, 0⟩,
  ⟨0x2300, 4, 3, 1, .u8, .rwx, 0, 0⟩,
  ⟨0x2300, 4, 4, 1, .u8, .ro, 0, 0⟩,
  ⟨0x2300, 4, 5, 1, .u32, .ro, 0, 0⟩,
  ⟨0x2300, 4, 6, 1, .u16, .ro, 0, 0⟩,
  ⟨0x2300, 4, 7, 1, .u16, .ro, 0, 0⟩,
  ⟨0x2400, 1, 1, 1, .u8, .ro, 0, 0⟩,
  ⟨0x2400, 1, 2, 1, .u8, .ro, 0, 0⟩,
  ⟨0x2410, 8, 1, 1, .u8, .rwx, 1, 1⟩,
  ⟨0x2410, 8, 2, 1, .bool, .rwx, 0, 0⟩,
  ⟨0x2410, 8, 3, 1, .u8, .wo, 0, 0⟩,
  ⟨0x2410, 8, 4, 1, .u16, .rw, 50, 50⟩,
  ⟨0x2410, 8, 5, 1, .u16, .ro, 0, 0⟩,
  ⟨0x2410, 8, 6, 1, .u8, .ro, 0, 0⟩,
  ⟨0x2410, 8, 7, 1, .u16, .ro, 0, 0⟩,
  ⟨0x2420, 4, 1, 1, .u8, .rw, 0, 0⟩,
  ⟨0x2420, 4, 2, 1, .u16, .rw, 20, 20⟩,
  ⟨0x2420, 4, 3, 1, .u16, .rw, 10, 10⟩,
  ⟨0x2420, 4, 4, 1, .u8, .wo, 0, 0⟩,
  ⟨0x2420, 4, 5, 1, .u8, .ro, 0, 0⟩,
  ⟨0x2430, 6, 1, 1, .u16, .rw, 3300, 3300⟩,
  ⟨0x2430, 6, 2, 1, .u8, .rw, 1, 1⟩,
  ⟨0x2430, 6, 3, 1, .u16, .ro, 0, 0⟩,
  ⟨0x2430, 6, 4, 1, .u16, .ro, 0, 0⟩,
  ⟨0x2430, 6, 5, 1, .u8, .ro, 0, 0⟩,
  ⟨0x2438, 4, 1, 1, .u16, .rw, 1800, 1800⟩,
  ⟨0x2438, 4, 2, 1, .u8, .rw, 1, 1⟩,
  ⟨0x2438, 4, 3, 1, .u16, .ro, 0, 0⟩,
  ⟨0x2438, 4, 4, 1, .u16, .ro, 0, 0⟩,
  ⟨0x2438, 4, 5, 1, .u8, .ro, 0, 0⟩,
  ⟨0x2500, 64, 1, 1, .u8, .rwx, 255, 255⟩,
  ⟨0x2500, 64, 2, 1, .u16, .rw, 0, 0⟩,
  ⟨0x2500, 64, 3, 1, .u16, .rw, 20, 20⟩,
  ⟨0x2600, 46, 1, 1, .u8, .rwx, 255, 255⟩,
  ⟨0x2600, 46, 2, 1, .u8, .rwx, 2, 2⟩,
  ⟨0x2600, 46, 3, 1, .u8, .rwx, 3, 3⟩,
  ⟨0x2600, 46, 4, 1, .u16, .rw, 100, 100⟩,
  ⟨0x2600, 46, 5, 1, .u16, .rw, 10, 10⟩,
  ⟨0x2600, 46, 6, 1, .u8, .rw, 0, 0⟩,
  ⟨0x2600, 46, 7, 1, .bool, .rw, 0, 0⟩,
  ⟨0x2600, 46, 8, 1, .u8, .rw, 255, 255⟩,
  ⟨0x2600, 46, 9, 1, .u16, .rw, 0, 0⟩,
  ⟨0x2600, 46, 10, 1, .u16, .ro, 0, 0⟩,
  ⟨0x2600, 46, 11, 1, .u16, .ro, 0, 0⟩,
  ⟨0x2600, 46, 12, 1, .u8, .ro, 0, 0⟩,
  ⟨0x2700, 1, 1, 1, .u8, .ro, 0, 0⟩,
  ⟨0x2700, 1, 2, 1, .u16, .rwx, 1500, 1500⟩]

/-- Rows from 0x2700 (R331) on. -/
def objRows3 : List ObjRow := [
  ⟨0x2700, 1, 3, 1, .u16, .rwx, 5000, 5000⟩,
  ⟨0x2700, 1, 4, 1, .u16, .rwx, 3000, 3000⟩,
  ⟨0x2700, 1, 5, 1, .u16, .rwx, 500, 500⟩,
  ⟨0x2700, 1, 6, 1, .u16, .ro, 0, 0⟩,
  ⟨0x2700, 1, 7, 1, .u16, .rw, 2000, 2000⟩,
  ⟨0x2700, 1, 8, 1, .u16, .rwx, 8500, 8500⟩,
  ⟨0x2700, 1, 9, 1, .u16, .rwx, 9000, 9000⟩,
  ⟨0x2700, 1, 10, 1, .u16, .rwx, 33000, 33000⟩,
  ⟨0x2700, 1, 11, 1, .u16, .rwx, 32000, 32000⟩,
  ⟨0x2700, 1, 12, 1, .u16, .rw, 100, 100⟩,
  ⟨0x2700, 1, 13, 1, .u16, .rwx, 22000, 8000⟩,
  ⟨0x2700, 1, 14, 1, .u16, .rw, 2000, 500⟩,
  ⟨0x2700, 1, 15, 1, .u8, .ro, 0, 0⟩,
  ⟨0x2700, 1, 16, 1, .u16, .ro, 0, 0⟩,
  ⟨0x2700, 1, 17, 1, .u32, .ro, 0, 0⟩,
  ⟨0x2700, 1, 18, 1, .u32, .ro, 0, 0⟩,
  ⟨0x2700, 1, 19, 1, .u16, .ro, 0, 0⟩,
  ⟨0x2700, 1, 20, 1, .u16, .rw, 13500, 13500⟩,
  ⟨0x2700, 1, 21, 1, .u16, .rw, 6000, 6000⟩,
  ⟨0x2700, 1, 22, 1, .u16, .rw, 6500, 6500⟩,
  ⟨0x2700, 1, 23, 1, .u16, .ro, 0, 0⟩,
  ⟨0x2700, 1, 24, 1, .u16, .ro, 0, 0⟩,
  ⟨0x2700, 1, 25, 1, .u16, .ro, 0, 0⟩,
  ⟨0x2700, 1, 26, 1, .i32, .ro, 0, 0⟩,
  ⟨0x2700, 1, 27, 1, .u16, .rwx, 4000, 4000⟩,
  ⟨0x2701, 1, 1, 1, .bool, .rw, 1, 1⟩,
  ⟨0x2701, 1, 2, 1, .u8, .ro, 0, 0⟩,
  ⟨0x2701, 1, 3, 1, .u16, .rwx, 1000, 1000⟩,
  ⟨0x2701, 1, 4, 1, .u16, .rwx, 200, 200⟩,
  ⟨0x2701, 1, 5, 1, .u16, .rw, 900, 900⟩,
  ⟨0x2701, 1, 6, 1, .u16, .rwx, 30, 30⟩,
  ⟨0x2701, 1, 7, 1, .u16, .rwx, 240, 240⟩,
  ⟨0x2701, 1, 8, 1, .u8, .rw, 5, 5⟩,
  ⟨0x2701, 1, 9, 1, .u8, .rw, 5, 5⟩,
  ⟨0x2701, 1, 10, 1, .u8, .rw, 10, 10⟩,
  ⟨0x2701, 1, 11, 1, .i16, .rwx, 50, 50⟩,
  ⟨0x2701, 1, 12, 1, .i16, .rwx, 450, 450⟩,
  ⟨0x2701, 1, 13, 1, .i16, .rwx, 550, 550⟩,
  ⟨0x2701, 1, 14, 1, .u16, .rwx, 1600, 1600⟩,
  ⟨0x2701, 1, 15, 1, .u8, .rw, 90, 90⟩,
  ⟨0x2701, 1, 16, 1, .u16, .rw, 10, 10⟩,
  ⟨0x2701, 1, 17, 1, .u16, .ro, 0, 0⟩,
  ⟨0x2701, 1, 18, 1, .u8, .ro, 0, 0⟩,
  ⟨0x2701, 1, 19, 1, .i16, .ro, 0, 0⟩,
  ⟨0x2701, 1, 20, 1, .u16, .ro, 0, 0⟩,
  ⟨0x2701, 1, 21, 1, .u16, .ro, 0, 0⟩,
  ⟨0x2702, 1, 1, 1, .u8, .rwx, 0, 0⟩,
  ⟨0x2702, 1, 2, 1, .u16, .rw, 2000, 2000⟩]

/-- Rows from 0x2702 (R331) on. -/
def objRows4 : List ObjRow := [
  ⟨0x2702, 1, 3, 1, .u16, .rw, 10000, 10000⟩,
  ⟨0x2702, 1, 4, 1, .u16, .rw, 3435, 3435⟩,
  ⟨0x2702, 1, 5, 1, .u8, .rw, 100, 100⟩,
  ⟨0x2702, 1, 6, 1, .u16, .ro, 0, 0⟩,
  ⟨0x2702, 1, 7, 1, .i16, .ro, 0, 0⟩,
  ⟨0x2702, 1, 8, 1, .bool, .ro, 0, 0⟩,
  ⟨0x2703, 1, 1, 4, .u8, .rw, 0, 0⟩,
  ⟨0x2710, 1, 1, 1, .u16, .ro, 0, 0⟩,
  ⟨0x2710, 1, 2, 1, .u16, .ro, 0, 0⟩,
  ⟨0x2710, 1, 3, 1, .u16, .ro, 0, 0⟩,
  ⟨0x2710, 1, 4, 1, .u16, .ro, 0, 0⟩,
  ⟨0x2710, 1, 5, 1, .u16, .ro, 0, 0⟩,
  ⟨0x2710, 1, 6, 1, .u16, .ro, 0, 0⟩,
  ⟨0x2710, 1, 7, 1, .u16, .ro, 0, 0⟩,
  ⟨0x2710, 1, 8, 1, .u16, .ro, 0, 0⟩,
  ⟨0x2710, 1, 9, 1, .u8, .rwx, 10, 10⟩,
  ⟨0x2710, 1, 10, 1, .u16, .rwx, 1000, 1000⟩,
  ⟨0x2710, 1, 11, 1, .u16, .rw, 20, 20⟩,
  ⟨0x2710, 1, 12, 1, .u8, .rw, 5, 5⟩,
  ⟨0x2710, 1, 13, 1, .u8, .rw, 13, 13⟩,
  ⟨0x2710, 1, 14, 1, .u16, .rw, 10, 10⟩,
  ⟨0x2710, 1, 15, 1, .u16, .ro, 0, 0⟩,
  ⟨0x2710, 1, 16, 1, .u16, .ro, 0, 0⟩,
  ⟨0x2710, 1, 17, 1, .u32, .ro, 0, 0⟩,
  ⟨0x2710, 1, 18, 1, .u32, .ro, 0, 0⟩,
  ⟨0x2710, 1, 19, 1, .u16, .ro, 0, 0⟩,
  ⟨0x2710, 1, 20, 1, .u16, .ro, 0, 0⟩,
  ⟨0x2711, 1, 1, 1, .u8, .ro, 0, 0⟩,
  ⟨0x2711, 1, 2, 1, .u8, .ro, 0, 0⟩,
  ⟨0x2711, 1, 3, 1, .u16, .ro, 0, 0⟩,
  ⟨0x2711, 1, 4, 1, .u16, .ro, 0, 0⟩,
  ⟨0x2711, 1, 5, 1, .u16, .ro, 0, 0⟩,
  ⟨0x2711, 1, 6, 1, .u8, .rw, 50, 50⟩,
  ⟨0x2711, 1, 7, 1, .u32, .ro, 0, 0⟩,
  ⟨0x2711, 1, 8, 1, .u16, .rw, 72, 72⟩,
  ⟨0x2711, 1, 9, 1, .bool, .rwx, 0, 0⟩,
  ⟨0x2711, 1, 10, 1, .u16, .rw, 90, 90⟩,
  ⟨0x2711, 1, 11, 1, .u8, .wo, 0, 0⟩,
  ⟨0x2711, 1, 12, 1, .u8, .ro, 0, 0⟩,
  ⟨0x2711, 1, 13, 1, .u16, .rw, 1440, 1440⟩,
  ⟨0x2711, 1, 14, 1, .u16, .ro, 0, 0⟩,
  ⟨0x2711, 1, 15, 1, .u8, .wo, 0, 0⟩,
  ⟨0x2712, 1, 1, 1, .domain, .rw, 0, 0⟩,
  ⟨0x2712, 1, 2, 1, .u8, .ro, 0, 0⟩,
  ⟨0x2712, 1, 3, 1, .u32, .ro, 0, 0⟩,
  ⟨0x2800, 1, 1, 1, .u16, .ro, 0, 0⟩,
  ⟨0x2800, 1, 2, 1, .u32, .ro, 0, 0⟩,
  ⟨0x2800, 1, 3, 1, .u16, .ro, 0, 0⟩]

/-- Rows from 0x2801 (R399) on. -/
def objRows5 : List ObjRow := [
  ⟨0x2801, 1, 1, 1, .u32, .wo, 0, 0⟩,
  ⟨0x2801, 1, 2, 1, .u8, .ro, 0, 0⟩,
  ⟨0x2802, 1, 1, 1, .domain, .rw, 0, 0⟩,
  ⟨0x2802, 1, 2, 1, .u32, .wo, 0, 0⟩,
  ⟨0x2802, 1, 3, 1, .u8, .ro, 0, 0⟩,
  ⟨0x2802, 1, 4, 1, .u32, .ro, 0, 0⟩,
  ⟨0x2803, 1, 1, 1, .u32, .ro, 0, 0⟩,
  ⟨0x2803, 1, 2, 1, .u32, .rw, 0, 0⟩,
  ⟨0x2803, 1, 3, 1, .domain, .ro, 0, 0⟩,
  ⟨0x2803, 1, 4, 1, .u16, .ro, 0, 0⟩,
  ⟨0x2803, 1, 5, 1, .u32, .ro, 0, 0⟩,
  ⟨0x2804, 1, 1, 1, .u8, .ro, 0, 0⟩,
  ⟨0x2804, 1, 2, 1, .u32, .ro, 0, 0⟩,
  ⟨0x2804, 1, 3, 1, .u32, .ro, 0, 0⟩,
  ⟨0x2804, 1, 4, 1, .u64, .ro, 0, 0⟩,
  ⟨0x2804, 1, 5, 1, .u16, .ro, 0, 0⟩,
  ⟨0x2804, 1, 6, 1, .domain, .ro, 0, 0⟩,
  ⟨0x2804, 1, 7, 1, .u16, .ro, 0, 0⟩,
  ⟨0x2805, 1, 1, 1, .u8, .ro, 0, 0⟩,
  ⟨0x2805, 1, 2, 1, .u16, .ro, 0, 0⟩,
  ⟨0x2805, 1, 3, 1, .u32, .ro, 0, 0⟩,
  ⟨0x2806, 1, 1, 1, .u8, .ro, 0, 0⟩,
  ⟨0x2806, 1, 2, 1, .u16, .ro, 0, 0⟩,
  ⟨0x2807, 1, 1, 1, .u16, .ro, 0, 0⟩,
  ⟨0x2807, 1, 2, 1, .u16, .ro, 0, 0⟩,
  ⟨0x2807, 1, 3, 1, .u32, .const, 0, 0⟩,
  ⟨0x2807, 1, 4, 1, .u32, .ro, 0, 0⟩,
  ⟨0x2900, 1, 1, 1, .bool, .rw, 1, 1⟩,
  ⟨0x2900, 1, 2, 1, .u64, .rw, 281474976710655, 281474976710655⟩,
  ⟨0x2900, 1, 3, 1, .u8, .rw, 0, 0⟩,
  ⟨0x2900, 1, 4, 1, .u16, .ro, 0, 0⟩,
  ⟨0x2900, 1, 5, 1, .u8, .wo, 0, 0⟩,
  ⟨0x2900, 1, 6, 1, .u32, .ro, 0, 0⟩,
  ⟨0x2900, 1, 7, 1, .u64, .ro, 0, 0⟩,
  ⟨0x2900, 1, 8, 1, .u64, .ro, 0, 0⟩,
  ⟨0x2900, 1, 9, 1, .u8, .rw, 8, 8⟩,
  ⟨0x2901, 1, 1, 5, .u16, .ro, 0, 0⟩,
  ⟨0x2901, 1, 6, 5, .i16, .ro, 0, 0⟩,
  ⟨0x2902, 1, 1, 48, .u16, .ro, 0, 0⟩,
  ⟨0x2903, 1, 1, 48, .i32, .ro, 0, 0⟩,
  ⟨0x2904, 1, 1, 48, .u16, .rw, 0, 0⟩,
  ⟨0x2905, 1, 1, 48, .u16, .rw, 4095, 4095⟩,
  ⟨0x2910, 1, 1, 1, .bool, .rwx, 1, 1⟩,
  ⟨0x2910, 1, 2, 1, .i16, .rwx, 1350, 1350⟩,
  ⟨0x2910, 1, 3, 1, .i16, .rwx, 1350, 1350⟩,
  ⟨0x2910, 1, 4, 1, .u8, .rwx, 50, 50⟩,
  ⟨0x2910, 1, 5, 1, .u8, .rwx, 8, 8⟩,
  ⟨0x2910, 1, 6, 1, .u32, .rwx, 0, 0⟩]

/-- Rows from 0x2910 (R429) on. -/
def objRows6 : List ObjRow := [
  ⟨0x2910, 1, 7, 1, .bool, .rwx, 1, 1⟩,
  ⟨0x2910, 1, 8, 1, .i16, .const, 0, 0⟩,
  ⟨0x2910, 1, 9, 1, .u16, .ro, 0, 0⟩,
  ⟨0x2910, 1, 10, 1, .u32, .ro, 0, 0⟩,
  ⟨0x2911, 1, 1, 8, .i16, .ro, 0, 0⟩,
  ⟨0x2912, 1, 1, 8, .u8, .ro, 0, 0⟩,
  ⟨0x2913, 1, 1, 34, .i16, .ro, 0, 0⟩,
  ⟨0x2914, 1, 1, 1, .u64, .ro, 0, 0⟩,
  ⟨0x2920, 8, 1, 1, .u8, .rw, 0, 0⟩,
  ⟨0x2920, 8, 2, 1, .u8, .rw, 255, 255⟩,
  ⟨0x2920, 8, 3, 1, .u16, .rw, 1008, 1008⟩,
  ⟨0x2920, 8, 4, 1, .u16, .rw, 10000, 10000⟩,
  ⟨0x2920, 8, 5, 1, .u16, .rw, 3435, 3435⟩,
  ⟨0x2920, 8, 6, 1, .i16, .rw, 0, 0⟩,
  ⟨0x2920, 8, 7, 1, .i16, .ro, 0, 0⟩,
  ⟨0x2920, 8, 8, 1, .u8, .ro, 0, 0⟩,
  ⟨0x2A10, 1, 1, 1, .bool, .rw, 0, 0⟩,
  ⟨0x2A10, 1, 2, 1, .u16, .rwx, 164, 164⟩,
  ⟨0x2A10, 1, 3, 1, .u16, .rwx, 492, 492⟩,
  ⟨0x2A10, 1, 4, 1, .u16, .rwx, 656, 656⟩,
  ⟨0x2A10, 1, 5, 1, .u8, .rwx, 1, 1⟩,
  ⟨0x2A10, 1, 6, 1, .u16, .rwx, 1, 1⟩,
  ⟨0x2A10, 1, 7, 1, .u16, .rwx, 0, 0⟩,
  ⟨0x2A10, 1, 8, 1, .u16, .wo, 0, 0⟩,
  ⟨0x2A10, 1, 9, 1, .u16, .wo, 0, 0⟩,
  ⟨0x2A10, 1, 10, 1, .u8, .rwx, 0, 0⟩,
  ⟨0x2A10, 1, 11, 1, .u8, .rwx, 1, 1⟩,
  ⟨0x2A10, 1, 12, 1, .u8, .rwx, 0, 0⟩,
  ⟨0x2A10, 1, 13, 1, .u8, .rwx, 1, 1⟩,
  ⟨0x2A10, 1, 14, 1, .u8, .rwx, 50, 50⟩,
  ⟨0x2A11, 1, 1, 1, .u16, .ro, 0, 0⟩,
  ⟨0x2A11, 1, 2, 1, .u16, .ro, 0, 0⟩,
  ⟨0x2A11, 1, 3, 1, .u16, .wo, 0, 0⟩,
  ⟨0x2A11, 1, 4, 1, .u16, .wo, 0, 0⟩,
  ⟨0x2A11, 1, 5, 1, .u8, .wo, 0, 0⟩,
  ⟨0x2A11, 1, 6, 1, .u8, .wo, 0, 0⟩,
  ⟨0x2A11, 1, 7, 1, .u16, .ro, 0, 0⟩,
  ⟨0x2A11, 1, 8, 1, .u32, .ro, 0, 0⟩,
  ⟨0x2A11, 1, 9, 1, .u16, .ro, 0, 0⟩,
  ⟨0x2A11, 1, 10, 1, .u8, .ro, 0, 0⟩,
  ⟨0x2A11, 1, 11, 1, .u8, .ro, 0, 0⟩,
  ⟨0x2A11, 1, 12, 1, .u32, .ro, 0, 0⟩,
  ⟨0x2A11, 1, 13, 1, .u32, .ro, 0, 0⟩,
  ⟨0x2A11, 1, 14, 1, .u32, .ro, 0, 0⟩,
  ⟨0x2A11, 1, 15, 1, .u16, .ro, 0, 0⟩,
  ⟨0x2A12, 1, 1, 16, .u16, .ro, 0, 0⟩,
  ⟨0x2A13, 1, 1, 16, .u16, .ro, 0, 0⟩,
  ⟨0x2A18, 1, 1, 1, .u32, .ro, 0, 0⟩]

/-- Rows from 0x2A18 (R460) on. -/
def objRows7 : List ObjRow := [
  ⟨0x2A18, 1, 2, 1, .u32, .ro, 0, 0⟩,
  ⟨0x2A20, 1, 1, 1, .u16, .ro, 0, 0⟩,
  ⟨0x2A20, 1, 2, 1, .u16, .ro, 0, 0⟩,
  ⟨0x2A20, 1, 3, 1, .u16, .ro, 0, 0⟩,
  ⟨0x2A20, 1, 4, 1, .u8, .wo, 0, 0⟩,
  ⟨0x2A20, 1, 5, 1, .bool, .rwx, 0, 0⟩,
  ⟨0x2A20, 1, 6, 1, .u32, .rwx, 1023, 1023⟩,
  ⟨0x2A20, 1, 7, 1, .bool, .rw, 0, 0⟩,
  ⟨0x2A20, 1, 8, 1, .u32, .ro, 0, 0⟩,
  ⟨0x2A20, 1, 9, 1, .u16, .ro, 0, 0⟩,
  ⟨0x2A20, 1, 10, 1, .u32, .ro, 0, 0⟩,
  ⟨0x2A21, 1, 1, 1, .bool, .ro, 0, 0⟩,
  ⟨0x2A21, 1, 2, 1, .u32, .ro, 0, 0⟩,
  ⟨0x2A21, 1, 3, 1, .u8, .ro, 0, 0⟩,
  ⟨0x2A21, 1, 4, 1, .u8, .ro, 0, 0⟩,
  ⟨0x2A21, 1, 5, 1, .u64, .ro, 0, 0⟩,
  ⟨0x2A21, 1, 6, 1, .u32, .ro, 0, 0⟩,
  ⟨0x2B00, 2, 1, 1, .u8, .rw, 0, 0⟩,
  ⟨0x2B00, 2, 2, 1, .u8, .rw, 8, 8⟩,
  ⟨0x2B00, 2, 3, 1, .bool, .rw, 0, 0⟩,
  ⟨0x2B00, 2, 4, 1, .u8, .rw, 1, 1⟩,
  ⟨0x2B00, 2, 5, 1, .bool, .rw, 1, 1⟩,
  ⟨0x2B00, 2, 6, 1, .u16, .rw, 100, 100⟩,
  ⟨0x2B00, 2, 7, 1, .u16, .ro, 0, 0⟩,
  ⟨0x2B00, 2, 8, 1, .u16, .ro, 0, 0⟩,
  ⟨0x2B00, 2, 9, 1, .u16, .ro, 0, 0⟩,
  ⟨0x2B00, 2, 10, 1, .u32, .ro, 0, 0⟩,
  ⟨0x2B00, 2, 11, 1, .u32, .ro, 0, 0⟩,
  ⟨0x2B00, 2, 12, 1, .u16, .ro, 0, 0⟩,
  ⟨0x2B00, 2, 13, 1, .u16, .ro, 0, 0⟩,
  ⟨0x2B10, 2, 1, 8, .u8, .rwx, 255, 255⟩,
  ⟨0x2C00, 1, 1, 1, .bool, .rw, 0, 0⟩,
  ⟨0x2C00, 1, 2, 1, .u64, .ro, 0, 0⟩,
  ⟨0x2C00, 1, 3, 1, .u64, .ro, 0, 0⟩,
  ⟨0x2C00, 1, 4, 1, .u64, .ro, 0, 0⟩,
  ⟨0x2C00, 1, 5, 1, .u64, .ro, 0, 0⟩,
  ⟨0x2C00, 1, 6, 1, .u64, .ro, 0, 0⟩,
  ⟨0x2C00, 1, 7, 1, .u64, .ro, 0, 0⟩,
  ⟨0x2C00, 1, 8, 1, .u64, .ro, 0, 0⟩,
  ⟨0x2C00, 1, 9, 1, .u64, .ro, 0, 0⟩,
  ⟨0x2C10, 1, 1, 128, .u8, .rw, 0, 0⟩,
  ⟨0x2C11, 1, 1, 128, .u8, .ro, 0, 0⟩,
  ⟨0x2D00, 4, 1, 1, .bool, .rw, 1, 1⟩,
  ⟨0x2D00, 4, 2, 1, .u8, .rw, 0, 0⟩,
  ⟨0x2D00, 4, 3, 1, .u8, .rw, 2, 2⟩,
  ⟨0x2D00, 4, 4, 1, .u16, .rw, 63, 63⟩,
  ⟨0x2D00, 4, 5, 1, .u8, .rw, 16, 16⟩,
  ⟨0x2D00, 4, 6, 1, .u8, .rw, 16, 16⟩]

/-- Rows from 0x2D00 (R528) on. -/
def objRows8 : List ObjRow := [
  ⟨0x2D00, 4, 7, 1, .u8, .rw, 1, 1⟩,
  ⟨0x2D00, 4, 8, 1, .u8, .rw, 31, 31⟩,
  ⟨0x2D00, 4, 9, 1, .u8, .rw, 8, 8⟩,
  ⟨0x2D00, 4, 10, 1, .u8, .rw, 8, 8⟩,
  ⟨0x2D00, 4, 11, 1, .bool, .rw, 0, 0⟩,
  ⟨0x2D00, 4, 12, 1, .u8, .rw, 32, 32⟩,
  ⟨0x2D00, 4, 13, 1, .bool, .rw, 1, 1⟩,
  ⟨0x2D00, 4, 14, 1, .bool, .rw, 1, 1⟩,
  ⟨0x2D00, 4, 15, 1, .u8, .ro, 0, 0⟩,
  ⟨0x2D00, 4, 16, 1, .u8, .ro, 0, 0⟩,
  ⟨0x2D00, 4, 17, 1, .u8, .ro, 0, 0⟩,
  ⟨0x2D00, 4, 18, 1, .u8, .ro, 0, 0⟩,
  ⟨0x2D00, 4, 19, 1, .u32, .ro, 0, 0⟩,
  ⟨0x2D00, 4, 20, 1, .u32, .ro, 0, 0⟩,
  ⟨0x2D00, 4, 21, 1, .u32, .ro, 0, 0⟩,
  ⟨0x2D00, 4, 22, 1, .u32, .ro, 0, 0⟩,
  ⟨0x2D00, 4, 23, 1, .u16, .ro, 0, 0⟩,
  ⟨0x2D00, 4, 24, 1, .u8, .wo, 0, 0⟩,
  ⟨0x2D10, 4, 1, 1, .u16, .rw, 1280, 1280⟩,
  ⟨0x2D10, 4, 2, 1, .u16, .rw, 100, 100⟩,
  ⟨0x2D10, 4, 3, 1, .u16, .rw, 65535, 65535⟩,
  ⟨0x2D10, 4, 4, 1, .u16, .rw, 300, 300⟩,
  ⟨0x2D10, 4, 5, 1, .u8, .ro, 0, 0⟩,
  ⟨0x2D10, 4, 6, 1, .u32, .ro, 0, 0⟩,
  ⟨0x2D10, 4, 7, 1, .u32, .ro, 0, 0⟩,
  ⟨0x2D10, 4, 8, 1, .u32, .ro, 0, 0⟩,
  ⟨0x2D10, 4, 9, 1, .u8, .ro, 0, 0⟩,
  ⟨0x2D20, 1, 1, 6, .u8, .ro, 0, 0⟩,
  ⟨0x2D30, 1, 1, 1, .u8, .ro, 0, 0⟩,
  ⟨0x2D30, 1, 2, 1, .u32, .ro, 0, 0⟩,
  ⟨0x2D30, 1, 3, 1, .u32, .ro, 0, 0⟩,
  ⟨0x2D30, 1, 4, 1, .u32, .ro, 0, 0⟩,
  ⟨0x2D40, 64, 1, 1, .u8, .rw, 0, 0⟩,
  ⟨0x2D40, 64, 2, 1, .u16, .rw, 100, 100⟩,
  ⟨0x2D40, 64, 3, 1, .u16, .rw, 10, 10⟩,
  ⟨0x2D40, 64, 4, 1, .u8, .rw, 0, 0⟩,
  ⟨0x2D40, 64, 5, 8, .u32, .rw, 0, 0⟩,
  ⟨0x2D40, 64, 13, 1, .u32, .ro, 0, 0⟩,
  ⟨0x2E00, 1, 1, 1, .domain, .wo, 0, 0⟩,
  ⟨0x2E00, 1, 2, 1, .domain, .wo, 0, 0⟩,
  ⟨0x2E00, 1, 3, 1, .u32, .wo, 0, 0⟩,
  ⟨0x2E00, 1, 4, 1, .u8, .ro, 0, 0⟩,
  ⟨0x2E00, 1, 5, 1, .u8, .ro, 0, 0⟩,
  ⟨0x2E00, 1, 6, 1, .u16, .ro, 0, 0⟩,
  ⟨0x2E00, 1, 7, 1, .u16, .ro, 0, 0⟩,
  ⟨0x2E01, 1, 1, 1, .u8, .ro, 0, 0⟩,
  ⟨0x2E01, 1, 2, 2, .u8, .ro, 0, 0⟩,
  ⟨0x2E01, 1, 4, 2, .u32, .ro, 0, 0⟩]

/-- Rows from 0x2E01 (R545) on. -/
def objRows9 : List ObjRow := [
  ⟨0x2E01, 1, 6, 2, .u32, .ro, 0, 0⟩,
  ⟨0x2E01, 1, 8, 1, .u32, .const, 0, 0⟩,
  ⟨0x2E10, 1, 1, 1, .u8, .ro, 0, 0⟩,
  ⟨0x2E10, 1, 2, 1, .u32, .wo, 0, 0⟩,
  ⟨0x3000, 28, 1, 1, .u8, .rw, 0, 0⟩,
  ⟨0x3000, 28, 2, 1, .u16, .rw, 4096, 4096⟩,
  ⟨0x3000, 28, 3, 1, .u16, .rw, 500, 500⟩,
  ⟨0x3000, 28, 4, 1, .u8, .rw, 50, 50⟩,
  ⟨0x3000, 28, 5, 1, .u16, .rw, 512, 512⟩,
  ⟨0x3000, 28, 6, 1, .u16, .rw, 64, 64⟩,
  ⟨0x3000, 28, 7, 1, .u16, .rw, 256, 256⟩,
  ⟨0x3000, 28, 8, 1, .u8, .rw, 255, 255⟩,
  ⟨0x3000, 28, 9, 1, .u8, .wo, 0, 0⟩,
  ⟨0x3000, 28, 10, 1, .u16, .rw, 0, 0⟩,
  ⟨0x3000, 28, 11, 1, .u8, .rw, 1, 1⟩,
  ⟨0x3000, 28, 12, 1, .bool, .rw, 1, 1⟩,
  ⟨0x3000, 28, 13, 1, .bool, .rw, 1, 1⟩,
  ⟨0x3000, 28, 14, 1, .bool, .rw, 1, 1⟩,
  ⟨0x3000, 28, 15, 1, .u8, .rw, 5, 5⟩,
  ⟨0x3000, 28, 16, 1, .u8, .rw, 128, 128⟩,
  ⟨0x3000, 28, 17, 1, .u8, .rw, 10, 10⟩,
  ⟨0x3000, 28, 18, 1, .u16, .rw, 100, 100⟩,
  ⟨0x3000, 28, 19, 1, .u16, .ro, 0, 0⟩,
  ⟨0x3000, 28, 20, 1, .u16, .ro, 0, 0⟩,
  ⟨0x3000, 28, 21, 1, .i32, .ro, 0, 0⟩,
  ⟨0x3000, 28, 22, 1, .u16, .ro, 0, 0⟩,
  ⟨0x3000, 28, 23, 1, .u8, .ro, 0, 0⟩,
  ⟨0x3000, 28, 24, 1, .u8, .ro, 0, 0⟩,
  ⟨0x3000, 28, 25, 1, .u8, .ro, 0, 0⟩,
  ⟨0x3000, 28, 26, 1, .u16, .ro, 0, 0⟩,
  ⟨0x3100, 28, 1, 1, .u16, .rw, 750, 750⟩,
  ⟨0x3100, 28, 2, 1, .u16, .rw, 100, 100⟩,
  ⟨0x3100, 28, 3, 1, .u16, .rw, 10, 10⟩,
  ⟨0x3100, 28, 4, 1, .u16, .ro, 0, 0⟩,
  ⟨0x3100, 28, 5, 1, .u16, .ro, 0, 0⟩,
  ⟨0x3100, 28, 6, 1, .u16, .ro, 0, 0⟩,
  ⟨0x3100, 28, 7, 1, .u8, .ro, 0, 0⟩,
  ⟨0x3100, 28, 8, 1, .u32, .ro, 0, 0⟩,
  ⟨0x3100, 28, 9, 1, .u32, .ro, 0, 0⟩,
  ⟨0x3100, 28, 10, 1, .bool, .rw, 1, 1⟩,
  ⟨0x3100, 28, 11, 1, .u8, .rw, 40, 40⟩,
  ⟨0x3100, 28, 12, 1, .u8, .rw, 20, 20⟩,
  ⟨0x3100, 28, 13, 1, .u32, .ro, 0, 0⟩,
  ⟨0x3100, 28, 14, 1, .u32, .ro, 0, 0⟩,
  ⟨0x3100, 28, 15, 1, .bool, .rw, 0, 0⟩,
  ⟨0x3100, 28, 16, 1, .u8, .rw, 1, 1⟩,
  ⟨0x3100, 28, 17, 1, .u16, .rw, 10000, 10000⟩,
  ⟨0x3100, 28, 18, 1, .u16, .rw, 20000, 20000⟩]

/-- Rows from 0x3100 (R240) on. -/
def objRows10 : List ObjRow := [
  ⟨0x3100, 28, 19, 1, .u16, .rw, 50, 50⟩,
  ⟨0x3100, 28, 20, 1, .u16, .rw, 200, 200⟩,
  ⟨0x3100, 28, 21, 1, .u32, .ro, 0, 0⟩,
  ⟨0x3100, 28, 22, 1, .u32, .ro, 0, 0⟩,
  ⟨0x3100, 28, 23, 1, .u32, .ro, 0, 0⟩,
  ⟨0x3100, 28, 24, 1, .bool, .rw, 1, 1⟩,
  ⟨0x3100, 28, 25, 1, .bool, .rw, 0, 0⟩,
  ⟨0x3100, 28, 26, 1, .u16, .rw, 0, 0⟩,
  ⟨0x3100, 28, 27, 1, .u8, .rw, 20, 20⟩,
  ⟨0x3100, 28, 28, 1, .u32, .wo, 0, 0⟩,
  ⟨0x3100, 28, 29, 1, .u32, .ro, 0, 0⟩,
  ⟨0x3100, 28, 30, 1, .u32, .ro, 0, 0⟩,
  ⟨0x3100, 28, 31, 1, .bool, .rw, 0, 0⟩,
  ⟨0x3100, 28, 32, 1, .u32, .rw, 0, 0⟩,
  ⟨0x3100, 28, 33, 1, .u16, .rw, 0, 0⟩,
  ⟨0x3100, 28, 34, 1, .u16, .rw, 200, 200⟩,
  ⟨0x3100, 28, 35, 1, .u16, .rw, 500, 500⟩,
  ⟨0x3100, 28, 36, 1, .u16, .rw, 900, 900⟩,
  ⟨0x3100, 28, 37, 4, .u16, .rw, 12000, 12000⟩,
  ⟨0x3100, 28, 41, 1, .u8, .rw, 10, 10⟩,
  ⟨0x3100, 28, 42, 1, .u16, .ro, 0, 0⟩,
  ⟨0x3100, 28, 43, 1, .u16, .ro, 0, 0⟩,
  ⟨0x3200, 28, 1, 1, .u16, .ro, 0, 0⟩,
  ⟨0x3200, 28, 2, 1, .u16, .ro, 0, 0⟩,
  ⟨0x3200, 28, 3, 1, .u8, .rwx, 50, 50⟩,
  ⟨0x3200, 28, 4, 1, .u8, .rwx, 30, 30⟩,
  ⟨0x3200, 28, 5, 1, .u8, .rwx, 60, 60⟩,
  ⟨0x3200, 28, 6, 1, .u16, .rwx, 100, 100⟩,
  ⟨0x3200, 28, 7, 1, .u16, .rwx, 50000, 50000⟩,
  ⟨0x3200, 28, 8, 1, .u16, .rwx, 110, 110⟩,
  ⟨0x3200, 28, 9, 1, .u16, .rwx, 50, 50⟩,
  ⟨0x3200, 28, 10, 1, .u16, .rw, 10, 10⟩,
  ⟨0x3200, 28, 11, 1, .u8, .rwx, 0, 0⟩,
  ⟨0x3200, 28, 12, 1, .u16, .ro, 0, 0⟩,
  ⟨0x3200, 28, 13, 1, .u8, .wo, 0, 0⟩,
  ⟨0x3200, 28, 14, 1, .u8, .ro, 0, 0⟩,
  ⟨0x3200, 28, 15, 1, .u32, .ro, 0, 0⟩,
  ⟨0x3200, 28, 16, 1, .u32, .ro, 0, 0⟩,
  ⟨0x3200, 28, 17, 1, .u16, .ro, 0, 0⟩,
  ⟨0x3400, 56, 1, 1, .u8, .rw, 255, 255⟩,
  ⟨0x3400, 56, 2, 1, .u16, .rw, 5000, 5000⟩,
  ⟨0x3400, 56, 3, 1, .u16, .rw, 1200, 1200⟩,
  ⟨0x3400, 56, 4, 1, .i16, .ro, 0, 0⟩,
  ⟨0x3400, 56, 5, 1, .i16, .ro, 0, 0⟩,
  ⟨0x3400, 56, 6, 1, .u8, .ro, 0, 0⟩,
  ⟨0x3400, 56, 7, 1, .u32, .ro, 0, 0⟩,
  ⟨0x3801, 7, 1, 1, .u8, .ro, 0, 0⟩]

/-- The object tables of every chapter, by index. -/
def objRows : List ObjRow :=
  objRows0 ++ objRows1 ++ objRows2 ++ objRows3 ++ objRows4 ++ objRows5 ++ objRows6 ++ objRows7 ++ objRows8 ++ objRows9 ++ objRows10

/-- Rail dies of the part (R1, R558). DESIGN CHOICE, log entry 1. -/
def Part.dies : Part → Nat
  | .qmn2402 => 1 | .qmn2404 => 3 | .qmn2408 => 7

/-- Indices of a part (R546). -/
def Part.indices : Part → Nat
  | .qmn2402 => 283 | .qmn2404 => 333 | .qmn2408 => 433

/-- A row holds an object. -/
def ObjRow.holds (r : ObjRow) (idx sub : Nat) : Bool :=
  decide (r.base ≤ idx) && decide (idx < r.base + r.cnt) && decide (r.sub ≤ sub) && decide (sub < r.sub + r.nsub)

/-- The slots that have a source in a part (R485). -/
def slotListed (p : Part) (slot : Nat) : Bool :=
  decide (slot < 48) || (decide (64 ≤ slot) && decide (slot < 64 + 8 * p.dies))

/-- An index and subindex of the tables exist in the part (R5, R485, R546, R561). -/
def inPart (p : Part) (idx sub : Nat) : Bool :=
  let lo := idx % 256
  if idx = 0x2101 ∨ idx = 0x2102 then decide (sub ≤ p.dies)
  else if idx = 0x2911 ∨ idx = 0x2912 then decide (sub ≤ p.dies + 1)
  else if idx = 0x2913 then decide (sub ≤ 6 + 4 * p.dies)
  else if idx = 0x2C10 ∨ idx = 0x2C11 then slotListed p (sub - 1)
  else match idx / 256 with
    | 0x26 => decide (28 ≤ lo ∨ lo < 4 * p.dies)
    | 0x30 | 0x31 | 0x32 => decide (lo < 4 * p.dies)
    | 0x34 => decide (lo < 8 * p.dies)
    | 0x38 => decide (lo ≤ p.dies)
    | _ => true

/-- The row of an object that exists, subindex 0 apart. -/
def objRow (p : Part) (idx sub : Nat) : Option ObjRow :=
  (objRows.find? fun r => r.holds idx sub).filter fun _ => inPart p idx sub

/-- The highest subindex that exists at an index; 0 where the index does not exist (R546). -/
def maxSub (p : Part) (idx : Nat) : Nat :=
  ((objRows.filter fun r => decide (r.base ≤ idx ∧ idx < r.base + r.cnt)).flatMap fun r =>
    (List.range' r.sub r.nsub).filter fun sub => inPart p idx sub).foldl max 0

/-- The row of any object of the dictionary: subindex 0 is a U8 CONST at each index that exists (R546). -/
def objFind (p : Part) (idx sub : Nat) : Option ObjRow :=
  if sub = 0 then (if maxSub p idx = 0 then none else some ⟨idx, 1, 0, 1, .u8, .const, 0, 0⟩) else objRow p idx sub

/-- The stored objects of R553. -/
def objStored (r : ObjRow) (idx sub : Nat) : Bool :=
  if idx = 0x2A10 ∧ (sub = 8 ∨ sub = 9) then true
  else (decide (r.acc = .rw) || decide (r.acc = .rwx))
    && !(decide (idx = 0x2108 ∧ sub = 2) || decide (idx = 0x2803 ∧ sub = 2) || decide (idx = 0x2001)
      || decide (idx = 0x2712) || decide (idx = 0x2802))

/-- The largest payload of an image (R529). -/
abbrev imageMax : Nat := 245760

/-- The largest size of an object in bytes (R375, R357, R379, R389, R530, R534). -/
def objSize (r : ObjRow) (idx sub : Nat) : Nat :=
  match r.typ with
  | .domain =>
    if idx = 0x2712 then 1240 else if idx = 0x2802 then 32696 else if idx = 0x2803 then 32
    else if idx = 0x2804 then 4096 else if idx = 0x2E00 ∧ sub = 1 then 256 else imageMax
  | t => t.bytes

/-- Bound to one port (R517). -/
def objBound (idx sub : Nat) : Bool :=
  (decide (idx = 0x2703) && decide (sub ≠ 0)) || (decide (idx = 0x2A11) && decide (3 ≤ sub ∧ sub ≤ 6))

end Sys2Proof.Machine
end

