-- ==== Sys2Proof/Machine/Operands.lean ====
section
/-! DEFINITION. The settings a command or a function reads: the running configuration of R553, its defaults (R124), the
shadow copies of a station-kept rail (R113), a value outside its range (R13), and who may write an object (R516, R517). -/

namespace Sys2Proof.Machine

/-- Rail die k − 1 exists in the part (R5). DESIGN CHOICE, log entries 1 and 6. -/
def diePresent (s : State) (k : Fin 7) : Bool := decide (k.val < s.part.dies)

/-- Rail `r` exists in the part (R5). DESIGN CHOICE, log entries 1 and 6. -/
def railPresent (s : State) (r : Fin 28) : Bool := decide (r.val < 4 * s.part.dies)

/-! ### The map of settings -/

/-- The key of an object: index × 256 + subindex. -/
def okey (idx sub : Nat) : Nat := idx * 256 + sub

/-- The index of buck or LDO `n` (R296). -/
def regIdx (n : Fin 10) : Nat := if n.val < 6 then 0x2430 + n else 0x2432 + n

/-- The value stored under a key. -/
def mapGet (k : Nat) : List (Nat × Nat) → Option Nat
  | [] => none
  | (a, v) :: l => if a = k then some v else mapGet k l

/-- Store a value under a key; keys stay rising and occur once. DESIGN CHOICE, log entry 70. -/
def mapPut (k v : Nat) : List (Nat × Nat) → List (Nat × Nat)
  | [] => [(k, v)]
  | (a, w) :: l => if k < a then (k, v) :: (a, w) :: l else if k = a then (k, v) :: l else (a, w) :: mapPut k v l

/-- Write a setting; its written flag (R124) is its presence. -/
def State.store (s : State) (key value : Nat) : State := { s with settings := mapPut key value s.settings }

/-- Rail number `r` is station-kept and not re-adopted (R113, R117). -/
def railKept (s : State) (r : Nat) : Bool := match fin? 28 r with | some q => s.rails[q].stationKept | none => false

/-- A station-kept rail for which die index `k` runs: one of its own, or a ganged one whose group holds the die. -/
def keptOnDie (s : State) (k : Nat) : Option (Fin 28) :=
  (allFin 28).find? fun r => s.rails[r].stationKept && (decide (r.val / 4 = k) || ((allFin 4).any fun g =>
    decide (r.val = 4 * s.gangs[g].first) && decide (s.gangs[g].first ≤ k ∧ k < s.gangs[g].first + s.gangs[g].dies)))

/-- Die index `k` runs for a station-kept rail. -/
def dieKept (s : State) (k : Nat) : Bool := (keptOnDie s k).isSome

/-- The station-kept rail to whose shadow copies a setting belongs (R113). DESIGN CHOICE, log entry 70. -/
def shadowRail (s : State) (key : Nat) : Option (Fin 28) :=
  let idx := key / 256
  match idx / 256 with
  | 0x30 | 0x31 | 0x32 | 0x26 => (fin? 28 (idx % 256)).filter fun r => s.rails[r].stationKept
  | 0x34 => keptOnDie s (idx % 256 / 8)
  | _ => none

/-- The value in force of a setting with default `d`, before its range is looked at. DESIGN CHOICE, log entry 70. -/
def State.setRaw (s : State) (key d : Nat) : Nat :=
  (mapGet key (match shadowRail s key with | some r => s.sk.shadow[r] | none => s.settings)).getD d

/-- A setting with a stated range: outside it the result is unpredictable (R13). DESIGN CHOICE, log entry 10. -/
def State.setRange (s : State) (key d lo hi : Nat) : Nat :=
  let v := s.setRaw key d
  if lo ≤ v ∧ v ≤ hi then v else Config.outOfRange key v s.freeCtr

/-- A setting whose stated range is a condition, on itself or on another setting: outside it the result is unpredictable (R13, R550).
DESIGN CHOICE, log entry 10. -/
def State.setIf (s : State) (key d : Nat) (ok : Nat → Bool) : Nat :=
  let v := s.setRaw key d
  if ok v then v else Config.outOfRange key v s.freeCtr

/-- A setting with a range and one further value of its own meaning. DESIGN CHOICE, log entry 10. -/
def State.setSent (s : State) (key d lo hi z : Nat) : Nat :=
  let v := s.setRaw key d
  if v = z then v else if lo ≤ v ∧ v ≤ hi then v else Config.outOfRange key v s.freeCtr

/-- A BOOL setting (R510). DESIGN CHOICE, log entry 10; DEDUCED, log entry 69. -/
def State.setFlag (s : State) (key : Nat) (d : Bool) : Bool :=
  match s.setRaw key (bit d) with
  | 0 => false
  | 1 => true
  | v => decide (Config.outOfRange key v s.freeCtr % 2 = 1)

/-- An I16 setting with a stated range. DESIGN CHOICE, log entry 10. -/
def State.setSigned (s : State) (key : Nat) (d lo hi : Int) : Int :=
  let w := s.setRaw key (toTwos 16 d)
  let v := ofTwos 16 w
  if lo ≤ v ∧ v ≤ hi then v else ofTwos 16 (Config.outOfRange key w s.freeCtr)

/-- A default that differs between the 48 V and the 12 V mode (R124). DESIGN CHOICE, log entry 70. -/
def State.byMode (s : State) (d48 d12 : Nat) : Nat := if s.zbus.mode = 1 then d12 else d48

/-- What was written to a setting, else its default. -/
def settingOf (s : State) (key d : Nat) : Nat := (mapGet key s.settings).getD d

/-- The bits of a setting that a read shows: those its layout marks zero read 0 (R550), and of a mask of rails those of rails that the part
does not have (R561). -/
def readMask (s : State) (idx sub : Nat) : Nat :=
  if idx = 0x2108 ∧ sub = 3 ∨ idx = 0x2A20 ∧ sub = 6 then 2 ^ 18 - 1
  else if idx = 0x2108 ∧ sub = 4 then 2 ^ 13 - 1
  else if idx / 256 = 0x31 ∧ sub = 0x20 ∨ idx = 0x2910 ∧ sub = 6 then 2 ^ (4 * s.part.dies) - 1
  else if idx = 0x2900 ∧ sub = 2 then 2 ^ 48 - 1
  else if idx = 0x2A10 ∧ sub = 5 ∨ idx = 0x2C10 then 3
  else if 0x2D40 ≤ idx ∧ idx < 0x2D80 ∧ 5 ≤ sub ∧ sub ≤ 12 then 2 ^ 32 - 2 ^ 8
  else 2 ^ 64 - 1

/-- The running value of a setting as a read returns it: what was written, else the default of the mode in force, as far as its bits
read. -/
def settingValue (s : State) (r : ObjRow) (key : Nat) : Nat :=
  settingOf s key (s.byMode r.d48 r.d12) &&& readMask s (key / 256) (key % 256)

/-! ### The settings by name -/

/-- `STATIONKEEP` (R120). -/
def State.stationkeep (s : State) : Bool := s.setFlag (okey 0x2106 0x01) false

/-- `PWR_STATE_REQ` (R120). DEDUCED, log entry 23. -/
def State.pwrStateReq (s : State) : Nat := s.setRange (okey 0x2108 0x02) 0 0 2

/-- `PARK_KEEP` (R120). -/
def State.parkKeep (s : State) : Nat := s.setRange (okey 0x2108 0x03) 0 0 262143

/-- `WAKE_MASK` (R120). -/
def State.wakeMask (s : State) : Nat := s.setRange (okey 0x2108 0x04) 4095 0 8191

/-- `WAKE_TIMER` (R120). -/
def State.wakeTimer (s : State) : Nat := s.setRaw (okey 0x2108 0x06) 0

/-- `ZBUS_MODE` (R149). -/
def State.zbusMode (s : State) : Nat := s.setRange (okey 0x2200 0x01) 0 0 1

/-- `ZBUS_UV_F` (R149). -/
def State.zbusUvF (s : State) : Nat := s.setRaw (okey 0x2200 0x02) (s.byMode 23000 8500)

/-- `ZBUS_UV_R` (R149). -/
def State.zbusUvR (s : State) : Nat := s.setIf (okey 0x2200 0x03) (s.byMode 25000 9000) fun v => decide (s.zbusUvF < v)

/-- `ZBUS_OV_R` (R149). -/
def State.zbusOvR (s : State) : Nat := s.setRaw (okey 0x2200 0x04) (s.byMode 61000 16500)

/-- `ZBUS_OV_F` (R149). -/
def State.zbusOvF (s : State) : Nat := s.setIf (okey 0x2200 0x05) (s.byMode 59500 16000) fun v => decide (v < s.zbusOvR)

/-- `PFW_THR` (R149). -/
def State.pfwThr (s : State) : Nat := s.setRange (okey 0x2200 0x06) (s.byMode 26000 9500) 6000 60000

/-- `PFW_HYST` (R149). -/
def State.pfwHyst (s : State) : Nat := s.setRange (okey 0x2200 0x07) (s.byMode 1000 300) 100 5000

/-- `PFW_SLOPE_MIN` (R149). -/
def State.pfwSlopeMin (s : State) : Nat := s.setRange (okey 0x2200 0x08) (s.byMode 2000 500) 500 50000

/-- `ZIN_EN` (R149). -/
def State.zinEn (s : State) (n : Fin 4) : Bool := s.setFlag (okey (0x2210 + n) (0x01)) false

/-- `ZIN_RSENSE` (R149). -/
def State.zinRsense (s : State) (n : Fin 4) : Nat := s.setRange (okey (0x2210 + n) (0x02)) 500 160 50000

/-- `ZIN_ILIM` (R149). -/
def State.zinIlim (s : State) (n : Fin 4) : Nat := s.setRange (okey (0x2210 + n) (0x03)) 20000 1000 60000

/-- `ZIN_IINR` (R149). -/
def State.zinIinr (s : State) (n : Fin 4) : Nat := s.setRange (okey (0x2210 + n) (0x04)) 5000 0 (s.zinIlim n)

/-- `ZIN_TLIM` (R149). -/
def State.zinTlim (s : State) (n : Fin 4) : Nat := s.setRange (okey (0x2210 + n) (0x05)) 10 1 50

/-- `ZIN_UV_F` (R149). -/
def State.zinUvF (s : State) (n : Fin 4) : Nat := s.setRaw (okey (0x2210 + n) (0x06)) (s.byMode 23000 8500)

/-- `ZIN_UV_R` (R149). -/
def State.zinUvR (s : State) (n : Fin 4) : Nat := s.setRaw (okey (0x2210 + n) (0x07)) (s.byMode 25000 9000)

/-- `ZIN_OV_R` (R149). -/
def State.zinOvR (s : State) (n : Fin 4) : Nat := s.setRaw (okey (0x2210 + n) (0x08)) (s.byMode 61000 16500)

/-- `ZIN_OV_F` (R149). -/
def State.zinOvF (s : State) (n : Fin 4) : Nat := s.setRaw (okey (0x2210 + n) (0x09)) (s.byMode 59500 16000)

/-- `ZIN_TINS` (R149). -/
def State.zinTins (s : State) (n : Fin 4) : Nat := s.setRange (okey (0x2210 + n) (0x0A)) 100 10 500

/-- `ZIN_RETRY_MAX` (R149). -/
def State.zinRetryMax (s : State) (n : Fin 4) : Nat := s.setRange (okey (0x2210 + n) (0x0B)) 3 0 7

/-- `ZIN_TRETRY` (R149). -/
def State.zinTretry (s : State) (n : Fin 4) : Nat := s.setRange (okey (0x2210 + n) (0x0C)) 100 10 1000

/-- `FO_RSENSE` (R149). -/
def State.foRsense (s : State) (n : Fin 8) : Nat := s.setRange (okey (0x2220 + n) (0x01)) 2000 300 50000

/-- `FO_ILIM` (R149). -/
def State.foIlim (s : State) (n : Fin 8) : Nat := s.setRange (okey (0x2220 + n) (0x02)) 5000 1000 30000

/-- `FO_IINR` (R149). -/
def State.foIinr (s : State) (n : Fin 8) : Nat := s.setRange (okey (0x2220 + n) (0x03)) 2000 0 (s.foIlim n)

/-- `FO_TLIM` (R149). -/
def State.foTlim (s : State) (n : Fin 8) : Nat := s.setRange (okey (0x2220 + n) (0x04)) 10 1 50

/-- `FO_TINS` (R149). -/
def State.foTins (s : State) (n : Fin 8) : Nat := s.setRange (okey (0x2220 + n) (0x05)) 100 10 500

/-- `FO_RETRY_MAX` (R149). -/
def State.foRetryMax (s : State) (n : Fin 8) : Nat := s.setRange (okey (0x2220 + n) (0x06)) 3 0 7

/-- `FO_TRETRY` (R149). -/
def State.foTretry (s : State) (n : Fin 8) : Nat := s.setRange (okey (0x2220 + n) (0x07)) 100 10 1000

/-- `RAIL_MODE` (R192). -/
def State.railMode (s : State) (n : Fin 28) : Nat := s.setRange (okey (0x3000 + n) (0x01)) 0 0 1

/-- `RAIL_DIV` (R192). -/
def State.railDiv (s : State) (n : Fin 28) : Nat := s.setRange (okey (0x3000 + n) (0x02)) 4096 4096 61440

/-- `RAIL_FSW` (R192). -/
def State.railFsw (s : State) (n : Fin 28) : Nat := s.setRange (okey (0x3000 + n) (0x03)) 500 200 2000

/-- `RAIL_DMAX` (R192). -/
def State.railDmax (s : State) (n : Fin 28) : Nat := s.setRange (okey (0x3000 + n) (0x04)) 50 10 95

/-- `LOOP_KP` (R192). -/
def State.loopKp (s : State) (n : Fin 28) : Nat := s.setRaw (okey (0x3000 + n) (0x05)) 512

/-- `LOOP_KI` (R192). -/
def State.loopKi (s : State) (n : Fin 28) : Nat := s.setRaw (okey (0x3000 + n) (0x06)) 64

/-- `LOOP_KD` (R192). -/
def State.loopKd (s : State) (n : Fin 28) : Nat := s.setRaw (okey (0x3000 + n) (0x07)) 256

/-- `LOOP_POLE` (R192). -/
def State.loopPole (s : State) (n : Fin 28) : Nat := s.setRaw (okey (0x3000 + n) (0x08)) 255

/-- `LOOP_RLL` (R192). -/
def State.loopRll (s : State) (n : Fin 28) : Nat := s.setRaw (okey (0x3000 + n) (0x0A)) 0

/-- `ROT_STRIDE` (R192). -/
def State.rotStride (s : State) (n : Fin 28) : Nat := s.setRange (okey (0x3000 + n) (0x0B)) 1 1 31

/-- `ROT_EN` (R192). -/
def State.rotEn (s : State) (n : Fin 28) : Bool := s.setFlag (okey (0x3000 + n) (0x0C)) true

/-- `DITHER_EN` (R192). -/
def State.ditherEn (s : State) (n : Fin 28) : Bool := s.setFlag (okey (0x3000 + n) (0x0D)) true

/-- `BAL_EN` (R192). -/
def State.balEn (s : State) (n : Fin 28) : Bool := s.setFlag (okey (0x3000 + n) (0x0E)) true

/-- `BAL_PERIOD` (R192). -/
def State.balPeriod (s : State) (n : Fin 28) : Nat := s.setRange (okey (0x3000 + n) (0x0F)) 5 2 255

/-- `BAL_LIMIT` (R192). -/
def State.balLimit (s : State) (n : Fin 28) : Nat := s.setRaw (okey (0x3000 + n) (0x10)) 128

/-- `BAL_DEADBAND` (R192). -/
def State.balDeadband (s : State) (n : Fin 28) : Nat := s.setRange (okey (0x3000 + n) (0x11)) 10 0 50

/-- `RAIL_IMAX` (R192). -/
def State.railImax (s : State) (n : Fin 28) : Nat := s.setRange (okey (0x3000 + n) (0x12)) 100 1 2000

/-- `PH_LOOP` (R193). -/
def State.phLoop (s : State) (n : Fin 56) : Nat := s.setSent (okey (0x3400 + n) (0x01)) 255 0 3 255

/-- `PH_IMON_GAIN` (R193). -/
def State.phImonGain (s : State) (n : Fin 56) : Nat := s.setRange (okey (0x3400 + n) (0x02)) 5000 500 50000

/-- `PH_IMON_OFS` (R193). -/
def State.phImonOfs (s : State) (n : Fin 56) : Nat := s.setRange (okey (0x3400 + n) (0x03)) 1200 0 2500

/-- `GANG_FIRST_DIE` (R194). -/
def State.gangFirstDie (s : State) (n : Fin 4) : Nat := s.setRange (okey (0x2300 + n) (0x01)) 0 0 7

/-- `GANG_DIES` (R194). -/
def State.gangDies (s : State) (n : Fin 4) : Nat := s.setRaw (okey (0x2300 + n) (0x02)) 0

/-- `GANG_DLSB` (R194). -/
def State.gangDlsb (s : State) (n : Fin 4) : Nat := s.setRange (okey (0x2300 + n) (0x03)) 0 0 3

/-- `RAIL_VSET` (R240). -/
def State.railVset (s : State) (n : Fin 28) : Nat := s.setRaw (okey (0x3100 + n) (0x01)) 750

/-- `RAIL_SLEW` (R240). -/
def State.railSlew (s : State) (n : Fin 28) : Nat := s.setRange (okey (0x3100 + n) (0x02)) 100 5 500

/-- `RAIL_SLEW_SS` (R240). -/
def State.railSlewSs (s : State) (n : Fin 28) : Nat := s.setRange (okey (0x3100 + n) (0x03)) 10 5 500

/-- `STEP_EN` (R240). -/
def State.stepEn (s : State) (n : Fin 28) : Bool := s.setFlag (okey (0x3100 + n) (0x0A)) true

/-- `STEP_THR` (R240). -/
def State.stepThr (s : State) (n : Fin 28) : Nat := s.setRange (okey (0x3100 + n) (0x0B)) 40 10 100

/-- `STEP_TMAX` (R240). -/
def State.stepTmax (s : State) (n : Fin 28) : Nat := s.setRange (okey (0x3100 + n) (0x0C)) 20 5 100

/-- `PHM_EN` (R240). -/
def State.phmEn (s : State) (n : Fin 28) : Bool := s.setFlag (okey (0x3100 + n) (0x0F)) false

/-- `PHM_NMIN` (R240). -/
def State.phmNmin (s : State) (n : Fin 28) : Nat := s.setRange (okey (0x3100 + n) (0x10)) 1 1 32

/-- `PHM_I_SHED` (R240). -/
def State.phmIShed (s : State) (n : Fin 28) : Nat := s.setRange (okey (0x3100 + n) (0x11)) 10000 500 60000

/-- `PHM_I_ADD` (R240). -/
def State.phmIAdd (s : State) (n : Fin 28) : Nat := s.setRange (okey (0x3100 + n) (0x12)) 20000 (s.phmIShed n + 1) 60000

/-- `PHM_DWELL` (R240). -/
def State.phmDwell (s : State) (n : Fin 28) : Nat := s.setRange (okey (0x3100 + n) (0x13)) 50 10 5000

/-- `PHM_HOLDOFF` (R240). -/
def State.phmHoldoff (s : State) (n : Fin 28) : Nat := s.setRange (okey (0x3100 + n) (0x14)) 200 10 10000

/-- `FC_EN` (R240). -/
def State.fcEn (s : State) (n : Fin 28) : Bool := s.setFlag (okey (0x3100 + n) (0x18)) true

/-- `FC_PIN_EN` (R240). -/
def State.fcPinEn (s : State) (n : Fin 28) : Bool := s.setFlag (okey (0x3100 + n) (0x19)) false

/-- `FC_PIN_I` (R240). -/
def State.fcPinI (s : State) (n : Fin 28) : Nat := s.setRange (okey (0x3100 + n) (0x1A)) 0 0 20000

/-- `FC_PIN_DELAY` (R240). -/
def State.fcPinDelay (s : State) (n : Fin 28) : Nat := s.setRange (okey (0x3100 + n) (0x1B)) 20 1 100

/-- `TRIM_EN` (R240). -/
def State.trimEn (s : State) (n : Fin 28) : Bool := s.setFlag (okey (0x3100 + n) (0x1F)) false

/-- `TRIM_DEPS` (R240). -/
def State.trimDeps (s : State) (n : Fin 28) : Nat := s.setRange (okey (0x3100 + n) (0x20)) 0 0 268435455

/-- `TRIM_P` (R240). -/
def State.trimP (s : State) (n : Fin 28) (j : Fin 4) : Nat := s.setRaw (okey (0x3100 + n) (0x21 + j)) ([0, 200, 500, 900].getD j 0)

/-- `TRIM_V` (R240). -/
def State.trimV (s : State) (n : Fin 28) (j : Fin 4) : Nat := s.setRange (okey (0x3100 + n) (0x25 + j)) 12000 9000 13000

/-- `TRIM_PERIOD` (R240). -/
def State.trimPeriod (s : State) (n : Fin 28) : Nat := s.setRange (okey (0x3100 + n) (0x29)) 10 1 100

/-- `OV_TRK_OFS` (R268). -/
def State.ovTrkOfs (s : State) (n : Fin 28) : Nat := s.setRange (okey (0x3200 + n) (0x03)) 50 10 75

/-- `PG_WIN_HI` (R268). -/
def State.pgWinHi (s : State) (n : Fin 28) : Nat := s.setRange (okey (0x3200 + n) (0x04)) 30 5 74

/-- `PG_WIN_LO` (R268). -/
def State.pgWinLo (s : State) (n : Fin 28) : Nat := s.setRange (okey (0x3200 + n) (0x05)) 60 10 78

/-- `UV_TMR` (R268). -/
def State.uvTmr (s : State) (n : Fin 28) : Nat := s.setRange (okey (0x3200 + n) (0x06)) 100 1 5000

/-- `OC_VALLEY` (R268). -/
def State.ocValley (s : State) (n : Fin 28) : Nat := s.setRange (okey (0x3200 + n) (0x07)) 50000 1000 65000

/-- `OC_TOT` (R268). -/
def State.ocTot (s : State) (n : Fin 28) : Nat := s.setRange (okey (0x3200 + n) (0x08)) 110 1 2200

/-- `OC_TMR` (R268). -/
def State.ocTmr (s : State) (n : Fin 28) : Nat := s.setRange (okey (0x3200 + n) (0x09)) 50 1 5000

/-- `PG_QUAL` (R268). -/
def State.pgQual (s : State) (n : Fin 28) : Nat := s.setRange (okey (0x3200 + n) (0x0A)) 10 1 500

/-- `RAIL_SAFE` (R268). -/
def State.railSafe (s : State) (n : Fin 28) : Nat := s.setRange (okey (0x3200 + n) (0x0B)) 0 0 1

/-- `GRP_SRC` (R296). -/
def State.grpSrc (s : State) (n : Fin 8) : Nat := s.setRange (okey (0x2410 + n) (0x01)) 1 0 1

/-- `GRP_AUTO` (R296). -/
def State.grpAuto (s : State) (n : Fin 8) : Bool := s.setFlag (okey (0x2410 + n) (0x02)) false

/-- `GRP_TOFF` (R296). -/
def State.grpToff (s : State) (n : Fin 8) : Nat := s.setRange (okey (0x2410 + n) (0x04)) 50 1 5000

/-- `RSTO_GRPS` (R296). -/
def State.rstoGrps (s : State) (n : Fin 4) : Nat := s.setRaw (okey (0x2420 + n) (0x01)) 0

/-- `RSTO_STRETCH` (R296). -/
def State.rstoStretch (s : State) (n : Fin 4) : Nat := s.setRange (okey (0x2420 + n) (0x02)) 20 1 500

/-- `RSTO_PULSE` (R296). -/
def State.rstoPulse (s : State) (n : Fin 4) : Nat := s.setRange (okey (0x2420 + n) (0x03)) 10 1 500

/-- `REG_VSET` (R296). -/
def State.regVset (s : State) (n : Fin 10) : Nat := s.setRange (okey (regIdx n) (0x01)) (if n.val < 6 then 3300 else 1800) 800 (if n.val < 6 then 5000 else 3300)

/-- `REG_SS` (R296). -/
def State.regSs (s : State) (n : Fin 10) : Nat := s.setRange (okey (regIdx n) (0x02)) 1 1 20

/-- `STEP_GROUP` (R296). -/
def State.stepGroup (s : State) (n : Fin 64) : Nat := s.setSent (okey (0x2500 + n) (0x01)) 255 0 7 255

/-- `STEP_DELAY` (R296). -/
def State.stepDelay (s : State) (n : Fin 64) : Nat := s.setRange (okey (0x2500 + n) (0x02)) 0 0 5000

/-- `STEP_TIMEOUT` (R296). -/
def State.stepTimeout (s : State) (n : Fin 64) : Nat := s.setRange (okey (0x2500 + n) (0x03)) 20 1 5000

/-- `ITEM_STEP` (R296). -/
def State.itemStep (s : State) (n : Fin 46) : Nat := s.setSent (okey (0x2600 + n) (0x01)) 255 0 63 255

/-- `ITEM_REACT` (R296). -/
def State.itemReact (s : State) (n : Fin 46) : Nat := s.setRange (okey (0x2600 + n) (0x02)) 2 0 3

/-- `ITEM_RETRY_MAX` (R296). -/
def State.itemRetryMax (s : State) (n : Fin 46) : Nat := s.setRange (okey (0x2600 + n) (0x03)) 3 0 7

/-- `ITEM_RETRY_DLY` (R296). -/
def State.itemRetryDly (s : State) (n : Fin 46) : Nat := s.setRange (okey (0x2600 + n) (0x04)) 100 10 10000

/-- `ITEM_QUAL` (R296). -/
def State.itemQual (s : State) (n : Fin 46) : Nat := s.setRange (okey (0x2600 + n) (0x05)) 10 1 500

/-- `ITEM_OFF_MODE` (R296). -/
def State.itemOffMode (s : State) (n : Fin 46) : Nat := s.setRange (okey (0x2600 + n) (0x06)) 0 0 1

/-- `ITEM_EN_PIN` (R296). -/
def State.itemEnPin (s : State) (n : Fin 46) : Bool := s.setFlag (okey (0x2600 + n) (0x07)) false

/-- `ITEM_MOVE_STEP` (R296). -/
def State.itemMoveStep (s : State) (n : Fin 46) : Nat := s.setSent (okey (0x2600 + n) (0x08)) 255 0 63 255

/-- `ITEM_MOVE_MV` (R296). -/
def State.itemMoveMv (s : State) (n : Fin 46) : Nat := s.setRaw (okey (0x2600 + n) (0x09)) 0

/-- `SRC_ILIM_Z48` (R331). -/
def State.srcIlimZ48 (s : State) : Nat := s.setRange (okey 0x2700 0x02) 1500 100 5000

/-- `SRC_ILIM_Z12` (R331). -/
def State.srcIlimZ12 (s : State) : Nat := s.setRange (okey 0x2700 0x03) 5000 100 5000

/-- `SRC_ILIM_SVC` (R331). -/
def State.srcIlimSvc (s : State) : Nat := s.setRange (okey 0x2700 0x04) 3000 100 5000

/-- `SRC_ILIM_UNK` (R331). -/
def State.srcIlimUnk (s : State) : Nat := s.setRange (okey 0x2700 0x05) 500 100 5000

/-- `SRC_ANNC_TMO` (R331). -/
def State.srcAnncTmo (s : State) : Nat := s.setRange (okey 0x2700 0x07) 2000 100 10000

/-- `SVC_UV_F` (R331). -/
def State.svcUvF (s : State) : Nat := s.setRaw (okey 0x2700 0x08) 8500

/-- `SVC_UV_R` (R331). -/
def State.svcUvR (s : State) : Nat := s.setRaw (okey 0x2700 0x09) 9000

/-- `SVC_OV_R` (R331). -/
def State.svcOvR (s : State) : Nat := s.setRaw (okey 0x2700 0x0A) 33000

/-- `SVC_OV_F` (R331). -/
def State.svcOvF (s : State) : Nat := s.setRaw (okey 0x2700 0x0B) 32000

/-- `SVC_TINS` (R331). -/
def State.svcTins (s : State) : Nat := s.setRange (okey 0x2700 0x0C) 100 10 500

/-- `HO_THR` (R331). -/
def State.hoThr (s : State) : Nat := s.setRange (okey 0x2700 0x0D) (s.byMode 22000 8000) 6000 60000

/-- `HO_HYST` (R331). -/
def State.hoHyst (s : State) : Nat := s.setRange (okey 0x2700 0x0E) (s.byMode 2000 500) 100 5000

/-- `LBUS_VSET` (R331). -/
def State.lbusVset (s : State) : Nat := s.setRange (okey 0x2700 0x14) 13500 12000 14500

/-- `LBUS_GOOD_F` (R331). -/
def State.lbusGoodF (s : State) : Nat := s.setRange (okey 0x2700 0x15) 6000 4000 19000

/-- `LBUS_GOOD_R` (R331). -/
def State.lbusGoodR (s : State) : Nat := s.setRange (okey 0x2700 0x16) 6500 (s.lbusGoodF + 1) 19000

/-- `PK_FET_PMAX` (R331). -/
def State.pkFetPmax (s : State) : Nat := s.setRange (okey 0x2700 0x1B) 4000 500 10000

/-- `CHG_EN` (R331). -/
def State.chgEn (s : State) : Bool := s.setFlag (okey 0x2701 0x01) true

/-- `CHG_IFAST` (R331). -/
def State.chgIfast (s : State) : Nat := s.setRange (okey 0x2701 0x03) 1000 100 2000

/-- `CHG_IPRE` (R331). -/
def State.chgIpre (s : State) : Nat := s.setRange (okey 0x2701 0x04) 200 20 500

/-- `CHG_VPRE` (R331). -/
def State.chgVpre (s : State) : Nat := s.setRange (okey 0x2701 0x05) 900 800 1100

/-- `CHG_TPRE` (R331). -/
def State.chgTpre (s : State) : Nat := s.setRange (okey 0x2701 0x06) 30 5 120

/-- `CHG_TSAFE` (R331). -/
def State.chgTsafe (s : State) : Nat := s.setRange (okey 0x2701 0x07) 240 30 1440

/-- `CHG_DV` (R331). -/
def State.chgDv (s : State) : Nat := s.setRange (okey 0x2701 0x08) 5 1 20

/-- `CHG_DV_BLANK` (R331). -/
def State.chgDvBlank (s : State) : Nat := s.setRange (okey 0x2701 0x09) 5 0 30

/-- `CHG_DTDT` (R331). -/
def State.chgDtdt (s : State) : Nat := s.setRange (okey 0x2701 0x0A) 10 3 30

/-- `CHG_TLO` (R331). -/
def State.chgTlo (s : State) : Int := s.setSigned (okey 0x2701 0x0B) 50 (-200) 200

/-- `CHG_THI` (R331). -/
def State.chgThi (s : State) : Int := s.setSigned (okey 0x2701 0x0C) 450 (s.chgTlo + 1) 550

/-- `CHG_TABS` (R331). -/
def State.chgTabs (s : State) : Int := s.setSigned (okey 0x2701 0x0D) 550 (s.chgThi + 1) 700

/-- `CHG_VCELL_MAX` (R331). -/
def State.chgVcellMax (s : State) : Nat := s.setRange (okey 0x2701 0x0E) 1600 1450 1620

/-- `CHG_RESTART_SOC` (R331). -/
def State.chgRestartSoc (s : State) : Nat := s.setRange (okey 0x2701 0x0F) 90 50 99

/-- `CHG_HB_DELAY` (R331). -/
def State.chgHbDelay (s : State) : Nat := s.setRange (okey 0x2701 0x10) 10 0 600

/-- `PACK_CELLS` (R331). -/
def State.packCells (s : State) : Nat := s.setSent (okey 0x2702 0x01) 0 4 12 0

/-- `PACK_CAP_NOM` (R331). -/
def State.packCapNom (s : State) : Nat := s.setRange (okey 0x2702 0x02) 2000 100 20000

/-- `PKT_RNOM` (R331). -/
def State.pktRnom (s : State) : Nat := s.setRange (okey 0x2702 0x03) 10000 2000 50000

/-- `PKT_BETA` (R331). -/
def State.pktBeta (s : State) : Nat := s.setRange (okey 0x2702 0x04) 3435 2500 5000

/-- `PK_JUMP` (R331). -/
def State.pkJump (s : State) : Nat := s.setRange (okey 0x2702 0x05) 100 20 250

/-- `SRC_ANNC` (R331). -/
def State.srcAnnc (s : State) (j : Fin 4) : Nat := s.setRange (okey (0x2703) (0x01 + j)) 0 0 2

/-- `GG_RESERVE` (R364). -/
def State.ggReserve (s : State) : Nat := s.setRange (okey 0x2710 0x09) 10 0 30

/-- `GG_VEOD` (R364). -/
def State.ggVeod (s : State) : Nat := s.setRange (okey 0x2710 0x0A) 1000 800 1150

/-- `GG_REST_I` (R364). -/
def State.ggRestI (s : State) : Nat := s.setRange (okey 0x2710 0x0B) 20 5 200

/-- `GG_DIS_MARGIN` (R364). -/
def State.ggDisMargin (s : State) : Nat := s.setRange (okey 0x2710 0x0C) 5 1 20

/-- `GG_GAIN` (R364). -/
def State.ggGain (s : State) : Nat := s.setRange (okey 0x2710 0x0D) 13 1 255

/-- `GG_SELFDIS` (R364). -/
def State.ggSelfdis (s : State) : Nat := s.setRange (okey 0x2710 0x0E) 10 0 100

/-- `GG_LEARN_W` (R364). -/
def State.ggLearnW (s : State) : Nat := s.setRange (okey 0x2711 0x06) 50 10 100

/-- `GG_FULL_WAIT` (R364). -/
def State.ggFullWait (s : State) : Nat := s.setRange (okey 0x2711 0x08) 72 1 720

/-- `GG_OUT_EN` (R364). -/
def State.ggOutEn (s : State) : Bool := s.setFlag (okey 0x2711 0x09) false

/-- `GG_OUT_DAYS` (R364). -/
def State.ggOutDays (s : State) : Nat := s.setRange (okey 0x2711 0x0A) 90 7 365

/-- `GG_OUT_TMAX` (R364). -/
def State.ggOutTmax (s : State) : Nat := s.setRange (okey 0x2711 0x0D) 1440 60 4320

/-- `JNL_READ_SEQ` (R399). -/
def State.jnlReadSeq (s : State) : Nat := s.setRaw (okey 0x2803 0x02) 0

/-- `HK_SCAN_EN` (R428). -/
def State.hkScanEn (s : State) : Bool := s.setFlag (okey 0x2900 0x01) true

/-- `HK_SCAN_MASK` (R428). -/
def State.hkScanMask (s : State) : Nat := s.setRange (okey 0x2900 0x02) 281474976710655 0 281474976710655

/-- `HK_REF_SEL` (R428). -/
def State.hkRefSel (s : State) : Nat := s.setRange (okey 0x2900 0x03) 0 0 2

/-- `HK_WIN_HYST` (R428). -/
def State.hkWinHyst (s : State) : Nat := s.setRaw (okey 0x2900 0x09) 8

/-- `HK_WIN_LO` (R428). -/
def State.hkWinLo (s : State) (j : Fin 48) : Nat := s.setRange (okey (0x2904) (0x01 + j)) 0 0 4095

/-- `HK_WIN_HI` (R428). -/
def State.hkWinHi (s : State) (j : Fin 48) : Nat := s.setRange (okey (0x2905) (0x01 + j)) 4095 0 4095

/-- `THR_EN` (R429). -/
def State.thrEn (s : State) : Bool := s.setFlag (okey 0x2910 0x01) true

/-- `THR_T_HELM` (R429). -/
def State.thrTHelm (s : State) : Int := s.setSigned (okey 0x2910 0x02) 1350 (1000) 1550

/-- `THR_T_RAIL` (R429). -/
def State.thrTRail (s : State) : Int := s.setSigned (okey 0x2910 0x03) 1350 (1000) 1550

/-- `THR_HYST` (R429). -/
def State.thrHyst (s : State) : Nat := s.setRange (okey 0x2910 0x04) 50 20 200

/-- `THR_NMAX` (R429). -/
def State.thrNmax (s : State) : Nat := s.setRange (okey 0x2910 0x05) 8 1 15

/-- `THR_RAILS` (R429). -/
def State.thrRails (s : State) : Nat := s.setRange (okey 0x2910 0x06) 0 0 268435455

/-- `THR_CHG` (R429). -/
def State.thrChg (s : State) : Bool := s.setFlag (okey 0x2910 0x07) true

/-- `TS_MODE` (R429). -/
def State.tsMode (s : State) (n : Fin 8) : Nat := s.setRange (okey (0x2920 + n) (0x01)) 0 0 2

/-- `TS_DIE` (R429). -/
def State.tsDie (s : State) (n : Fin 8) : Nat := s.setSent (okey (0x2920 + n) (0x02)) 255 0 7 255

/-- `TS_ETA` (R429). -/
def State.tsEta (s : State) (n : Fin 8) : Nat := s.setRange (okey (0x2920 + n) (0x03)) 1008 990 1050

/-- `TS_RNOM` (R429). -/
def State.tsRnom (s : State) (n : Fin 8) : Nat := s.setRange (okey (0x2920 + n) (0x04)) 10000 2000 50000

/-- `TS_BETA` (R429). -/
def State.tsBeta (s : State) (n : Fin 8) : Nat := s.setRange (okey (0x2920 + n) (0x05)) 3435 2500 5000

/-- `TS_OFS` (R429). -/
def State.tsOfs (s : State) (n : Fin 8) : Int := s.setSigned (okey (0x2920 + n) (0x06)) 0 (-500) 500

/-- `WD_ENABLE` (R460). -/
def State.wdEnable (s : State) : Bool := s.setFlag (okey 0x2A10 0x01) false

/-- `WD_WIN_OPEN` (R460). -/
def State.wdWinOpen (s : State) : Nat := s.setRange (okey 0x2A10 0x02) 164 0 65533

/-- `WD_WIN_CLOSE` (R460). -/
def State.wdWinClose (s : State) : Nat := s.setRaw (okey 0x2A10 0x03) 492

/-- `WD_CYCLE` (R460). -/
def State.wdCycle (s : State) : Nat := s.setRange (okey 0x2A10 0x04) 656 2 65535

/-- `WD_HOSTS` (R460). -/
def State.wdHosts (s : State) : Nat := s.setRange (okey 0x2A10 0x05) 1 0 3

/-- `WD_TASK_MASK` (R460). -/
def State.wdTaskMask (s : State) : Nat := s.setRaw (okey 0x2A10 0x06) 1

/-- `WD_TASK_HOST` (R460). -/
def State.wdTaskHost (s : State) : Nat := s.setRaw (okey 0x2A10 0x07) 0

/-- `WD_KEY_0` (R460). -/
def State.wdKey0 (s : State) : Nat := s.setRaw (okey 0x2A10 0x08) 0

/-- `WD_KEY_1` (R460). -/
def State.wdKey1 (s : State) : Nat := s.setRaw (okey 0x2A10 0x09) 0

/-- `WD_REACT` (R460). -/
def State.wdReact (s : State) : Nat := s.setRange (okey 0x2A10 0x0A) 0 0 2

/-- `WD_FAIL_MAX` (R460). -/
def State.wdFailMax (s : State) : Nat := s.setRange (okey 0x2A10 0x0B) 1 1 15

/-- `WD_RSTO_0` (R460). -/
def State.wdRsto0 (s : State) : Nat := s.setSent (okey 0x2A10 0x0C) 0 0 3 255

/-- `WD_RSTO_1` (R460). -/
def State.wdRsto1 (s : State) : Nat := s.setSent (okey 0x2A10 0x0D) 1 0 3 255

/-- `WD_GRACE` (R460). -/
def State.wdGrace (s : State) : Nat := s.setRange (okey 0x2A10 0x0E) 50 1 255

/-- `LOG_A_RESET` (R461). -/
def State.logAReset (s : State) : Bool := s.setFlag (okey 0x2A20 0x05) false

/-- `LOG_A_KEEP` (R461). -/
def State.logAKeep (s : State) : Nat := s.setRange (okey 0x2A20 0x06) 1023 0 262143

/-- `LOG_EVT_C` (R461). -/
def State.logEvtC (s : State) : Bool := s.setFlag (okey 0x2A20 0x07) false

/-- `TW_ADDR_n` (R494). -/
def State.twAddr (s : State) (n : Fin 2) : Nat := s.setSent (okey (0x2B00 + n) (0x01)) 0 8 119 0

/-- `TW_HOST_ADDR_n` (R494). -/
def State.twHostAddr (s : State) (n : Fin 2) : Nat := s.setRange (okey (0x2B00 + n) (0x02)) 8 8 119

/-- `TW_PEC_EN_n` (R494). -/
def State.twPecEn (s : State) (n : Fin 2) : Bool := s.setFlag (okey (0x2B00 + n) (0x03)) false

/-- `TW_CTRL_SPEED_n` (R494). -/
def State.twCtrlSpeed (s : State) (n : Fin 2) : Nat := s.setRange (okey (0x2B00 + n) (0x04)) 1 0 2

/-- `TW_NOTIFY_EN_n` (R494). -/
def State.twNotifyEn (s : State) (n : Fin 2) : Bool := s.setFlag (okey (0x2B00 + n) (0x05)) true

/-- `TW_NOTIFY_REP_n` (R494). -/
def State.twNotifyRep (s : State) (n : Fin 2) : Nat := s.setRange (okey (0x2B00 + n) (0x06)) 100 0 10000

/-- `TW_RAIL_MAP_n` (R494). -/
def State.twRailMap (s : State) (n : Fin 2) (j : Fin 8) : Nat := s.setSent (okey (0x2B10 + n) (0x01 + j)) 255 0 27 255

/-- `EVC_GDIS` (R495). -/
def State.evcGdis (s : State) : Bool := s.setFlag (okey 0x2C00 0x01) false

/-- `EVC_ROUTE` (R495). -/
def State.evcRoute (s : State) (j : Fin 128) : Nat := s.setRange (okey (0x2C10) (0x01 + j)) 0 0 3

/-- `CAN_EN` (R528). -/
def State.canEn (s : State) (n : Fin 4) : Bool := s.setFlag (okey (0x2D00 + n) (0x01)) true

/-- `CAN_MODE` (R528). -/
def State.canMode (s : State) (n : Fin 4) : Nat := s.setRange (okey (0x2D00 + n) (0x02)) 0 0 1

/-- `CAN_NBRP` (R528). -/
def State.canNbrp (s : State) (n : Fin 4) : Nat := s.setRange (okey (0x2D00 + n) (0x03)) 2 1 32

/-- `CAN_NTSEG1` (R528). -/
def State.canNtseg1 (s : State) (n : Fin 4) : Nat := s.setRange (okey (0x2D00 + n) (0x04)) 63 2 256

/-- `CAN_NTSEG2` (R528). -/
def State.canNtseg2 (s : State) (n : Fin 4) : Nat := s.setRange (okey (0x2D00 + n) (0x05)) 16 1 128

/-- `CAN_NSJW` (R528). -/
def State.canNsjw (s : State) (n : Fin 4) : Nat := s.setRange (okey (0x2D00 + n) (0x06)) 16 1 (s.canNtseg2 n)

/-- `CAN_DBRP` (R528). -/
def State.canDbrp (s : State) (n : Fin 4) : Nat := s.setRange (okey (0x2D00 + n) (0x07)) 1 1 8

/-- `CAN_DTSEG1` (R528). -/
def State.canDtseg1 (s : State) (n : Fin 4) : Nat := s.setRange (okey (0x2D00 + n) (0x08)) 31 1 31

/-- `CAN_DTSEG2` (R528). -/
def State.canDtseg2 (s : State) (n : Fin 4) : Nat := s.setRange (okey (0x2D00 + n) (0x09)) 8 1 16

/-- `CAN_DSJW` (R528). -/
def State.canDsjw (s : State) (n : Fin 4) : Nat := s.setRange (okey (0x2D00 + n) (0x0A)) 8 1 (s.canDtseg2 n)

/-- `CAN_TDC_EN` (R528). -/
def State.canTdcEn (s : State) (n : Fin 4) : Bool := s.setFlag (okey (0x2D00 + n) (0x0B)) false

/-- `CAN_TDC_OFS` (R528). -/
def State.canTdcOfs (s : State) (n : Fin 4) : Nat := s.setRange (okey (0x2D00 + n) (0x0C)) 32 0 127

/-- `CAN_BRS` (R528). -/
def State.canBrs (s : State) (n : Fin 4) : Bool := s.setFlag (okey (0x2D00 + n) (0x0D)) true

/-- `CAN_BOFF_AUTO` (R528). -/
def State.canBoffAuto (s : State) (n : Fin 4) : Bool := s.setFlag (okey (0x2D00 + n) (0x0E)) true

/-- `BRG_BASE` (R528). -/
def State.brgBase (s : State) (n : Fin 4) : Nat := s.setIf (okey (0x2D10 + n) (0x01)) 1280 fun v => decide (v % 0x80 = 0) && decide (0x080 ≤ v) && decide (v ≤ 0x780)

/-- `HB_PERIOD` (R528). -/
def State.hbPeriod (s : State) (n : Fin 4) : Nat := s.setRange (okey (0x2D10 + n) (0x02)) 100 0 10000

/-- `PEER_HB_ID` (R528). -/
def State.peerHbId (s : State) (n : Fin 4) : Nat := s.setSent (okey (0x2D10 + n) (0x03)) 65535 0 2047 65535

/-- `PEER_HB_TMO` (R528). -/
def State.peerHbTmo (s : State) (n : Fin 4) : Nat := s.setRange (okey (0x2D10 + n) (0x04)) 300 10 10000

/-- `RPT_MODE` (R528). -/
def State.rptMode (s : State) (n : Fin 64) : Nat := s.setRange (okey (0x2D40 + n) (0x01)) 0 0 3

/-- `RPT_PERIOD` (R528). -/
def State.rptPeriod (s : State) (n : Fin 64) : Nat := s.setRange (okey (0x2D40 + n) (0x02)) 100 1 60000

/-- `RPT_INHIBIT` (R528). -/
def State.rptInhibit (s : State) (n : Fin 64) : Nat := s.setRange (okey (0x2D40 + n) (0x03)) 10 0 60000

/-- `RPT_NMAP` (R528). -/
def State.rptNmap (s : State) (n : Fin 64) : Nat := s.setRange (okey (0x2D40 + n) (0x04)) 0 0 8

/-- `RPT_MAP` (R528). -/
def State.rptMap (s : State) (n : Fin 64) (j : Fin 8) : Nat := s.setIf (okey (0x2D40 + n) (0x05 + j)) 0 fun v => decide (v % 256 = 0)

/-- `OLDCHART_SEL` (R558). -/
def State.oldchartSel (s : State) : Bool := s.setFlag (okey 0x2000 0x10) false

/-! ### Rails of a host, rights of a port -/

/-- Some slot of host `h` names rail `r` (R472). -/
def slotNames (s : State) (h : Fin 2) (r : Fin 28) : Bool := (allFin 8).any fun j => decide (s.twRailMap h j = r.val)

/-- Rail `r` is assigned to host `h`: a rail named by both belongs to host 0 (R472); in Old Chart mode rails 00 to 03 belong
to host 0 and no other has a slot (R566). -/
def assigned (s : State) (h : Fin 2) (r : Fin 28) : Bool :=
  if s.pwr.oldChart then railPresent s r && decide (h = 0) && decide (r.val < 4)
  else railPresent s r && slotNames s h r && (decide (h = 0) || !slotNames s 0 r)

/-- The rail of slot `j` of host `h`, where the slot is mapped (R472). -/
def slotRail (s : State) (h : Fin 2) (j : Fin 8) : Option (Fin 28) :=
  (fin? 28 (s.twRailMap h j)).filter fun r => assigned s h r

/-- The two-wire port behind an access port (R496). -/
def twOf (p : Port) : Option (Fin 2) := if p.val = 4 then some 0 else if p.val = 5 then some 1 else none

/-- The tunnel port of a two-wire port. -/
def portOfTw (n : Fin 2) : Port := ⟨4 + n.val, by omega⟩

/-- The access port of a CAN port. -/
def portOfCan (n : Fin 4) : Port := ⟨n.val, by omega⟩

/-- `WD_ANSWER_n` and `WD_CHECKIN_n` of a port's own host (R433, R438). -/
def ownWatchdog (p : Port) (idx sub : Nat) : Bool :=
  match twOf p with
  | some n => decide (idx = 0x2A11) && (decide (sub = 3 + n.val) || decide (sub = 5 + n.val))
  | none => false

/-- Objects of firmware update and life-cycle, `HC_IMAGE` and `HC_LOCK` (R516). -/
def masterOnly (idx sub : Nat) : Bool :=
  decide (idx = 0x2E00) || decide (idx = 0x2E01) || decide (idx = 0x2E10) || (decide (idx = 0x2802) && decide (sub ≤ 2))

/-- A restriction to one port holds (R517). -/
def portBindOk (p : Port) (idx sub : Nat) : Bool :=
  if idx = 0x2703 then decide (p.val + 1 = sub)
  else if idx = 0x2A11 ∧ 3 ≤ sub ∧ sub ≤ 6 then ownWatchdog p idx sub
  else true

/-- The role of a port permits a write (R516). -/
def roleMayWrite (s : State) (p : Port) (acc : Acc) (idx sub : Nat) : Bool :=
  match s.roles[p] with
  | 0 => true
  | 1 => !masterOnly idx sub
  | 2 => ownWatchdog p idx sub || (match twOf p, fin? 28 (idx % 256) with
      | some n, some r => decide (idx / 256 = 0x31) && decide (acc = .rw) && assigned s n r
      | _, _ => false)
  | _ => ownWatchdog p idx sub

end Sys2Proof.Machine
end

