-- ==== Sys2Proof/Machine/Flags.lean ====
section
/-! DEFINITION. The flags the functions raise: event sources (R485 to R490), Logbook entries and latches (R450, R451). -/

namespace Sys2Proof.Machine

/-! ### Event sources -/

/-- The level sources (R485). -/
def slotLevel (slot : Nat) : Bool := decide (slot = 4) || decide (slot = 7) || (decide (64 ≤ slot) && decide (slot % 8 = 6))

/-- The routing of a source; a change during service takes effect at its completion (R489). -/
def routeOf (s : State) (slot : Fin 128) : Nat :=
  if s.evc.inserv.testBit slot then (if s.evc.host1.testBit slot then 2 else 1) else s.evcRoute slot

/-- The source is routed to a host (R486). -/
def slotRouted (s : State) (slot : Fin 128) : Bool := decide (routeOf s slot = 1) || decide (routeOf s slot = 2)

/-- The source is pending (R486): an edge was recorded, or a level condition holds, is routed and not in service. -/
def slotPending (s : State) (slot : Fin 128) : Bool :=
  slotListed s.part slot &&
    if slotLevel slot then s.evc.level.testBit slot && slotRouted s slot && !s.evc.inserv.testBit slot
    else s.evc.pend.testBit slot

/-- The source can be delivered to host `h` (R487, R488). -/
def slotFor (s : State) (h : Fin 2) (slot : Fin 128) : Bool :=
  slotPending s slot && decide (routeOf s slot = h.val + 1) && !s.evc.inserv.testBit slot

/-- The lowest-numbered source deliverable to host `h`. -/
def lowestFor (s : State) (h : Fin 2) : Option (Fin 128) := (allFin 128).find? fun slot => slotFor s h slot

/-- Step 7 of the boot has passed and no full reset runs: outputs are driven by their functions (R110). -/
def poweredOutputs (s : State) : Bool := decide (s.boot.phase = .ready)

/-- `VAUX` stands above its power-on reset threshold: the output pins of the helm field are powered; else R_PD holds each of them
low (R76). -/
def helmPowered (s : State) : Bool := decide (s.boot.phase ≠ .porHeld)

/-- The levels of `SAFE_N`, `PFW_N`, `ALERT_h` and `RSTO_n`, true for high (R76, R110, R455, R487). -/
def safePin (s : State) : Bool := helmPowered s && !s.safeN
def pfwPin (s : State) : Bool := helmPowered s && !s.zbus.pfw
def alertPin (s : State) (h : Fin 2) : Bool := helmPowered s && s.evc.alert[h]
def rstoPin (s : State) (n : Fin 4) : Bool := helmPowered s && s.rsto[n].pin

/-- The level of `ALERT_h` (R487, R492). -/
def alertLevel (s : State) (h : Fin 2) : Bool := poweredOutputs s && !s.evcGdis && (lowestFor s h).isSome

/-- `ALERT_h` follows; a rise makes a notification due (R478), a fall drops one not yet sent. The Old Chart window sends
none (R567); in PARK the event controller holds its state (R492). DEDUCED, log entry 8. -/
def evRefresh (s : State) : State :=
  if s.pwr.state = .park then s else (allFin 2).foldl (fun a h =>
    let now := alertLevel a h
    if now = a.evc.alert[h] then a
    else { a with
      evc := { a.evc with alert := vset a.evc.alert h now }
      tw := vmod a.tw h fun t => { t with
        due := now && a.twNotifyEn h && !a.pwr.oldChart
        sinceRise := t.sinceRise && !now } }) s

/-- An edge of source `slot` (R486): recorded if routed, counted if already pending. With SYS stopped in PARK the event
controller holds its state (R492). -/
def eventEdge (slot : Nat) (s : State) : State :=
  match fin? 128 slot with
  | none => s
  | some i =>
    if s.pwr.state = .park || !slotListed s.part slot || !slotRouted s i then s
    else if s.evc.pend.testBit slot then
      { s with evc := { s.evc with ovf := vmod s.evc.ovf i fun c => satAdd max8 c 1 } }
    else evRefresh { s with evc := { s.evc with pend := setBit s.evc.pend slot } }

/-- The condition of level source `slot` now holds or not (R486, R490): a fall during service is recorded as withdrawn. In PARK the event
controller holds its state (R492). -/
def eventLevel (slot : Nat) (holds : Bool) (s : State) : State :=
  if s.pwr.state = .park || !slotListed s.part slot then s else
    let w := !holds && s.evc.level.testBit slot && s.evc.inserv.testBit slot
    evRefresh { s with evc := { s.evc with
      level := if holds then setBit s.evc.level slot else clrBit s.evc.level slot
      wdrawn := if w then setBit s.evc.wdrawn slot else s.evc.wdrawn } }

/-! ### The Logbook -/

/-- The sequence after `q`: 0 is skipped (R381). DEDUCED, log entry 22. -/
def logNext (q : Nat) : Nat := if (q + 1) % 2 ^ 32 = 0 then 1 else (q + 1) % 2 ^ 32

/-- An entry not yet journaled records the same fault (R450). -/
def LogRec.sameAs (r : LogRec) (f : HeldFault) : Bool :=
  decide (r.code = f.code.code) && decide (r.die = f.die) && decide (r.src = f.src)

/-- Put a fault into the Hamper's Logbook ring (R380, R450): folded into an unjournaled entry of the same fault, else a new
entry; a full ring loses its oldest. -/
def logRing (f : HeldFault) (s : State) : State :=
  if s.log.ring.any (fun r => r.sameAs f) then
    { s with log := { s.log with ring := s.log.ring.map fun r => if r.sameAs f then { r with rep := satAdd max16 r.rep 1 } else r } }
  else
    let r : LogRec :=
      { seq := s.log.nextSeq, time := s.devTime, boot := s.boot.bootCount % 65536, code := f.code.code,
        cls := f.code.cls.code, fromLf := false, die := f.die, src := f.src, detail := f.detail, rep := 1 }
    let full := decide (2048 ≤ s.log.ring.length)
    { s with
      log := { s.log with
        ring := (if full then s.log.ring.tail else s.log.ring) ++ [r], nextSeq := logNext s.log.nextSeq,
        entryCnt := satAdd max32 s.log.entryCnt 1 }
      nv := { s.nv with jnlLost := if full then satAdd max32 s.nv.jnlLost 1 else s.nv.jnlLost } }

/-- The latches of `LOG_STATUS`, `LOG_A_CODE` and `LOG_B_CODE` for a fault (R457, R461). -/
def logLatch (f : HeldFault) (l : LogState) : LogState :=
  match f.code.cls with
  | .a => { l with
      aCode := if l.aCode = 0 then f.code.code else l.aCode,
      since := if l.since.contains f then l.since else l.since ++ [f] }
  | .b => { l with
      bLatched := true, bCode := if l.bCode = 0 then f.code.code else l.bCode,
      since := if l.since.contains f then l.since else l.since ++ [f] }
  | .c => { l with cSeen := true }

/-- An entry is made, its latches set and the Logbook event source made pending (R450, R451).
DEDUCED, log entry 8; DESIGN CHOICE, log entry 58. -/
def logEntry (f : HeldFault) (s : State) : State :=
  let s1 := logRing f { s with log := logLatch f s.log }
  if f.code.cls ≠ .c || s.logEvtC then eventEdge 0 s1 else s1

/-- A fault reaches the Logbook; before its sequence is known it is held in order of detection (R381).
DESIGN CHOICE, log entry 58. -/
def logFault (code : FaultCode) (die src detail : Nat) (s : State) : State :=
  if s.log.ready then logEntry ⟨code, die, src, detail⟩ s
  else { s with log := { s.log with held := s.log.held ++ [⟨code, die, src, detail⟩] } }

/-! ### Status words several readers share -/

/-- `VDR_STATUS` (R65). -/
def vdrStatus (s : State) : Nat := bitsOf ((allFin 7).map fun k => diePresent s k && s.dies[k].vdrOk)

/-- The throttle step of a die, 0 the helm die. -/
def thrStep (s : State) (d : Nat) : Nat := match fin? 8 d with | some i => s.therm.die[i].n | none => 0

/-- A value reported in the object's unit: the exact value's floor or the next integer, as the manual states no rounding.
DESIGN CHOICE, log entry 14. -/
def reported (s : State) (use : Nat) (x : Rat) : Nat :=
  x.floor.toNat + (if Config.freeBool use s.freeCtr && decide ((x.floor : Rat) ≠ x) then 1 else 0)

/-- A gauge value as its object reports it: rounded once, at the estimate, so that it holds while no estimate is made (R332). -/
def gaugeReported (s : State) (use : Nat) (x : Rat) : Nat := reported { s with freeCtr := s.gauge.rnd } use x

end Sys2Proof.Machine
end

