-- ==== Sys2Proof/Machine/Ops.lean ====
section
/-! DEFINITION. Named operations over the Hamper's bytes (R25, R26) and the checks of an object access (R98, R515 to R517). -/

namespace Sys2Proof.Machine

/-! ### The Hamper's bytes -/

/-- Canonical form: addresses strictly rising below 512 KiB, and no entry of the byte an unlisted address reads as. -/
def Memory.wfFrom : Nat → List Host.Cell → Bool
  | _, [] => true
  | lo, (a, b) :: l => decide (lo ≤ a) && decide (a < 0x80000) && decide (b ≠ 0) && Memory.wfFrom (a + 1) l

/-- The form of a Hamper memory. -/
def Memory.wf (m : List Host.Cell) : Bool := Memory.wfFrom 0 m

/-- The byte at an offset: an unlisted byte is 0, as the clear of the self-test leaves it (R393). -/
def Memory.get : List Host.Cell → Nat → Byte
  | [], _ => 0
  | (a, b) :: l, k => if a = k then b else if k < a then 0 else Memory.get l k

/-- Write one byte inside the Hamper; a byte written 0 is not listed. -/
def Memory.put : List Host.Cell → Nat → Byte → List Host.Cell
  | [], k, v => if v = 0 then [] else [(k, v)]
  | (a, b) :: l, k, v =>
    if k < a then (if v = 0 then (a, b) :: l else (k, v) :: (a, b) :: l)
    else if k = a then (if v = 0 then l else (k, v) :: l)
    else (a, b) :: Memory.put l k v

/-- Write bytes from an offset on; bytes past the 512 KiB do not exist. DESIGN CHOICE, log entry 38. -/
def Memory.putBytes (m : List Host.Cell) (k : Nat) : List Byte → List Host.Cell
  | [] => m
  | b :: l => Memory.putBytes (if k < 0x80000 then Memory.put m k b else m) (k + 1) l

/-- `n` bytes from an offset on. -/
def Memory.getBytes (m : List Host.Cell) (k : Nat) : Nat → List Byte
  | 0 => []
  | n + 1 => Memory.get m k :: Memory.getBytes m (k + 1) n

/-! ### Answers -/

/-- The last access ended so. -/
def setAck (a : Ack) (s : State) : State := { s with ack := a }

/-- A free value has been used. DESIGN CHOICE, log entry 11. -/
def useFree (s : State) : State := { s with freeCtr := s.freeCtr + 1 }

/-! ### Checks 2 to 5 of R515 -/

/-- The device answers an object access at all (R98). -/
def answering (s : State) : Bool :=
  poweredOutputs s && decide (s.pwr.state ≠ .park) && decide (s.pwr.state ≠ .off)

/-- Two-wire port `n` serves transfers: the device answers and the port is not wedged (R98, R484). -/
def twAnswers (s : State) (n : Fin 2) : Bool := answering s && !s.tw[n].wedged

/-- Check 2: dictionary ready, no activate pause, no tunnel command running on the port. -/
def accessBusy (s : State) (p : Port) : Bool :=
  !s.boot.odAnswering || s.update.pause || (match twOf p with | some n => decide (s.tw[n].tun.phase = .busy) | none => false)

/-- The rail die (k − 1) that holds an object (R561). DESIGN CHOICE, log entry 6. -/
def objDie (idx : Nat) : Option (Fin 7) :=
  match idx / 256 with
  | 0x30 | 0x31 | 0x32 => fin? 7 (idx % 256 / 4)
  | 0x34 => fin? 7 (idx % 256 / 8)
  | 0x38 => fin? 7 (idx % 256 - 1)
  | _ => none

/-- A rail die object whose link is not UP: a read of it waits for the retraining (R562). DEDUCED, log entry 76. -/
def linkBusy (s : State) (idx sub : Nat) : Bool :=
  match objDie idx with
  | some k => decide (sub ≠ 0) && decide (s.links[k].phase ≠ .up)
  | none => false

/-- The link of die `k` is not UP t_LTRN, 200 µs, after its training began (R36, R38): its reads are refused. DEDUCED, log entry 76. -/
def linkLate (s : State) (k : Fin 7) : Bool := decide (s.links[k].phase ≠ .up) && decide (s.links[k].downAt + 200 ≤ s.devTime)

/-- A read of a rail die object is refused with BUSY (R562). -/
def readLate (s : State) (idx sub : Nat) : Bool := linkBusy s idx sub && (match objDie idx with | some k => linkLate s k | none => false)

/-- Checks 2 to 5 of a write in their order: the abort of the first that fails, or the object's row.
DESIGN CHOICE, log entry 9; DEDUCED, log entry 76. -/
def checkWrite (s : State) (p : Port) (idx sub : Nat) : Except AbortCode ObjRow :=
  if accessBusy s p then .error .busy else
    match objFind s.part idx sub with
    | none => .error .noObject
    | some r =>
      if r.acc = .ro ∨ r.acc = .const then .error .readOnly
      else if roleMayWrite s p r.acc idx sub && portBindOk p idx sub then .ok r else .error .role

/-- Checks 2 to 4 of a read; every readable object can be read in every role (R516).
DESIGN CHOICE, log entry 9; DEDUCED, log entry 76. -/
def checkRead (s : State) (p : Port) (idx sub : Nat) : Except AbortCode ObjRow :=
  if accessBusy s p then .error .busy else
    match objFind s.part idx sub with
    | none => .error .noObject
    | some r => if r.acc = .wo then .error .writeOnly else if readLate s idx sub then .error .busy else .ok r

/-- A write that a port makes of the object under `key`, its value given to the owner `f`: no answer before step 7 (R98),
an abort by the checks of R515, else the owner's outcome. DESIGN CHOICE, log entry 9. -/
def directWrite (p : Port) (key : Nat) (s : State) (f : State → State × Ack) : State :=
  if !answering s then setAck .none s else
    match checkWrite s p (key / 256) (key % 256) with
    | .error c => setAck (.abort c) s
    | .ok _ => setAck (f s).2 (f s).1

/-- A read that a port makes of the object under `key`; `f` gives the value and what the read clears.
DESIGN CHOICE, log entry 9. -/
def directRead (p : Port) (key : Nat) (s : State) (f : State → State × Nat) : State :=
  if !answering s then setAck .none s else
    match checkRead s p (key / 256) (key % 256) with
    | .error c => setAck (.abort c) s
    | .ok r => setAck (.value (leBytes r.typ.bytes (f s).2)) (f s).1

/-- The result of a register write (R466). -/
def wrSet (n : Fin 2) (w : WrResult) (ofs : Nat) (s : State) : State :=
  { s with tw := vmod s.tw n fun t => { t with wrResult := w, wrOffset := ofs } }

/-- A register written whole leaves the pointer of port `n` behind its last byte, at `k` (R464, R565). -/
def ptrPast (n : Fin 2) (k : Nat) (s : State) : State :=
  { s with tw := vmod s.tw n fun t => { t with pointer := k % (if s.pwr.oldChart then 128 else 256) } }

end Sys2Proof.Machine
end

