-- ==== Sys2Proof/Machine/FuseOps.lean ====
section
/-! DEFINITION. The shared moves of the twelve fused channels: state tables R133 and R137, qualification R125,
trips and retries R138 to R141. -/

namespace Sys2Proof.Machine

/-- Change zone input channel `n`. -/
def modZin (n : Fin 4) (f : ZinChan → ZinChan) (s : State) : State := { s with zin := vmod s.zin n f }

/-- Change fused output channel `n`. -/
def modFo (n : Fin 8) (f : FoChan → FoChan) (s : State) : State := { s with fo := vmod s.fo n f }

/-- The zone channel states with the gate on (R133). -/
def ZinPhase.gateOn : ZinPhase → Bool
  | .inrush | .on | .limit => true
  | _ => false

/-- The zone channel states in which the channel counts as carrying the bus (R273). -/
def ZinPhase.carries : ZinPhase → Bool
  | .on | .block | .limit => true
  | _ => false

/-- Normal operation of a zone channel (R140). -/
def ZinPhase.normal : ZinPhase → Bool
  | .on | .block => true
  | _ => false

/-- The fused output states with the gate on (R137). -/
def FoPhase.gateOn : FoPhase → Bool
  | .turnOn | .on | .limit | .disabling => true
  | _ => false

/-- Move zone channel `n` to a state: the limit timer stops, t_NORM runs on only within normal operation (R140),
and a change of state is an edge of event source 9 + n (R485). -/
def zinTo (n : Fin 4) (ph : ZinPhase) (s : State) : State :=
  if s.zin[n].phase = ph then s else
    eventEdge (9 + n) (modZin n (fun c => { c with
      phase := ph, limTimer := decide (ph = .limit),
      normTimer := ph.normal }) s)

/-- Move fused output `n` to a state; event source 13 + n (R485). -/
def foTo (n : Fin 8) (ph : FoPhase) (s : State) : State :=
  if s.fo[n].phase = ph then s else
    eventEdge (13 + n) (modFo n (fun c => { c with
      phase := ph, limTimer := decide (ph = .limit), normTimer := decide (ph = .on) }) s)

/-- A channel in WAIT_IN whose input stands inside its window starts QUALIFY with t_ins in full (R125, R133).
DEDUCED, log entry 41. -/
def zinSettle (n : Fin 4) (s : State) : State :=
  let c := s.zin[n]
  if c.phase = .waitIn ∧ c.inWindow then
    zinTo n .qualify (modZin n (fun c => { c with insRunning := true, qualified := false }) s)
  else s

/-- The limit current and the inrush current of a channel in mA, and its sense resistor in µΩ (R149). -/
def chanILim (s : State) : Chan → Nat
  | .zin n => s.zinIlim n
  | .fo n => s.foIlim n
def chanIInr (s : State) : Chan → Nat
  | .zin n => s.zinIinr n
  | .fo n => s.foIinr n
def chanRSense (s : State) : Chan → Nat
  | .zin n => s.zinRsense n
  | .fo n => s.foRsense n

/-- V_LIM = I_LIM × R_S in nV, rounded down to a multiple of 0.05 mV (R128). -/
def vLimOf (s : State) (c : Chan) : Nat := chanILim s c * chanRSense s c / 50000 * 50000

/-- The limit sense voltage in force, nV; outside 10 mV to 50 mV the limit and the fast trip are unpredictable (R128).
DESIGN CHOICE, log entry 10. -/
def vLim (s : State) (c : Chan) : Nat :=
  let v := vLimOf s c
  if 10000000 ≤ v ∧ v ≤ 50000000 then v else Config.outOfRange 0x12800 v s.freeCtr

/-- The inrush sense voltage V_INR = I_INR × R_S in force, nV; outside 2 mV to V_LIM it is unpredictable (R128).
DESIGN CHOICE, log entry 10. -/
def vInr (s : State) (c : Chan) : Nat :=
  let v := chanIInr s c * chanRSense s c
  if 2000000 ≤ v ∧ v ≤ vLimOf s c then v else Config.outOfRange 0x12801 v s.freeCtr

/-- The active limit of R129: V_INR in INRUSH and TURN_ON, V_LIM in every other state. -/
def activeLimit (s : State) (c : Chan) : Nat :=
  match c with
  | .zin n => if s.zin[n].phase = .inrush then vInr s c else vLim s c
  | .fo n => if s.fo[n].phase = .turnOn then vInr s c else vLim s c

/-- A qualified channel turns on as the bus stands, or waits for t_retry (R133, R138). DEDUCED, log entry 41. -/
def zinTurnOn (n : Fin 4) (nearBus : Bool) (s : State) : State :=
  if s.zin[n].retryTimer then zinTo n .retryWait s
  else zinTo n (if nearBus then .on else .inrush) s

/-- A fused output in QUALIFY whose t_ins has ended (R134, R137): RETRY_WAIT while t_retry runs, TURN_ON, or OFF where no
command on stands. From reset start to step 7 of the boot it stays as it is (R110). DEDUCED, log entry 41. -/
def foQualified (n : Fin 8) (s : State) : State :=
  let c := s.fo[n]
  if c.phase ≠ .qualify || !c.qualified || !poweredOutputs s then s
  else if !c.commanded then foTo n .off s
  else if c.retryTimer then foTo n .retryWait s
  else foTo n .turnOn s

/-- The state a fused output commanded on takes as presence and bus window stand (R137); QUALIFY is left at once if t_ins has
already ended. DEDUCED, log entry 41. -/
def foEntry (n : Fin 8) (s : State) : State :=
  let c := s.fo[n]
  if !c.present then foTo n .absent s
  else if !s.zbus.inWindow then foTo n .waitBus s
  else foQualified n (foTo n .qualify s)

/-- Presence and the bus window start t_ins together and stop it when either fails (R125). DEDUCED, log entry 41. -/
def foQualCond (n : Fin 8) (s : State) : State :=
  if s.fo[n].present && s.zbus.inWindow then
    if s.fo[n].insRunning || s.fo[n].qualified then s
    else modFo n (fun c => { c with insRunning := true }) s
  else modFo n (fun c => { c with insRunning := false, qualified := false }) s

/-- The sequencer commands fused output `n` on (R134, R137); during DISABLING the command is held (R44). -/
def foCommandOn (n : Fin 8) (s : State) : State :=
  match s.fo[n].phase with
  | .disabling => modFo n (fun c => { c with onHeld := true }) s
  | .off => foEntry n (modFo n (fun c => { c with commanded := true }) s)
  | _ => modFo n (fun c => { c with commanded := true }) s

/-- The sequencer commands fused output `n` off (R137). -/
def foCommandOff (n : Fin 8) (s : State) : State :=
  let s' := modFo n (fun c => { c with commanded := false, onHeld := false }) s
  match s.fo[n].phase with
  | .turnOn | .on | .limit => foTo n .disabling s'
  | .absent | .waitBus | .qualify | .retryWait => foTo n .off s'
  | .off | .locked | .disabling => s'

/-- The gate of fused output `n` is pulled down fast and the channel is off: forced off in a shutdown (R283), by the
class A safe state (R453) or at hold-up (R385). -/
def foForceOff (n : Fin 8) (s : State) : State :=
  let s' := modFo n (fun c => { c with commanded := false, onHeld := false }) s
  match s.fo[n].phase with
  | .locked => s'
  | _ => foTo n .off s'

/-- The channel reaches off after its controlled discharge; a held command on then takes effect (R44, R147). -/
def foReachOff (n : Fin 8) (s : State) : State :=
  if s.fo[n].phase = .disabling then
    let s' := foTo n .off s
    if s.fo[n].onHeld then foCommandOn n (modFo n (fun c => { c with onHeld := false }) s') else s'
  else s

/-- t_retry of a zone channel in RETRY_WAIT has ended: it turns on once t_ins is satisfied too (R139). DEDUCED, log entry 41. -/
def zinRetryDone (n : Fin 4) (nearBus : Bool) (s : State) : State :=
  if s.zin[n].qualified then zinTurnOn n nearBus s
  else zinTo n .qualify (modZin n (fun c => { c with insRunning := true }) s)

/-- t_retry of a fused output in RETRY_WAIT has ended (R134, R137, R139): it turns on if it is commanded on and t_ins is satisfied,
waits for t_ins as presence and bus stand, or goes to OFF. DEDUCED, log entry 41. -/
def foRetryDone (n : Fin 8) (s : State) : State :=
  if !s.fo[n].commanded then foTo n .off s
  else if s.fo[n].qualified then foTo n .turnOn s
  else foEntry n s

/-- Fault bits of `ZIN_FAULT` and `FO_FAULT` (R149). -/
abbrev bitFast : Nat := 0
abbrev bitLimit : Nat := 1
abbrev bitAbs : Nat := 2
abbrev bitLocked : Nat := 3
abbrev bitCold : Nat := 4

/-- The detail of a trip entry (R131, R452): the fault bits low, the retry count above them. DESIGN CHOICE, log entry 58. -/
def zinDetail (s : State) (n : Fin 4) : Nat := s.zin[n].fault + 256 * s.zin[n].retryCnt
def foDetail (s : State) (n : Fin 8) : Nat := s.fo[n].fault + 256 * s.fo[n].retryCnt

/-- A trip of a zone channel is recorded (R131); in PARK its entry waits for the wake (R148). DESIGN CHOICE, log entry 58. -/
def logZinTrip (n : Fin 4) (s : State) : State :=
  if s.pwr.state = .park then modZin n (fun c => { c with tripPend := c.tripPend ++ [zinDetail s n] }) s
  else logFault .zinTrip 0 n (zinDetail s n) s

/-- A trip of a fused output is recorded (R131, R148). DESIGN CHOICE, log entry 58. -/
def logFoTrip (n : Fin 8) (s : State) : State :=
  if s.pwr.state = .park then modFo n (fun c => { c with tripPend := c.tripPend ++ [foDetail s n] }) s
  else logFault .foTrip 0 n (foDetail s n) s

/-- The trips of a channel in PARK are entered (R148). -/
def zinTripsLogged (n : Fin 4) (s : State) : State :=
  s.zin[n].tripPend.foldl (fun a d => logFault .zinTrip 0 n d a) (modZin n (fun c => { c with tripPend := [] }) s)
def foTripsLogged (n : Fin 8) (s : State) : State :=
  s.fo[n].tripPend.foldl (fun a d => logFault .foTrip 0 n d a) (modFo n (fun c => { c with tripPend := [] }) s)

/-- Every trip of PARK is entered (R148). -/
def parkTripsLogged (s : State) : State :=
  (allFin 8).foldl (fun a n => foTripsLogged n a) ((allFin 4).foldl (fun a n => zinTripsLogged n a) s)

/-- A trip of zone channel `n` with its gate on (R130, R131, R138): bit latched, counted, t_retry started or LOCKED. -/
def zinTrip (n : Fin 4) (b : Nat) (s : State) : State :=
  if !s.zin[n].phase.gateOn then s else
    let cnt := min 8 (s.zin[n].retryCnt + 1)
    let lock := decide (s.zinRetryMax n < cnt)
    let s1 := modZin n (fun c => { c with
      retryCnt := cnt, retryTimer := !lock,
      fault := if lock then setBit (setBit c.fault b) bitLocked else setBit c.fault b }) s
    logZinTrip n (zinTo n (if lock then .locked else .retryWait) s1)

/-- A trip of fused output `n` with its gate on (R130, R131, R137, R138). A command on held in DISABLING then stands; from reset
start to step 7 of the boot the trip turns the output off for good (R116). DEDUCED, log entry 41. -/
def foTrip (n : Fin 8) (b : Nat) (s : State) : State :=
  if !s.fo[n].phase.gateOn then s else
    let cnt := min 8 (s.fo[n].retryCnt + 1)
    let lock := decide (s.foRetryMax n < cnt)
    let s1 := modFo n (fun c => { c with
      retryCnt := cnt, retryTimer := !lock,
      fault := if lock then setBit (setBit c.fault b) bitLocked else setBit c.fault b,
      commanded := poweredOutputs s && (c.commanded || c.onHeld), onHeld := false }) s
    logFoTrip n (foTo n (if lock then .locked else .retryWait) s1)

/-- Some zone channel carries the bus (R273, R323). -/
def anyZoneOn (s : State) : Bool := (allFin 4).any fun n => s.zin[n].phase.carries

/-- A write of 1 to `ZIN_CLEAR` (R141): refused in LIMIT; a released channel starts from WAIT_IN, and a channel that
only waited for t_retry turns on at once (races table of R141). -/
def zinClearOp (n : Fin 4) (nearBus : Bool) (s : State) : State × Ack :=
  if s.zin[n].phase = .limit then (s, .abort .state) else
    let s1 := modZin n (fun c => { c with retryCnt := 0, retryTimer := false, fault := 0 }) s
    match s.zin[n].phase with
    | .locked => (zinSettle n (zinTo n .waitIn s1), .done)
    | .retryWait => (zinRetryDone n nearBus s1, .done)
    | _ => (s1, .done)

/-- A write of 1 to `FO_CLEAR` (R137, R141). -/
def foClearOp (n : Fin 8) (s : State) : State × Ack :=
  if s.fo[n].phase = .limit then (s, .abort .state) else
    let s1 := modFo n (fun c => { c with retryCnt := 0, retryTimer := false, fault := 0 }) s
    match s.fo[n].phase with
    | .locked => (if s.fo[n].commanded then foEntry n s1 else foTo n .off s1, .done)
    | .retryWait => (foRetryDone n s1, .done)
    | _ => (s1, .done)

end Sys2Proof.Machine
end

