-- ==== Sys2Proof/Machine/StoreOps.lean ====
section
/-! DEFINITION. The shared moves of the non-volatile store: retained counters R378, write-backs R359, the journal
R380, the secure partition R396. -/

namespace Sys2Proof.Machine

/-- Change the store interface. -/
def modNv (f : StoreState → StoreState) (s : State) : State := { s with nv := f s.nv }

/-- Change gauge slot `k` of the MRAM. -/
def modSlot (k : Fin 2) (f : GaugeSlot → GaugeSlot) (s : State) : State :=
  { s with mram := { s.mram with slots := vmod s.mram.slots k f } }

/-- The retained counters of R377 by id less one. -/
abbrev ctrBoot : Fin 12 := 0
abbrev ctrCause : Fin 12 := 1
abbrev ctrSub : Fin 12 := 2
abbrev ctrPrev : Fin 12 := 3
abbrev ctrWd : Fin 12 := 4
abbrev ctrFast : Fin 12 := 5
abbrev ctrPre : Fin 12 := 6
abbrev ctrHu : Fin 12 := 7
abbrev ctrTamper : Fin 12 := 8
abbrev ctrBist : Fin 12 := 9
abbrev ctrTorn : Fin 12 := 10

/-- The MRAM offset of a gauge slot (R366). -/
def slotOffset (k : Fin 2) : Nat := 0xD0000 + 0x2000 * k.val

/-- The other of two slots. -/
def otherSlot (k : Fin 2) : Fin 2 := if k = 0 then 1 else 0

/-- A sequence number one newer (R371). DEDUCED, log entry 35. -/
def seqNext (a : Nat) : Nat := (a + 1) % 2 ^ 32

/-- `a` is newer than `b` (R371). -/
def seqNewer (a b : Nat) : Bool :=
  let d := (a + 2 ^ 32 - b % 2 ^ 32) % 2 ^ 32
  decide (1 ≤ d ∧ d ≤ 2 ^ 31 - 1)

/-- A word in a stretch of the MRAM has a flaw. -/
def errIn (s : State) (base n : Nat) (x : MramFlaw) : Bool :=
  s.mram.errs.any fun e => decide (e.flaw = x) && decide (base ≤ e.word ∧ e.word < base + n)

/-- A stretch of the MRAM is written anew: bits that read wrong are right again, a word that takes no write stays as it is. -/
def mramFresh (base n : Nat) (s : State) : State :=
  { s with mram := { s.mram with errs := s.mram.errs.filter fun e =>
      !(decide (base ≤ e.word ∧ e.word < base + n)) || decide (e.flaw = .stuck) } }

/-- The sequence of the next write-back: one above that of the slot in use (R377); with none it is stated nowhere.
DEDUCED, log entry 35. -/
def nextSlotSeq (s : State) : Nat :=
  match s.nv.slotUse with
  | some k => seqNext s.mram.slots[k].seq
  | none => Config.free 377 s.freeCtr % 2 ^ 32

/-- The working Almanac as a slot takes it (R356): `PACK_CELLS`, and the accumulator in whole units, rounded as reported.
DESIGN CHOICE, log entry 14. -/
def almanacCopy (s : State) : Almanac :=
  { s.gauge.alm with cells := s.packCells, disAcc := (gaugeReported s 0x271012 (s.gauge.alm.disAcc * 100) : Rat) / 100 }

/-- Start a write-back to the slot not in use (R359, R377): its header is zeroed first (R369), so it is invalid and has no sequence
until it completes. The working Almanac and the counters are copied. DEDUCED, log entry 35. -/
def startWriteBack (s : State) : State :=
  let t := match s.nv.slotUse with | some k => otherSlot k | none => 0
  useFree (modNv (fun v => { v with wb := .running t, wbReq := false, wbLearn := false })
    (modSlot t (fun _ =>
      { valid := false, seq := 0, alm := almanacCopy s, base := s.nv.ctr, recs := [],
        wip := true, wipLearn := s.nv.wbLearn }) (mramFresh (slotOffset t) 0x2000 s)))

/-- Request a write-back (R359): while one runs, one further follows it. -/
def requestWriteBack (s : State) : State :=
  match s.nv.wb with
  | .running _ => modNv (fun v => { v with wbReq := true }) s
  | .idle => startWriteBack s

/-- Append a record to a record area: a full area drops its oldest (R378). -/
def pushRec (l : List CtrRec) (r : CtrRec) : List CtrRec := if l.length < 256 then l ++ [r] else l.tail ++ [r]

/-- A slot in use with 192 records or more asks for a write-back, once the boot has taken up its Almanac (R378).
DEDUCED, log entry 20. -/
def areaFull (s : State) : State :=
  match s.nv.slotUse, s.nv.wb with
  | some k, .idle =>
    if 192 ≤ s.mram.slots[k].recs.length && (decide (s.boot.phase = .ready) || decide (s.boot.phase = .starting))
    then startWriteBack s else s
  | _, _ => s

/-- Put a counter record where it goes (R378): held while a write-back runs, else into the slot in use; from the 192nd record a
write-back is requested. -/
def putCtrRec (r : CtrRec) (s : State) : State :=
  match s.nv.wb with
  | .running _ => modNv (fun v => { v with ctrHeld := v.ctrHeld ++ [r] }) s
  | .idle =>
    match s.nv.slotUse with
    | none => s
    | some k => areaFull (modSlot k (fun g => { g with recs := pushRec g.recs r }) s)

/-- Change a retained counter (R378). -/
def ctrAppend (id : Fin 12) (value : Nat) (s : State) : State :=
  putCtrRec ⟨false, id.val + 1, value, s.nv.ctrSeq⟩
    (modNv (fun v => { v with ctr := vset v.ctr id value, ctrSeq := seqNext v.ctrSeq }) s)

/-- Writes in progress are abandoned at hold-up entry, counter records that wait with them (R385): what was being written stays
invalid (R369). -/
def dropWrites (s : State) : State :=
  modNv (fun v => { v with
    wb := .idle, wbReq := false, wbLearn := false, ctrHeld := [], saveCopy := none, repairing := false, hcWrite := none }) s

/-- Writes in progress are abandoned at reset start (R106, R360); counter records held for a write-back go to the slot in use.
DEDUCED, log entry 74. -/
def abandonWrites (s : State) : State := s.nv.ctrHeld.foldl (fun a r => putCtrRec r a) (dropWrites s)

/-- Words of the journal wait: configuration, Home Chart, Almanac and bank writes wait behind them (R368). -/
def journalWaits (s : State) : Bool := !s.log.ring.isEmpty || (!s.nv.lfTail.isEmpty && decide (s.boot.phase = .ready))

/-- Another writer than the update path has words waiting: a bank wipe is suspended, a bank write waits (R368). -/
def bankWaits (s : State) : Bool := journalWaits s || s.nv.saveCopy.isSome || s.nv.hcWrite.isSome || decide (s.nv.wb ≠ .idle)

/-- The value of a counter in a slot (R378): the newest record's, torn ones ignored, else the base. DEDUCED, log entry 20. -/
def slotCtr (g : GaugeSlot) (id : Fin 12) : Nat :=
  let newest := (g.recs.filter fun r => !r.torn && decide (r.id = id.val + 1)).foldl (fun (m : Option CtrRec) r =>
    match m with
    | none => some r
    | some q => if seqNewer r.rseq q.rseq then some r else some q) none
  match newest with
  | some r => r.value
  | none => g.base[id]

/-- The slot in use at boot: the valid slot with the newer sequence number (R377). DEDUCED, log entry 20. -/
def bestSlot (s : State) : Option (Fin 2) :=
  match s.mram.slots[(0 : Fin 2)].valid, s.mram.slots[(1 : Fin 2)].valid with
  | true, true => some (if seqNewer s.mram.slots[(1 : Fin 2)].seq s.mram.slots[(0 : Fin 2)].seq then 1 else 0)
  | true, false => some 0
  | false, true => some 1
  | false, false => none

/-- Append a record to the journal ring of 6,144 records, at the record after the newest (R380): a torn record there goes, and in
a full ring the oldest. DEDUCED, log entry 34. -/
def journalPut (r : LogRec) (s : State) : State :=
  let j := s.mram.journal
  { s with mram := { s.mram with journal := if j.length < 6144 then j ++ [r] else j.tail ++ [r], jnlTornRec := false } }

/-- The supply fails while entries wait to be journaled: whether the write of the oldest had begun is stated nowhere, so it is
free; begun, it leaves a torn record, where a full ring held its oldest (R380). DESIGN CHOICE, log entry 85. -/
def tearJournal (s : State) : State :=
  if s.log.ring.isEmpty || s.mram.jnlTornRec || !Config.freeBool 380 s.freeCtr then s else
    { s with mram := { s.mram with
      journal := if s.mram.journal.length < 6144 then s.mram.journal else s.mram.journal.tail, jnlTornRec := true } }

/-- Journal the oldest unjournaled entry (R380). -/
def journalOne (s : State) : State :=
  match s.log.ring with
  | [] => s
  | r :: l => journalPut r { s with log := { s.log with ring := l } }

/-- Journal every entry of the ring: the flush of R106. -/
def journalFlush (s : State) : State :=
  s.log.ring.foldl (fun a r => journalPut r a) { s with log := { s.log with ring := [] } }

/-- The sequence of the newest journal record (R381). DEDUCED, log entry 22. -/
def journalHead (s : State) : Option Nat :=
  s.mram.journal.foldl (fun m r => match m with
    | none => some r.seq
    | some q => if seqNewer r.seq q then some r.seq else some q) none

/-- Wipe the secure partition (R396, R397): its bytes are written to zero, so the Hamper lists none of them.
DESIGN CHOICE, log entry 37. -/
def secureWipe (byTamper : Bool) (s : State) : State :=
  modNv (fun v => { v with
      keyLoaded := false, wiped := true,
      wipeTamper := v.wipeTamper || byTamper, wipeLc := v.wipeLc || !byTamper })
    { s with
      hamper := { s.hamper with mem := s.hamper.mem.filter fun c => decide (0x4000 ≤ c.1) }
      update := { s.update with verified := false } }

/-- The Home Chart is locked: either half of the lock word matches (R376). -/
def hcLocked (s : State) : Bool := decide (s.mram.hc.lockLo = 0x4C4F434B) || decide (s.mram.hc.lockHi = 0xB3B0BCB4)

/-- Write the lock word (R376). -/
def lockHomeChart (s : State) : State :=
  { s with mram := { s.mram with hc := { s.mram.hc with lockLo := 0x4C4F434B, lockHi := 0xB3B0BCB4 } } }

end Sys2Proof.Machine
end

