-- ==== Sys2Proof/Machine/PackOps.lean ====
section
/-! DEFINITION. The shared moves of source selection, charger, power path and gauge: R303 to R331, R339 to R362. -/

namespace Sys2Proof.Machine

/-- Change the power path, the charger, the gauge and the working Almanac. -/
def modPp (f : PathState → PathState) (s : State) : State := { s with pp := f s.pp }
def modChg (f : ChargerState → ChargerState) (s : State) : State := { s with chg := f s.chg }
def modGg (f : GaugeState → GaugeState) (s : State) : State := { s with gauge := f s.gauge }
def modAlm (f : Almanac → Almanac) (s : State) : State := modGg (fun g => { g with alm := f g.alm }) s

/-- `PP_STATUS` (R331). -/
def ppStatus (s : State) : Nat :=
  let p := s.pp
  bitsOf [p.drawing, decide (p.fet = .full), p.lbusGood, p.limIn, p.limOut, p.limFet, p.clamp,
    decide (p.typ ≠ .unknown), p.mismatch, s.gauge.outRunning, p.overload]

/-- `GG_STATUS` (R364). -/
def ggStatus (s : State) : Nat :=
  let g := s.gauge
  bitsOf [g.eod, g.disagree, g.dir, decide (0 < g.restSec), g.restQual, g.eodFloor, !g.alm.tablesSet,
    decide (g.alm.cap = 0), g.almInvalid, s.nv.wbReq || decide (s.nv.wb ≠ .idle), !s.pp.present]

/-! ### Source type (R304 to R307) -/

/-- The codes of R306. -/
def SrcType.code : SrcType → Nat
  | .unknown => 0 | .zone48 => 1 | .zone12 => 2 | .service => 3

/-- The zone candidate of R304 from `ZBUS` and `ZBUS_MODE`. -/
def zoneCandidate (s : State) : SrcType :=
  if 20000 ≤ s.zbus.v ∧ s.zbus.v ≤ 64000 ∧ s.zbus.mode = 0 then .zone48
  else if 8000 ≤ s.zbus.v ∧ s.zbus.v ≤ 18000 ∧ s.zbus.mode = 1 then .zone12
  else .unknown

/-- `ZBUS` stands in the band of the other mode (R304). -/
def bandContradicts (s : State) : Bool :=
  (decide (20000 ≤ s.zbus.v ∧ s.zbus.v ≤ 64000) && decide (s.zbus.mode = 1))
    || (decide (8000 ≤ s.zbus.v ∧ s.zbus.v ≤ 18000) && decide (s.zbus.mode = 0))

/-- The announcement of port `n` that counts (R305): valid and not 0, while its zone channel carries the bus. -/
def announced (s : State) (n : Fin 4) : Option Nat :=
  if s.zin[n].phase.carries && s.pp.annc[n].valid && decide (s.pp.annc[n].value ≠ 0) then some s.pp.annc[n].value else none

/-- The band in which `ZBUS` stands, whatever `ZBUS_MODE` (R304). -/
def zbusBand (s : State) : SrcType :=
  if 20000 ≤ s.zbus.v ∧ s.zbus.v ≤ 64000 then .zone48 else if 8000 ≤ s.zbus.v ∧ s.zbus.v ≤ 18000 then .zone12 else .unknown

/-- The lowest port whose announcement disagrees with another's or with the band (R305). -/
def disagreeing (s : State) : Option (Fin 4) :=
  let c := zbusBand s
  let l := (allFin 4).filterMap fun n => (announced s n).map fun v => (n, v)
  (l.find? fun x => l.any (fun y => decide (y.2 ≠ x.2)) || (decide (c ≠ .unknown) && decide (x.2 ≠ c.code))).map (·.1)

/-- The service ideal diode conducts (R304). -/
def svcConducts (s : State) : Bool := s.pp.svcQual && !s.pp.svcRev

/-- The source type of R304 and R305, and whether it is confirmed. -/
def sourceType (s : State) : SrcType :=
  if svcConducts s then .service
  else
    let c := zoneCandidate s
    let l := (allFin 4).filterMap (announced s)
    if decide (c ≠ .unknown) && l.contains c.code && l.all (fun v => decide (v = c.code)) then c else .unknown

/-- `SRC_TYPE` as it reads (R306): 0xFF while the power path is not in SOURCE. -/
def srcTypeCode (s : State) : Nat := if s.pp.phase = .source then s.pp.typ.code else 0xFF

/-- The limit object of a type (R306), mA. -/
def ilimOf (s : State) : SrcType → Nat
  | .unknown => s.srcIlimUnk | .zone48 => s.srcIlimZ48 | .zone12 => s.srcIlimZ12 | .service => s.srcIlimSvc

/-- Judge the source type again: SRC_MISMATCH is raised by a band or an announcement that contradicts, the second also
logged as it arises (R304, R305); a change of the type is an edge of event source 45. -/
def sourceEval (s : State) : State :=
  let t := sourceType s
  let dis := disagreeing s
  let s1 := modPp (fun p => { p with typ := t, mismatch := bandContradicts s || dis.isSome, annMis := dis.isSome }) s
  let s2 := if s.pp.typ = t then s1 else eventEdge 45 s1
  match dis with
  | some n => if s.pp.annMis then s2 else logFault .srcMismatch 0 n (srcTypeCode s2) s2
  | none => s2

/-- What a change of a zone channel's state means for the power path: the source type is judged again (R305). -/
def powerPathChannels (s : State) : State := sourceEval s

/-! ### Charger (R310 to R318) -/

/-- C of R310: the learned capacity, else `PACK_CAP_NOM`. -/
def capacity (s : State) : Nat := if s.gauge.alm.cap = 0 then s.packCapNom else s.gauge.alm.cap

/-- `PACK_CELLS` lies between 4 and 12 (R310). -/
def cellsOk (s : State) : Bool := decide (4 ≤ s.packCells ∧ s.packCells ≤ 12)

/-- The charge states with a charge target (R310). -/
def ChgPhase.charging : ChgPhase → Bool
  | .precharge | .fast | .trickle => true
  | _ => false

/-- Move the charger to a state; event source 6. FAST starts its samples anew (R312). -/
def chgTo (ph : ChgPhase) (s : State) : State :=
  if s.chg.phase = ph then s else
    eventEdge 6 (modChg (fun c =>
      let c := { c with phase := ph, current := if ph.charging || decide (ph = .disabling) then c.current else 0 }
      if ph = .fast then { c with fastSamples := 0, peak := none, peakRestart := false, dvCnt := 0, dtCnt := 0, temps := [] } else c) s)

/-- `CHG_EN` set (R311): OFF goes to WAIT with a pack configured, and to FAULT while a bit of `CHG_FAULT` stands (R316); during
DISABLING the enable is held (R44). -/
def chgEnable (s : State) : State :=
  match s.chg.phase with
  | .off => if cellsOk s then chgTo (if s.chg.fault = 0 then .wait else .fault) s else s
  | .disabling => modChg (fun c => { c with enHeld := true }) s
  | _ => s

/-- FAST and precharge times are cleared by a termination, a hand-over or a pack removal (R311). -/
def clearChgTimes (s : State) : State :=
  let s1 := modChg (fun c => { c with fastTime := 0, preTime := 0 }) s
  let s2 := if s.nv.ctr[ctrFast] = 0 then s1 else ctrAppend ctrFast 0 s1
  if s.nv.ctr[ctrPre] = 0 then s2 else ctrAppend ctrPre 0 s2

/-- Latch bits of `CHG_FAULT` (R316): FAULT, each newly set bit logged, class B. -/
def chgFaultSet (bits : Nat) (s : State) : State :=
  let s1 := modChg (fun c => { c with fault := c.fault ||| bits, faultRead := false }) s
  let s2 := if s1.chg.fault = s.chg.fault then s1 else eventEdge 6 (logFault .chgFault 0 0 s1.chg.fault s1)
  if s.chg.phase = .off || s.chg.phase = .disabling then s2 else chgTo .fault s2

/-- The FAST and PRECHARGE limits in units of 10 µs. DEDUCED, log entry 50. -/
def minutes10us (m : Nat) : Nat := m * 6000000

/-- The backstops of R315 as `CHG_FAULT` bits, for V_PKP in mV and the pack temperature in 0.1 °C; above 120 °C `PKT` reads below
its short threshold. -/
def backstopBits (s : State) (v : Nat) (t : Int) (swOc : Bool) : Nat :=
  bit (decide (s.chgTabs < t)) + 2 * bit (decide (minutes10us s.chgTsafe ≤ s.chg.fastTime))
    + 8 * bit (decide (s.chgVcellMax * s.packCells < v)) + 32 * bit (decide (1200 < t)) + 64 * bit swOc

/-- Causes that persist in FAULT (R316, R318): the backstops, an elapsed precharge time, a removed pack that is not present again. -/
def persistBits (s : State) (v : Nat) (t : Int) : Nat :=
  backstopBits s v t s.chg.swOc + 4 * bit (decide (minutes10us s.chgTpre ≤ s.chg.preTime)) + 16 * bit (s.chg.removed && !s.pp.present)

/-- The start conditions of R310, with the temperature band 3.0 °C narrower once paused; no charging in the class A safe state or
the thermal hold (R424, R453). -/
def startConditions (s : State) (t : Int) : Bool :=
  let m : Int := if s.chg.tempPause then 30 else 0
  cellsOk s && !s.faultLine && !s.boot.thermalHold && decide (s.pp.phase = .source) && (decide (s.pwr.state = .run) || decide (s.pwr.state = .doze))
    && decide (s.boot.phase = .ready ∨ s.boot.phase = .starting) && s.chg.hbDone && s.pp.present && decide (s.chgTlo + m ≤ t) && decide (t ≤ s.chgThi - m)

/-- The temperature lies between `CHG_TLO` and `CHG_THI`. -/
def chgTempOk (s : State) (t : Int) : Bool := decide (s.chgTlo ≤ t) && decide (t ≤ s.chgThi)

/-- A start condition fails: PRECHARGE, FAST and TRICKLE go to WAIT (R311). -/
def chgPause (s : State) : State := if s.chg.phase.charging then chgTo .wait s else s

/-- The terminated flag is cleared: TRICKLE goes to FAST (R311). -/
def clearTerminated (s : State) : State :=
  let s1 := modChg (fun c => { c with terminated := false }) s
  if s.chg.terminated && decide (s.chg.phase = .trickle) then chgTo .fast s1 else s1

/-- The cell voltage of a pack that counts as present (R318, R331), for V_PKP in mV. -/
def packVoltOk (s : State) (v : Nat) : Bool := decide (500 * s.packCells ≤ v) && decide (v ≤ s.chgVcellMax * s.packCells)

/-! ### Learning and outings (R325, R348, R349, R355) -/

/-- Write `GG_LEARN_RESULT`; event source 8. -/
def learnResult (r : Nat) (s : State) : State := eventEdge 8 (modAlm (fun a => { a with result := r }) s)

/-- The power path changes state; event source 5. In PARK its leaving SOURCE ends the rest (R346). -/
def ppTo (ph : PpPhase) (s : State) : State :=
  if s.pp.phase = ph then s else
    eventEdge 5 (modGg (fun g => { g with parkSource := g.parkSource && decide (s.pwr.state ≠ .park) })
      (modPp (fun p => { p with phase := ph }) s))

/-- The charger is off for a thermal shutdown (R424): in the reset and the boot after it, and in the hold of R112. -/
def thermalOff (s : State) : Bool := s.therm.latch && (s.boot.thermalHold || decide (s.boot.phase ≠ .ready))

/-- The charger is stopped: it blocks both ways, so that no current flows in it (R300). -/
def chargerStopped (p : PathState) : PathState :=
  { p with regulating := false, limIn := false, limOut := false, limFet := false, overload := false, lbusIout := 0, chgIin := 0 }

/-- The charger stops. -/
def chargerStop (s : State) : State := modChg (fun c => { c with current := 0 }) (modPp chargerStopped s)

/-- The hand-back starts (R323): the charger regulates with the limit of UNKNOWN, the pack FET stays on; the gate of a service path
that is qualified is driven again (R298). -/
def handBack (s : State) : State :=
  ppTo .handingBack (modPp (fun p => { p with
    regulating := !thermalOff s, limTyp := .unknown, fet := .full, svcPulled := p.svcPulled && !p.svcQual }) s)

/-- A running outing ends (R325, R355): with a hand-back unless the source was lost. -/
def outingEnd (reason : Nat) (s : State) : State :=
  if !s.gauge.outRunning then s else
    let s1 := modGg (fun g => { g with outRunning := false, outReason := reason }) s
    if reason = 6 || decide (s.pp.phase ≠ .outing) then s1 else handBack s1

/-- Learn age in whole minutes, from seconds outside OFF (R364). -/
def learnAge (secs : Nat) (s : State) : State :=
  let t := s.gauge.ageSec + secs
  modGg (fun g => { g with ageSec := t % 60, alm := { g.alm with age := satAdd max32 g.alm.age (t / 60) } }) s

/-- The learning cycle in progress ends with a result. -/
def learnIdle (r : Nat) (s : State) : State :=
  if s.gauge.learn = .idle then s else learnResult r (modGg (fun g => { g with learn := .idle, aboveRun := 0, lowRun := 0 }) s)

/-- The learning cycle in progress is disqualified; a running outing ends with it (R349, R355). -/
def learnStop (r : Nat) (s : State) : State := if s.gauge.learn = .idle then s else outingEnd 4 (learnIdle r s)

/-- An outing ends and its learning cycle with it under another result (R355). -/
def outingStop (reason result : Nat) (s : State) : State :=
  let s1 := outingEnd reason s
  if result = 0 then s1 else learnStop result s1

/-- The conditions of R353. -/
def outingMayStart (s : State) : Bool :=
  decide (s.pwr.state = .run) && decide (s.pp.phase = .source) && s.pp.lbusGood && decide (s.chg.phase = .trickle)
    && decide (s.gauge.learn = .full) && decide (100 ≤ s.pp.packT) && decide (s.pp.packT ≤ 450) && !s.gauge.disagree
    && !s.gauge.outRunning

/-- The break of a hand-over (R320): the charger stops, and a service source's gate is pulled down. -/
def pathBreak (s : State) : State :=
  modPp (fun p => { p with fet := .full, svcPulled := p.svcPulled || decide (p.limTyp = .service) }) (chargerStop s)

/-- An outing starts (R325): make and break, OUTING, counted; charging waits. -/
def outingStart (s : State) : State :=
  chgPause (ppTo .outing (pathBreak (modGg (fun g => { g with outRunning := true, outCnt := satAdd max16 g.outCnt 1 }) s)))

/-! ### End of discharge, anchors (R338, R341 to R345) -/

/-- Re-anchor the integrator at `q` (R338); DISAGREE is cleared (R345). -/
def anchor (q : Rat) (s : State) : State := modGg (fun g => { g with qInt := q, disagree := false, dir := false }) s

/-- The Lantern bus stops being good at end of discharge in ON_PACK, until SOURCE is reached again (R303); an outing ends by reason 1
(R355). -/
def eodActs (s : State) : State :=
  match s.pp.phase with
  | .onPack => modPp (fun p => { p with lbusGood := false, eodHeld := true }) s
  | .outing => outingEnd 1 s
  | _ => s

/-- DISAGREE is set or changes direction (R343 to R345): set once, logged, the learning cycle disqualified. -/
def setDisagree (dir : Bool) (s : State) : State :=
  if s.gauge.disagree then modGg (fun g => { g with dir := dir }) s else
    let s1 := eventEdge 8 (modGg (fun g => { g with disagree := true, dir := dir }) s)
    learnStop 7 (logFault .ggDisagree 0 0 (ggStatus s1) s1)

/-- A gauge start (R347): model and rest from zero, EOD and DISAGREE cleared, learning IDLE. -/
def gaugeStartOp (s : State) : State :=
  eventLevel 7 false (modGg (fun g => { g with
    running := true, first := true, v1 := 0, v2 := 0, restSec := 0, restQual := false,
    eod := false, eodFloor := false, eodCntV := 0, eodCntF := 0, chgRun := 0, disagree := false, dir := false,
    hist := [], learn := .idle, aboveRun := 0, lowRun := 0, qDis := 0 }) s)

/-- A charge termination reaches the gauge (R338, R348): anchored at C; IDLE goes to FULL unless DISAGREE stood (R362). -/
def gaugeTerminated (s : State) : State :=
  let dis := s.gauge.disagree
  let s1 := anchor (capacity s) s
  if s.gauge.learn = .idle && !dis then modGg (fun g => { g with learn := .full, aboveRun := 0, qDis := 0 }) s1 else s1

/-- The pack has gone: charging goes to WAIT (R310, R311), the gauge stops, the learning cycle is disqualified (R332, R349, R362). -/
def packGone (s : State) : State :=
  learnStop 9 (chgPause (modGg (fun g => { g with running := false }) (modPp (fun p => { p with present := false }) s)))

/-- `PACK_PRESENT` reads 0 once the cell voltage leaves the range of a present pack (R331). DEDUCED, log entry 50. -/
def packCheck (s : State) : State :=
  if s.pp.present && cellsOk s && !packVoltOk s s.pp.packV then packGone s else s

/-! ### Hand-over (R319 to R326) -/

/-- The power path has a source (R319), with `ZBUS` at `zbus` mV. -/
def hasSource (s : State) (zbus : Nat) : Bool := decide (s.hoThr ≤ zbus) || s.pp.svcQual

/-- The power path enters ON_PACK; while an end of discharge stands the Lantern bus is not good there (R303, R342). -/
def toOnPack (s : State) : State :=
  let s1 := ppTo .onPack s
  if s.gauge.eod then eodActs s1 else s1

/-- The make of a hand-over completes and the break is done (R320). -/
def makeDone (s : State) : State := pathBreak (modPp (fun p => { p with made := true }) s)

/-- The pack FET follows `ZBUS` alone: to step 6 after a power-on reset (R327), to step 7 after a full reset (R110). -/
def fetByBus (s : State) : Bool :=
  match s.boot.phase with
  | .strapWait | .selfTest | .halted | .inReset => true
  | .starting => !s.boot.cold
  | _ => false

/-- The pack FET is on while `ZBUS` lies below the hand-over threshold, as long as it follows `ZBUS` (R110, R327). -/
def bootFet (s : State) : State :=
  if fetByBus s then modPp (fun p => { p with fet := if s.zbus.v < s.hoThr then .full else .off }) s else s

/-- The pack FET takes the state of the power path (R325): in SOURCE off until the next control cycle needs it. -/
def pathFet (s : State) : State := modPp (fun p => { p with fet := if p.phase = .source then .off else .full }) s

/-- The limit of the type in force (R307), from step 6 of a boot on: before it the limit at reset start or that of UNKNOWN holds (R327,
R329). -/
def limitTaken (s : State) : State :=
  if s.pp.phase = .source && decide (s.boot.phase = .starting ∨ s.boot.phase = .ready) then modPp (fun p => { p with limTyp := p.typ }) s
  else s

/-- The power path draws from the pack (R319). -/
def drawingFromPack (s : State) : Bool := s.pp.drawing

end Sys2Proof.Machine
end

