-- ==== Sys2Proof/Machine/LinkOps.lean ====
section
/-! DEFINITION. Frames of the package links: the body R32, the order of sending R34, the acknowledgements R35, and what the helm
die does with a frame that reaches it. -/

namespace Sys2Proof.Machine

/-- Change link `k`. -/
def modLink (k : Fin 7) (f : LinkState → LinkState) (s : State) : State := { s with links := vmod s.links k f }

/-- The end that receives. -/
def linkEnd (l : LinkState) : LinkEndSel → LinkEnd
  | .atHelm => l.helm
  | .atRail => l.rail

/-- Change one end of link `k`. -/
def modEnd (k : Fin 7) (e : LinkEndSel) (f : LinkEnd → LinkEnd) (s : State) : State :=
  match e with
  | .atHelm => modLink k (fun l => { l with helm := f l.helm }) s
  | .atRail => modLink k (fun l => { l with rail := f l.rail }) s

/-- The end across the link. -/
def otherEnd : LinkEndSel → LinkEndSel
  | .atHelm => .atRail
  | .atRail => .atHelm

/-! ### The frame body (R32) -/

/-- TYPE of what a frame carries (R32). -/
def frameType : FramePayload → Nat
  | .idle => 0 | .nak _ => 1 | .command _ => 2 | .event _ _ => 3 | .objWrite _ _ _ => 4 | .objRead _ _ => 5
  | .objData _ _ _ => 6 | .telemetry _ _ => 7 | .raw b => field b 63 60

/-- PAYLOAD [47:0] of what a frame carries (R32). -/
def payloadBits : FramePayload → Nat
  | .idle => 0
  | .nak q => q % 8
  | .command c => Config.cmdPayload c % 2 ^ 48
  | .event src cause => src % 8 * 2 ^ 40 + cause % 2 ^ 40
  | .objWrite o b v | .objData o b v => o % 256 * 2 ^ 40 + b % 256 * 2 ^ 32 + v % 2 ^ 32
  | .objRead o b => o % 256 * 2 ^ 40 + b % 256 * 2 ^ 32
  | .telemetry ofs d => ofs % 4096 * 2 ^ 32 + d % 2 ^ 32
  | .raw b => b % 2 ^ 48

/-- The frame body, bits [63:0] (R32). -/
def frameBody (f : LinkFrame) : Nat :=
  frameType f.payload * 2 ^ 60 + f.seq % 8 * 2 ^ 57 + f.ackSeq % 8 * 2 ^ 54 + f.tag % 64 * 2 ^ 48 + payloadBits f.payload

/-- The CRC-16 over the eight body bytes, sent MSB first (R32). -/
def frameCrc (body : Nat) : Nat := crc16 0xFFFF (beBytes 8 body)

/-- A received frame passes its CRC and its TYPE is not reserved (R32, R35). -/
def frameGood (body crc : Nat) : Bool := decide (crc = frameCrc body) && decide (field body 63 60 < 8)

/-! ### Sending and receiving (R34, R35) -/

/-- The order of sending (R34). -/
def payloadRank : FramePayload → Nat
  | .nak _ => 0
  | .command _ | .event _ _ => 1
  | .objWrite _ _ _ | .objRead _ _ | .objData _ _ _ => 2
  | .telemetry _ _ => 3
  | .idle | .raw _ => 4

/-- A frame waits behind those of its rank and before those of a later one (R34). -/
def waitFrame (f : LinkFrame) (e : LinkEnd) : LinkEnd :=
  { e with
    waiting := e.waiting.filter (fun g => decide (payloadRank g.payload ≤ payloadRank f.payload)) ++ [f]
      ++ e.waiting.filter fun g => decide (payloadRank f.payload < payloadRank g.payload) }

/-- An acknowledgement of every frame up to a SEQ (R32). -/
def ackFrames (ack : Nat) (e : LinkEnd) : LinkEnd :=
  if e.unacked.any fun f => decide (f.seq = ack % 8) then
    { e with unacked := (e.unacked.dropWhile fun f => decide (f.seq ≠ ack % 8)).tail }
  else e

/-- NAK and IDLE frames take no SEQ of their own and are not resent. DEDUCED, log entry 40. -/
def numbered : FramePayload → Bool
  | .nak _ | .idle => false
  | _ => true

/-- A frame as it leaves an end: with the end's SEQ, and in ACKSEQ the last frame received correctly (R32). -/
def stamped (f : LinkFrame) (e : LinkEnd) : LinkFrame :=
  { f with seq := e.nextSeq, ackSeq := (e.expected + 7) % 8, failed := 0 }

/-- A frame leaves an end (R32, R35). A new frame leaves only when the other end has every frame before it: with seven unacknowledged,
an IDLE frame of the other end, which is always sent when nothing else waits (R34), has acknowledged them. DEDUCED, log entry 40. -/
def frameOut (f : LinkFrame) (e : LinkEnd) : LinkEnd :=
  let g := stamped f e
  let e1 := { e with sent := some (frameBody g, frameCrc (frameBody g)) }
  if numbered f.payload then
    { e1 with
      nextSeq := (e.nextSeq + 1) % 8
      unacked := (if 7 ≤ e.unacked.length then [] else e.unacked) ++ [g] }
  else e1

/-- A frame that left the end `o` reaches the end `e` correctly: its ACKSEQ is taken and, numbered, it is the expected one. -/
def frameIn (f : LinkFrame) (o e : LinkEnd) : LinkEnd :=
  let e1 := ackFrames ((o.expected + 7) % 8) e
  if numbered f.payload then { e1 with expected := (o.nextSeq + 1) % 8 } else e1

/-- A frame crosses link `k` to the end `recv` without error. -/
def crossLink (k : Fin 7) (recv : LinkEndSel) (f : LinkFrame) (s : State) : State :=
  let o := linkEnd s.links[k] (otherEnd recv)
  modEnd k recv (frameIn f o) (modEnd k (otherEnd recv) (frameOut f) s)

/-- A NAK waits at an end; it goes before every other frame (R34). -/
def nakWaits (e : LinkEnd) : Bool := e.waiting.any fun f => decide (payloadRank f.payload = 0)

/-- The other end has received every frame that an end has sent: nothing is to be resent first (R35). -/
def endClear (l : LinkState) (e : LinkEndSel) : Bool := decide ((linkEnd l e).nextSeq = (linkEnd l (otherEnd e)).expected)

/-- The frames that wait at an end may leave it: the link is UP, no NAK waits and no frame is to be resent (R34, R35).
DEDUCED, log entry 40. -/
def endSends (l : LinkState) (e : LinkEndSel) : Bool :=
  decide (l.phase = .up) && !nakWaits (linkEnd l e) && endClear l e

/-- Nothing waits at the end of link `k` and nothing is to be resent: a frame queued there leaves at once. -/
def endFree (l : LinkState) (e : LinkEndSel) : Bool := (linkEnd l e).waiting.isEmpty && endClear l e

/-- The helm die's end and the rail die's end of link `k` are free. -/
def helmFree (s : State) (k : Fin 7) : Bool := endFree s.links[k] .atHelm
def railFree (s : State) (k : Fin 7) : Bool := endFree s.links[k] .atRail

/-- The frames that leave an end: those whose rank is below `top`, in order (R34). -/
def leaving (top : Nat) (e : LinkEnd) : List LinkFrame := e.waiting.filter fun f => decide (payloadRank f.payload < top)

/-- The end once they have left. -/
def afterLeaving (top : Nat) (e : LinkEnd) : LinkEnd :=
  { e with waiting := e.waiting.filter fun f => decide (top ≤ payloadRank f.payload) }

/-- A data word under a TAG: consecutive frames of one TAG make one value, lowest word first (R33). DEDUCED, log entry 40. -/
def addData (tag w : Nat) : List (Nat × List Nat) → List (Nat × List Nat)
  | (t, ws) :: l => if t = tag then (t, ws ++ [w]) :: l else (tag, [w]) :: (t, ws) :: l.filter fun x => decide (x.1 ≠ tag)
  | [] => [(tag, [w])]

/-- The event source of a rail die that an EVENT frame names (R32, R485); source 6 is a level and follows its condition. -/
def eventIn (k : Fin 7) (source : Nat) (s : State) : State :=
  if 8 ≤ source then s
  else if source = 6 then eventLevel (70 + 8 * k) (decide (0 < thrStep s (k + 1))) s
  else eventEdge (64 + 8 * k + source) s

/-- What a frame does at the helm die (R32); for a TELEMETRY frame see `telemetryPump`. -/
def helmTakes (k : Fin 7) (f : LinkFrame) (s : State) : State :=
  match f.payload with
  | .event source _ => eventIn k source s
  | .objData _ _ w => modLink k (fun l => { l with data := addData (f.tag % 64) (w % 2 ^ 32) l.data }) s
  | _ => s

/-- The EVENT and OBJ_DATA frames waiting at the rail die's end leave in order and reach the helm die (R34); TELEMETRY frames come
after them. The latency t_LNK passes no command. DEDUCED, log entry 40. -/
def railPump (k : Fin 7) (s : State) : State :=
  if !endSends s.links[k] .atRail then s else
    (leaving 3 s.links[k].rail).foldl (fun a f => helmTakes k f (crossLink k .atHelm f a)) (modEnd k .atRail (afterLeaving 3) s)

/-- The rail die queues a frame for the helm die (R34). DEDUCED, log entry 40. -/
def railSend (k : Fin 7) (tag : Nat) (p : FramePayload) (s : State) : State :=
  railPump k (modEnd k .atRail (waitFrame ⟨0, 0, tag % 64, p, 0⟩) s)

/-- A rail die raises its event source 0 to 7 by an EVENT frame (R32, R34); its cause bits are stated nowhere.
DESIGN CHOICE, log entry 11. -/
def dieEvent (k : Fin 7) (source : Nat) (s : State) : State :=
  railSend k 0 (.event source (Config.free 0x32300 s.freeCtr % 2 ^ 40)) s

end Sys2Proof.Machine
end

