-- ==== Sys2Proof/Machine/RailOps.lean ====
section
/-! DEFINITION. The shared moves of rails, phases and ganged groups: R155 to R191, R195 to R240, R241 to R268. -/

namespace Sys2Proof.Machine

/-! ### Numbering (R9) and membership (R155, R175, R176) -/

/-- The die (k − 1) of a rail. -/
def railDie (r : Fin 28) : Fin 7 := ⟨r.val / 4, by omega⟩

/-- The local loop of a rail. -/
def railLoop (r : Fin 28) : Nat := r.val % 4

/-- The die (k − 1) of a phase. -/
def phaseDie (ph : Fin 56) : Fin 7 := ⟨ph.val / 8, by omega⟩

/-- The rail of loop `l` on die index `k`. -/
def dieRail (k : Fin 7) (l : Fin 4) : Fin 28 := ⟨4 * k.val + l.val, by omega⟩

/-- The four rails of a die. -/
def dieRails (k : Fin 7) : List (Fin 28) := (allFin 4).map (dieRail k)

/-- The eight phases of a die. -/
def diePhases (k : Fin 7) : List (Fin 56) := (allFin 8).map fun p => ⟨8 * k.val + p.val, by omega⟩

/-- Change rail `r`. -/
def modRail (r : Fin 28) (f : RailState → RailState) (s : State) : State := { s with rails := vmod s.rails r f }

/-- Change phase `ph`. -/
def modPhase (ph : Fin 56) (f : PhaseState → PhaseState) (s : State) : State := { s with phases := vmod s.phases ph f }

/-- Change ganged group `g`. -/
def modGang (g : Fin 4) (f : GangState → GangState) (s : State) : State := { s with gangs := vmod s.gangs g f }

/-- Change rail die `k`. -/
def modDie (k : Fin 7) (f : DieState → DieState) (s : State) : State := { s with dies := vmod s.dies k f }

/-- Change the parts of a rail. -/
def modLoop (r : Fin 28) (f : LoopState → LoopState) (s : State) : State := modRail r (fun x => { x with loop := f x.loop }) s
def modDyn (r : Fin 28) (f : DynState → DynState) (s : State) : State := modRail r (fun x => { x with dyn := f x.dyn }) s
def modFc (r : Fin 28) (f : FcTrim → FcTrim) (s : State) : State := modRail r (fun x => { x with fc := f x.fc }) s
def modProt (r : Fin 28) (f : ProtState → ProtState) (s : State) : State := modRail r (fun x => { x with prot := f x.prot }) s

/-- A formed group stands until the next boot, a failed one included (R186, R187). -/
def gangStands (s : State) (g : Fin 4) : Bool := s.gangs[g].phase = .formed || s.gangs[g].phase = .failed

/-- The dies (k − 1) of a group that stands, in ascending order, lead first (R175). -/
def gangDies (s : State) (g : Fin 4) : List (Fin 7) :=
  (allFin 7).filter fun k => decide (s.gangs[g].first ≤ k.val ∧ k.val < s.gangs[g].first + s.gangs[g].dies)

/-- The group whose ganged rail is `r` (R176). -/
def gangOfRail (s : State) (r : Fin 28) : Option (Fin 4) :=
  (allFin 4).find? fun g => gangStands s g && decide (4 * s.gangs[g].first = r.val)

/-- The group that die `k` belongs to. -/
def gangOfDie (s : State) (k : Fin 7) : Option (Fin 4) :=
  (allFin 4).find? fun g => gangStands s g && (gangDies s g).contains k

/-- Die `k` is a follower of its group. -/
def isFollower (s : State) (k : Fin 7) : Bool :=
  match gangOfDie s k with
  | some g => decide (s.gangs[g].first ≠ k.val)
  | none => false

/-- The followers of a group. -/
def followers (s : State) (g : Fin 4) : List (Fin 7) := (gangDies s g).filter fun k => decide (k.val ≠ s.gangs[g].first)

/-- The rail of a group that stands. -/
def gangRail (s : State) (g : Fin 4) : Option (Fin 28) := fin? 28 (4 * s.gangs[g].first)

/-- The phases assigned to a rail, ascending (R155, R176). An absorbed or held-off loop has none in use. -/
def railPhases (s : State) (r : Fin 28) : List (Fin 56) :=
  if s.rails[r].absorbed || s.rails[r].heldOff then [] else
    match gangOfRail s r with
    | some g => ((gangDies s g).flatMap diePhases).filter fun ph => decide (s.phLoop ph = 0)
    | none => (diePhases (railDie r)).filter fun ph => decide (s.phLoop ph = railLoop r)

/-- The rail that a phase belongs to. -/
def phaseRail (s : State) (ph : Fin 56) : Option (Fin 28) :=
  let k := phaseDie ph
  match gangOfDie s k with
  | some g => if s.phLoop ph = 0 then gangRail s g else if h : s.phLoop ph < 4 then some (dieRail k ⟨s.phLoop ph, h⟩) else none
  | none => if h : s.phLoop ph < 4 then some (dieRail k ⟨s.phLoop ph, h⟩) else none

/-- ACTIVE phases of a rail. -/
def activePhases (s : State) (r : Fin 28) : List (Fin 56) :=
  (railPhases s r).filter fun ph => decide (s.phases[ph].run = .active)

/-- LEAVING phases of a rail. -/
def leavingPhases (s : State) (r : Fin 28) : List (Fin 56) :=
  (railPhases s r).filter fun ph => decide (s.phases[ph].run = .leaving)

/-- SHED phases of a rail. -/
def shedPhases (s : State) (r : Fin 28) : List (Fin 56) :=
  (railPhases s r).filter fun ph => decide (s.phases[ph].run = .shed)

/-- ACTIVE and LEAVING phases of a rail: the N of R161, R164 and R171. -/
def runningPhases (s : State) (r : Fin 28) : List (Fin 56) :=
  (railPhases s r).filter fun ph => decide (s.phases[ph].run ≠ .shed)

/-- N (R164). -/
def railN (s : State) (r : Fin 28) : Nat := if s.rails[r].enabled then (runningPhases s r).length else 0

/-- Some phase of the rail stands on die `k`. -/
def railOnDie (s : State) (r : Fin 28) (k : Fin 7) : Bool := (railPhases s r).any fun ph => phaseDie ph = k

/-- The dies a rail stands on: its own and, ganged, every die of its group. -/
def railDies (s : State) (r : Fin 28) : List (Fin 7) :=
  match gangOfRail s r with
  | some g => gangDies s g
  | none => [railDie r]

/-! ### Rotation (R171, R172) -/

/-- The largest value at most `d` that is coprime to `n`; 1 is coprime to every `n` (R172). -/
def coprimeBelow (n : Nat) : Nat → Nat
  | 0 => 1
  | d + 1 => if Nat.gcd (d + 1) n = 1 then d + 1 else coprimeBelow n d

/-- The effective stride of R172; 0 while N is 0 or 1. -/
def effStride (n set : Nat) : Nat :=
  if n < 2 then 0 else coprimeBelow n (if set % n = 0 then 1 else set % n)

/-- An epoch of a rail (R173): L to 0, the count of periods restarts, the stride is recomputed for the present N.
The rotation settings in force are taken from `st` and `en`. -/
def epochWith (r : Fin 28) (st : Nat) (en : Bool) (s : State) : State :=
  let n := railN s r
  modLoop r (fun l => { l with lead := 0, epochCnt := 0, strideSet := st, rotOn := en, stride := effStride n st }) s

/-- An epoch that applies the written rotation settings on a rail that is not ganged (R173); on a ganged rail they
change only through R183. -/
def epoch (r : Fin 28) (s : State) : State :=
  match gangOfRail s r with
  | some _ => epochWith r s.rails[r].loop.strideSet s.rails[r].loop.rotOn s
  | none => epochWith r (s.rotStride r) (s.rotEn r) s

/-- Every follower of the rail's group sets its own L to 0 (R183, R222). -/
def followersToZero (r : Fin 28) (s : State) : State :=
  match gangOfRail s r with
  | some g => (followers s g).foldl (fun a k => modDie k (fun d => { d with ownLead := 0 }) a) s
  | none => s

/-- The change under handshake is dropped on every die (R184, R223). -/
def dropGangChange (g : Fin 4) (s : State) : State :=
  (gangDies s g).foldl (fun a k => modDie k (fun d => { d with pendChange := none }) a)
    (modGang g (fun x => { x with change := none, waiting := [], epochDue := false }) s)

/-- I_rail as the sum of the per-phase averages (R168), in mA. DEDUCED, log entry 45. -/
def railCurrent (s : State) (r : Fin 28) : Int := ((railPhases s r).map fun ph => s.phases[ph].iAvg).foldl (· + ·) 0

/-! ### Set-point (R195 to R197) -/

/-- One reference unit of 0.15625 mV, with 16 fractional bits. -/
abbrev unit : Nat := 65536

/-- Millivolts at the output to the sense pins, rounded to the nearest 1.25 mV, halves up, in units with 16
fractional bits (R196). -/
def pinTarget (mv div : Nat) : Nat := divHalfUp (mv * 4096 * 4) (5 * div) * 8 * unit

/-- The increment of V_SP per SNS cycle for a slew setting in 0.1 mV/µs at the output (R197): the pin rate ×
0.02 µs ÷ 0.15625 mV, kept to 16 fractional bits. DEDUCED, log entry 44. -/
def slewInc (slew div : Nat) : Nat := slew * 2 ^ 35 / (10000 * div)

/-- The pin target of a rail for `mv` at the output. One outside 0.300 V to 1.800 V at the pins is outside its range (R13, R154,
R196). DESIGN CHOICE, log entry 10. -/
def railTarget (s : State) (r : Fin 28) (mv : Nat) : Nat :=
  let t := pinTarget mv (s.railDiv r)
  if 1920 * unit ≤ t ∧ t ≤ 11520 * unit then t else Config.outOfRange (okey (0x3100 + r) 0x01) mv s.freeCtr

/-- The filtered I_rail of R161 in whole mA. -/
def railMa (s : State) (r : Fin 28) : Int := s.rails[r].loop.iFilt / 65536

/-- V_ref of R195 in whole reference units: V_SP less the droop `LOOP_RLL` × I_rail. V_SP is cut to whole units and the droop
rounded. DEDUCED, log entry 44. -/
def vref (s : State) (r : Fin 28) : Int :=
  ((s.rails[r].dyn.vsp / unit : Nat) : Int) - divHalfUpI ((s.loopRll r : Int) * railMa s r) 156250

/-- The sense code of R157. -/
def senseCode (s : State) (r : Fin 28) (v : Nat) : Nat := (clampI 0 1023 (512 + (v : Int) - vref s r)).toNat

/-! ### Modulator (R163 to R167, R180) -/

/-- N_P of R163. -/
def periodTicks (s : State) (r : Fin 28) : Nat := divHalfUp 800000 (s.railFsw r)

/-- The lane unit s = 8 × 2^`GANG_DLSB` of R180, as formed at boot. -/
def laneUnit (s : State) (g : Fin 4) : Nat := 8 * 2 ^ s.gangs[g].dlsb

/-- U_MAX of R159; on a ganged rail also capped at 255 × s. -/
def uMax (s : State) (r : Fin 28) : Nat :=
  let m := s.rails[r].loop.dmax * 8 * periodTicks s r / 100
  match gangOfRail s r with
  | some g => min m (255 * laneUnit s g)
  | none => m

/-- The start of slot `i` of `n` in native ticks (R164). -/
def slotStart (n np i : Nat) : Nat := divHalfUp (i * np) n

/-- The slot in which the phase at position `j` fires (R171). -/
def slotOf (n lead j : Nat) : Nat := (j + n - lead % n) % n

/-- The on-time of R165 in t_RESE ÷ 4, before the leaving fractions of R217; on a ganged rail from the last good lane word of the
phase's die. DEDUCED, log entry 48. -/
def onTime (s : State) (r : Fin 28) (ph : Fin 56) : Int :=
  let t := s.phases[ph].trim
  let d := match gangOfRail s r with
    | some g => 4 * (laneUnit s g : Int) * s.dies[phaseDie ph].lane + t
    | none => 4 * s.rails[r].loop.u + t
  clampI 0 (4 * uMax s r) d

/-- bitrev5 of R166. DEDUCED, log entry 48. -/
def bitrev5 (j : Nat) : Nat := bitsOf [j.testBit 4, j.testBit 3, j.testBit 2, j.testBit 1, j.testBit 0]

/-- t_ONMIN in native ticks and in t_RESE ÷ 4 (R85). DEDUCED, log entry 48. -/
abbrev onMinTicks : Nat := 12
abbrev onMinD : Int := 384

/-- The length of a pulse in native ticks (R166, R167, R85); 0 when no pulse is sent. DEDUCED, log entry 48. -/
def pulseTicks (d : Int) (dither : Bool) (count : Nat) : Nat :=
  if d < onMinD then 0 else
    let q := d.toNat / 32
    let rem := d.toNat % 32
    if dither then max onMinTicks (if bitrev5 (count % 32) < rem then q + 1 else q)
    else max onMinTicks (divHalfUp d.toNat 32)

/-! ### The control loop (R158, R159) -/

/-- The lead die sends the word `w` on the group's lane (R180). A die that holds keeps its last good word (R186, R188), one whose
word has bad parity uses the last good one in its place (R181). -/
def sendLane (r : Fin 28) (w : Nat) (s : State) : State :=
  match gangOfRail s r with
  | none => s
  | some g => (gangDies s g).foldl (fun a k => modDie k (fun d =>
      { d with laneBad := false, lane := if d.laneBad || d.holding || d.held then d.lane else w }) a) s

/-- One SNS cycle of the loop on a sample `v` of V_sense: R158 with the clamps of R159; I is held while the step alarm
is asserted (R213); the over-voltage latch holds U and I at zero (R244); from enable the demand stays at zero until V_SP passes the
voltage on the output (R201). DEDUCED, log entry 44. -/
def loopSample (r : Fin 28) (v : Nat) (s : State) : State :=
  let c := senseCode s r v
  let top : Int := uMax s r
  let l := s.rails[r].loop
  let e : Int := 512 - (c : Int)
  if s.rails[r].prot.ovLatch || !s.rails[r].enabled then
    sendLane r 0 (modLoop r (fun l => { l with u := 0, i := 0, e := e, code := c, vsense := v, laneE := 0, laneW := 0 }) s)
  else
    let wait := !s.rails[r].pulsed && decide (s.rails[r].dyn.vsp ≤ v * unit)
    let hold := wait || s.rails[r].dyn.stepAlarm || decide (l.u = top ∧ 0 < e) || decide (l.u = 0 ∧ e < 0)
    let i := if hold then l.i else clampI 0 (top * 65536) (l.i + (l.co.ki : Int) * e)
    let v16 := (l.co.kp : Int) * e * 256 + i + (l.co.kd : Int) * (e - l.e) * 4096
    let u := if wait then 0 else clampI 0 top (l.u + divHalfUpI (((l.co.pole : Int) + 1) * (v16 - l.u * 65536)) (256 * 65536))
    let (w, le) := match gangOfRail s r with
      | some g =>
        let sum := u + l.laneE
        let q := (sum / (laneUnit s g : Int)).toNat
        if 255 < q then (255, 0) else (q, sum - (laneUnit s g : Int) * q)
      | none => (0, 0)
    sendLane r w (modLoop r (fun l => { l with u := u, i := i, e := e, code := c, vsense := v, laneE := le, laneW := w }) s)

/-! ### Voltage commands (R198 to R208) -/

/-- Bus trim may run on the rail (R231): `TRIM_EN` set, intermediate-bus mode, not stopped by a shutdown ramp (R203). -/
def trimMay (s : State) (r : Fin 28) : Bool := s.trimEn r && decide (s.railMode r = 1) && !s.rails[r].fc.trimStopped

/-- Bus trim runs from the first assertion of power-good since enable (R231); while a disable of it runs, a `TRIM_EN` set again is
held (R44). -/
def trimStart (r : Fin 28) (s : State) : State :=
  if trimMay s r && s.rails[r].enabled && s.rails[r].prot.pgRose && !s.rails[r].fc.trimDisabling then
    modFc r (fun f => { f with trimActive := true }) s
  else s

/-- The rail has reached the end of a slew: V_SP at the target (R197), the soft-start target counts as reached (R259), a bus trim
disable reaches its boundary (R237) and a held `TRIM_EN` takes effect (R44). Under the over-voltage latch V_SP stands (R244). -/
def slewReached (r : Fin 28) (s : State) : State :=
  if s.rails[r].prot.ovLatch then s else
    let s1 := modDyn r (fun d => { d with vsp := d.target, moving := false, softDone := d.softDone || !d.rampDown }) s
    if s.rails[r].fc.trimDisabling then trimStart r (modFc r (fun f => { f with trimDisabling := false }) s1) else s1

/-- V_SP moves by one increment per SNS cycle; the cycle that reaches the target is that of R197. DEDUCED, log entry 44. -/
def slewSample (r : Fin 28) (s : State) : State :=
  let d := s.rails[r].dyn
  if !d.moving || s.rails[r].prot.ovLatch then s
  else if d.vsp < d.target then
    if d.target ≤ d.vsp + d.inc then slewReached r s else modDyn r (fun d => { d with vsp := d.vsp + d.inc }) s
  else if d.vsp ≤ d.target + d.inc then slewReached r s
  else modDyn r (fun d => { d with vsp := d.vsp - d.inc }) s

/-- A rail to which a command may not move V_SP (R202). -/
def cmdBlocked (s : State) (r : Fin 28) : Bool :=
  !s.rails[r].enabled || s.rails[r].disabling || s.rails[r].prot.ovLatch

/-- Give rail `r` a new final target at the pins (R198 to R208). A target equal to the one in force changes nothing
(R206), compared as pin steps: DEDUCED, log entry 44; a command while V_SP moves turns it from its present value (R204). -/
def moveTo (r : Fin 28) (mv target inc src : Nat) (s : State) : State :=
  let d := s.rails[r].dyn
  if d.src ≠ 0 ∧ d.target = target then s else
    modDyn r (fun d => { d with
      target := target, inc := inc, vtgt := mv, src := src,
      moving := decide (d.vsp ≠ target),
      transition := d.transition || decide (d.vsp ≠ target),
      cmdCnt := satAdd max32 d.cmdCnt 1,
      turnCnt := if d.moving then satAdd max32 d.turnCnt 1 else d.turnCnt,
      held := false }) s

/-- A voltage command reaches the rail's loop manager (R199, R202). -/
def applyTarget (r : Fin 28) (mv slew src : Nat) (s : State) : State :=
  if cmdBlocked s r then modDyn r (fun d => { d with held := true }) s
  else moveTo r mv (railTarget s r mv) (slewInc slew (s.railDiv r)) src s

/-! ### Power-good (R259 to R263) -/

/-- The event source of a rail (R485), raised by its die over the link. -/
def railEvent (r : Fin 28) (s : State) : State := dieEvent (railDie r) (railLoop r) s

/-- A latch of row 2 of R261 stands. -/
def row2 (s : State) (r : Fin 28) : Bool :=
  s.rails[r].prot.ovLatch || s.rails[r].prot.faultLatch || s.faultLine

/-- The truth table of R261; after a timer that ended in a fault there is no rise in the same enable (R262). -/
def pgDecision (s : State) (r : Fin 28) : Bool :=
  let x := s.rails[r]
  if !x.enabled || x.disabling then false
  else if row2 s r || x.prot.noPg then false
  else if x.prot.hold then true
  else if x.prot.uvTimer || x.prot.ocTimer then false
  else x.prot.qualified

/-- Decide `PG_gg` again: a rise starts the minimum hold (R260) and, the first after enable, arms the step alarm (R210)
and under-voltage (R241) and starts bus trim (R231); a fall after a rise is counted, and the next rise needs a full new
qualification (R263). -/
def pgRefresh (r : Fin 28) (s : State) : State :=
  let now := pgDecision s r
  let was := s.rails[r].prot.pg
  if now = was then s
  else if now then
    railEvent r (modRail r (fun x => { x with
      prot := { x.prot with pg := true, pgRose := true, hold := true, uvArmed := true },
      dyn := { x.dyn with stepArmed := true },
      fc := { x.fc with trimActive := x.fc.trimActive || (trimMay s r && !x.fc.trimDisabling) } }) s)
  else
    railEvent r (modProt r (fun p => { p with
      pg := false, hold := false, qualified := false,
      dropCnt := if p.pgRose then satAdd max32 p.dropCnt 1 else p.dropCnt }) s)

/-- Decide the power-good of every rail again (the package fault line of row 2 changed). -/
def pgRefreshAll (s : State) : State := (allFin 28).foldl (fun a r => pgRefresh r a) s

/-! ### Protection latches (R244, R249, R250) -/

/-- Both fault timers stop without a fault when a latch is set (R249). -/
def stopTimers (r : Fin 28) (s : State) : State := modProt r (fun p => { p with uvTimer := false, ocTimer := false }) s

/-- Set the fault latch of rail `r` and bit `b` of `RAIL_FAULT` (R250, R57). -/
def latchFault (r : Fin 28) (b : Nat) (s : State) : State :=
  pgRefresh r (railEvent r (stopTimers r (modRail r (fun x => { x with prot := { x.prot with
    faultLatch := true, fault := setBit x.prot.fault b, skLatched := x.prot.skLatched || x.stationKept } }) s)))

/-! ### Enable and off sequence (R155, R159, R201, R270) -/

/-- `VDR` is low on a die that carries a phase of the rail (R57). -/
def vdrLowAt (s : State) (r : Fin 28) : Option (Fin 7) := (railPhases s r).findSome? fun ph =>
  if s.dies[phaseDie ph].vdrOk then none else some (phaseDie ph)

/-- A rail that is enabled while `VDR` of one of its dies is low has the fault at once (R57): latched, logged, and declared to the
sequencer. DEDUCED, log entry 83. -/
def vdrAtEnable (r : Fin 28) (s : State) : State :=
  match vdrLowAt s r with
  | some k => logFault .vdrLow (k + 1) (k + 1) (vdrStatus s) (latchFault r 8 (modProt r (fun p => { p with vdrDue := true }) s))
  | none => s

/-- Enable rail `r` with soft-start (R155, R159, R201). A rail with no phase is not enabled, nor one whose enable pin is used and
low (R271); during its off sequence the enable is held (R44). Every phase comes up ACTIVE. Under the over-voltage latch V_SP does not
move and CMD_HELD shows (R202, R244). -/
def railEnable (r : Fin 28) (s : State) : State :=
  if railPhases s r = [] || (s.itemEnPin ⟨r.val, by omega⟩ && !s.rails[r].enPin) then s
  else if s.rails[r].enabled then
    if s.rails[r].disabling then modRail r (fun x => { x with enHeld := true }) s else s
  else
    let tgt := railTarget s r (s.railVset r)
    let lat := s.rails[r].prot.ovLatch
    let s1 := (railPhases s r).foldl (fun a ph => modPhase ph (fun p => { p with
      run := .active, leaveCnt := 0, pulsed := false, pulses := 0, withheld := false }) a) (sendLane r 0 s)
    let s2 := modRail r (fun x => { x with
      enabled := true, disabling := false, enHeld := false, pulsed := false,
      loop := { x.loop with
        u := 0, i := 0, e := 0, laneE := 0, laneW := 0, lead := 0, epochCnt := 0,
        dmax := s.railDmax r },
      dyn := { x.dyn with
        vsp := if lat then x.dyn.vsp else 0, target := if lat then x.dyn.target else tgt
        inc := slewInc (s.railSlewSs r) (s.railDiv r), vtgt := if lat then x.dyn.vtgt else s.railVset r
        src := if lat then x.dyn.src else 1,
        moving := !lat && decide (tgt ≠ 0), transition := !lat && decide (tgt ≠ 0)
        cmdCnt := if lat then x.dyn.cmdCnt else satAdd max32 x.dyn.cmdCnt 1,
        held := lat, softDone := !lat && decide (tgt = 0), rampDown := false, stepArmed := false, stepAlarm := false,
        stepBlocked := false, dwellRun := false, shedDue := false, readdPend := false, holdoff := false,
        stepThr := s.stepThr r, stepTmax := s.stepTmax r, stepDisabling := false, stepBndry := false,
        phmDisabling := false },
      fc := { x.fc with
        hints := [], trimActive := false, trimFrozen := false, trimStopped := false,
        freezeSeen := false, trimDisabling := false },
      prot := { x.prot with
        uvArmed := false, qualified := false, hold := false, pgRose := false, valleyLogged := false,
        ignored := false, noPg := false, vdrDue := false } }) s1
    vdrAtEnable r (pgRefresh r (followersToZero r (epochWith r (s.rotStride r) (s.rotEn r) s2)))

/-- The off sequence of rail `r` has ended: phases at mid level; a held enable takes effect (R44). TRANSITION stays after a ramp that
reached 0 V (R208); after one that ended at once it reads clear. DEDUCED, log entry 44. A fault timer runs on (R249); with no
V_ref the under-voltage condition is gone. -/
def railOffDone (r : Fin 28) (s : State) : State :=
  if !s.rails[r].enabled then s else
    let held := s.rails[r].enHeld
    let s1 := modRail r (fun x => { x with
      enabled := false, disabling := false, enHeld := false, pulsed := false,
      loop := { x.loop with u := 0, i := 0, laneE := 0, laneW := 0, lead := 0, stride := 0 },
      dyn := { x.dyn with
        moving := false, rampDown := false, stepArmed := false, stepAlarm := false,
        stepBlocked := false, shedDue := false, readdPend := false, dwellRun := false, holdoff := false,
        transition := x.dyn.transition && x.dyn.rampDown && decide (x.dyn.vsp = 0), vsp := 0, softDone := false, stepDisabling := false, phmDisabling := false },
      fc := { x.fc with hints := [], trimActive := false, trimFrozen := false, trimDisabling := false },
      prot := { x.prot with uvCond := false, uvArmed := false, qualified := false, hold := false },
      stationKept := false }) s
    let cleared := s.rails[r].dyn.transition && !s1.rails[r].dyn.transition
    let s2 := pgRefresh r (if cleared then railEvent r s1 else s1)
    if held then railEnable r s2 else s2

/-- Start the off sequence of rail `r` (R270): a ramp to 0 V at `RAIL_SLEW_SS`, or mid level at once. An over-voltage
latch ends it at once (R244). A disable already running is not restarted (R44); it drops a held enable. `DYN_STATUS` [7] and [8] read
clear from its start. DESIGN CHOICE, log entry 47. -/
def railDisable (r : Fin 28) (atOnce : Bool) (s : State) : State :=
  if !s.rails[r].enabled then s
  else if s.rails[r].disabling then
    let s1 := modRail r (fun x => { x with enHeld := false }) s
    if atOnce then railOffDone r s1 else s1
  else if atOnce || s.rails[r].prot.ovLatch || decide (s.rails[r].dyn.vsp = 0) then railOffDone r s
  else
    let s1 := modRail r (fun x => { x with
      disabling := true,
      dyn := { x.dyn with
        rampDown := true, target := 0, inc := slewInc (s.railSlewSs r) (s.railDiv r), vtgt := 0,
        src := 1, moving := true, transition := true, cmdCnt := satAdd max32 x.dyn.cmdCnt 1,
        turnCnt := if x.dyn.moving then satAdd max32 x.dyn.turnCnt 1 else x.dyn.turnCnt },
      fc := { x.fc with trimActive := false, trimFrozen := false, trimStopped := true },
      prot := { x.prot with uvArmed := false } }) s
    pgRefresh r s1

/-! ### Re-add events (R220 to R225) -/

/-- Return a phase to ACTIVE with its full on-time. -/
def phaseBack (ph : Fin 56) (s : State) : State := modPhase ph (fun p => { p with run := .active, leaveCnt := 0 }) s

/-- A shed of the rail's ganged group is under handshake (R216): it is discarded, and counted, at the re-add epoch (R223, R225). -/
def shedAsked (s : State) (r : Fin 28) : Bool :=
  match gangOfRail s r with
  | some g => (match s.gangs[g].change with | some (.shed _) => true | _ => false)
  | none => false

/-- Phase management is on: `PHM_EN` set and no disable of it running (R44, R237). -/
def phmOn (s : State) (r : Fin 28) : Bool := s.phmEn r && !s.rails[r].dyn.phmDisabling

/-- A re-add event on rail `r` (R216, R220, R221). LEAVING phases return at once; on a follower they do so for a step
alarm only, else at the re-add epoch. A shed that waited for its boundary is cancelled. The next boundary becomes a
re-add epoch. -/
def readdEvent (r : Fin 28) (stepAlarm : Bool) (s : State) : State :=
  let keep := (leavingPhases s r).filter fun ph => stepAlarm || !isFollower s (phaseDie ph)
  let s1 := keep.foldl (fun a ph => phaseBack ph a) s
  let n := keep.length + bit (s.rails[r].dyn.shedDue && !shedAsked s r)
  modDyn r (fun d => { d with
    shedDue := false, readdPend := true, dwellRun := false, keepCnt := satAdd max32 d.keepCnt n }) s1

/-- Some phase of the rail is LEAVING or SHED. -/
def anyNotActive (s : State) (r : Fin 28) : Bool := (railPhases s r).any fun ph => decide (s.phases[ph].run ≠ .active)

/-- A Forecast hint reaches the rail's loop manager (R228); suspended while station-kept (R114). -/
def hintAccept (r : Fin 28) (ifc tfc : Nat) (s : State) : State :=
  if !s.fcEn r || !s.rails[r].prot.pg || s.rails[r].stationKept then s else
    let s1 := modFc r (fun f => { f with fcCnt := satAdd max32 f.fcCnt 1 }) s
    if !phmOn s r then s1 else
      let s2 := if s.phmIAdd r * (activePhases s r).length < ifc * 100 && anyNotActive s r then readdEvent r false s1 else s1
      modRail r (fun x => { x with
        fc := { x.fc with hints := x.fc.hints ++ [⟨ifc, tfc, false⟩] }, dyn := { x.dyn with dwellRun := false } }) s2

/-! ### Over-voltage latch, timers, leaving station-keeping (R115, R244, R249) -/

/-- Clear the fault latch, as the supervisor pair does for IGNORE and RETRY (R256); one that was set during station-keeping stands
until `RAIL_FCLR` (R265). -/
def clearFaultLatch (r : Fin 28) (s : State) : State :=
  pgRefresh r (modProt r (fun p => { p with faultLatch := p.skLatched, ignored := false }) s)

/-- Set the over-voltage latch of rail `r` (R244, R249): loop held at zero, V_SP stops, timers stop, an off sequence
ends at once; during station-keeping also OV_SK (R265). -/
def ovLatchSet (r : Fin 28) (b : Nat) (s : State) : State :=
  let s1 := modRail r (fun x => { x with
    loop := { x.loop with u := 0, i := 0, laneE := 0, laneW := 0 },
    dyn := { x.dyn with moving := false },
    prot := { x.prot with
      ovLatch := true, ovTrips := satAdd max16 x.prot.ovTrips 1,
      fault := if x.stationKept then setBit (setBit x.prot.fault b) 6 else setBit x.prot.fault b } }) s
  let s2 := railEvent r (stopTimers r s1)
  if s.rails[r].disabling then railOffDone r s2 else pgRefresh r s2

/-- Start the under-voltage timer when its condition holds, it is armed, and no latch stands (R249). -/
def uvStart (r : Fin 28) (s : State) : State :=
  let p := s.rails[r].prot
  if p.uvCond && p.uvArmed && !p.uvTimer && !p.ovLatch && !p.faultLatch then
    modProt r (fun p => { p with uvTimer := true }) s else s

/-- The total over-current condition (R248, R253): the filtered I_rail exceeds `OC_TOT`, or a follower that reaches the lead over the
links has reported a crossing. DEDUCED, log entry 40. -/
def ocHolds (s : State) (r : Fin 28) : Bool :=
  s.rails[r].prot.ocCond || match gangOfRail s r with
    | some g => (followers s g).any fun k => s.dies[k].ocOver && decide (s.links[k].phase = .up) && decide (s.links[railDie r].phase = .up)
    | none => false

/-- Start the over-current timer under the same rule (R249, R253). -/
def ocStart (r : Fin 28) (s : State) : State :=
  let p := s.rails[r].prot
  if ocHolds s r && s.rails[r].enabled && !p.ocTimer && !p.ovLatch && !p.faultLatch then
    modProt r (fun p => { p with ocTimer := true }) s else s

/-- Leave station-keeping (R115): a ganged rail does so as one rail; `why` is the `RAIL_FAULT` bit or 15 for a fall of
`EN_gg`, `logged` says that the trip has its Logbook entry. An over-voltage trip leaves it low under its latch, every other reason at
mid level. -/
def skLeave (r : Fin 28) (why : Nat) (logged : Bool) (s : State) : State :=
  if !s.rails[r].stationKept then s else
    let s1 := modRail r (fun x => { x with stationKept := false })
      { s with sk := { s.sk with left := s.sk.left ++ [⟨r.val, why, logged⟩] } }
    if why ≤ 1 then s1 else railOffDone r s1

/-! ### Commands over the link (R199, R200) -/

/-- A rail die's loop manager applies a command (R199). -/
def applyRailCmd (c : RailCmd) (s : State) : State :=
  match c with
  | .setTarget r mv slew src => applyTarget r mv slew src s
  | .enable r => railEnable r s
  | .disable r atOnce => railDisable r atOnce s
  | .hint r ifc tfc => hintAccept r ifc tfc s
  | .clearFault r => clearFaultLatch r s

/-- A local object of a rail die is written by OBJ_WRITE: consecutive frames with the same TAG make one value, lowest word
first (R33). DEDUCED, log entry 40. -/
def objWord (tag key w : Nat) (l : LinkState) : LinkState :=
  let old := (l.objs.find? fun x => decide (x.1 = key)).elim [] Prod.snd
  let words := if l.lastWr = some (tag, key) then old ++ [w] else [w]
  { l with objs := (key, words) :: l.objs.filter (fun x => decide (x.1 ≠ key)), lastWr := some (tag, key) }

/-- The words of a local object of a rail die; one that no frame has written holds a word the manual does not state.
DEDUCED, log entry 40. -/
def objWords (s : State) (k : Fin 7) (key : Nat) : List Nat :=
  match s.links[k].objs.find? fun x => decide (x.1 = key) with
  | some x => x.2
  | none => [Config.free 33 s.freeCtr % 2 ^ 32]

/-- The answer to OBJ_READ: the value's words in OBJ_DATA frames under the request's TAG, all taken at one instant
(R33, R552). -/
def objAnswer (k : Fin 7) (tag o b : Nat) (s : State) : State :=
  useFree ((objWords s k (o % 256 * 256 + b % 256)).foldl (fun a w => railSend k tag (.objData (o % 256) (b % 256) w) a) s)

/-- What a frame does at the rail die (R32). -/
def railTakes (k : Fin 7) (f : LinkFrame) (s : State) : State :=
  match f.payload with
  | .command c => if railDie c.rail = k then applyRailCmd c s else s
  | .objWrite o b w => modLink k (objWord (f.tag % 64) (o % 256 * 256 + b % 256) (w % 2 ^ 32)) s
  | .objRead o b => objAnswer k f.tag o b s
  | _ => s

/-- The frames waiting at the helm die's end leave in order and reach the rail die (R34, R199). DEDUCED, log entry 40. -/
def helmPump (k : Fin 7) (s : State) : State :=
  if !endSends s.links[k] .atHelm then s else
    s.links[k].helm.waiting.foldl (fun a f => railTakes k f (crossLink k .atRail f a)) (modEnd k .atHelm (fun e => { e with waiting := [] }) s)

/-- The helm die queues a frame for a rail die (R34). DEDUCED, log entry 40. -/
def helmSend (k : Fin 7) (tag : Nat) (p : FramePayload) (s : State) : State :=
  helmPump k (modEnd k .atHelm (waitFrame ⟨0, 0, tag % 64, p, 0⟩) s)

/-- Send a command to its rail's die (for a ganged rail the lead die, R200). While the link is UP and nothing
goes before it, it is applied in the same step; else it waits in the order queued (R199). DEDUCED, log entry 40. -/
def sendCmd (c : RailCmd) (s : State) : State := helmSend (railDie c.rail) 0 (.command c) s

/-- Some TAG pairs a response with its request (R32); which is stated nowhere. DESIGN CHOICE, log entry 11. -/
def freeTag (s : State) : Nat := Config.free 0x32301 s.freeCtr % 64

/-- The helm die writes an object of rail die `k` (R32, R33): one OBJ_WRITE frame for every 32 bits, lowest first. -/
def dieObjWrite (k : Fin 7) (idx sub : Nat) (bytes : List Byte) (s : State) : State :=
  let o := Config.localObj idx sub
  let v := leNat bytes
  let tag := freeTag s
  useFree ((List.range ((bytes.length + 3) / 4)).foldl (fun a i => helmSend k tag (.objWrite o.1 o.2 (v / 2 ^ (32 * i) % 2 ^ 32)) a) s)

/-- The helm die reads an object of rail die `k`, whose value is `bytes`, over the link (R32, R33): OBJ_READ, answered by an
OBJ_DATA frame for every 32 bits under the request's TAG. -/
def dieObjRead (k : Fin 7) (idx sub : Nat) (bytes : List Byte) (s : State) : State :=
  let o := Config.localObj idx sub
  let key := o.1 % 256 * 256 + o.2 % 256
  let v := leNat bytes
  let tag := freeTag s
  let words := (List.range ((bytes.length + 3) / 4)).map fun i => v / 2 ^ (32 * i) % 2 ^ 32
  helmSend k tag (.objRead o.1 o.2) (modLink k (fun l => { l with
    objs := (key, words) :: l.objs.filter (fun x => decide (x.1 ≠ key))
    data := l.data.filter fun x => decide (x.1 ≠ tag) }) s)

/-! ### The valley limit in force (R251, R264, R420) -/

/-- The highest throttle step among the dies that carry the rail's phases. -/
def railThrottle (s : State) (r : Fin 28) : Nat :=
  ((railPhases s r).map fun ph => thrStep s (phaseDie ph + 1)).foldl max 0

/-- `OC_VALLEY` × F, rounded down to 1 mA, with the step applied to the rail. -/
def valleyTarget (s : State) (r : Fin 28) : Nat := s.ocValley r * (16 - s.rails[r].prot.thrN) / 16

/-- The limit in force: on a ganged rail the copies that the last handshake left (R264). -/
def valleyLimitOf (s : State) (r : Fin 28) : Nat :=
  match gangOfRail s r with
  | some g => s.gangs[g].valley
  | none => valleyTarget s r

/-! ### Levels of the phase pins (R189, R193, R255) -/

/-- The four things a phase pin can do (R150, R189 row 8). -/
inductive PwmLevel
  | low | mid | high | modulating
  deriving DecidableEq, Repr

/-- The class A safe state of a phase (R255). -/
def safeLevel (s : State) (ph : Fin 56) : PwmLevel :=
  let k := phaseDie ph
  if s.dies[k].stf || s.dies[k].held then .mid
  else match phaseRail s ph with
    | none => .mid
    | some r =>
      if (gangOfRail s r).isSome then .low
      else if s.railSafe r = 0 then .mid else .low

/-- `PWM_gg` by the priority table of R189; at mid level through a hold-up save (R385). DEDUCED, log entry 77. -/
def pwmLevel (s : State) (ph : Fin 56) : PwmLevel :=
  let k := phaseDie ph
  if !s.dies[k].vdrOk || decide (s.pwr.state = .off) || decide (s.boot.phase = .holdUp) then .mid else
    match phaseRail s ph with
    | none => if s.faultLine then safeLevel s ph else .mid
    | some r =>
      let x := s.rails[r]
      if x.prot.ovLatch && !(isFollower s k && (gangOfRail s r).isSome) then .low
      else if s.faultLine then safeLevel s ph
      else if s.dies[k].held && decide (s.phLoop ph = 0) then .mid
      else if !x.enabled || x.absorbed || x.heldOff || decide (s.phases[ph].run = .shed) then .mid
      else if x.dyn.stepAlarm then .high
      else if !s.phases[ph].pulsed then .mid
      else .modulating

end Sys2Proof.Machine
end

