-- ==== Sys2Proof/Machine/ResetOps.lean ====
section
/-! DEFINITION. The start of a full reset: causes R105, capture R106, second causes R107, output states R110, R111,
station-keeping R113. -/

namespace Sys2Proof.Machine

/-- The causes to which station-keeping applies (R105). -/
def causeKeeps (c : Nat) : Bool := decide (3 ≤ c ∧ c ≤ 7)

/-- A rail in regulation at reset start (R113). -/
def inRegulation (s : State) (r : Fin 28) : Bool :=
  railPresent s r && s.rails[r].enabled && !s.rails[r].disabling && s.rails[r].prot.pg
    && !s.rails[r].prot.uvTimer && !s.rails[r].prot.ocTimer

/-- Rail `r` is put at mid level at once: no held enable takes effect. DEDUCED, log entry 77. -/
def railToMid (r : Fin 28) (s : State) : State := railOffDone r (modRail r (fun x => { x with enHeld := false }) s)

/-- Rail `r` goes on as station-kept (R113, R114): shedding, re-adding by threshold and hints are suspended, a leaving
phase resumes. A disable of phase management whose epoch is suspended has ended. DESIGN CHOICE, log entry 47. -/
def railKeep (r : Fin 28) (s : State) : State :=
  let s0 := match shedAsked s r, gangOfRail s r with | true, some g => dropGangChange g s | _, _ => s
  let s1 := (leavingPhases s r).foldl (fun a ph => phaseBack ph a) s0
  modRail r (fun x => { x with
    stationKept := true,
    dyn := { x.dyn with shedDue := false, readdPend := false, holdoff := false, dwellRun := false, phmDisabling := false },
    fc := { x.fc with hints := [] } }) s1

/-- Rails at reset start (R110): kept rails go on, every other rail of the part goes to mid level. -/
def resetRails (keep : Vector Bool 28) (s : State) : State :=
  (allFin 28).foldl (fun a r => if keep[r] then railKeep r a else railToMid r a) s

/-- A fused output off by controlled gate discharge (R110). -/
def resetFos (s : State) : State := (allFin 8).foldl (fun a n => foCommandOff n a) s

/-- Fused outputs off by fast pull-down (R283, R385, R424, R453). -/
def killFos (s : State) : State := (allFin 8).foldl (fun a n => foForceOff n a) s

/-- Zone channels at reset start (R111): ON, BLOCK and LIMIT keep conducting, every other keeps its gate off, timers
stop; retry counts are cleared (R109). -/
def resetZin (s : State) : State :=
  (allFin 4).foldl (fun a n => modZin n (fun c => { c with
    phase := if c.phase.carries then c.phase else .off, insRunning := false, qualified := c.phase.carries && c.qualified, retryTimer := false,
    limTimer := false, normTimer := false, enHeld := false, retryCnt := 0, fault := 0, timersStopped := true }) a) s

/-- Bucks and LDOs off. -/
def resetRegs (s : State) : State := { s with regs := Vector.replicate 10 .init }

/-- The charger does not charge (R110). -/
def resetCharger (s : State) : State :=
  modChg (fun c => { c with
    phase := if c.phase = .off then .off else .wait, current := 0, hbDone := false, swOc := false, fault := 0, faultRead := false, enHeld := false, tempPause := false, term := 0 }) s

/-- The charger through a full reset (R329): in SOURCE it regulates `LBUS` with the limit in force, also after PARK; for THERMAL it is
off (R424). -/
def resetPath (cause : Nat) (s : State) : State :=
  if cause = 9 then chargerStop s
  else if s.pwr.state = .park && decide (s.pp.phase = .source) then modPp (fun p => { p with regulating := true }) s
  else s

/-- Reset outputs high, `ALERT_n` low, `CSTB_n` high, `PFW_N` released (R110). DEDUCED, log entry 77. -/
def resetPins (s : State) : State :=
  { s with
    rsto := Vector.replicate 4 .init
    evc := .init
    can := s.can.map fun c => { c with phase := .disabled }
    zbus := { s.zbus with pfw := false, pfwThr := false, pfwSlope := false, pfwPack := false } }

/-- The retained reset record: pending cause, then pending subcause and mask (R106, R377). -/
def recordMask (s : State) : State := ctrAppend ctrSub (s.boot.curSub % 65536 + 65536 * (s.boot.curMask % 65536)) s

/-- End station-keeping at once (R107): the kept rails go to the state of the cause and are reported in `SK_DOWN`; fused outputs go off
by controlled gate discharge (R110), for THERMAL by fast pull-down (R424). -/
def endStationKeeping (cause : Nat) (s : State) : State :=
  let kept := (allFin 28).filter fun r => s.rails[r].stationKept
  let s1 := kept.foldl (fun a r => railToMid r { a with sk := { a.sk with down := vset a.sk.down r true } }) s
  let s2 := if cause = 9 then killFos s1 else resetFos s1
  { s2 with boot := { s2.boot with skActive := false }, safeN := true }

/-- A second cause before reset end (R107). -/
def secondCause (cause : Nat) (s : State) : State :=
  let s0 := if cause = 3 then { s with boot := { s.boot with resetNLow := true } } else s
  if s.boot.curMask.testBit cause then s0 else
    let s1 := recordMask (resetPath cause { s0 with boot := { s0.boot with curMask := setBit s0.boot.curMask cause } })
    if s.boot.skActive && !causeKeeps cause then endStationKeeping cause s1 else s1

/-- Groups stop; a group whose items were not all station-kept waits `GRP_TOFF` from reset start (R285). -/
def resetGroups (keep : Vector Bool 28) (s : State) : State :=
  { s with
    groups := Vector.ofFn fun g =>
      let all := (allFin 46).all fun i =>
        decide ((fin? 64 (s.itemStep i)).bind (fun st => fin? 8 (s.stepGroup st)) ≠ some g)
          || (match fin? 28 i.val with | some r => !railPresent s r || keep[r] | none => false)
      { GroupState.init with toffTimer := !all }
    items := Vector.replicate 46 .init }

/-- RESET_START (R106 step 1, R110 to R113). The learning cycle in progress is disqualified (R349 row 8). A rail that was not yet
re-adopted after an earlier reset keeps the shadow copies of that one. `SK_FUSED` names the fused outputs whose gate is on at reset
start. DEDUCED, log entry 21. -/
def resetStart (cause sub : Nat) (s : State) : State :=
  let sk := s.stationkeep && causeKeeps cause
  let keep : Vector Bool 28 := Vector.ofFn fun r => sk && inRegulation s r
  let s0 := learnStop 8 (resetPath cause (parkTripsLogged s))
  let s1 := { s0 with
    boot := { s0.boot with
      phase := .inReset, odAnswering := false, step8 := false, curCause := cause, curSub := sub, curMask := 2 ^ cause,
      flushDone := false, resetNLow := decide (cause = 3), skActive := sk
      cold := s.boot.cold && decide (s.boot.phase ≠ .starting) && decide (s.boot.phase ≠ .ready) }
    sk := { SkState.init with
      kept := keep, hwTimeout := s.sk.hwTimeout, left := if sk then s.sk.left else []
      shadow := Vector.ofFn fun r => if keep[r] then (if s.rails[r].stationKept then s.sk.shadow[r] else s.settings) else []
      fused := Vector.ofFn fun n => sk && s.fo[n].phase.gateOn && decide (s.fo[n].phase ≠ .disabling) }
    pwr := { s0.pwr with state := .run, req := .run, parkEntry := false }
    update := { s0.update with pause := false, heldA := [], phase := .idle, trialLeft := 0 }
    log := { s0.log with aDies := 0, since := [] }
    faultLine := false
    safeN := if sk then s.safeN else true }
  let s2 := resetGroups keep s1
  let s3 := resetRails keep s2
  let s4 := if sk then s3 else if cause = 9 then killFos s3 else resetFos s3
  let s5 := bootFet (resetPins (resetCharger (resetRegs (resetZin s4))))
  recordMask (ctrAppend ctrCause cause (abandonWrites s5))

/-- A cause of a full reset arrives (R105): it starts one, or is recorded in the one that runs (R107); during hold-up only
`RESET_N` waits (R84). -/
def startFullReset (cause sub : Nat) (s : State) : State :=
  match s.boot.phase with
  | .porHeld => s
  | .holdUp => if cause = 3 then { s with boot := { s.boot with resetNInSave := true } } else s
  | .inReset => secondCause cause s
  | .strapWait | .selfTest | .halted | .starting | .ready =>
    if s.boot.phase = .halted && decide (cause ≠ 3) then s else resetStart cause sub s

end Sys2Proof.Machine
end

