-- ==== Sys2Proof/Machine/SeqOps.lean ====
section
/-! DEFINITION. The shared moves of the sequencer: items R269 to R271, steps R276 to R279, group states R282, shutdown
R283 and R284, fault reactions R287 to R289. -/

namespace Sys2Proof.Machine

/-! ### Item numbers (R269) -/

/-- The kinds of item. -/
inductive ItemKind
  | rail (r : Fin 28) | reg (n : Fin 10) | fo (n : Fin 8)
  deriving DecidableEq, Repr

/-- What an item number names: rails 0 to 27, bucks 28 to 33, LDOs 34 to 37, fused outputs 38 to 45. -/
def itemKind (i : Fin 46) : ItemKind :=
  if h : i.val < 28 then .rail ⟨i.val, h⟩
  else if h2 : i.val < 38 then .reg ⟨i.val - 28, by omega⟩
  else .fo ⟨i.val - 38, by omega⟩

/-- The item of a rail, of a regulator and of a fused output. -/
def railItem (r : Fin 28) : Fin 46 := ⟨r.val, by omega⟩
def regItem (n : Fin 10) : Fin 46 := ⟨28 + n.val, by omega⟩
def foItem (n : Fin 8) : Fin 46 := ⟨38 + n.val, by omega⟩

/-- The item exists in this part (R5, R269). -/
def itemPresent (s : State) (i : Fin 46) : Bool :=
  match itemKind i with
  | .rail r => railPresent s r
  | _ => true

/-- The fault codes of `ITEM_STATUS` [11:8] (R296). -/
def ItemFaultCode.num : ItemFaultCode → Nat
  | .stepTimeout => 1 | .overVoltage => 2 | .underVoltage => 3 | .overCurrent => 4 | .stageFault => 5
  | .linkDown => 6 | .gangChgFail => 7 | .regCurrentLimit => 8 | .regOverVoltage => 9 | .regUnderVoltage => 10
  | .locked => 11 | .retriesOut => 12 | .notReadopted => 13 | .vdrLow => 14

/-- Change item `i`. -/
def modItem (i : Fin 46) (f : ItemState → ItemState) (s : State) : State := { s with items := vmod s.items i f }

/-- Change group `g`. -/
def modGroup (g : Fin 8) (f : GroupState → GroupState) (s : State) : State := { s with groups := vmod s.groups g f }

/-- Change regulator `n`. -/
def modReg (n : Fin 10) (f : RegState → RegState) (s : State) : State := { s with regs := vmod s.regs n f }

/-- The step of an item (R272). -/
def itemStepOf (s : State) (i : Fin 46) : Option (Fin 64) := fin? 64 (s.itemStep i)

/-- The group of a step (R272). -/
def stepGroupOf (s : State) (st : Fin 64) : Option (Fin 8) := fin? 8 (s.stepGroup st)

/-- The group of an item. -/
def itemGroup (s : State) (i : Fin 46) : Option (Fin 8) := (itemStepOf s i).bind (stepGroupOf s)

/-- The items of a step, those of absent rails left out. -/
def stepItems (s : State) (st : Fin 64) : List (Fin 46) :=
  (allFin 46).filter fun i => itemPresent s i && decide (itemStepOf s i = some st)

/-- The items of a group. -/
def groupItems (s : State) (g : Fin 8) : List (Fin 46) :=
  (allFin 46).filter fun i => itemPresent s i && decide (itemGroup s i = some g)

/-- The steps of a group, ascending. -/
def groupSteps (s : State) (g : Fin 8) : List (Fin 64) := (allFin 64).filter fun st => decide (stepGroupOf s st = some g)

/-- The next step of a group above `st`, or its lowest. -/
def nextStep (s : State) (g : Fin 8) : Option (Fin 64) → Option (Fin 64)
  | none => (groupSteps s g).head?
  | some st => (groupSteps s g).find? fun t => decide (st.val < t.val)

/-! ### The reset outputs (R293) -/

/-- A group named in `RSTO_GRPS` is not UP. -/
def rstoGroupCond (s : State) (n : Fin 4) : Bool :=
  (allFin 8).any fun g => (s.rstoGrps n).testBit g && decide (s.groups[g].phase ≠ .up)

/-- A full reset is in progress, or a boot has not reached step 8. -/
def rstoBootCond (s : State) : Bool := !s.boot.step8

/-- Some condition of R293 holds. -/
def rstoCond (s : State) (n : Fin 4) : Bool := rstoBootCond s || rstoGroupCond s n || s.rsto[n].forced

/-- A condition that holds keeps the pin high and stops a running stretch (R293). -/
def rstoRefresh (s : State) : State :=
  (allFin 4).foldl (fun a n =>
    if rstoCond a n then { a with rsto := vmod a.rsto n fun x => { x with pin := true, stretch := false } } else a) s

/-! ### Groups -/

/-- Move group `g` to a state; event source 21 + g (R485); the reset outputs follow (R293). -/
def groupTo (g : Fin 8) (ph : GroupPhase) (s : State) : State :=
  if s.groups[g].phase = ph then s else
    rstoRefresh (eventEdge (21 + g) (modGroup g (fun x => { x with phase := ph }) s))

/-- The retry counts of the group's items are cleared (R281). -/
def clearRetries (g : Fin 8) (s : State) : State :=
  (groupItems s g).foldl (fun a i => modItem i (fun x => { x with retryCnt := 0 }) a) s

/-! ### Switching items on (R270, R276) -/

/-- The bit of an item in the layout of `PARK_KEEP` and `LOG_A_KEEP` (R120, R461); rails have none. -/
def keepBit (i : Fin 46) : Option Nat :=
  match itemKind i with
  | .rail _ => none
  | .reg n => some n.val
  | .fo n => some (10 + n.val)

/-- The item keeps running under a mask of that layout. -/
def keptBy (mask : Nat) (i : Fin 46) : Bool := match keepBit i with | some b => mask.testBit b | none => false

/-- A fused output or regulator that `LOG_A_KEEP` does not keep stands in the class A safe state, off, while a class A fault is
active (R453). DEDUCED, log entry 30. -/
def safeHeld (s : State) (i : Fin 46) : Bool := s.faultLine && (keepBit i).isSome && !keptBy s.logAKeep i

/-- Switch one item on: rail enable with soft-start, regulator enable, or a fused output commanded on. A rail whose
enable pin is used and low waits in EN_LOW (R271); outside RUN a rail waits for RUN (R92, R276), in the class A safe state another
item for its end. DEDUCED, log entry 49. -/
def switchOn (i : Fin 46) (s : State) : State :=
  if s.items[i].phase = .heldOff then s
  else if safeHeld s i then modItem i (fun x => { x with cmdOn := true, retryDue := false, phase := .waiting }) s
  else
    let s0 := modItem i (fun x => { x with cmdOn := true, retryDue := false }) s
    match itemKind i with
    | .rail r =>
      if s.itemEnPin i && !s.rails[r].enPin then modItem i (fun x => { x with phase := .enLow }) s0
      else if s.pwr.state ≠ .run then modItem i (fun x => { x with phase := .waiting }) s0
      else sendCmd (.enable r) (modItem i (fun x => { x with phase := .starting }) s0)
    | .reg n =>
      modReg n (fun x => { x with on := true, fault := 0, stopped := false })
        (modItem i (fun x => { x with phase := if s.regs[n].pgWin then .qualifying else .starting }) s0)
    | .fo n =>
      foCommandOn n (modItem i (fun x => { x with phase := if s.fo[n].phase = .on then .qualifying else .starting }) s0)

/-- The items that were to be switched on outside RUN (R92), or in the class A safe state (R453), are switched on. -/
def runItems (s : State) : State :=
  (allFin 46).foldl (fun a i => if decide (a.items[i].phase = .waiting) && a.items[i].cmdOn then switchOn i a else a) s

/-- A fused output or regulator that reaches its power-good starts its qualification (R270, R277). -/
def itemStarted (i : Fin 46) (s : State) : State :=
  if s.items[i].phase = .starting then modItem i (fun x => { x with phase := .qualifying }) s else s

/-! ### Shutdown (R283, R284) -/

/-- The item is off or was never switched on, so a shutdown passes it over (R283). -/
def itemIsOff (s : State) (i : Fin 46) : Bool :=
  match s.items[i].phase with
  | .unsequenced | .off | .waiting | .heldOff => true
  | .faulted => (match itemKind i with
      | .rail r => !s.rails[r].enabled
      | .reg n => !s.regs[n].on
      | .fo n => decide (s.fo[n].phase = .off) || decide (s.fo[n].phase = .locked))
  | .enLow => (match itemKind i with | .rail r => !s.rails[r].enabled | _ => true)
  | .starting | .qualifying | .up | .retryWait | .stopping => false

/-- The function behind the item has reached off (R270). -/
def itemFunctionOff (s : State) (i : Fin 46) : Bool :=
  match itemKind i with
  | .rail r => !s.rails[r].enabled || s.rails[r].prot.ovLatch
  | .reg n => !s.regs[n].on
  | .fo n => decide (s.fo[n].phase = .off) || decide (s.fo[n].phase = .locked)

/-- Switch one item off (R270): the rail's off sequence by `ITEM_OFF_MODE`, the regulator stopped, the fused output
commanded off. -/
def switchOff (i : Fin 46) (s : State) : State :=
  if itemIsOff s i then modItem i (fun x => { x with
    phase := if x.phase = .waiting || x.phase = .enLow then .off else x.phase, cmdOn := false, retrying := false, qual := false, readopted := false }) s else
    let s1 := modItem i (fun x => { x with phase := .stopping, cmdOn := false, retrying := false, qual := false, normTimer := false, readopted := false }) s
    match itemKind i with
    | .rail r => sendCmd (.disable r (decide (s.itemOffMode i = 1))) s1
    | .reg n => modReg n (fun x => { x with on := false, pgWin := false }) s1
    | .fo n => foCommandOff n s1

/-- An item that its function turned off without the sequencer (R257): its state reads OFF. -/
def itemForcedOff (i : Fin 46) (s : State) : State :=
  match s.items[i].phase with
  | .unsequenced | .heldOff | .off | .enLow => s
  | _ => modItem i (fun x => { x with
      phase := .off, cmdOn := false, retrying := false, qual := false, normTimer := false, readopted := false }) s

/-- The shutdown proceeds: a step whose items are all off completes and the next lower started step is switched off;
after the lowest, `GRP_TOFF` counts (R283, R284). -/
def shutAdvance : Nat → Fin 8 → State → State
  | 0, _, s => s
  | f + 1, g, s =>
    match s.groups[g].step with
    | some st =>
      if (stepItems s st).all (itemIsOff s) then
        shutAdvance f g (modGroup g (fun x => { x with step := none, stepTimer := false, started := x.started.filter fun t => decide (t ≠ st) }) s)
      else s
    | none =>
      match s.groups[g].started.foldl (fun m t => match m with | none => some t | some u => if u.val < t.val then some t else m) none with
      | none => groupTo g .minOff (modGroup g (fun x => { x with stepTimer := false, toffTimer := true }) s)
      | some st =>
        let s1 := modGroup g (fun x => { x with step := some st, stepTimer := true }) s
        shutAdvance f g ((stepItems s st).foldl (fun a i => switchOff i a) s1)

/-- Items that wait for a step which no longer comes read OFF again (R296). -/
def itemsUnwait (g : Fin 8) (s : State) : State :=
  (groupItems s g).foldl (fun a i => modItem i (fun x => { x with
    phase := if decide (x.phase = .waiting) && !x.cmdOn then .off else x.phase }) a) s

/-- Start the shutdown of group `g` (R282, R283). An item faulted under GROUP_OFF is switched off first. -/
def shutdown (g : Fin 8) (byFault : Bool) (first : Option (Fin 46)) (s : State) : State :=
  let s1 := itemsUnwait g (modGroup g (fun x => { x with
    byFault := byFault, delaying := false, stepTimer := false, step := none }) s)
  let s2 := match first with | some i => switchOff i s1 | none => s1
  shutAdvance 130 g (groupTo g .shuttingDown s2)

/-- A GROUP_OFF reaction (R282, R287): the request is cleared and the item recorded. -/
def groupOff (g : Fin 8) (i : Fin 46) (s : State) : State :=
  let s1 := modGroup g (fun x => { x with request := false, faultItem := i.val, clearHeld := false }) s
  match s.groups[g].phase with
  | .poweringUp | .up => shutdown g true (some i) s1
  | .waitInput => groupTo g .off s1
  | _ => s1

/-! ### Fault reactions (R256, R287 to R289) -/

/-- The reaction an item's fault meets, most severe last (R289). -/
inductive Reaction
  | ignore | retry | groupOff | systemReset
  deriving DecidableEq, Repr

/-- Severity order of R289. -/
def Reaction.rank : Reaction → Nat
  | .ignore => 0 | .retry => 1 | .groupOff => 2 | .systemReset => 3

/-- `ITEM_REACT` as a reaction. -/
def reactOf (n : Nat) : Reaction := match n with | 0 => .ignore | 1 => .retry | 2 => .groupOff | _ => .systemReset

/-- The reaction to a fault of item `i` after the replacements of R256 (over-voltage of a rail), of R287 (a fused output
under RETRY) and of an exhausted retry count. -/
def reaction (s : State) (i : Fin 46) (f : ItemFaultCode) : Reaction :=
  let r := reactOf (s.itemReact i)
  match itemKind i, r with
  | .rail _, .ignore => if f = .overVoltage then .groupOff else .ignore
  | .rail _, .retry => if f = .overVoltage then .groupOff else if s.itemRetryMax i ≤ s.items[i].retryCnt then .groupOff else .retry
  | .reg _, .retry => if s.itemRetryMax i ≤ s.items[i].retryCnt then .groupOff else .retry
  | .fo _, .retry => .ignore
  | _, r => r

/-- Record the last fault of an item. -/
def setItemFault (i : Fin 46) (f : ItemFaultCode) (s : State) : State := modItem i (fun x => { x with lastFault := f.num }) s

/-- The sequencer has the item on, starting, or waiting to be switched on alone. -/
def itemLive (s : State) (i : Fin 46) : Bool := s.items[i].cmdOn || decide (s.items[i].phase = .retryWait)

/-- Switch a retried item off and start `ITEM_RETRY_DLY` (R287). An item that is not on has nothing to retry.
DEDUCED, log entry 82. -/
def startRetry (i : Fin 46) (s : State) : State :=
  if !itemLive s i then s else
  let s1 := switchOff i s
  modItem i (fun x => { x with
    retryDue := false, phase := .retryWait, cmdOn := false, retrying := true, qual := x.qual, normTimer := false,
    retryCnt := min 7 (x.retryCnt + 1) }) s1

/-- An IGNORE reaction (R256, R278, R287): a rail's latch is cleared once its condition has gone; a regulator stopped by
its protection and a LOCKED output stay off; an unqualified item counts as qualified after a step timeout. -/
def applyIgnore (i : Fin 46) (f : ItemFaultCode) (s : State) : State :=
  let s1 := if f = .stepTimeout then modItem i (fun x => { x with qual := true, moveOk := true, passed := true }) s else s
  match itemKind i with
  | .rail r => modProt r (fun p => { p with ignored := p.ignored || p.faultLatch }) s1
  | .reg n => if s.regs[n].on then s1 else modItem i (fun x => { x with phase := .faulted }) s1
  | .fo n => if s.fo[n].phase = .locked then modItem i (fun x => { x with phase := .faulted }) s1 else s1

/-- Apply a reaction of item `i` in its group (R284, R287). During a shutdown and MIN_OFF only SYSTEM_RESET acts, held. -/
def applyReaction (i : Fin 46) (f : ItemFaultCode) (x : Reaction) (s : State) : State :=
  match itemGroup s i with
  | none => s
  | some g =>
    match s.groups[g].phase with
    | .shuttingDown | .minOff =>
      if x = .systemReset then modGroup g (fun y => { y with heldReset := some i.val }) s else s
    | _ =>
      match x with
      | .ignore => applyIgnore i f s
      | .retry => startRetry i s
      | .groupOff =>
        let out := (match itemKind i with | .fo _ => false | _ => true) && decide (reactOf (s.itemReact i) = .retry)
          && decide (f ≠ .overVoltage)
        groupOff g i (if out then setItemFault i .retriesOut s else s)
      | .systemReset => startFullReset 0x06 i.val s

/-- The class A faults and the faults that carry their own Logbook code are not logged again as ITEM_FAULT. -/
def ItemFaultCode.logged : ItemFaultCode → Bool
  | .stepTimeout | .regCurrentLimit | .regOverVoltage | .regUnderVoltage => true
  | _ => false

/-- `ITEM_STATUS` of an item (R296). A rail whose off sequence runs reads STOPPING here, and `DYN_STATUS` [10] serves the disables of
R237 alone: the DISABLING of R45 has no bit of its own for it. DESIGN CHOICE, log entry 81. -/
def itemStatus (s : State) (i : Fin 46) : Nat :=
  let x := s.items[i]
  x.phase.ctorIdx + 16 * x.code + 256 * x.lastFault

/-- Item faults are recorded, and logged where they carry no Logbook code of their own; an item under IGNORE counts as qualified from a
step timeout on, whatever the others' reactions (R278). -/
def itemFaultsMark (l : List (Fin 46 × ItemFaultCode)) (s : State) : State :=
  let s1 := l.foldl (fun a x =>
    let a1 := setItemFault x.1 x.2 a
    if x.2.logged then logFault .itemFault 0 x.1 (itemStatus a1 x.1) a1 else a1) s
  (l.filter fun x => decide (x.2 = .stepTimeout) && decide (reaction s x.1 x.2 = .ignore)).foldl
    (fun a x => modItem x.1 (fun y => { y with qual := true, moveOk := true, passed := true }) a) s1

/-- Each group applies the most severe reaction of its items' faults, ties to the lowest item (R289). -/
def itemReact (l : List (Fin 46 × ItemFaultCode)) (s : State) : State :=
  let worst (g : Fin 8) : Nat := ((l.filter fun x => decide (itemGroup s x.1 = some g)).map fun x => (reaction s x.1 x.2).rank).foldl max 0
  let chosen := l.filter fun x => match itemGroup s x.1 with
    | none => false
    | some g => decide ((reaction s x.1 x.2).rank = worst g)
  let multi := chosen.foldl (fun (acc : State × List (Fin 8)) x =>
    match itemGroup s x.1 with
    | none => acc
    | some g =>
      let rx := reaction s x.1 x.2
      if rx.rank ≥ 2 && acc.2.contains g then acc
      else (applyReaction x.1 x.2 rx acc.1, g :: acc.2)) (s, [])
  multi.1

/-- Item faults declared in one cycle (R289): each recorded and logged, then the reactions; in an activation pause these wait for its
end (R539). -/
def itemFaults (l : List (Fin 46 × ItemFaultCode)) (s : State) : State :=
  let s1 := itemFaultsMark l s
  if s.update.pause then { s1 with update := { s1.update with heldB := s1.update.heldB ++ l } } else itemReact l s1

/-- One item fault (R287). DESIGN CHOICE, log entry 58. -/
def itemFault (i : Fin 46) (f : ItemFaultCode) (s : State) : State := itemFaults [(i, f)] s

/-! ### Powering up (R276 to R279) -/

/-- The item counts as qualified in its step (R274, R277 to R279). -/
def itemCounts (s : State) (i : Fin 46) : Bool := s.items[i].qual || s.items[i].passed || decide (s.items[i].phase = .heldOff)

/-- A moved rail is qualified when TRANSITION is clear and `PG_gg` is high (R276). -/
def movesDone (s : State) (st : Fin 64) : Bool :=
  (allFin 46).all fun i => match itemKind i with
    | .rail r => decide (fin? 64 (s.itemMoveStep i) ≠ some st) || !railPresent s r || decide (s.items[i].code = 5)
        || !itemLive s i || s.items[i].moveOk || (!s.rails[r].dyn.transition && s.rails[r].prot.pg)
    | _ => true

/-- Every item of the step is qualified. -/
def stepDone (s : State) (st : Fin 64) : Bool := (stepItems s st).all (itemCounts s) && movesDone s st

/-- The voltage steps of R276: every rail with this `ITEM_MOVE_STEP` gets `ITEM_MOVE_MV` as a source 1 command at
`RAIL_SLEW_SS`; dropped and logged where bus trim holds the rail (R203). -/
def stepMoves (st : Fin 64) (s : State) : State :=
  (allFin 28).foldl (fun a r =>
    let i := railItem r
    if railPresent a r && decide (fin? 64 (a.itemMoveStep i) = some st) && decide (a.items[i].code ≠ 5) then
      let a := modItem i (fun x => { x with moveOk := false }) a
      if a.trimEn r && a.rails[r].enabled && decide (a.railMode r = 1) then logFault .cmdRefused (railDie r + 1) r 1 a
      else sendCmd (.setTarget r (a.itemMoveMv i) (a.railSlewSs r) 1) (a.store (okey (0x3100 + r) 0x01) (a.itemMoveMv i))
    else a) s

/-- The step may start: no rail item waits for RUN (R92, R276). -/
def stepMayRun (s : State) (st : Fin 64) : Bool :=
  decide (s.pwr.state = .run) || (stepItems s st).all fun i => match itemKind i with | .rail _ => false | _ => true

/-- The `VDR` low faults of rails that were enabled while a die of theirs had no `VDR` are declared (R57).
DEDUCED, log entry 83. -/
def vdrDeclared (s : State) : State :=
  let l := (allFin 28).filter fun r => s.rails[r].prot.vdrDue
  itemFaults (l.map fun r => (railItem r, .vdrLow)) (l.foldl (fun a r => modProt r (fun p => { p with vdrDue := false }) a) s)

/-- The function behind the item is on. -/
def itemFunctionOn (s : State) (i : Fin 46) : Bool :=
  match itemKind i with
  | .rail r => s.rails[r].enabled && !s.rails[r].disabling
  | .reg n => s.regs[n].on
  | .fo n => s.fo[n].phase.gateOn

/-- A fused output held across the reset is re-adopted (R119): it goes on as presence and bus stand. One that has turned off, or
that no step of the sequencer owns, is turned off. DEDUCED, log entry 21. -/
def foAdopt (n : Fin 8) (s : State) : State :=
  let idle := decide (s.items[foItem n].phase = .off) || decide (s.items[foItem n].phase = .waiting)
  if s.items[foItem n].readopted then s
  else if !s.sk.fused[n] then (if idle && s.fo[n].commanded then foCommandOff n s else s)
  else if s.fo[n].phase.gateOn && decide (s.fo[n].phase ≠ .disabling) && idle then
    let s1 := modItem (foItem n) (fun x => { x with readopted := true }) (modFo n (fun x => { x with commanded := true }) s)
    if s.zbus.inWindow then s1 else foTo n .waitBus s1
  else foCommandOff n s

/-- The held fused outputs of group `g` are re-adopted together with its first step (R119). -/
def groupFosAdopt (g : Fin 8) (s : State) : State :=
  (allFin 8).foldl (fun a n => if itemGroup a (foItem n) = some g then foAdopt n a else a) s

/-- Start the step in progress of group `g` (R276): its items are switched on together, `STEP_TIMEOUT` starts. Items
re-adopted or kept on that still are on stay as they are (R279). DEDUCED, log entry 49. -/
def startStep (g : Fin 8) (st : Fin 64) (s : State) : State :=
  let s0 := if s.groups[g].started.isEmpty then groupFosAdopt g s else s
  let s1 := modGroup g (fun x => { x with delaying := false, stepTimer := true, started := st :: x.started }) s0
  let s2 := (stepItems s st).foldl (fun a i =>
    let a1 := modItem i (fun x => { x with qual := false, retrying := false, readopted := false, passed := false }) a
    if a.items[i].readopted && itemFunctionOn a i then
      modItem i (fun x => { x with cmdOn := true, qual := true, phase := .up, normTimer := true }) a1
    else switchOn i a1) s1
  vdrDeclared (stepMoves st s2)

/-- The items of a step that waits for `STEP_DELAY` or for RUN read WAITING. DEDUCED, log entry 49. -/
def itemsWait (st : Fin 64) (s : State) : State :=
  (stepItems s st).foldl (fun a i => modItem i (fun x => { x with phase := if x.phase = .off then .waiting else x.phase }) a) s

/-- Enter the next step of a powering group after `st`, or reach UP (R276): `STEP_DELAY` first; a step with no delay
starts at once, and a step all of whose items are qualified passes at once. DEDUCED, log entry 49. -/
def advance : Nat → Fin 8 → Option (Fin 64) → State → State
  | 0, _, _, s => s
  | f + 1, g, at_, s =>
    match nextStep s g at_ with
    | none =>
      groupTo g .up (modGroup g (fun x => { x with
        step := none, stepTimer := false, delaying := false,
        puTime := min max16 ((s.devTime - x.puStart) / 100) }) s)
    | some st =>
      let s1 := itemsWait st (modGroup g (fun x => { x with step := some st, delaying := true, delayDone := false, stepTimer := false }) s)
      if s.stepDelay st = 0 && stepMayRun s st then
        let s2 := startStep g st s1
        if s2.groups[g].phase = .poweringUp && stepDone s2 st then advance f g (some st) s2 else s2
      else s1

/-- A step that waited for its delay or for RUN starts (R276). -/
def stepGo (g : Fin 8) (st : Fin 64) (s : State) : State :=
  let s1 := startStep g st s
  if s1.groups[g].phase = .poweringUp && stepDone s1 st then advance 65 g (some st) s1 else s1

/-- The step in progress passes when every item is qualified (R276). -/
def checkStep (g : Fin 8) (s : State) : State :=
  if s.groups[g].phase = .poweringUp && !s.groups[g].delaying then
    match s.groups[g].step with
    | some st => if stepDone s st then advance 65 g (some st) s else s
    | none => s
  else s

/-- The steps in progress of all groups are looked at again. -/
def checkSteps (s : State) : State := (allFin 8).foldl (fun a g => checkStep g a) s

/-- Group `g` starts to power up from its lowest step (R276, R282). -/
def powerUp (g : Fin 8) (s : State) : State :=
  let s1 := modGroup g (fun x => { x with started := [], byFault := false, puStart := s.devTime, disabling := false }) s
  advance 65 g none (groupTo g .poweringUp s1)

/-- A request stands on a group in OFF, FAULTED or at the end of MIN_OFF: POWERING_UP or WAIT_INPUT by its input. Nothing powers up
before step 8 of the boot (R95, R112) or before a `GRP_TOFF` that R285 asks for has ended. -/
def requestRow (g : Fin 8) (s : State) : State :=
  if !s.boot.step8 then s
  else if !s.groups[g].input then groupTo g .waitInput s
  else if s.groups[g].toffTimer then s
  else powerUp g s

/-- The request of group `g` is cleared (R282, R286). -/
def requestDown (g : Fin 8) (s : State) : State :=
  let s1 := modGroup g (fun x => { x with request := false, clearHeld := false }) s
  match s.groups[g].phase with
  | .waitInput => groupTo g .off s1
  | .poweringUp | .up => shutdown g false none (modGroup g (fun x => { x with disabling := true }) s1)
  | .shuttingDown | .minOff => s1
  | .off | .faulted | .parked => s1

/-! ### Rails that were not re-adopted (R118) -/

/-- A rail whose deadline has passed and that still runs from its shadow copies. -/
def skDueOn (s : State) (r : Fin 28) : Bool := s.sk.due[r] && s.rails[r].stationKept && s.rails[r].enabled

/-- No later step of the rail's group has a rail that must go down first. -/
def skTurn (s : State) (r : Fin 28) : Bool :=
  match itemGroup s (railItem r) with
  | none => true
  | some g => (allFin 28).all fun q => !(skDueOn s q && decide (itemGroup s (railItem q) = some g)
      && decide (s.itemStep (railItem r) < s.itemStep (railItem q)))

/-- The rails whose turn has come in the shutdown order of their group start their off sequence (R118, R283).
DEDUCED, log entry 21. -/
def skGoDown (s : State) : State :=
  ((allFin 28).filter fun r => skDueOn s r && !s.rails[r].disabling && skTurn s r && decide (s.links[railDie r].phase = .up)).foldl
    (fun a r => sendCmd (.disable r (decide (a.itemOffMode (railItem r) = 1))) a) s

/-- What the sequencer does once rails have changed under it: rails whose turn has come go down (R118), `VDR` faults of rails just
enabled are declared (R57), steps that are done pass (R276). -/
def seqSettle (s : State) : State := checkSteps (vdrDeclared (skGoDown s))

/-- `ITEM_RETRY_DLY` of an item has ended: it is switched on alone (R287); the supervisor pair clears a rail's latch first, and a
rail waits until every die of it has `VDR` again (R256). DEDUCED, log entry 82. -/
def retryNow (i : Fin 46) (s : State) : State :=
  match itemKind i with
  | .rail r =>
    if (railDies s r).all (fun k => s.dies[k].vdrOk) then seqSettle (switchOn i (clearFaultLatch r s))
    else modItem i (fun x => { x with retryDue := true }) s
  | _ => switchOn i s

/-- The enable pin of a rail that the sequencer commands on is used and low (R271): the rail runs its off sequence, the item goes to
EN_LOW; not a fault. -/
def enPinLow (r : Fin 28) (s : State) : State :=
  let i := railItem r
  match s.items[i].phase with
  | .starting | .qualifying | .up =>
    if !s.items[i].cmdOn then s else
      let s1 := modItem i (fun x => { x with phase := .enLow, qual := false, normTimer := false }) s
      if s.rails[r].enabled then sendCmd (.disable r (decide (s.itemOffMode i = 1))) s1 else s1
  | _ => s

/-- An item in EN_LOW that the sequencer commands on is switched on once its enable pin allows it (R271). -/
def enPinFree (r : Fin 28) (s : State) : State :=
  let i := railItem r
  if s.items[i].cmdOn && decide (s.items[i].phase = .enLow) then seqSettle (switchOn i s) else s

/-- A write of `ITEM_EN_PIN` (R271): the pin counts, or no longer counts, from now on. -/
def enPinWritten (i : Fin 46) (s : State) : State :=
  match itemKind i with
  | .rail r => if s.itemEnPin i && !s.rails[r].enPin then enPinLow r s else enPinFree r s
  | _ => s

end Sys2Proof.Machine
end

