-- ==== Sys2Proof/Machine/FaultOps.lean ====
section
/-! DEFINITION. The class A path: package fault line and `SAFE_N` R40, R42, safe states R453, what follows R290, R454. -/

namespace Sys2Proof.Machine

/-- Turn a fused output or a regulator off at once, without the sequencer. -/
def stopItem (i : Fin 46) (s : State) : State :=
  match itemKind i with
  | .rail _ => s
  | .reg n => modReg n (fun x => { x with on := false, pgWin := false }) s
  | .fo n => foForceOff n s

/-- The class A safe state of the helm die's outputs (R453). DEDUCED, log entry 30. -/
def safeOutputs (s : State) : State :=
  let s1 := (allFin 46).foldl (fun a i => if (keepBit i).isSome && !keptBy s.logAKeep i then stopItem i a else a) s
  chgPause (modChg (fun c => { c with current := 0 }) s1)

/-- Items in their class A safe state: the sequenced ones that `LOG_A_KEEP` does not keep (R290). -/
def safeItems (s : State) : List (Fin 46) :=
  (allFin 46).filter fun i => itemPresent s i && (itemGroup s i).isSome && !keptBy s.logAKeep i

/-- The supervisor pair shuts down every group with an item in its safe state (R290). -/
def safeShutdowns (l : List (Fin 46)) (s : State) : State :=
  (allFin 8).foldl (fun a g => match l.find? (fun i => decide (itemGroup a i = some g)) with
    | some i => if a.groups[g].phase = .off || a.groups[g].phase = .faulted then a else groupOff g i a
    | none => a) s

/-- `RAIL_FAULT` [5] of every rail that takes the class A safe state (R255, R268), with its event (R485). DEDUCED, log entry 30. -/
def safeRailBits (s : State) : State :=
  (allFin 28).foldl (fun a r =>
    if railPresent a r && !(railPhases a r).isEmpty && !a.rails[r].prot.fault.testBit 5
    then railEvent r (modProt r (fun p => { p with fault := setBit p.fault 5 }) a) else a) s

/-- Assert the package fault line for a die: every output takes its safe state, `SAFE_N` is asserted (R40, R453, R455). -/
def assertLine (die : Nat) (s : State) : State :=
  pgRefreshAll (safeRailBits (safeOutputs { s with
    faultLine := true, safeN := true, log := { s.log with aDies := setBit s.log.aDies die } }))

/-- What follows a class A fault (R453, R454): a full reset, or the shutdowns of R290. LOCKSTEP, SYS_CLK_FAIL and THERMAL_SHUTDOWN are
followed by theirs whatever `LOG_A_RESET` holds; what the supervisor pair does waits for the end of an activation pause (R543).
DEDUCED, log entry 30. -/
def classAFollow (code : FaultCode) (items : List (Fin 46)) (s : State) : State :=
  match code with
  | .lockstep | .sysClkFail => startFullReset 8 code.code s
  | .thermalShutdown => startFullReset 9 0 s
  | _ =>
    if s.update.pause then { s with update := { s.update with heldA := s.update.heldA ++ [some code] } }
    else if s.logAReset then startFullReset 8 code.code s else safeShutdowns items s

/-- A class A fault on `die` (R449, R453, R454): the safe state, the entry, then what follows it. -/
def classA (code : FaultCode) (die src detail : Nat) (s : State) : State :=
  classAFollow code (safeItems s) (logFault code die src detail (assertLine die s))

/-- Protection of a rail die is armed: powered and in RUN (R241), and not in a hold-up save, which leaves `SAFE_N` as it stands
(R385). DEDUCED, log entry 34. -/
def dieArmed (s : State) : Bool := decide (s.pwr.state = .run) && decide (s.boot.phase ≠ .holdUp)

/-! ### Rails that left station-keeping (R115) -/

/-- Some rail is still station-kept. -/
def skOpen (s : State) : Bool := (allFin 28).any fun r => s.rails[r].stationKept

/-- Re-adoption ends with the last kept rail: event source 46 (R485). -/
def skEndCheck (was : Bool) (s : State) : State := if was && !skOpen s then eventEdge 46 s else s

/-- The fault of a rail that left station-keeping, by its `RAIL_FAULT` bit (R115). DEDUCED, log entry 21. -/
def leftFault : Nat → Option ItemFaultCode
  | 0 | 1 => some .overVoltage
  | 2 => some .underVoltage
  | 3 => some .overCurrent
  | 4 => some .stageFault
  | 8 => some .vdrLow
  | _ => none

/-- The Logbook code of its trip (R115). -/
def leftLog (s : State) (r : Fin 28) : Nat → Option FaultCode
  | 0 | 1 => some (if (gangOfRail s r).isSome then .railOvGanged else .railOv)
  | 2 => some .railUv
  | 3 => some .railOc
  | 4 => some .stageFault
  | 8 => some .vdrLow
  | _ => none

/-- A fault that is class A whatever the item's reaction (R256): over-voltage of a ganged rail, and a stage fault. -/
def leftClassA (s : State) (r : Fin 28) : Nat → Bool
  | 0 | 1 => (gangOfRail s r).isSome
  | 4 => true
  | _ => false

/-- What the supervisor pair does at step 8 for a rail that left station-keeping (R115); after a class A trip its group is shut down
(R290). -/
def skLeft (x : SkLeft) (s : State) : State :=
  match fin? 28 x.rail with
  | none => s
  | some r =>
    let s1 := { s with sk := { s.sk with down := vset s.sk.down r true } }
    match leftFault x.why with
    | none => modItem (railItem r) (fun y => if y.phase = .off then { y with phase := .enLow } else y) s1
    | some f =>
      let s2 := match x.logged, leftLog s1 r x.why with
        | false, some code => logFault code (railDie r + 1) r s1.rails[r].prot.fault s1
        | _, _ => s1
      if leftClassA s1 r x.why then
        let s3 := setItemFault (railItem r) f s2
        match itemGroup s3 (railItem r) with
        | some g => groupOff g (railItem r) s3
        | none => s3
      else itemFault (railItem r) f s2

/-- Deal with every rail that left station-keeping, unless a full reset starts meanwhile. -/
def skLeftAll (s : State) : State :=
  let s1 := s.sk.left.foldl (fun a x => if a.boot.step8 then skLeft x a else a) s
  { s1 with sk := { s1.sk with left := [] } }

/-- A rail that leaves station-keeping after step 8 is dealt with at once (R115). DEDUCED, log entry 21. -/
def skSettle (s : State) : State := if s.boot.step8 && !s.sk.left.isEmpty then skEndCheck true (skLeftAll s) else s

/-- The Logbook takes an entry that stands: in a full reset before its end the trip of a kept rail is logged at step 8 (R115). -/
def skLogs (s : State) : Bool := decide (s.boot.phase ≠ .inReset)

/-- A class A trip of rails `rs`; in a full reset the entry of a trip that ends station-keeping waits for step 8 (R115). -/
def classATrip (rs : List (Fin 28)) (code : FaultCode) (die src detail : Nat) (s0 s : State) : State :=
  if !skLogs s0 && rs.any (fun r => s0.rails[r].stationKept) then classAFollow code (safeItems s) (assertLine die s)
  else classA code die src detail s

/-- An over-voltage trip (R244 to R247): on a ganged rail class A from the lead die, else class B with the rail's
reaction; a station-kept rail leaves station-keeping under its latch (R115). DESIGN CHOICE, log entry 58. -/
def ovTrip (r : Fin 28) (b : Nat) (s : State) : State :=
  match gangOfRail s r with
  | some _ =>
    let s1 := skLeave r b (skLogs s) (ovLatchSet r b s)
    skSettle (classATrip [r] .railOvGanged (railDie r + 1) r s1.rails[r].prot.fault s s1)
  | none =>
    let s1 := skLeave r b false (ovLatchSet r b s)
    if s.rails[r].stationKept then skSettle s1
    else itemFault (railItem r) .overVoltage (logFault .railOv (railDie r + 1) r s1.rails[r].prot.fault s1)

/-- Millivolts as reference units of 0.15625 mV. -/
def mvUnits (mv : Nat) : Nat := mv * 32 / 5

/-- A rail's fault condition has gone: a latch under an IGNORE reaction is cleared by the supervisor pair (R256). -/
def ignoreClear (r : Fin 28) (s : State) : State :=
  let p := s.rails[r].prot
  if p.ignored && !p.uvCond && !ocHolds s r && (railDies s r).all (fun k => s.dies[k].vdrOk) then clearFaultLatch r s else s

end Sys2Proof.Machine
end

