-- ==== Sys2Proof/Machine/PowerOps.lean ====
section
/-! DEFINITION. What wake sources R93 and the release of a reset output R440 mean for the functions that wait on them. -/

namespace Sys2Proof.Machine

/-- The PARKED rows of R282: with the request set as MIN_OFF, `GRP_TOFF` counted from PARK entry, else OFF. -/
def groupsUnpark (s : State) : State :=
  (allFin 8).foldl (fun a g =>
    if a.groups[g].phase = .parked then
      if a.groups[g].request then groupTo g .minOff (modGroup g (fun x => { x with toffTimer := true, byFault := false }) a)
      else groupTo g .off (modGroup g (fun x => { x with disabling := false }) a)
    else a) s

/-- A PARK entry is withdrawn and the device returns to DOZE; items switched off at acceptance stay off (R91). -/
def parkWithdraw (s : State) : State :=
  groupsUnpark { s with pwr := { s.pwr with parkEntry := false, req := .doze, wakeTimerOn := false } }

/-- A wake source, numbered as in `WAKE_CAUSE`, fires (R91, R93): recorded while PARK is entered or in force, if enabled;
`TAMPER_N` is always enabled. During entry it withdraws the entry. In Old Chart mode the pins are caught by R568 alone. -/
def wakeOn (b : Nat) (s : State) : State :=
  if !(s.pwr.parkEntry || decide (s.pwr.state = .park)) then s
  else if b = 13 || s.wakeMask.testBit b then
    let s1 := { s with pwr := { s.pwr with fired := setBit s.pwr.fired b } }
    if s.pwr.parkEntry then parkWithdraw s1 else s1
  else s

/-- `WD_RSTO_h` of a host. -/
def wdRstoOf (s : State) (h : Fin 2) : Nat := if h = 0 then s.wdRsto0 else s.wdRsto1

/-- `RSTO_n` is released: the obligation of every host it serves starts (R440). -/
def rstoReleased (n : Fin 4) (s : State) : State :=
  (allFin 2).foldl (fun a h => if wdRstoOf a h = n.val then
    { a with wd := { a.wd with hosts := vmod a.wd.hosts h fun x => { x with started := true, cycles := 0, obliged := false } } }
    else a) s

/-- The item has a bit of `PARK_KEEP`, and it is set. -/
def parkKept (s : State) (i : Fin 46) : Bool := match keepBit i with | some b => s.parkKeep.testBit b | none => false

/-- Some `PARK_KEEP` item is on. -/
def anyKeptOn (s : State) : Bool := (allFin 46).any fun i => parkKept s i && s.items[i].cmdOn

end Sys2Proof.Machine
end

