-- ==== Sys2Proof/Machine/Gauge.lean ====
section
/-! DEFINITION. The commands of chapter 11: the gauge estimate, rest, learning, outings, the Almanac. Cell voltages are
in mV, currents in mA, charges in mAh, all as exact rationals. -/

namespace Sys2Proof.Machine

/-! ### The tables (R334, R335, R356 to R358) -/

/-- A byte of the tables in use: written ones, or the generic ones (R358). -/
def tableByte (s : State) (k : Nat) : Byte :=
  if s.gauge.alm.tablesSet then s.gauge.alm.tables.getD k 0 else Config.genericTables k

/-- A little-endian word of the tables. -/
def tableWord (s : State) (k : Nat) : Nat := (tableByte s k).toNat + 256 * (tableByte s (k + 1)).toNat

/-- A temperature point, 0.1 °C. -/
def tableTemp (s : State) (k : Nat) : Int := ofTwos 16 (tableWord s k)

/-- The open-circuit voltage temperatures and the impedance temperatures. -/
def ocvTemps (s : State) : List Int := (List.range 4).map fun t => tableTemp s (2 * t)
def impTemps (s : State) : List Int := (List.range 6).map fun t => tableTemp s (8 + 2 * t)

/-- Entry (i, t) of the open-circuit voltage table, mV. -/
def ocvEntry (s : State) (i t : Nat) : Rat := (tableWord s (24 + 2 * (32 * t + i)) : Rat) / 10

/-- Entry (j, t, q) of the impedance table as stored. -/
def impEntry (s : State) (j t q : Nat) : Nat := tableWord s (280 + 2 * (5 * (16 * t + j) + q))

/-- Where `x` lies among rising points: lower index, upper index, fraction; never outside the list (R334). -/
def locate (xs : List Int) (x : Int) : Nat × Nat × Rat :=
  let n := xs.length - 1
  match (List.range n).find? fun k => decide (x < xs.getD (k + 1) 0) with
  | none => (n, n, 0)
  | some k =>
    let a := xs.getD k 0
    let b := xs.getD (k + 1) 0
    if x ≤ a then (k, k, 0) else (k, k + 1, ((x - a : Int) : Rat) / ((b - a : Int) : Rat))

/-- A straight line. -/
def lerp (a b f : Rat) : Rat := a + (b - a) * f

/-- A state of charge among the points `k ÷ n` (R334). DESIGN CHOICE, log entry 15. -/
def socLocate (n : Nat) (x : Rat) : Nat × Rat :=
  let k := min (n - 1) (x * n).floor.toNat
  (k, x * n - k)

/-- Value `q` of the impedance table at (s, T) (R334). -/
def impedance (s : State) (soc : Rat) (t : Int) (q : Nat) : Rat :=
  let (a, b, f) := locate (impTemps s) t
  let (k, g) := socLocate 15 soc
  lerp (lerp (impEntry s k a q) (impEntry s (k + 1) a q) g) (lerp (impEntry s k b q) (impEntry s (k + 1) b q) g) f

/-- The open-circuit voltage table at T. -/
def ocvAt (s : State) (t : Int) (i : Nat) : Rat :=
  let (a, b, f) := locate (ocvTemps s) t
  lerp (ocvEntry s i a) (ocvEntry s i b) f

/-- The state of charge at which the open-circuit voltage at T gives `u` (R334). -/
def invertOcv (s : State) (t : Int) (u : Rat) : Rat :=
  if u < ocvAt s t 0 then 0
  else match (List.range 31).find? fun i => decide (u < ocvAt s t (i + 1)) with
    | none => 1
    | some i => ((i : Rat) + (u - ocvAt s t i) / (ocvAt s t (i + 1) - ocvAt s t i)) / 31

/-- Strictly rising. -/
def rising : List Int → Bool
  | a :: b :: l => decide (a < b) && rising (b :: l)
  | _ => true

/-- The checks the gauge does not make (R335): where they fail its results are unpredictable. DEDUCED, log entry 16. -/
def tablesOk (s : State) : Bool :=
  rising (ocvTemps s) && rising (impTemps s)
    && (List.range 4).all (fun t => rising ((List.range 32).map fun i => (tableWord s (24 + 2 * (32 * t + i)) : Int)))
    && (List.range 6).all (fun t => (List.range 16).all fun j => (List.range 5).all fun q => decide (0 < impEntry s j t q))

/-! ### The model (R333, R336) -/

/-- The clamp of R336. -/
def clamp01 (x : Rat) : Rat := max 0 (min 1 x)

/-- A free rational. DEDUCED, log entry 16. -/
def freeRat (use : Nat) (s : State) : Rat := ((Config.freeInt use s.freeCtr : Int) : Rat) / ((Config.free use s.freeCtr + 1 : Nat) : Rat)

/-- The sum of x^j ÷ j! over j below `n`, from the term `a` at j = `k` on. -/
def expSum (x : Rat) : Nat → Nat → Rat → Rat
  | 0, _, _ => 0
  | n + 1, k, a => a + expSum x n (k + 1) (a * x / ((k + 1 : Nat) : Rat))

/-- e^(−x) of R333 for 0 ≤ x ≤ 10: the reciprocal of the series of e^x, between 41 terms of it and the same with its last term
twice, which is more than the rest; within these bounds, some 12 digits, the value is free. DESIGN CHOICE, log entry 12. -/
def expNeg (x : Rat) : Rat :=
  let a := expSum x 40 0 1
  let b := expSum x 41 0 1
  max (1 / (2 * b - a)) (min (1 / b) (Config.expRat (-x)))

/-- The model part of an estimate (R333, R336): V1, V2, u, s_raw, SOC_V and N × R0 in mΩ; free where R335 says so.
DESIGN CHOICE, log entry 15; DEDUCED, log entry 16. -/
def gaugeModel (s : State) (v i : Rat) (t : Int) (g : Rat) : GaugeState :=
  let m := s.gauge
  if !tablesOk s then
    { m with v1 := freeRat 1 s, v2 := freeRat 2 s, u := freeRat 3 s, sRaw := freeRat 4 s, socV := clamp01 (freeRat 5 s), rser := freeRat 6 s }
  else
    let r0 := impedance s m.socV t 0 / 100
    let r1 := impedance s m.socV t 1 / 100
    let r2 := impedance s m.socV t 2 / 100
    let k1 := expNeg (10 / impedance s m.socV t 3)
    let k2 := expNeg (10 / impedance s m.socV t 4)
    let v1 := m.v1 * k1 + i * r1 / 1000 * (1 - k1)
    let v2 := m.v2 * k2 + i * r2 / 1000 * (1 - k2)
    let u := v + i * r0 / 1000 + v1 + v2
    let raw := invertOcv s t u
    { m with v1 := v1, v2 := v2, u := u, sRaw := raw, socV := clamp01 (m.socV + g * (raw - m.socV)), rser := s.packCells * r0 }

/-! ### Reported values (R339, R340) -/

/-- r of R339. -/
def reserve (s : State) : Rat := (s.ggReserve : Rat) / 100

/-- SOC_I (R337). -/
def socI (s : State) : Rat := s.gauge.qInt / (capacity s : Rat)

/-- `GG_SOC` as a fraction: 0 at EOD_FLOOR (R341); free with a reserve of 1 or more. -/
def ggSoc (s : State) : Rat :=
  if s.gauge.eodFloor then 0 else max 0 ((s.gauge.socV - reserve s) / (1 - reserve s))

/-- `GG_RC`, `GG_RC_INT`, `GG_FCC` in mAh (R339). -/
def ggRc (s : State) : Rat := (capacity s : Rat) * max 0 (s.gauge.socV - reserve s)
def ggRcInt (s : State) : Rat := (capacity s : Rat) * max 0 (socI s - reserve s)
def ggFcc (s : State) : Rat := (capacity s : Rat) * (1 - reserve s)

/-- Mean of the newest `n` currents of the history, mA. DEDUCED, log entry 17. -/
def meanI (n : Nat) (l : List Int) : Rat :=
  let h := l.take n
  if h.isEmpty then 0 else ((h.foldl (· + ·) 0 : Int) : Rat) / ((h.length : Nat) : Rat)

/-- `GG_TTE` in minutes (R340). -/
def ggTte (s : State) : Nat :=
  let i := meanI 60 s.gauge.hist
  if i ≤ (s.ggRestI : Rat) then 0xFFFF else
    let rc := if s.gauge.disagree then min (ggRc s) (ggRcInt s) else ggRc s
    min 0xFFFF (reported s 0x271007 (rc / i * 60))

/-- `GG_SOC` in 0.1 %. -/
def ggSocUnits (s : State) : Nat := reported s 0x271001 (ggSoc s * 1000)

/-- The estimate objects take their values (R332, R339, R340); a reported charge below `CHG_RESTART_SOC` clears the terminated flag
(R311). -/
def gaugeReport (s : State) : State :=
  let s1 := modGg (fun g => { g with
    soc := ggSocUnits s, tte := ggTte s, socIEst := socI s, rcEst := ggRc s, rcIntEst := ggRcInt s, fccEst := ggFcc s, rnd := s.freeCtr }) s
  if s1.gauge.soc < 10 * s.chgRestartSoc then clearTerminated s1 else s1

/-! ### Parts of an estimate -/

/-- Rest, charge run and history of an estimate (R340, R342, R346). -/
def gaugeRuns (i : Int) (s : State) : State :=
  let rest := decide (i ≤ (s.ggRestI : Int) ∧ -(s.ggRestI : Int) ≤ i)
  modGg (fun g => { g with
    restSec := if rest then g.restSec + 1 else 0, restQual := g.restQual && rest,
    chgRun := if (s.ggRestI : Int) < -i then g.chgRun + 1 else 0,
    hist := i :: g.hist.take 59 }) s

/-- The integrator (R337): `PP_I` over one second, clamped to 0 to C, less self-discharge at rest.
DESIGN CHOICE, log entry 15. -/
def integrate (i : Int) (s : State) : State :=
  let c : Rat := capacity s
  let sd : Rat := if 0 < s.gauge.restSec then c * s.ggSelfdis / 1000 / 86400 else 0
  modGg (fun g => { g with qInt := max 0 (min c (g.qInt - (i : Rat) / 3600) - sd) }) s

/-- The end-of-discharge counts and the declaration or release of EOD (R341, R342). The answer tells of a declaration.
DEDUCED, log entry 17. -/
def gaugeEod (v : Rat) (s : State) : State × Bool :=
  let s1 := modGg (fun g => { g with
    eodCntV := if g.socV ≤ reserve s then g.eodCntV + 1 else 0,
    eodCntF := if v ≤ (s.ggVeod : Rat) then g.eodCntF + 1 else 0 }) s
  let g := s1.gauge
  if !g.eod && (decide (3 ≤ g.eodCntV) || decide (3 ≤ g.eodCntF)) then
    (eventLevel 7 true (modGg (fun g => { g with eod := true, eodFloor := decide (3 ≤ g.eodCntF) }) s1), true)
  else if g.eod && (decide (reserve s + 5 / 100 < g.socV) || decide (61 ≤ g.chgRun)) then
    (eventLevel 7 false (modGg (fun g => { g with eod := false, eodFloor := false, eodCntV := 0, eodCntF := 0 }) s1), false)
  else (modGg (fun x => { x with eodFloor := x.eodFloor || (x.eod && decide (3 ≤ x.eodCntF)) }) s1, false)

/-- The disagreements of R343 and R344; an estimate that declares end of discharge raises none but by R344 (R362). -/
def gaugeDisagree (declared : Bool) (s : State) : State :=
  let m : Rat := (s.ggDisMargin : Rat) / 100
  if declared && decide (reserve s + m < socI s) then setDisagree true s
  else if !declared && decide (socI s ≤ reserve s) && decide (reserve s + m < s.gauge.socV) && (!s.gauge.disagree || s.gauge.dir) then setDisagree false s
  else s

/-- The learned capacity of R350. -/
def learnCapacity (s : State) : State :=
  let g := s.gauge
  let cm : Rat := if g.socV = 1 then ((Config.free 350 s.freeCtr : Nat) : Rat) else g.qDis / (1 - g.socV)
  let old : Rat := capacity s
  let nom : Rat := s.packCapNom
  let s1 := modGg (fun g => { g with learn := .idle, aboveRun := 0, lowRun := 0, cMeas := cm }) s
  if decide (g.alm.cap ≠ 0) && (decide (old * 20 / 100 < cm - old) || decide (old * 20 / 100 < old - cm)) then learnResult 2 s1
  else if decide (cm < nom * 40 / 100) || decide (nom * 120 / 100 < cm) then learnResult 3 s1
  else
    let c := (old + (cm - old) * s.ggLearnW / 100 + 1 / 2).floor.toNat
    requestWriteBack (modNv (fun v => { v with wbLearn := true }) (learnResult 1 (modGg (fun g => { g with
      ageSec := 0,
      alm := { g.alm with cap := c, capLearned := true, learnCnt := satAdd max16 g.alm.learnCnt 1, age := 0 } }) s1)))

/-- The learning cycle at an estimate (R348, R349). DEDUCED, log entry 17. -/
def gaugeLearn (i t : Int) (declared : Bool) (s : State) : State :=
  let tempBad := decide (t < 100) || decide (450 < t)
  let above := decide ((s.ggRestI : Int) < i)
  match s.gauge.learn with
  | .idle => s
  | .full =>
    if tempBad then learnStop 4 s else
      let s1 := modGg (fun g => { g with
        aboveRun := if above then g.aboveRun + 1 else 0,
        qDis := if above && decide (0 < g.aboveRun) then g.qDis + (i : Rat) / 3600 else 0 }) s
      if 11 ≤ s1.gauge.aboveRun then modGg (fun g => { g with learn := .discharge, lowRun := 0 }) s1 else s1
  | .discharge =>
    let s1 := modGg (fun g => { g with
      qDis := g.qDis + (i : Rat) / 3600, lowRun := if above then 0 else g.lowRun + 1 }) s
    if tempBad then learnStop 4 s1
    else if decide ((capacity s : Rat) / 2 < meanI 10 s1.gauge.hist) then learnStop 5 s1
    else if 62 ≤ s1.gauge.lowRun then learnStop 6 s1
    else if declared then learnCapacity s1
    else s1

/-- Cycle counting (R352), with the C in force before a learning of the same estimate. -/
def gaugeCycles (i : Int) (s : State) : State :=
  let a := s.gauge.alm.disAcc + (if 0 < i then (i : Rat) / 3600 else 0)
  if (capacity s : Rat) ≤ a then
    requestWriteBack (modAlm (fun x => { x with disAcc := a - capacity s, cycles := satAdd max32 x.cycles 1 }) s)
  else modAlm (fun x => { x with disAcc := a }) s

/-- Learn age (R364): one second of RUN or DOZE. DEDUCED, log entry 17. -/
def gaugeAge (s : State) : State := learnAge 1 s

/-- An outing is due (R354). -/
def outingDue (s : State) : Bool := s.ggOutEn && decide (s.ggOutDays * 1440 ≤ s.gauge.alm.age)

/-- GAUGE_ESTIMATE (R332 to R355). DEDUCED, log entry 8. -/
def execGaugeEstimate (vpkp : Nat) (ppI t : Int) (s : State) : Res :=
  let s0 := modPp (fun p => { p with packV := vpkp, packI := ppI, packT := t }) s
  if decide (s.pwr.state = .park) || decide (s.pwr.state = .off) then .next s0
  else if !s.gauge.running || !s.pp.present || !cellsOk s then .next (gaugeAge s0)
  else
    let i := -ppI
    let v : Rat := (vpkp : Rat) / (s.packCells : Rat)
    let g : Rat := if s.gauge.first then 1 else (s.ggGain : Rat) / 256
    let s1 := gaugeRuns i { s0 with gauge := gaugeModel s0 v i t g }
    let s2 := if s.gauge.first then anchor (s1.gauge.socV * (capacity s1 : Rat)) (modGg (fun g => { g with first := false }) s1)
      else integrate i s1
    let (s3, declared) := gaugeEod v s2
    let s4 := gaugeDisagree declared s3
    let s5 := gaugeLearn i t declared (gaugeCycles i s4)
    let s8 := gaugeReport (gaugeAge (if declared then eodActs s5 else s5))
    let s9 := if outingDue s8 && outingMayStart s8 then outingStart s8 else s8
    .next (packCheck { s9 with freeCtr := s9.freeCtr + 1 })

/-- REST_QUALIFIED (R336, R338, R346): the estimate counts with g = 1 and Q_int is re-anchored. DEDUCED, log entry 17. -/
def execRestQualified (s : State) : Res :=
  if s.gauge.running && decide (0 < s.gauge.restSec) && !s.gauge.restQual
      && (decide (s.pwr.state = .run) || decide (s.pwr.state = .doze)) then
    let s1 := modGg (fun g => { g with restQual := true, socV := clamp01 g.sRaw }) s
    .next (gaugeReport (anchor (s1.gauge.socV * (capacity s1 : Rat)) s1))
  else .next s

/-- GAUGE_START (R318, R331, R347): the pack is present (again) when `PKT` is closed and the cell voltage, from V_PKP in mV, lies between
0.5 V and `CHG_VCELL_MAX`. -/
def execGaugeStart (vpkp : Nat) (closed : Bool) (s : State) : Res :=
  let s1 := modPp (fun p => { p with packV := vpkp }) s
  .next (if closed && cellsOk s && packVoltOk s vpkp then
    gaugeStartOp (modChg (fun c => { c with removed := false }) (modPp (fun p => { p with present := true }) s1)) else s1)

/-- A write of `PACK_CELLS` (R310, R311, R332, R349): another number of cells disqualifies the learning cycle; without a valid one the
charger goes OFF and the gauge stops; with one the charger may leave OFF and the gauge starts on a present pack.
DEDUCED, log entry 50. -/
def packCellsOp (v : Nat) (s : State) : State :=
  let t := s.store (okey 0x2702 0x01) v
  let t1 := if s.packCells = t.packCells then t else learnStop 9 t
  if !cellsOk t then chgTo .off (modChg (fun c => { c with current := 0, enHeld := false }) (modGg (fun g => { g with running := false }) t1))
  else
    let t2 := if t.chgEn && decide (t1.chg.phase = .off) then chgEnable t1 else t1
    if !cellsOk s && t.pp.present then gaugeStartOp t2 else t2

/-- LEARN_FULL_WAIT_LAPSE (R348): LAPSED; a running outing goes on (R355). -/
def execLearnFullWaitLapse (s : State) : Res := .next (if s.gauge.learn = .full then learnIdle 10 s else s)

/-- GG_NEWPACK (R351). -/
def newPack (s : State) : State :=
  requestWriteBack (learnStop 9 (modGg (fun g => { g with
    ageSec := 0,
    alm := { g.alm with cap := 0, capLearned := false, cycles := 0, disAcc := 0, age := 0 } }) s))

def execGgNewpack (p : Port) (value : Nat) (s : State) : Res :=
  .next (directWrite p (okey 0x2711 0x0F) s fun s => (if value = 1 then newPack s else s, .done))

/-- A write of `GG_OUT_CMD` (R354, R355). -/
def outCmd (value : Nat) (s : State) : State × Ack :=
  if value = 1 then if outingMayStart s then (outingStart s, .done) else (s, .abort .state)
  else if value = 2 then (outingEnd 2 s, .done)
  else (s, .done)

/-- OUTING_START_CMD (R354). -/
def execOutingStartCmd (p : Port) (s : State) : Res := .next (directWrite p (okey 0x2711 0x0B) s (outCmd 1))

/-- OUTING_END_CMD (R355). -/
def execOutingEndCmd (p : Port) (s : State) : Res := .next (directWrite p (okey 0x2711 0x0B) s (outCmd 2))

/-- OUTING_TIMEOUT (R355): LAPSED. -/
def execOutingTimeout (s : State) : Res := .next (if s.gauge.outRunning then outingStop 3 10 s else s)

/-- A write of `GG_ALM_TABLES` (R357): 1,240 bytes. -/
def writeTables (bytes : List Byte) (s : State) : State × Ack :=
  if bytes.length ≠ 1240 then (s, .abort .length) else
    (requestWriteBack (learnStop 9 (modAlm (fun a => { a with tables := bytes, tablesSet := true }) s)), .done)

/-- GG_ALM_TABLES_WRITE (R357). -/
def execGgAlmTablesWrite (p : Port) (bytes : List Byte) (s : State) : Res :=
  .next (directWrite p (okey 0x2712 0x01) s (writeTables bytes))

/-- WRITE_BACK_TIMER (R359): in RUN and DOZE. -/
def execWriteBackTimer (s : State) : Res :=
  .next (if s.pwr.state = .run || s.pwr.state = .doze then requestWriteBack s else s)

/-- ALMANAC_WRITE_BACK_DONE (R359, R369, R378): the slot becomes the slot in use, or its write failed; held records and
a held request are then served. Not while journal words wait (R368). DEDUCED, log entry 74. -/
def execAlmanacWriteBackDone (ok : Bool) (s : State) : Res :=
  match s.nv.wb with
  | .idle => .next s
  | .running k =>
    let s1 := modNv (fun v => { v with wb := .idle, ctrHeld := [], slotUse := if ok then some k else v.slotUse })
      (modSlot k (fun g => { g with valid := ok, wip := false, seq := if ok then nextSlotSeq s else 0 }) s)
    let s2 := if ok then modGg (fun g => { g with almInvalid := false }) s1 else logFault .mramWriteFail 0 0 (slotOffset k) s1
    let s3 := s.nv.ctrHeld.foldl (fun a r => putCtrRec r a) s2
    .next (if journalWaits s then s else useFree (if s.nv.wbReq then requestWriteBack s3 else s3))

end Sys2Proof.Machine
end

