-- ==== Sys2Proof/Machine/CanOps.lean ====
section
/-! DEFINITION. The shared moves of the CAN ports: running conditions R501, start and stop R500 to R503, sending R503, abort codes and
response frames R508 to R511, R526, the end of an update R536. -/

namespace Sys2Proof.Machine

/-- Change CAN port `n`. -/
def modCan (n : Fin 4) (f : CanPort → CanPort) (s : State) : State := { s with can := vmod s.can n f }

/-- `CLK_STATUS` (R46). -/
def clkStatus (s : State) : Nat :=
  let c := s.clk
  bitsOf ([c.sysLock, c.canLock, c.xtalOk, c.huRun, c.aonOk, false, false, false]
    ++ (allFin 7).map fun k => diePresent s k && c.rsysLock[k])

/-- Crystal and CAN PLL are good (R24). -/
def canClock (s : State) : Bool := s.clk.xtalOk && s.clk.canLock

/-- The conditions of R501 under which port `n` runs, `CSTB_n` low. -/
def canShouldRun (s : State) (n : Fin 4) : Bool :=
  s.canEn n && poweredOutputs s && (decide (s.pwr.state = .run) || decide (s.pwr.state = .doze)) && canClock s

/-- The port is stopped: `CSTB_n` high. -/
def CanPhase.stopped : CanPhase → Bool
  | .disabled | .noClock => true
  | _ => false

/-- The level of `CSTB_n`: high while the port is stopped, low while unpowered (R76, R91, R501). -/
def cstbPin (s : State) (n : Fin 4) : Bool := helmPowered s && s.can[n].phase.stopped

/-- The level of `CTX_n`: low while unpowered (R76), else recessive, high, but for the bits of a frame on the wire, which are free.
DEDUCED, log entry 77. -/
def ctxPin (s : State) (n : Fin 4) : Bool :=
  helmPowered s && (s.can[n].phase.stopped || s.can[n].txQueue.isEmpty || Config.freeBool (7600 + n) s.freeCtr)

/-- The level of `TDO`: low while unpowered (R76), else what the test port shifts out, which no rule gives. DEDUCED, log entry 77. -/
def tdoPin (s : State) : Bool := helmPowered s && Config.freeBool 7604 s.freeCtr

/-- The settings that R500 holds from one enable to the next: subindices 0x02 to 0x0C of the port. -/
def canSettings (s : State) (n : Fin 4) : List Nat :=
  [s.canMode n, s.canNbrp n, s.canNtseg1 n, s.canNtseg2 n, s.canNsjw n, s.canDbrp n, s.canDtseg1 n, s.canDtseg2 n,
    s.canDsjw n, bit (s.canTdcEn n), s.canTdcOfs n]

/-- The values of R500 are taken at an enable or a full reset. DEDUCED, log entry 56. -/
def canTake (n : Fin 4) (s : State) : State := modCan n (fun c => { c with inForce := canSettings s n, base := s.brgBase n }) s

/-- A value of R500 in force: `i` counts from `CAN_MODE`. -/
def canInForce (s : State) (n : Fin 4) (i : Nat) : Nat := s.can[n].inForce.getD i 0

/-- Quanta of 12.5 ns in a nominal and in a data bit (R498). -/
def canNominal (s : State) (n : Fin 4) : Nat := canInForce s n 1 * (1 + canInForce s n 2 + canInForce s n 3)
def canData (s : State) (n : Fin 4) : Nat := canInForce s n 5 * (1 + canInForce s n 6 + canInForce s n 7)

/-- The conditions of R498: nominal rate 125 kbit/s to 1 Mbit/s, data rate from it to 8 Mbit/s, data sample point at 70 % or
later. -/
def canTimingOk (s : State) (n : Fin 4) : Bool :=
  decide (80 ≤ canNominal s n) && decide (canNominal s n ≤ 640) && decide (10 ≤ canData s n) && decide (canData s n ≤ canNominal s n)
    && decide (7 * (1 + canInForce s n 6 + canInForce s n 7) ≤ 10 * (1 + canInForce s n 6))

/-- Transmitter delay compensation in force (R499). -/
def canTdc (s : State) (n : Fin 4) : Bool := decide (canInForce s n 9 = 1)

/-- The port takes part in bus traffic and may send (R497, R501); outside the conditions of R498 whether it does is unpredictable.
DESIGN CHOICE, log entry 10; DEDUCED, log entry 27. -/
def canSends (s : State) (n : Fin 4) : Bool :=
  (decide (s.can[n].phase = .errorActive) || decide (s.can[n].phase = .errorPassive)) && (canTimingOk s n || Config.freeBool 498 s.freeCtr)

/-- A frame that fails the bit check whenever the port sends it (R499): a data phase above 2 Mbit/s without compensation. -/
def canFails (s : State) (n : Fin 4) (f : CanFrame) : Bool := !f.classical && f.brs && decide (canData s n < 40) && !canTdc s n

/-- Bus monitoring mode in force (R497). -/
def canMonitor (s : State) (n : Fin 4) : Bool := decide (canInForce s n 0 = 1)

/-- A stopped port starts when the conditions of R501 hold; its first heartbeat will carry 0x00 (R518).
DEDUCED, log entry 56. -/
def canStart (n : Fin 4) (s : State) : State :=
  if s.can[n].phase.stopped && !s.can[n].disabling then
    if canShouldRun s n then modCan n (fun c => { c with phase := .starting, hbCnt := 0, tec := 0, rec_ := 0 }) s
    else modCan n (fun c => { c with phase := if s.canEn n && poweredOutputs s && !canClock s then .noClock else .disabled }) s
  else s

/-- All four ports start as far as R501 lets them. -/
def canStartAll (s : State) : State := (allFin 4).foldl (fun a n => canStart n a) s

/-- The queued frames of a port are dropped and counted (R502, R503, R91). DEDUCED, log entry 65. -/
def canDrop (n : Fin 4) (s : State) : State :=
  modCan n (fun c => { c with txDrop := satAdd max32 c.txDrop c.txQueue.length, txQueue := [] }) s

/-- The port stops: frames dropped, an open block transfer discarded without a response (R502, R514), the requests not served with
it. DEDUCED, log entry 65. -/
def canStop (n : Fin 4) (ph : CanPhase) (s : State) : State :=
  modCan n (fun c => { c with phase := ph, disabling := false, transfer := .none, waiting := [], rxQueue := [] }) (canDrop n s)

/-- The event source of a CAN port (R485). -/
def canEvent (n : Fin 4) (s : State) : State := eventEdge (36 + n) s

/-- The oldest queued frame, which is on the wire, ends: sent, with the delay measured in its data phase (R499), or failed in its
bit check, so that it stays the oldest. DEDUCED, log entry 80; DESIGN CHOICE, log entry 11. -/
def canWireEnd (n : Fin 4) (s : State) : State :=
  match s.can[n].txQueue with
  | [] => s
  | f :: l =>
    if canFails s n f then s
    else useFree (modCan n (fun x => { x with
      txQueue := l, txCnt := satAdd max32 x.txCnt 1
      tdcVal := if !f.classical && f.brs && canTdc s n then Config.free 499 s.freeCtr % 256 else x.tdcVal }) s)

/-- The port takes a frame to send: it can send and no disable of it runs (R43, R502). -/
def canAccepts (s : State) (n : Fin 4) : Bool := canSends s n && !s.can[n].disabling

/-- Queue a frame; a port that cannot send, or whose disable runs, drops and counts it (R43, R502, R503, R525).
DEDUCED, log entry 80. -/
def canSend (n : Fin 4) (f : CanFrame) (s : State) : State :=
  if canAccepts s n then modCan n (fun c => { c with txQueue := c.txQueue ++ [f] }) s
  else modCan n (fun c => { c with txDrop := satAdd max32 c.txDrop 1 }) s

/-- The least CAN FD data length that holds `n` bytes (R509, R520). -/
def fdLen (n : Nat) : Nat :=
  if n ≤ 8 then n else if n ≤ 12 then 12 else if n ≤ 16 then 16 else if n ≤ 20 then 20
  else if n ≤ 24 then 24 else if n ≤ 32 then 32 else if n ≤ 48 then 48 else 64

/-- Bytes padded with 0x00 to a CAN FD data length. -/
def fdPad (l : List Byte) : List Byte := l ++ List.replicate (fdLen l.length - l.length) 0

/-- A CAN FD frame of the port at an offset from its base identifier (R504, R509). -/
def fdFrame (s : State) (n : Fin 4) (ofs : Nat) (l : List Byte) : CanFrame :=
  ⟨s.can[n].base + ofs, false, s.canBrs n, decide (s.can[n].phase = .errorPassive), fdPad l⟩

/-! ### Responses (R508, R526, R530) -/

/-- The 32-bit abort codes (R526, R530). -/
def AbortCode.num : AbortCode → Nat
  | .malformed => 0x51010001 | .transferTimeout => 0x51010002 | .transferReplaced => 0x51010003 | .noTransfer => 0x51010004
  | .writeOnly => 0x51020001 | .readOnly => 0x51020002 | .role => 0x51020003 | .noObject => 0x51020004 | .mapping => 0x51020005
  | .length => 0x51030001 | .tooLong => 0x51030002
  | .busy => 0x51040001 | .state => 0x51040002 | .storeFail => 0x51040003
  | .xbearMismatch => 0x51050001 | .xbearTimeout => 0x51050002 | .xbearFull => 0x51050003 | .xbearReplaced => 0x51050004
  | .image n => 0x51060001 + n.val

/-- `CMD` bytes of requests (R507). -/
abbrev cmdRead : Nat := 0x01
abbrev cmdWrite : Nat := 0x02
abbrev cmdBlockRead : Nat := 0x11
abbrev cmdBlockWrite : Nat := 0x12
abbrev cmdSegment : Nat := 0x13
abbrev cmdBlockRequest : Nat := 0x14

/-- A response frame (R508) with its result and data. -/
def response (cmd tag idx sub result : Nat) (data : List Byte) : List Byte :=
  leBytes 1 cmd ++ leBytes 1 tag ++ leBytes 2 idx ++ leBytes 1 sub ++ leBytes 1 result ++ leBytes 1 data.length ++ [0] ++ data

/-- An abort sent on CAN port `n` is counted and kept (R526); one that the port drops is not sent. -/
def countAbort (n : Fin 4) (c : AbortCode) (s : State) : State :=
  if canAccepts s n then modCan n (fun p => { p with abortCnt := satAdd max32 p.abortCnt 1, lastAbort := c.num }) s else s

/-- Port `n` sends the response `w` with outcome `a` (R508, R509); no outcome yet: the response waits.
DEDUCED, log entries 26 and 80. -/
def respond (n : Fin 4) (w : PendResp) (a : Ack) (s : State) : State :=
  let put (r : Nat) (d : List Byte) (s : State) : State := canSend n (fdFrame s n 1 (response w.cmd w.tag w.idx w.sub r d)) s
  match a with
  | .none => modCan n (fun p => { p with waiting := p.waiting ++ [w] }) s
  | .done => put 0 w.data s
  | .value b => put 0 b s
  | .pending => put 2 [] s
  | .abort c => put 1 (leBytes 4 c.num) (countAbort n c s)

/-! ### The end of an update (R536) -/

/-- The acknowledges of image blocks that wait at a port (R534). -/
def isImageWait (w : PendResp) : Bool := decide (w.cmd = 0x95 ∧ w.idx = 0x2E00 ∧ w.sub = 2)

/-- An update ends with acknowledges of image blocks still waiting at its port: they are answered with STATE. DEDUCED, log
entry 68. -/
def imageAcksEnd (s : State) : State :=
  match fin? 4 s.update.port.val with
  | none => s
  | some n => (s.can[n].waiting.filter isImageWait).foldl (fun a w => respond n w (.abort .state) a)
      (modCan n (fun c => { c with waiting := c.waiting.filter fun w => !isImageWait w }) s)

/-- An unfinished update is stopped (R536): the bank stays as it is and `UPD_STATE` returns to IDLE. -/
def updStop (s : State) : State :=
  match s.update.phase with
  | .wiping | .receiving => eventEdge 35 (imageAcksEnd { s with update := { s.update with phase := .idle, header := [], got := [], written := 0 } })
  | _ => s

/-- The update's port is disabled, goes bus-off or loses its transfer (R536). DEDUCED, log entry 24. -/
def updPortLost (p : Port) (s : State) : State :=
  if s.update.port = p then updStop s else s

/-- The disable of a port reaches its boundary (R502): the frame on the wire has completed, the others are dropped and an update
through the port ends (R536); a held enable takes effect (R44). -/
def canDisabled (n : Fin 4) (s : State) : State :=
  if !s.can[n].disabling then s else
    let s1 := updPortLost (portOfCan n) (canStop n .disabled (canWireEnd n s))
    if s.can[n].enHeld then canStart n (canTake n (modCan n (fun c => { c with enHeld := false }) s1)) else s1

end Sys2Proof.Machine
end

