-- ==== Sys2Proof/Machine/Clock.lean ====
section
/-! DEFINITION. The commands of the engines' lockstep and the clock monitors (R14, R22 to R24). -/

namespace Sys2Proof.Machine

/-- SYS runs (R88): not in PARK, OFF, power-on reset or hold-up. -/
def sysRuns (s : State) : Bool :=
  decide (s.boot.phase ≠ .porHeld) && decide (s.boot.phase ≠ .holdUp) && decide (s.pwr.state ≠ .park) && decide (s.pwr.state ≠ .off)

/-- Change the clock status. -/
def modClk (f : ClockState → ClockState) (s : State) : State := { s with clk := f s.clk }

/-- A clock monitor trips (`CLK_FAIL_CNT`, R46). -/
def clkTrip (s : State) : State := modClk (fun c => { c with failCnt := satAdd max16 c.failCnt 1 }) s

/-- LOCKSTEP_MISMATCH (R14): class A; its full reset follows whatever `LOG_A_RESET` holds (R454). -/
def execLockstepMismatch (word : Nat) (s : State) : Res :=
  .next (if sysRuns s then classA .lockstep 0 0 word s else s)

/-- SYS_CLOCK_CHECK (R22): a measurement more than 6 % from 100 MHz. -/
def execSysClockCheck (kHz : Nat) (s : State) : Res :=
  .next (if sysRuns s && (decide (kHz < 94000) || decide (106000 < kHz)) then classA .sysClkFail 0 0 kHz (clkTrip s) else s)

/-- RSYS_CLOCK_CHECK (R23): a measurement more than 3 % from 100 MHz is a class A fault on the die; it trips once and
persists while the deviation does (R452). DEDUCED, log entry 55. -/
def execRsysClockCheck (k : Fin 7) (kHz : Nat) (s : State) : Res :=
  if !diePresent s k then .fault .absentInPart
  else if !sysRuns s then .next s
  else
    let bad := decide (kHz < 97000) || decide (103000 < kHz)
    let s1 := modDie k (fun d => { d with rsysBad := bad }) s
    .next (if bad && !s.dies[k].rsysBad then classA .rsysClkFail (k + 1) (k + 1) kHz (clkTrip s1) else s1)

/-- A port loses its clock (R24): held disabled, its queued frames dropped. DEDUCED, log entry 56. -/
def canClockLost (n : Fin 4) (s : State) : State :=
  if s.can[n].phase.stopped then canStart n s
  else updPortLost (portOfCan n) (canStop n (if s.canEn n then .noClock else .disabled) s)

/-- Crystal or CAN PLL fails (R24): all four ports are held disabled and CLK_CAN_FAIL is logged. -/
def canClockFail (f : ClockState → ClockState) (s : State) : State :=
  let s1 := (allFin 4).foldl (fun a n => canClockLost n a) (clkTrip (modClk f s))
  logFault .clkCanFail 0 0 (clkStatus s1) s1

/-- CRYSTAL_START_TIMEOUT (R24). DEDUCED, log entry 18. -/
def execCrystalStartTimeout (s : State) : Res :=
  .next (if sysRuns s then canClockFail (fun c => { c with xtalOk := false, canLock := false }) s else s)

/-- CAN_PLL_LOCK_LOSS (R24): `XTAL_OK` goes low with the lock. -/
def execCanPllLockLoss (s : State) : Res :=
  .next (if sysRuns s then canClockFail (fun c => { c with canLock := false, xtalOk := false }) s else s)

/-- CAN_CLOCK_GOOD (R24): the ports may start. -/
def execCanClockGood (s : State) : Res :=
  .next (if sysRuns s then canStartAll (modClk (fun c => { c with xtalOk := true, canLock := true }) s) else s)

end Sys2Proof.Machine
end

