-- ==== Sys2Proof/Machine/Hamper.lean ====
section
/-! DEFINITION. The Hamper: partitions R26, R27, the wheel R28, ECC R30, scrub R31, first-error capture R456. -/

namespace Sys2Proof.Machine

/-- Change the Hamper. -/
def modHamper (f : HamperState → HamperState) (s : State) : State := { s with hamper := f s.hamper }

/-- The partition an offset lies in (R26, R27); mirrors of absent dies are unused, and past 512 KiB nothing exists. -/
def partitionOf (s : State) (a : Nat) : Option Partition :=
  if a < 0x4000 then some .secure
  else if a < 0x14000 then some .logRing
  else if a < 0x2C000 then (fin? 6 ((a - 0x14000) / 0x4000)).map .portQueue
  else if a < 0x48000 then ((fin? 7 ((a - 0x2C000) / 0x4000)).filter (diePresent s)).map .mirror
  else if a < 0x58000 then some .staging
  else if a < 0x68000 then some .telemetry
  else if a < 0x80000 then some .engineWork
  else none

/-- A helm die engine's requester (R26). -/
def helmEngine : HamperMaster → Bool
  | .supervisor | .network | .pack => true
  | _ => false

/-- The requester is the port that owns a queue (R27). -/
def ownsQueue (m : HamperMaster) (p : Fin 6) : Bool :=
  match m with
  | .canPort n => decide (n.val = p.val)
  | .twPort n => decide (4 + n.val = p.val)
  | _ => false

/-- A requester may write a partition (R26). -/
def mayWrite (m : HamperMaster) : Partition → Bool
  | .secure => decide (m = .supervisor) || decide (m = .network)
  | .logRing => decide (m = .logbook) || decide (m = .supervisor)
  | .portQueue p => ownsQueue m p || decide (m = .network)
  | .mirror _ => (match m with | .linkHub _ => true | _ => false) || decide (m = .supervisor)
  | .staging => decide (m = .network)
  | .telemetry => decide (m = .hkConv) || helmEngine m
  | .engineWork => helmEngine m

/-- A requester may read a partition (R26); rail die engines read through the link hub. -/
def mayRead (m : HamperMaster) : Partition → Bool
  | .secure => decide (m = .supervisor) || decide (m = .network)
  | .logRing => helmEngine m || (match m with | .linkHub _ => true | _ => false) || decide (m = .mramIf) || decide (m = .holdUp)
  | .portQueue p => ownsQueue m p || decide (m = .network)
  | .mirror _ => helmEngine m || (match m with | .linkHub _ => true | _ => false) || decide (m = .holdUp)
  | .staging => decide (m = .network) || decide (m = .mramIf)
  | .telemetry => helmEngine m || decide (m = .holdUp)
  | .engineWork => helmEngine m || decide (m = .mramIf) || decide (m = .holdUp)

/-- The access is inside the requester's partitions; the scrub reads and corrects every word (R31). -/
def accessAllowed (s : State) (q : HamperReq) : Bool :=
  match partitionOf s q.offset with
  | none => false
  | some p => if q.master = .scrub then true else if q.write then mayWrite q.master p else mayRead q.master p

/-- Fabric master codes (R456). -/
def masterCode : HamperMaster → Nat
  | .supervisor => 0x01 | .network => 0x02 | .pack => 0x03 | .mramIf => 0x04 | .canPort n => 0x05 + n
  | .twPort n => 0x09 + n | .hkConv => 0x0B | .logbook => 0x0C | .scrub => 0x0D | .holdUp => 0x0E | .linkHub k => 0x11 + k

/-- First-error capture (R456): the first fabric error fills it, later ones are counted. DEDUCED, log entry 73. -/
def fabCapture (addr master typ : Nat) (s : State) : State :=
  if s.fab.valid then { s with fab := { s.fab with cnt := satAdd max32 s.fab.cnt 1 } }
  else { s with fab := { s.fab with valid := true, addr := addr, master := master, typ := typ, time := s.devTime } }

/-- A requester of a wheel position (R28). -/
def slotOwner (p : Nat) (m : HamperMaster) : Bool :=
  match m with
  | .linkHub _ => decide (p % 5 = 0)
  | .supervisor => decide (p = 1 ∨ p = 11)
  | .network => decide (p = 3 ∨ p = 13)
  | .mramIf => decide (p = 4 ∨ p = 14)
  | .pack => decide (p = 8)
  | .hkConv => decide (p = 9)
  | .logbook => decide (p = 18)
  | .scrub => decide (p = 19)
  | .canPort n => decide (p = [2, 6, 12, 16].getD n.val 20)
  | .twPort n => decide (p = [7, 17].getD n.val 20)
  | .holdUp => false

/-- The pending access that is granted (R28): the owner's of the present position, else that of the next position, in
order, whose owner has one. In hold-up only the save is served (R29). -/
def granted (s : State) (reqs : List HamperReq) : Option HamperReq :=
  if s.boot.phase = .holdUp then reqs.find? fun q => decide (q.master = .holdUp)
  else (List.range 20).findSome? fun i => reqs.find? fun q => slotOwner ((s.hamper.wheelSlot.val + i) % 20) q.master

/-- Offset of the 64-bit word that holds a byte: an access at an offset that is no multiple of 8 acts on that word (R25).
DESIGN CHOICE, log entry 38. -/
def wordBase (a : Nat) : Nat := a / 8 * 8

/-- The 64-bit word at an offset, lowest byte at the lowest offset. The manual does not say where in the secure partition the
unit key lies nor its length: while it is loaded, a word of the partition is free. DESIGN CHOICE, log entries 37 and 38. -/
def hamperWord (s : State) (a : Nat) : Nat :=
  if s.nv.keyLoaded && decide (a < 0x4000) then Config.free (0x39500 + wordBase a) s.freeCtr % 2 ^ 64
  else leNat (Memory.getBytes s.hamper.mem (wordBase a) 8)

/-- The wheel moves on by one SYS cycle. -/
def wheelNext (w : Fin 20) : Fin 20 := ⟨(w.val + 1) % 20, Nat.mod_lt _ (by omega)⟩

/-- An uncorrectable word (R30): zero returned with an error indication, counted, captured and logged, class B. -/
def hamperDed (master offset : Nat) (s : State) : State :=
  logFault .hamperDed 0 0 offset (fabCapture offset master 8
    (modHamper (fun h => { h with dedCnt := satAdd max16 h.dedCnt 1 }) s))

/-- The offset lies in the reserved region of the MRAM (R366). -/
def mramReserved (a : Nat) : Bool := decide (0xD8000 ≤ a ∧ a ≤ 0xFFFFF)

/-- The access type of a blocked access (R456): a write of the MRAM interface in the reserved region of the MRAM has the MRAM for its
target (R366). DEDUCED, log entry 73. -/
def blockedType (q : HamperReq) : Nat :=
  bit q.write + 2 * bit (q.write && decide (q.master = .mramIf) && mramReserved q.offset)

/-- What a Logbook entry reports besides itself: a FABRIC_ERR is a fabric error of its master at its address (R456); read or write and
target are free but for the reserved region of the MRAM, where only a write is refused (R366). DEDUCED, log entry 73. -/
def fabReported (code : FaultCode) (src detail : Nat) (s : State) : State :=
  if code = .fabricErr then fabCapture detail src (if mramReserved detail then 3 else Config.free 456 s.freeCtr % 6) s else s

/-- The granted access (R26, R30). DESIGN CHOICE, log entry 38. -/
def hamperGrant (q : HamperReq) (ecc : EccFind) (s : State) : State :=
  let s1 := modHamper (fun h => { h with lastGrant := some q, lastData := 0, lastBlocked := false, lastEccErr := false }) s
  if !accessAllowed s q then
    logFault .fabricErr 0 (masterCode q.master) q.offset (fabCapture q.offset (masterCode q.master) (blockedType q)
      (modHamper (fun h => { h with lastBlocked := true }) s1))
  else if q.write then
    modHamper (fun h => { h with mem := Memory.putBytes h.mem (wordBase q.offset) (leBytes 8 q.data) }) s1
  else
    match ecc with
    | .clean => modHamper (fun h => { h with lastData := hamperWord s q.offset }) s1
    | .single => modHamper (fun h => { h with
        lastData := hamperWord s q.offset, secCnt := satAdd max32 h.secCnt 1,
        correctPend := h.correctPend ++ [wordBase q.offset] }) s1
    | .double => hamperDed (masterCode q.master) q.offset (modHamper (fun h => { h with lastEccErr := true }) s1)

/-- HAMPER_ACCESS (R26, R28 to R30): one SYS cycle of the wheel over the accesses that wait. DESIGN CHOICE, log entry 78. -/
def execHamperAccess (reqs : List HamperReq) (ecc : EccFind) (s : State) : Res :=
  if !sysRuns s && decide (s.boot.phase ≠ .holdUp) then .next s else
    let s1 := modHamper (fun h => { h with wheelSlot := wheelNext h.wheelSlot }) s
    match granted s reqs with
    | none => .next s1
    | some q => .next (useFree (hamperGrant q ecc s1))

/-- BACKGROUND_SCRUB (R30, R31): words that wait are corrected in place, and the next word is read and corrected;
`HAMPER_SCRUB_PASS` saturates. DEDUCED, log entry 39. -/
def execBackgroundScrub (ecc : EccFind) (s : State) : Res :=
  if !sysRuns s then .next s else
    let p := s.hamper.scrubPtr
    let s1 := modHamper (fun h => { h with
      correctPend := [], scrubPtr := (p + 1) % 65536,
      scrubPass := if p + 1 = 65536 then satAdd max32 h.scrubPass 1 else h.scrubPass }) s
    match ecc with
    | .clean => .next s1
    | .single => .next (modHamper (fun h => { h with secCnt := satAdd max32 h.secCnt 1 }) s1)
    | .double => .next (hamperDed (masterCode .scrub) (8 * p) s1)

end Sys2Proof.Machine
end

