-- ==== Sys2Proof/Machine/Loop.lean ====
section
/-! DEFINITION. The commands of chapter 06: loop commit, rotation epochs, current balance, ganging, period boundary. -/

namespace Sys2Proof.Machine

/-- LOOP_COMMIT (R160): the four written coefficients take effect together; I and U are kept. -/
def loopCommitOp (r : Fin 28) (s : State) : State :=
  modLoop r (fun l => { l with
    co := ⟨s.loopKp r, s.loopKi r, s.loopKd r, s.loopPole r⟩, pend := false }) s

def execLoopCommit (p : Port) (r : Fin 28) (value : Nat) (s : State) : Res :=
  .next (directWrite p (okey (0x3000 + r) 0x09) s fun s => (if value = 1 then loopCommitOp r s else s, .done))

/-- Start the handshake of R183 on group `g`; one change runs at a time. DEDUCED, log entry 46. -/
def gangRequest (g : Fin 4) (c : GangChange) (s : State) : State :=
  if s.gangs[g].phase = .formed && s.gangs[g].change = none then
    modGang g (fun x => { x with change := some c, waiting := followers s g, epochDue := false }) s
  else s

/-- The first change that a ganged rail still wants is sent to the followers: a setting that differs from what is in force on the
group (R183, R190, R264), then a shed whose dwell has ended (R216). DEDUCED, log entry 46. -/
def gangSettings (g : Fin 4) (s : State) : State :=
  match gangRail s g with
  | none => s
  | some r =>
    if s.rails[r].loop.strideSet ≠ s.rotStride r then gangRequest g (.stride (s.rotStride r)) s
    else if s.rails[r].loop.rotOn ≠ s.rotEn r then gangRequest g (.rotEn (s.rotEn r)) s
    else if s.gangs[g].valley ≠ valleyTarget s r ∨ s.gangs[g].tot ≠ s.ocTot r then
      gangRequest g (.limits (valleyTarget s r) (s.ocTot r)) s
    else match s.rails[r].dyn.shedDue, (activePhases s r).getLast? with
      | true, some ph => gangRequest g (.shed ph) s
      | _, _ => s

/-- Apply a change of a ganged rail at its epoch (R183, R216, R264), every die setting its L to 0; no phase of a station-kept rail
leaves (R114). DEDUCED, log entry 46. -/
def applyGangChange (g : Fin 4) (r : Fin 28) (c : GangChange) (s : State) : State :=
  let s1 := (gangDies s g).foldl (fun a k => modDie k (fun d => { d with pendChange := none, ownLead := 0 }) a)
    (modGang g (fun x => { x with change := none, waiting := [], epochDue := false }) s)
  gangSettings g <| match c with
  | .shed ph => if s.rails[r].stationKept then s1 else epoch r (modDyn r (fun d => { d with shedDue := false }) (modPhase ph (fun p => { p with run := .leaving, leaveCnt := 0 }) s1))
  | .stride st => epochWith r st s.rails[r].loop.rotOn s1
  | .rotEn b => epochWith r s.rails[r].loop.strideSet b s1
  | .limits v t => epoch r (modGang g (fun x => { x with valley := v, tot := t }) s1)

/-- The settings that take effect at every period boundary (R190, R238), the boundary of a step alarm disable (R237). -/
def boundarySettings (r : Fin 28) (s : State) : State :=
  modRail r (fun x => { x with
    loop := { x.loop with dmax := s.railDmax r },
    dyn := { x.dyn with
      stepThr := s.stepThr r, stepTmax := s.stepTmax r,
      stepDisabling := x.dyn.stepDisabling && x.dyn.stepAlarm,
      stepBndry := x.dyn.stepDisabling && x.dyn.stepAlarm } }) s

/-- The phase at a position of the firing order (R171). DEDUCED, log entry 48. -/
def phaseAt (s : State) (r : Fin 28) (j : Nat) : Option (Fin 56) := (runningPhases s r)[j]?

/-- I_p of R168 in mA from a period average of V_IMON in µV. DEDUCED, log entry 45. -/
def phaseCurrent (p : PhaseState) (uv : Nat) : Int := (((uv : Int) - (p.ofs : Int) * 1000) * 1000) / (p.gain : Int)

/-- The current of the phases of rail `r` on die `k` in one SNS cycle; on a ganged rail × N ÷ N_die (R161, R253).
DEDUCED, log entry 45. -/
def dieCurrent (s : State) (r : Fin 28) (k : Fin 7) (imon : List Nat) : Int :=
  let sum := (((railPhases s r).zip imon).filter fun x => decide (phaseDie x.1 = k)).foldl (fun a x => a + phaseCurrent s.phases[x.1] x.2) 0
  match gangOfRail s r with
  | some _ =>
    let n := (activePhases s r).length
    let nl := ((activePhases s r).filter fun ph => decide (phaseDie ph = k)).length
    if nl = 0 then sum else divHalfUpI (sum * n) nl
  | none => sum

/-- One SNS cycle of the first-order filter of R161: 1 µs is 50 cycles, and 1 − e^(−1/50) is 1298 ÷ 65536.
DESIGN CHOICE, log entry 84. -/
def filterStep (y x : Int) : Int := y + ((x * 65536 - y) * 1298 + 32768) / 65536

/-- `OC_TOT` in force in mA: on a ganged rail the copy that the last handshake left (R264). -/
def ocLimitOf (s : State) (r : Fin 28) : Int :=
  match gangOfRail s r with
  | some g => (s.gangs[g].tot : Int) * 1000
  | none => (s.ocTot r : Int) * 1000

/-- The total over-current condition of the lead die or the rail's own die in this SNS cycle (R248). -/
def ocRefresh (r : Fin 28) (s : State) : State :=
  let c := decide (ocLimitOf s r < railMa s r)
  if c = s.rails[r].prot.ocCond then s else modProt r (fun p => { p with ocCond := c }) s

/-- The tracking over-voltage comparison of one sense code (R243): at or above 512 + `OV_TRK_OFS` ÷ 0.15625 mV. -/
def trackOver (s : State) (r : Fin 28) (code : Nat) : Bool := decide (32 * (s.ovTrkOfs r : Int) ≤ 5 * ((code : Int) - 512))

/-- Tracking over-voltage is armed (R241): in RUN, from the first pulse after enable until the off sequence ends. -/
def trackArmed (s : State) (r : Fin 28) : Bool := dieArmed s && s.rails[r].enabled && s.rails[r].pulsed

/-- A shutdown ramp that has reached 0 V ends the off sequence (R270). -/
def rampEnd (r : Fin 28) (s : State) : State :=
  if s.rails[r].disabling && s.rails[r].dyn.rampDown && !s.rails[r].dyn.moving then seqSettle (railOffDone r s) else s

/-- One SNS cycle of a rail: the filtered current and what depends on it (R249, R256, R261), the loop (R158), V_SP (R197), and the tracking comparison
of the sample's code (R243). -/
def snsCycle (r : Fin 28) (m : SnsMeas) (s : State) : State :=
  let s1 := modLoop r (fun l => { l with iFilt := filterStep l.iFilt (dieCurrent s r (railDie r) m.imon) }) s
  let s2 := if dieArmed s then ignoreClear r (pgRefresh r (ocStart r (ocRefresh r s1))) else s1
  let s3 := loopSample r m.vsense s2
  let s4 := rampEnd r (slewSample r s3)
  if trackArmed s3 r && !s3.rails[r].prot.ovLatch && trackOver s3 r s3.rails[r].loop.code then ovTrip r 1 s4 else s4

/-- The rising edge of a phase at its slot (R165 to R167): it latches D from the last demand, in the three periods after it became
LEAVING 3/4, 1/2 and 1/4 of it and then none (R217); none in a period in which its pulse is withheld (R251); nothing is latched
while the step alarm holds it high (R213) or its die's hold has ended (R186). The demand counts as arrived with its sample.
DESIGN CHOICE, log entry 84. -/
def slotFire (r : Fin 28) (ph : Fin 56) (s : State) : State :=
  let p := s.phases[ph]
  if !s.rails[r].enabled || s.rails[r].dyn.stepAlarm || decide (p.run = .shed)
    || ((gangOfRail s r).isSome && s.dies[phaseDie ph].held) then s
  else
    let d := if p.withheld then 0
      else if p.run = .leaving then onTime s r ph * (3 - (min 3 p.leaveCnt : Nat)) / 4 else onTime s r ph
    let out := decide (onMinD ≤ d)
    let s1 := modPhase ph (fun p => { p with
      onTime := d, dither := if p.pulses % 32 = 0 then s.ditherEn r else p.dither
      pulses := if out then (p.pulses + 1) % 32 else p.pulses, pulsed := p.pulsed || out }) s
    if out then modRail r (fun x => { x with pulsed := true }) s1 else s1

/-- The slots of a period in order: native tick and phase (R164, R171). -/
def periodSlots (s : State) (r : Fin 28) : List (Nat × Fin 56) :=
  let ord := runningPhases s r
  (List.range ord.length).filterMap fun i =>
    (ord[(i + s.rails[r].loop.lead) % ord.length]?).map fun ph => (slotStart ord.length (periodTicks s r) i, ph)

/-- The SNS cycles and the slots of a period in the order of time: cycle `i` starts 16 × i native ticks after the period.
DESIGN CHOICE, log entry 84. -/
def runPeriod (r : Fin 28) : Nat → List SnsMeas → List (Nat × Fin 56) → State → State
  | _, [], sl, s => sl.foldl (fun a x => slotFire r x.2 a) s
  | i, m :: ms, sl, s =>
    runPeriod r (i + 1) ms (sl.dropWhile fun x => decide (x.1 < 16 * (i + 1)))
      ((sl.takeWhile fun x => decide (x.1 < 16 * (i + 1))).foldl (fun a x => slotFire r x.2 a) (snsCycle r m s))

/-- The average of V_IMON of the phase at index `j` of the rail over the period. -/
def imonMean (m : List SnsMeas) (j : Nat) : Option Nat :=
  let l := m.filterMap fun x => x.imon[j]?
  if l = [] then none else some (l.sum / l.length)

/-- The period's current averages reach `PH_I` and the balance accumulators (R168, R169). -/
def takeCurrents (r : Fin 28) (m : List SnsMeas) (s : State) : State :=
  (railPhases s r).zipIdx.foldl (fun a x => match imonMean m x.2 with
    | none => a
    | some uv => modPhase x.1 (fun p =>
      let i := phaseCurrent p uv
      { p with iAvg := i, balSum := p.balSum + i, balNum := p.balNum + 1 }) a) s

/-- The output voltage in whole mV, cut, after `RAIL_DIV` of a sense voltage in reference units (R154). DESIGN CHOICE,
log entry 14. -/
def outMv (s : State) (r : Fin 28) (v : Nat) : Nat := v * s.railDiv r * 5 / (32 * 4096)

/-- The switching period that ends (R157 to R168): its SNS cycles and slots; the phase at position L took slot 0 (R193); every LEAVING
phase has one more period behind it (R217), and the next period judges the valley afresh (R251). -/
def endPeriod (r : Fin 28) (m : List SnsMeas) (s : State) : State :=
  let s1 := match s.rails[r].enabled, phaseAt s r s.rails[r].loop.lead with
    | true, some ph => modPhase ph (fun p => { p with leadCnt := satAdd max32 p.leadCnt 1 }) s
    | _, _ => s
  let s2 := takeCurrents r m (runPeriod r 0 m (if s.rails[r].enabled then periodSlots s r else []) s1)
  let s3 := match m.getLast? with
    | some x => modRail r (fun y => { y with vout := outMv s r x.vsense }) s2
    | none => s2
  (railPhases s3 r).foldl (fun a ph => modPhase ph (fun p => { p with
    withheld := false, leaveCnt := if p.run = .leaving then p.leaveCnt + 1 else 0 }) a) s3

/-- L of the rail, and of every follower on its own, advances by the effective stride (R171); the periods since the last epoch are
counted (R173). -/
def advanceLead (r : Fin 28) (s : State) : State :=
  let n := railN s r
  let l := s.rails[r].loop
  let turn := fun x : Nat => if l.rotOn && decide (2 ≤ n) then (x + l.stride) % n else x
  let s1 := modLoop r (fun l => { l with lead := turn l.lead, epochCnt := l.epochCnt + 1 }) s
  match gangOfRail s r with
  | some g => (followers s g).foldl (fun a k => modDie k (fun d => { d with ownLead := turn d.ownLead }) a) s1
  | none => s1

/-- A re-add epoch (R222, R223): every SHED phase returns to ACTIVE with a LEAVING one that a follower still had, L to 0; a pending
change of the group is discarded, and not asked again by itself: DEDUCED, log entry 46. Kept phases and a discarded shed are counted
(R225). -/
def readdEpochOp (r : Fin 28) (s : State) : State :=
  let n := (leavingPhases s r).length + bit (shedAsked s r)
  let s1 := (railPhases s r).foldl (fun a ph => phaseBack ph a) s
  let s2 := match gangOfRail s r with | some g => dropGangChange g s1 | none => s1
  epoch r (modDyn r (fun d => { d with
    readdPend := false, shedDue := false, readdCnt := satAdd max32 d.readdCnt 1, phmDisabling := false
    keepCnt := satAdd max32 d.keepCnt n }) s2)

/-- LEAVING phases at the end of their fourth period (R217 to R219): SHED with an epoch, or kept when R218 forbids it. -/
def shedEnd (r : Fin 28) (lv : List (Fin 56)) (s : State) : State :=
  let d := s.rails[r].dyn
  if !d.stepAlarm && !d.readdPend && !d.holdoff && !s.rails[r].stationKept then
    epoch r (modDyn r (fun d => { d with shedCnt := satAdd max32 d.shedCnt 1, dwellRun := true })
      (lv.foldl (fun a ph => modPhase ph (fun p => { p with run := .shed, leaveCnt := 0 }) a) s))
  else
    modDyn r (fun d => { d with keepCnt := satAdd max32 d.keepCnt lv.length }) (lv.foldl (fun a ph => phaseBack ph a) s)

/-- The LEAVING phases of a rail that have their four periods behind them. -/
def leftPhases (s : State) (r : Fin 28) : List (Fin 56) :=
  (leavingPhases s r).filter fun ph => decide (4 ≤ s.phases[ph].leaveCnt)

/-- A shed whose dwell has ended starts on a rail that is not ganged (R216): the ACTIVE phase with the highest number becomes
LEAVING. -/
def shedBegin (r : Fin 28) (s : State) : State :=
  match s.rails[r].dyn.shedDue, (activePhases s r).getLast? with
  | true, some ph => modDyn r (fun d => { d with shedDue := false }) (modPhase ph (fun p => { p with run := .leaving, leaveCnt := 0 }) s)
  | _, _ => s

/-- What a period boundary of an enabled rail does to its phases and L: a pending re-add epoch (R222), else a shed that completes
(R217), the acknowledged change of a ganged group (R183) or the shed of a rail that is not ganged (R216); then the epoch that comes
every N periods (R173). -/
def boundaryPhases (r : Fin 28) (s : State) : State :=
  if s.rails[r].dyn.readdPend then readdEpochOp r s
  else
    let lv := leftPhases s r
    let s1 := if lv = [] then s else shedEnd r lv s
    let s2 := match gangOfRail s1 r with
      | none => shedBegin r s1
      | some g => match s1.gangs[g].epochDue, s1.gangs[g].change with
        | true, some c => applyGangChange g r c s1
        | _, _ => s1
    if railN s2 r ≤ s2.rails[r].loop.epochCnt then epoch r s2 else s2

/-- One switching period and the boundary that ends it. -/
def boundaryOp (r : Fin 28) (m : List SnsMeas) (s : State) : State :=
  let s1 := endPeriod r m s
  if !s1.rails[r].enabled then boundarySettings r s1 else boundarySettings r (boundaryPhases r (advanceLead r s1))

/-- A boundary command of a rail that runs, where `due` holds; elsewhere no such boundary comes. DEDUCED, log entry 7. -/
def atBoundary (r : Fin 28) (due : Bool) (m : List SnsMeas) (s : State) : Res :=
  if !railPresent s r then .fault .absentInPart
  else .next (if dieArmed s && due then boundaryOp r m s else s)

/-- PERIOD_BOUNDARY (R171): the period that ends, then L, the epochs and the boundary settings. DESIGN CHOICE, log entry 4. -/
def execPeriodBoundary (r : Fin 28) (m : List SnsMeas) (s : State) : Res := atBoundary r true m s

/-- The next boundary of the rail is an epoch by the count of periods (R173) or by an acknowledged change (R183). -/
def epochNext (s : State) (r : Fin 28) : Bool :=
  s.rails[r].enabled && (decide (railN s r ≤ s.rails[r].loop.epochCnt + 1)
    || match gangOfRail s r with | some g => s.gangs[g].epochDue | none => false)

/-- ROTATION_EPOCH (R173, R183): the boundary at which L returns to 0 and the pending rotation settings are applied. -/
def execRotationEpoch (r : Fin 28) (m : List SnsMeas) (s : State) : Res := atBoundary r (epochNext s r) m s

/-- Balance is frozen (R169): step alarm active or the rail slews. DEDUCED, log entry 29. -/
def balanceHeld (s : State) (r : Fin 28) : Bool := s.rails[r].dyn.stepAlarm || s.rails[r].dyn.moving

/-- I_p of a phase over the running balance period. -/
def balMean (p : PhaseState) : Rat := if p.balNum = 0 then (p.iAvg : Rat) else (p.balSum : Rat) / (p.balNum : Rat)

/-- The new trim of R169. -/
def trimStep (iAvg : Rat) (db lim : Nat) (p : PhaseState) : Int :=
  let t := if balMean p < iAvg * (1 - (db : Rat) / 1000) then p.trim + 1
    else if iAvg * (1 + (db : Rat) / 1000) < balMean p then p.trim - 1 else p.trim
  clampI (-(lim : Int)) lim t

/-- One step of a trim toward 0 while balance is disabling (R190). -/
def trimToZero (t : Int) : Int := if 0 < t then t - 1 else if t < 0 then t + 1 else 0

/-- The averages of die `k` and I_avg can pass between it and the lead's telemetry engine (R185): the lead itself, or both links UP. -/
def balReaches (s : State) (r : Fin 28) (k : Fin 7) : Bool :=
  decide (k = railDie r) || (decide (s.links[k].phase = .up) && decide (s.links[railDie r].phase = .up))

/-- I_avg of R169: the mean over the balance period of the ACTIVE phases whose averages reach the lead (R185). -/
def balAverage (s : State) (r : Fin 28) : Rat :=
  let act := (activePhases s r).filter fun ph => balReaches s r (phaseDie ph)
  if act = [] then 0 else ((act.map fun ph => balMean s.phases[ph]).foldl (· + ·) 0) / (act.length : Rat)

/-- Balance runs on the rail (R169, R192): enabled, `BAL_EN` set and no disable of it running (R44), and I_rail at least 10 % of
`RAIL_IMAX`. -/
def balActive (s : State) (r : Fin 28) : Bool :=
  s.rails[r].enabled && s.balEn r && !s.rails[r].loop.balDisabling && decide ((s.railImax r : Int) * 100 ≤ railCurrent s r)

/-- I_avg of a ganged rail reaches every die it can reach and ends the freeze there (R185). -/
def balSend (r : Fin 28) (s : State) : State :=
  match gangOfRail s r with
  | none => s
  | some _ =>
    let i := balAverage s r
    ((railDies s r).filter fun k => balReaches s r k).foldl (fun a k => modDie k (fun d => { d with balAvg := i, balFrozen := false }) a) s

/-- The average that a phase is held against (R169): the rail's own, on a ganged rail the last one that its die got (R185). -/
def balHeld (s : State) (r : Fin 28) (iAvg : Rat) (ph : Fin 56) : Rat :=
  if (gangOfRail s r).isSome then s.dies[phaseDie ph].balAvg else iAvg

/-- The die of a phase of a ganged rail has frozen its trims (R185). -/
def balFrozenAt (s : State) (r : Fin 28) (ph : Fin 56) : Bool := (gangOfRail s r).isSome && s.dies[phaseDie ph].balFrozen

/-- The trims of one balance period (R169, R185, R190): a step of each ACTIVE phase from I_avg unless its die has frozen its trims, or
while `BAL_EN` is being cleared a step of each trim toward 0, which no freeze of R169 or R185 and no step alarm (R213) holds.
DEDUCED, log entry 29. -/
def balTrims (r : Fin 28) (s : State) : State :=
  if s.rails[r].loop.balDisabling then
    (railPhases s r).foldl (fun a ph => modPhase ph (fun p => { p with trim := trimToZero p.trim }) a) s
  else if balActive s r && !balanceHeld s r then
    let i := balAverage s r
    ((activePhases s r).filter fun ph => !balFrozenAt s r ph).foldl (fun a ph => modPhase ph (fun p =>
      { p with trim := trimStep (balHeld s r i ph) (s.balDeadband r) (s.balLimit r) p }) a) s
  else s

/-- Every trim of the rail stands at 0: the boundary of a cleared `BAL_EN` (R190). -/
def balanceBoundary (r : Fin 28) (s : State) : State :=
  if (railPhases s r).all (fun ph => decide (s.phases[ph].trim = 0)) then modLoop r (fun l => { l with balDisabling := false }) s else s

/-- BALANCE_UPDATE (R169, R185, R190): I_avg is formed and returned, the trims step, the accumulators restart, and the written
monitor gain and offset take effect. -/
def execBalanceUpdate (r : Fin 28) (s : State) : Res :=
  if !railPresent s r then .fault .absentInPart else
    let s1 := balanceBoundary r (balTrims r (balSend r s))
    .next ((railPhases s r).foldl (fun a ph => modPhase ph (fun p => { p with
      balSum := 0, balNum := 0, gain := s.phImonGain ph, ofs := s.phImonOfs ph }) a) s1)

/-- BALANCE_AVERAGE_TIMEOUT (R185): the die freezes its trims until an I_avg arrives. -/
def execBalanceAverageTimeout (g : Fin 4) (k : Fin 7) (s : State) : Res :=
  if !diePresent s k then .fault .absentInPart else
  .next (if gangStands s g && (gangDies s g).contains k then modDie k (fun d => { d with balFrozen := true }) s else s)

/-- GANG_CHANGE_REQUEST (R183, R264). -/
def execGangChangeRequest (g : Fin 4) (c : GangChange) (s : State) : Res := .next (gangRequest g c s)

/-- GANG_CHANGE_ACK (R183): the follower holds the change as pending; when all have, the next boundary is an epoch. -/
def execGangChangeAck (g : Fin 4) (k : Fin 7) (s : State) : Res :=
  if !diePresent s k then .fault .absentInPart
  else if !(s.gangs[g].waiting.contains k) then .next s
  else
    let w := s.gangs[g].waiting.filter fun j => decide (j ≠ k)
    .next (modGang g (fun x => { x with waiting := w, epochDue := w.isEmpty })
      (modDie k (fun d => { d with pendChange := s.gangs[g].change }) s))

/-- A shed that waited behind an abandoned change is requested (R216); one that was abandoned itself is not. -/
def shedAgain (r : Fin 28) (g : Fin 4) (asked : Bool) (s : State) : State :=
  if asked then modDyn r (fun d => { d with shedDue := false }) s
  else match s.rails[r].dyn.shedDue, (activePhases s r).getLast? with
    | true, some ph => gangRequest g (.shed ph) s
    | _, _ => s

/-- GANG_ACK_TIMEOUT (R184): abandoned, logged, and the rail's fault reaction applied. The abandoned setting is not asked again by
itself; a shed that waited behind it is (R216). DEDUCED, log entry 46. -/
def execGangAckTimeout (g : Fin 4) (s : State) : Res :=
  if s.gangs[g].waiting.isEmpty then .next s else
    let mask := (s.gangs[g].waiting.map fun k => 2 ^ (k.val + 1)).foldl (· + ·) 0
    let s1 := logFault .gangChgFail 0 g mask (dropGangChange g s)
    .next (match gangRail s g with
      | some r => itemFault (railItem r) .gangChgFail (shedAgain r g (shedAsked s r) s1)
      | none => s1)

/-- The event source of ganged happenings on die `k` (R485). -/
def gangEvent (k : Fin 7) (s : State) : State := dieEvent k 5 s

/-- An epoch at a follower (R182): an own L that is not 0 is set to 0, counted and logged, class C. -/
def followerEpoch (g : Fin 4) (k : Fin 7) (s : State) : State :=
  if s.dies[k].ownLead = 0 then s else
    gangEvent k (logFault .gangRotErr (k + 1) g (k + 1)
      (modGang g (fun x => { x with rotErr := satAdd max16 x.rotErr 1 }) (modDie k (fun d => { d with ownLead := 0 }) s)))

/-- The re-add strobe at a follower (R223): its LEAVING and SHED phases return to ACTIVE, the LEAVING ones counted (R225), and its
pending change is discarded. -/
def followerReadd (g : Fin 4) (k : Fin 7) (s : State) : State :=
  let mine := (diePhases k).filter fun ph => decide (s.phLoop ph = 0)
  let n := (mine.filter fun ph => decide (s.phases[ph].run = .leaving)).length
  let s1 := match gangRail s g with
    | some r => modDyn r (fun d => { d with keepCnt := satAdd max32 d.keepCnt n }) s
    | none => s
  modDie k (fun d => { d with pendChange := none }) (mine.foldl (fun a ph => phaseBack ph a) s1)

/-- A pulse of `ns` on the strobe wire at follower `k`: an epoch from 20 ns (R182), from 40 ns also a re-add epoch (R223). -/
def strobeOp (g : Fin 4) (k : Fin 7) (ns : Nat) (s : State) : State :=
  if ns < 20 || !(followers s g).contains k || !gangStands s g then s
  else followerEpoch g k (if 40 ≤ ns then followerReadd g k s else s)

/-- FOLLOWER_EPOCH_STROBE (R182, R223). -/
def execFollowerEpochStrobe (g : Fin 4) (k : Fin 7) (ns : Nat) (s : State) : Res :=
  if !diePresent s k then .fault .absentInPart else .next (strobeOp g k ns s)

/-- FOLLOWER_READD_STROBE (R223): a pulse of 40 ns or more. -/
def execFollowerReaddStrobe (g : Fin 4) (k : Fin 7) (ns : Nat) (s : State) : Res :=
  if !diePresent s k then .fault .absentInPart
  else .next (if ns < 40 then s else strobeOp g k ns s)

/-- A die starts to hold (R186, R187, R188): once started it does not return. DEDUCED, log entry 46. -/
def startHold (g : Fin 4) (k : Fin 7) (why : Nat) (s : State) : State :=
  if !gangStands s g || !(gangDies s g).contains k || s.dies[k].holding || s.dies[k].held then s else
    gangEvent k (modGang g (fun x => { x with holdCnt := satAdd max16 x.holdCnt 1 })
      (modDie k (fun d => { d with holding := true, holdWhy := why }) s))

/-- SYNC_STROBE_LOSS (R186). -/
def execSyncStrobeLoss (g : Fin 4) (k : Fin 7) (s : State) : Res :=
  if !diePresent s k then .fault .absentInPart
  else .next (if (followers s g).contains k then startHold g k 2 s else s)

/-- FOLLOWER_HOLD_END (R186): the die's phases of the ganged rail go to mid level and GANG_HOLD is raised, class A.
DEDUCED, log entry 46. -/
def execFollowerHoldEnd (g : Fin 4) (k : Fin 7) (s : State) : Res :=
  if !diePresent s k then .fault .absentInPart
  else if !s.dies[k].holding || !(gangDies s g).contains k then .next s
  else
    let s1 := modGang g (fun x => { x with phase := .failed })
      (modDie k (fun d => { d with holding := false, held := true }) s)
    .next (classA .gangHold (k.val + 1) g (k.val + 1 + 256 * s.dies[k].holdWhy) s1)

/-- DEMAND_LANE_FAIL (R39, R186, R188): a follower holds; the lead die does the same on its return path. -/
def execDemandLaneFail (g : Fin 4) (k : Fin 7) (s : State) : Res :=
  if !diePresent s k then .fault .absentInPart else .next (startHold g k 1 s)

/-- LANE_PARITY_ERROR (R181): the last good word stands in for the next lane word; counted. -/
def execLaneParityError (g : Fin 4) (k : Fin 7) (s : State) : Res :=
  if !diePresent s k then .fault .absentInPart else
  .next (if gangStands s g && (gangDies s g).contains k then
    gangEvent k (modGang g (fun x => { x with parCnt := satAdd max32 x.parCnt 1 }) (modDie k (fun d => { d with laneBad := true }) s)) else s)

end Sys2Proof.Machine
end

