-- ==== Sys2Proof/Machine/Dynamics.lean ====
section
/-! DEFINITION. The commands of chapter 07: voltage commands, slew, step alarm, shedding, Forecast hints, bus trim. -/

namespace Sys2Proof.Machine

/-- Bus trim holds `RAIL_VSET` writes off (R203): `TRIM_EN` set on an enabled intermediate-bus rail. -/
def trimHolds (s : State) (r : Fin 28) : Bool := s.trimEn r && s.rails[r].enabled && decide (s.railMode r = 1)

/-- A voltage command by object write or window (R198 to R204): stored in `RAIL_VSET`, sent to the rail's die. -/
def vsetCommand (r : Fin 28) (mv src : Nat) (s : State) : State × Ack :=
  if trimHolds s r then (s, .abort .state) else
    let s1 := s.store (okey (0x3100 + r) 0x01) mv
    (sendCmd (.setTarget r mv (s.railSlew r) src) s1, .done)

/-- RAIL_VSET_WRITE (R198). -/
def execRailVsetWrite (p : Port) (r : Fin 28) (mv : Nat) (s : State) : Res :=
  .next (directWrite p (okey (0x3100 + r) 0x01) s (vsetCommand r mv 2))

/-- SLEW_TARGET_REACHED (R197): V_SP stops at the final target; a shutdown ramp ends the off sequence. -/
def execSlewTargetReached (r : Fin 28) (s : State) : Res :=
  if !railPresent s r then .fault .absentInPart
  else if !s.rails[r].dyn.moving then .next s
  else .next (seqSettle (rampEnd r (slewReached r s)))

/-- TRANSITION_QUALIFIED (R208): V_SP has stood at the final target for t_qual. -/
def execTransitionQualified (r : Fin 28) (s : State) : Res :=
  if !railPresent s r then .fault .absentInPart
  else
    let d := s.rails[r].dyn
    if d.transition && !d.moving && decide (d.vsp = d.target) then
      .next (checkSteps (railEvent r (modDyn r (fun d => { d with transition := false }) s)))
    else .next s

/-- The step alarm is on: `STEP_EN` set and no disable of it running (R44, R237). -/
def stepOn (s : State) (r : Fin 28) : Bool := s.stepEn r && !s.rails[r].dyn.stepDisabling

/-- The running phases of a rail are held high by the step alarm: from the first such pulse they are no longer at mid level (R151,
R212), except those of a die whose hold has ended (R189). -/
def forcedHigh (r : Fin 28) (s : State) : State :=
  (runningPhases s r).foldl (fun a ph => modPhase ph (fun p => { p with pulsed := true }) a) (modRail r (fun x => { x with pulsed := true }) s)

/-- STEP_ALARM_ASSERT (R210 to R214, R114): armed, `STEP_EN` set and not blocked. It is a re-add event and starts the
hold-off unless the rail is station-kept. -/
def execStepAlarmAssert (r : Fin 28) (s : State) : Res :=
  if !railPresent s r then .fault .absentInPart
  else
    let d := s.rails[r].dyn
    if !d.stepArmed || !stepOn s r || d.stepAlarm || d.stepBlocked then .next s else
      let s1 := forcedHigh r (modDyn r (fun d => { d with stepAlarm := true, stepCnt := satAdd max32 d.stepCnt 1 }) s)
      let s2 := if s.rails[r].stationKept then s1
        else modDyn r (fun d => { d with holdoff := true }) (readdEvent r true s1)
      let s3 := match gangOfRail s r with
        | some g => modGang g (fun x => { x with stepLine := true }) s2
        | none => s2
      .next (dieEvent (railDie r) 4 s3)

/-- The step alarm releases: the step line falls, a disable that waited for it completes (R237). -/
def stepRelease (r : Fin 28) (s : State) : State :=
  let s1 := modDyn r (fun d => { d with
    stepAlarm := false, stepDisabling := d.stepDisabling && !d.stepBndry, stepBndry := false }) s
  match gangOfRail s r with
  | some g => modGang g (fun x => { x with stepLine := false }) s1
  | none => s1

/-- STEP_ALARM_RELEASE (R210, R211): V_sense above V_ref − `STEP_THR` ÷ 2 releases the alarm and ends a block. -/
def execStepAlarmRelease (r : Fin 28) (s : State) : Res :=
  if !railPresent s r then .fault .absentInPart
  else .next (modDyn r (fun d => { d with stepBlocked := false }) (if s.rails[r].dyn.stepAlarm then stepRelease r s else s))

/-- STEP_TMAX_EXPIRE (R210, R211). -/
def execStepTmaxExpire (r : Fin 28) (s : State) : Res :=
  if !railPresent s r then .fault .absentInPart
  else if !s.rails[r].dyn.stepAlarm then .next s
  else .next (modDyn r (fun d => { d with stepBlocked := true, tmaxCnt := satAdd max32 d.tmaxCnt 1 }) (stepRelease r s))

/-- A shedding inhibit runs: hold-off or Forecast (R215, R224, R228). -/
def shedInhibit (s : State) (r : Fin 28) : Bool := s.rails[r].dyn.holdoff || !s.rails[r].fc.hints.isEmpty

/-- `PHM_NMIN` as it acts (R240): 1 to the rail's phase count, else unpredictable (R13). DESIGN CHOICE, log entry 10. -/
def phmFloor (s : State) (r : Fin 28) : Nat :=
  let v := s.phmNmin r
  if v ≤ (railPhases s r).length then v else Config.outOfRange (okey (0x3100 + r) 0x10) v s.freeCtr

/-- The six conditions of the dwell timer (R215); none counts while the rail is station-kept (R114). -/
def dwellHolds (s : State) (r : Fin 28) : Bool :=
  let na := (activePhases s r).length
  phmOn s r && s.rails[r].prot.pg
    && decide (railMa s r < (s.phmIShed r : Int) * ((na : Int) - 1))
    && decide (phmFloor s r < na) && (leavingPhases s r).isEmpty
    && !s.rails[r].dyn.moving && !shedInhibit s r && !s.rails[r].stationKept

/-- SHED_DWELL_EXPIRE (R216): one phase is chosen; on a ganged rail the shed is a change under R183. -/
def execShedDwellExpire (r : Fin 28) (s : State) : Res :=
  if !railPresent s r then .fault .absentInPart
  else if !dwellHolds s r || s.rails[r].dyn.shedDue then .next s
  else
    let s1 := modDyn r (fun d => { d with shedDue := true, dwellRun := false }) s
    .next (match gangOfRail s r with | some g => gangSettings g s1 | none => s1)

/-- The next boundary starts a shed (R216): one that waits on a rail that is not ganged, or the acknowledged change of a group. -/
def shedNext (s : State) (r : Fin 28) : Bool :=
  match gangOfRail s r with
  | some g => s.gangs[g].epochDue && shedAsked s r
  | none => s.rails[r].dyn.shedDue

/-- SHED_START (R216): the boundary at which the chosen phase becomes LEAVING. -/
def execShedStart (r : Fin 28) (m : List SnsMeas) (s : State) : Res := atBoundary r (shedNext s r) m s

/-- SHED_COMPLETE (R217 to R219): the boundary that ends the fourth period of a LEAVING phase. -/
def execShedComplete (r : Fin 28) (m : List SnsMeas) (s : State) : Res :=
  atBoundary r ((leavingPhases s r).any fun ph => decide (3 ≤ s.phases[ph].leaveCnt)) m s

/-- ADD_THRESHOLD (R220, R224): filtered I_rail above `PHM_I_ADD` × N_A with a phase LEAVING or SHED. -/
def execAddThreshold (r : Fin 28) (mA : Nat) (s : State) : Res :=
  if !railPresent s r then .fault .absentInPart
  else
    let s1 := modLoop r (fun l => { l with iFilt := (mA : Int) * 65536 }) s
    if s.phmIAdd r * (activePhases s r).length < mA && anyNotActive s r && !s.rails[r].stationKept then
      .next (modDyn r (fun d => { d with holdoff := true }) (readdEvent r false s1))
    else .next s1

/-- READD_EPOCH (R222, R223): the boundary after a re-add event. -/
def execReaddEpoch (r : Fin 28) (m : List SnsMeas) (s : State) : Res := atBoundary r s.rails[r].dyn.readdPend m s

/-- SHED_HOLDOFF_EXPIRE (R224): not while the step alarm is asserted. -/
def execShedHoldoffExpire (r : Fin 28) (s : State) : Res :=
  if !railPresent s r then .fault .absentInPart
  else .next (if s.rails[r].dyn.stepAlarm then s else modDyn r (fun d => { d with holdoff := false }) s)

/-- `PHM_EN` cleared (R220, R237): a re-add event whose epoch is the boundary of the disable; none on a station-kept rail (R114). -/
def phmDisableOp (r : Fin 28) (s : State) : State :=
  let s1 := s.store (okey (0x3100 + r) 0x0F) 0
  if phmOn s r && s.rails[r].enabled && !s.rails[r].stationKept then modDyn r (fun d => { d with phmDisabling := true }) (readdEvent r false s1) else s1

/-- PHM_DISABLE (R237). -/
def execPhmDisable (p : Port) (r : Fin 28) (s : State) : Res :=
  .next (directWrite p (okey (0x3100 + r) 0x0F) s fun s => (phmDisableOp r s, .done))

/-- A rising edge of `HINT_n` belongs to the hint of the edge recognised before it (R227). -/
def hintAgain (h : Fin 2) (s : State) : Bool :=
  match s.hintAt[h] with
  | some t => decide (s.devTime ≤ t + 1)
  | none => false

/-- HINT_PIN_EDGE (R226, R227): a hint for every rail of the host with `FC_PIN_EN` set; an edge within 1 µs of the previous recognised
one on the pin is part of that hint. Device time counts whole microseconds. DESIGN CHOICE, log entry 84. -/
def execHintPinEdge (h : Fin 2) (s : State) : Res :=
  let s1 := { s with hintAt := vset s.hintAt h (some s.devTime) }
  .next (if hintAgain h s then s1 else (allFin 28).foldl (fun a r =>
    if railPresent s r && assigned s h r && s.fcPinEn r then sendCmd (.hint r (s.fcPinI r) (s.fcPinDelay r)) a else a) s1)

/-- The two fields of `FC_REQ` (R240); a value with a bit of [31:23] set, or with a delay outside 1 to 100 µs, is outside its stated
range (R13, R550). DESIGN CHOICE, log entry 10. -/
def fcFields (s : State) (key value : Nat) : Nat × Nat :=
  let v := if value < 2 ^ 23 then value else Config.outOfRange key value s.freeCtr
  let t := field v 22 16
  (field v 15 0, if 1 ≤ t ∧ t ≤ 100 then t else Config.outOfRange key value s.freeCtr)

/-- A hint written as `FC_REQ` (R226). -/
def fcRequest (r : Fin 28) (value : Nat) (s : State) : State :=
  let f := fcFields s (okey (0x3100 + r) 0x1C) value
  sendCmd (.hint r f.1 f.2) s

/-- FC_REQ_WRITE (R226). -/
def execFcReqWrite (p : Port) (r : Fin 28) (value : Nat) (s : State) : Res :=
  .next (directWrite p (okey (0x3100 + r) 0x1C) s fun s => (fcRequest r value s, .done))

/-- Mark the first hint whose time T has not passed. -/
def markDue : List Hint → List Hint
  | [] => []
  | h :: l => if h.due then h :: markDue l else { h with due := true } :: l

/-- FORECAST_DEADLINE (R230): at T a phase that is not ACTIVE makes the hint late. -/
def execForecastDeadline (r : Fin 28) (s : State) : Res :=
  if !railPresent s r then .fault .absentInPart
  else if s.rails[r].fc.hints.all (fun h => h.due) then .next s
  else
    let s1 := modFc r (fun f => { f with hints := markDue f.hints }) s
    if anyNotActive s r then
      let s2 := modFc r (fun f => { f with lateCnt := satAdd max32 f.lateCnt 1 }) s1
      .next (logFault .fcLate (railDie r + 1) r s2.rails[r].fc.lateCnt s2)
    else .next s1

/-- FORECAST_INHIBIT_END (R228, R229): the inhibit of the first hint whose T has passed ends; later ones go on. -/
def execForecastInhibitEnd (r : Fin 28) (s : State) : Res :=
  if !railPresent s r then .fault .absentInPart
  else .next (modFc r (fun f => { f with hints := f.hints.eraseP (fun h => h.due) }) s)

/-- P_dep of R232 in µW: the sum of V × I of the rails in `TRIM_DEPS`, as their dies have them now, whatever the age of the mirrors.
DESIGN CHOICE, log entry 47. -/
def pDep (s : State) (r : Fin 28) : Int :=
  ((allFin 28).filter fun q : Fin 28 => (s.trimDeps r).testBit q.val).foldl (fun a q => a + (s.rails[q].vout : Int) * railCurrent s q) 0

/-- The table points rise from `TRIM_P0` to `TRIM_P3` (R235). DESIGN CHOICE, log entry 47. -/
def trimRising (s : State) (r : Fin 28) : Bool :=
  decide (s.trimP r 0 < s.trimP r 1) && decide (s.trimP r 1 < s.trimP r 2) && decide (s.trimP r 2 < s.trimP r 3)

/-- The straight line of R232 between points `a` and `b`, in µV at the output. DESIGN CHOICE, log entry 47. -/
def trimLine (s : State) (r : Fin 28) (a b : Fin 4) (p : Int) : Nat :=
  let x0 : Int := s.trimP r a * 1000000
  let x1 : Int := s.trimP r b * 1000000
  let y0 : Int := s.trimV r a * 1000
  let y1 : Int := s.trimV r b * 1000
  (y0 + (y1 - y0) * (p - x0) / (x1 - x0)).toNat

/-- The table of R232 at P_dep, in µV at the output; free where the points do not rise (R235). -/
def trimTable (s : State) (r : Fin 28) (p : Int) : Nat :=
  if !trimRising s r then Config.free 235 s.freeCtr
  else if p ≤ s.trimP r 0 * 1000000 then s.trimV r 0 * 1000
  else if s.trimP r 3 * 1000000 ≤ p then s.trimV r 3 * 1000
  else if p ≤ s.trimP r 1 * 1000000 then trimLine s r 0 1 p
  else if p ≤ s.trimP r 2 * 1000000 then trimLine s r 1 2 p
  else trimLine s r 2 3 p

/-- µV at the output as a pin target in units with 16 fractional bits. -/
def pinOfUv (uv div : Nat) : Nat := uv * 4096 * 65536 * 100 / (div * 15625)

/-- The trim target at the pins, in units with 16 fractional bits: the table value rounded to the pin resolution of R196, clamped to
9.000 V to 13.000 V at the output (R232). DESIGN CHOICE, log entry 47. -/
def trimPins (s : State) (r : Fin 28) (p : Int) : Nat :=
  let d := s.railDiv r
  max (pinOfUv 9000000 d) (min (pinOfUv 13000000 d) (divHalfUp (trimTable s r p * 4096) (1250 * d) * 8 * unit))

/-- A pin value in units with 16 fractional bits as mV at the output (R154), for `TRIM_VTGT`. DESIGN CHOICE, log entry 47. -/
def pinsMv (pins div : Nat) : Nat := divHalfUp (pins * div * 5) (32 * 4096 * 65536)

/-- A rail of `TRIM_DEPS` other than the trimmed one slews or has its step alarm asserted (R234). -/
def trimFreezeHolds (s : State) (r : Fin 28) : Bool :=
  (allFin 28).any fun q => (s.trimDeps r).testBit q && decide (q ≠ r) && (s.rails[q].dyn.moving || s.rails[q].dyn.stepAlarm)

/-- The rate of bus trim (R198, R233). -/
def trimInc (s : State) (r : Fin 28) : Nat := slewInc (min (s.railSlew r) 10) (s.railDiv r)

/-- A freeze (R234): V_SP stops where it stands; not a command, TRANSITION stays set. -/
def trimStop (r : Fin 28) (s : State) : State :=
  modRail r (fun x => { x with
    fc := { x.fc with trimFrozen := true, freezeSeen := true },
    dyn := { x.dyn with moving := if x.dyn.src = 5 then false else x.dyn.moving } }) s

/-- The trim target is applied as a command of source 5 (R198, R232, R233); after a freeze V_SP moves on from where it stood, which is
no turn of a moving V_SP (R234). -/
def trimMove (r : Fin 28) (pins : Nat) (s : State) : State :=
  if cmdBlocked s r then s else
    modDyn r (fun d => { d with moving := decide (d.vsp ≠ d.target) }) (moveTo r (pinsMv pins (s.railDiv r)) pins (trimInc s r) 5 s)

/-- TRIM_PERIOD (R232 to R235): P_dep and the new target; a command of source 5, or while frozen nothing moves until no
freeze condition has held for one period. `TRIM_PDEP` shows whole W, cut. DESIGN CHOICE, log entry 47. -/
def execTrimPeriod (r : Fin 28) (s : State) : Res :=
  if !railPresent s r then .fault .absentInPart
  else if !s.rails[r].fc.trimActive || s.rails[r].fc.trimStopped || s.rails[r].stationKept then .next s
  else
    let p := pDep s r
    let pins := trimPins s r p
    let holds := trimFreezeHolds s r
    let wait := s.rails[r].fc.trimFrozen && s.rails[r].fc.freezeSeen
    let s1 := modFc r (fun f => { f with
      pdep := min max16 (p / 1000000).toNat, vtgt := pinsMv pins (s.railDiv r), freezeSeen := holds, trimFrozen := holds || wait }) s
    let s2 := if trimRising s r then s1 else { s1 with freeCtr := s1.freeCtr + 1 }
    .next (if holds then trimStop r s2 else if wait then s2 else trimMove r pins s2)

/-- TRIM_FREEZE (R234); bus trim of a station-kept rail is suspended, its slew completes (R114, R236). -/
def execTrimFreeze (r : Fin 28) (s : State) : Res :=
  if !railPresent s r then .fault .absentInPart
  else .next (if s.rails[r].fc.trimActive && !s.rails[r].stationKept then trimStop r s else s)

/-- `TRIM_EN` cleared (R237): V_SP slews to `RAIL_VSET` at the trim rate; a station-kept rail holds its last trimmed voltage (R114). -/
def trimDisableOp (r : Fin 28) (s : State) : State :=
  let s1 := s.store (okey (0x3100 + r) 0x1F) 0
  if !s.rails[r].fc.trimActive || s.rails[r].stationKept then s1 else
    let tgt := railTarget s r (s.railVset r)
    modRail r (fun x => { x with
      fc := { x.fc with trimActive := false, trimFrozen := false, trimDisabling := decide (x.dyn.vsp ≠ tgt) },
      dyn := if cmdBlocked s r then x.dyn else { x.dyn with
        target := tgt, inc := trimInc s r, vtgt := s.railVset r, moving := decide (x.dyn.vsp ≠ tgt),
        transition := x.dyn.transition || decide (x.dyn.vsp ≠ tgt) } }) s1

/-- TRIM_DISABLE (R237). -/
def execTrimDisable (p : Port) (r : Fin 28) (s : State) : Res :=
  .next (directWrite p (okey (0x3100 + r) 0x1F) s fun s => (trimDisableOp r s, .done))

/-- `STEP_EN` cleared (R237): no new assertion from the write; the boundary ends the disable. While one runs, a clear only drops a
held enable (R44). -/
def stepDisableOp (r : Fin 28) (s : State) : State :=
  let s1 := s.store (okey (0x3100 + r) 0x0A) 0
  if stepOn s r && s.rails[r].enabled then modDyn r (fun d => { d with stepDisabling := true, stepBndry := false }) s1 else s1

/-- STEP_ALARM_DISABLE (R237). -/
def execStepAlarmDisable (p : Port) (r : Fin 28) (s : State) : Res :=
  .next (directWrite p (okey (0x3100 + r) 0x0A) s fun s => (stepDisableOp r s, .done))

end Sys2Proof.Machine
end

