-- ==== Sys2Proof/Machine/Protect.lean ====
section
/-! DEFINITION. The commands of chapter 08: over- and under-voltage, over-current, stage faults, power-good; VDR (R57). -/

namespace Sys2Proof.Machine

/-- Set a latch of `RAIL_FAULT`, with its event when it was clear (R485). -/
def railFaultBit (r : Fin 28) (b : Nat) (s : State) : State :=
  if s.rails[r].prot.fault.testBit b then s else railEvent r (modProt r (fun p => { p with fault := setBit p.fault b }) s)

/-- A rail's over-voltage comparison trips: the latch is set, or a second comparison adds its bit. -/
def ovAgain (r : Fin 28) (b : Nat) (s : State) : State :=
  if s.rails[r].prot.ovLatch then railFaultBit r b s else ovTrip r b s

/-- OV_ABS_TRIP (R241, R244, R247): V_sense above `OV_ABS`, armed in RUN whenever the rail has a phase, enabled or not. -/
def execOvAbsTrip (r : Fin 28) (v : Nat) (s : State) : Res :=
  if !railPresent s r then .fault .absentInPart
  else if !dieArmed s || (railPhases s r).isEmpty then .next s
  else
    let s1 := modLoop r (fun l => { l with vsense := v }) s
    .next (if mvUnits s.rails[r].prot.ovAbs < v then ovAgain r 0 s1 else s1)

/-- OV_TRACKING_TRIP (R243): the code of a sample against the tracking threshold. -/
def execOvTrackingTrip (r : Fin 28) (v : Nat) (s : State) : Res :=
  if !railPresent s r then .fault .absentInPart
  else if !trackArmed s r then .next s
  else
    let s1 := modLoop r (fun l => { l with vsense := v }) s
    .next (if trackOver s r (senseCode s r v) then ovAgain r 1 s1 else s1)

/-- The window flag W of R248 for a sense voltage in reference units. -/
def windowFlag (s : State) (r : Fin 28) (v : Nat) : Bool :=
  decide (vref s r - mvUnits (s.pgWinLo r) ≤ v) && decide ((v : Int) ≤ vref s r + mvUnits (s.pgWinHi r))

/-- V_sense below V_ref − `PG_WIN_LO` (R248). -/
def belowWindow (s : State) (r : Fin 28) (v : Nat) : Bool := decide ((v : Int) < vref s r - mvUnits (s.pgWinLo r))

/-- PG_WINDOW_CHANGE (R248, R249, R259): W as two samples agree; leaving it resets qualification; the under-voltage
timer starts when its condition arises. -/
def execPgWindowChange (r : Fin 28) (v : Nat) (s : State) : Res :=
  if !railPresent s r then .fault .absentInPart
  else if !dieArmed s then .next s
  else
    let w := windowFlag s r v
    let s1 := modRail r (fun x => { x with
      loop := { x.loop with vsense := v },
      prot := { x.prot with w := w, uvCond := belowWindow s r v && x.enabled, qualified := x.prot.qualified && w } }) s
    .next (ignoreClear r (pgRefresh r (uvStart r s1)))

/-- The end of a fault timer whose condition holds (R249, R250): fault latch, Logbook, the rail's reaction. During
station-keeping the rail leaves it and the reaction waits for step 8, or follows at once after it (R115). -/
def timerFault (r : Fin 28) (b : Nat) (code : FaultCode) (f : ItemFaultCode) (s : State) : State :=
  let s1 := latchFault r b (modProt r (fun p => { p with noPg := true }) s)
  if s.rails[r].stationKept then skSettle (skLeave r b false s1)
  else itemFault (railItem r) f (logFault code (railDie r + 1) r s1.rails[r].prot.fault s1)

/-- UV_TIMER_EXPIRE (R249, R250, R262). DESIGN CHOICE, log entry 4. -/
def execUvTimerExpire (r : Fin 28) (s : State) : Res :=
  if !railPresent s r then .fault .absentInPart
  else if !s.rails[r].prot.uvTimer then .next s
  else
    let s1 := modProt r (fun p => { p with uvTimer := false }) s
    .next (if s.rails[r].prot.uvCond then timerFault r 2 .railUv .underVoltage s1 else checkSteps (pgRefresh r s1))

/-- OC_CONDITION (R248, R249, R253): the filtered current of the rail's phases on die `k`, on a ganged rail × N ÷ N_die, against
`OC_TOT`. A follower reports a crossing by an EVENT frame to its die's event source of the rail. DEDUCED, log entry 40. -/
def execOcCondition (r : Fin 28) (k : Fin 7) (mA : Int) (s : State) : Res :=
  if !railPresent s r then .fault .absentInPart
  else if !dieArmed s || !(railDies s r).contains k then .next s
  else
    let n := (activePhases s r).length
    let nl := ((activePhases s r).filter fun ph => decide (phaseDie ph = k)).length
    let i := if (gangOfRail s r).isSome && decide (nl ≠ 0) then divHalfUpI (mA * n) nl else mA
    let s1 := if k = railDie r then ocRefresh r (modLoop r (fun l => { l with iFilt := i * 65536 }) s)
      else
        let isOver := decide (ocLimitOf s r < i)
        let s2 := modDie k (fun d => { d with ocOver := isOver }) s
        if isOver && !s.dies[k].ocOver then dieEvent k 0 s2 else s2
    .next (ignoreClear r (pgRefresh r (ocStart r s1)))

/-- OC_TIMER_EXPIRE (R249, R250, R262). DESIGN CHOICE, log entry 4. -/
def execOcTimerExpire (r : Fin 28) (s : State) : Res :=
  if !railPresent s r then .fault .absentInPart
  else if !s.rails[r].prot.ocTimer then .next s
  else
    let s1 := modProt r (fun p => { p with ocTimer := false }) s
    .next (if ocHolds s r then timerFault r 3 .railOc .overCurrent s1 else checkSteps (pgRefresh r s1))

/-- VALLEY_LIMIT (R251 to R253): the phase's current exceeds the limit in force; its pulse is withheld and counted; the
first after each enable is logged, class C. Not on a phase held high by the step alarm. -/
def execValleyLimit (ph : Fin 56) (mA : Nat) (s : State) : Res :=
  if !diePresent s (phaseDie ph) then .fault .absentInPart
  else match phaseRail s ph with
    | none => .next s
    | some r =>
      if !s.rails[r].enabled || decide (s.phases[ph].run = .shed) || s.rails[r].dyn.stepAlarm || mA ≤ valleyLimitOf s r then .next s
      else
        let s1 := railFaultBit r 7 (modProt r (fun p => { p with valleyCnt := satAdd max32 p.valleyCnt 1, valleyLogged := true })
          (modPhase ph (fun p => { p with withheld := true }) s))
        .next (if s.rails[r].prot.valleyLogged then s1 else logFault .valleyLimit (railDie r + 1) r s1.rails[r].prot.valleyCnt s1)

/-- PG_QUALIFIED (R259): W has held for t_qual after V_SP first reached the soft-start target. -/
def execPgQualified (r : Fin 28) (s : State) : Res :=
  if !railPresent s r then .fault .absentInPart
  else
    let x := s.rails[r]
    if x.enabled && !x.disabling && x.dyn.softDone && x.prot.w then
      .next (checkSteps (pgRefresh r (modProt r (fun p => { p with qualified := true }) s)))
    else .next s

/-- PG_HOLD_END (R260). -/
def execPgHoldEnd (r : Fin 28) (s : State) : Res :=
  if !railPresent s r then .fault .absentInPart
  else .next (pgRefresh r (modProt r (fun p => { p with hold := false }) s))

/-- The conditions that refuse `RAIL_FCLR` (R258). -/
def fclrRefused (s : State) (r : Fin 28) : Bool :=
  let x := s.rails[r]
  decide (mvUnits x.prot.ovAbs < x.loop.vsense)
    || decide (5 * x.dyn.target + 32 * s.ovTrkOfs r * unit < 5 * x.loop.vsense * unit)
    || (railDies s r).any (fun k => s.dies[k].stf || !s.dies[k].vdrOk)
    || x.prot.uvTimer || x.prot.ocTimer

/-- An accepted `RAIL_FCLR` (R257): latched bits cleared, the latch released, the rail OFF. -/
def fclrOp (r : Fin 28) (s : State) : State × Ack :=
  if fclrRefused s r then (s, .abort .state) else
    let s1 := modRail r (fun x => { x with
      enHeld := false, prot := { x.prot with fault := 0, ovLatch := false, faultLatch := false, ignored := false, skLatched := false } }) s
    (pgRefresh r (itemForcedOff (railItem r) (railOffDone r s1)), .done)

/-- RAIL_FCLR (R257, R258). -/
def execRailFclr (p : Port) (r : Fin 28) (value : Nat) (s : State) : Res :=
  .next (directWrite p (okey (0x3200 + r) 0x0D) s fun s => if value = 1 then fclrOp r s else (s, .done))

/-- The rails with a phase on die `k`. -/
def railsOn (s : State) (k : Fin 7) : List (Fin 28) := (allFin 28).filter fun r => railOnDie s r k

/-- The mask of a list of rails. -/
def railMask (l : List (Fin 28)) : Nat := (l.map fun r => 2 ^ r.val).foldl (· + ·) 0

/-- The stage fault of die `k` (R254): every enabled rail with a phase on the die records it; class A. -/
def stageFaultOp (k : Fin 7) (s : State) : State :=
  let rs := (railsOn s k).filter fun r => s.rails[r].enabled
  let s1 := rs.foldl (fun a r => skLeave r 4 (skLogs s) (setItemFault (railItem r) .stageFault
    (railEvent r (modProt r (fun p => { p with fault := setBit p.fault 4 }) a)))) s
  skSettle (classATrip rs .stageFault (k + 1) (k + 1) (railMask (railsOn s k)) s s1)

/-- STAGE_FAULT (R254): armed in RUN (R241). -/
def execStageFault (k : Fin 7) (s : State) : Res :=
  if !diePresent s k then .fault .absentInPart
  else
    let s1 := modDie k (fun d => { d with stf := true }) s
    .next (if !dieArmed s || s.dies[k].stf then s1 else stageFaultOp k s1)

/-- STAGE_FAULT_RELEASE (R254): the persisting cause ends. -/
def execStageFaultRelease (k : Fin 7) (s : State) : Res :=
  if !diePresent s k then .fault .absentInPart else .next (modDie k (fun d => { d with stf := false }) s)

/-- VDR_LOW (R57): the die's pins at mid level, each enabled rail with a phase there declares the fault; one entry per fall of `VDR`.
A station-kept rail leaves station-keeping with it, its reaction waits for step 8. DEDUCED, log entry 83. -/
def execVdrLow (k : Fin 7) (s : State) : Res :=
  if !diePresent s k then .fault .absentInPart
  else if !s.dies[k].vdrOk then .next s
  else
    let s1 := dieEvent k 7 (modDie k (fun d => { d with vdrOk := false }) s)
    let rs := (railsOn s k).filter fun r => s.rails[r].enabled
    let s2 := rs.foldl (fun a r => skLeave r 8 true (latchFault r 8 a)) s1
    let s3 := skSettle (logFault .vdrLow (k + 1) (k + 1) (vdrStatus s2) s2)
    .next (itemFaults ((rs.filter fun r => !s.rails[r].stationKept).map fun r => (railItem r, .vdrLow)) s3)

/-- VDR_RESTORED (R57): VDR_OK is set again; a latch under IGNORE may clear, and a retry that waited for it goes on (R256).
DEDUCED, log entry 82. -/
def execVdrRestored (k : Fin 7) (s : State) : Res :=
  if !diePresent s k then .fault .absentInPart
  else if s.dies[k].vdrOk then .next s
  else
    let s1 := dieEvent k 7 (modDie k (fun d => { d with vdrOk := true }) s)
    let s2 := (railsOn s k).foldl (fun a r => ignoreClear r a) s1
    .next ((railsOn s k).foldl (fun a r => if a.items[railItem r].retryDue && decide (a.items[railItem r].phase = .retryWait)
      then retryNow (railItem r) a else a) s2)

end Sys2Proof.Machine
end

