-- ==== Sys2Proof/Machine/Link.lean ====
section
/-! DEFINITION. The package links: frames R32 to R34, resending R35, going DOWN R36, R37, retraining R36, R99. -/

namespace Sys2Proof.Machine

/-- The event source of a die's link and `VDR` (R485). -/
def linkEvt (k : Fin 7) (s : State) : State := eventEdge (71 + 8 * k) s

/-- The deadlines of a die's engines are suspended while its link is not UP (R448). DEDUCED, log entry 55. -/
def suspendEngines (s : State) : State := { s with ewd := { s.ewd with suspCnt := satAdd max32 s.ewd.suspCnt 1 } }

/-- The engines of rail die k + 1 (R15, R446): E(2k + 4) and E(2k + 5). -/
def dieEngines (k : Fin 7) : List (Fin 18) := [⟨2 * k.val + 4, by omega⟩, ⟨2 * k.val + 5, by omega⟩]

/-- Deadlines restart in full (R448). -/
def restartEngines (l : List (Fin 18)) (s : State) : State :=
  { s with ewd := { s.ewd with since := l.foldl (fun v e => vset v e 0) s.ewd.since } }

/-- The link of die `k` is DOWN and is retrained (R36, R37): logged, counted, a fault of every rail with a phase on the
die; a follower starts its hold (R186). DEDUCED, log entry 40. -/
def linkLost (k : Fin 7) (hold : Bool) (s : State) : State :=
  let s1 := modLink k (fun l => { l with phase := .training, downAt := s.devTime, retryCnt := satAdd max32 l.retryCnt 0x10000 }) s
  let s2 := logFault .linkDown (k + 1) (k + 1) s1.links[k].retryCnt (linkEvt k (suspendEngines s1))
  let s3 := match gangOfDie s2 k with
    | some g => if hold && isFollower s2 k then startHold g k 3 s2 else s2
    | none => s2
  itemFaults ((railsOn s3 k).map fun r => (railItem r, .linkDown)) s3

/-- An UP link goes DOWN. DEDUCED, log entry 40. -/
def linkGoDown (k : Fin 7) (s : State) : State := if s.links[k].phase ≠ .up then s else linkLost k true s

/-- The ganged rail that die `k` works for is station-kept. -/
def gangKept (s : State) (k : Fin 7) : Bool :=
  match (gangOfDie s k).bind (gangRail s) with
  | some r => s.rails[r].stationKept
  | none => false

/-- The links that are not UP at the end of step 6 are DOWN (R99); for a station-kept group that is no link failure (R114).
DEDUCED, log entry 40. -/
def bootLinksDown (s : State) : State :=
  ((allFin 7).filter fun k => diePresent s k && decide (s.links[k].phase ≠ .up)).foldl (fun a k => linkLost k (!gangKept a k) a) s

/-- The sender resends from a SEQ on (R35): counted, and a frame that fails its third attempt takes the link DOWN (R36).
DEDUCED, log entry 40. -/
def resendFrom (k : Fin 7) (e : LinkEndSel) (from_ : Nat) (s : State) : State :=
  let fs := (linkEnd s.links[k] e).unacked
  let pre := fs.takeWhile fun f => decide (f.seq ≠ from_)
  match fs.dropWhile fun f => decide (f.seq ≠ from_) with
  | [] => s
  | f :: l =>
    let s1 := modLink k (fun x => { x with retryCnt := satAdd max32 x.retryCnt (l.length + 1) })
      (modEnd k e (fun x => { x with unacked := pre ++ { f with failed := f.failed + 1 } :: l }) s)
    if 3 ≤ f.failed + 1 then linkGoDown k s1 else s1

/-- A link frame command of an existing, UP link; else nothing arrives. DEDUCED, log entry 7. -/
def onLink (k : Fin 7) (s : State) (f : State → State) : Res :=
  if !diePresent s k then .fault .absentInPart
  else .next (if sysRuns s && decide (s.links[k].phase = .up) then f s else s)

/-- The frames waiting at an end leave it (R34). -/
def pumpEnd (k : Fin 7) (e : LinkEndSel) (s : State) : State :=
  match e with
  | .atHelm => helmPump k s
  | .atRail => railPump k s

/-- What a frame does at the end it reaches. -/
def endTakes (k : Fin 7) (recv : LinkEndSel) (f : LinkFrame) (s : State) : State :=
  match recv with
  | .atHelm => helmTakes k f s
  | .atRail => railTakes k f s

/-- A good frame comes with SEQ and ACKSEQ and is taken only as the expected one, so that a resend restores the order. One that the
other end has yet to send waits there for its turn in the order of R34; one that is resent arrives, and those behind it may leave.
DEDUCED, log entry 40. -/
def takeFrame (k : Fin 7) (recv : LinkEndSel) (seq ack : Nat) (f : LinkFrame) (s : State) : State :=
  let s1 := modEnd k recv (ackFrames ack) s
  if (linkEnd s.links[k] recv).expected ≠ seq % 8 then s1
  else pumpEnd k (otherEnd recv)
    (if endClear s.links[k] (otherEnd recv) then modEnd k (otherEnd recv) (waitFrame f) s1
    else endTakes k recv f (modEnd k recv (fun x => { x with expected := (x.expected + 1) % 8 }) s1))

/-- A frame that failed on its way to an end was sent by the other one (R35): with the SEQ expected there and, where it is not yet
among the unacknowledged ones, known by its body alone. IDLE and NAK frames have no SEQ to be resent from.
DEDUCED, log entry 40. -/
def lostFrame (k : Fin 7) (recv : LinkEndSel) (body : Nat) (s : State) : State :=
  if endClear s.links[k] (otherEnd recv) && decide (2 ≤ field body 63 60)
  then modEnd k (otherEnd recv) (frameOut ⟨0, 0, field body 53 48, .raw body, 0⟩) s else s

/-- LINK_FRAME_BAD (R32, R35): the frame fails its CRC or has a reserved TYPE; it is discarded, and a NAK naming the expected SEQ
waits to be sent. DEDUCED, log entry 7. -/
def execLinkFrameBad (k : Fin 7) (recv : LinkEndSel) (body crc : Nat) (s : State) : Res :=
  onLink k s fun s =>
    if frameGood (body % 2 ^ 64) (crc % 2 ^ 16) then s
    else modEnd k recv (fun x => waitFrame ⟨0, 0, 0, .nak x.expected, 0⟩ x) (lostFrame k recv (body % 2 ^ 64) s)

/-- A NAK reaches an end (R34, R35): it waits no longer at the other end, whose further frames may leave; the frames from the SEQ it
names are resent. DEDUCED, log entry 40. -/
def nakArrives (k : Fin 7) (recv : LinkEndSel) (seq : Nat) (s : State) : State :=
  pumpEnd k (otherEnd recv) (resendFrom k recv seq
    (modEnd k (otherEnd recv) (fun x => { x with waiting := x.waiting.filter fun f => decide (payloadRank f.payload ≠ 0) }) s))

/-- LINK_NAK (R35). -/
def execLinkNak (k : Fin 7) (recv : LinkEndSel) (seq : Nat) (s : State) : Res := onLink k s (nakArrives k recv (seq % 8))

/-- LINK_IDLE (R32, R34). -/
def execLinkIdle (k : Fin 7) (recv : LinkEndSel) (ack : Nat) (s : State) : Res := onLink k s (modEnd k recv (ackFrames ack))

/-- LINK_ACK_TIMEOUT (R35): the oldest unacknowledged frame and those after it are resent. -/
def execLinkAckTimeout (k : Fin 7) (sender : LinkEndSel) (s : State) : Res :=
  onLink k s fun s => match (linkEnd s.links[k] sender).unacked with
    | [] => s
    | f :: _ => resendFrom k sender f.seq s

/-- LINK_COMMAND (R32, R199): the loop manager of the die applies the command. -/
def execLinkCommand (k : Fin 7) (seq ack : Nat) (c : RailCmd) (s : State) : Res :=
  onLink k s fun s => seqSettle (takeFrame k .atRail seq ack ⟨0, 0, 0, .command c, 0⟩ s)

/-- LINK_EVENT (R32, R485): the named event source of the die. -/
def execLinkEvent (k : Fin 7) (seq ack source cause : Nat) (s : State) : Res :=
  onLink k s (takeFrame k .atHelm seq ack ⟨0, 0, 0, .event source cause, 0⟩)

/-- LINK_OBJ_WRITE (R32, R33). -/
def execLinkObjWrite (k : Fin 7) (seq ack tag obj sub value : Nat) (s : State) : Res :=
  onLink k s (takeFrame k .atRail seq ack ⟨0, 0, tag % 64, .objWrite obj sub value, 0⟩)

/-- LINK_OBJ_READ (R32, R33). -/
def execLinkObjRead (k : Fin 7) (seq ack tag obj sub : Nat) (s : State) : Res :=
  onLink k s (takeFrame k .atRail seq ack ⟨0, 0, tag % 64, .objRead obj sub, 0⟩)

/-- LINK_OBJ_DATA (R32, R33). -/
def execLinkObjData (k : Fin 7) (seq ack tag obj sub value : Nat) (s : State) : Res :=
  onLink k s (takeFrame k .atHelm seq ack ⟨0, 0, tag % 64, .objData obj sub value, 0⟩)

/-- One 32-bit word of the mirror of die `k` (R27, R32). DESIGN CHOICE, log entry 78. -/
def mirrorWord (k : Fin 7) (offset data : Nat) (s : State) : State :=
  modHamper (fun h => { h with mem := Memory.putBytes h.mem (0x2C000 + k * 0x4000 + 4 * (offset % 4096)) (leBytes 4 data) }) s

/-- The TELEMETRY frames waiting at the rail die's end leave after every other frame (R34), and their words go into the die's mirror
(R27, R32). DEDUCED, log entry 40; DESIGN CHOICE, log entry 78. -/
def telemetryPump (k : Fin 7) (s : State) : State :=
  if !endSends s.links[k] .atRail then s else
    s.links[k].rail.waiting.foldl (fun a f => match f.payload with
        | .telemetry ofs d => mirrorWord k ofs d (crossLink k .atHelm f a)
        | _ => helmTakes k f (crossLink k .atHelm f a))
      (modEnd k .atRail (fun e => { e with waiting := [] }) s)

/-- LINK_TELEMETRY (R27, R32, R34): the frame's word goes into the die's mirror.
DEDUCED, log entry 40; DESIGN CHOICE, log entry 78. -/
def execLinkTelemetry (k : Fin 7) (seq ack offset data : Nat) (s : State) : Res :=
  onLink k s fun s =>
    let s1 := takeFrame k .atHelm seq ack ⟨0, 0, 0, .telemetry offset data, 0⟩ s
    telemetryPump k (if s.links[k].helm.expected = seq % 8 ∧ !endClear s.links[k] .atRail then mirrorWord k offset data s1 else s1)

/-- LINK_DOWN (R36): symbol lock is lost for 1 µs. -/
def execLinkDown (k : Fin 7) (s : State) : Res := onLink k s (linkGoDown k)

/-- The link of die `k` is UP (again): the die's engines have their deadlines in full and the waiting frames go out (R36). -/
def linkComesUp (k : Fin 7) (s : State) : State :=
  let clear (e : LinkEnd) : LinkEnd := { e with unacked := e.unacked.map fun f => { f with failed := 0 } }
  let s1 := modLink k (fun l => { l with phase := .up, retrained := true, helm := clear l.helm, rail := clear l.rail }) s
  let s2 := railPump k (helmPump k (restartEngines (dieEngines k) (linkEvt k s1)))
  match (gangOfDie s2 k).bind (gangRail s2) with
  | some r => pgRefresh r (ocStart r s2)
  | none => s2

/-- `LINK_STATUS_k` (R46). -/
def linkStatus (s : State) (k : Fin 7) : Nat := s.links[k].phase.ctorIdx + 4 * bit s.links[k].retrained

/-- A read of `LINK_STATUS_k` clears its bit [2] (R46). -/
def readLinkStatus (k : Fin 7) (s : State) : State × Nat :=
  (modLink k (fun l => { l with retrained := false }) s, linkStatus s k)

end Sys2Proof.Machine
end

