-- ==== Sys2Proof/Machine/Watchdog.lean ====
section
/-! DEFINITION. The commands of Star Sight, the engine watchdog and the Logbook (chapter 14). -/

namespace Sys2Proof.Machine

/-- Change Star Sight and one of its hosts. -/
def modWd (f : WdState → WdState) (s : State) : State := { s with wd := f s.wd }
def modHost (h : Fin 2) (f : WdHost → WdHost) (s : State) : State := modWd (fun w => { w with hosts := vmod w.hosts h f }) s

/-! ### Questions (R432, R433) -/

/-- One step of the LFSR. -/
def lfsrNext (q : Nat) : Nat := if q % 2 = 1 then q / 2 ^^^ 0xB400 else q / 2

/-- The seed: the XOR of the four quarters of the unit ID, or 0xACE1. -/
def wdSeed (id : Nat) : Nat :=
  let x := field id 15 0 ^^^ field id 31 16 ^^^ field id 47 32 ^^^ field id 63 48
  if x = 0 then 0xACE1 else x

/-- The token of a question under a key: both MSB first. -/
def wdToken (q key : Nat) : Nat := crc16 0xFFFF (beBytes 2 q ++ beBytes 2 key)

/-- `WD_KEY_n`. -/
def wdKeyOf (s : State) (h : Fin 2) : Nat := if h = 0 then s.wdKey0 else s.wdKey1

/-! ### Obligations (R440) -/

/-- `RSTO_m` of the host is high, so that it is not obliged. -/
def wdHeld (s : State) (h : Fin 2) : Bool := match fin? 4 (wdRstoOf s h) with | some m => s.rsto[m].pin | none => false

/-- The host is monitored (`WD_HOSTS`). -/
def wdMonitored (s : State) (h : Fin 2) : Bool := s.wdHosts.testBit h

/-- Star Sight stands still: the activation pause or PARK (R441). -/
def wdFrozen (s : State) : Bool := s.update.pause || decide (s.pwr.state = .park)

/-- The host is obliged now. -/
def wdObliged (s : State) (h : Fin 2) : Bool := s.wd.running && s.wd.hosts[h].obliged && !wdHeld s h

/-- In grace: its obligation has started and it is not yet obliged. -/
def wdInGrace (s : State) (h : Fin 2) : Bool :=
  s.wd.running && wdMonitored s h && s.wd.hosts[h].started && !wdHeld s h && !s.wd.hosts[h].obliged

/-- A cycle begins (R432, R440): the LFSR steps, and each host whose obligation has started counts the cycle.
DEDUCED, log entry 52. -/
def beginCycle (s : State) : State :=
  modWd (fun w => { w with
    lfsr := lfsrNext w.lfsr, tick := 0, abandoned := false, cycleCnt := satAdd max32 w.cycleCnt 1,
    checkins := Vector.replicate 16 0,
    hosts := Vector.ofFn fun h =>
      let x := w.hosts[h]
      let started := x.started && !wdHeld s h
      let c := if started then min 256 (x.cycles + 1) else 0
      let ob := started && wdMonitored s h && decide (s.wdGrace ≤ c)
      { x with
        started := started, cycles := c, obliged := ob, answered := false,
        flags := if x.earlyNext && ob then 1 else 0, earlyNext := false } }) s

/-- Every host's obligation starts again where its reset output allows it (R440, R441). DEDUCED, log entry 52. -/
def obligationsStart (s : State) : State :=
  modWd (fun w => { w with hosts := Vector.ofFn fun h => { w.hosts[h] with
    started := !wdHeld s h, cycles := 0, obliged := false, answered := false, flags := 0, earlyNext := false } }) s

/-- Star Sight starts (R430 to R432): seeded, and its first cycle begins. DEDUCED, log entry 52. -/
def wdStart (s : State) : State :=
  beginCycle (obligationsStart (modWd (fun w => { w with
    on := true, locked := true, running := true, lfsr := wdSeed Config.unitId, cycleCnt := 0,
    hosts := w.hosts.map fun x => { x with failCnt := 0 } }) s))

/-- WD_ENABLE (R430): 1 turns Star Sight on and locks it; once locked a 0 is refused. -/
def wdEnableOp (value : Nat) (s : State) : State × Ack :=
  if s.wd.locked then (if value = 0 then (s, .abort .state) else (s, .done))
  else
    let s1 := s.store (okey 0x2A10 0x01) value
    (if s1.wdEnable then wdStart s1 else s1, .done)

/-- WD_ENABLE (R430). -/
def execWdEnable (p : Port) (value : Nat) (s : State) : Res :=
  .next (directWrite p (okey 0x2A10 0x01) s (wdEnableOp value))

/-! ### Answers and check-ins (R434 to R439) -/

/-- The flag bits of `WD_LAST_FAIL` (R460). DEDUCED, log entry 52. -/
abbrev wdEarly : Nat := 0
abbrev wdLate : Nat := 1
abbrev wdWrong : Nat := 2
abbrev wdMissing : Nat := 3
abbrev wdExtra : Nat := 4
abbrev wdUnknown : Nat := 5

/-- A host is LATE in this cycle, once (R435). -/
def wdSetLate (h : Fin 2) (s : State) : State :=
  if s.wd.hosts[h].flags.testBit wdLate then s else
    modWd (fun w => { w with lateCnt := satAdd max32 w.lateCnt 1 }) (modHost h (fun x => { x with flags := setBit x.flags wdLate }) s)

/-- `WD_WIN_OPEN` < `WD_WIN_CLOSE` ≤ `WD_CYCLE`; else the judgement is unpredictable (R437). DESIGN CHOICE, log entry 54. -/
def wdWindowsOk (s : State) : Bool := decide (s.wdWinOpen < s.wdWinClose) && decide (s.wdWinClose ≤ s.wdCycle)

/-- What Star Sight judges, `v`, or a free value with the windows out of order (R437, R570). DESIGN CHOICE, log entry 54. -/
def wdJudged (use : Nat) (s : State) (v : Bool) : Bool := if wdWindowsOk s then v else Config.freeBool use s.freeCtr

/-- The free values of a judgement are used up. -/
def wdUsed (s : State) : State := if wdWindowsOk s then s else useFree s

/-- WD_WINDOW_CLOSE (R435). -/
def execWdWindowClose (s : State) : Res :=
  if !s.wd.running || wdFrozen s || s.wd.abandoned then .next s
  else .next (wdUsed ((allFin 2).foldl (fun a h =>
    if wdObliged a h && !a.wd.hosts[h].answered && wdJudged (43700 + h) a true then wdSetLate h a else a) s))

/-- An answer before the window, or after the first of its cycle, is counted (R435, R436). -/
def wdCountEarly (s : State) : State := modWd (fun w => { w with earlyCnt := satAdd max32 w.earlyCnt 1 }) s

/-- An answer in tick `tick` is judged (R435, R436), but not in an abandoned cycle (R445); false: ignored, as Star Sight is off or the
host not obliged. DEDUCED, log entry 52; DESIGN CHOICE, log entry 54. -/
def wdAnswerOp (h : Fin 2) (token tick : Nat) (s : State) : State × Bool :=
  if !wdObliged s h || wdFrozen s then (s, false)
  else if s.wd.abandoned then (modHost h (fun x => { x with answered := true }) s, true)
  else if s.wd.hosts[h].answered then
    (if wdJudged 43702 s true then wdUsed (wdCountEarly (modHost h (fun x => { x with earlyNext := true }) s)) else wdUsed s, true)
  else
    let s1 := modHost h (fun x => { x with answered := true }) s
    let right := decide (token % 65536 = wdToken s.wd.lfsr (wdKeyOf s h))
    let verdict : Nat :=
      if !wdWindowsOk s then Config.free 437 s.freeCtr % 4
      else if tick < s.wdWinOpen then 0 else if s.wdWinClose ≤ tick then 1 else if right then 3 else 2
    (wdUsed (match verdict with
      | 0 => wdCountEarly (modHost h (fun x => { x with flags := setBit x.flags wdEarly }) s1)
      | 1 => wdSetLate h s1
      | 2 => modWd (fun w => { w with wrongCnt := satAdd max32 w.wrongCnt 1 }) (modHost h (fun x => { x with flags := setBit x.flags wdWrong }) s1)
      | _ => s1), true)

/-- A Star Sight register of two-wire port `n` is written, its packet error code right where one is used (R464, R466, R467, R469): the
result, the register's offset, the pointer behind its `size` bytes. DEDUCED, log entries 61 and 71. -/
def wdWindow (n : Fin 2) (ofs size : Nat) (s : State) (f : State → State × Bool) : State :=
  if !twAnswers s n then setAck .none s
  else if s.update.pause then setAck (.abort .busy) (ptrPast n (ofs + size) (wrSet n .busy ofs s))
  else setAck .done (ptrPast n (ofs + size) (wrSet n (if (f s).2 then .accepted else .ignored) ofs (f s).1))

/-- WD_ANSWER (R433, R435): the port's window, or a port that the object does not accept. -/
def execWdAnswer (p : Port) (n : Fin 2) (token tick : Nat) (s : State) : Res :=
  .next (if twOf p = some n then wdWindow n (if s.pwr.oldChart then 0x0A else 0x22) 2 s (wdAnswerOp n token tick)
    else directWrite p (okey 0x2A11 (3 + n)) s fun s => ((wdAnswerOp n token tick s).1, .done))

/-- Task `t` is monitored for host `h` (R438); in Old Chart mode there are no tasks (R567). -/
def wdTaskOf (s : State) (h : Fin 2) (t : Fin 16) : Bool :=
  !s.pwr.oldChart && s.wdTaskMask.testBit t && (s.wdTaskHost.testBit t == decide (h = 1)) && wdMonitored s h

/-- A check-in (R438, R439); false: ignored. -/
def wdCheckinOp (h : Fin 2) (task : Nat) (s : State) : State × Bool :=
  if !wdObliged s h || wdFrozen s || s.pwr.oldChart then (s, false)
  else match fin? 16 task with
    | some t =>
      if wdTaskOf s h t then (modWd (fun w => { w with checkins := vmod w.checkins t (· + 1) }) s, true)
      else (modHost h (fun x => { x with flags := setBit x.flags wdUnknown }) s, true)
    | none => (modHost h (fun x => { x with flags := setBit x.flags wdUnknown }) s, true)

/-- WD_CHECKIN (R438): the port's window, or a port that the object does not accept. The Old Chart window has no check-in
register; a tunnel's check-in gives IGNORED at `TUN_CMD` (R567). -/
def execWdCheckin (p : Port) (n : Fin 2) (task : Nat) (s : State) : Res :=
  .next (if twOf p = some n then wdWindow n (if s.pwr.oldChart then 0x36 else 0x24) 1 s (wdCheckinOp n task)
    else directWrite p (okey 0x2A11 (5 + n)) s fun s => ((wdCheckinOp n task s).1, .done))

/-! ### The end of a cycle (R442 to R444) -/

/-- Tasks of a host with no check-in, and with more than one (R439). -/
def wdMissTasks (s : State) (h : Fin 2) : List (Fin 16) :=
  (allFin 16).filter fun t => wdTaskOf s h t && wdJudged (43710 + t) s (decide (s.wd.checkins[t] = 0))
def wdExtraTasks (s : State) (h : Fin 2) : List (Fin 16) :=
  (allFin 16).filter fun t => wdTaskOf s h t && wdJudged (43730 + t) s (decide (1 < s.wd.checkins[t]))

/-- The flags of a host's own answers and check-ins at the cycle's end: free with the windows out of order (R437).
DESIGN CHOICE, log entry 54. -/
def wdHostFlags (s : State) (h : Fin 2) : Nat :=
  if wdWindowsOk s then s.wd.hosts[h].flags else Config.free (43750 + h) s.freeCtr % 8 + 32 * bit (Config.freeBool (43752 + h) s.freeCtr)

/-- A host at the end of a cycle (R442): a cycle that does not fail for it clears its count, one for which it is not obliged with it; of a
failed one the tasks are counted, the flags logged and kept. Answers the state and, where `WD_FAIL_MAX` is reached, the subcause of R443.
DEDUCED, log entry 53. -/
def judgeHost (h : Fin 2) (s : State) : State × Option Nat :=
  if !wdObliged s h then (modHost h (fun x => { x with failCnt := 0 }) s, none) else
    let s1 := if !s.wd.hosts[h].answered && wdJudged (43754 + h) s true then wdSetLate h s else s
    let miss := wdMissTasks s h
    let extra := wdExtraTasks s h
    let fl := wdHostFlags s1 h + 8 * bit (!miss.isEmpty) + 16 * bit (!extra.isEmpty)
    let s2 := modWd (fun w => { w with
      miss := miss.foldl (fun v t => vmod v t fun c => satAdd max16 c 1) w.miss,
      extra := extra.foldl (fun v t => vmod v t fun c => satAdd max16 c 1) w.extra }) s1
    if fl = 0 then (modHost h (fun x => { x with failCnt := 0 }) s2, none) else
      let cnt := s.wd.hosts[h].failCnt + 1
      let reach := decide (s.wdFailMax ≤ cnt)
      let s3 := eventEdge 1 (logFault .wdCycleFail 0 h fl (modHost h (fun x => { x with
        lastFail := fl, failCnt := if reach then 0 else cnt }) s2))
      let sub := match (allFin 16).find? fun t => miss.contains t || extra.contains t with
        | some t => t.val
        | none => 0x10 + h.val
      (s3, if reach then some sub else none)

/-- Start or restart a forced assertion of a reset output (R294). -/
def forceRstoPin (n : Fin 4) (s : State) : State :=
  { s with rsto := vmod s.rsto n fun x => { x with pin := true, forced := true, stretch := false } }

/-- One more Star Sight reset (R444). DEDUCED, log entry 53. -/
def wdCount (s : State) : State := ctrAppend ctrWd (min 0xFFFF (s.nv.ctr[ctrWd] + 1)) s

/-- The reaction for a host (R443, R444). DEDUCED, log entry 53. -/
def wdReactOp (h : Fin 2) (sub : Nat) (s : State) : State :=
  let s1 := logFault .wdReaction 0 h s.wdReact s
  match s.wdReact with
  | 1 => match fin? 4 (wdRstoOf s h) with
    | some m => forceRstoPin m (wdCount s1)
    | none => s1
  | 2 => wdCount (startFullReset 5 sub s1)
  | _ => s1

/-- Reactions due are applied, host 0's first; in the activation pause they are held to its end (R445). -/
def wdReactAll (l : List (Fin 2 × Nat)) (s : State) : State :=
  if s.update.pause then modWd (fun w => { w with held := w.held ++ l }) s
  else l.foldl (fun a x => wdReactOp x.1 x.2 a) s

/-- Both hosts are judged, and the reactions that fall due listed; an abandoned cycle is not judged (R445). -/
def wdJudge (s : State) : State × List (Fin 2 × Nat) :=
  if s.wd.abandoned then (s, []) else
    let j0 := judgeHost 0 s
    let j1 := judgeHost 1 j0.1
    (wdUsed j1.1, (j0.2.toList.map fun c => (0, c)) ++ (j1.2.toList.map fun c => (1, c)))

/-- WD_CYCLE_END (R442 to R445): the cycle is judged and its reactions apply; the next cycle begins unless a full reset stopped Star
Sight. A cycle that ends as the activation pause begins is judged, its reactions held. DEDUCED, log entries 8 and 53. -/
def execWdCycleEnd (s : State) : Res :=
  if !s.wd.running || s.pwr.state = .park then .next s else
    let j := wdJudge s
    let s2 := wdReactAll j.2 j.1
    .next (if s2.wd.running then beginCycle s2 else s2)

/-! ### The engine watchdog (R446 to R448) -/

/-- The engine exists in the part: E0 to E3 and two per rail die. -/
def enginePresent (s : State) (e : Fin 18) : Bool := decide (e.val < 4 + 2 * s.part.dies)

/-- The die (k − 1) of a rail die engine. -/
def engineDie (e : Fin 18) : Option (Fin 7) := if e.val < 4 then none else fin? 7 ((e.val - 4) / 2)

/-- The engine's link is not UP. -/
def engineLinkOut (s : State) (e : Fin 18) : Bool := match engineDie e with | some k => decide (s.links[k].phase ≠ .up) | none => false

/-- The deadline of an engine is suspended (R448). -/
def ewdSuspended (s : State) (e : Fin 18) : Bool := s.ewd.wipeSusp || engineLinkOut s e || decide (s.pwr.state = .park)

/-- The engines that are one for the watchdog: the supervisor pair E0 and E1 (R446). -/
def enginePair (e : Fin 18) : List (Fin 18) := if e.val < 2 then [0, 1] else [e]

/-- The number under which an engine expires: of the supervisor pair E0. DEDUCED, log entry 55. -/
def engineNumber (e : Fin 18) : Fin 18 := if e.val < 2 then 0 else e

/-- ENGINE_SERVICE (R446): a rail die engine's service arrives through its link (R15). -/
def execEngineService (e : Fin 18) (s : State) : Res :=
  if !enginePresent s e then .fault .absentInPart
  else .next (if s.ewd.running && !engineLinkOut s e then restartEngines (enginePair e) s else s)

/-- ENGINE_WATCHDOG_EXPIRE (R447). -/
def execEngineWatchdogExpire (e : Fin 18) (s : State) : Res :=
  if !enginePresent s e then .fault .absentInPart
  else .next (if s.ewd.running && !ewdSuspended s e then startFullReset 7 (engineNumber e) (logFault .engineWdt 0 (engineNumber e) 0 s) else s)

/-- The bank wipe suspension ends and every deadline restarts in full (R448). -/
def endWipeSuspension (s : State) : State :=
  if s.ewd.wipeSusp then { s with ewd := { s.ewd with wipeSusp := false, since := Vector.replicate 18 0 } } else s

/-- ENGINE_SUSPENSION_END (R448). DEDUCED, log entry 55. -/
def execEngineSuspensionEnd (s : State) : Res := .next (endWipeSuspension s)

/-! ### The Logbook (R449 to R458) -/

/-- LOGBOOK_ENTRY (R449, R450, R456): a class A code takes the class A path, a FABRIC_ERR is captured. -/
def execLogbookEntry (code : FaultCode) (die src detail : Nat) (s : State) : Res :=
  if s.part.dies < die then .fault .absentInPart
  else if !sysRuns s then .next s
  else .next (useFree (if code.cls = .a then classA code die src detail s else logFault code die src detail (fabReported code src detail s)))

/-- `SAFE_N` by the conditions of R455; before the end of step 7 it keeps the level of R110. -/
def safeRefresh (s : State) : State :=
  if s.boot.phase = .ready then { s with safeN := s.faultLine || s.boot.thermalHold }
  else if s.boot.phase = .halted then { s with safeN := true } else s

/-- A numbered thing of a fault's source field satisfies `f`. DEDUCED, log entry 73. -/
def srcHolds {n : Nat} (i : Nat) (f : Fin n → Bool) : Bool := match fin? n i with | some k => f k | none => false

/-- The cause of a fault persists (R452). A die is numbered from 1 in the source field. DEDUCED, log entry 73. -/
def persists (s : State) (f : HeldFault) : Bool :=
  match f.code with
  | .rsysClkFail => srcHolds (f.src - 1) fun (k : Fin 7) => s.dies[k].rsysBad
  | .linkDown => srcHolds (f.src - 1) fun (k : Fin 7) => decide (s.links[k].phase ≠ .up)
  | .configSplit => s.boot.cfgSplit
  | .homeChartInvalid => s.boot.hcInvalid
  | .tamper => s.nv.tamperLow
  | .zinTrip => srcHolds f.src fun (n : Fin 4) => decide (s.zin[n].phase = .locked)
  | .foTrip => srcHolds f.src fun (n : Fin 8) => decide (s.fo[n].phase = .locked)
  | .railOv | .railOvGanged => srcHolds f.src fun (r : Fin 28) => s.rails[r].prot.ovLatch
  | .railUv | .railOc => srcHolds f.src fun (r : Fin 28) => s.rails[r].prot.faultLatch
  | .stageFault => srcHolds (f.src - 1) fun (k : Fin 7) => s.dies[k].stf
  | .gangHold => srcHolds (f.detail % 256 - 1) fun (k : Fin 7) => decide (s.links[k].phase ≠ .up) || (s.dies[k].held && decide (s.dies[k].holdWhy = 1))
  | .vdrLow => srcHolds (f.src - 1) fun (k : Fin 7) => !s.dies[k].vdrOk
  | .chgFault => decide (s.chg.fault ≠ 0)
  | .dieTFallback => srcHolds f.src fun (d : Fin 8) => decide (s.therm.die[d].source ≠ .sensors)
  | .thermalBlind => srcHolds f.src fun (d : Fin 8) => decide (s.therm.die[d].source = .blind)
  | .twStuck => srcHolds f.src fun (n : Fin 2) => s.tw[n].sclStuck || s.tw[n].sdaStuck
  | .canBusOff => srcHolds f.src fun (n : Fin 4) => decide (s.can[n].phase = .busOff) || decide (s.can[n].phase = .recovering)
  | _ => false

/-- A write of 1 to `LOG_FCLR` (R457). DEDUCED, log entry 73. -/
def logFclrOp (value : Nat) (s : State) : State × Ack :=
  if value ≠ 1 then (s, .done)
  else if s.log.since.any (persists s) then ({ s with log := { s.log with refused := true } }, .abort .state)
  else
    (runItems (pgRefreshAll (safeRefresh { s with
      faultLine := false, fab := .init
      log := { s.log with aDies := 0, bLatched := false, aCode := 0, bCode := 0, since := [], refused := false } })), .done)

/-- LOG_FCLR (R457). -/
def execLogFclr (p : Port) (value : Nat) (s : State) : Res := .next (directWrite p (okey 0x2A20 0x04) s (logFclrOp value))

/-- `LOG_STATUS` (R461). -/
def logStatus (s : State) : Nat :=
  bitsOf [s.faultLine, s.log.bLatched, s.log.cSeen, s.log.refused] + 16 * (s.log.aDies % 256)

/-- A read of `LOG_STATUS` clears its bit [2] (R461). -/
def readLogStatus (s : State) : State × Nat := ({ s with log := { s.log with cSeen := false } }, logStatus s)

end Sys2Proof.Machine
end

