-- ==== Sys2Proof/Machine/House.lean ====
section
/-! DEFINITION. The commands of the housekeeping converter and of thermal management (chapter 13). -/

namespace Sys2Proof.Machine

/-- Change the converter and the thermal management. -/
def modHk (f : HkState → HkState) (s : State) : State := { s with hk := f s.hk }
def modTherm (f : ThermState → ThermState) (s : State) : State := { s with therm := f s.therm }

/-! ### Results (R400 to R408) -/

/-- The divider ratio of a channel (R400), in tenths. -/
def hkDivider (ch : Nat) : Nat :=
  if ch < 16 then 10 else if ch < 24 then 320 else if ch < 26 then 100 else if ch = 26 then 10 else if ch = 27 then 100
  else if ch < 36 then 320 else if ch < 46 then 25 else if ch = 46 then 20 else 10

/-- V_REFI in µV (R400). -/
abbrev vRefi : Nat := 2500000

/-- The corrected code of a slice's result (R408), clipped (R400). -/
def hkCorrect (s : State) (slice : Fin 5) (raw : Nat) : Nat :=
  (clampI 0 4095 (divHalfUpI (((raw : Int) * 16 - s.hk.ofs[slice]) * (s.hk.gain[slice] : Int)) (16 * 16384))).toNat

/-- `HK_VALUE` of a code, µV at the node; the manual states no rounding. -/
def hkMicrovolt (s : State) (ch code vref : Nat) : Int :=
  reported s 428 ((code * vref * hkDivider ch : Nat) / (40960 : Rat))

/-- V_REF of a channel under R406: `vref` is what stands at the external reference or `VIO`. -/
def hkRefOf (s : State) (ch : Fin 48) (vref : Nat) : Nat := if ch.val < 8 && decide (s.hk.refSel ≠ 0) then vref else vRefi

/-- The window comparison of R404: armed and outside raises one event; armed again `HK_WIN_HYST` codes inside both edges. -/
def hkWindow (ch : Fin 48) (code : Nat) (s : State) : State :=
  let out := decide (code < s.hkWinLo ch) || decide (s.hkWinHi ch < code)
  if out then
    if s.hk.armed[ch] then
      eventEdge 2 (modHk (fun h => { h with
        armed := vset h.armed ch false, outside := vset h.outside ch true, evt := vset h.evt ch true }) s)
    else s
  else if s.hkWinLo ch + s.hkWinHyst ≤ code ∧ code + s.hkWinHyst ≤ s.hkWinHi ch then
    modHk (fun h => { h with armed := vset h.armed ch true, outside := vset h.outside ch false }) s
  else s

/-- One result (R403, R406): a change of reference takes effect at a conversion of channels 0 to 7 and starts the settling,
in which their results carry bit [15] and raise no event. -/
def hkResult (ch : Fin 48) (slice : Fin 5) (raw vref : Nat) (s : State) : State :=
  let s1 := if ch.val < 8 && decide (s.hkRefSel ≠ s.hk.refSel)
    then modHk (fun h => { h with refSel := s.hkRefSel, settling := true }) s else s
  let code := hkCorrect s1 slice (min 4095 raw)
  let settle := decide (ch.val < 8) && s1.hk.settling
  let s2 := modHk (fun h => { h with
    result := vset h.result ch (code + 32768 * bit settle)
    value := vset h.value ch (hkMicrovolt s1 ch code (hkRefOf s1 ch vref)) }) s1
  if settle then s2 else hkWindow ch code s2

/-- The channels a scan mask names, ascending. -/
def maskChannels (m : Nat) : List (Fin 48) := (allFin 48).filter fun c => m.testBit c

/-- A scan starts: the written mask takes effect (R401). -/
def hkScanStart (s : State) : State :=
  modHk (fun h => { h with mask := s.hkScanMask, next := ((maskChannels s.hkScanMask).head?.map (·.val)).getD 0 }) s

/-- The scan goes on behind channel `ch`, or completes and starts anew (R401). -/
def hkScanNext (ch : Fin 48) (s : State) : State :=
  match (maskChannels s.hk.mask).find? fun c => decide (ch.val < c.val) with
  | some c => modHk (fun h => { h with next := c.val }) s
  | none => hkScanStart (modHk (fun h => { h with scanCnt := satAdd max32 h.scanCnt 1 }) s)

/-- The converter is clocked (R88). -/
def hkClocked (s : State) : Bool := sysRuns s

/-- HK_CONVERSION_END (R401, R403, R404, R412): the result of the scan's next channel; the one in progress at a disable is
discarded. -/
def execHkConversionEnd (ch : Fin 48) (slice : Fin 5) (raw vref : Nat) (s : State) : Res :=
  if !hkClocked s || s.hk.calibrating then .next s
  else if s.hk.disabling then .next (hkScanStart (modHk (fun h => { h with disabling := false }) s))
  else if !s.hkScanEn || !s.hk.mask.testBit ch || decide (ch.val ≠ s.hk.next) then .next s
  else .next (hkScanNext ch (hkResult ch slice raw vref s))

/-! ### Remote temperature inputs (R416 to R418) -/

/-- A temperature in 0.1 °C from an exact value; the manual states no rounding. DESIGN CHOICE, log entry 14. -/
def tenths (s : State) (use : Nat) (x : Rat) : Int :=
  x.floor + (if Config.freeBool use s.freeCtr && decide ((x.floor : Rat) ≠ x) then 1 else 0)

/-- The series of artanh: `n` terms from the power `a` = z^k on, z² = `w`. -/
def artanhSum (w : Rat) : Nat → Nat → Rat → Rat
  | 0, _, _ => 0
  | n + 1, k, a => a / (k : Rat) + artanhSum w n (k + 2) (a * w)

/-- ln x to some 13 digits, for x between 2/3 and 4/3 after at most `f` halvings or doublings. -/
def lnSeries : Nat → Rat → Rat
  | 0, x => let z := (x - 1) / (x + 1); 2 * artanhSum (z * z) 12 1 z
  | f + 1, x =>
    let ln2 := 2 * artanhSum (1 / 9) 15 1 (1 / 3)
    if 4 / 3 < x then lnSeries f (x / 2) + ln2
    else if x < 2 / 3 then lnSeries f (2 * x) - ln2
    else let z := (x - 1) / (x + 1); 2 * artanhSum (z * z) 12 1 z

/-- The natural logarithm of R416 for 2^-30 ≤ x ≤ 2^30: within 10^-12 of the series it is free; outside it is free.
DESIGN CHOICE, log entry 12. -/
def ln (x : Rat) : Rat :=
  if x * 2 ^ 30 < 1 || decide (2 ^ 30 < x) then Config.lnRat x else
    let y := lnSeries 32 x
    max (y - 1 / 10 ^ 12) (min (y + 1 / 10 ^ 12) (Config.lnRat x))

/-- The temperature of a remote input from its code (R416), 0.1 °C. -/
def tsTemp (s : State) (n : Fin 8) (code : Nat) : Int :=
  let v : Rat := (code : Rat) * 2500000 / 4096
  let t : Rat :=
    if s.tsMode n = 1 then v / (16 * ((s.tsEta n : Rat) / 1000) * (19842 / 100)) - 27315 / 100
    else 1 / (100 / 29815 + ln (v / 100 / (s.tsRnom n : Rat)) / (s.tsBeta n : Rat)) - 27315 / 100
  tenths s 416 (t * 10 + (s.tsOfs n : Rat))

/-- `TS_STATUS` (R429). -/
def tsStatus (x : TsInput) : Nat := bitsOf [x.valid, x.isOpen, x.shorted]

/-- One remote input after its channel's conversion (R416, R417); an input that becomes open or shorted is logged.
DEDUCED, log entry 72. -/
def tsUpdate (n : Fin 8) (s : State) : State :=
  let code := s.hk.result[(⟨8 + n.val, by omega⟩ : Fin 48)] % 4096
  let old := s.therm.ts[n]
  if s.tsMode n = 0 then modTherm (fun t => { t with ts := vset t.ts n { old with valid := false, isOpen := false, shorted := false } }) s
  else
    let op := decide (3900 < code)
    let sh := decide (code < if s.tsMode n = 1 then 500 else 17)
    let x : TsInput :=
      if op || sh then { old with valid := false, isOpen := op, shorted := sh } else ⟨tsTemp s n code, true, false, false⟩
    let s1 := modTherm (fun t => { t with ts := vset t.ts n x }) s
    if (op && !old.isOpen) || (sh && !old.shorted) then logFault .tsFault 0 n (tsStatus x) s1 else s1

/-! ### Die temperatures (R413 to R415, R418, R423) -/

/-- The sensors of a die (R429): six on the helm die, four on a rail die. -/
def dieSensors (d : Fin 8) : List (Fin 34) :=
  (allFin 34).filter fun i => if d.val = 0 then decide (i.val < 6) else decide (6 + 4 * (d.val - 1) ≤ i.val ∧ i.val < 6 + 4 * d.val)

/-- The die exists (die 0 is the helm die). -/
def thermDiePresent (s : State) (d : Fin 8) : Bool := decide (d.val ≤ s.part.dies)

/-- The slow round mode of R413; `TEST_EN` is honoured in BLANK and DEVELOP (R64, R543). -/
def slowMode (s : State) : Bool :=
  !s.boot.step8 || (s.straps.testEn && decide (s.mram.lc < 2))

/-- The throttle threshold of a die (R413). -/
def thrThreshold (s : State) (d : Fin 8) : Int := if d.val = 0 then s.thrTHelm else s.thrTRail

/-- Insert into an ascending list. -/
def insAsc (x : Int) : List Int → List Int
  | [] => [x]
  | y :: l => if x ≤ y then x :: y :: l else y :: insAsc x l

/-- Twice the median: of an even number, the sum of the middle two. DESIGN CHOICE, log entry 15; DEDUCED, log entry 72. -/
def median2 (l : List Int) : Int :=
  let q := l.foldr insAsc []
  q.getD ((l.length - 1) / 2) 0 + q.getD (l.length / 2) 0

/-- A plausible sample (R414). -/
def plausible (m2 t : Int) : Bool :=
  decide (-500 ≤ t) && decide (t ≤ 1800) && decide (2 * t - m2 ≤ 200) && decide (m2 - 2 * t ≤ 200)

/-- A sensor after a sample (R414): excluded after three implausible, included after 100 plausible samples in a row.
DESIGN CHOICE, log entry 15. -/
def sensorStep (ok : Bool) (t : Int) (x : RoSensor) : RoSensor :=
  if ok then
    let good := min 100 (x.good + 1)
    { t := t, bad := 0, good := good, excl := x.excl && decide (good < 100) }
  else
    let bad := min 3 (x.bad + 1)
    { t := t, bad := bad, good := 0, excl := x.excl || decide (3 ≤ bad) }

/-- The included sensors of a die. -/
def includedSensors (s : State) (d : Fin 8) : List (Fin 34) := (dieSensors d).filter fun i => !s.therm.ro[i].excl

/-- The included sensors of a die as a mask of its local numbers. -/
def includedMask (s : State) (d : Fin 8) : Nat := bitsOf ((dieSensors d).map fun i => !s.therm.ro[i].excl)

/-- Enough sensors are included (R415). -/
def enoughSensors (s : State) (d : Fin 8) : Bool := decide ((if d.val = 0 then 3 else 2) ≤ (includedSensors s d).length)

/-- The highest of a list of temperatures. -/
def maxTemp : List Int → Option Int
  | [] => none
  | t :: l => some (l.foldl max t)

/-- The highest valid remote input that stands in for a die (R418). -/
def fallbackTemp (s : State) (d : Fin 8) : Option Int :=
  maxTemp (((allFin 8).filter fun n => s.therm.ts[n].valid && decide (s.tsDie n = d.val)).map fun n => s.therm.ts[n].t)

/-- Change the thermal state of a die. -/
def modDieT (d : Fin 8) (f : DieTherm → DieTherm) (s : State) : State := modTherm (fun t => { t with die := vmod t.die d f }) s

/-- The step of each rail in `THR_RAILS`, and the copies of its ganged group where they now differ (R264, R420). A
station-kept rail takes its factor at re-adoption (R422). -/
def applyThrottle (s : State) : State :=
  let s1 := (allFin 28).foldl (fun a r =>
    if railPresent a r && a.thrRails.testBit r && !a.rails[r].stationKept then modProt r (fun p => { p with thrN := railThrottle a r }) a else a) s
  (allFin 4).foldl (fun a g => match gangRail a g with
    | some r => if gangStands a g && (decide (a.gangs[g].valley ≠ valleyTarget a r) || decide (a.gangs[g].tot ≠ a.ocTot r))
      then gangRequest g (.limits (valleyTarget a r) (a.ocTot r)) a else a
    | none => a) s1

/-- A die's step becomes `n` (R422): counted, event source 3, the level source of a rail die, and the first rise of a die
logged. DEDUCED, log entry 72. -/
def setStep (d : Fin 8) (n : Nat) (s : State) : State :=
  let old := s.therm.die[d]
  if old.n = n then s else
    let s1 := eventEdge 3 (modTherm (fun t => { t with stepCnt := satAdd max32 t.stepCnt 1 })
      (modDieT d (fun x => { x with n := n, logged := x.logged || decide (x.n = 0) }) s))
    let s2 := if 0 < d.val then eventLevel (70 + 8 * (d.val - 1)) (decide (0 < n)) s1 else s1
    if old.n = 0 && !old.logged then logFault .throttle d d n s2 else s2

/-- Thermal shutdown (R423, R424): the latch, its path and its die, then the class A path. With the latch already set the
device stays in its hold (R112); in hold-up only the latch is set. DEDUCED, log entry 72. -/
def thermShutdown (path : Fin 3) (d : Fin 8) (s : State) : State :=
  if s.therm.latch then s else
    let s1 := modTherm (fun t => { t with latch := true, path := setBit t.path path, latchDie := d.val }) s
    if s.boot.phase = .holdUp then s1 else classA .thermalShutdown d d (2 ^ path.val) s1

/-- The temperature of a die in fall-back (R418): from its remote inputs, or THERMAL_BLIND with its step at `THR_NMAX` at once, whatever
`THR_EN` holds. DEDUCED, log entry 72. -/
def fallbackUpdate (d : Fin 8) (s : State) : State :=
  match fallbackTemp s d with
  | some t =>
    let s1 := modDieT d (fun x => { x with t := t, source := .fallback, fast := false }) s
    if 1650 ≤ t then thermShutdown 2 d s1 else s1
  | none =>
    if s.therm.die[d].source = .blind then s else
      let s1 := logFault .thermalBlind d d 0 (modDieT d (fun x => { x with source := .blind, fast := false }) s)
      applyThrottle (setStep d s.thrNmax s1)

/-- The source and value of a die's temperature after a sample (R415, R418). DEDUCED, log entry 72. -/
def dieTempUpdate (d : Fin 8) (s : State) : State :=
  if enoughSensors s d then
    match maxTemp ((includedSensors s d).map fun i => s.therm.ro[i].t) with
    | some t =>
      let th := thrThreshold s d
      modDieT d (fun x => { x with
        t := t, source := .sensors
        fast := !slowMode s && (decide (th - 100 ≤ t) || (x.fast && decide (th - 120 ≤ t))) }) s
    | none => s
  else if s.therm.die[d].source = .sensors then
    fallbackUpdate d (logFault .dieTFallback d d (includedMask s d) (modDieT d (fun x => { x with source := .fallback, fast := false }) s))
  else s

/-- The sensors of the die sample now: every die in RUN, only the helm die in DOZE and none in PARK (R415). -/
def dieSampled (s : State) (d : Fin 8) : Bool :=
  sysRuns s && (decide (d.val = 0) || decide (s.pwr.state = .run))

/-- RO_SAMPLE (R413 to R415, R423): plausibility, exclusion, the die's temperature and the comparison with T_SD. -/
def execRoSample (die : Fin 8) (temps : List Int) (s : State) : Res :=
  if !thermDiePresent s die then .fault .absentInPart
  else if !dieSampled s die then .next s
  else
    let l := (dieSensors die).zip temps
    let m2 := median2 (l.map (·.2))
    let s1 := l.foldl (fun a x =>
      let y := sensorStep (plausible m2 x.2) x.2 a.therm.ro[x.1]
      let a1 := modTherm (fun t => { t with ro := vset t.ro x.1 y }) a
      if y.excl && !a.therm.ro[x.1].excl then logFault .roImplausible die die x.1 a1 else a1) s
    let s2 := dieTempUpdate die s1
    .next (if l.any fun x => plausible m2 x.2 && decide (1650 ≤ x.2) then thermShutdown 0 die s2 else s2)

/-- THERMAL_COMPARATOR (R423): in every power state except OFF. -/
def execThermalComparator (s : State) : Res :=
  .next (if s.boot.phase = .porHeld || s.pwr.state = .off then s else thermShutdown 1 0 s)

/-! ### The slow round (R402) -/

/-- `PACK_T` from channel 26, 0.1 °C: the NTC of the pack below the bias of 10 kΩ to 2.5 V. DEDUCED, log entry 51. -/
def pktTemp (s : State) : Int :=
  let code := s.hk.result[(26 : Fin 48)] % 4096
  let r : Rat := 10000 * (code : Rat) / ((4096 - code : Nat) : Rat)
  tenths s 426 ((1 / (100 / 29815 + ln (r / (s.pktRnom : Rat)) / (s.pktBeta : Rat)) - 27315 / 100) * 10)

/-- What the device's own functions read from channels 16 to 47 (R400, R402), in mV. -/
def hkReadings (s : State) : State :=
  let mv (c : Nat) : Nat := (reported s 402 (((s.hk.value.toList.getD c 0 : Int) : Rat) / 1000))
  { s with
    zin := Vector.ofFn fun n => { s.zin[n] with v := mv (16 + n) }
    fo := Vector.ofFn fun n => { s.fo[n] with v := mv (28 + n) }
    regs := Vector.ofFn fun n => { s.regs[n] with v := mv (36 + n) }
    pp := { s.pp with lbusV := mv 24, packV := mv 25, packT := pktTemp s }
    nv := { s.nv with hucap := mv 27 } }

/-- HK_SLOW_ROUND (R402, R405, R418): all 48 channels in ascending order; waits while a self-calibration runs.
DEDUCED, log entry 51. -/
def execHkSlowRound (raws : List (Fin 5 × Nat)) (vref : Nat) (s : State) : Res :=
  if !hkClocked s || s.hk.calibrating then .next s else
    let s0 := if s.hk.disabling then hkScanStart (modHk (fun h => { h with disabling := false }) s) else s
    let s1 := ((allFin 48).zip raws).foldl (fun a x => hkResult x.1 x.2.1 x.2.2 vref a) s0
    let s2 := (allFin 8).foldl (fun a n => tsUpdate n a) (hkReadings (if s1.hk.mask = 0 then hkScanStart s1 else s1))
    .next ((allFin 8).foldl (fun a d => if thermDiePresent a d && decide (a.therm.die[d].source ≠ .sensors) then fallbackUpdate d a else a) s2)

/-! ### Disable, calibration, reference -/

/-- A conversion of a scan is in progress. -/
def hkScanning (s : State) : Bool := s.hkScanEn && decide (s.hk.mask ≠ 0) && !s.hk.calibrating && !s.hk.disabling

/-- A write of 0 to `HK_SCAN_EN` (R412). -/
def hkDisableOp (s : State) : State :=
  modHk (fun h => { h with disabling := h.disabling || hkScanning s }) (s.store (okey 0x2900 0x01) 0)

/-- HK_SCAN_DISABLE (R412). -/
def execHkScanDisable (p : Port) (s : State) : Res := .next (directWrite p (okey 0x2900 0x01) s fun s => (hkDisableOp s, .done))

/-- A write of `HK_CAL_CMD` (R408, R409). -/
def hkCalOp (value : Nat) (s : State) : State × Ack :=
  if s.hk.calibrating then (s, .abort .state)
  else if value ≠ 1 then (s, .done) else (modHk (fun h => { h with calibrating := true }) s, .done)

/-- HK_CAL_CMD (R408). -/
def execHkCalCmd (p : Port) (value : Nat) (s : State) : Res := .next (directWrite p (okey 0x2900 0x05) s (hkCalOp value))

/-- SELF_CALIBRATION_DONE (R408 to R411): the factors are stored, the scan resumes at channel 0, background calibration runs
unless a slice is retired. -/
def execSelfCalibrationDone (gain : Vector Nat 5) (ofs : Vector Int 5) (s : State) : Res :=
  .next (if s.hk.calibrating then
    hkScanStart (modHk (fun h => { h with
      calibrating := false, calValid := true, background := h.retired.isNone, gain := gain, ofs := ofs,
      gain0 := gain, ofs0 := ofs }) s)
  else s)

/-- A slice's new factors differ too far from its self-calibration (R411): gain by more than 2 %, offset by more than 16
codes. -/
def sliceBad (h : HkState) (i : Fin 5) (gain : Nat) (ofs : Int) : Bool :=
  let d : Int := (gain : Int) - (h.gain0[i] : Int)
  let o : Int := ofs - h.ofs0[i]
  decide ((h.gain0[i] : Int) < 50 * d) || decide ((h.gain0[i] : Int) < -(50 * d)) || decide (256 < o) || decide (o < -256)

/-- BACKGROUND_CALIBRATION (R410, R411): the spare takes the place of the slice behind it in the order 0 to 4, which is calibrated
and becomes the spare, or is retired. DEDUCED, log entry 51. -/
def execBackgroundCalibration (slice : Fin 5) (gain : Nat) (ofs : Int) (s : State) : Res :=
  if !hkClocked s || s.hk.calibrating || !s.hk.background || decide (slice.val ≠ (s.hk.spare.val + 1) % 5) then .next s else
    let bad := sliceBad s.hk slice gain ofs
    let s1 := modHk (fun h => { h with
      gain := vset h.gain slice gain, ofs := vset h.ofs slice ofs, spare := slice,
      retired := if bad then some slice else none, background := !bad }) s
    .next (if bad then logFault .hkSliceRetired 0 slice (gain % 65536 + 65536 * toTwos 16 ofs) s1 else s1)

/-- HK_REF_SEL_WRITE (R406): the choice waits for the next conversion of channels 0 to 7. -/
def execHkRefSelWrite (p : Port) (value : Nat) (s : State) : Res :=
  .next (directWrite p (okey 0x2900 0x03) s fun s => (s.store (okey 0x2900 0x03) value, .done))

/-- REF_SETTLING_END (R406). -/
def execRefSettlingEnd (s : State) : Res := .next (modHk (fun h => { h with settling := false }) s)

/-! ### Throttling (R419 to R426) -/

/-- The next step of a die (R419), from 0 to `THR_NMAX`; a THERMAL_BLIND die keeps `THR_NMAX`. DEDUCED, log entry 72. -/
def nextStepOf (s : State) (d : Fin 8) : Nat :=
  let x := s.therm.die[d]
  if s.therm.disabling then x.n - 1
  else if x.source = .blind then s.thrNmax
  else min s.thrNmax
    (if thrThreshold s d ≤ x.t then x.n + 1 else if x.t < thrThreshold s d - s.thrHyst then x.n - 1 else x.n)

/-- THROTTLE_EVALUATION (R419, R420, R426); without effect where it meets a shutdown (R425): one that an activation pause holds, since any
other is already a reset. -/
def execThrottleEvaluation (s : State) : Res :=
  if !sysRuns s || !(s.thrEn || s.therm.disabling) || (s.therm.latch && s.update.pause) then .next s else
    let s1 := (allFin 8).foldl (fun a d => if thermDiePresent a d then setStep d (nextStepOf s d) a else a) s
    let s2 := if s.therm.disabling && (allFin 8).all (fun d => decide (s1.therm.die[d].n = 0))
      then modTherm (fun t => { t with disabling := false }) s1 else s1
    .next (applyThrottle s2)

/-- A write of `THR_EN` (R426): 0 is the disable; a 1 before its boundary is held by the setting. -/
def thrEnOp (value : Nat) (s : State) : State :=
  let s1 := s.store (okey 0x2910 0x01) value
  if value = 0 && (allFin 8).any (fun d => decide (0 < s.therm.die[d].n)) then modTherm (fun t => { t with disabling := true }) s1 else s1

/-- A write of `THR_RAILS`: a rail removed returns to `OC_VALLEY` at once (coincidences of R425). -/
def thrRailsOp (value : Nat) (s : State) : State :=
  let s1 := s.store (okey 0x2910 0x06) value
  let s2 := (allFin 28).foldl (fun a (r : Fin 28) => if value.testBit r then a else modProt r (fun p => { p with thrN := 0 }) a) s1
  (allFin 4).foldl (fun a g => match gangRail a g with
    | some r => if gangStands a g && !value.testBit r && decide (a.gangs[g].valley ≠ valleyTarget a r)
      then gangRequest g (.limits (valleyTarget a r) (a.ocTot r)) a else a
    | none => a) s2

end Sys2Proof.Machine
end

