-- ==== Sys2Proof/Machine/Lantern.lean ====
section
/-! DEFINITION. The commands of chapter 10: source type, Lantern bus, charger, power path. -/

namespace Sys2Proof.Machine

/-- SERVICE_QUALIFIED (R304): the service path is qualified; its diode conducts unless it is in reverse turn-off. -/
def execServiceQualified (s : State) : Res :=
  .next (sourceEval (modPp (fun p => { p with svcQual := true, svcPulled := false }) s))

/-- SERVICE_WINDOW_EXIT (R304). -/
def execServiceWindowExit (s : State) : Res := .next (sourceEval (modPp (fun p => { p with svcQual := false }) s))

/-- SERVICE_REVERSE_TURN_OFF (R304). -/
def execServiceReverseTurnOff (s : State) : Res := .next (sourceEval (modPp (fun p => { p with svcRev := true }) s))

/-- SERVICE_DIODE_CONDUCTS (R304). -/
def execServiceDiodeConducts (s : State) : Res := .next (sourceEval (modPp (fun p => { p with svcRev := false }) s))

/-- An accepted announcement (R305): valid until it times out; 0 counts as none. -/
def announce (n : Fin 4) (value : Nat) (s : State) : State :=
  sourceEval (modPp (fun p => { p with annc := vset p.annc n ⟨value, decide (value ≠ 0)⟩ })
    (s.store (okey 0x2703 (n + 1)) value))

/-- SRC_ANNC_WRITE (R305): from CAN port n alone. -/
def execSrcAnncWrite (p : Port) (n : Fin 4) (value : Nat) (s : State) : Res :=
  .next (directWrite p (okey 0x2703 (n + 1)) s fun s => (announce n value s, .done))

/-- SRC_ANNC_TIMEOUT (R305). DESIGN CHOICE, log entry 4. -/
def execSrcAnncTimeout (n : Fin 4) (s : State) : Res :=
  .next (sourceEval (modPp (fun p => { p with annc := vmod p.annc n fun a => { a with valid := false } }) s))

/-- SOURCE_TYPE_CHANGE (R306, R307): the limit of the type in force takes effect. -/
def execSourceTypeChange (s : State) : Res :=
  .next (limitTaken (sourceEval s))

/-- The charge target of a state (R310), mA. -/
def chgTarget (s : State) : Rat :=
  match s.chg.phase with
  | .precharge => s.chgIpre
  | .fast => s.chgIfast
  | .trickle => (capacity s : Rat) / 40
  | _ => 0

/-- V_LHR lies between 80 mV and 120 mV (R330); where in that range is open. DESIGN CHOICE, log entry 43. -/
def vLhr (s : State) : Nat := 80 + Config.free 302 s.freeCtr % 41

/-- V_REV lies between 5 mV and 15 mV (chapter 05); where in that range is open. DESIGN CHOICE, log entry 43. -/
def vRev (s : State) : Nat := 5 + Config.free 132 s.freeCtr % 11

/-- I_CHOUT (R301, R330), mA. -/
abbrev iChout : Nat := 4000

/-- The factor 16 F of the helm die on the charge target and I_CHOUT (R421), sixteenths. -/
def chgFactor (s : State) : Rat := ((if s.thrChg then 16 - thrStep s 0 else 16 : Nat) : Rat)

/-- I_CHOUT × F, mA (R421). DEDUCED, log entry 50. -/
def choutLimit (s : State) : Rat := (iChout : Rat) * chgFactor s / 16

/-- The charger's output current in mA at which the `CHVIN` current reaches `SRC_ILIM` (R306, R308). -/
def inputCap (s : State) (m : ChargeMeas) : Rat :=
  if m.lbus = 0 then iChout else ((m.chvin * ilimOf s s.pp.limTyp * m.eff : Nat) : Rat) / ((m.lbus * 1000 : Nat) : Rat)

/-- The charge current of R308 for a target in mA and the flags of its limits 2, 3 and 4. DEDUCED, log entry 50. -/
def chargeCurrent (s : State) (m : ChargeMeas) (target : Rat) : Rat × Bool × Bool × Bool :=
  let lOut : Rat := max 0 (choutLimit s - (m.loads : Rat))
  let lIn : Rat := max 0 (inputCap s m - (m.loads : Rat))
  let linear := decide (m.vpkp + vLhr s < s.lbusVset)
  let lFet : Rat := if linear && decide (m.vpkp < m.lbus) then ((s.pkFetPmax * 1000 : Nat) : Rat) / ((m.lbus - m.vpkp : Nat) : Rat) else target
  let c := min target (min lOut (min lIn lFet))
  (c, decide (c < target) && decide (c = lIn), decide (c < target) && decide (c = lOut), decide (c < target) && decide (c = lFet))

/-- The level at which the charger regulates `LBUS` (R302), at most 19.5 V (R71); without a pack it is `LBUS_VSET` (R318). -/
def lbusLevel (s : State) (vpkp : Nat) : Nat := min 19500 (if s.pp.present then max s.lbusVset (vpkp + vLhr s) else s.lbusVset)

/-- The charger has a source to regulate from (R322): the power path has one, and `CHVIN` does not show it gone. DEDUCED, log entry 50. -/
def chargerFed (s : State) (m : ChargeMeas) : Bool := hasSource s s.zbus.v && (decide (s.hoThr ≤ m.chvin) || s.pp.svcQual)

/-- `LBUS` in a cycle (R302, R309, R318, R330): regulated within ±2 % of its level; riding on a pack that is charged above
`LBUS_VSET` no lower than the pack; what is measured while the charger is stopped, overloaded or without a source (R322); never above
19.5 V or a clamp. DEDUCED, log entry 50. -/
def lbusMeasured (s : State) (m : ChargeMeas) (ovl : Bool) : Nat :=
  let l := lbusLevel s m.vpkp
  let v :=
    if !s.pp.regulating || ovl || !chargerFed s m then m.lbus
    else if s.chg.phase.charging && decide (s.lbusVset ≤ m.vpkp + vLhr s) then max m.vpkp m.lbus
    else max (l * 98 / 100) (min (l * 102 / 100) m.lbus)
  min 19500 (if s.pp.clamp then min s.pp.clampMax v else v)

/-- FAST and precharge times count while in the state, the retained counters follow each minute (R311, R377).
DEDUCED, log entry 50. -/
def countChgTime (s : State) : State :=
  match s.chg.phase with
  | .fast =>
    let s1 := modChg (fun c => { c with fastTime := c.fastTime + 1 }) s
    if s1.chg.fastTime % 6000000 = 0 then ctrAppend ctrFast (s1.chg.fastTime / 6000000) s1 else s1
  | .precharge =>
    let s1 := modChg (fun c => { c with preTime := c.preTime + 1 }) s
    if s1.chg.preTime % 6000000 = 0 then ctrAppend ctrPre (s1.chg.preTime / 6000000) s1 else s1
  | _ => s

/-- The loads alone reach a limit (R309). -/
def overloaded (s : State) (m : ChargeMeas) : Bool :=
  decide (choutLimit s ≤ (m.loads : Rat)) || decide (inputCap s m ≤ (m.loads : Rat))

/-- An overload (R309): logged once, the limit held shown as active; the pack FET is on as an ideal diode once `LBUS` has fallen below
V_PKP by V_REV, and stays so while the overload stands. -/
def overloadOp (m : ChargeMeas) (s : State) : State :=
  let ovl := overloaded s m
  let s1 := modPp (fun p => { p with
    overload := ovl
    limIn := p.limIn || decide (inputCap s m ≤ (m.loads : Rat)), limOut := p.limOut || decide (choutLimit s ≤ (m.loads : Rat))
    fet := if ovl && (decide (m.lbus + vRev s ≤ m.vpkp) || (s.pp.overload && decide (p.fet = .full))) then .full else p.fet }) s
  if ovl && !s.pp.overload then logFault .lbusOverload 0 0 (ppStatus s1) s1 else s1

/-- Whether the charger regulates `LBUS` in this cycle: until step 6 of the boot after a power-on reset once `CHVIN` is at 9 V (R327), in
PARK only while a `PARK_KEEP` item is on (R329), else, a full reset included, as the power path has it; never for a thermal shutdown
(R424). -/
def regulates (s : State) (m : ChargeMeas) : Bool :=
  !thermalOff s && match s.boot.phase, s.boot.cold with
    | .strapWait, true | .selfTest, true | .halted, true => decide (9000 ≤ m.chvin)
    | _, _ => s.pp.regulating && (decide (s.pwr.state ≠ .park) || anyKeptOn s)

/-- The pack FET in a cycle of a regulating charger (R110, R299, R302, R309, R325, R327): by `ZBUS` where it follows that; fully on out of
SOURCE; in SOURCE as charging needs, but full while an overload has made it the ideal diode. -/
def cycleFet (s : State) (m : ChargeMeas) : FetMode :=
  if fetByBus s then (if s.zbus.v < s.hoThr then .full else .off)
  else if s.pp.phase ≠ .source then .full
  else if s.pp.overload && decide (s.pp.fet = .full) && overloaded s m then .full
  else if s.chg.phase.charging then (if m.vpkp + vLhr s < s.lbusVset then .linear else .full)
  else .off

/-- The output current of the charger and its `CHVIN` current (R301, R306): the loads and the charge current, never above I_CHOUT nor
`SRC_ILIM`. DEDUCED, log entry 50. -/
def chargerOut (m : ChargeMeas) (c : Rat) (s : State) : State :=
  let out := min ((m.loads : Rat) + c) (min (choutLimit s) (inputCap s m))
  let iin : Rat := if m.chvin * m.eff = 0 then 0 else out * ((m.lbus * 1000 : Nat) : Rat) / ((m.chvin * m.eff : Nat) : Rat)
  modPp (fun p => { p with lbusIout := out.floor.toNat, chgIin := min (ilimOf s p.limTyp) iin.floor.toNat }) s

/-- `LBUS` of the cycle; a clamp ends once `LBUS` is down at the level without the pack (R318). -/
def lbusOp (m : ChargeMeas) (s : State) : State :=
  let v := lbusMeasured s m (overloaded s m)
  modPp (fun p => { p with lbusV := v, clamp := p.clamp && decide (s.lbusVset * 102 / 100 < v) }) s

/-- CHARGER_CONTROL_CYCLE (R300 to R309, R315): one 10 µs cycle. While DISABLING the current ramps to zero over t_CRMP, by
a course the manual does not state: it does not rise. DEDUCED, log entries 8 and 50. -/
def execChargerControlCycle (m : ChargeMeas) (s : State) : Res :=
  let s0 := modChg (fun c => { c with swOc := m.swOc })
    (modPp (fun p => { p with packV := m.vpkp, packT := m.temp, regulating := regulates s m }) s)
  if !s0.pp.regulating then
    .next (packCheck (lbusOp m (chargerStop s0)))
  else
    let bits := backstopBits s0 m.vpkp m.temp m.swOc
    let s1 := countChgTime s0
    let s2 := if s1.chg.phase.charging && decide (bits ≠ 0) then chgFaultSet bits s1 else s1
    let target := if s2.chg.phase = .disabling then s2.chg.current * ((Config.free 328 s2.freeCtr % 1001 : Nat) : Rat) / 1000
      else chgTarget s2 * chgFactor s2 / 16
    let (c, li, lo, lf) := chargeCurrent s2 m target
    let s3 := modChg (fun x => { x with current := c })
      (modPp (fun p => { p with limIn := li, limOut := lo, limFet := lf, fet := cycleFet s2 m }) s2)
    let s4 := packCheck (lbusOp m (overloadOp m (chargerOut m c s3)))
    .next { s4 with freeCtr := s4.freeCtr + 1 }

/-- LBUS_GOOD_RISE (R303): the bus is good unless an end of discharge holds it off. -/
def execLbusGoodRise (s : State) : Res := .next (modPp (fun p => { p with lbusUp := true, lbusGood := !p.eodHeld }) s)

/-- LBUS_GOOD_FALL (R303): a running outing ends (R325, R355). -/
def execLbusGoodFall (s : State) : Res :=
  .next (outingEnd 5 (modPp (fun p => { p with lbusUp := false, lbusGood := false }) s))

/-- `CHG_EN` cleared (R311, R328): DISABLING until the current is zero. -/
def chgDisable (s : State) : State :=
  match s.chg.phase with
  | .off => s
  | .disabling => modChg (fun c => { c with enHeld := false }) s
  | _ => chgTo .disabling (modChg (fun c => { c with enHeld := false }) s)

/-- The boundary of the charger's disable (R328): charge current at zero; a held enable takes effect (R44). -/
def chgDisabled (s : State) : State :=
  if s.chg.phase ≠ .disabling then s else
    let s1 := chgTo .off (modChg (fun c => { c with current := 0, enHeld := false }) s)
    if s.chg.enHeld then chgEnable s1 else s1

/-- CHG_EN_SET (R311). -/
def execChgEnSet (p : Port) (s : State) : Res :=
  .next (directWrite p (okey 0x2701 0x01) s fun s => (chgEnable (s.store (okey 0x2701 0x01) 1), .done))

/-- CHG_EN_CLEAR (R328). -/
def execChgEnClear (p : Port) (s : State) : Res :=
  .next (directWrite p (okey 0x2701 0x01) s fun s => (chgDisable (s.store (okey 0x2701 0x01) 0), .done))

/-- CHARGE_START_CONDITIONS (R310, R311): the conditions are judged again with a temperature and V_PKP. -/
def execChargeStartConditions (t : Int) (v : Nat) (s : State) : Res :=
  let s1 := packCheck (modPp (fun p => { p with packT := t, packV := v }) s)
  if startConditions s1 t then
    let s2 := modChg (fun c => { c with tempPause := false }) s1
    .next (if s.chg.phase = .wait && cellsOk s then
      if v < s.chgVpre * s.packCells then chgTo .precharge s2
      else chgTo (if s.chg.terminated then .trickle else .fast) s2
    else s2)
  else
    let s2 := if s.chg.phase.charging && !chgTempOk s t then modChg (fun c => { c with tempPause := true }) s1 else s1
    .next (chgPause s2)

/-- CHG_HB_DELAY_END (R310): charging may start. -/
def execChgHbDelayEnd (s : State) : Res :=
  .next (if s.pp.phase = .source && decide (s.boot.phase = .ready ∨ s.boot.phase = .starting) then modChg (fun c => { c with hbDone := true }) s
    else s)

/-- PRECHARGE_DONE (R311). -/
def execPrechargeDone (s : State) : Res := .next (if s.chg.phase = .precharge then chgTo .fast s else s)

/-- PRECHARGE_TIMEOUT (R311): CHG_PRE_TIMEOUT. -/
def execPrechargeTimeout (s : State) : Res := .next (if s.chg.phase = .precharge then chgFaultSet 4 s else s)

/-- Leave FAULT (R311, R316, R318): at the first sample after a read in which no bit is set again. DEDUCED, log entry 51. -/
def faultSample (v : Nat) (t : Int) (s : State) : State :=
  if s.chg.phase = .fault && s.chg.faultRead then
    let bits := persistBits s v t
    if bits = 0 then chgTo .wait (modChg (fun c => { c with faultRead := false }) s) else chgFaultSet bits s
  else s

/-- Two currents differ by more than 5 % of the first (R312). -/
def moved5 (a b : Rat) : Bool := decide (a < (b - a) * 20) || decide (a < (a - b) * 20)

/-- The counts of R313 and R314 after a valid sample `v`, `t`. -/
def sampleCounts (s : State) (v : Nat) (t : Int) (c : ChargerState) : ChargerState :=
  let pk := match c.peak with
    | some p => if c.peakRestart then v else max p v
    | none => v
  let blank := decide (c.fastSamples * 30 < s.chgDvBlank * 60)
  let dv := decide (s.chgDv * s.packCells ≤ pk - v)
  let dt := match c.temps with
    | [_, t2] => decide ((s.chgDtdt : Int) ≤ t - t2)
    | _ => false
  { c with
    peak := some pk, peakRestart := false, temps := t :: c.temps.take 1,
    dvCnt := if blank then 0 else if dv then c.dvCnt + 1 else 0,
    dtCnt := if blank then 0 else if dt then c.dtCnt + 1 else 0 }

/-- A termination (R311, R313, R314): TRICKLE, flag and reasons set, times cleared, the gauge anchored (R338).
DEDUCED, log entry 50. -/
def terminate (bits : Nat) (s : State) : State :=
  chgTo .trickle (gaugeTerminated (clearChgTimes (modChg (fun c => { c with terminated := true, term := bits }) s)))

/-- CHARGE_TERMINATION_SAMPLE (R311 to R316): means of V_PKP and temperature over the last 1 s, with the charge currents
in force during it. In FAULT it is the sample that may end it. -/
def execChargeTerminationSample (v : Nat) (t : Int) (currents : List Nat) (s : State) : Res :=
  let s0 := modPp (fun p => { p with packV := v, packT := t }) s
  match s.chg.phase with
  | .fault => .next (packCheck (faultSample v t s0))
  | .fast =>
    let bits := backstopBits s0 v t s0.chg.swOc
    if bits ≠ 0 then .next (packCheck (chgFaultSet bits s0)) else
      let first : Rat := ((currents.headD 0 : Nat) : Rat)
      let last : Rat := ((currents.getLastD 0 : Nat) : Rat)
      let invalid := currents.any fun i => moved5 first (i : Rat)
      let restart := moved5 s.chg.lastCurrent last && decide (0 < s.chg.fastSamples)
      let s1 := modChg (fun c => { c with
        fastSamples := c.fastSamples + 1, lastCurrent := last, peakRestart := c.peakRestart || restart }) s0
      if invalid then .next (packCheck (modChg (fun c => { c with dvCnt := 0, dtCnt := 0 }) s1))
      else
        let s2 := modChg (sampleCounts s1 v t) s1
        let term := bit (decide (3 ≤ s2.chg.dvCnt)) + 2 * bit (decide (2 ≤ s2.chg.dtCnt))
        .next (packCheck (if term = 0 then s2 else terminate term s2))
  | _ => .next (packCheck s0)

/-- CHARGE_BACKSTOP (R315, R316). -/
def execChargeBackstop (v : Nat) (t : Int) (swOc : Bool) (s : State) : Res :=
  let s0 := modChg (fun c => { c with swOc := swOc }) (modPp (fun p => { p with packV := v, packT := t }) s)
  let bits := backstopBits s0 v t swOc
  .next (packCheck (if s.chg.phase = .fault then faultSample v t s0
    else if s.chg.phase.charging && decide (bits ≠ 0) then chgFaultSet bits s0 else s0))

/-- The tests of R317 while charging: two means of V_PKP further apart than the change of current and `PK_JUMP` explain, or less than
10 % of the charge current in force. -/
def removalShows (s : State) : RemovalSign → Bool
  | .pktOpen => true
  | .jump a b di =>
    let dv : Rat := (((b : Int) - (a : Int)).natAbs : Nat)
    decide (((di.natAbs : Nat) : Rat) * s.gauge.rser / 1000 + ((s.pkJump * s.packCells : Nat) : Rat) < dv)
  | .starved mA => decide (((mA * 10 : Nat) : Rat) < s.chg.current)

/-- PACK_REMOVAL (R317, R318): while charging; current stopped, FET off, `LBUS` clamped at V_LBCL above where it stood, PACK_REMOVED
latched; flag and times cleared (R311). V_LBCL lies between 0.3 V and 0.7 V (R330). DESIGN CHOICE, log entry 43. -/
def execPackRemoval (x : RemovalSign) (s : State) : Res :=
  if !s.chg.phase.charging || !removalShows s x then .next s else
    let s1 := modChg (fun c => { c with current := 0, terminated := false, removed := true }) (modPp (fun p => { p with
      fet := .off, clamp := true, clampMax := p.lbusV + 300 + Config.free 318 s.freeCtr % 401 }) s)
    .next (useFree (packGone (chgFaultSet 16 (clearChgTimes s1))))

/-- PACK_LOST (R317): outside the charging states an open `PKT` clears `PACK_PRESENT`; in ON_PACK or during a hand-over it
is also logged. -/
def execPackLost (s : State) : Res :=
  if s.chg.phase.charging then .next s else
    let s1 := packGone s
    .next (match s.pp.phase with
      | .onPack => logFault .packLost 0 0 2 s1
      | .handingOver => logFault .packLost 0 0 1 s1
      | _ => s1)

/-- A read of `CHG_FAULT` (R316): the bits are returned and cleared. -/
def readChgFault (s : State) : State × Nat :=
  (modChg (fun c => { c with fault := 0, faultRead := c.faultRead || decide (c.phase = .fault) }) s, s.chg.fault)

/-- CHG_FAULT_READ (R316). -/
def execChgFaultRead (p : Port) (s : State) : Res := .next (directRead p (okey 0x2701 0x11) s readChgFault)

/-- SOURCE_LOST (R319 to R326): with `ZBUS` at `zbus` mV and the service path not qualified the source is gone; from SOURCE with a pack
a hand-over starts; HANDING_BACK and OUTING go to ON_PACK; a hand-over already running runs on (R321). -/
def execSourceLost (zbus : Nat) (s : State) : Res :=
  if hasSource s zbus then .next s
  else match s.pp.phase with
  | .source =>
    if !s.pp.present then .next s else
      let s1 := ppTo .handingOver (modPp (fun p => { p with drawing := true, made := false }) s)
      .next (chgPause (if s.pp.fet = .full then makeDone s1 else s1))
  | .handingBack => .next (toOnPack (pathBreak (modPp (fun p => { p with drawing := true }) s)))
  | .outing => .next (outingEnd 6 (toOnPack (modPp (fun p => { p with drawing := true }) s)))
  | .handingOver | .onPack => .next s

/-- HAND_OVER_MAKE_DONE (R320). -/
def execHandOverMakeDone (s : State) : Res :=
  .next (if s.pp.phase = .handingOver && !s.pp.made then makeDone s else s)

/-- HAND_OVER_BREAK_DONE (R320, R311, R342): ON_PACK, `HO_CNT`, the terminated flag and the times cleared; a standing end
of discharge takes the bus down. `t` is the duration in units of 100 ns. -/
def execHandOverBreakDone (t : Nat) (s : State) : Res :=
  if s.pp.phase = .handingOver && s.pp.made then
    let s1 := toOnPack (modPp (fun p => { p with hoCnt := satAdd max32 p.hoCnt 1, hoLastT := min max16 t, made := false }) s)
    let s2 := clearChgTimes (modChg (fun c => { c with terminated := false, hbDone := false }) s1)
    .next (if s2.chg.phase.charging then chgTo .wait s2 else s2)
  else .next s

/-- HAND_BACK_START (R323, R329): from ON_PACK, not in PARK, while a zone channel is in ON and `ZBUS`, at `zbus` mV, at or above
`HO_THR` + `HO_HYST`, or the service path is qualified. -/
def execHandBackStart (zbus : Nat) (s : State) : Res :=
  let zone := (allFin 4).any (fun n => decide (s.zin[n].phase = .on)) && decide (s.hoThr + s.hoHyst ≤ zbus)
  .next (if s.pp.phase = .onPack && (zone || s.pp.svcQual) && decide (s.pwr.state ≠ .park) then handBack s else s)

/-- HAND_BACK_COMPLETE (R323): SOURCE; the FET takes its charging role, `CHG_HB_DELAY` starts (R310), the Lantern bus may be good again
(R303), and the limit is that of the type in force (R306). DEDUCED, log entry 7. -/
def execHandBackComplete (s : State) : Res :=
  if s.pp.phase = .handingBack then
    let s1 := modPp (fun p => { p with
      drawing := false, fet := .off, hbCnt := satAdd max32 p.hbCnt 1, eodHeld := false, lbusGood := p.lbusUp }) s
    .next (bootFet (limitTaken (sourceEval (ppTo .source (modChg (fun c => { c with hbDone := false }) s1)))))
  else .next s

end Sys2Proof.Machine
end

