-- ==== Sys2Proof/Machine/Read.lean ====
section
/-! DEFINITION. What every readable object of the dictionary returns (R551, R552): the measurements, states and counters of
the object tables, the record layouts a read shows (R379, R388, R389, R529), and what a read clears. -/

namespace Sys2Proof.Machine

/-! ### Layouts -/

/-- CRC-32 of R370: reflected polynomial 0x04C11DB7, initial value and final XOR all ones. -/
def crc32 (l : List Byte) : Nat :=
  (l.foldl (fun r b => Nat.repeat (fun x => if x % 2 = 1 then x / 2 ^^^ 0xEDB88320 else x / 2) 8 (r ^^^ b.toNat)) 0xFFFFFFFF) ^^^ 0xFFFFFFFF

/-- The little-endian field of `n` bytes at an offset of a byte string. -/
def fieldAt (l : List Byte) (ofs n : Nat) : Nat := leNat ((l.drop ofs).take n)

/-- Bytes filled with zero to a length. -/
def zeroFill (n : Nat) (l : List Byte) : List Byte := l ++ List.replicate (n - l.length) 0

/-- A journal record (R379). DESIGN CHOICE, log entry 58. -/
def logRecBytes (r : LogRec) : List Byte :=
  let b := leBytes 4 r.seq ++ leBytes 8 r.time ++ leBytes 2 r.boot ++ leBytes 2 r.code ++ leBytes 1 (r.cls + 4 * bit r.fromLf)
    ++ leBytes 1 r.die ++ leBytes 2 r.src ++ leBytes 8 r.detail ++ leBytes 2 r.rep
  b ++ leBytes 2 (crc16 0xFFFF b)

/-- The 4,096-byte content of a Last Fix (R389): head, then the tail's records. -/
def lfContent (x : LfSlot) : List Byte := zeroFill 4096 (zeroFill 512 x.head ++ x.tail.flatMap logRecBytes)

/-- `HW_TYPE` (R529, R545). -/
def hwType (p : Part) : Nat :=
  p.dies + 0x100 * (Config.helmRev % 256) + 0x10000 * (Config.railRev % 256) + 0x51000000

/-- The parts' constants (R1, R3, R5, R65, R558). -/
def Part.code : Part → Nat
  | .qmn2402 => 0x02 | .qmn2404 => 0x04 | .qmn2408 => 0x08
def Part.name : Part → List Byte
  | .qmn2402 => [0x51, 0x4D, 0x4E, 0x2D, 0x32, 0x34, 0x30, 0x32]
  | .qmn2404 => [0x51, 0x4D, 0x4E, 0x2D, 0x32, 0x34, 0x30, 0x34]
  | .qmn2408 => [0x51, 0x4D, 0x4E, 0x2D, 0x32, 0x34, 0x30, 0x38]

/-- The flag of a numbered thing, in a mask of `n`. -/
def maskOf {n : Nat} (v : Vector Bool n) : Nat := bitsOf v.toList

/-! ### Status words -/

/-- `PWR_STATE` (R120). -/
def pwrCode : PwrState → Nat
  | .run => 0 | .doze => 1 | .park => 2 | .off => 3

/-- Busy under R467, or the dictionary not ready. -/
def deviceBusy (s : State) : Bool := !s.boot.odAnswering || s.update.pause

/-- `DEV_STATUS` (R470, R558). -/
def devStatus (s : State) : Nat :=
  pwrCode s.pwr.state + bitsOf [false, false, deviceBusy s, s.safeN, s.faultLine, s.log.bLatched, s.boot.cfgSplit, s.therm.latch]

/-- `SEQ_UP` and `SEQ_FAULTED` (R296). -/
def seqUp (s : State) : Nat := bitsOf (s.groups.toList.map fun g => decide (g.phase = .up))
def seqFaulted (s : State) : Nat := bitsOf (s.groups.toList.map fun g => decide (g.phase = .faulted))

/-- `DEV_SUMMARY` (R558, R559). -/
def devSummary (s : State) : Nat :=
  seqUp s + 0x100 * seqFaulted s + 0x10000 * s.pp.phase.ctorIdx + 0x80000 * bit s.zbus.pfw + 0x100000 * s.mram.lc
    + 0x800000 * bit (hcLocked s)

/-- `CONFIG_STATUS` (R120). -/
def configStatus (s : State) : Nat :=
  let b := s.boot
  bitsOf [b.cfgRepaired, b.cfgAbandoned, b.cfgSplit, b.hcUsed, b.hcInvalid] + 32 * b.crcValid + 256 * b.copyUsed

/-- `PFW_STATUS` (R149). -/
def pfwStatus (s : State) : Nat := bitsOf [s.zbus.pfw, s.zbus.pfwThr, s.zbus.pfwSlope, s.zbus.pfwPack]

/-- `LOOP_STATUS` (R192). DEDUCED, log entry 29. -/
def loopStatus (s : State) (r : Fin 28) : Nat :=
  let x := s.rails[r]
  bitsOf [x.enabled && decide (x.loop.u = uMax s r), x.enabled && decide (x.loop.u = 0), x.enabled && decide (x.loop.code = 1023),
    x.enabled && decide (x.loop.code = 0), x.loop.pend, (gangOfRail s r).isSome, x.absorbed || x.heldOff, balActive s r,
    x.loop.balDisabling, (gangOfRail s r).isSome && (railDies s r).any fun k => s.dies[k].balFrozen]

/-- `PH_STATE` (R189, R193). DEDUCED, log entry 29. -/
def phState (s : State) (ph : Fin 56) : Nat :=
  let k := phaseDie ph
  match phaseRail s ph with
  | none => 0
  | some r =>
    let x := s.rails[r]
    if x.prot.ovLatch && !(isFollower s k && (gangOfRail s r).isSome) then 6
    else if s.faultLine then 7
    else if s.dies[k].held && decide (s.phLoop ph = 0) then 8
    else if !x.enabled || x.absorbed || x.heldOff then 1
    else if s.phases[ph].run = .shed then 4
    else if x.dyn.stepAlarm then 5
    else if s.dies[k].holding && decide (s.phLoop ph = 0) then 8
    else if s.phases[ph].run = .leaving then 3 else 2

/-- `DIE_GANG_ROLE` (R194, R179, R186). -/
def gangRole (s : State) (k : Fin 7) : Nat :=
  match gangOfDie s k with
  | none => 0
  | some g =>
    let f := isFollower s k
    let hold := s.dies[k].holding || s.dies[k].held
    (if f then 2 else 1) + 4 * g.val + 16 * bit (f && !hold) + 32 * bit (f && hold)

/-- `DYN_STATUS` (R237, R240). -/
def dynStatus (s : State) (r : Fin 28) : Nat :=
  let d := s.rails[r].dyn
  let f := s.rails[r].fc
  bitsOf [d.transition, d.moving, d.moving && decide (d.vsp < d.target), d.stepAlarm, d.stepArmed && stepOn s r, shedInhibit s r,
    f.hints.any (fun h => !h.due), f.trimActive, f.trimFrozen, d.held, d.phmDisabling || d.stepDisabling || f.trimDisabling]

/-- `PG_STATUS` (R268). -/
def pgStatus (s : State) (r : Fin 28) : Nat :=
  let p := s.rails[r].prot
  bitsOf [p.pg, p.w, p.qualified, p.uvTimer, p.ocTimer, p.hold, row2 s r, s.rails[r].enabled && !s.rails[r].dyn.softDone]

/-- `GRP_STATUS` (R296). -/
def grpStatus (s : State) (g : Fin 8) : Nat :=
  let x := s.groups[g]
  x.phase.ctorIdx + 16 * bit x.request + 32 * bit x.input + 64 * bit x.disabling + 128 * bit x.heldReset.isSome
    + 256 * (match x.step with | some st => st.val | none => 0) + 0x4000 * bit x.step.isNone

/-- `RSTO_STATUS` (R296). -/
def rstoStatus (s : State) (n : Fin 4) : Nat :=
  bitsOf [s.rsto[n].pin, rstoBootCond s, rstoGroupCond s n, s.rsto[n].forced, s.rsto[n].stretch]

/-- `GG_OUT_STATUS` (R364). -/
def outStatus (s : State) : Nat :=
  (if s.gauge.outRunning then 2 else if outingDue s then 1 else 0) + 4 * s.gauge.outReason

/-- `MRAM_STATUS` (R399). -/
def mramStatus (s : State) : Nat :=
  let v := s.nv
  let save := v.saveCopy.isSome
  let wb := decide (v.wb ≠ .idle)
  let wipe := decide (s.update.phase = .wiping)
  bitsOf [save || wb || wipe || v.repairing || v.hcWrite.isSome || decide (s.update.phase = .receiving ∧ s.update.written < s.update.got.length),
    wipe, save && !v.repairing, wb, decide (64 < s.log.ring.length)]

/-- `LF_STATUS` (R399). -/
def lfStatus (s : State) : Nat :=
  bitsOf [s.nv.lfShown.isSome, s.nv.lfFresh, s.nv.lfInvalid, s.nv.lfTrunc, s.nv.lfTailDone]

/-- `HU_STATUS` (R384, R398, R399): ready above V_HURDY, 10.8 V to 11.2 V; charging while `HUCAP` lies below its regulated
voltage, 11.6 V at least. Where a part's own threshold decides, the flag is free. DESIGN CHOICE, log entry 43. -/
def huStatus (s : State) : Nat :=
  let v := s.nv.hucap
  bitsOf [if 11200 < v then true else if v ≤ 10800 then false else Config.freeBool 384 s.freeCtr,
    if v < 11600 then true else Config.freeBool 385 s.freeCtr]

/-- The Last Fix presented, or an empty one (R390). -/
def lfSlotShown (s : State) : LfSlot := match s.nv.lfShown with | some k => s.mram.lf[k] | none => .init

/-- `SEC_STATUS` (R399). -/
def secStatus (s : State) : Nat := bitsOf [s.nv.keyLoaded, s.nv.wiped, s.nv.wipeTamper, s.nv.wipeLc, s.nv.withheld]

/-- `HC_STATUS` (R399). -/
def hcStatus (s : State) : Nat := bitsOf [s.mram.hc.valid, hcLocked s, s.nv.hcNext]

/-- `HK_STATUS` (R428). -/
def hkStatus (s : State) : Nat :=
  let h := s.hk
  bitsOf [hkScanning s, h.disabling, h.settling, h.calibrating, h.calValid, h.background, h.retired.isSome]
    + 128 * (match h.retired with | some i => i.val | none => 0)

/-- `THERM_STATUS` (R429). -/
def thermStatus (s : State) : Nat :=
  let d := s.therm.die.toList
  bit s.therm.latch + 2 * (s.therm.path % 8) + 16 * s.therm.latchDie + 128 * bit (d.any fun x => decide (0 < x.n))
    + 256 * bit (d.any fun x => x.fast) + 512 * bit (slowMode s) + 1024 * bit (d.any fun x => decide (x.source = .blind))

/-- `DIE_T_STATUS` (R429). -/
def dieTStatus (x : DieTherm) : Nat := x.source.ctorIdx + 4 * bit x.fast + 8 * x.n

/-- `WD_STATUS` (R460). -/
def wdStatus (s : State) : Nat :=
  bitsOf [s.wd.on, s.wd.locked, s.update.pause && s.wd.running, s.wd.running && decide (s.pwr.state = .park),
    wdObliged s 0, wdObliged s 1, wdInGrace s 0, wdInGrace s 1]

/-- `EWD_STATUS` (R460). -/
def ewdStatus (s : State) : Nat :=
  bitsOf ((allFin 18).map fun e => enginePresent s e && ewdSuspended s e) + 0x40000 * bit s.ewd.wipeSusp

/-- The target address a two-wire port answers at (R62, R463). -/
def twAddress (s : State) (n : Fin 2) : Nat := if s.tw[n].addr = 0 then 0x60 + s.straps.twa else s.tw[n].addr

/-- `TW_STATUS_n` (R494). A controller transfer is one command, so none is open between commands. -/
def twStatus (s : State) (n : Fin 2) : Nat :=
  let t := s.tw[n]
  bitsOf [t.transfer, false, t.due, t.sclStuck, t.sdaStuck, t.wedged, t.pec, decide (t.addr = 0)] + 256 * twAddress s n

/-- The map of pending slots (R495). -/
def pendMap (s : State) : Nat := bitsOf ((allFin 128).map (slotPending s))

/-- `BRG_XFER_STATUS` (R528). -/
def xferStatus (t : Transfer) : Nat :=
  match t with
  | .none => 0 | .blockRead .. => 1 | .blockWrite .. => 2

/-- A measurement that no command supplies: a free value at each read. DESIGN CHOICE, log entry 13. -/
def measured (s : State) (use : Nat) : Nat := Config.free use s.freeCtr

/-! ### The directory (R560) -/

/-- The objects of R120, R331, R399 and R460 named as retained. DEDUCED, log entry 28. -/
def objRetained (idx sub : Nat) : Bool :=
  [(0x2105, 6), (0x2701, 0x14), (0x2804, 7), (0x2805, 3), (0x2806, 2), (0x2807, 4), (0x2A11, 0x0F)].contains (idx, sub)

/-- `OD_DIR_DESC` of a selection; no object is of a Q-format type. DEDUCED, log entry 28. -/
def dirDesc (p : Part) (idx sub : Nat) : Nat :=
  match objFind p idx sub with
  | none => 0
  | some r => r.typ.code + 0x100 * r.acc.code + 0x800 * bit (objStored r idx sub) + 0x1000 * bit (objRetained idx sub)
      + 0x40000 * bit (objBound idx sub)

/-- `OD_DIR_SIZE` of a selection. -/
def dirSize (p : Part) (idx sub : Nat) : Nat :=
  match objFind p idx sub with
  | none => 0
  | some r => objSize r idx sub

/-! ### Values by area: the object at `idx`, `sub`, as an unsigned number whose low bytes are sent -/

/-- The `i`-th element where it exists, read by `f`. -/
def atFin (n i : Nat) (f : Fin n → Nat) : Nat := match fin? n i with | some k => f k | none => 0

/-- Objects of R558 and R560. -/
def readIdentity (s : State) (p : Port) (idx sub : Nat) : Nat :=
  if idx = 0x2000 then match sub with
    | 0x01 => 0x2400 + s.part.code
    | 0x02 => leNat s.part.name
    | 0x03 => Config.unitId
    | 0x04 => Config.helmRev
    | 0x05 => Config.railRev
    | 0x06 => s.part.dies + 1
    | 0x07 => 4 * s.part.dies
    | 0x08 => 8 * s.part.dies
    | 0x09 => 4 + 2 * s.part.dies
    | 0x0A => fieldAt s.mram.banks[s.update.sel].header 0x18 4
    | 0x0B => 1
    | 0x0C => s.part.indices
    | 0x0D => s.devTime
    | 0x0E => devStatus s
    | 0x0F => devSummary s
    | 0x11 => bit s.pwr.oldChart
    | 0x12 => s.skipCnt
    | _ => 0
  else match sub with
    | 0x01 => s.dirSel[p].1
    | 0x02 => s.dirSel[p].2
    | 0x03 => dirDesc s.part s.dirSel[p].1 s.dirSel[p].2
    | 0x04 => dirSize s.part s.dirSel[p].1 s.dirSel[p].2
    | _ => 0

/-- Objects of R46, R65 and R120. -/
def readSystem (s : State) (idx sub : Nat) : Nat :=
  match idx, sub with
  | 0x2100, 1 => clkStatus s
  | 0x2100, 2 => s.clk.failCnt
  | 0x2101, k => atFin 7 (k - 1) (linkStatus s)
  | 0x2102, k => atFin 7 (k - 1) fun k => s.links[k].retryCnt
  | 0x2103, 1 => s.hamper.secCnt
  | 0x2103, 2 => s.hamper.dedCnt
  | 0x2103, 3 => s.hamper.scrubPass
  | 0x2104, 1 => s.straps.twa + 8 * bit s.straps.oldChart + 16 * bit s.straps.testEn
  | 0x2104, 2 => s.part.code
  | 0x2104, 3 => vdrStatus s
  | 0x2105, 2 => s.boot.rstCause
  | 0x2105, 3 => s.boot.rstSub
  | 0x2105, 4 => s.boot.rstMask
  | 0x2105, 5 => s.boot.rstPrev
  | 0x2105, 6 => s.boot.bootCount
  | 0x2105, 7 => s.boot.bootTime
  | 0x2106, 2 => maskOf s.sk.kept
  | 0x2106, 3 => maskOf s.sk.adopted
  | 0x2106, 4 => maskOf s.sk.down
  | 0x2106, 5 => maskOf s.sk.fused
  | 0x2107, 1 => configStatus s
  | 0x2107, 2 => s.boot.cfgGen
  | 0x2107, k => atFin 3 (k - 3) fun k => s.mram.cfg[k].gen
  | 0x2108, 1 => pwrCode s.pwr.state
  | 0x2108, 5 => s.pwr.wakeCause
  | _, _ => 0

/-- Objects of R149; a value beyond its object's type is sent by its low bytes. DESIGN CHOICE, log entry 14. -/
def readZone (s : State) (idx sub : Nat) : Nat :=
  match idx / 16 with
  | 0x220 => match sub with
    | 0x09 => s.zbus.v
    | 0x0A => toTwos 16 (tenths s 149 ((s.zbus.slope : Rat) / 20))
    | 0x0B => pfwStatus s
    | _ => 0
  | 0x221 => atFin 4 (idx % 16) fun n => match sub with
    | 0x0D => s.zin[n].phase.ctorIdx
    | 0x0E => s.zin[n].fault
    | 0x0F => s.zin[n].retryCnt
    | 0x11 => s.zin[n].v
    | 0x12 => measured s 0x12
    | _ => 0
  | 0x222 => atFin 8 (idx % 16) fun n => match sub with
    | 0x08 => s.fo[n].phase.ctorIdx
    | 0x09 => s.fo[n].fault
    | 0x0A => s.fo[n].retryCnt
    | 0x0C => measured s 0x0C
    | 0x0D => s.fo[n].v
    | _ => 0
  | _ => 0

/-- Objects of R192, R240 and R268 of a rail. -/
def readRail (s : State) (idx sub : Nat) (r : Fin 28) : Nat :=
  let x := s.rails[r]
  match idx / 256, sub with
  | 0x30, 0x13 => (vref s r).toNat
  | 0x30, 0x14 => x.vout
  | 0x30, 0x15 => toTwos 32 (railCurrent s r)
  | 0x30, 0x16 => x.loop.u.toNat
  | 0x30, 0x17 => x.loop.lead
  | 0x30, 0x18 => if railN s r < 2 then 0 else x.loop.stride
  | 0x30, 0x19 => railN s r
  | 0x30, 0x1A => loopStatus s r
  | 0x31, 0x04 => x.dyn.vtgt
  | 0x31, 0x05 => x.dyn.vsp / unit
  | 0x31, 0x06 => dynStatus s r
  | 0x31, 0x07 => x.dyn.src
  | 0x31, 0x08 => x.dyn.cmdCnt
  | 0x31, 0x09 => x.dyn.turnCnt
  | 0x31, 0x0D => x.dyn.stepCnt
  | 0x31, 0x0E => x.dyn.tmaxCnt
  | 0x31, 0x15 => x.dyn.shedCnt
  | 0x31, 0x16 => x.dyn.keepCnt
  | 0x31, 0x17 => x.dyn.readdCnt
  | 0x31, 0x1D => x.fc.fcCnt
  | 0x31, 0x1E => x.fc.lateCnt
  | 0x31, 0x2A => x.fc.pdep
  | 0x31, 0x2B => x.fc.vtgt
  | 0x32, 0x01 => x.prot.ovAbs
  | 0x32, 0x02 => reported s 268 ((x.prot.ovAbs * s.railDiv r : Nat) / (4096 : Rat))
  | 0x32, 0x0C => x.prot.fault
  | 0x32, 0x0E => pgStatus s r
  | 0x32, 0x0F => x.prot.dropCnt
  | 0x32, 0x10 => x.prot.valleyCnt
  | 0x32, 0x11 => x.prot.ovTrips
  | _, _ => 0

/-- Objects of R193 and R194. -/
def readPhase (s : State) (sub : Nat) (ph : Fin 56) : Nat :=
  match sub with
  | 4 => toTwos 16 (tenths s 193 ((s.phases[ph].iAvg : Rat) / 10))
  | 5 => toTwos 16 s.phases[ph].trim
  | 6 => phState s ph
  | 7 => s.phases[ph].leadCnt
  | _ => 0

/-- Objects of R194 of a ganged group. -/
def readGang (s : State) (sub : Nat) (g : Fin 4) : Nat :=
  match sub with
  | 4 => s.gangs[g].phase.ctorIdx + 4 * s.gangs[g].code
  | 5 => s.gangs[g].parCnt
  | 6 => s.gangs[g].rotErr
  | 7 => s.gangs[g].holdCnt
  | _ => 0

/-- Objects of R296. -/
def readSeq (s : State) (idx sub : Nat) : Nat :=
  match idx / 16 with
  | 0x240 => if sub = 1 then seqUp s else seqFaulted s
  | 0x241 => atFin 8 (idx % 16) fun g => match sub with
    | 5 => grpStatus s g
    | 6 => s.groups[g].faultItem
    | 7 => s.groups[g].puTime
    | _ => 0
  | 0x242 => atFin 4 (idx % 16) (rstoStatus s)
  | 0x243 => atFin 10 (if idx % 16 < 6 then idx % 16 else idx % 16 - 2) fun n => match sub with
    | 3 => s.regs[n].v
    | 4 => measured s 0x2430
    | 5 => s.regs[n].fault
    | _ => 0
  | _ => atFin 46 (idx - 0x2600) fun i => match sub with
    | 0x0A => itemStatus s i
    | 0x0B => s.items[i].chatter
    | 0x0C => s.items[i].retryCnt
    | _ => 0

/-- Objects of R331. -/
def readLantern (s : State) (idx sub : Nat) : Nat :=
  match idx, sub with
  | 0x2700, 0x01 => srcTypeCode s
  | 0x2700, 0x06 => ilimOf s s.pp.limTyp
  | 0x2700, 0x0F => s.pp.phase.ctorIdx
  | 0x2700, 0x10 => ppStatus s
  | 0x2700, 0x11 => s.pp.hoCnt
  | 0x2700, 0x12 => s.pp.hbCnt
  | 0x2700, 0x13 => s.pp.hoLastT
  | 0x2700, 0x17 => s.pp.lbusV
  | 0x2700, 0x18 => s.pp.chgIin
  | 0x2700, 0x19 => s.pp.lbusIout
  | 0x2700, 0x1A => toTwos 32 s.pp.packI
  | 0x2701, 0x02 => s.chg.phase.ctorIdx
  | 0x2701, 0x11 => s.chg.fault
  | 0x2701, 0x12 => s.chg.term
  | 0x2701, 0x13 => reported s 331 s.chg.current
  | 0x2701, 0x14 => s.nv.ctr[ctrFast]
  | 0x2701, 0x15 => s.chg.peak.getD 0
  | 0x2702, 0x06 => s.pp.packV
  | 0x2702, 0x07 => toTwos 16 s.pp.packT
  | 0x2702, 0x08 => bit s.pp.present
  | _, _ => 0

/-- Objects of R364. -/
def readGauge (s : State) (idx sub : Nat) : Nat :=
  let g := s.gauge
  match idx, sub with
  | 0x2710, 0x01 => g.soc
  | 0x2710, 0x02 => gaugeReported s 0x271002 (g.socV * 1000)
  | 0x2710, 0x03 => gaugeReported s 0x271003 (g.socIEst * 1000)
  | 0x2710, 0x04 => gaugeReported s 0x271004 g.rcEst
  | 0x2710, 0x05 => gaugeReported s 0x271005 g.rcIntEst
  | 0x2710, 0x06 => gaugeReported s 0x271006 g.fccEst
  | 0x2710, 0x07 => g.tte
  | 0x2710, 0x08 => ggStatus s
  | 0x2710, 0x0F => gaugeReported s 0x27100F (g.u * 10)
  | 0x2710, 0x10 => gaugeReported s 0x271010 g.rser
  | 0x2710, 0x11 => g.alm.cycles
  | 0x2710, 0x12 => gaugeReported s 0x271012 (g.alm.disAcc * 100)
  | 0x2710, 0x13 => g.alm.cap
  | 0x2710, 0x14 => capacity s
  | 0x2711, 0x01 => g.learn.ctorIdx
  | 0x2711, 0x02 => g.alm.result
  | 0x2711, 0x03 => gaugeReported s 0x271103 g.qDis
  | 0x2711, 0x04 => (g.cMeas + 1 / 2).floor.toNat
  | 0x2711, 0x05 => g.alm.learnCnt
  | 0x2711, 0x07 => g.alm.age
  | 0x2711, 0x0C => outStatus s
  | 0x2711, 0x0E => g.outCnt
  | 0x2712, 0x02 => match s.nv.slotUse with | some k => k.val | none => 0xFF
  | 0x2712, 0x03 => match s.nv.slotUse with | some k => s.mram.slots[k].seq | none => measured s 0x2712
  | _, _ => 0

/-- Objects of R399. -/
def readStore (s : State) (idx sub : Nat) : Nat :=
  match idx, sub with
  | 0x2800, 1 => mramStatus s
  | 0x2800, 2 => s.nv.secCnt
  | 0x2800, 3 => s.nv.dedCnt
  | 0x2801, 2 => s.nv.saveStatus
  | 0x2802, 3 => hcStatus s
  | 0x2802, 4 => crc32 s.mram.hc.body
  | 0x2803, 1 => (journalHead s).getD (measured s 0x2803)
  | 0x2803, 4 => s.nv.jnlTorn
  | 0x2803, 5 => s.nv.jnlLost
  | 0x2804, 1 => lfStatus s
  | 0x2804, 2 => (lfSlotShown s).seq
  | 0x2804, 3 => (lfSlotShown s).boot
  | 0x2804, 4 => (lfSlotShown s).time
  | 0x2804, 5 => (lfSlotShown s).hucap
  | 0x2804, 7 => s.nv.ctr[ctrTorn]
  | 0x2805, 1 => huStatus s
  | 0x2805, 2 => s.nv.hucap
  | 0x2805, 3 => s.nv.ctr[ctrHu]
  | 0x2806, 1 => secStatus s
  | 0x2806, 2 => s.nv.ctr[ctrTamper]
  | 0x2807, 1 => s.nv.bistWeak + 256 * s.nv.bistTries
  | 0x2807, 2 => s.nv.weakCnt
  | 0x2807, 3 => Config.hamperRepair
  | 0x2807, 4 => s.nv.ctr[ctrBist]
  | _, _ => 0

/-- Objects of R428 and R429. DESIGN CHOICE, log entry 81. -/
def readHouse (s : State) (idx sub : Nat) : Nat :=
  match idx with
  | 0x2900 => match sub with
    | 4 => hkStatus s
    | 6 => s.hk.scanCnt
    | 7 => maskOf s.hk.outside
    | 8 => maskOf s.hk.evt
    | _ => 0
  | 0x2901 => if sub ≤ 5 then atFin 5 (sub - 1) fun i => s.hk.gain[i] else atFin 5 (sub - 6) fun i => toTwos 16 s.hk.ofs[i]
  | 0x2902 => atFin 48 (sub - 1) fun c => s.hk.result[c]
  | 0x2903 => atFin 48 (sub - 1) fun c => toTwos 32 s.hk.value[c]
  | 0x2910 => match sub with
    | 8 => 1650
    | 9 => thermStatus s
    | 0x0A => s.therm.stepCnt
    | _ => 0
  | 0x2911 => atFin 8 (sub - 1) fun d => toTwos 16 s.therm.die[d].t
  | 0x2912 => atFin 8 (sub - 1) fun d => dieTStatus s.therm.die[d]
  | 0x2913 => atFin 34 (sub - 1) fun j => toTwos 16 s.therm.ro[j].t
  | 0x2914 => bitsOf (s.therm.ro.toList.map fun x => x.excl)
  | _ => atFin 8 (idx - 0x2920) fun n => if sub = 7 then toTwos 16 s.therm.ts[n].t else tsStatus s.therm.ts[n]

/-- Objects of R460 and R461. -/
def readWatch (s : State) (idx sub : Nat) : Nat :=
  let w := s.wd
  match idx, sub with
  | 0x2A11, 0x01 => wdStatus s
  | 0x2A11, 0x02 => w.lfsr
  | 0x2A11, 0x07 => w.tick
  | 0x2A11, 0x08 => w.cycleCnt
  | 0x2A11, 0x09 => w.hosts[(0 : Fin 2)].lastFail + 256 * w.hosts[(1 : Fin 2)].lastFail
  | 0x2A11, 0x0A => w.hosts[(0 : Fin 2)].failCnt
  | 0x2A11, 0x0B => w.hosts[(1 : Fin 2)].failCnt
  | 0x2A11, 0x0C => w.earlyCnt
  | 0x2A11, 0x0D => w.lateCnt
  | 0x2A11, 0x0E => w.wrongCnt
  | 0x2A11, 0x0F => s.nv.ctr[ctrWd]
  | 0x2A12, t => atFin 16 (t - 1) fun t => w.extra[t]
  | 0x2A13, t => atFin 16 (t - 1) fun t => w.miss[t]
  | 0x2A18, 1 => ewdStatus s
  | 0x2A18, 2 => s.ewd.suspCnt
  | 0x2A20, 1 => logStatus s
  | 0x2A20, 2 => s.log.aCode
  | 0x2A20, 3 => s.log.bCode
  | 0x2A20, 8 => s.log.nextSeq
  | 0x2A20, 9 => s.log.ring.length
  | 0x2A20, 0x0A => s.log.entryCnt
  | 0x2A21, 1 => bit s.fab.valid
  | 0x2A21, 2 => s.fab.addr
  | 0x2A21, 3 => s.fab.master
  | 0x2A21, 4 => s.fab.typ
  | 0x2A21, 5 => s.fab.time
  | 0x2A21, 6 => s.fab.cnt
  | _, _ => 0

/-- Objects of R494 and R495. -/
def readHost (s : State) (idx sub : Nat) : Nat :=
  match idx with
  | 0x2C00 => match sub with
    | 2 => pendMap s % 2 ^ 64
    | 3 => pendMap s / 2 ^ 64
    | 4 => s.evc.inserv % 2 ^ 64
    | 5 => s.evc.inserv / 2 ^ 64
    | 6 => s.evc.wdrawn % 2 ^ 64
    | 7 => s.evc.wdrawn / 2 ^ 64
    | 8 => s.evc.level % 2 ^ 64
    | _ => s.evc.level / 2 ^ 64
  | 0x2C11 => atFin 128 (sub - 1) fun i => s.evc.ovf[i]
  | _ => atFin 2 (idx - 0x2B00) fun n =>
    let t := s.tw[n]
    match sub with
    | 0x07 => twStatus s n
    | 0x08 => t.busErrCnt
    | 0x09 => t.pecErrCnt
    | 0x0A => t.arbCnt
    | 0x0B => t.notifyCnt
    | 0x0C => t.nackCnt
    | 0x0D => t.stuckCnt
    | _ => 0

/-- Objects of R528. `CAN_STATE`, the report objects and `THERM_STATUS` have no value DISABLING: while a disable under R45 runs they
show the running state. DESIGN CHOICE, log entry 81. -/
def readNetwork (s : State) (idx sub : Nat) : Nat :=
  match idx / 16 with
  | 0x2D0 => atFin 4 (idx % 16) fun n =>
    let c := s.can[n]
    match sub with
    | 0x0F => c.phase.ctorIdx
    | 0x10 => c.tec
    | 0x11 => c.rec_
    | 0x12 => c.tdcVal
    | 0x13 => c.rxCnt
    | 0x14 => c.txCnt
    | 0x15 => c.rxDrop
    | 0x16 => c.txDrop
    | 0x17 => c.boffCnt
    | _ => 0
  | 0x2D1 => atFin 4 (idx % 16) fun n =>
    let c := s.can[n]
    match sub with
    | 5 => bitsOf [c.peerCur, c.peerClassical]
    | 6 => c.reqCnt
    | 7 => c.abortCnt
    | 8 => c.lastAbort
    | 9 => xferStatus c.transfer
    | _ => 0
  | 0x2D2 => atFin 6 (sub - 1) fun p => s.roles[p]
  | 0x2D3 => match sub with
    | 1 => s.xb.pend.length
    | 2 => s.xb.doneCnt
    | 3 => s.xb.abortCnt
    | _ => s.xb.last
  | _ => atFin 64 (idx - 0x2D40) fun r => s.reports[r].sent

/-- The state a bank counts as (R531): with a header CRC that fails it is EMPTY; one being written, or one that failed, has no whole
header. DEDUCED, log entry 68. -/
def bankState (b : Bank) : BankPhase :=
  match b.phase with
  | .writing => .writing
  | .failed => .failed
  | ph => if b.header.length = 256 ∧ fieldAt b.header 0xFC 4 = crc32 (b.header.take 0xFC) then ph else .empty

/-- Objects of R545. A bank with no header has no version. -/
def readUpdate (s : State) (idx sub : Nat) : Nat :=
  let b (k : Fin 2) := s.mram.banks[k]
  let f (k : Fin 2) (ofs : Nat) := if (b k).header.isEmpty then measured s (0x2E010 + ofs + k) else fieldAt (b k).header ofs 4
  match idx, sub with
  | 0x2E00, 4 => s.update.phase.ctorIdx
  | 0x2E00, 5 => s.update.refuse
  | 0x2E00, 6 => s.update.rxBlocks
  | 0x2E00, 7 => s.update.trialLeft
  | 0x2E01, 1 => s.update.sel.val
  | 0x2E01, 2 => (bankState (b 0)).ctorIdx
  | 0x2E01, 3 => (bankState (b 1)).ctorIdx
  | 0x2E01, 4 => f 0 0x18
  | 0x2E01, 5 => f 1 0x18
  | 0x2E01, 6 => f 0 0x1C
  | 0x2E01, 7 => f 1 0x1C
  | 0x2E01, 8 => hwType s.part
  | 0x2E10, 1 => s.mram.lc
  | _, _ => 0

/-- The value of a fixed-size object that is no setting. DESIGN CHOICE, log entry 13. -/
def statusValue (s : State) (p : Port) (idx sub : Nat) : Nat :=
  match idx / 256 with
  | 0x20 => readIdentity s p idx sub
  | 0x21 => readSystem s idx sub
  | 0x22 => readZone s idx sub
  | 0x23 => atFin 4 (idx % 256) (readGang s sub)
  | 0x24 | 0x26 => readSeq s idx sub
  | 0x27 => if idx < 0x2710 then readLantern s idx sub else readGauge s idx sub
  | 0x28 => readStore s idx sub
  | 0x29 => readHouse s idx sub
  | 0x2A => readWatch s idx sub
  | 0x2B | 0x2C => readHost s idx sub
  | 0x2D => readNetwork s idx sub
  | 0x2E => readUpdate s idx sub
  | 0x30 | 0x31 | 0x32 => atFin 28 (idx % 256) (readRail s idx sub)
  | 0x34 => atFin 56 (idx % 256) (readPhase s sub)
  | _ => atFin 7 (idx % 256 - 1) (gangRole s)

/-! ### Reading an object -/

/-- The journal record that `JNL_READ_SEQ` selects. -/
def jnlSelected (s : State) : Option LogRec := s.mram.journal.find? fun r => decide (r.seq = s.jnlReadSeq)

/-- The bytes of a DOMAIN object; none where it holds nothing a read can show. -/
def domainBytes (s : State) (idx : Nat) : Option (List Byte) :=
  match idx with
  | 0x2712 => some ((List.range 1240).map (tableByte s))
  | 0x2802 => some (if s.mram.hc.valid then s.mram.hc.body else [])
  | 0x2803 => (jnlSelected s).map logRecBytes
  | 0x2804 => match s.nv.lfShown with | some k => some (lfContent s.mram.lf[k]) | none => some []
  | _ => none

/-- The objects whose running value is not in the map of settings although they are RW (R560). DEDUCED, log entry 76. -/
def ownedElsewhere (idx : Nat) : Bool := decide (idx = 0x2001)

/-- The value of an object as bytes (R548), without what a read clears. -/
def objectBytes (s : State) (p : Port) (r : ObjRow) (idx sub : Nat) : Option (List Byte) :=
  if sub = 0 then some (leBytes 1 (maxSub s.part idx))
  else match r.typ with
    | .domain => domainBytes s idx
    | t => some (leBytes t.bytes
        (if (decide (r.acc = .rw) || decide (r.acc = .rwx)) && !ownedElsewhere idx then settingValue s r (okey idx sub)
        else statusValue s p idx sub))

/-- What a read of an object clears: `LINK_STATUS_k` [2] (R46), `RAIL_FAULT` [7] (R268), `CHG_FAULT` (R316),
`HK_WIN_EVT` (R428), `LOG_STATUS` [2] (R461). DEDUCED, log entry 31. -/
def readClears (idx sub : Nat) (s : State) : State :=
  if idx = 0x2101 ∧ sub ≠ 0 then (match fin? 7 (sub - 1) with | some k => (readLinkStatus k s).1 | none => s)
  else if idx / 256 = 0x32 ∧ sub = 0x0C then
    (match fin? 28 (idx % 256) with | some r => modProt r (fun q => { q with fault := clrBit q.fault 7 }) s | none => s)
  else if idx = 0x2701 ∧ sub = 0x11 then (readChgFault s).1
  else if idx = 0x2900 ∧ sub = 8 then modHk (fun h => { h with evt := Vector.replicate 48 false }) s
  else if idx = 0x2A20 ∧ sub = 1 then (readLogStatus s).1
  else s

/-- What an access does on the link of the rail die that holds the object; subindex 0 is the dictionary's own. -/
def overLink (idx sub : Nat) (f : Fin 7 → State → State) (s : State) : State :=
  if sub = 0 then s else match objDie idx with | some k => f k s | none => s

/-- A read that passed the checks of R515: its bytes, and the state after it; a `JNL_RECORD` that is not in the journal does
not exist (R399). The value of a rail die object comes over its link (R32, R33), and waits for a link that is not UP (R562). -/
def readObject (p : Port) (r : ObjRow) (idx sub : Nat) (s : State) : State × Ack :=
  if linkBusy s idx sub then
    (overLink idx sub (fun k => modLink k fun l => { l with reads := l.reads ++ [(p, idx, sub)] }) s, .none)
  else match objectBytes s p r idx sub with
  | some b => (useFree (readClears idx sub (overLink idx sub (fun k => dieObjRead k idx sub b) s)), .value b)
  | none => (s, .abort .noObject)

/-- A read request of a port: the checks of R515, then the object. DESIGN CHOICE, log entry 13. -/
def readRequest (p : Port) (idx sub : Nat) (s : State) : State × Ack :=
  match checkRead s p idx sub with
  | .error c => (s, .abort c)
  | .ok r => readObject p r idx sub s

end Sys2Proof.Machine
end

