-- ==== Sys2Proof/Machine/BearOps.lean ====
section
/-! DEFINITION. Answers that come later: the outcome of a tunnel request R474, the answer a port waits for, bearing completion R523. -/

namespace Sys2Proof.Machine

/-- The outcome of a tunnel request stands; TUNNEL_DONE shows it (R474). -/
def tunOutcome (n : Fin 2) (a : Ack) (s : State) : State :=
  { s with tw := vmod s.tw n fun t => { t with tun := { t.tun with outcome := a } } }

/-- The answer that a request for the object at `idx`, `sub` waits for arrives at port `p`. -/
def answerPort (p : Port) (idx sub : Nat) (a : Ack) (s : State) : State :=
  match twOf p with
  | some n =>
    if s.tw[n].tun.phase = .busy ∧ s.tw[n].tun.index = idx ∧ s.tw[n].tun.sub = sub ∧ s.tw[n].tun.outcome = .none
    then tunOutcome n a s else s
  | none =>
    match fin? 4 p.val with
    | none => s
    | some n =>
      let mine (w : PendResp) : Bool := decide (w.idx = idx ∧ w.sub = sub)
      (s.can[n].waiting.filter mine).foldl (fun t w => respond n w a t)
        (modCan n (fun c => { c with waiting := c.waiting.filter fun w => !mine w }) s)

/-- A completion response of a bearing (R523, R525). DEDUCED, log entry 26. -/
def completeBearing (b : Bearing) (a : Ack) (s : State) : State :=
  match twOf b.port with
  | some n => if s.tw[n].tun.phase = .busy then tunOutcome n a s else s
  | none => match fin? 4 b.port.val with
    | some n => respond n ⟨0x80 + cmdWrite, b.tag, b.idx, b.sub, []⟩ a s
    | none => s

end Sys2Proof.Machine
end

