-- ==== Sys2Proof/Machine/Window.lean ====
section
/-! DEFINITION. The windows of the two-wire ports: the native map of R470, the Old Chart map of R565, and what their bytes
read as (R468, R472, R487). -/

namespace Sys2Proof.Machine

/-- The registers of the windows. -/
inductive WinReg
  | format | pkg | info | dev | uid | acause | pend | claim | cflags | covf | complete
  | wdq | wda | wdci | wdh | wdt | wdlf | wr | wroff | twerr
  | vset (j : Fin 8) | fc (j : Fin 8) | rstat (j : Fin 8) | rv (j : Fin 8) | rflt (j : Fin 8) | ri (j : Fin 8)
  | tidx | tsub | tlen | tofs | tcmd | tstat | tabort | tsize | tdata
  | reserved
  deriving DecidableEq, Repr

/-- One row of a window map. -/
structure WinRow where
  first : Nat
  size  : Nat
  acc   : Acc
  reg   : WinReg
  deriving DecidableEq, Repr

/-- The rail slots of R470. -/
def slotRows : List WinRow :=
  (allFin 8).flatMap fun j =>
    let o := 0x40 + 8 * j.val
    [⟨o, 2, .rw, .vset j⟩, ⟨o + 2, 3, .wo, .fc j⟩, ⟨o + 5, 1, .ro, .rstat j⟩, ⟨o + 6, 2, .ro, .rv j⟩]

/-- The native window (R470). -/
def nativeMap : List WinRow :=
  [⟨0x00, 1, .ro, .format⟩, ⟨0x01, 1, .ro, .pkg⟩, ⟨0x02, 1, .ro, .info⟩, ⟨0x03, 1, .ro, .dev⟩, ⟨0x04, 8, .ro, .uid⟩,
   ⟨0x0C, 4, .ro, .reserved⟩, ⟨0x10, 1, .ro, .acause⟩, ⟨0x11, 1, .ro, .pend⟩, ⟨0x12, 1, .ro, .claim⟩,
   ⟨0x13, 1, .ro, .cflags⟩, ⟨0x14, 1, .ro, .covf⟩, ⟨0x15, 1, .wo, .complete⟩, ⟨0x16, 10, .ro, .reserved⟩,
   ⟨0x20, 2, .ro, .wdq⟩, ⟨0x22, 2, .wo, .wda⟩, ⟨0x24, 1, .wo, .wdci⟩, ⟨0x25, 1, .ro, .wdh⟩, ⟨0x26, 2, .ro, .wdt⟩,
   ⟨0x28, 1, .ro, .wdlf⟩, ⟨0x29, 7, .ro, .reserved⟩, ⟨0x30, 1, .ro, .wr⟩, ⟨0x31, 1, .ro, .wroff⟩,
   ⟨0x32, 1, .ro, .twerr⟩, ⟨0x33, 13, .ro, .reserved⟩] ++ slotRows ++
  [⟨0x80, 2, .rw, .tidx⟩, ⟨0x82, 1, .rw, .tsub⟩, ⟨0x83, 1, .rw, .tlen⟩, ⟨0x84, 2, .rw, .tofs⟩, ⟨0x86, 1, .wo, .tcmd⟩,
   ⟨0x87, 1, .ro, .tstat⟩, ⟨0x88, 4, .ro, .tabort⟩, ⟨0x8C, 2, .ro, .tsize⟩, ⟨0x8E, 2, .ro, .reserved⟩,
   ⟨0x90, 64, .rw, .tdata⟩, ⟨0xD0, 48, .ro, .reserved⟩]

/-- The rail slots of R565: forerunner rails 1 to 4. DEDUCED, log entry 71. -/
def oldSlotRows : List WinRow :=
  (allFin 8).take 4 |>.flatMap fun j =>
    let o := 0x10 + 8 * j.val
    [⟨o, 2, .rw, .vset j⟩, ⟨o + 2, 1, .ro, .rstat j⟩, ⟨o + 3, 1, .ro, .rflt j⟩, ⟨o + 4, 2, .ro, .rv j⟩, ⟨o + 6, 2, .ro, .ri j⟩]

/-- The Old Chart window (R565). DEDUCED, log entry 71. -/
def oldMap : List WinRow :=
  [⟨0x00, 1, .ro, .format⟩, ⟨0x01, 1, .ro, .dev⟩, ⟨0x02, 1, .ro, .acause⟩, ⟨0x03, 1, .ro, .claim⟩, ⟨0x04, 1, .ro, .cflags⟩,
   ⟨0x05, 1, .wo, .complete⟩, ⟨0x06, 2, .ro, .reserved⟩, ⟨0x08, 2, .ro, .wdq⟩, ⟨0x0A, 2, .wo, .wda⟩, ⟨0x0C, 1, .ro, .wdh⟩,
   ⟨0x0D, 1, .ro, .wr⟩, ⟨0x0E, 1, .ro, .twerr⟩, ⟨0x0F, 1, .ro, .reserved⟩] ++ oldSlotRows ++
  [⟨0x30, 2, .rw, .tidx⟩, ⟨0x32, 1, .rw, .tsub⟩, ⟨0x33, 1, .rw, .tlen⟩, ⟨0x34, 2, .rw, .tofs⟩, ⟨0x36, 1, .wo, .tcmd⟩,
   ⟨0x37, 1, .ro, .tstat⟩, ⟨0x38, 4, .ro, .tabort⟩, ⟨0x3C, 2, .ro, .tsize⟩, ⟨0x3E, 2, .ro, .reserved⟩,
   ⟨0x40, 32, .rw, .tdata⟩, ⟨0x60, 32, .ro, .reserved⟩]

/-- The map in force, and its size. -/
def winMap (s : State) : List WinRow := if s.pwr.oldChart then oldMap else nativeMap
def winSize (s : State) : Nat := if s.pwr.oldChart then 128 else 256

/-- The pointer a byte gives (R464, R565), and where a register starts. -/
def winPtr (s : State) (k : Nat) : Nat := k % winSize s
def regAt (s : State) (ofs : Nat) : WinRow :=
  ((winMap s).find? fun w => decide (w.first ≤ ofs ∧ ofs < w.first + w.size)).getD ⟨ofs, 1, .ro, .reserved⟩
def regFirst (s : State) (g : WinReg) : Nat := (((winMap s).find? fun w => decide (w.reg = g)).map (·.first)).getD 0

/-- The rail a slot shows (R472, R566). -/
def windowRail (s : State) (n : Fin 2) (j : Fin 8) : Option (Fin 28) :=
  if s.pwr.oldChart then (fin? 28 j.val).filter fun r => decide (j.val < 4) && railPresent s r else slotRail s n j

/-- The slot may be written: mapped, of a port not OBSERVER (R471, R472); in Old Chart mode by port 0 alone (R566). -/
def windowRailW (s : State) (n : Fin 2) (j : Fin 8) : Option (Fin 28) :=
  if s.roles[portOfTw n] = 3 ∨ (s.pwr.oldChart = true ∧ n = 1) then none else windowRail s n j

/-- The cause bit of a source (R485). -/
def slotCause (slot : Nat) : Nat :=
  if slot = 0 then 0 else if slot = 1 then 1 else if slot ≤ 3 then 2 else if slot ≤ 8 ∨ slot = 45 then 3
  else if slot ≤ 20 then 4 else if slot ≤ 28 ∨ slot = 46 then 5 else if slot ≤ 47 then 6 else if slot % 8 = 6 then 2 else 5

/-- The sources pending for a host (R470), lowest first, an edge source in service that is pending again among them (R488). -/
def sourcesFor (s : State) (h : Fin 2) : List (Fin 128) :=
  (allFin 128).filter fun i => slotPending s i && decide (routeOf s i = h.val + 1)

/-- `ALERT_CAUSE`, `EVT_PEND` and `CLAIM` (R470, R487). -/
def alertCause (s : State) (h : Fin 2) : Nat :=
  (sourcesFor s h).foldl (fun a i => setBit a (slotCause i.val)) 0 ||| 0x80 * bit s.evcGdis
def evtPend (s : State) (h : Fin 2) : Nat := min 255 (sourcesFor s h).length
def claimByte (s : State) (h : Fin 2) : Nat :=
  if s.evcGdis then 0xFF else match lowestFor s h with | some i => i.val | none => 0xFF

/-- `CLAIM_FLAGS` (R470, R490): what the claim kept, with WITHDRAWN as it stands. -/
def claimFlags (s : State) (n : Fin 2) : Nat :=
  s.tw[n].claimFlags + (match s.tw[n].claimed with | some i => bit (s.evc.wdrawn.testBit i) | none => 0)

/-- `WD_HSTAT` (R470). -/
def wdHstat (s : State) (n : Fin 2) : Nat :=
  bitsOf [s.wd.on, wdObliged s n, wdInGrace s n, wdFrozen s] + 16 * min 15 s.wd.hosts[n].failCnt

/-- `RSTAT_j` (R470). -/
def rstat (s : State) (r : Fin 28) : Nat :=
  let x := s.rails[r]
  bitsOf [x.prot.pg, x.dyn.transition, x.dyn.moving, decide (x.prot.fault % 64 ≠ 0), x.dyn.held, x.dyn.stepAlarm, true,
    x.fc.trimActive]

/-- `RI_r` (R565): `RAIL_I` in 0.1 A, saturating; rounding is not stated. DESIGN CHOICE, log entry 14; DEDUCED, log entry 71. -/
def railIWindow (s : State) (r : Fin 28) : Nat :=
  let q : Rat := (railCurrent s r : Rat) / 100
  let f : Int := q.floor + (if Config.freeBool 565 s.freeCtr && decide ((q.floor : Rat) ≠ q) then 1 else 0)
  toTwos 16 (clampI (-32768) 32767 f)

/-- The codes of `WR_RESULT` (R466). -/
def WrResult.code : WrResult → Nat
  | .accepted => 0 | .pending => 1 | .busy => 2 | .notPermitted => 3 | .state => 4
  | .readOnly => 5 | .incomplete => 6 | .pec => 7 | .ignored => 8 | .align => 9

/-- The value of a register of port `n`; WO and reserved bytes read 0 (R468), and so does an unmapped slot (R472). -/
def regValue (s : State) (n : Fin 2) : WinReg → Nat
  | .format => if s.pwr.oldChart then 1 else 2
  | .pkg => s.part.code
  | .info => n.val + 2 * s.roles[portOfTw n] + 8 * bit s.tw[n].pec
  | .dev => devStatus s
  | .uid => Config.unitId
  | .acause => alertCause s n
  | .pend => evtPend s n
  | .claim => claimByte s n
  | .cflags => claimFlags s n
  | .covf => s.tw[n].claimOvf
  | .wdq => s.wd.lfsr
  | .wdh => wdHstat s n
  | .wdt => s.wd.tick
  | .wdlf => s.wd.hosts[n].lastFail
  | .wr => s.tw[n].wrResult.code
  | .wroff => s.tw[n].wrOffset
  | .twerr => if s.pwr.oldChart then clrBit s.tw[n].err 4 else s.tw[n].err
  | .vset j => match windowRail s n j with | some r => settingOf s (okey (0x3100 + r) 0x01) 750 | none => 0
  | .rstat j => match windowRail s n j with | some r => rstat s r | none => if s.pwr.oldChart then 0x40 else 0
  | .rv j => match windowRail s n j with | some r => s.rails[r].vout | none => 0
  | .rflt j => match windowRail s n j with | some r => s.rails[r].prot.fault % 256 | none => 0
  | .ri j => match windowRail s n j with | some r => railIWindow s r | none => 0
  | .tidx => s.tw[n].tun.index
  | .tsub => s.tw[n].tun.sub
  | .tlen => s.tw[n].tun.len
  | .tofs => s.tw[n].tun.offset
  | .tstat => s.tw[n].tun.phase.ctorIdx
  | .tabort => s.tw[n].tun.abort
  | .tsize => s.tw[n].tun.size
  | .tdata => leNat s.tw[n].tun.data
  | .complete | .wda | .wdci | .fc _ | .tcmd | .reserved => 0

/-- The whole window (R468). -/
def windowOf (s : State) (n : Fin 2) : List Byte := (winMap s).flatMap fun w => leBytes w.size (regValue s n w.reg)

/-- The window a read sees: during the activate pause the values that stood when it began, with bit [2] of `DEV_STATUS`
set (R467). -/
def windowSeen (s : State) (n : Fin 2) : List Byte :=
  if s.update.pause then
    let o := regFirst s .dev
    s.tw[n].frozen.modify o fun b => b ||| 4
  else windowOf s n

/-- The activate pause begins: the windows are held. -/
def freezeWindows (s : State) : State :=
  { s with tw := Vector.ofFn fun n => { s.tw[n] with frozen := windowOf s n } }

/-- `TUN_LEN` in force: 1 to 64, in Old Chart mode 1 to 32 (R470, R565). -/
def tunLen (s : State) (n : Fin 2) : Nat :=
  let m := if s.pwr.oldChart then 32 else 64
  let v := s.tw[n].tun.len
  if 1 ≤ v ∧ v ≤ m then v else Config.outOfRange 0x83 v s.freeCtr % (m + 1)

/-- CRC-8 with polynomial 0x07 and initial value 0 (R469). -/
def crc8 (l : List Byte) : Nat := l.foldl (fun r b => Nat.repeat (crcBit 8 0x07) 8 (r ^^^ b.toNat)) 0

end Sys2Proof.Machine
end

