-- ==== Sys2Proof/Machine/WaitOps.lean ====
section
/-! DEFINITION. Reads of the ports as they are served at once or once a rail die's link is UP again: the expedited read R510, the
tunnel's READ R475, the reads that wait for a link R562. -/

namespace Sys2Proof.Machine

/-- Change port `n`. -/
def modTw (n : Fin 2) (f : TwPort → TwPort) (s : State) : State := { s with tw := vmod s.tw n f }

/-- Change the tunnel of port `n`. -/
def modTun (n : Fin 2) (f : Tunnel → Tunnel) (s : State) : State := modTw n (fun t => { t with tun := f t.tun }) s

/-- An expedited READ (R510): a DOMAIN of more than 56 bytes is too long. -/
def readExpedited (p : Port) (idx sub : Nat) (s : State) : State × Ack :=
  match checkRead s p idx sub with
  | .error e => (s, .abort e)
  | .ok r =>
    match readObject p r idx sub s with
    | (t, .value b) => if r.typ = .domain ∧ 56 < b.length then (s, .abort .tooLong) else (t, .value b)
    | out => out

/-- Set the transfer of a port. -/
def setTransfer (n : Fin 4) (t : Transfer) (s : State) : State := modCan n (fun c => { c with transfer := t }) s

/-- What a tunnel READ gives (R475). -/
def tunReadOut (n : Fin 2) (s : State) : State × Ack :=
  let t := s.tw[n].tun
  let p := portOfTw n
  match checkRead s p t.index t.sub with
  | .error e => (s, .abort e)
  | .ok r =>
    if r.typ ≠ .domain ∧ t.offset ≠ 0 then (s, .abort .length) else
      match readObject p r t.index t.sub s with
      | (s1, .value b) =>
        let s2 := modTun n (fun t => { t with size := b.length % 65536 }) s1
        if r.typ ≠ .domain then (s2, .value b)
        else if b.length < t.offset then (s, .abort .length)
        else (s2, .value ((b.drop t.offset).take (tunLen s n)))
      | out => out

/-- A request that waits for the object at `idx`, `sub` is a read: READ or BLOCK_READ_INIT. -/
def readWaits (idx sub : Nat) (w : PendResp) : Bool :=
  decide (w.idx = idx ∧ w.sub = sub) && (decide (w.cmd = 0x80 + cmdRead) || decide (w.cmd = 0x80 + cmdBlockRead))

/-- A waiting READ or BLOCK_READ_INIT of CAN port `n` is served after all (R562). -/
def waitServed (n : Fin 4) (w : PendResp) (s : State) : State :=
  if w.cmd = 0x80 + cmdRead then
    let o := readExpedited (portOfCan n) w.idx w.sub s
    respond n w o.2 o.1
  else match readRequest (portOfCan n) w.idx w.sub s with
    | (t, .value b) => respond n { w with data := leBytes 4 b.length } .done (setTransfer n (.blockRead w.tag w.idx w.sub b) t)
    | (t, a) => respond n w a t

/-- The reads of a port that wait for the object at `idx`, `sub` are served after all. -/
def waitRead (p : Port) (idx sub : Nat) (s : State) : State :=
  match twOf p with
  | some n =>
    if s.tw[n].tun.phase = .busy ∧ s.tw[n].tun.index = idx ∧ s.tw[n].tun.sub = sub ∧ s.tw[n].tun.outcome = .none then
      let o := tunReadOut n (modTun n (fun t => { t with phase := .idle }) s)
      modTun n (fun t => { t with phase := .busy, outcome := o.2 }) o.1
    else s
  | none => match fin? 4 p.val with
    | none => s
    | some n => (s.can[n].waiting.filter (readWaits idx sub)).foldl (fun a w => waitServed n w a)
        (modCan n (fun c => { c with waiting := c.waiting.filter fun w => !readWaits idx sub w }) s)

/-- The reads that wait for the link of die `k` are served: the link is UP again, or t_LTRN is over and they are refused (R562).
DEDUCED, log entry 76. -/
def readsAnswered (k : Fin 7) (s : State) : State :=
  s.links[k].reads.foldl (fun a x => waitRead x.1 x.2.1 x.2.2 a) (modLink k (fun l => { l with reads := [] }) s)

end Sys2Proof.Machine
end

