-- ==== Sys2Proof/Machine/Store.lean ====
section
/-! DEFINITION. The non-volatile store: the configuration image R554, saves and repairs R372, R373, the vote R100, the Home
Chart R374 to R376, journal R380, R381, hold-up R383 to R391 and the secure partition R396, with their commands. -/

namespace Sys2Proof.Machine

/-! ### The objects of the part in ascending order (R546) -/

/-- The index ranges of the object tables, ascending. -/
def objBlocks : List (Nat × Nat) :=
  objRows.foldr (fun r l => match l with
    | x :: _ => if x = (r.base, r.cnt) then l else (r.base, r.cnt) :: l
    | [] => [(r.base, r.cnt)]) []

/-- The rows of a range. -/
def blockRows (b : Nat × Nat) : List ObjRow := objRows.filter fun r => decide ((r.base, r.cnt) = b)

/-- Every object of the part but the subindices 0: index, subindex and row, ascending. -/
def allObjects (p : Part) : List (Nat × Nat × ObjRow) :=
  objBlocks.flatMap fun b =>
    (List.range' b.1 b.2).flatMap fun idx =>
      (blockRows b).flatMap fun r =>
        ((List.range' r.sub r.nsub).filter fun sub => inPart p idx sub).map fun sub => (idx, sub, r)

/-! ### The configuration image (R554 to R557) -/

/-- One entry: index, subindex, length, value, filled to a multiple of 4. -/
def imageEntry (idx sub : Nat) (value : List Byte) : List Byte :=
  leBytes 2 idx ++ leBytes 1 sub ++ leBytes 1 value.length ++ value ++ List.replicate ((4 - value.length % 4) % 4) 0

/-- A mode-dependent object (R124). -/
def modeDependent (r : ObjRow) : Bool := decide (r.d48 ≠ r.d12)

/-- The image of the running values: an entry for every stored object but a mode-dependent one never written. -/
def imageOf (s : State) : List Byte :=
  (allObjects s.part).flatMap fun x =>
    let key := okey x.1 x.2.1
    if objStored x.2.2 x.1 x.2.1 && (!modeDependent x.2.2 || (mapGet key s.settings).isSome)
    then imageEntry x.1 x.2.1 (leBytes x.2.2.typ.bytes (settingValue s x.2.2 key)) else []

/-- The entries of a body: index, subindex and value; what does not make a whole entry ends the list. DEDUCED, log entry 68. -/
def imageEntries : Nat → List Byte → List (Nat × Nat × List Byte)
  | 0, _ => []
  | f + 1, l =>
    match l with
    | i0 :: i1 :: sub :: len :: rest =>
      if rest.length < len.toNat then []
      else (leNat [i0, i1], sub.toNat, rest.take len.toNat) :: imageEntries f (rest.drop ((len.toNat + 3) / 4 * 4))
    | _ => []

/-- Every entry of a body. -/
def entriesOf (body : List Byte) : List (Nat × Nat × List Byte) := imageEntries (body.length + 1) body

/-- Fields that only the Home Chart carries (R556). -/
def hcOnly (idx sub : Nat) : Bool := (decide (idx / 256 = 0x32) && decide (sub = 1)) || decide (idx = 0x2D20)

/-- An entry that R555 applies: its object exists in the part, is stored, and the length is the object's. -/
def entryApplies (p : Part) (e : Nat × Nat × List Byte) : Bool :=
  match objRow p e.1 e.2.1 with
  | none => false
  | some r => objStored r e.1 e.2.1 && decide (e.2.2.length = r.typ.bytes)

/-- The Home Chart's own entries as R556 takes them up: of an object of the part and of its length, inside their range. -/
def hcField (p : Part) (e : Nat × Nat × List Byte) : Bool :=
  hcOnly e.1 e.2.1 && match objRow p e.1 e.2.1 with
    | none => false
    | some r => decide (e.2.2.length = r.typ.bytes)

/-- In range (R556): `OV_ABS` 400 to 1950, `PORT_ROLE` 0 to 3. -/
def hcFieldOk (e : Nat × Nat × List Byte) : Bool :=
  if e.1 = 0x2D20 then decide (leNat e.2.2 ≤ 3) else decide (400 ≤ leNat e.2.2 ∧ leNat e.2.2 ≤ 1950)

/-- Apply a configuration body (R555): the settings it gives and the entries skipped. Home Chart fields of the Home Chart are
judged by R556 alone. -/
def applyBody (p : Part) (fromHc : Bool) (body : List Byte) : List (Nat × Nat) × Nat :=
  (entriesOf body).foldl (fun acc e =>
    if fromHc && hcField p e then acc
    else if entryApplies p e then (mapPut (okey e.1 e.2.1) (leNat e.2.2) acc.1, acc.2) else (acc.1, acc.2 + 1)) ([], 0)

/-- Take up the Home Chart's fields at every boot (R496, R556): roles, over-voltage thresholds, entries skipped. -/
def takeHomeChart (s : State) : State :=
  let s0 := { s with
    roles := defaultRoles
    rails := s.rails.map fun x => { x with prot := { x.prot with ovAbs := 1950 } } }
  if !s.mram.hc.valid then s0 else
    ((entriesOf s.mram.hc.body).filter (hcField s.part)).foldl (fun a e =>
      if !hcFieldOk e then { a with skipCnt := satAdd max16 a.skipCnt 1 }
      else if e.1 = 0x2D20 then (match fin? 6 (e.2.1 - 1) with
        | some p => { a with roles := vset a.roles p (leNat e.2.2) }
        | none => a)
      else (match fin? 28 (e.1 % 256) with
        | some r => modProt r (fun x => { x with ovAbs := leNat e.2.2 }) a
        | none => a)) s0

/-! ### The vote (R100 to R104) -/

/-- What the vote decides: the copy used, or the Home Chart; the copies to be rewritten; UPDATE_ABANDONED. -/
structure Vote where
  used      : Option (Fin 3)
  repairs   : List (Fin 3)
  abandoned : Bool
  deriving DecidableEq, Repr

/-- Two copies agree (R100). -/
def copiesAgree (x y : CfgCopy) : Bool := x.valid && y.valid && decide (x.gen = y.gen) && decide (x.body = y.body)

/-- The vote table of R100. -/
def vote (cs : Vector CfgCopy 3) : Vote :=
  let a := cs[(0 : Fin 3)]
  let b := cs[(1 : Fin 3)]
  let d := cs[(2 : Fin 3)]
  let split : Vote := ⟨none, [], false⟩
  match a.valid, b.valid, d.valid with
  | true, true, true =>
    if copiesAgree a b && copiesAgree b d then ⟨some 0, [], false⟩
    else if copiesAgree a b then ⟨some 0, [2], false⟩
    else if copiesAgree a d then ⟨some 0, [1], false⟩
    else if copiesAgree b d then ⟨some 1, [0], false⟩
    else split
  | true, true, false => if copiesAgree a b then ⟨some 0, [2], false⟩ else split
  | true, false, true =>
    if copiesAgree a d then ⟨some 0, [1], false⟩
    else if a.gen = (d.gen + 1) % 2 ^ 32 then ⟨some 2, [0, 1], true⟩ else split
  | false, true, true => if copiesAgree b d then ⟨some 1, [0], false⟩ else split
  | _, _, _ => split

/-- The result of the vote in the boot record, and the configuration it applies (R100, R104, R555). -/
def applyVote (s : State) : State :=
  let v := vote s.mram.cfg
  let needHc := v.used.isNone
  let (set, skip) := match v.used with
    | some k => applyBody s.part false s.mram.cfg[k].body
    | none => if s.mram.hc.valid then applyBody s.part true s.mram.hc.body else ([], 0)
  takeHomeChart { s with
    settings := set
    skipCnt := min max16 skip
    boot := { s.boot with
      cfgRepaired := !v.repairs.isEmpty, cfgAbandoned := v.abandoned, cfgSplit := needHc, hcUsed := needHc,
      hcInvalid := needHc && !s.mram.hc.valid, crcValid := bitsOf (s.mram.cfg.toList.map fun c => c.valid),
      copyUsed := match v.used with | some k => k.val | none => 3
      cfgGen := match v.used with | some k => s.mram.cfg[k].gen | none => 0
      repairs := v.repairs } }

/-! ### Saves and repairs (R369, R372, R373, R102) -/

/-- The MRAM offset of a configuration copy (R366). -/
def copyOffset (k : Fin 3) : Nat := 0x80000 + 0x8000 * k.val

/-- Change a configuration copy. -/
def modCopy (k : Fin 3) (f : CfgCopy → CfgCopy) (s : State) : State :=
  { s with mram := { s.mram with cfg := vmod s.mram.cfg k f } }

/-- The write of a copy begins: its first header word, which holds the generation, is zero and the record invalid until its header is
complete (R369, R372). DEDUCED, log entry 32. -/
def startCopy (k : Fin 3) (s : State) : State :=
  modNv (fun v => { v with saveCopy := some k }) (modCopy k (fun c => { c with valid := false, gen := 0 }) (mramFresh (copyOffset k) 0x8000 s))

/-- A save or a vote repair runs (R373). -/
def saveRuns (s : State) : Bool := s.nv.saveCopy.isSome || s.nv.repairing

/-- The event source of the configuration save (R485). -/
def saveEvent (s : State) : State := eventEdge 34 s

/-- The generation a save writes (R372). -/
def nextGen (s : State) : Nat :=
  ((if s.boot.hcUsed then (s.mram.cfg.toList.map (·.gen)).foldl max 0 else s.boot.cfgGen) + 1) % 2 ^ 32

/-- A write of `CFG_SAVE` (R372, R373). DEDUCED, log entry 74. -/
def cfgSaveOp (value : Nat) (s : State) : State × Ack :=
  if saveRuns s then (s, .abort .state)
  else if value ≠ 0x5AFE then (s, .done)
  else (startCopy 0 (modNv (fun v => { v with
    saveGen := nextGen s, saveBody := imageOf s, saveStatus := 1, repairing := false }) s), .done)

/-- CFG_SAVE (R372). -/
def execCfgSave (p : Port) (value : Nat) (s : State) : Res := .next (directWrite p (okey 0x2801 0x01) s (cfgSaveOp value))

/-- The next vote repair starts, or the repairs are done (R102). DEDUCED, log entry 32. -/
def nextRepair (s : State) : State :=
  match s.boot.repairs, fin? 3 s.boot.copyUsed with
  | k :: l, some u =>
    startCopy k (modNv (fun v => { v with repairing := true, saveGen := s.mram.cfg[u].gen, saveBody := s.mram.cfg[u].body })
      { s with boot := { s.boot with repairs := l } })
  | _, _ => modNv (fun v => { v with repairing := false, saveCopy := none }) s

/-- A save or repair stops (R369, R373): the copy stays invalid with its first header word zero, and MRAM_WRITE_FAIL is logged.
DEDUCED, log entry 32. -/
def saveFailed (k : Fin 3) (s : State) : State :=
  let s1 := logFault .mramWriteFail 0 0 (copyOffset k) (modCopy k (fun _ => ⟨false, 0, s.nv.saveBody⟩) s)
  if s.nv.repairing then modNv (fun v => { v with saveCopy := none, repairing := false }) { s1 with boot := { s1.boot with repairs := [] } }
  else saveEvent (modNv (fun v => { v with saveCopy := none, saveStatus := 3 }) s1)

/-- Copy `k` is written and verified (R372, R102). DEDUCED, log entry 32. -/
def copyDone (k : Fin 3) (s : State) : State :=
  let s1 := modCopy k (fun _ => ⟨true, s.nv.saveGen, s.nv.saveBody⟩) s
  if s.nv.repairing then nextRepair (logFault .configRepaired 0 k (configStatus s1) s1)
  else match fin? 3 (k.val + 1) with
    | some j => startCopy j s1
    | none => saveEvent (modNv (fun v => { v with saveCopy := none, saveStatus := 2 })
        { s1 with boot := { s1.boot with cfgGen := if s.boot.hcUsed then s.boot.cfgGen else s.nv.saveGen } })

/-- CONFIG_COPY_WRITTEN (R369, R372, R373): not while journal words wait (R368). DEDUCED, log entry 74. -/
def execConfigCopyWritten (ok : Bool) (s : State) : Res :=
  match s.nv.saveCopy with
  | none => .next s
  | some k => .next (if journalWaits s then s else if ok then copyDone k s else saveFailed k s)

/-! ### The Home Chart (R374 to R376) -/

/-- Change the Home Chart. -/
def modHc (f : HomeChart → HomeChart) (s : State) : State := { s with mram := { s.mram with hc := f s.mram.hc } }

/-- A write of `HC_IMAGE` from a MASTER port (R374, R375): the length first, then the state; the answer waits for the MRAM.
DEDUCED, log entry 74. -/
def hcImageOp (p : Port) (bytes : List Byte) (s : State) : State × Ack :=
  if 32696 < bytes.length then (s, .abort .length)
  else if !(decide (s.mram.lc = 1) || decide (s.mram.lc = 2)) || hcLocked s || s.nv.hcWrite.isSome then (s, .abort .state)
  else (modNv (fun v => { v with hcWrite := some bytes, hcPort := p }) (modHc (fun h => { h with valid := false }) (mramFresh 0x98000 0x7FF8 s)), .none)

/-- HC_IMAGE_WRITE (R375). -/
def execHcImageWrite (p : Port) (bytes : List Byte) (s : State) : Res :=
  .next (directWrite p (okey 0x2802 0x01) s (hcImageOp p bytes))

/-- HOME_CHART_WRITTEN (R369, R375): the request is answered; the chart takes effect at the next boot. Not while journal words wait
(R368). A chart locked meanwhile takes no further word (R376), so the write has failed. DEDUCED, log entry 74. -/
def execHomeChartWritten (ok : Bool) (s : State) : Res :=
  match s.nv.hcWrite with
  | none => .next s
  | some b =>
    let done := ok && !hcLocked s
    let s1 := modNv (fun v => { v with hcWrite := none, hcNext := v.hcNext || done }) s
    .next (if journalWaits s then s
      else if done then answerPort s.nv.hcPort 0x2802 1 .done (modHc (fun h => { h with valid := true, body := b }) s1)
      else answerPort s.nv.hcPort 0x2802 1 (.abort .storeFail) (logFault .mramWriteFail 0 0 0x98000 s1))

/-- A write of `HC_LOCK` (R376). -/
def hcLockOp (value : Nat) (s : State) : State × Ack :=
  if value ≠ 0x4C4F434B || hcLocked s then (s, .done)
  else if s.mram.lc = 2 ∧ s.mram.hc.valid then (lockHomeChart s, .done)
  else (s, .abort .state)

/-- HC_LOCK (R376). -/
def execHcLock (p : Port) (value : Nat) (s : State) : Res := .next (directWrite p (okey 0x2802 0x02) s (hcLockOp value))

/-! ### The journal (R380, R381) -/

/-- JOURNAL_APPEND (R380): the records of a fresh Last Fix tail first, after step 7 (R381), then the oldest entry of the ring.
DEDUCED, log entry 34. -/
def execJournalAppend (s : State) : Res :=
  if !sysRuns s then .next s
  else match s.boot.phase, s.nv.lfTail with
    | .ready, r :: l => .next (journalPut { r with fromLf := true } (modNv (fun v => { v with lfTail := l, lfTailDone := v.lfTailDone || l.isEmpty }) s))
    | _, _ => .next (journalOne s)

/-! ### Hold-up (R385 to R390) -/

/-- The newest valid Last Fix (R390). -/
def newestFix (s : State) : Option (Fin 2) :=
  match s.mram.lf[(0 : Fin 2)].valid, s.mram.lf[(1 : Fin 2)].valid with
  | true, true => some (if seqNewer s.mram.lf[(1 : Fin 2)].seq s.mram.lf[(0 : Fin 2)].seq then 1 else 0)
  | true, false => some 0
  | false, true => some 1
  | false, false => none

/-- A 16-bit field from an exact value, as reported. DESIGN CHOICE, log entry 33. -/
def fix16 (s : State) (use : Nat) (x : Rat) : List Byte := leBytes 2 (toTwos 16 (tenths s use x))

/-- Logbook fault status, first-error capture, Star Sight cycle state and the pending map (R389), in that order and packed, each as
wide as its objects: the manual gives them no offsets. DESIGN CHOICE, log entry 33. -/
def lfFaults (s : State) : List Byte :=
  leBytes 2 (logStatus s) ++ leBytes 2 s.log.aCode ++ leBytes 2 s.log.bCode
    ++ leBytes 4 s.fab.addr ++ leBytes 1 s.fab.master ++ leBytes 1 s.fab.typ ++ leBytes 8 s.fab.time
    ++ leBytes 2 (wdStatus s) ++ leBytes 2 s.wd.tick ++ leBytes 4 s.wd.cycleCnt ++ leBytes 16 (pendMap s)

/-- The content of a Last Fix at offsets 0x000 to 0x1FF (R389). DESIGN CHOICE, log entry 33. -/
def lfHead (s : State) : List Byte :=
  let b (n : Nat) : List Byte := leBytes 1 n
  let top := b (pwrCode s.pwr.state) ++ b s.pp.phase.ctorIdx ++ b (srcTypeCode s) ++ b s.chg.phase.ctorIdx
    ++ (s.zin.toList.flatMap fun c => b c.phase.ctorIdx) ++ (s.fo.toList.flatMap fun c => b c.phase.ctorIdx)
    ++ ((allFin 8).flatMap fun g => leBytes 2 (grpStatus s g)) ++ b (pfwStatus s)
    ++ leBytes 2 s.pp.lbusV ++ leBytes 2 s.zbus.v ++ leBytes 2 s.pp.packV
  let rails := (allFin 28).flatMap fun r =>
    if railPresent s r then
      leBytes 2 s.rails[r].prot.fault ++ b (pgStatus s r) ++ b (railN s r) ++ leBytes 2 s.rails[r].vout
        ++ fix16 s 0x389 ((railCurrent s r : Rat) / 1000)
    else List.replicate 8 0
  let g := s.gauge
  let gauge := leBytes 2 (gaugeReported s 0x271002 (g.socV * 1000)) ++ leBytes 4 (reported s 0x38901 (g.qInt * 100))
    ++ fix16 s 0x38902 (g.v1 * 10) ++ fix16 s 0x38903 (g.v2 * 10) ++ leBytes 4 g.restSec ++ b g.learn.ctorIdx
    ++ leBytes 4 (reported s 0x38904 (g.qDis * 100)) ++ leBytes 2 (ggStatus s)
  zeroFill 64 top ++ zeroFill 256 rails ++ zeroFill 64 gauge ++ zeroFill 128 (lfFaults s)

/-- The slot a save writes (R386): the one that does not hold the newer valid Last Fix. -/
def fixSlot (s : State) : Fin 2 := match newestFix s with | some k => otherSlot k | none => 0

/-- The Last Fix of this moment (R388, R389); a sequence with no valid slot before it is stated nowhere.
DESIGN CHOICE, log entry 33. -/
def makeFix (hucap : Nat) (s : State) : LfSlot :=
  let lost := s.log.ring.length - 112
  { valid := false, torn := true
    seq := match newestFix s with | some k => seqNext s.mram.lf[k].seq | none => Config.free 388 s.freeCtr % 2 ^ 32
    boot := s.boot.bootCount, time := s.devTime, hucap := hucap, lost := min max16 lost, pwr := pwrCode s.pwr.state
    head := lfHead s, tail := s.log.ring.drop lost }

/-- Change a Last Fix slot. -/
def modFix (k : Fin 2) (f : LfSlot → LfSlot) (s : State) : State :=
  { s with mram := { s.mram with lf := vmod s.mram.lf k f } }

/-- The MRAM offset of a Last Fix slot (R366). -/
def fixOffset (k : Fin 2) : Nat := 0xD4000 + 0x2000 * k.val

/-- The entry conditions under which the save runs (R388). -/
def saveAllowed (s : State) : Bool := decide (s.boot.phase = .ready) || decide (s.boot.phase = .inReset)

/-- The outputs from hold-up entry (R385). -/
def holdUpOutputs (s : State) : State :=
  let s1 := (allFin 28).foldl (fun a r => railToMid r a) s
  let s2 := resetPins (resetCharger (resetRegs (resetZin (killFos s1))))
  { s2 with
    zin := s2.zin.map fun c => { c with
      coldStart := true, coldOn := c.phase.carries || (c.coldStart && c.coldOn),
      coldBlock := decide (c.phase = .block) || (c.coldStart && c.coldBlock),
      coldDone := c.phase.carries || (c.coldStart && c.coldDone), phase := .off }
    pp := chargerStopped s2.pp
    zbus := { s2.zbus with pfw := true }
    groups := Vector.replicate 8 .init
    items := Vector.replicate 46 .init
    wd := { s2.wd with running := false }
    ewd := { s2.ewd with running := false } }

/-- HOLD_UP_ENTRY (R385, R386): writes are abandoned, the Last Fix is taken from what the Hamper holds, the outputs take their
hold-up states. -/
def execHoldUpEntry (hucap : Nat) (s : State) : Res :=
  if s.boot.phase = .porHeld || s.boot.phase = .holdUp then .next s else
    let k := fixSlot s
    let fix := makeFix hucap s
    let s1 := updStop (holdUpOutputs (dropWrites (learnStop 8 (tearJournal s))))
    let s2 := { s1 with
      boot := { s1.boot with phase := .holdUp, odAnswering := false, step8 := false, resetNInSave := false }
      pwr := { s1.pwr with parkEntry := false }
      clk := { s1.clk with huRun := true }
      nv := { s1.nv with huSave := saveAllowed s, huSlot := k, hucap := hucap } }
    .next (useFree (if saveAllowed s then modFix k (fun _ => fix) (mramFresh (fixOffset k) 0x2000 s2) else s2))

/-- The power-on reset of the helm die (R76, R386): everything but the store, what stands at the pins, and the commands that wait
goes to its value of `State.reset`. -/
def powerOnReset (s : State) : State :=
  let z := State.reset
  { z with
    part := s.part, mram := s.mram, pending := s.pending, freeCtr := s.freeCtr
    zin := Vector.ofFn fun n => if s.zin[n].coldStart then { z.zin[n] with
        inWindow := s.zin[n].inWindow, coldOn := s.zin[n].coldOn, coldBlock := s.zin[n].coldBlock, coldDone := s.zin[n].coldDone,
        fault := s.zin[n].fault }
      else { z.zin[n] with inWindow := s.zin[n].inWindow }
    fo := Vector.ofFn fun n => { z.fo[n] with present := s.fo[n].present }
    rails := Vector.ofFn fun r => { z.rails[r] with enPin := s.rails[r].enPin }
    dies := Vector.ofFn fun k => { z.dies[k] with vdrOk := s.dies[k].vdrOk, stf := s.dies[k].stf }
    zbus := { z.zbus with inWindow := s.zbus.inWindow, v := s.zbus.v }
    pp := { z.pp with svcQual := s.pp.svcQual, svcRev := s.pp.svcRev, present := s.pp.present }
    nv := { z.nv with tamperLow := s.nv.tamperLow }
    boot := { z.boot with resetNLow := s.boot.resetNLow } }

/-- Steps 4 and 5 of R386 completed: the slot is valid, unless a word of it took no write (R369). DEDUCED, log entry 74. -/
def fixWritten (s : State) : State :=
  if s.nv.huSave && !errIn s (fixOffset s.nv.huSlot) 0x1040 .stuck
  then modFix s.nv.huSlot (fun x => { x with valid := true, torn := false }) s else s

/-- Step 6 of R386: the two counter records. -/
def fixCounted (s : State) : State :=
  if s.nv.huSave then ctrAppend ctrHu (satAdd max32 s.nv.ctr[ctrHu] 1) (ctrAppend ctrCause 2 s) else s

/-- The save is cut off while it appends its counter records: whether a record had begun is stated nowhere. DESIGN CHOICE, log
entry 85. -/
def tearCtr (s : State) : State :=
  match s.nv.huSave && Config.freeBool 382 s.freeCtr, s.nv.slotUse with
  | true, some k => modSlot k (fun g => { g with recs := pushRec g.recs ⟨true, 2, 2, s.nv.ctrSeq⟩ }) s
  | _, _ => s

/-- HOLD_UP_SAVE_END (R386, R84): a `RESET_N` recognised in the save is kept only while `VAUX` stands above V_POR_R. -/
def execHoldUpSaveEnd (vauxHigh : Bool) (s : State) : Res :=
  if s.boot.phase ≠ .holdUp then .next s else
    let s1 := powerOnReset (fixCounted (fixWritten s))
    .next { s1 with boot := { s1.boot with resetNInSave := s.boot.resetNInSave && vauxHigh } }

/-- HUCAP_POWER_ON_RESET (R387) after `step` steps of R386 have ended: the slot stays invalid before the fourth, the counters
as they stand before the sixth. Cut off in the sixth, the record being written may be torn (R378, R382): free. A `RESET_N` recognised
in that save is discarded (R84). DEDUCED, log entry 74; DESIGN CHOICE, log entry 85. -/
def execHucapPowerOnReset (step : Fin 7) (s : State) : Res :=
  if s.boot.phase ≠ .holdUp then .next s else
    let s1 := if 4 ≤ step.val then fixWritten s else s
    .next (powerOnReset (if 6 ≤ step.val then fixCounted s1 else if step.val = 5 then useFree (tearCtr s1) else s1))

/-! ### Tamper (R396, R397) -/

/-- TAMPER (R396): recognised low. The partition is wiped, an update stops (R543), the event is counted and logged and wakes the
device. Without a supply only the pin is low; during the save the wipe is made and the save goes on (R391). -/
def execTamper (s : State) : Res :=
  if s.nv.tamperLow then .next s else
    let s1 := modNv (fun v => { v with tamperLow := true }) s
    if s.boot.phase = .porHeld then .next s1
    else
      let n := satAdd max16 s.nv.ctr[ctrTamper] 1
      let s2 := ctrAppend ctrTamper n (updStop (secureWipe true s1))
      if s.boot.phase = .holdUp then .next s2
      else .next (wakeOn 13 (eventEdge 29 (logFault .tamper 0 0 n s2)))

/-- TAMPER_RELEASE (R452). -/
def execTamperRelease (s : State) : Res := .next (modNv (fun v => { v with tamperLow := false }) s)

end Sys2Proof.Machine
end

