-- ==== Sys2Proof/Machine/Update.lean ====
section
/-! DEFINITION. Firmware update R529 to R536, activation and trial R537 to R541, life-cycle R542, R543, with their commands. -/

namespace Sys2Proof.Machine

/-- Change the update path. -/
def modUpd (f : UpdState → UpdState) (s : State) : State := { s with update := f s.update }

/-- Change bank `k`. -/
def modBank (k : Fin 2) (f : Bank → Bank) (s : State) : State :=
  { s with mram := { s.mram with banks := vmod s.mram.banks k f } }

/-- `UPD_STATE` changes: event source 35 (R485). -/
def updTo (ph : UpdPhase) (s : State) : State :=
  if s.update.phase = ph then s else eventEdge 35 (modUpd (fun u => { u with phase := ph }) s)

/-- The bank that an update writes: the one that does not run (R533). -/
def targetBank (s : State) : Fin 2 := otherSlot s.update.sel

/-! ### The header (R529, R530) -/

/-- The header CRC holds (R529). -/
def headerCrcOk (h : List Byte) : Bool := decide (h.length = 256) && decide (fieldAt h 0xFC 4 = crc32 (h.take 0xFC))

/-- All bytes of a range are zero. -/
def zeroAt (l : List Byte) (ofs n : Nat) : Bool := ((l.drop ofs).take n).all fun b => decide (b = 0)

/-- Check 2: magic, format, kind, header CRC and zero fields; the unit ID is zero in an unbound image. -/
def imgFormatOk (h : List Byte) : Bool :=
  decide (fieldAt h 0x00 4 = 0x47414D49) && decide (fieldAt h 0x04 2 = 1) && decide (fieldAt h 0x06 2 = 1)
    && headerCrcOk h && decide (fieldAt h 0x0C 4 < 2)
    && (decide (fieldAt h 0x0C 4 = 1) || zeroAt h 0x10 8) && zeroAt h 0x2C 4 && zeroAt h 0x70 16 && zeroAt h 0xC0 60

/-- Check 3: hardware type. -/
def imgTypeOk (s : State) (h : List Byte) : Bool :=
  let t := fieldAt h 0x08 4
  decide (t / 256 = hwType s.part / 256) && (decide (t % 256 = hwType s.part % 256) || decide (t % 256 = 0))

/-- Check 4: binding. -/
def imgUnitOk (s : State) (h : List Byte) : Bool :=
  let bound := decide (fieldAt h 0x0C 4 = 1)
  let equal := decide (fieldAt h 0x10 8 = Config.unitId % 2 ^ 64)
  if s.mram.lc = 4 then bound && equal else !bound || equal

/-- Helm and rail section sizes. -/
def helmSize (h : List Byte) : Nat := fieldAt h 0x20 4
def railSize (h : List Byte) : Nat := fieldAt h 0x24 4
def payloadSize (h : List Byte) : Nat := fieldAt h 0x28 4

/-- Check 5: sizes. -/
def imgSizeOk (h : List Byte) : Bool :=
  decide (8 ≤ helmSize h ∧ helmSize h ≤ 196608 ∧ helmSize h % 8 = 0) && decide (8 ≤ railSize h ∧ railSize h ≤ 49152 ∧ railSize h % 8 = 0)
    && decide (payloadSize h = helmSize h + railSize h)

/-- Check 6: security version against the ACTIVE bank. -/
def imgSecVersionOk (s : State) (h : List Byte) : Bool :=
  decide (fieldAt s.mram.banks[s.update.sel].header 0x1C 4 ≤ fieldAt h 0x1C 4)

/-- Check 7: the signature over the digest of bytes 0x00 to 0x7F, r then s, little-endian as every field (R529).
DEDUCED, log entry 68. -/
def signatureOk (h : List Byte) : Bool :=
  ecdsaOk Config.imageKey (sha256 (h.take 0x80)) (fieldAt h 0x80 32) (fieldAt h 0xA0 32)

/-- The checks of R530 in their order: the number of the first that fails. -/
def imageRefusal (s : State) (h : List Byte) : Option (Fin 9) :=
  if !(s.nv.keyLoaded && !s.nv.wiped) then some 0
  else if !imgFormatOk h then some 1
  else if !imgTypeOk s h then some 2
  else if !imgUnitOk s h then some 3
  else if !imgSizeOk h then some 4
  else if !imgSecVersionOk s h then some 5
  else if !signatureOk h then some 6
  else none

/-- `UPD_REFUSE` holds the low byte of the last image abort code (R545). DEDUCED, log entry 68. -/
def updRefuse (n : Fin 9) (s : State) : State := modUpd (fun u => { u with refuse := n.val + 1 }) s

/-- An accepted header (R533): WIPING, the other bank WRITING and wiped, the engine watchdog suspended (R448). -/
def acceptHeader (p : Port) (h : List Byte) (s : State) : State :=
  let s1 := modBank (targetBank s) (fun _ => ⟨.writing, [], []⟩) (mramFresh (0x40000 * (targetBank s).val) 0x40000 s)
  let s2 := modUpd (fun u => { u with header := h, port := p, got := [], written := 0, rxBlocks := 0, verified := true }) s1
  updTo .wiping { suspendEngines s2 with ewd := { (suspendEngines s2).ewd with wipeSusp := true } }

/-- An update runs (R536): what is STAGED has been received and waits. DEDUCED, log entry 68. -/
def updRuns (u : UpdPhase) : Bool := decide (u = .wiping) || decide (u = .receiving)

/-- A whole `UPD_HEADER` (R530, R536, R541): a running update of the same port is abandoned first; a refused header changes no more.
The tunnel carries no image (R476). DEDUCED, log entry 68. -/
def headerOp (p : Port) (h : List Byte) (s : State) : State × Ack :=
  if h.length ≠ 256 || (twOf p).isSome then (s, .abort .length)
  else if s.update.phase = .trial || s.update.phase = .activating then (s, .abort .state)
  else if updRuns s.update.phase && decide (s.update.port ≠ p) then (s, .abort .state)
  else
    let s1 := updStop s
    match imageRefusal s1 h with
    | some n => (logFault .imageRefused 0 p (AbortCode.image n).num (updRefuse n s1), .abort (.image n))
    | none => (acceptHeader p h s1, .done)

/-- UPDATE_HEADER_CHECK (R530). -/
def execUpdateHeaderCheck (p : Port) (bytes : List Byte) (s : State) : Res :=
  .next (directWrite p (okey 0x2E00 0x01) s (headerOp p bytes))

/-! ### The payload (R533 to R535) -/

/-- BANK_WIPE_DONE (R533, R448): a wipe is suspended while another writer has words waiting (R368), and does not end then.
DEDUCED, log entry 74. -/
def execBankWipeDone (s : State) : Res :=
  let s1 := endWipeSuspension s
  .next (if s.update.phase ≠ .wiping then s1 else if bankWaits s then s else updTo .receiving s1)

/-- A BLOCK_WRITE_INIT of `UPD_IMAGE` of a total size (R533): a header must have been accepted, of this port. -/
def imageInit (p : Port) (total : Nat) (s : State) : State × Option AbortCode :=
  if !(decide (s.update.phase = .wiping) || decide (s.update.phase = .receiving)) then (updRefuse 7 s, some (.image 7))
  else if s.update.port ≠ p then (s, some .state)
  else if total ≠ payloadSize s.update.header then (s, some .length)
  else (modUpd (fun u => { u with got := [], written := 0, rxBlocks := 0 }) s, none)

/-- Block buffers of the staging partition in use (R534). -/
def buffersUsed (u : UpdState) : Nat := (u.got.length + 4095) / 4096 - u.rxBlocks

/-- Whole block received: it is held in a buffer; its acknowledge waits while no buffer is free, and the closing one for the
verification (R534, R535). DEDUCED, log entry 68. -/
def imageBlock (bytes : List Byte) (closing : Bool) (s : State) : State × Ack :=
  let free := decide (buffersUsed s.update < 16)
  (modUpd (fun u => { u with got := u.got ++ bytes }) s, if free && !closing then .done else .none)

/-- The number of the CAN port of the update. -/
def updCan (s : State) : Option (Fin 4) := fin? 4 s.update.port.val

/-- The acknowledges of image blocks that wait at a port. -/
def imageWaits (c : CanPort) : List PendResp := c.waiting.filter isImageWait

/-- Answer the oldest waiting block acknowledge. -/
def answerBlock (n : Fin 4) (a : Ack) (s : State) : State :=
  match imageWaits s.can[n] with
  | [] => s
  | w :: _ => respond n w a (modCan n (fun c => { c with waiting := c.waiting.erase w }) s)

/-- BANK_BLOCK_WRITE (R534): the next buffer goes to the bank, and a waiting acknowledge other than the closing one is sent; not while
another writer has words waiting (R368). DEDUCED, log entry 74. -/
def execBankBlockWrite (s : State) : Res :=
  let u := s.update
  if u.phase ≠ .receiving ∨ u.got.length ≤ u.written ∨ bankWaits s then .next s
  else
    let blk := (u.got.drop u.written).take 4096
    let s1 := modBank (targetBank s) (fun b => { b with payload := b.payload ++ blk })
      (modUpd (fun u => { u with written := u.written + blk.length, rxBlocks := u.rxBlocks + 1 }) s)
    match updCan s with
    | none => .next s1
    | some n =>
      let waits := (imageWaits s.can[n]).length
      let closingOnly := decide (u.got.length = payloadSize u.header) && decide (waits ≤ 1)
      .next (if closingOnly then s1 else answerBlock n .done s1)

/-- The two section digests match (R529, R535). -/
def digestsMatch (h payload : List Byte) : Bool :=
  decide (sha256 (payload.take (helmSize h)) = (h.drop 0x30).take 32)
    && decide (sha256 (payload.drop (helmSize h)) = (h.drop 0x50).take 32)

/-- The rail section goes into the standby code store of every rail die (R535). -/
def loadStandby (section_ : List Byte) (s : State) : State :=
  { s with dies := Vector.ofFn fun k => if diePresent s k then { s.dies[k] with standby := section_ } else s.dies[k] }

/-- UPDATE_VERIFY (R535), once the bank holds the whole payload. DEDUCED, log entry 68. -/
def execUpdateVerify (s : State) : Res :=
  let u := s.update
  if u.phase ≠ .receiving ∨ u.written ≠ payloadSize u.header then .next s
  else
    let k := targetBank s
    let ok := digestsMatch u.header s.mram.banks[k].payload
    let s1 := if ok then updTo .staged (modBank k (fun b => { b with phase := .staged, header := u.header }) (loadStandby (s.mram.banks[k].payload.drop (helmSize u.header)) s))
      else updRefuse 8 (updTo .idle (modBank k (fun b => { b with phase := .failed }) s))
    match updCan s with
    | none => .next s1
    | some n => .next (answerBlock n (if ok then .done else .abort (.image 8)) s1)

/-! ### Activation and trial (R537 to R541) -/

/-- The conditions of R537. -/
def activateAllowed (s : State) : Bool :=
  decide (s.update.phase = .staged) && (decide (s.pwr.state = .run) || decide (s.pwr.state = .doze))
    && (s.groups.toList.all fun g => decide (g.phase ≠ .poweringUp ∧ g.phase ≠ .shuttingDown ∧ g.phase ≠ .minOff))
    && (s.items.toList.all fun i => decide (i.phase ≠ .retryWait)) && !saveRuns s && decide (s.nv.wb = .idle)

/-- ACTIVATE (R537, R538). -/
def activateOp (s : State) : State × Ack :=
  if !activateAllowed s then (s, .abort .state) else
    let s1 := modBank (targetBank s) (fun b => { b with phase := .trial }) (modBank s.update.sel (fun b => { b with phase := .previous }) s)
    (updTo .activating (modUpd (fun u => { u with pause := true }) (freezeWindows s1)), .done)

/-- The trial ends well (R541): the TRIAL bank becomes ACTIVE. -/
def confirmTrial (s : State) : State :=
  updTo .idle (modUpd (fun u => { u with trialLeft := 0 }) (modBank s.update.sel (fun b => { b with phase := .active }) s))

/-- CONFIRM (R541); outside a trial there is nothing it conflicts with but the state. DEDUCED, log entry 68. -/
def confirmOp (s : State) : State × Ack := if s.update.phase = .trial then (confirmTrial s, .done) else (s, .abort .state)

/-- ABANDON (R536, R541). DEDUCED, log entry 68. -/
def abandonOp (s : State) : State × Ack :=
  match s.update.phase with
  | .wiping | .receiving => (updStop s, .done)
  | .staged => (updTo .idle s, .done)
  | .trial => (startFullReset 4 1 s, .done)
  | .idle | .activating => (s, .abort .state)

/-- A write of `UPD_CMD` (R545): other values have no effect. -/
def updCmdOp (value : Nat) (s : State) : State × Ack :=
  if value = 0xAC71 then activateOp s else if value = 0xC0F1 then confirmOp s else if value = 0xAB07 then abandonOp s else (s, .done)

/-- UPD_ACTIVATE (R537). -/
def execUpdActivate (p : Port) (s : State) : Res := .next (directWrite p (okey 0x2E00 0x03) s (updCmdOp 0xAC71))

/-- UPD_CONFIRM (R541). -/
def execUpdConfirm (p : Port) (s : State) : Res := .next (directWrite p (okey 0x2E00 0x03) s (updCmdOp 0xC0F1))

/-- UPD_ABANDON (R541). -/
def execUpdAbandon (p : Port) (s : State) : Res := .next (directWrite p (okey 0x2E00 0x03) s (updCmdOp 0xAB07))

/-- Every rail die of the part runs what its standby code store holds (R538). -/
def runStandby (s : State) : State :=
  { s with dies := s.dies.map fun d => { d with code := d.standby } }

/-- The faults of the pause have their reactions now (R539, R543): the follow-up of class A, the reactions of items. -/
def heldFaults (s : State) : State :=
  let s1 := modUpd (fun u => { u with heldA := [], heldB := [] }) s
  let s2 := s.update.heldA.foldl (fun a c => match c with
    | some code => classAFollow code (safeItems a) a
    | none => safeShutdowns (safeItems a) a) s1
  if s2.boot.phase = .ready then itemReact s.update.heldB s2 else s2

/-- The reactions of Star Sight that fell due in the pause (R445). -/
def heldReactions (s : State) : State :=
  if s.wd.running then wdReactAll s.wd.held { s with wd := { s.wd with held := [] } } else s

/-- ACTIVATION_PAUSE_END (R538, R539, R541): the engines run the TRIAL bank, the rail dies their standby code, and what the pause held
back follows. -/
def execActivationPauseEnd (s : State) : Res :=
  if s.update.phase ≠ .activating then .next s
  else .next (heldReactions (heldFaults (updTo .trial (modUpd (fun u => { u with pause := false, sel := targetBank s, trialLeft := 60 }) (runStandby s)))))

/-- ACTIVATION_TIMEOUT (R540). -/
def execActivationTimeout (e : Fin 18) (s : State) : Res :=
  if !enginePresent s e then .fault .absentInPart
  else .next (if s.update.phase = .activating then startFullReset 7 (e + 0x100) s else s)

/-- TRIAL_END (R541). -/
def execTrialEnd (s : State) : Res := .next (if s.update.phase = .trial then confirmTrial s else s)

/-! ### Life-cycle (R542, R543) -/

/-- The debug port answers (R543). -/
def debugAnswers (s : State) : Bool := decide (s.mram.lc < 2)

/-- A write of `LC_ADVANCE` and what the commit does. -/
def lcAdvanceOp (value : Nat) (s : State) : State × Ack :=
  if 4 ≤ s.mram.lc ∨ value ≠ 0x4C430000 + s.mram.lc + 1 ∨ s.update.phase = .trial then (s, .abort .state)
  else
    let s1 := updStop (secureWipe false s)
    let s2 := if s.mram.lc = 2 then lockHomeChart s1 else s1
    ({ s2 with mram := { s2.mram with lc := s.mram.lc + 1 } }, .done)

/-- LC_ADVANCE (R542). -/
def execLcAdvance (p : Port) (value : Nat) (s : State) : Res := .next (directWrite p (okey 0x2E10 0x02) s (lcAdvanceOp value))

end Sys2Proof.Machine
end

