-- ==== Sys2Proof/Machine/Boot.lean ====
section
/-! DEFINITION. Straps R60, the boot R95 to R104, the end of a full reset R106, re-adoption R115 to R119, with their commands. -/

namespace Sys2Proof.Machine

/-- Change the boot record, the power state control and station-keeping. -/
def modBoot (f : BootState → BootState) (s : State) : State := { s with boot := f s.boot }
def modPwr (f : PwrCtl → PwrCtl) (s : State) : State := { s with pwr := f s.pwr }
def modSk (f : SkState → SkState) (s : State) : State := { s with sk := f s.sk }

/-! ### Power-on reset -/

/-- The retained counters of the slot in use; all zero with no valid slot (R361, R378, R379). DEDUCED, log entry 20. -/
def loadCounters (s : State) : State :=
  match bestSlot s with
  | none => modNv (fun v => { v with slotUse := none, ctr := Vector.replicate 12 0, ctrSeq := 0 }) s
  | some k =>
    let g := s.mram.slots[k]
    let newest := g.recs.foldl (fun (m : Option Nat) r => match m with
      | none => some r.rseq
      | some q => if seqNewer r.rseq q then some r.rseq else some q) none
    modNv (fun v => { v with
      slotUse := some k, ctr := Vector.ofFn fun i => slotCtr g i
      ctrSeq := match newest with | some q => seqNext q | none => 0 }) s

/-- The settings of the Home Chart, which hold from the release of a power-on reset to the vote (R110, R327).
DEDUCED, log entry 19. -/
def homeChartSettings (s : State) : State :=
  let s1 := { s with settings := if s.mram.hc.valid then (applyBody s.part true s.mram.hc.body).1 else [] }
  { s1 with zbus := { s1.zbus with mode := s1.zbusMode } }

/-- The boot starts from the release (R95): AON runs, the device time restarts, the charger will regulate `LBUS` with the limit of
UNKNOWN once `CHVIN` is at 9 V (R327).
DEDUCED, log entry 19. -/
def bootFromRelease (s : State) : State :=
  let s1 := homeChartSettings (loadCounters s)
  bootFet (modPp (fun p => { p with regulating := false, limTyp := .unknown })
    { s1 with
      boot := { s1.boot with phase := .strapWait, resetNInSave := false, cold := true }
      pwr := { s1.pwr with state := .run }
      clk := { s1.clk with aonOk := true }
      rsto := Vector.replicate 4 .init
      devTime := 0, hintAt := Vector.replicate 2 none })

/-- VAUX_POWER_ON_RESET (R76, R425): outside hold-up, the device goes to OFF. -/
def execVauxPowerOnReset (s : State) : Res := .next (if s.boot.phase = .holdUp then s else powerOnReset (useFree (tearJournal s)))

/-- POWER_ON_RESET_RELEASE (R95); a `RESET_N` kept through a save starts its full reset now (R84). -/
def execPowerOnResetRelease (s : State) : Res :=
  if s.boot.phase ≠ .porHeld then .next s else
    let s1 := bootFromRelease s
    .next (if s.boot.resetNInSave then modBoot (fun b => { b with resetNLow := s.boot.resetNLow }) (startFullReset 3 0 s1) else s1)

/-! ### Straps (R60 to R64) -/

/-- The majority of three samples of one strap. -/
def majority (a b d : Bool) : Bool := (a && b) || (a && d) || (b && d)

/-- The sampled value of strap `i`: [2:0] `TWA`, [3] `OLDCHART`, [4] `TEST_EN`. -/
def strapBit (a b d : BitVec 5) (i : Nat) : Bool := majority (a.toNat.testBit i) (b.toNat.testBit i) (d.toNat.testBit i)

/-- `STRAP_STATUS` (R65). -/
def strapStatus (s : State) : Nat := s.straps.twa + 8 * bit s.straps.oldChart + 16 * bit s.straps.testEn

/-- Step 2 of the boot (R95, R96): SYS locks, and with it the rail dies' clocks. The manual gives the crystal and the CAN PLL no
place in the boot. DEDUCED, log entry 18. -/
def clocksLock (s : State) : State :=
  if s.clk.sysLock then s else
    { s with clk := { s.clk with sysLock := true, xtalOk := true, canLock := true, rsysLock := Vector.ofFn fun k => diePresent s k } }

/-- STRAP_SAMPLE (R60, R64): `TEST_EN` read 1 is logged in PRODUCTION, FIELD and RETURNED. DEDUCED, log entry 18. -/
def execStrapSample (a b d : BitVec 5) (s : State) : Res :=
  if s.boot.phase ≠ .strapWait then .next s else
    let s1 := { s with straps :=
      ⟨bitsOf [strapBit a b d 0, strapBit a b d 1, strapBit a b d 2], strapBit a b d 3, strapBit a b d 4⟩ }
    let s2 := if 2 ≤ s.mram.lc ∧ s1.straps.testEn then logFault .testStrap 0 0 (strapStatus s1) s1 else s1
    .next (modBoot (fun x => { x with phase := .selfTest, attempts := 0 }) (clocksLock s2))

/-! ### Step 6 of the boot -/

/-- The links of the part train (R99). -/
def trainLinks (s : State) : State :=
  { s with links := Vector.ofFn fun k => if diePresent s k then { LinkState.init with phase := .training, downAt := s.devTime } else .init }

/-- The reset record is read and its four records are appended (R379); with no cause pending the boot reports POWER_ON.
DEDUCED, log entry 20. -/
def bootRecord (s : State) : State :=
  let pend := s.nv.ctr[ctrCause]
  let cause := if pend = 0 then 1 else pend
  let sub := s.nv.ctr[ctrSub]
  let n := satAdd max32 s.nv.ctr[ctrBoot] 1
  let s1 := modBoot (fun b => { b with
    rstCause := cause, rstSub := if 3 ≤ cause ∧ cause ≤ 9 then sub % 65536 else 0, rstMask := sub / 65536,
    rstPrev := s.nv.ctr[ctrPrev], bootCount := n }) s
  ctrAppend ctrBoot n (ctrAppend ctrSub 0 (ctrAppend ctrCause 1 (ctrAppend ctrPrev cause s1)))

/-- The vote's failures are logged at every boot (R103, R104). -/
def logVote (s : State) : State :=
  let s1 := if s.boot.cfgSplit then logFault .configSplit 0 0 (configStatus s) s else s
  if s.boot.hcInvalid then logFault .homeChartInvalid 0 0 (configStatus s) s1 else s1

/-- The Almanac of the slot in use, or the state of R361. -/
def loadAlmanac (s : State) : State :=
  match s.nv.slotUse with
  | some k => modGg (fun g => { g with alm := s.mram.slots[k].alm }) s
  | none => logFault .almanacInvalid 0 0 0 (modGg (fun g => { g with alm := .init, almInvalid := true }) s)

/-- A write-back that was cut off is reported (R360). -/
def abandonedWriteBacks (s : State) : State :=
  (allFin 2).foldl (fun a (k : Fin 2) =>
    let x := a.mram.slots[k]
    if !x.wip then a else
      let a1 := if x.wipLearn then learnResult 11 a else a
      logFault .almanacAbandoned 0 k a1.gauge.alm.result (modSlot k (fun g => { g with wip := false, wipLearn := false }) a1)) s

/-- The newest valid Last Fix is presented (R390); a save that was cut off is counted (R387). -/
def presentFix (s : State) : State :=
  let shown := newestFix s
  let fresh := match shown with | some k => decide (s.mram.lf[k].boot + 1 = s.boot.bootCount) | none => false
  let lost := match shown with | some k => decide (0 < s.mram.lf[k].lost) | none => false
  let s1 := modNv (fun v => { v with
    lfShown := shown, lfFresh := fresh, lfInvalid := s.mram.lf.toList.any fun x => !x.valid, lfTrunc := lost, lfTailDone := false }) s
  (allFin 2).foldl (fun a k => if a.mram.lf[k].torn && !a.mram.lf[k].valid
    then modFix k (fun x => { x with torn := false }) (ctrAppend ctrTorn (satAdd max16 a.nv.ctr[ctrTorn] 1) a) else a) s1

/-- A zone channel takes its configuration (R111, R126, R127), its timers with it; a cold-start trip is logged. A channel that
conducts from cold start under a reverse voltage goes through ON to BLOCK (R132); one that conducts on and whose input left its window
meanwhile runs t_ins (R125). DEDUCED, log entry 41. -/
def zoneConfigure (n : Fin 4) (s : State) : State :=
  let x := s.zin[n]
  let s1 := if x.fault.testBit bitCold then logFault .zinTrip 0 n x.fault s else s
  let s2 := modZin n (fun y => { y with
    coldStart := false, coldOn := false, coldBlock := false, coldDone := false, timersStopped := false }) s1
  if !s.zinEn n then zinTo n .off s2
  else if x.coldStart && x.coldOn && x.inWindow then zinTo n (if x.coldBlock then .block else .on) (modZin n (fun y => { y with qualified := true }) s2)
  else if x.phase.carries && x.inWindow then
    modZin n (fun y => { y with limTimer := decide (y.phase = .limit), normTimer := y.phase.normal, insRunning := !y.qualified }) s2
  else zinSettle n (zinTo n .waitIn s2)

/-- Every zone channel takes its configuration and every fused output its presence and bus window. -/
def channelsConfigure (s : State) : State :=
  let s1 := (allFin 4).foldl (fun a n => zoneConfigure n a) s
  (allFin 8).foldl (fun a n => foQualCond n a) s1

/-- The settings of a rail that does not go on from its shadow copies are taken (R113, R190). -/
def railConfigure (r : Fin 28) (s : State) : State :=
  if s.rails[r].stationKept then s else
    modLoop r (fun l => { l with
      co := ⟨s.loopKp r, s.loopKi r, s.loopKd r, s.loopPole r⟩, pend := false, dmax := s.railDmax r, strideSet := s.rotStride r }) s

/-- The settings of the phases of every die whose rails are all configured anew. -/
def phasesConfigure (s : State) : State :=
  { s with phases := Vector.ofFn fun ph =>
      if dieKept s (phaseDie ph) then s.phases[ph] else { s.phases[ph] with gain := s.phImonGain ph, ofs := s.phImonOfs ph } }

/-! ### Ganged groups (R177) -/

/-- The dies, numbered from 1, that a group's configuration names. -/
def gangNamed (s : State) (g : Fin 4) : List Nat := List.range' (s.gangFirstDie g) (s.gangDies g)

/-- The code of R177 under which the group is refused; 0 passes. -/
def gangCheck (s : State) (g : Fin 4) : Nat :=
  let ds := gangNamed s g
  let claimed (d : Nat) : Bool := match fin? 7 (d - 1) with | some k => (gangOfDie s k).isSome | none => false
  let noPhase (d : Nat) : Bool := match fin? 7 (d - 1) with
    | some k => (diePhases k).all fun ph => decide (s.phLoop ph ≠ 0)
    | none => true
  if ds.any (fun d => decide (s.part.dies < d)) then 1
  else if s.gangDies g < 2 ∨ 4 < s.gangDies g then 2
  else if ds.any claimed then 3
  else if ds.any noPhase then 4
  else 0

/-- Loop 0 of a die (k − 1). -/
def loop0 (k : Fin 7) : Fin 28 := dieRail k 0

/-- Form the group, or refuse it (R176, R177). A group whose rail is station-kept stands (R113). DEDUCED, log entry 21. -/
def gangForm (g : Fin 4) (s : State) : State :=
  if s.gangFirstDie g = 0 || gangStands s g then s else
    let code := gangCheck s g
    if code = 0 then
      let s1 := modGang g (fun x => { x with
        phase := .formed, code := 0, first := s.gangFirstDie g - 1, dies := s.gangDies g, dlsb := s.gangDlsb g }) s
      let s2 := match gangRail s1 g with
        | some r => modGang g (fun x => { x with valley := s1.ocValley r, tot := s1.ocTot r }) s1
        | none => s1
      (followers s2 g).foldl (fun a k => if a.rails[loop0 k].stationKept then a else modRail (loop0 k) (fun x => { x with absorbed := true }) a) s2
    else logFault .gangCfgErr 0 g code (modGang g (fun x => { x with phase := .refused, code := code }) s)

/-- The rails that a refused group holds off: loop 0 of each named die that is present and in no formed group. -/
def gangHoldsOff (s : State) (r : Fin 28) : Bool :=
  (allFin 4).any fun g => decide (s.gangs[g].phase = .refused) && (gangNamed s g).any fun d =>
    decide (1 ≤ d ∧ d ≤ s.part.dies) && decide (r.val + 4 = 4 * d) && (gangOfDie s (railDie r)).isNone

/-- All four groups, ascending, then the loops held off. -/
def gangsConfigure (s : State) : State :=
  let s1 := (allFin 4).foldl (fun a g => gangForm g a) s
  (allFin 28).foldl (fun a r => if gangHoldsOff a r && !a.rails[r].stationKept
    then modRail r (fun x => { x with heldOff := true }) a else a) s1

/-! ### The sequencer's checks (R274) -/

/-- The move step of an item is a later step of the same group, or none. -/
def moveOk (s : State) (i : Fin 46) (st : Fin 64) : Bool :=
  match fin? 64 (s.itemMoveStep i) with
  | none => true
  | some m => decide (st.val < m.val) && decide (stepGroupOf s m = stepGroupOf s st)

/-- The first failing check of a sequenced item; 0 passes. -/
def itemCheck (s : State) (i : Fin 46) (st : Fin 64) : Nat :=
  let lantern := match stepGroupOf s st with | some g => decide (s.grpSrc g = 0) | none => false
  match stepGroupOf s st, itemKind i with
  | none, _ => 1
  | some _, .rail r =>
    if lantern then 2
    else if s.rails[r].absorbed || s.rails[r].heldOff || gangHoldsOff s r
      || (isFollower s (railDie r) && decide (railLoop r = 0)) then 3
    else if (railPhases s r).isEmpty then 4
    else if moveOk s i st then 0 else 5
  | some _, .fo _ => if lantern then 2 else 0
  | some _, .reg _ => 0

/-- An item's state at boot. -/
def itemConfigure (i : Fin 46) (s : State) : State :=
  if !itemPresent s i then s else
    match itemStepOf s i with
    | none => modItem i (fun _ => .init) s
    | some st =>
      let code := itemCheck s i st
      let s1 := modItem i (fun _ => { ItemState.init with phase := if 1 ≤ code ∧ code ≤ 4 then .heldOff else .off, code := code }) s
      if code = 0 then s1 else logFault .seqCfgErr 0 i code s1

/-- The input of a group as it stands (R273): `GRP_SRC` 0 is LANTERN, 1 is ZONE (R296). -/
def groupInputNow (s : State) (g : Fin 8) : Bool :=
  if s.grpSrc g = 1 then anyZoneOn s && !drawingFromPack s else s.pp.lbusGood

/-- Every item and every group's input. -/
def seqConfigure (s : State) : State :=
  let s1 := (allFin 46).foldl (fun a i => itemConfigure i a) s
  (allFin 8).foldl (fun a g => modGroup g (fun x => { x with input := groupInputNow a g }) a) s1

/-! ### Power path, converter, watchdogs, Logbook -/

/-- Step 6 for the power path (R327): after a power-on reset it starts in SOURCE or in ON_PACK, its pack FET with it; through a full reset
it has kept its state (R329). The limit is now that of the type in force. -/
def pathStart (s : State) : State :=
  let s1 :=
    if !s.boot.cold then s
    else if hasSource s s.zbus.v then modPp (fun p => { p with regulating := !s.therm.latch }) s
    else chargerStop (modPp (fun p => { p with phase := .onPack, drawing := true }) s)
  let s2 := sourceEval (if s.boot.cold then pathFet s1 else s1)
  if s2.pp.phase = .source then modPp (fun p => { p with limTyp := p.typ }) s2 else s2

/-- The charger and the gauge start (R310, R311, R332, R347). -/
def packStart (s : State) : State :=
  let s1 := modChg (fun x => { x with
    phase := if s.chgEn && cellsOk s then .wait else .off
    fastTime := minutes10us s.nv.ctr[ctrFast], preTime := minutes10us s.nv.ctr[ctrPre] }) s
  if cellsOk s && s.pp.present then gaugeStartOp s1 else s1

/-- The converter calibrates itself (R408) and the temperatures start anew; the shutdown latch stands (R425). -/
def houseStart (s : State) : State :=
  { s with
    hk := { HkState.init with calibrating := true, refSel := s.hkRefSel, mask := s.hkScanMask }
    therm := { ThermState.init with latch := s.therm.latch, path := s.therm.path, latchDie := s.therm.latchDie }
    ewd := { s.ewd with running := true, since := Vector.replicate 18 0, wipeSusp := false } }

/-- Star Sight is turned on and locked by a voted configuration that holds `WD_ENABLE` = 1 (R430). -/
def wdConfigure (s : State) : State :=
  modWd (fun w => { w with on := w.locked || s.wdEnable, locked := w.locked || s.wdEnable }) s

/-- The settings of the host ports in force (R463, R500, R564). -/
def portsConfigure (s : State) : State :=
  let s1 := { s with tw := Vector.ofFn fun n => { s.tw[n] with
    addr := if s.pwr.oldChart then 0 else s.twAddr n, pec := s.twPecEn n, speed := s.twCtrlSpeed n } }
  (allFin 4).foldl (fun a n => canTake n a) s1

/-- The newest entry of a fresh Last Fix tail (R381). -/
def tailNewest (s : State) : Option Nat :=
  if !s.nv.lfFresh then none else (lfSlotShown s).tail.foldl (fun m r => match m with
    | none => some r.seq
    | some q => if seqNewer r.seq q then some r.seq else some q) none

/-- The Logbook takes up its sequence and enters the faults held since the boot began (R381). DEDUCED, log entry 22. -/
def logStart (s : State) : State :=
  let newest := match journalHead s, tailNewest s with
    | some a, some b => some (if seqNewer b a then b else a)
    | some a, none => some a
    | none, b => b
  let q := match newest with | some a => logNext a | none => 1
  s.log.held.foldl (fun a f => logEntry f a) { s with log := { s.log with ready := true, nextSeq := q, held := [] } }

/-- The Logbook tail of a fresh Last Fix that is newer than the journal head, as the scan of step 6 finds it (R381). -/
def freshTail (s : State) : List LogRec :=
  if !s.nv.lfFresh then [] else match journalHead s with
    | some h => (lfSlotShown s).tail.filter fun r => seqNewer r.seq h
    | none => (lfSlotShown s).tail

/-- The station-keeping time-out of the last reset is logged (R118). -/
def logSkTimeout (s : State) : State :=
  if s.sk.hwTimeout then modSk (fun x => { x with hwTimeout := false }) (logFault .skTimeout 0 0 (maskOf s.sk.kept) s) else s

/-- Step 6 of R95. DEDUCED, log entry 21. -/
def bootStep6 (s : State) : State :=
  let s1 := presentFix (abandonedWriteBacks (loadAlmanac (logVote (logSkTimeout (bootRecord (loadCounters (trainLinks s)))))))
  let s2 := (allFin 28).foldl (fun a r => railConfigure r a) (channelsConfigure s1)
  let s3 := pathStart (gangsConfigure (phasesConfigure s2))
  let s4 := modNv (fun v => { v with jnlTorn := bit s.mram.jnlTornRec, lfTail := freshTail s1 }) (portsConfigure (wdConfigure (houseStart (packStart s3))))
  areaFull (modBoot (fun b => { b with phase := .starting }) (logStart (seqConfigure s4)))

/-! ### Steps 3 to 5 -/

/-- The first bank that counts as in a state (R531). -/
def bankIn (s : State) (ph : BankPhase) : Option (Fin 2) := (allFin 2).find? fun k => decide (bankState s.mram.banks[k] = ph)

/-- The bank selected is run: by the rail dies its rail section, which no rule says how they get at a boot. DEDUCED, log entry 68. -/
def runBank (k : Fin 2) (s : State) : State :=
  let b := s.mram.banks[k]
  { modUpd (fun u => { u with sel := k }) s with
    dies := Vector.ofFn fun d => if diePresent s d then { s.dies[d] with code := b.payload.drop (helmSize b.header) } else s.dies[d] }

/-- Step 4 (R532): a bank in TRIAL becomes FAILED; ACTIVE is selected, else PREVIOUS, which becomes ACTIVE; with neither the boot
halts: false. -/
def selectBank (s : State) : State × Bool :=
  let trial := bankIn s .trial
  let s1 := modBoot (fun b => { b with fellBack := trial })
    (match trial with | some k => modBank k (fun b => { b with phase := .failed }) s | none => s)
  match bankIn s1 .active, bankIn s1 .previous with
  | some k, _ => (runBank k s1, true)
  | none, some k => (runBank k (modBank k (fun b => { b with phase := .active }) s1), true)
  | none, none => (s1, false)

/-- The boot halts (R394): the outputs take the STATIONKEEP-clear column of R110; station-kept rails end under R118. -/
def bootHalt (s : State) : State :=
  let s1 := resetFos s
  { s1 with boot := { s1.boot with phase := .halted }, safeN := true }

/-- Step 5: the vote and the mode of R563, with the roles and thresholds of R556. -/
def bootVote (s : State) : State :=
  let s1 := applyVote s
  { s1 with
    pwr := { s1.pwr with oldChart := s1.straps.oldChart || s1.oldchartSel }
    zbus := { s1.zbus with mode := s1.zbusMode } }

/-- Phase 3 of each attempt of the self-test writes every word to zero, the secure partition included (R97, R393).
DESIGN CHOICE, log entry 78. -/
def hamperZeroed (s : State) : State :=
  modNv (fun v => { v with keyLoaded := false }) { s with hamper := .init, update := { s.update with verified := false } }

/-- The key loader at the end of a self-test that passed (R395): the unit key is loaded unless `TAMPER_N` is low. -/
def keyLoad (s : State) : State :=
  modNv (fun v => { v with
    keyLoaded := !v.tamperLow, withheld := v.tamperLow, wiped := false, wipeTamper := false, wipeLc := false }) s

/-! ### What the boot reads of the MRAM (R367) -/

/-- The boot reads the word: the headers and records of the banks, and every other record. -/
def bootReads (w : Nat) : Bool :=
  if w < 0x80000 then decide (w % 0x40000 < 0x100) || decide (0x3FFC0 ≤ w % 0x40000) else decide (w < 0xD8000)

/-- The record that holds a word with two wrong bits counts as invalid (R367). -/
def recordLost (w : Nat) (s : State) : State :=
  if w < 0x80000 then modBank (if w < 0x40000 then 0 else 1) (fun b => { b with phase := .empty }) s
  else if w < 0x98000 then
    match fin? 3 ((w - 0x80000) / 0x8000) with
    | some k => if w % 0x8000 < 0x40 + s.mram.cfg[k].body.length then modCopy k (fun c => { c with valid := false }) s else s
    | none => s
  else if w < 0xA0000 then
    if w - 0x98000 < 0x40 + s.mram.hc.body.length then modHc (fun h => { h with valid := false }) s else s
  else if w < 0xD0000 then
    { s with mram := { s.mram with
      journal := s.mram.journal.eraseIdx ((w - 0xA0000) / 32), errs := s.mram.errs.filter fun e => decide (e.word ≠ w) } }
  else if w < 0xD4000 then
    let k : Fin 2 := if w < 0xD2000 then 0 else 1
    if w % 0x2000 < 0x1000 then modSlot k (fun g => { g with valid := false }) s
    else modSlot k (fun g => { g with recs := g.recs.modify ((w % 0x2000 - 0x1000) / 16) fun r => { r with torn := true } }) s
  else modFix (if w < 0xD6000 then 0 else 1) (fun x => { x with valid := false }) s

/-- The words that the boot reads are corrected and counted, and records with an uncorrectable word are lost and logged (R367).
DEDUCED, log entry 36. -/
def mramScan (s : State) : State :=
  let seen := s.mram.errs.filter fun e => bootReads e.word
  let one := (seen.filter fun e => decide (e.flaw = .single)).length
  (seen.filter fun e => decide (e.flaw = .double)).foldl (fun a e =>
    logFault .mramDed 0 0 e.word (recordLost e.word (modNv (fun v => { v with dedCnt := satAdd max16 v.dedCnt 1 }) a)))
    (modNv (fun v => { v with secCnt := satAdd max32 v.secCnt one }) s)

/-- The weak words of a self-test are counted and each bank's are logged (R394). -/
def weakWords (weak : Vector Nat 8) (s : State) : State :=
  let mask := bitsOf (weak.toList.map fun n => decide (0 < n))
  let sum := weak.toList.foldl (· + ·) 0
  let s1 := modNv (fun v => { v with bistWeak := mask, weakCnt := satAdd max32 0 sum, bistTries := s.boot.attempts + 1 }) s
  (allFin 8).foldl (fun a (b : Fin 8) => if 0 < weak[b] then logFault .hamperBistWeak 0 b weak[b] a else a) s1

/-- HAMPER_SELF_TEST_END (R393 to R395, R532, R100, R379): the end of one attempt; `failed` names the banks with a word of two
failing bits. DEDUCED, log entry 8. -/
def execHamperSelfTestEnd (weak : Vector Nat 8) (failed : Nat) (s : State) : Res :=
  if s.boot.phase ≠ .selfTest then .next s else
    let bad := failed % 256
    let s1 := hamperZeroed (weakWords weak s)
    if bad ≠ 0 then
      .next (if s.boot.attempts = 0 then modBoot (fun b => { b with attempts := 1 }) s1
        else bootHalt (ctrAppend ctrBist (bad + 512 + 65536 * (s.nv.ctr[ctrBoot] % 65536)) s1))
    else
      match selectBank (mramScan (keyLoad s1)) with
      | (s2, false) => .next (bootHalt s2)
      | (s2, true) => .next (bootStep6 (bootVote s2))

/-! ### Steps 7 and 8 -/

/-- The value of a setting in a map. -/
def inMap (m : List (Nat × Nat)) (key d : Nat) : Nat := (mapGet key m).getD d

/-- The voted configuration matches the shadow copies of rail `r` (R117): mode, phase set, ganging, protection thresholds. -/
def skMatches (s : State) (r : Fin 28) : Bool :=
  let same (key d : Nat) : Bool := decide (inMap s.sk.shadow[r] key d = inMap s.settings key d)
  let ganged := match gangOfRail s r with
    | some g => decide (s.gangFirstDie g = s.gangs[g].first + 1) && decide (s.gangDies g = s.gangs[g].dies)
        && decide (s.gangDlsb g = s.gangs[g].dlsb)
    | none => !(decide (railLoop r = 0) && ((gangOfDie s (railDie r)).isSome || gangHoldsOff s r))
  same (okey (0x3000 + r) 1) 0 && ganged
    && (railDies s r).all (fun k => (diePhases k).all fun ph => same (okey (0x3400 + ph) 1) 255)
    && same (okey (0x3200 + r) 3) 50 && same (okey (0x3200 + r) 4) 30 && same (okey (0x3200 + r) 5) 60
    && same (okey (0x3200 + r) 7) 50000 && same (okey (0x3200 + r) 8) 110

/-- The item is off or is being switched on. -/
def ItemPhase.comesUp : ItemPhase → Bool
  | .off | .waiting | .starting | .qualifying => true
  | _ => false

/-- A station-kept rail may be re-adopted now (R117): its item is sequenced and not held off, its deadline has not passed. -/
def skMayAdopt (s : State) (r : Fin 28) : Bool :=
  s.rails[r].stationKept && !s.sk.due[r] && s.items[railItem r].phase.comesUp && skMatches s r
    && (railDies s r).all fun k => decide (s.links[k].phase = .up)

/-- Re-adopt a rail: its item passes its step at once (R117, R279); an item whose step has started is qualified. Its settings are the
voted ones from now on; its loop coefficients in force and its last target stay those of the shadow copies until a commit and a new
command. DEDUCED, log entry 21. -/
def skAdopt (r : Fin 28) (s : State) : State :=
  if !skMayAdopt s r then s else
    modItem (railItem r) (fun x => if x.cmdOn then { x with phase := .up, qual := true, normTimer := true } else { x with readopted := true })
      (modRail r (fun x => { x with stationKept := false }) (modSk (fun x => { x with adopted := vset x.adopted r true }) s))

/-- The groups' held fused outputs that step 7 re-adopts: those of groups with no station-kept rail, and those of no group (R119). -/
def fosAdoptNow (s : State) : State :=
  let kept (g : Fin 8) : Bool := (allFin 28).any fun r => s.rails[r].stationKept && decide (itemGroup s (railItem r) = some g)
  (allFin 8).foldl (fun a n => if ((itemGroup a (foItem n)).map kept).getD false then a else foAdopt n a) s

/-- A part of the boot that a full reset started meanwhile does not run. -/
def unlessReset (f : State → State) (s : State) : State := if s.boot.phase = .ready then f s else s

/-- Step 8 (R95): the power-up sequence and re-adoption begin, Star Sight's cycles start (R431), groups with `GRP_AUTO` have
their request (R281) and wait for `GRP_TOFF` where R285 asks it. DEDUCED, log entry 21. -/
def bootStep8 (s : State) : State :=
  let was := skOpen s || !s.sk.left.isEmpty
  let s1 := rstoRefresh (modBoot (fun b => { b with step8 := true }) s)
  let s2 := (allFin 8).foldl (fun a g => modGroup g (fun x => { x with request := x.request || a.grpAuto g }) a) s1
  let s3 := (allFin 28).foldl (fun a r => skAdopt r a) s2
  let s4 := skLeftAll s3
  unlessReset (fun s4 =>
    let s5 := applyThrottle (skEndCheck was s4)
    let s6 := if s5.wd.locked then wdStart s5 else s5
    (allFin 8).foldl (fun a g => if a.groups[g].request && a.groups[g].phase = .off then requestRow g a else a) s6) s4

/-- Stage faults whose cause persists are detected again after the boot (R109, R254). -/
def stageFaultsAgain (s : State) : State :=
  ((allFin 7).filter fun k => diePresent s k && s.dies[k].stf).foldl (fun a k => unlessReset (stageFaultOp k) a) s

/-- OBJECT_DICTIONARY_READY (R98, R99, R102, R112, R119, R381): step 7, then step 8 unless a thermal latch holds it. `units` is the
time since the reference point in 10 µs. DEDUCED, log entry 8. -/
def execObjectDictionaryReady (units : Nat) (s : State) : Res :=
  if s.boot.phase ≠ .starting then .next s else
    let s1 := modBoot (fun b => { b with phase := .ready, odAnswering := true, bootTime := min max16 units, thermalHold := s.therm.latch }) (if s.boot.cold then s else pathFet s)
    let s2 := canStartAll (evRefresh (safeRefresh s1))
    let s3 := match s.boot.fellBack with | some k => logFault .bankFallback 0 k 0 s2 | none => s2
    let s4 := nextRepair (modNv (fun v => { v with lfTailDone := v.lfFresh && v.lfTail.isEmpty }) s3)
    let s5 := unlessReset fosAdoptNow (stageFaultsAgain (bootLinksDown s4))
    .next (if s.therm.latch then s5 else unlessReset bootStep8 s5)

/-! ### Full reset: its causes at the pin and by command, its end -/

/-- RESET_PIN_RECOGNISED (R83, R105). -/
def execResetPinRecognised (s : State) : Res :=
  .next (if s.boot.phase = .porHeld then s else startFullReset 3 0 (modBoot (fun b => { b with resetNLow := true }) s))

/-- A write of `RESET_CMD` (R120). -/
def resetCmdOp (value : Nat) (s : State) : State × Ack :=
  (if value = 0xA5C3 then startFullReset 4 0 s else s, .done)

/-- RESET_CMD (R120). -/
def execResetCmd (p : Port) (value : Nat) (s : State) : Res := .next (directWrite p (okey 0x2105 0x01) s (resetCmdOp value))

/-- A rail that a station-keeping reset leaves as it stands: kept, or low under its latch after it left (R115). -/
def railStays (s : State) (r : Fin 28) : Bool := s.rails[r].stationKept || s.sk.left.any fun x => decide (x.rail = r.val)

/-- The group goes on with its station-kept rail. -/
def gangStays (s : State) (g : Fin 4) : Bool := match gangRail s g with | some r => gangStands s g && railStays s r | none => false

/-- Die `k` works in a group that goes on. -/
def gangStaysOn (s : State) (k : Fin 7) : Bool := match gangOfDie s k with | some g => gangStays s g | none => false

/-- A rail at reset end (R109): its counters are clear; one that is not kept is as at reset, but for the loop that a group that goes
on has absorbed (R113). -/
def railAtEnd (s : State) (r : Fin 28) : RailState :=
  let x := s.rails[r]
  if railStays s r then { x with
    dyn := { x.dyn with
      cmdCnt := 0, turnCnt := 0, stepCnt := 0, tmaxCnt := 0, shedCnt := 0, keepCnt := 0, readdCnt := 0 }
    fc := { x.fc with fcCnt := 0, lateCnt := 0 }
    prot := { x.prot with dropCnt := 0, valleyCnt := 0, ovTrips := 0, thrN := 0 } }
  else { RailState.init with enPin := x.enPin, vout := x.vout, absorbed := x.absorbed && gangStaysOn s (railDie r) }

/-- A phase of a rail that stays. -/
def phaseStays (s : State) (ph : Fin 56) : Bool := match phaseRail s ph with | some r => railStays s r | none => false

/-- The store interface at reset end: retained counters and the secure partition's state stand (R109, R396). -/
def storeAtEnd (v : StoreState) : StoreState :=
  { StoreState.init with
    slotUse := v.slotUse, ctr := v.ctr, ctrSeq := v.ctrSeq, tamperLow := v.tamperLow, keyLoaded := v.keyLoaded, wiped := v.wiped,
    wipeTamper := v.wipeTamper, wipeLc := v.wipeLc, withheld := v.withheld, hucap := v.hucap }

/-- The power path at reset end: its state and what stands at the pins (R329). -/
def pathAtEnd (p : PathState) : PathState :=
  { p with
    annc := Vector.replicate 4 ⟨0, false⟩, mismatch := false, typ := .unknown, hoCnt := 0, hbCnt := 0, hoLastT := 0,
    annMis := false, overload := false }

/-- RESET_END for every state of the machine (R109): what its table lets survive stands, all else is as at reset. -/
def endReset (s : State) : State :=
  let z := State.reset
  bootFet { z with
    part := s.part, settings := s.settings, mram := s.mram, pending := s.pending, freeCtr := s.freeCtr
    nv := storeAtEnd s.nv, clk := { s.clk with failCnt := 0 }, hamper := s.hamper, straps := s.straps
    boot := { s.boot with phase := .strapWait, attempts := 0, odAnswering := false, step8 := false, thermalHold := false, flushDone := false }
    sk := s.sk, pwr := { z.pwr with state := .run }
    zin := s.zin
    fo := s.fo.map fun x => { x with phase := if x.phase = .locked then .off else x.phase, retryCnt := 0, fault := 0, retryTimer := false }
    zbus := { s.zbus with slopeAlarm := false }
    rails := Vector.ofFn fun r => railAtEnd s r
    phases := Vector.ofFn fun ph => if phaseStays s ph then s.phases[ph] else .init
    gangs := Vector.ofFn fun g => if gangStays s g then { s.gangs[g] with parCnt := 0, rotErr := 0, holdCnt := 0 } else .init
    dies := Vector.ofFn fun k => if gangStaysOn s k then { s.dies[k] with rsysBad := false, pendChange := none }
      else { z.dies[k] with vdrOk := s.dies[k].vdrOk, stf := s.dies[k].stf }
    groups := s.groups, rsto := s.rsto, pp := pathAtEnd s.pp
    chg := { z.chg with phase := .wait }
    therm := { z.therm with latch := s.therm.latch, path := s.therm.path, latchDie := s.therm.latchDie }
    wd := { z.wd with on := s.wd.locked, locked := s.wd.locked }
    update := { z.update with sel := s.update.sel }
    safeN := s.safeN }

/-- RESET_END (R106): the flush is complete; a `RESET_N` still low holds the end. -/
def execResetEnd (s : State) : Res :=
  if s.boot.phase ≠ .inReset then .next s else
    let s1 := modBoot (fun b => { b with flushDone := true }) (journalFlush s)
    .next (if s.boot.resetNLow then s1 else endReset s1)

/-- RESET_PIN_RISE (R106): entries made while the pin held the reset end are flushed with it. -/
def execResetPinRise (s : State) : Res :=
  let s1 := modBoot (fun b => { b with resetNLow := false }) s
  .next (if s.boot.phase = .inReset && s.boot.flushDone then endReset (journalFlush s1) else s1)

/-! ### Rails not re-adopted (R118) -/

/-- SK_READOPTION_DEADLINE (R118, R291): the rail goes down in the manner its item states, when its turn in the shutdown order of its
group comes; a step that has not passed it faults. -/
def execSkReadoptionDeadline (r : Fin 28) (s : State) : Res :=
  if !railPresent s r then .fault .absentInPart
  else if !s.rails[r].stationKept || s.sk.due[r] then .next s
  else
    let i := railItem r
    let s1 := skGoDown (modSk (fun x => { x with down := vset x.down r true, due := vset x.due r true }) s)
    let s2 := if s.items[i].cmdOn && !s.items[i].qual then itemFault i .notReadopted s1 else s1
    .next (skEndCheck true s2)

/-- LINK_RETRAINED (R36, R562): the waiting frames go out, the waiting reads complete; a station-kept rail whose links are now UP is re-adopted (R117), with the throttle
step in force (R422). -/
def execLinkRetrained (k : Fin 7) (s : State) : Res :=
  if !diePresent s k then .fault .absentInPart
  else if !sysRuns s || decide (s.links[k].phase = .up) then .next s
  else
    let s1 := readsAnswered k (linkComesUp k s)
    .next (if s.boot.step8 && skOpen s1 then
      seqSettle (applyThrottle (skEndCheck true ((allFin 28).foldl (fun a r => skAdopt r a) s1)))
    else seqSettle s1)

/-- SK_HARDWARE_TIMEOUT (R118): the die's remaining station-kept rails go to mid level at once; logged at the next boot. -/
def execSkHardwareTimeout (k : Fin 7) (s : State) : Res :=
  if !diePresent s k then .fault .absentInPart
  else
    let rs := (allFin 28).filter fun r => s.rails[r].stationKept && (railDies s r).contains k
    if rs.isEmpty then .next s else
      let s1 := rs.foldl (fun a r => railToMid r (modSk (fun x => { x with down := vset x.down r true }) a)) s
      .next (skEndCheck true (modSk (fun x => { x with hwTimeout := true }) s1))

end Sys2Proof.Machine
end

