-- ==== Sys2Proof/Machine/Power.lean ====
section
/-! DEFINITION. The power states R88 to R94 with their commands, and the wake latches of Old Chart mode R568. -/

namespace Sys2Proof.Machine

/-! ### RUN and DOZE (R92) -/

/-- Some rail of a rail die is enabled. -/
def anyRailOn (s : State) : Bool := (allFin 28).any fun r => railPresent s r && s.rails[r].enabled

/-- A step that holds a rail and waited for RUN with no `STEP_DELAY` left starts (R276). -/
def runSteps (s : State) : State :=
  (allFin 8).foldl (fun a g =>
    match a.groups[g].step with
    | some st =>
      if a.groups[g].phase = .poweringUp && a.groups[g].delaying && (a.groups[g].delayDone || decide (a.stepDelay st = 0)) then stepGo g st a
      else a
    | none => a) s

/-- DOZE returns to RUN. -/
def toRun (s : State) : State :=
  let s1 := modPwr (fun p => { p with state := .run, req := .run }) s
  if s.pwr.state = .doze then seqSettle (runSteps (runItems s1)) else s1

/-- A request of RUN (R91, R92): it withdraws a PARK entry and a pending DOZE. DEDUCED, log entry 23. -/
def runOp (s : State) : State := toRun (if s.pwr.parkEntry then parkWithdraw s else s)

/-- A request of DOZE (R91, R92): it withdraws a PARK entry; in RUN it stands until no rail is enabled.
DEDUCED, log entry 23. -/
def dozeOp (s : State) : State := if s.pwr.parkEntry then parkWithdraw s else modPwr (fun p => { p with req := .doze }) s

/-! ### PARK entry (R90, R91) -/

/-- A group of a device that enters PARK (R282): PARKED, its steps and timers stopped. -/
def groupPark (g : Fin 8) (s : State) : State :=
  if s.groups[g].phase = .off || s.groups[g].phase = .faulted then s else
    groupTo g .parked (itemsUnwait g (modGroup g (fun x => { x with
      step := none, delaying := false, delayDone := false, stepTimer := false, toffTimer := false, started := [] }) s))

/-- An item at PARK acceptance (R90): without its bit it is switched off by its own disable; a kept one that is on counts as
qualified at the next power-up (R279). -/
def itemPark (i : Fin 46) (s : State) : State :=
  if !itemPresent s i then s
  else if itemIsOff s i then (if s.items[i].phase = .waiting then switchOff i s else s)
  else if parkKept s i && s.items[i].cmdOn then modItem i (fun x => { x with readopted := true }) s
  else switchOff i s

/-- An accepted request of PARK (R91): an outing ends with a hand-back (R325), the learning cycle is disqualified (R349), the cycle of
Star Sight abandoned (R445). -/
def parkAccept (s : State) : State :=
  let s1 := (allFin 46).foldl (fun a i => itemPark i a) s
  let s2 := learnStop 8 (outingEnd 5 (chgPause (modChg (fun x => { x with current := 0 }) ((allFin 8).foldl (fun a g => groupPark g a) s1))))
  modPwr (fun p => { p with parkEntry := true, req := .park, fired := 0, wakeTimerOn := decide (s.wakeTimer ≠ 0) })
    (modWd (fun w => { w with abandoned := true }) s2)

/-- A write of `PWR_STATE_REQ` (R91, R92); a further PARK during the entry has no effect. DEDUCED, log entry 23. -/
def pwrReqOp (value : Nat) (s : State) : State × Ack :=
  let s1 := s.store (okey 0x2108 0x02) value
  match s1.pwrStateReq with
  | 0 => (runOp s1, .done)
  | 1 => (dozeOp s1, .done)
  | 2 => if s.pwr.parkEntry then (s1, .done) else if s.pwr.state = .doze then (parkAccept s1, .done) else (s, .abort .state)
  | _ => (s1, .done)

/-- PWR_STATE_REQ_RUN (R92). -/
def execPwrStateReqRun (p : Port) (s : State) : Res := .next (directWrite p (okey 0x2108 0x02) s (pwrReqOp 0))

/-- PWR_STATE_REQ_DOZE (R92). -/
def execPwrStateReqDoze (p : Port) (s : State) : Res := .next (directWrite p (okey 0x2108 0x02) s (pwrReqOp 1))

/-- PWR_STATE_REQ_PARK (R91). -/
def execPwrStateReqPark (p : Port) (s : State) : Res := .next (directWrite p (okey 0x2108 0x02) s (pwrReqOp 2))

/-- DOZE_ENTRY (R92). -/
def execDozeEntry (s : State) : Res :=
  .next (if s.boot.phase = .ready && s.pwr.state = .run && s.pwr.req = .doze && !anyRailOn s
    then modPwr (fun p => { p with state := .doze }) s else s)

/-- What SYS waits for (R91, R325): a hand-back complete, every disable at its boundary, MRAM writes complete, both two-wire buses idle.
DEDUCED, log entry 24. -/
def mayPark (s : State) : Bool :=
  (s.fo.toList.all fun x => decide (x.phase ≠ .disabling)) && decide (s.pp.phase ≠ .handingBack) && s.nv.saveCopy.isNone && decide (s.nv.wb = .idle) && s.nv.hcWrite.isNone
    && decide (s.update.phase ≠ .wiping) && decide (s.update.got.length ≤ s.update.written)
    && (s.tw.toList.all fun t => !t.transfer)

/-- A port is stopped by PARK: `CSTB_n` high, frames dropped, an update of the port stopped (R91, R536).
DEDUCED, log entry 24. -/
def canPark (n : Fin 4) (s : State) : State :=
  if s.can[n].phase.stopped then s else updPortLost (portOfCan n) (canStop n .disabled s)

/-- SYS_STOP (R90, R91): the device is in PARK. DEDUCED, log entry 24. -/
def execSysStop (s : State) : Res :=
  if !s.pwr.parkEntry || !mayPark s then .next s else
    let s1 := (allFin 4).foldl (fun a n => canPark n a) s
    .next { s1 with
      pwr := { s1.pwr with state := .park, parkEntry := false }
      boot := { s1.boot with odAnswering := false }
      ewd := { s1.ewd with suspCnt := satAdd max32 s1.ewd.suspCnt 1 }
      zin := s1.zin.map fun x => { x with timersStopped := true, insRunning := false, limTimer := false }
      tw := s1.tw.map fun t => { t with due := false }
      hk := { s1.hk with disabling := false }
      pp := if anyKeptOn s1 then s1.pp else chargerStopped s1.pp
      gauge := { s1.gauge with parkStart := s1.devTime, parkSource := decide (s1.pp.phase = .source) } }

/-! ### Wake (R93, R94) -/

/-- A zone channel at a wake (R148): the entry of a trip in PARK is made, a channel outside its window turns off, t_ins runs in
full, also that of a conducting channel whose input left its window and came back. DEDUCED, log entry 25. -/
def zinWake (n : Fin 4) (s : State) : State :=
  let s0 := zinTripsLogged n s
  let s1 := modZin n (fun x => { x with timersStopped := false }) s0
  if s1.zin[n].inWindow then
    if s1.zin[n].phase = .retryWait && !s1.zin[n].qualified then
      zinTo n .qualify (modZin n (fun x => { x with insRunning := true }) s1)
    else if (s1.zin[n].phase.carries || s1.zin[n].phase.gateOn) && !s1.zin[n].qualified then
      modZin n (fun x => { x with insRunning := true }) s1
    else if s1.zin[n].phase = .qualify then modZin n (fun x => { x with insRunning := true, qualified := false }) s1 else zinSettle n s1
  else match s1.zin[n].phase with
    | .qualify | .retryWait | .inrush | .on | .block | .limit =>
      zinTo n .waitIn (modZin n (fun x => { x with insRunning := false, qualified := false }) s1)
    | .off | .waitIn | .locked | .disabling => s1

/-- A fused output at a wake (R148). DEDUCED, log entry 25. -/
def foWake (n : Fin 8) (s : State) : State := foTripsLogged n s

/-- The events of a wake (R492): the sources of `WAKE_CAUSE`, and the level of `PFW_N`, which may have changed in PARK. -/
def wakeEvents (fired : Nat) (s : State) : State :=
  let s1 := if fired.testBit 13 then eventEdge 29 s else s
  eventLevel 4 s.zbus.pfw (eventEdge 47 ((List.range 4).foldl (fun a b => if fired.testBit b then eventEdge (30 + b) a else a) s1))

/-- Time in PARK counts as rest if the power path stayed in SOURCE (R346), and the integrator loses its self-discharge (R337). -/
def restWake (s : State) : State :=
  let lost : Rat := (capacity s : Rat) * s.ggSelfdis / 1000 * (((s.devTime - s.gauge.parkStart : Nat) : Rat) / 86400000000)
  learnAge ((s.devTime - s.gauge.parkStart) / 1000000) <| modGg (fun g => { g with qInt := max 0 (g.qInt - lost) }) <| modGg (fun g => if g.parkSource then { g with restSec := g.restSec + (s.devTime - g.parkStart) / 1000000 }
    else { g with restSec := 0, restQual := false }) s

/-- Star Sight at a wake (R441). -/
def wdWake (s : State) : State := if s.wd.running then beginCycle (obligationsStart s) else s

/-- SYS runs again (R93, R94): DOZE, the sources reported, everything that stood still goes on. DEDUCED, log entry 25. -/
def wakeNow (s : State) : State :=
  let fired := s.pwr.fired
  let s1 := modPwr (fun p => { p with state := .doze, req := .doze, wakeCause := fired, fired := 0, wakeTimerOn := false, ocLatch := 0 }) s
  let s2 := (allFin 8).foldl (fun a n => foWake n a) ((allFin 4).foldl (fun a n => zinWake n a) (evRefresh (wakeEvents fired s1)))
  let s3 := wdWake (restWake (groupsUnpark (powerPathChannels s2)))
  canStartAll { s3 with
    ewd := { s3.ewd with since := Vector.replicate 18 0 }
    pp := { s3.pp with regulating := s3.pp.regulating || (decide (s3.pp.phase = .source) && !thermalOff s3) } }

/-- The sources of a mask fire one by one (R93); in Old Chart mode the pins count only through their latches (R568).
DEDUCED, log entry 25. -/
def fireAll (sources : Nat) (s : State) : State :=
  (List.range 14).foldl (fun a b =>
    if sources.testBit b && !(s.pwr.oldChart && decide (s.pwr.state = .park) && decide (b < 8)) then wakeOn b a else a) s

/-- WAKE (R93, R94): sources in the layout of `WAKE_CAUSE`; those that fired earlier in PARK count. DEDUCED, log entry 25. -/
def execWake (sources : Nat) (s : State) : Res :=
  let s1 := fireAll sources s
  .next (if s1.pwr.state = .park && decide (s1.pwr.fired ≠ 0) then wakeNow s1 else s1)

/-- WAKE_TIMER_EXPIRE (R93). -/
def execWakeTimerExpire (s : State) : Res :=
  if !s.pwr.wakeTimerOn then .next s else
    let s1 := wakeOn 10 (modPwr (fun p => { p with wakeTimerOn := false }) s)
    .next (if s1.pwr.state = .park && s1.pwr.fired.testBit 10 then wakeNow s1 else s1)

/-- OLD_CHART_WAKE_LATCH (R568): the latch of a `WAKE_n` or a CAN receive pin. -/
def execOldChartWakeLatch (source : Fin 12) (s : State) : Res :=
  if !s.pwr.oldChart || s.pwr.state ≠ .park || 8 ≤ source.val then .next s else
    let s1 := wakeOn source (modPwr (fun p => { p with ocLatch := setBit p.ocLatch source }) s)
    .next (if s1.pwr.fired.testBit source then wakeNow s1 else s1)

/-- OBJECT_DICTIONARY_ANSWERING (R477). -/
def execObjectDictionaryAnswering (s : State) : Res :=
  .next (if s.boot.phase = .ready && (s.pwr.state = .run || s.pwr.state = .doze) then modBoot (fun b => { b with odAnswering := true }) s else s)

end Sys2Proof.Machine
end

