-- ==== Sys2Proof/Machine/Seq.lean ====
section
/-! DEFINITION. The commands of chapter 09: groups, steps, items, integrated regulators, reset outputs. -/

namespace Sys2Proof.Machine

/-- A group UP is refused (R281): an over-voltage latch of a rail item, or a stage fault of a die carrying one. -/
def upRefused (s : State) (g : Fin 8) : Bool :=
  (groupItems s g).any fun i => match itemKind i with
    | .rail r => s.rails[r].prot.ovLatch || (railDies s r).any fun k => s.dies[k].stf
    | _ => false

/-- An accepted UP (R281, R282, R284). -/
def groupUpOp (g : Fin 8) (s : State) : State × Ack :=
  if upRefused s g then (s, .abort .state) else
    match s.groups[g].phase with
    | .shuttingDown | .minOff => (modGroup g (fun x => { x with request := true, clearHeld := true }) s, .done)
    | .off | .faulted =>
      (requestRow g (clearRetries g (modGroup g (fun x => { x with request := true }) s)), .done)
    | _ => (clearRetries g (modGroup g (fun x => { x with request := true }) s), .done)

/-- GROUP_UP_CMD (R281). -/
def execGroupUpCmd (p : Port) (g : Fin 8) (s : State) : Res :=
  .next (directWrite p (okey (0x2410 + g) 0x03) s (groupUpOp g))

/-- GROUP_DOWN_CMD (R286). -/
def execGroupDownCmd (p : Port) (g : Fin 8) (s : State) : Res :=
  .next (directWrite p (okey (0x2410 + g) 0x03) s fun s => (requestDown g s, .done))

/-- GROUP_INPUT_QUALIFIED (R273, R282): a waiting group powers up, not before a `GRP_TOFF` that R285 asks for has ended. -/
def execGroupInputQualified (g : Fin 8) (s : State) : Res :=
  let s1 := modGroup g (fun x => { x with input := true }) s
  .next (if s.groups[g].phase = .waitInput then requestRow g s1 else s1)

/-- GROUP_INPUT_LOST (R273, R282): a powering or UP group shuts down; the request stands. -/
def execGroupInputLost (g : Fin 8) (s : State) : Res :=
  let s1 := modGroup g (fun x => { x with input := false }) s
  .next (match s.groups[g].phase with
    | .poweringUp | .up => shutdown g false none s1
    | _ => s1)

/-- STEP_DELAY_END (R276): the step starts once RUN is reached if it holds a rail.
DESIGN CHOICE, log entry 4; DEDUCED, log entry 7. -/
def execStepDelayEnd (g : Fin 8) (s : State) : Res :=
  if s.groups[g].phase = .poweringUp && s.groups[g].delaying then
    match s.groups[g].step with
    | some st => .next (if stepMayRun s st then stepGo g st s else modGroup g (fun x => { x with delayDone := true }) s)
    | none => .next s
  else .next s

/-- The item's own power-good stands (R270). -/
def itemPg (s : State) (i : Fin 46) : Bool :=
  match itemKind i with
  | .rail r => s.rails[r].prot.pg
  | .reg n => s.regs[n].on && s.regs[n].pgWin
  | .fo n => decide (s.fo[n].phase = .on)

/-- ITEM_QUALIFIED (R277): power-good held for t_qual; the step passes when all its items are qualified. -/
def execItemQualified (i : Fin 46) (s : State) : Res :=
  if !itemPresent s i then .fault .absentInPart
  else
    match s.items[i].phase with
    | .starting | .qualifying =>
      if !itemPg s i then .next s else
        .next (checkSteps (modItem i (fun x => { x with phase := .up, qual := true, retrying := false, normTimer := true }) s))
    | _ => .next s

/-- ITEM_PG_FALL (R277, R280): during its step qualification restarts and chatter is counted; in UP nothing. -/
def execItemPgFall (i : Fin 46) (s : State) : Res :=
  if !itemPresent s i then .fault .absentInPart
  else
    let inStep := match itemGroup s i, itemStepOf s i with
      | some g, some st => decide (s.groups[g].phase = .poweringUp) && decide (s.groups[g].step = some st)
      | _, _ => false
    if !inStep then .next s else
      match s.items[i].phase with
      | .starting | .qualifying | .up =>
        .next (modItem i (fun x => { x with phase := .starting, qual := false, normTimer := false, chatter := satAdd max16 x.chatter 1 }) s)
      | .enLow => .next (modItem i (fun x => { x with chatter := satAdd max16 x.chatter 1 }) s)
      | _ => .next s

/-- The rails that the step moves and whose move is not done (R276). -/
def lateMoves (s : State) (st : Fin 64) : List (Fin 46) :=
  (allFin 46).filter fun i => match itemKind i with
    | .rail r => decide (fin? 64 (s.itemMoveStep i) = some st) && railPresent s r && decide (s.items[i].code ≠ 5) && itemLive s i
        && !s.items[i].moveOk && (s.rails[r].dyn.transition || !s.rails[r].prot.pg) && !(stepItems s st).contains i
    | _ => false

/-- STEP_TIMEOUT (R278, R287): each item of the step, and each rail it moves, that is not qualified declares a step-timeout fault;
with `retried`, the timeout counted from a retried item's restart. -/
def execStepTimeout (g : Fin 8) (retried : Option (Fin 46)) (s : State) : Res :=
  match retried with
  | some i =>
    .next (if s.items[i].retrying && decide (s.items[i].phase ≠ .retryWait) && decide (itemGroup s i = some g)
      then itemFault i .stepTimeout s else s)
  | none =>
    if s.groups[g].phase = .poweringUp && s.groups[g].stepTimer then
      match s.groups[g].step with
      | some st =>
        let bad := ((stepItems s st).filter fun i => !itemCounts s i) ++ lateMoves s st
        let s1 := itemFaults (bad.map fun i => (i, .stepTimeout)) (modGroup g (fun x => { x with stepTimer := false }) s)
        .next (checkStep g s1)
      | none => .next s
    else .next s

/-- ITEM_OFF (R270, R283): the item's function has reached off; a rail whose enable pin fell goes to EN_LOW. -/
def execItemOff (i : Fin 46) (s : State) : Res :=
  if !itemPresent s i then .fault .absentInPart
  else if !itemFunctionOff s i then .next s
  else
    match s.items[i].phase with
    | .stopping =>
      let s1 := modItem i (fun x => { x with phase := .off }) s
      .next (skGoDown (match itemGroup s i with
        | some g => if s.groups[g].phase = .shuttingDown then shutAdvance 130 g s1 else s1
        | none => s1))
    | _ => .next (skGoDown s)

/-- Force an item off in a shutdown (R283). -/
def forceOff (i : Fin 46) (s : State) : State :=
  let s1 := modItem i (fun x => { x with phase := .off, cmdOn := false }) s
  match itemKind i with
  | .rail r => railOffDone r (modRail r (fun x => { x with enHeld := false }) s1)
  | .reg n => modReg n (fun x => { x with on := false, pgWin := false }) s1
  | .fo n => foForceOff n s1

/-- SHUTDOWN_STEP_TIMEOUT (R283): items still on are forced off, SEQ_OFF_TIMEOUT is logged, the shutdown continues. -/
def execShutdownStepTimeout (g : Fin 8) (s : State) : Res :=
  if s.groups[g].phase = .shuttingDown && s.groups[g].stepTimer then
    match s.groups[g].step with
    | some st =>
      let late : List (Fin 46) := (stepItems s st).filter fun i => !itemIsOff s i
      .next (shutAdvance 130 g (late.foldl (fun (a : State) (i : Fin 46) => logFault .seqOffTimeout 0 i st (forceOff i a)) s))
    | none => .next s
  else .next s

/-- `GRP_TOFF` ends and the request and the input decide, or a held SYSTEM_RESET starts (R282, R284). -/
def minOffEnd (g : Fin 8) (s : State) : State :=
  if !s.groups[g].toffTimer then s else
    let s1 := modGroup g (fun x => { x with toffTimer := false, disabling := false }) s
    match s.groups[g].phase with
    | .minOff =>
      match s.groups[g].heldReset with
      | some i => startFullReset 0x06 i (modGroup g (fun x => { x with heldReset := none }) s1)
      | none =>
        if s.groups[g].request then
          let s2 := if s.groups[g].clearHeld then clearRetries g s1 else s1
          requestRow g (modGroup g (fun x => { x with clearHeld := false }) s2)
        else groupTo g (if s.groups[g].byFault then .faulted else .off) s1
    | .off | .waitInput => if s.groups[g].request then requestRow g s1 else s1
    | _ => s1

/-- MIN_OFF_END (R282, R284). -/
def execMinOffEnd (g : Fin 8) (s : State) : Res := .next (minOffEnd g s)

/-- ITEM_RETRY_DELAY_END (R256, R287). DESIGN CHOICE, log entry 4. -/
def execItemRetryDelayEnd (i : Fin 46) (s : State) : Res :=
  if !itemPresent s i then .fault .absentInPart
  else if s.items[i].phase ≠ .retryWait then .next s
  else .next (retryNow i s)

/-- ITEM_NORMAL_TIMER (R288): t_NORM continuously UP. -/
def execItemNormalTimer (i : Fin 46) (s : State) : Res :=
  if !itemPresent s i then .fault .absentInPart
  else .next (if s.items[i].normTimer && decide (s.items[i].phase = .up)
    then modItem i (fun x => { x with retryCnt := 0, normTimer := false }) s else s)

/-- EN_PIN_FALL (R271, R115): a station-kept rail leaves station-keeping at once at mid level. -/
def execEnPinFall (r : Fin 28) (s : State) : Res :=
  if !railPresent s r then .fault .absentInPart
  else
    let s1 := modRail r (fun x => { x with enPin := false }) s
    .next (if !s.itemEnPin (railItem r) then s1
      else if s.rails[r].stationKept then skSettle (skLeave r 15 false s1)
      else enPinLow r s1)

/-- EN_PIN_RISE (R271): the rail soft-starts again while the sequencer commands it on. -/
def execEnPinRise (r : Fin 28) (s : State) : Res :=
  if !railPresent s r then .fault .absentInPart
  else .next (enPinFree r (modRail r (fun x => { x with enPin := true }) s))

/-- A regulator stops by its own protection and its item declares the fault (R292). -/
def regStop (n : Fin 10) (b : Nat) (f : ItemFaultCode) (s : State) : State :=
  itemFault (regItem n) f (modReg n (fun x => { x with on := false, stopped := true, pgWin := false, fault := setBit x.fault b }) s)

/-- REG_CURRENT_LIMIT_FAULT (R292). -/
def execRegCurrentLimitFault (n : Fin 10) (s : State) : Res :=
  .next (if s.regs[n].on then regStop n 0 .regCurrentLimit s else s)

/-- BUCK_OVER_VOLTAGE (R292). -/
def execBuckOverVoltage (n : Fin 6) (s : State) : Res :=
  let m : Fin 10 := ⟨n.val, by omega⟩
  .next (if s.regs[m].on then regStop m 1 .regOverVoltage s else s)

/-- REG_PG_CHANGE (R292): the output enters or leaves its power-good window. -/
def execRegPgChange (n : Fin 10) (inWindow : Bool) (s : State) : Res :=
  let s1 := modReg n (fun x => { x with pgWin := inWindow && x.on }) s
  .next (if inWindow && s.regs[n].on then itemStarted (regItem n) s1 else s1)

/-- REG_PG_LOST_TIMEOUT (R280): power-good lost for t_RUV while the item is UP. -/
def execRegPgLostTimeout (n : Fin 10) (s : State) : Res :=
  if s.regs[n].on && !s.regs[n].pgWin && decide (s.items[regItem n].phase = .up) then
    .next (itemFault (regItem n) .regUnderVoltage (modReg n (fun x => { x with fault := setBit x.fault 2 }) s))
  else .next s

/-- Change reset output `n`. -/
def modRsto (n : Fin 4) (f : RstoState → RstoState) (s : State) : State := { s with rsto := vmod s.rsto n f }

/-- RSTO_CONDITIONS_END (R293): the stretch starts when no condition holds. -/
def execRstoConditionsEnd (n : Fin 4) (s : State) : Res :=
  .next (if s.rsto[n].pin && !rstoCond s n then modRsto n (fun x => { x with stretch := true }) s else s)

/-- RSTO_STRETCH_END (R293): released, unless a condition holds again. -/
def execRstoStretchEnd (n : Fin 4) (s : State) : Res :=
  if s.rsto[n].stretch && !rstoCond s n then
    .next (rstoReleased n (modRsto n (fun x => { x with pin := false, stretch := false }) s))
  else .next s

/-- Start or restart a forced assertion (R294). -/
def forceRsto (n : Fin 4) (s : State) : State := modRsto n (fun x => { x with pin := true, forced := true, stretch := false }) s

/-- RSTO_FORCE (R294). -/
def execRstoForce (p : Port) (n : Fin 4) (value : Nat) (s : State) : Res :=
  .next (directWrite p (okey (0x2420 + n) 0x04) s fun s => (if value = 1 then forceRsto n s else s, .done))

/-- RSTO_PULSE_END (R294): the pulse ends and the stretch of R293 follows. -/
def execRstoPulseEnd (n : Fin 4) (s : State) : Res :=
  if !s.rsto[n].forced then .next s else
    let s1 := modRsto n (fun x => { x with forced := false }) s
    .next (if rstoCond s1 n then s1 else modRsto n (fun x => { x with stretch := true }) s1)

end Sys2Proof.Machine
end

