-- ==== Sys2Proof/Machine/Zone.lean ====
section
/-! DEFINITION. The commands of chapter 05: zone inputs, fused outputs, retries, the early power-fail warning. -/

namespace Sys2Proof.Machine

/-- ZIN_WINDOW_ENTER (R123, R125, R133). Timers do not start while the channel's functions are stopped (R111, R148). -/
def execZinWindowEnter (n : Fin 4) (s : State) : Res :=
  let s1 := modZin n (fun c => { c with inWindow := true }) s
  .next (if s.zin[n].timersStopped then wakeOn 11 s1 else wakeOn 11 (zinSettle n s1))

/-- ZIN_WINDOW_EXIT (R133): t_ins stops, t_retry runs on (R139); a conducting channel turns off uncounted. -/
def execZinWindowExit (n : Fin 4) (s : State) : Res :=
  let s1 := modZin n (fun c => { c with inWindow := false, insRunning := false, qualified := false }) s
  let s2 := if s.zin[n].timersStopped then s1 else
    match s.zin[n].phase with
    | .qualify | .retryWait | .inrush | .on | .block | .limit => zinTo n .waitIn s1
    | .off | .waitIn | .locked | .disabling => s1
  .next (wakeOn 11 (powerPathChannels s2))

/-- ZBUS_WINDOW_ENTER (R125, R137). From reset start to step 7 a fused output stays in its state (R110). -/
def execZbusWindowEnter (s : State) : Res :=
  let s1 := { s with zbus := { s.zbus with inWindow := true } }
  .next ((allFin 8).foldl (fun a n =>
    let a := foQualCond n a
    if a.fo[n].phase = .waitBus && poweredOutputs s then foQualified n (foTo n .qualify a) else a) s1)

/-- ZBUS_WINDOW_EXIT (R137): QUALIFY to LIMIT go to WAIT_BUS, not counted; t_retry runs on. From reset start to step 7 a fused output
stays in its state (R110). -/
def execZbusWindowExit (s : State) : Res :=
  let s1 := { s with zbus := { s.zbus with inWindow := false } }
  .next ((allFin 8).foldl (fun a n =>
    let a := foQualCond n a
    if !poweredOutputs s then a else match a.fo[n].phase with
    | .qualify | .retryWait | .turnOn | .on | .limit => foTo n .waitBus a
    | .off | .absent | .waitBus | .locked | .disabling => a) s1)

/-- INSERTION_DELAY_EXPIRE (R125, R133, R137): acts only while t_ins runs. -/
def execInsertionDelayExpire (c : Chan) (nearBus : Bool) (s : State) : Res :=
  match c with
  | .zin n =>
    if !s.zin[n].insRunning then .next s else
      let s1 := modZin n (fun c => { c with insRunning := false, qualified := true }) s
      .next (if s.zin[n].phase = .qualify then powerPathChannels (zinTurnOn n nearBus s1) else s1)
  | .fo n =>
    if !s.fo[n].insRunning then .next s else
      let s1 := modFo n (fun c => { c with insRunning := false, qualified := true }) s
      .next (foQualified n s1)

/-- RETRY_TIMER_EXPIRE (R133, R137, R138). The timer of a zone channel stands still in PARK (R148). A fused output whose command is
gone goes to OFF (R134); from reset start to step 7 it stays as it is (R110). DESIGN CHOICE, log entry 4. -/
def execRetryTimerExpire (c : Chan) (nearBus : Bool) (s : State) : Res :=
  match c with
  | .zin n =>
    if !s.zin[n].retryTimer || s.zin[n].timersStopped then .next s else
      let s1 := modZin n (fun c => { c with retryTimer := false }) s
      .next (if s.zin[n].phase = .retryWait then powerPathChannels (zinRetryDone n nearBus s1) else s1)
  | .fo n =>
    if !s.fo[n].retryTimer then .next s else
      let s1 := modFo n (fun c => { c with retryTimer := false }) s
      .next (if s.fo[n].phase = .retryWait && (poweredOutputs s || !s.fo[n].commanded) then foRetryDone n s1 else s1)

/-- INRUSH_COMPLETE (R133, R137): INRUSH or TURN_ON to ON. DEDUCED, log entry 7. -/
def execInrushComplete (c : Chan) (s : State) : Res :=
  match c with
  | .zin n => .next (if s.zin[n].phase = .inrush then powerPathChannels (zinTo n .on s) else s)
  | .fo n => .next (if s.fo[n].phase = .turnOn then itemStarted (foItem n) (foTo n .on s) else s)

/-- LIMIT_ENTER (R129, R133, R137): the sense voltage in nV reaches the active limit. ON goes to LIMIT; in the other states with
the gate on the limit timer starts and the state stays. The limit of a zone channel is stopped in PARK (R148) and its timers
from reset start to step 6 (R111). -/
def execLimitEnter (c : Chan) (sense : Nat) (s : State) : Res :=
  if sense < activeLimit s c then .next s else
  match c with
  | .zin n =>
    if s.zin[n].timersStopped then .next s else
    match s.zin[n].phase with
    | .on => .next (zinTo n .limit s)
    | .inrush | .limit => .next (modZin n (fun c => { c with limTimer := true }) s)
    | _ => .next s
  | .fo n =>
    match s.fo[n].phase with
    | .on => .next (foTo n .limit s)
    | .turnOn | .limit | .disabling => .next (modFo n (fun c => { c with limTimer := true }) s)
    | _ => .next s

/-- LIMIT_RELEASE (R129, R133, R137): LIMIT returns to ON; the limit timer stops. DEDUCED, log entry 7. -/
def execLimitRelease (c : Chan) (s : State) : Res :=
  match c with
  | .zin n =>
    match s.zin[n].phase with
    | .limit => .next (zinTo n .on s)
    | .inrush => .next (modZin n (fun c => { c with limTimer := false }) s)
    | _ => .next s
  | .fo n =>
    match s.fo[n].phase with
    | .limit => .next (foTo n .on s)
    | .turnOn | .disabling => .next (modFo n (fun c => { c with limTimer := false }) s)
    | _ => .next s

/-- CHANNEL_TRIP (R138): the trip of either kind of channel; a fused output that locks is a fault of its item, and one
held across a full reset is only turned off (R116). -/
def channelTrip (c : Chan) (b : Nat) (s : State) : State :=
  match c with
  | .zin n => powerPathChannels (zinTrip n b s)
  | .fo n =>
    let s1 := foTrip n b s
    if s.fo[n].phase ≠ .locked ∧ s1.fo[n].phase = .locked ∧ poweredOutputs s then itemFault (foItem n) .locked s1 else s1

/-- LIMIT_TIMER_EXPIRE (R129): the channel trips while it regulates. DESIGN CHOICE, log entry 4. -/
def execLimitTimerExpire (c : Chan) (s : State) : Res :=
  match c with
  | .zin n => .next (if s.zin[n].limTimer then channelTrip c bitLimit s else s)
  | .fo n => .next (if s.fo[n].limTimer then channelTrip c bitLimit s else s)

/-- FAST_TRIP (R130): the sense voltage in nV exceeds 2 × V_LIM. -/
def execFastTrip (c : Chan) (sense : Nat) (s : State) : Res := .next (if 2 * vLim s c < sense then channelTrip c bitFast s else s)

/-- A cold-start turn-off (R126): by t_CSL or the absolute trip it latches bit [4]. -/
def coldOff (n : Fin 4) (latch : Nat) (s : State) : State :=
  modZin n (fun c => { c with coldOn := false, coldBlock := false, fault := c.fault ||| latch }) s

/-- ABSOLUTE_TRIP (R126, R130): also in cold start, where it latches bits [4] and [2] and is not counted. -/
def execAbsoluteTrip (c : Chan) (s : State) : Res :=
  match c with
  | .zin n =>
    if s.zin[n].coldStart then
      .next (if s.zin[n].coldOn then coldOff n (2 ^ bitCold + 2 ^ bitAbs) s else s)
    else .next (channelTrip c bitAbs s)
  | .fo _ => .next (channelTrip c bitAbs s)

/-- REVERSE_DETECTED (R132): ON goes to BLOCK; not a trip. A channel that conducts from cold start turns its gate off (R126).
DEDUCED, log entry 41. -/
def execReverseDetected (n : Fin 4) (s : State) : Res :=
  .next (if s.zin[n].coldStart then modZin n (fun c => { c with coldBlock := c.coldOn }) s
    else if s.zin[n].phase = .on then powerPathChannels (zinTo n .block s) else s)

/-- FORWARD_DETECTED (R132): BLOCK goes to ON, in cold start as well (R126). -/
def execForwardDetected (n : Fin 4) (s : State) : Res :=
  .next (if s.zin[n].coldStart then modZin n (fun c => { c with coldBlock := false }) s
    else if s.zin[n].phase = .block then powerPathChannels (zinTo n .on s) else s)

/-- The effect of `ZIN_EN` set (R133): OFF goes to WAIT_IN; during DISABLING the enable is held (R44). -/
def zinEnable (n : Fin 4) (s : State) : State :=
  match s.zin[n].phase with
  | .off => zinSettle n (zinTo n .waitIn s)
  | .disabling => modZin n (fun c => { c with enHeld := true }) s
  | _ => s

/-- The effect of `ZIN_EN` cleared (R133, R147): DISABLING, OFF at the boundary. -/
def zinDisable (n : Fin 4) (s : State) : State :=
  match s.zin[n].phase with
  | .off => s
  | .disabling => modZin n (fun c => { c with enHeld := false }) s
  | _ => powerPathChannels (zinTo n .disabling
      (modZin n (fun c => { c with insRunning := false, qualified := false, enHeld := false }) s))

/-- The boundary of a zone channel's disable (R147): gate off. A held enable then takes effect (R44). -/
def zinDisabled (n : Fin 4) (s : State) : State :=
  if s.zin[n].phase = .disabling then
    let s1 := zinTo n .off s
    if s.zin[n].enHeld then zinSettle n (zinTo n .waitIn (modZin n (fun c => { c with enHeld := false, insRunning := false }) s1))
    else s1
  else s

/-- ZIN_EN_SET (R133). -/
def execZinEnSet (p : Port) (n : Fin 4) (s : State) : Res :=
  .next (directWrite p (okey (0x2210 + n) 0x01) s fun s => (zinEnable n (s.store (okey (0x2210 + n) 0x01) 1), .done))

/-- ZIN_EN_CLEAR (R147). -/
def execZinEnClear (p : Port) (n : Fin 4) (s : State) : Res :=
  .next (directWrite p (okey (0x2210 + n) 0x01) s fun s => (zinDisable n (s.store (okey (0x2210 + n) 0x01) 0), .done))

/-- `ZBUS` lies within 1.0 V of `ZIN_n` (R133, R141): at a write of `ZIN_CLEAR`, by the last housekeeping reading of `ZIN_n` and the
last slope sample of `ZBUS`. DEDUCED, log entry 41. -/
def zinNearBus (n : Fin 4) (s : State) : Bool := s.zin[n].v ≤ s.zbus.v + 1000

/-- ZIN_CLEAR (R141). -/
def execZinClear (p : Port) (n : Fin 4) (value : Nat) (s : State) : Res :=
  .next (directWrite p (okey (0x2210 + n) 0x10) s fun s =>
    if value = 1 then zinClearOp n (zinNearBus n s) s else (s, .done))

/-- FO_CLEAR (R141). -/
def execFoClear (p : Port) (n : Fin 8) (value : Nat) (s : State) : Res :=
  .next (directWrite p (okey (0x2220 + n) 0x0B) s fun s => if value = 1 then foClearOp n s else (s, .done))

/-- NORMAL_OPERATION_TIMER (R140): t_NORM of normal operation clears the retry count; it stands still in PARK (R148).
DEDUCED, log entry 25. -/
def execNormalOperationTimer (c : Chan) (s : State) : Res :=
  match c with
  | .zin n => .next (if s.zin[n].normTimer && !s.zin[n].timersStopped then modZin n (fun c => { c with retryCnt := 0, normTimer := false }) s else s)
  | .fo n => .next (if s.fo[n].normTimer && decide (s.pwr.state ≠ .park) then modFo n (fun c => { c with retryCnt := 0, normTimer := false }) s else s)

/-- COLD_START_QUALIFY (R126): a channel in cold start that has not turned off in it conducts; none is turned on in hold-up (R385). -/
def execColdStartQualify (n : Fin 4) (s : State) : Res :=
  .next (if s.zin[n].coldStart && !s.zin[n].coldDone && decide (s.boot.phase ≠ .holdUp) then
    modZin n (fun c => { c with coldOn := true, coldDone := true }) s else s)

/-- COLD_START_LIMIT_TIMEOUT (R126): a cold-start trip. -/
def execColdStartLimitTimeout (n : Fin 4) (s : State) : Res :=
  .next (if s.zin[n].coldStart && s.zin[n].coldOn then coldOff n (2 ^ bitCold) s else s)

/-- COLD_START_BAND_EXIT (R126): off without a trip. -/
def execColdStartBandExit (n : Fin 4) (s : State) : Res :=
  .next (if s.zin[n].coldStart && s.zin[n].coldOn then coldOff n 0 s else s)

/-- FO_GATE_OFF (R147): DISABLING reaches OFF. -/
def execFoGateOff (n : Fin 8) (s : State) : Res := .next (foReachOff n s)

/-- PRESENCE_LOST (R135, R137), from reset start to step 7 for good (R116); a change of `PRES_n` wakes the device from PARK (R93). -/
def execPresenceLost (n : Fin 8) (s : State) : Res :=
  let s1 := foQualCond n (modFo n (fun c => { c with present := false, commanded := c.commanded && poweredOutputs s }) s)
  let s2 := match s.fo[n].phase with
    | .off | .disabling | .locked => s1
    | _ => foTo n .absent s1
  .next (wakeOn 12 s2)

/-- PRESENCE_DETECTED (R137). -/
def execPresenceDetected (n : Fin 8) (s : State) : Res :=
  let s1 := foQualCond n (modFo n (fun c => { c with present := true }) s)
  let s2 := if s.fo[n].phase = .absent then
    if !s.fo[n].commanded then foTo n .off s1 else if poweredOutputs s then foEntry n s1 else s1
  else s1
  .next (wakeOn 12 s2)

/-- Assert `PFW_N`, recording the path (R143 to R145); slot 4 is its level source. -/
def assertPfw (thr slope : Bool) (s : State) : State :=
  eventLevel 4 true { s with zbus := { s.zbus with pfw := true, pfwClear := false, pfwThr := s.zbus.pfwThr || thr, pfwSlope := s.zbus.pfwSlope || slope } }

/-- PFW_THRESHOLD (R143). -/
def execPfwThreshold (s : State) : Res :=
  .next (if poweredOutputs s then assertPfw true false s else { s with zbus := { s.zbus with pfwClear := false } })

/-- PFW_SLOPE_SAMPLE (R144): one 10 µs sample of the 10-bit sampler at 75 mV per code; the slope and the prediction are kept
exact in halves; before eight earlier samples exist the slope is 0 and there is no alarm. DEDUCED, log entry 42. -/
def execPfwSlopeSample (code : Nat) (s : State) : Res :=
  let v := 75 * (code % 1024)
  let old := s.zbus.hist.getD 7 (code % 1024)
  let slope : Int := (((code % 1024 : Nat) : Int) - (old : Int)) * 1875
  let full := decide (8 ≤ s.zbus.hist.length)
  let alarm := full && decide (slope ≤ -2 * (s.pfwSlopeMin : Int)) && decide (2 * (v : Int) + slope < 2 * (s.hoThr : Int))
  let s1 := { s with zbus := { s.zbus with
    pfwClear := decide (s.pfwThr + s.pfwHyst < v) && !alarm, v := v, hist := (code % 1024) :: s.zbus.hist.take 7, slope := if full then slope else 0, slopeAlarm := alarm } }
  .next (if alarm && poweredOutputs s then assertPfw false true s1 else bootFet s1)

/-- PFW_RELEASE (R145): `ZBUS` has stood above `PFW_THR` + `PFW_HYST` for 1 ms without a slope alarm, which no sample since
contradicts; while the path draws from the pack, that holds it. -/
def execPfwRelease (s : State) : Res :=
  if !s.zbus.pfwClear then .next s
  else if drawingFromPack s then .next { s with zbus := { s.zbus with pfwPack := s.zbus.pfw } }
  else .next (eventLevel 4 false { s with zbus := { s.zbus with pfw := false, pfwThr := false, pfwSlope := false, pfwPack := false } })

end Sys2Proof.Machine
end

