-- ==== Sys2Proof/Machine/Meridian.lean ====
section
/-! DEFINITION. The package fault line R40 and the safe boundaries of R43 to R45, with their commands. -/

namespace Sys2Proof.Machine

/-- PACKAGE_FAULT_LINE_ASSERT (R40, R453, R455): every output takes its class A safe state and `SAFE_N` is asserted; which die
asserts the line is not part of the command, so no bit of `LOG_STATUS` is set for one. The supervisor pair then shuts down the groups
with an item in its safe state (R290), after an activation pause that runs (R543). -/
def execPackageFaultLineAssert (s : State) : Res :=
  .next (if sysRuns s then
    let items := safeItems s
    let s1 := pgRefreshAll (safeRailBits (safeOutputs { s with faultLine := true, safeN := true }))
    if s.update.pause then { s1 with update := { s1.update with heldA := s1.update.heldA ++ [none] } } else safeShutdowns items s1
  else s)

/-- The converter scan reaches the end of its conversion (R412). -/
def hkBoundary (s : State) : State :=
  if s.hk.disabling then hkScanStart (modHk (fun h => { h with disabling := false }) s) else s

/-- A CAN port reaches the end of its frame (R502, R536). -/
def canBoundary (n : Fin 4) (s : State) : State := canDisabled n s

/-- The off sequence of a rail ends (R44, R270). -/
def railBoundary (r : Fin 28) (s : State) : State := if s.rails[r].disabling then seqSettle (railOffDone r s) else s

/-- A report's current frame has been sent (R522). -/
def reportBoundary (r : Fin 64) (s : State) : State :=
  { s with reports := vmod s.reports r fun x => { x with disabling := false } }

/-- `GRP_TOFF` of a group that was written DOWN ends (R286). -/
def groupBoundary (g : Fin 8) (s : State) : State := if s.groups[g].disabling then minOffEnd g s else s

/-- The slew that ends bus trim reaches `RAIL_VSET` (R237). -/
def trimBoundary (r : Fin 28) (s : State) : State := if s.rails[r].fc.trimDisabling then slewReached r s else s

/-- DISABLE_BOUNDARY_REACHED (R43 to R45). -/
def execDisableBoundaryReached (f : DisableFn) (s : State) : Res :=
  let onRail (r : Fin 28) (g : State → State) : Res := if railPresent s r then .next (g s) else .fault .absentInPart
  match f with
  | .hkScan => .next (hkBoundary s)
  | .canPort n => .next (canBoundary n s)
  | .rail r => onRail r (railBoundary r)
  | .charger => .next (chgDisabled s)
  | .fusedOut n => .next (foReachOff n s)
  | .zoneIn n => .next (zinDisabled n s)
  | .report r => .next (reportBoundary r s)
  | .group g => .next (groupBoundary g s)
  | .balance r => onRail r (balanceBoundary r)
  | .busTrim r => onRail r (trimBoundary r)

end Sys2Proof.Machine
end

