-- ==== Sys2Proof/Machine/Events.lean ====
section
/-! DEFINITION. The event controller's commands (R485 to R492): edges, levels, routing, the global disable. -/

namespace Sys2Proof.Machine

/-- EVENT_SOURCE_EDGE (R486): an edge of a source of the edge kind; a slot that the part does not have never becomes
pending. -/
def execEventSourceEdge (slot : Fin 128) (s : State) : Res := .next (if slotLevel slot then s else eventEdge slot s)

/-- EVENT_LEVEL_CHANGE (R486, R490): the condition of a source of the level kind now holds or not. -/
def execEventLevelChange (slot : Fin 128) (holds : Bool) (s : State) : Res :=
  .next (if slotLevel slot then eventLevel slot holds s else s)

/-- A write of `EVC_ROUTE` (R486, R491): stored, and acting at once or, in service, at the completion (R489). -/
def evcRouteOp (slot : Fin 128) (value : Nat) (s : State) : State × Ack :=
  (evRefresh (s.store (okey 0x2C10 (slot + 1)) value), .done)

/-- EVC_ROUTE_WRITE (R491). -/
def execEvcRouteWrite (p : Port) (slot : Fin 128) (value : Nat) (s : State) : Res :=
  .next (directWrite p (okey 0x2C10 (slot + 1)) s (evcRouteOp slot (value % 256)))

/-- A write of `EVC_GDIS` (R487, R491). -/
def evcGdisOp (value : Nat) (s : State) : State × Ack := (evRefresh (s.store (okey 0x2C00 0x01) value), .done)

/-- EVC_GDIS_WRITE (R487). -/
def execEvcGdisWrite (p : Port) (value : Nat) (s : State) : Res :=
  .next (directWrite p (okey 0x2C00 0x01) s (evcGdisOp (value % 256)))

end Sys2Proof.Machine
end

