-- ==== Sys2Proof/Machine/Dict.lean ====
section
/-! DEFINITION. Object writes: what each owning function does with an accepted value (R515), cross-bearing (R523 to R525), the
directory (R560), and their commands. -/

namespace Sys2Proof.Machine

/-! ### Owners with a refusal or an effect of their own -/

/-- The group is OFF or FAULTED (R275). -/
def groupQuiet (s : State) (g : Fin 8) : Bool := decide (s.groups[g].phase = .off) || decide (s.groups[g].phase = .faulted)

/-- The group of a step number, in a state. -/
def groupOfStep (s : State) (st : Nat) : Option (Fin 8) := (fin? 64 st).bind (stepGroupOf s)

/-- A write that touches the groups `before` and `after` (R275). -/
def regroup (before after : Option (Fin 8)) (s t : State) : State × Ack :=
  if (before.toList ++ after.toList).all (groupQuiet s) then (t, .done) else (s, .abort .state)

/-- A write of `GRP_CMD` (R281): 1 UP, 2 DOWN. -/
def grpCmdOp (g : Fin 8) (v : Nat) (s : State) : State × Ack :=
  if v = 1 then groupUpOp g s else if v = 2 then (requestDown g s, .done) else (s, .done)

/-- A write of 0 to `BAL_EN` of an enabled rail ramps its trims to 0 (R190); one set again before they stand at 0 is held (R44). -/
def balEnOp (r : Fin 28) (v : Nat) (s : State) : State :=
  let t := s.store (okey (0x3000 + r) 0x0E) v
  if s.balEn r && !t.balEn r && s.rails[r].enabled then modLoop r (fun l => { l with balDisabling := true }) t else t

/-- A setting of a ganged rail is written (R183, R264). -/
def gangedWrite (r : Fin 28) (t : State) : State :=
  match gangOfRail t r with | some g => gangSettings g t | none => t

/-- Some rail is enabled. -/
def someEnabled (s : State) (l : List (Option (Fin 28))) : Bool := l.any fun o => match o with | some r => s.rails[r].enabled | none => false

/-- A write of `CAN_EN` over port `p` (R43, R44, R501, R502). -/
def canEnOp (p : Port) (n : Fin 4) (v : Nat) (s : State) : State × Ack :=
  let t := s.store (okey (0x2D00 + n) 0x01) v
  if t.canEn n then
    (if t.can[n].disabling then modCan n (fun c => { c with enHeld := true }) t
      else if t.can[n].phase.stopped then canStart n (canTake n t) else t, .done)
  else if p = portOfCan n then (s, .abort .state)
  else if t.can[n].phase.stopped then (modCan n (fun c => { c with phase := .disabled }) t, .done)
  else (modCan n (fun c => { c with disabling := true, enHeld := false }) t, .done)

/-- A write of `CAN_BOFF_REC` over port `p` (R503). -/
def boffRecOp (p : Port) (n : Fin 4) (v : Nat) (s : State) : State × Ack :=
  if v ≠ 1 then (s, .done)
  else if p = portOfCan n then (s, .abort .state)
  else (if s.can[n].phase = .busOff then modCan n (fun c => { c with phase := .recovering }) s else s, .done)

/-- Index and subindex of a report's mapped entry, and how many entries it has (R520, R528). -/
def rptEntry (s : State) (r : Fin 64) (i : Fin 8) : Nat × Nat := (s.rptMap r i / 65536 % 65536, s.rptMap r i / 256 % 256)
def rptEntries (s : State) (r : Fin 64) : List (Nat × Nat) := ((allFin 8).take (s.rptNmap r)).map (rptEntry s r)

/-- The mapping of a report is sound (R522). -/
def mappingOk (s : State) (r : Fin 64) : Bool :=
  let rows := (rptEntries s r).map fun e => (e, objFind s.part e.1 e.2)
  rows.all (fun x => match x.2 with | some o => decide (o.typ ≠ .domain) && decide (o.acc ≠ .wo) | none => false)
    && decide ((rows.map fun x => match x.2 with | some o => objSize o x.1.1 x.1.2 | none => 0).sum ≤ 63)

/-- A write of `RPT_MODE` (R521, R522). -/
def rptModeOp (r : Fin 64) (v : Nat) (s : State) : State × Ack :=
  let t := s.store (okey (0x2D40 + r) 0x01) v
  if v ≠ 0 then (if mappingOk s r then (t, .done) else (s, .abort .mapping))
  else ({ t with reports := vmod t.reports r fun x => { x with disabling := x.disabling || decide (s.rptMode r ≠ 0) } }, .done)

/-- The regulator behind an index. -/
def regOf (idx : Nat) : Option (Fin 10) := if idx < 0x2436 then fin? 10 (idx - 0x2430) else if 0x2438 ≤ idx then fin? 10 (idx - 0x2432) else none

/-- The next index.sub of the directory behind a selection (R560). -/
def dirNext (p : Part) (idx sub : Nat) : Nat × Nat :=
  let keys := (allObjects p).flatMap fun x => [okey x.1 0, okey x.1 x.2.1]
  let k := keys.foldl (fun best k => if okey idx sub < k ∧ k < best then k else best) 0xFFFFFF
  (k / 256, k % 256)

/-- A write of `OD_DIR_STEP` (R560). -/
def dirStepOp (p : Port) (v : Nat) (s : State) : State × Ack :=
  (if v = 1 then { s with dirSel := vmod s.dirSel p fun x => dirNext s.part x.1 x.2 } else s, .done)

/-! ### The owners by area: object `idx`.`sub` written with `v` over port `p` -/

/-- Store the value; nothing else happens at the write. DEDUCED, log entry 69. -/
def plain (idx sub v : Nat) (s : State) : State × Ack := (s.store (okey idx sub) v, .done)

/-- Run `f` on the `i`-th element where it exists; there is no other object. -/
def onFin (n i : Nat) (s : State) (f : Fin n → State × Ack) : State × Ack :=
  match fin? n i with | some k => f k | none => (s, .abort .noObject)

/-- Objects of R120, R558 and R560. -/
def ownSystem (p : Port) (idx sub v : Nat) (s : State) : State × Ack :=
  match idx, sub with
  | 0x2001, 1 => ({ s with dirSel := vmod s.dirSel p fun x => (v, x.2) }, .done)
  | 0x2001, 2 => ({ s with dirSel := vmod s.dirSel p fun x => (x.1, v) }, .done)
  | 0x2001, 5 => dirStepOp p v s
  | 0x2105, 1 => resetCmdOp v s
  | 0x2108, 2 => pwrReqOp v s
  | _, _ => plain idx sub v s

/-- Objects of R149. -/
def ownZone (idx sub v : Nat) (s : State) : State × Ack :=
  if 0x2220 ≤ idx then
    (if sub = 0x0B then onFin 8 (idx - 0x2220) s fun n => if v = 1 then foClearOp n s else (s, .done) else plain idx sub v s)
  else if 0x2210 ≤ idx then
    if sub = 1 then onFin 4 (idx - 0x2210) s fun n =>
      let t := s.store (okey idx sub) v
      (if t.zinEn n then zinEnable n t else zinDisable n t, .done)
    else if sub = 0x10 then onFin 4 (idx - 0x2210) s fun n => if v = 1 then zinClearOp n (zinNearBus n s) s else (s, .done)
    else plain idx sub v s
  else plain idx sub v s

/-- Objects of R296. -/
def ownSeq (idx sub v : Nat) (s : State) : State × Ack :=
  let t := s.store (okey idx sub) v
  if 0x2600 ≤ idx then
    onFin 46 (idx - 0x2600) s fun i =>
      if sub = 1 then regroup (groupOfStep s (s.itemStep i)) (groupOfStep t (t.itemStep i)) s t
      else if sub = 8 then regroup (groupOfStep s (s.itemMoveStep i)) (groupOfStep t (t.itemMoveStep i)) s t
      else (if sub = 7 then enPinWritten i t else t, .done)
  else if 0x2500 ≤ idx then
    (if sub = 1 then regroup (groupOfStep s (idx - 0x2500)) (groupOfStep t (idx - 0x2500)) s t else (t, .done))
  else if 0x2430 ≤ idx then
    match regOf idx with
    | some n => if s.regs[n].on then (s, .abort .state) else (t, .done)
    | none => (s, .abort .noObject)
  else if 0x2420 ≤ idx then
    onFin 4 (idx - 0x2420) s fun n =>
      if sub = 4 then (if v = 1 then forceRsto n s else s, .done)
      else (if sub = 1 then rstoRefresh t else t, .done)
  else
    onFin 8 (idx - 0x2410) s fun g =>
      if sub = 1 then regroup (some g) none s (modGroup g (fun x => { x with input := groupInputNow t g }) t) else if sub = 3 then grpCmdOp g v s else (t, .done)

/-- Objects of R331 and R364. -/
def ownLantern (idx sub v : Nat) (s : State) : State × Ack :=
  match idx, sub with
  | 0x2701, 1 =>
    let t := s.store (okey idx sub) v
    (if t.chgEn then chgEnable t else chgDisable t, .done)
  | 0x2702, 1 => (packCellsOp v s, .done)
  | 0x2703, _ => onFin 4 (sub - 1) s fun n => (announce n v s, .done)
  | 0x2711, 0x0B => outCmd v s
  | 0x2711, 0x0F => (if v = 1 then newPack s else s, .done)
  | _, _ => plain idx sub v s

/-- Objects of R428, R429, R460 and R461. -/
def ownHouse (p : Port) (idx sub v : Nat) (s : State) : State × Ack :=
  match idx, sub with
  | 0x2900, 1 =>
    let t := s.store (okey idx sub) v
    if t.hkScanEn then (if s.hkScanEn || s.hk.disabling then t else hkScanStart t, .done)
    else ((hkDisableOp s).store (okey idx sub) v, .done)
  | 0x2900, 5 => hkCalOp v s
  | 0x2910, 1 => (thrEnOp v s, .done)
  | 0x2910, 6 => (thrRailsOp v s, .done)
  | 0x2A10, 1 => wdEnableOp v s
  | 0x2A10, _ => if s.wd.locked then (s, .abort .state) else plain idx sub v s
  | 0x2A11, k =>
    match twOf p with
    | none => (s, .abort .role)
    | some n =>
      if k = 3 + n.val then ((wdAnswerOp n v s.wd.tick s).1, .done)
      else ((wdCheckinOp n v s).1, .done)
  | 0x2A20, 4 => logFclrOp v s
  | _, _ => plain idx sub v s

/-- Objects of R495, R528 and R545. -/
def ownHost (p : Port) (idx sub v : Nat) (s : State) : State × Ack :=
  match idx / 16, sub with
  | 0x2C0, _ => evcGdisOp v s
  | 0x2C1, k => onFin 128 (k - 1) s fun i => evcRouteOp i v s
  | 0x2D0, 1 => onFin 4 (idx % 16) s fun n => canEnOp p n v s
  | 0x2D0, 0x18 => onFin 4 (idx % 16) s fun n => boffRecOp p n v s
  | 0x2E0, _ => updCmdOp v s
  | 0x2E1, _ => lcAdvanceOp v s
  | a, k =>
    if 0x2D4 ≤ a ∧ a < 0x2D8 then onFin 64 (idx - 0x2D40) s fun r =>
      if k = 1 then rptModeOp r v s
      else if 4 ≤ k ∧ s.rptMode r ≠ 0 then (s, .abort .state)
      else plain idx k v s
    else plain idx k v s

/-- Objects of R192, R240 and R268. -/
def ownRail (idx sub v : Nat) (s : State) : State × Ack :=
  onFin 28 (idx % 256) s fun r =>
    let t := s.store (okey idx sub) v
    match idx / 256, sub with
    | 0x30, 1 | 0x30, 2 | 0x30, 3 => if s.rails[r].enabled then (s, .abort .state) else (t, .done)
    | 0x30, 5 | 0x30, 6 | 0x30, 7 | 0x30, 8 => (modLoop r (fun l => { l with pend := true }) t, .done)
    | 0x30, 9 => (if v = 1 then loopCommitOp r s else s, .done)
    | 0x30, 0x0B | 0x30, 0x0C | 0x32, 7 | 0x32, 8 => (gangedWrite r t, .done)
    | 0x30, 0x0E => (balEnOp r v s, .done)
    | 0x31, 1 => vsetCommand r v 2 s
    | 0x31, 0x0A => (if t.stepEn r then t else (stepDisableOp r s).store (okey idx sub) v, .done)
    | 0x31, 0x0F => (if t.phmEn r then t else (phmDisableOp r s).store (okey idx sub) v, .done)
    | 0x31, 0x1C => (fcRequest r v s, .done)
    | 0x31, 0x1F => (if t.trimEn r then trimStart r t else (trimDisableOp r s).store (okey idx sub) v, .done)
    | 0x32, 0x0D => if v = 1 then fclrOp r s else (s, .done)
    | _, _ => (t, .done)

/-- Objects of R193 (R156). -/
def ownPhase (idx sub v : Nat) (s : State) : State × Ack :=
  onFin 56 (idx - 0x3400) s fun ph =>
    let t := s.store (okey idx sub) v
    if sub = 1 && someEnabled s [phaseRail s ph, phaseRail t ph] then (s, .abort .state) else (t, .done)

/-- Objects of R399: the values that are numbers. -/
def ownStore (idx sub v : Nat) (s : State) : State × Ack :=
  match idx, sub with
  | 0x2801, 1 => cfgSaveOp v s
  | 0x2802, 2 => hcLockOp v s
  | _, _ => plain idx sub v s

/-- The DOMAIN objects that can be written; the image moves by block transfer alone (R476, R512). -/
def ownDomain (p : Port) (idx sub : Nat) (bytes : List Byte) (s : State) : State × Ack :=
  match idx, sub with
  | 0x2712, 1 => writeTables bytes s
  | 0x2802, 1 => hcImageOp p bytes s
  | 0x2E00, 1 => headerOp p bytes s
  | _, _ => (s, .abort .length)

/-- The objects of a rail that the helm die turns into a COMMAND (R199, R226): no OBJ_WRITE carries them. -/
def goesAsCommand (idx sub : Nat) : Bool := decide (idx / 256 = 0x31) && (decide (sub = 0x01) || decide (sub = 0x1C))

/-- The rail die is told of an accepted write of one of its objects (R32, R33). -/
def dieWrite (idx sub : Nat) (bytes : List Byte) (out : State × Ack) : State × Ack :=
  if out.2 = .done && !goesAsCommand idx sub then (overLink idx sub (fun k => dieObjWrite k idx sub bytes) out.1, out.2) else out

/-- The owning function of an object takes a value that passed the checks of R515. DEDUCED, log entry 69. -/
def ownerWrite (p : Port) (idx sub : Nat) (bytes : List Byte) (s : State) : State × Ack :=
  let v := leNat bytes
  if idx = 0x2712 ∨ (idx = 0x2802 ∧ sub = 1) ∨ (idx = 0x2E00 ∧ sub ≤ 2) then ownDomain p idx sub bytes s
  else match idx / 256 with
    | 0x20 | 0x21 => ownSystem p idx sub v s
    | 0x22 => ownZone idx sub v s
    | 0x24 | 0x25 | 0x26 => ownSeq idx sub v s
    | 0x27 => ownLantern idx sub v s
    | 0x28 => ownStore idx sub v s
    | 0x29 | 0x2A => ownHouse p idx sub v s
    | 0x2C | 0x2D | 0x2E => ownHost p idx sub v s
    | 0x30 | 0x31 | 0x32 => dieWrite idx sub bytes (ownRail idx sub v s)
    | 0x34 => dieWrite idx sub bytes (ownPhase idx sub v s)
    | _ => plain idx sub v s

/-! ### Cross-bearing (R523 to R525) -/

/-- The word of `XB_LAST` (R528). -/
def xbWord (idx sub first second code : Nat) : Nat := idx * 65536 + sub * 256 + first * 32 + second * 4 + code

/-- Change the cross-bearing state. -/
def modXb (f : XbState → XbState) (s : State) : State := { s with xb := f s.xb }

/-- A pair or a bearing comes to nothing (R523, R524): counted, logged for the port that caused it, its event pending.
DEDUCED, log entry 67. -/
def xbAborted (b : Bearing) (cause : Port) (second code : Nat) (s : State) : State :=
  eventEdge 44 (logFault .xbearAbort 0 cause (b.idx * 256 + b.sub)
    (modXb (fun x => { x with abortCnt := satAdd max32 x.abortCnt 1, last := xbWord b.idx b.sub b.port second code }) s))

/-- A bearing waits for its second (R523); of more than 16 the last is not held (R524). DEDUCED, log entry 67. -/
def bearingHold (b : Bearing) (s : State) : State × Ack :=
  if 16 ≤ s.xb.pend.length then (s, .abort .xbearFull)
  else (eventEdge 44 (modXb (fun x => { x with pend := x.pend ++ [b], last := xbWord b.idx b.sub b.port 7 0 }) s), .pending)

/-- A bearing arrives (R523, R524). DEDUCED, log entry 67. -/
def bearing (b : Bearing) (s : State) : State × Ack :=
  match s.xb.pend.find? fun x => decide (x.idx = b.idx ∧ x.sub = b.sub) with
  | none => bearingHold b s
  | some a =>
    let s1 := modXb (fun x => { x with pend := x.pend.erase a }) s
    if a.port = b.port then
      bearingHold b (completeBearing a (.abort .xbearReplaced) (modXb (fun x => { x with abortCnt := satAdd max32 x.abortCnt 1 }) s1))
    else if a.bytes = b.bytes then
      let (s2, out) := ownerWrite b.port b.idx b.sub b.bytes s1
      (completeBearing a out (modXb (fun x => { x with
        doneCnt := if out = .done then satAdd max32 x.doneCnt 1 else x.doneCnt
        last := xbWord b.idx b.sub a.port b.port 1 }) s2), out)
    else (completeBearing a (.abort .xbearMismatch) (xbAborted a b.port b.port 2 s1), .abort .xbearMismatch)

/-- Check 6 of R515 on a write in one piece (R510): the object's size, of a DOMAIN no more than it can hold. -/
def lengthOk (r : ObjRow) (idx sub n : Nat) : Bool :=
  if r.typ = .domain then decide (n ≤ objSize r idx sub) else decide (n = objSize r idx sub)

/-- A write request of port `p` that carries its whole value: the checks of R515, then a bearing or the owner. -/
def writeRequest (p : Port) (tag idx sub : Nat) (bytes : List Byte) (s : State) : State × Ack :=
  match checkWrite s p idx sub with
  | .error e => (s, .abort e)
  | .ok r =>
    if !lengthOk r idx sub bytes.length then (s, .abort .length)
    else if r.acc = .rwx then bearing ⟨idx, sub, p, tag, bytes⟩ s
    else ownerWrite p idx sub bytes s

/-- XBEAR_TIMEOUT (R524): the oldest pending bearing lapses. DEDUCED, log entry 67. -/
def execXbearTimeout (s : State) : Res :=
  match s.xb.pend with
  | [] => .next s
  | b :: l => .next (completeBearing b (.abort .xbearTimeout) (xbAborted b b.port 7 3 (modXb (fun x => { x with pend := l }) s)))

/-! ### Commands -/

/-- A write over a port that may answer (R98). -/
def portWrite (p : Port) (idx sub : Nat) (bytes : List Byte) (s : State) : State :=
  if !answering s then setAck .none s else setAck (writeRequest p 0 idx sub bytes s).2 (writeRequest p 0 idx sub bytes s).1

/-- OBJECT_WRITE (R552). DESIGN CHOICE, log entry 9. -/
def execObjectWrite (p : Port) (idx sub : Nat) (bytes : List Byte) (s : State) : Res := .next (portWrite p idx sub bytes s)

/-- OD_DIR_STEP (R560). -/
def execOdDirStep (p : Port) (value : Nat) (s : State) : Res := .next (directWrite p (okey 0x2001 5) s (dirStepOp p value))

/-- THROTTLE_DISABLE (R426): a 0 written to `THR_EN`, an object under cross-bearing. -/
def execThrottleDisable (p : Port) (s : State) : Res := .next (portWrite p 0x2910 1 [0] s)

end Sys2Proof.Machine
end

