-- ==== Sys2Proof/Machine/TwoWire.lean ====
section
/-! DEFINITION. The two-wire ports: transfers, the pointer and write results (R462 to R468), packet error checking (R469), the
dictionary tunnel (R474 to R476), notifications and bus errors (R477 to R484), claims (R488, R489), with their commands. -/

namespace Sys2Proof.Machine

/-- The address of port `n` is recognised (R463, R477, R484): the state in which the transfer is served; none: nothing is
acknowledged. -/
def twServe (n : Fin 2) (s : State) : Option State :=
  if !poweredOutputs s || decide (s.pwr.state = .off) || s.tw[n].wedged then none
  else if s.pwr.state = .park then
    if s.wakeMask.testBit (8 + n) then some (wakeNow (wakeOn (8 + n) s)) else none
  else some (wakeOn (8 + n) s)

/-- The address byte of a transfer. -/
def addrByte (s : State) (n : Fin 2) (rd : Bool) : Byte := BitVec.ofNat 8 (2 * twAddress s n + bit rd)

/-- A bit of `TW_ERR` is set (R470, R485). DEDUCED, log entry 62. -/
def twErr (n : Fin 2) (b : Nat) (s : State) : State := eventEdge (40 + n) (modTw n (fun t => { t with err := setBit t.err b }) s)

/-! ### Reads -/

/-- The source a claim on port `n` takes, 0xFF for none: the byte in the snapshot of the open read (R468). -/
def claimSource (s : State) (n : Fin 2) : Nat :=
  match s.tw[n].snapshot[regFirst s .claim]? with
  | some b => b.toNat
  | none => claimByte s n

/-- `CLAIM_FLAGS` and `CLAIM_OVF` that the claim of a source leaves (R488). -/
def claimedFlags (slot : Fin 128) : Nat := 2 * bit (slotLevel slot)

/-- The window with the flags and the overflow count of the claim that reading `CLAIM` in this transfer makes (worked example
of R492). DEDUCED, log entry 60. -/
def claimPatched (s : State) (w : List Byte) : List Byte :=
  match (w[regFirst s .claim]?).bind fun b => fin? 128 b.toNat with
  | none => w
  | some i =>
    let w1 := w.set (regFirst s .cflags) (BitVec.ofNat 8 (claimedFlags i))
    if s.pwr.oldChart then w1 else w1.set (regFirst s .covf) (BitVec.ofNat 8 s.evc.ovf[i])

/-- The bytes of a read of `len` bytes from the pointer, out of the snapshot, wrapping (R464, R468). DEDUCED, log entry 60. -/
def readBytes (s : State) (ptr len : Nat) (w : List Byte) : List Byte :=
  let at0 := (regFirst s .claim + winSize s - ptr) % winSize s
  (List.range len).map fun i =>
    ((if at0 ≤ i then claimPatched s w else w)[winPtr s (ptr + i)]?).getD 0

/-- How many bytes a read with packet error checking returns before its code: to the end of the register, of `TUN_DATA`
`TUN_LEN` bytes (R469). -/
def pecSpan (s : State) (n : Fin 2) (ptr : Nat) : Nat :=
  let g := regAt s ptr
  g.first + (if g.reg = .tdata then tunLen s n else g.size) - ptr

/-- TW_READ_ADDRESS (R464, R468, R469, R477): snapshot, the bytes read, the pointer behind them. -/
def execTwReadAddress (n : Fin 2) (len : Nat) (s : State) : Res :=
  match twServe n s with
  | none => .next s
  | some t =>
    let p := winPtr t t.tw[n].pointer
    let w := windowSeen t n
    let seen := (if t.tw[n].transfer then t.tw[n].seen else []) ++ [addrByte t n true]
    let k := if t.tw[n].pec then min len (pecSpan t n p) else len
    let d := readBytes t p k w
    let out := if t.tw[n].pec then
        (d ++ (if k < len then [BitVec.ofNat 8 (crc8 (seen ++ d))] else []) ++ List.replicate (len - k - 1) 0xFF) else d
    .next (useFree (modTw n (fun x => { x with
      transfer := true, snapshot := w, readData := out, seen := seen ++ out, pointer := winPtr t (p + k) }) t))

/-- TW_WRITE_POINTER (R464). -/
def execTwWritePointer (n : Fin 2) (ptr : Byte) (s : State) : Res :=
  match twServe n s with
  | none => .next s
  | some t => .next (modTw n (fun x => { x with
      transfer := true, snapshot := [], pointer := winPtr t ptr.toNat,
      seen := (if x.transfer then x.seen else []) ++ [addrByte t n false, ptr] }) t)

/-- CLAIM (R488): the source leaves the pending ones and is in service for this host. -/
def execClaim (n : Fin 2) (s : State) : Res :=
  if !twAnswers s n then .next s else
    let c := claimSource s n
    let s0 := setAck (.value [BitVec.ofNat 8 c]) s
    match fin? 128 c with
    | none => .next s0
    | some i =>
      if s.evc.inserv.testBit i then .next s0 else
        .next (evRefresh (modTw n (fun t => { t with
            claimFlags := claimedFlags i, claimOvf := s.evc.ovf[i], claimed := some i, sinceRise := true })
          { s0 with evc := { s.evc with
              pend := clrBit s.evc.pend i
              inserv := setBit s.evc.inserv i
              host1 := if n = 1 then setBit s.evc.host1 i else clrBit s.evc.host1 i
              ovf := vset s.evc.ovf i 0 } }))

/-- TW_ERR_READ (R468): the bits of the snapshot are returned and cleared. DEDUCED, log entry 62. -/
def execTwErrRead (n : Fin 2) (s : State) : Res :=
  if !twAnswers s n then .next s else
    let e := match s.tw[n].snapshot[regFirst s .twerr]? with
      | some b => b.toNat
      | none => regValue s n .twerr
    .next (setAck (.value [BitVec.ofNat 8 e]) (modTw n (fun t => { t with err := t.err - (t.err &&& e) }) s))

/-! ### The dictionary tunnel (R474 to R476) -/

/-- The tunnel is BUSY, or the device does not take tunnel commands now (R466, R474, R477). -/
def tunBusy (s : State) (n : Fin 2) : Bool := decide (s.tw[n].tun.phase = .busy) || deviceBusy s

/-- A tunnel request runs; its outcome stands when it is known. -/
def tunStart (n : Fin 2) (a : Ack) (s : State) : State :=
  modTun n (fun t => { t with phase := .busy, outcome := if a = .pending then .none else a }) { s with netLast := portOfTw n }

/-- What a tunnel WRITE gives (R476). DEDUCED, log entry 61. -/
def tunWriteOut (n : Fin 2) (last : Bool) (s : State) : State × Ack :=
  let t := s.tw[n].tun
  let p := portOfTw n
  let d := t.data.take (tunLen s n)
  let drop := modTun n (fun t => { t with gatherOf := none, gather := [] })
  match checkWrite s p t.index t.sub with
  | .error e => (s, .abort e)
  | .ok r =>
    if r.typ ≠ .domain then (if last then writeRequest p 0 t.index t.sub d s else (s, .abort .length))
    else if t.offset ≠ 0 ∧ (t.gatherOf ≠ some (t.index, t.sub) ∨ t.gather.length ≠ t.offset) then (drop s, .abort .noTransfer)
    else
      let whole := (if t.offset = 0 then [] else t.gather) ++ d
      if 16384 < whole.length then (drop s, .abort .length)
      else if last then writeRequest p 0 t.index t.sub whole (drop s)
      else (modTun n (fun t => { t with gatherOf := some (t.index, t.sub), gather := whole }) s, .done)

/-- A write of `TUN_CMD` with READ (R474, R475). -/
def tunRead (n : Fin 2) (s : State) : State × WrResult :=
  if tunBusy s n then (s, .busy) else (tunStart n (tunReadOut n s).2 (tunReadOut n s).1, .accepted)

/-- The result of a WRITE command the tunnel takes: IGNORED for a check-in in Old Chart mode (R567). -/
def tunTaken (n : Fin 2) (s : State) : WrResult :=
  if s.pwr.oldChart && decide (s.tw[n].tun.index = 0x2A11) && decide (s.tw[n].tun.sub = 5 + n.val) then .ignored else .accepted

/-- A write of `TUN_CMD` with WRITE (R471, R474, R476). DEDUCED, log entry 61. -/
def tunWrite (n : Fin 2) (last : Bool) (s : State) : State × WrResult :=
  if tunBusy s n then (s, .busy)
  else if s.roles[portOfTw n] = 3 then (s, .notPermitted)
  else (tunStart n (tunWriteOut n last s).2 (tunWriteOut n last s).1, tunTaken n s)

/-- A register written whole on port `n`, its packet error code right where one is used (R464, R466, R469): its effect, its result with
the register's offset, the pointer behind it. DEDUCED, log entry 61. -/
def windowWrite (n : Fin 2) (ofs : Nat) (s : State) (f : State → State × WrResult) : State :=
  if !twAnswers s n then s else ptrPast n (ofs + (regAt s ofs).size) (wrSet n (f s).2 ofs (f s).1)

/-- TUN_CMD_READ (R475). -/
def execTunCmdRead (n : Fin 2) (s : State) : Res := .next (windowWrite n (regFirst s .tcmd) s (tunRead n))

/-- TUN_CMD_WRITE (R476). -/
def execTunCmdWrite (n : Fin 2) (last : Bool) (s : State) : Res := .next (windowWrite n (regFirst s .tcmd) s (tunWrite n last))

/-- TUNNEL_DONE (R474): the request whose outcome is known ends; its event is pending. -/
def execTunnelDone (n : Fin 2) (s : State) : Res :=
  let t := s.tw[n].tun
  let fin (f : Tunnel → Tunnel) : Res := .next (eventEdge (42 + n) (modTun n (fun t => { f t with outcome := .none }) s))
  if t.phase ≠ .busy then .next s else
    match t.outcome with
    | .none | .pending => .next s
    | .done => fin fun t => { t with phase := .done }
    | .value b => fin fun t => { t with phase := .done, data := (b ++ t.data.drop b.length).take 64 }
    | .abort c => fin fun t => { t with phase := .aborted, abort := c.num }

/-! ### Register writes (R465, R466, R469, R471) -/

/-- The end of the service of a source by host `n` (R489). -/
def completeOp (n : Fin 2) (src : Nat) (s : State) : State × WrResult :=
  if s.update.pause then (s, .busy)
  else if s.evc.inserv.testBit src && (s.evc.host1.testBit src == decide (n = 1)) then
    (evRefresh { s with evc := { s.evc with
      inserv := clrBit s.evc.inserv src, host1 := clrBit s.evc.host1 src, wdrawn := clrBit s.evc.wdrawn src } }, .accepted)
  else (s, .state)

/-- A voltage command of the window (R473). -/
def windowVset (n : Fin 2) (j : Fin 8) (mv : Nat) (s : State) : State × WrResult :=
  if s.update.pause then (s, .busy) else
    match windowRailW s n j with
    | none => (s, .notPermitted)
    | some r => match vsetCommand r mv (3 + n) s with
      | (t, .done) => (t, .accepted)
      | (t, _) => (t, .state)

/-- A Forecast hint of the window (R473). DEDUCED, log entry 71. -/
def windowFc (n : Fin 2) (j : Fin 8) (v : Nat) (s : State) : State × WrResult :=
  if s.update.pause then (s, .busy) else
    match windowRailW s n j with
    | none => (s, .notPermitted)
    | some r => (fcRequest r v s, .accepted)

/-- The tunnel's registers and `TUN_CMD`. -/
def WinReg.tunnel : WinReg → Bool
  | .tidx | .tsub | .tlen | .tofs | .tcmd | .tdata => true
  | _ => false

/-- A register written whole with the value `v`. DEDUCED, log entry 61. -/
def regEffect (n : Fin 2) (g : WinReg) (v : Nat) (s : State) : State × WrResult :=
  match g with
  | .complete => completeOp n v s
  | .wda => let o := wdAnswerOp n v s.wd.tick s; (o.1, if o.2 then .accepted else .ignored)
  | .wdci => let o := wdCheckinOp n v s; (o.1, if o.2 then .accepted else .ignored)
  | .vset j => windowVset n j v s
  | .fc j => windowFc n j v s
  | .tidx => (modTun n (fun t => { t with index := v }) s, .accepted)
  | .tsub => (modTun n (fun t => { t with sub := v }) s, .accepted)
  | .tlen => (modTun n (fun t => { t with len := v }) s, .accepted)
  | .tofs => (modTun n (fun t => { t with offset := v }) s, .accepted)
  | .tcmd =>
    if v / 4 % 32 ≠ 0 then (s, .incomplete)
    else if v % 4 = 1 then tunRead n s else if v % 4 = 2 then tunWrite n (decide (128 ≤ v)) s else (s, .incomplete)
  | _ => (s, .readOnly)

/-- Bytes written within one register from the offset `ofs` on (R465, R467). DESIGN CHOICE, log entry 10. -/
def regBytes (n : Fin 2) (g : WinRow) (ofs : Nat) (bytes : List Byte) (s : State) : State :=
  let r : State × WrResult :=
    if g.acc = .ro ∨ g.acc = .const then (s, .readOnly)
    else if g.reg.tunnel && decide (s.tw[n].tun.phase = .busy) then (s, .busy)
    else if g.reg ≠ .tdata ∧ (ofs ≠ g.first ∨ bytes.length ≠ g.size) then (s, .incomplete)
    else if s.update.pause then (s, .busy)
    else if g.reg = .tdata then
      (modTun n (fun t => { t with data := t.data.take (ofs - g.first) ++ bytes ++ t.data.drop (ofs - g.first + bytes.length) }) s,
        .accepted)
    else regEffect n g.reg (leNat bytes) s
  wrSet n r.2 g.first r.1

/-- The bytes of a write, register by register (R464, R465). -/
def writeBytes (n : Fin 2) : Nat → Nat → List Byte → State → State
  | 0, _, _, s => s
  | _, _, [], s => s
  | k + 1, ofs, bytes, s =>
    let g := regAt s ofs
    let m := g.first + g.size - ofs
    writeBytes n k (winPtr s (ofs + m)) (bytes.drop m) (regBytes n g ofs (bytes.take m) s)

/-- How many bytes of a register a write with packet error checking carries before its code (R469). -/
def pecSize (s : State) (n : Fin 2) (g : WinRow) : Nat := if g.reg = .tdata then tunLen s n else g.size

/-- The byte in the place of the packet error code is the CRC over every byte since the START (R469): the address byte and the
pointer, where they went before, and the bytes of the register. -/
def pecRight (s : State) (n : Fin 2) (ofs size : Nat) (bytes : List Byte) (pec : Nat) : Bool :=
  let seen := if s.tw[n].transfer then s.tw[n].seen else [addrByte s n false, BitVec.ofNat 8 ofs]
  let code := ((bytes.drop size).head?.map (·.toNat)).getD pec
  decide (code = crc8 (seen ++ bytes.take size))

/-- A write with packet error checking (R469): one register from its first byte, and its code; a code of more than a byte stands for a
write that ended without one. DEDUCED, log entry 61. -/
def pecWrite (n : Fin 2) (ofs : Nat) (bytes : List Byte) (pec : Nat) (s : State) : State :=
  let g := regAt s ofs
  let size := pecSize s n g
  if ofs ≠ g.first then wrSet n .align g.first s
  else if bytes.length < size ∨ (bytes.length = size ∧ 256 ≤ pec) then wrSet n .incomplete g.first s
  else if !pecRight s n ofs size bytes pec then
    twErr n 3 (wrSet n .pec g.first (modTw n (fun t => { t with pecErrCnt := satAdd max16 t.pecErrCnt 1 }) s))
  else regBytes n g ofs (bytes.take size) s

/-- REGISTER_WRITE (R465, R469): the data bytes of a write from an offset on; with packet error checking, the byte behind them is
its code. -/
def execRegisterWrite (n : Fin 2) (offset : Nat) (bytes : List Byte) (pec : Nat) (s : State) : Res :=
  if !twAnswers s n then .next s else
    let o := winPtr s offset
    let s1 := if s.tw[n].pec then pecWrite n o bytes pec s else writeBytes n bytes.length o bytes s
    let k := if s.tw[n].pec then min bytes.length (pecSize s n (regAt s o)) else bytes.length
    .next (modTw n (fun t => { t with pointer := winPtr s (o + k), seen := t.seen ++ bytes }) s1)

/-- COMPLETE (R489). -/
def execComplete (n : Fin 2) (src : Nat) (s : State) : Res := .next (windowWrite n (regFirst s .complete) s (completeOp n (src % 256)))

/-- VSET_WINDOW_WRITE (R473). In Old Chart mode there are four slots (R566). -/
def execVsetWindowWrite (h : Fin 2) (j : Fin 8) (mv : Nat) (s : State) : Res :=
  .next (if s.pwr.oldChart && decide (4 ≤ j.val) then s
    else windowWrite h (regFirst s (.vset j)) s (windowVset h j (mv % 65536)))

/-- FC_WINDOW_WRITE (R473). The Old Chart window has no Forecast register (R565). -/
def execFcWindowWrite (h : Fin 2) (j : Fin 8) (value : Nat) (s : State) : Res :=
  .next (if s.pwr.oldChart then s else windowWrite h (regFirst s (.fc j)) s (windowFc h j (value % 16777216)))

/-! ### Transfers' ends and bus errors (R463, R481 to R484) -/

/-- The transfer of port `n` ends. -/
def twEnd (n : Fin 2) (s : State) : State := modTw n (fun t => { t with transfer := false, snapshot := [], seen := [] }) s

/-- TW_BUS_IDLE (R463): written settings come into force; a line that was stuck is released. DEDUCED, log entry 62. -/
def execTwBusIdle (n : Fin 2) (s : State) : Res :=
  .next (modTw n (fun t => { t with
    addr := if s.pwr.oldChart then 0 else s.twAddr n, pec := s.twPecEn n, speed := s.twCtrlSpeed n,
    sclStuck := false, sdaStuck := false }) (twEnd n s))

/-- TW_START_IN_TRANSFER (R481). -/
def execTwStartInTransfer (n : Fin 2) (s : State) : Res := .next (twEnd n s)

/-- The port may act as controller (R478, R565). DEDUCED, log entry 63. -/
def twController (s : State) (n : Fin 2) : Bool :=
  answering s && !s.pwr.oldChart && s.twNotifyEn n && !s.tw[n].wedged

/-- TW_NOTIFY (R478, R479): a due notification is sent at bus idle. DEDUCED, log entry 63. -/
def execTwNotify (n : Fin 2) (s : State) : Res :=
  .next (if twController s n && s.tw[n].due && s.evc.alert[n] && !s.tw[n].transfer then
    modTw n (fun t => { t with
      due := false, notifyCnt := satAdd max32 t.notifyCnt 1,
      notified := [BitVec.ofNat 8 (2 * s.twHostAddr n), addrByte s n false, BitVec.ofNat 8 (claimByte s n), BitVec.ofNat 8 (min 127 (evtPend s n))] }) s
    else s)

/-- TW_NOTIFY_REPEAT (R478): `TW_NOTIFY_REP` has passed with `ALERT_n` high and no claim on the port. -/
def execTwNotifyRepeat (n : Fin 2) (s : State) : Res :=
  .next (if twController s n && s.evc.alert[n] && !s.tw[n].sinceRise && decide (s.twNotifyRep n ≠ 0) then
    modTw n (fun t => { t with due := true }) s else s)

/-- TW_NOTIFY_NACK (R479). -/
def execTwNotifyNack (n : Fin 2) (s : State) : Res :=
  .next (if twController s n && s.tw[n].due then
    twErr n 4 (modTw n (fun t => { t with due := false, nackCnt := satAdd max16 t.nackCnt 1 }) s) else s)

/-- TW_ARBITRATION_LOST (R480): the notification stays due. -/
def execTwArbitrationLost (n : Fin 2) (s : State) : Res :=
  .next (if twController s n && s.tw[n].due then modTw n (fun t => { t with arbCnt := satAdd max32 t.arbCnt 1 }) s else s)

/-- A Logbook entry of a two-wire port; how the table's cause or line is coded is not stated. DESIGN CHOICE, log entry 59. -/
def twLog (code : FaultCode) (n : Fin 2) (use : Nat) (s : State) : State :=
  useFree (logFault code 0 n (Config.free use s.freeCtr % 2 ^ 32) s)

/-- TW_CONTROLLER_BUS_ERROR (R482): that message is not retried. DESIGN CHOICE, log entry 59. -/
def execTwControllerBusError (n : Fin 2) (s : State) : Res :=
  .next (if twController s n && s.tw[n].due then
    twErr n 0 (twLog .twBusErr n 0x0901
      (modTw n (fun t => { t with due := false, busErrCnt := satAdd max16 t.busErrCnt 1 }) s)) else s)

/-- TW_LINE_STUCK (R483): the transfer is abandoned; a notification stays due. DESIGN CHOICE, log entry 59. -/
def execTwLineStuck (n : Fin 2) (sda : Bool) (s : State) : Res :=
  .next (if !answering s then s else
    twErr n (if sda then 2 else 1) (twLog .twStuck n (if sda then 0x09022 else 0x09021)
      (modTw n (fun t => { t with
        sclStuck := t.sclStuck || !sda, sdaStuck := t.sdaStuck || sda, stuckCnt := satAdd max16 t.stuckCnt 1 }) (twEnd n s))))

/-- TW_WEDGED (R484): recovered only by a full reset. DEDUCED, log entry 62. -/
def execTwWedged (n : Fin 2) (s : State) : Res :=
  .next (if !answering s || s.tw[n].wedged then s
    else twErr n 5 (twLog .twStuck n 0x09025 (modTw n (fun t => { t with wedged := true }) (twEnd n s))))

end Sys2Proof.Machine
end

