-- ==== Sys2Proof/Machine/Can.lean ====
section
/-! DEFINITION. The CAN ports' commands: enables and bus-off (R501 to R503), requests (R506 to R510), block transfers (R511 to
R514), heartbeats (R518, R519) and report frames (R520 to R522). -/

namespace Sys2Proof.Machine

/-! ### Port states -/

/-- CAN_PORT_START (R497, R501): bus integration ends and the port takes part in traffic. -/
def execCanPortStart (n : Fin 4) (s : State) : Res :=
  let t := canStart n s
  .next (if t.can[n].phase = .starting then
    modCan n (fun c => { c with phase := if canMonitor t n then .monitoring else .errorActive }) t else t)

/-- CAN_EN_CLEAR (R502). -/
def execCanEnClear (p : Port) (n : Fin 4) (s : State) : Res := .next (directWrite p (okey (0x2D00 + n) 0x01) s (canEnOp p n 0))

/-- CAN_BUS_OFF (R503, R514, R536): the transmit counter's value at bus-off is not stated. DESIGN CHOICE, log entry 57. -/
def execCanBusOff (n : Fin 4) (s : State) : Res :=
  if !canSends s n then .next s else
    let t := Config.free 503 s.freeCtr % 256
    .next (useFree (updPortLost (portOfCan n) (canEvent n (logFault .canBusOff 0 n (t * 256 + s.can[n].rec_)
      (modCan n (fun c => { c with
        phase := if s.canBoffAuto n then .recovering else .busOff
        boffCnt := satAdd max16 c.boffCnt 1
        tec := t
        transfer := .none }) (canDrop n s))))))

/-- CAN_BOFF_REC (R503). -/
def execCanBoffRec (p : Port) (n : Fin 4) (value : Nat) (s : State) : Res :=
  .next (directWrite p (okey (0x2D00 + n) 0x18) s (boffRecOp p n value))

/-- CAN_RECOVERY_DONE (R503). -/
def execCanRecoveryDone (n : Fin 4) (s : State) : Res :=
  .next (if s.can[n].phase = .recovering then
    canEvent n (modCan n (fun c => { c with phase := .errorActive, tec := 0, rec_ := 0 }) s) else s)

/-- CAN_ERROR_STATE_CHANGE (R497, R503): the counters move, and the state with them, which the frames behind the one on the wire will
show. DEDUCED, log entry 80. -/
def execCanErrorStateChange (n : Fin 4) (tec rec : Nat) (s : State) : Res :=
  if !canSends s n then .next s else
    let ph : CanPhase := if 128 ≤ tec ∨ 128 ≤ rec then .errorPassive else .errorActive
    let t := modCan n (fun c => { c with
      tec := min 255 tec, rec_ := min 255 rec, phase := ph
      txQueue := c.txQueue.take 1 ++ (c.txQueue.drop 1).map fun f => { f with esi := !f.classical && decide (ph = .errorPassive) } }) s
    .next (if ph = s.can[n].phase then t else canEvent n t)

/-! ### Requests -/

/-- A READ is served (R510). DESIGN CHOICE, log entry 9. -/
def serveRead (n : Fin 4) (tag idx sub : Nat) (s : State) : State :=
  let o := readExpedited (portOfCan n) idx sub s
  setAck o.2 (respond n ⟨0x80 + cmdRead, tag, idx, sub, []⟩ o.2 o.1)

/-- An expedited WRITE (R510): `LEN` is 1 to 56. -/
def writeExpedited (p : Port) (tag idx sub : Nat) (bytes : List Byte) (s : State) : State × Ack :=
  match checkWrite s p idx sub with
  | .error e => (s, .abort e)
  | .ok _ => if 1 ≤ bytes.length ∧ bytes.length ≤ 56 then writeRequest p tag idx sub bytes s else (s, .abort .length)

/-- A WRITE is served (R510). DESIGN CHOICE, log entry 9. -/
def serveWrite (n : Fin 4) (tag idx sub : Nat) (bytes : List Byte) (s : State) : State :=
  let o := writeExpedited (portOfCan n) tag idx sub bytes s
  setAck o.2 (respond n ⟨0x80 + cmdWrite, tag, idx, sub, []⟩ o.2 o.1)

/-- A request is aborted with what it names. -/
def serveAbort (n : Fin 4) (c : AbortCode) (cmd tag idx sub : Nat) (s : State) : State :=
  setAck (.abort c) (respond n ⟨cmd ||| 0x80, tag, idx, sub, []⟩ (.abort c) s)

/-- A request whose `LEN` its `CMD` does not have: the checks of R515 up to the length. DEDUCED, log entry 66. -/
def serveWrongLen (n : Fin 4) (cmd tag idx sub : Nat) (s : State) : State :=
  let p := portOfCan n
  let c : AbortCode :=
    if cmd = cmdBlockRequest then (if accessBusy s p then .busy else .length)
    else match (if cmd = cmdBlockWrite then checkWrite s p idx sub else checkRead s p idx sub) with
      | .error e => e
      | .ok _ => .length
  serveAbort n c cmd tag idx sub s

/-! ### Block transfers (R511 to R514) -/

/-- The image's object (R533). -/
def isImage (idx sub : Nat) : Bool := decide (idx = 0x2E00 ∧ sub = 2)

/-- An open transfer is aborted with `c`, under its own TAG and the command that opened it (R514); an image's stops the
update (R536). DEDUCED, log entry 26. -/
def abortTransfer (n : Fin 4) (c : AbortCode) (s : State) : State :=
  match s.can[n].transfer with
  | .none => s
  | .blockRead tag idx sub _ => respond n ⟨0x80 + cmdBlockRead, tag, idx, sub, []⟩ (.abort c) (setTransfer n .none s)
  | .blockWrite tag idx sub _ _ _ _ _ =>
    let t := respond n ⟨0x80 + cmdBlockWrite, tag, idx, sub, []⟩ (.abort c) (setTransfer n .none s)
    if isImage idx sub then updPortLost (portOfCan n) t else t

/-- The total size of a block write passes the length check (R511, R512). -/
def blockLengthOk (r : ObjRow) (idx sub total : Nat) : Bool :=
  decide (1 ≤ total) && decide (total ≤ 32768) && lengthOk r idx sub total
    && !(decide (idx = 0x2712 ∧ total ≠ 1240) || decide (idx = 0x2E00 ∧ total ≠ 256))

/-- A BLOCK_WRITE_INIT is checked as a WRITE, with the total size as the length (R511); none: it opens. -/
def blockWriteCheck (p : Port) (idx sub total : Nat) (s : State) : State × Option AbortCode :=
  match checkWrite s p idx sub with
  | .error e => (s, some e)
  | .ok r =>
    if isImage idx sub then imageInit p total s
    else if blockLengthOk r idx sub total then (s, none) else (s, some .length)

/-- A BLOCK_WRITE_INIT is served (R511, R514). -/
def serveBlockWriteInit (n : Fin 4) (tag idx sub total : Nat) (s : State) : State :=
  let s0 := abortTransfer n .transferReplaced s
  let o := blockWriteCheck (portOfCan n) idx sub total s0
  let w : PendResp := ⟨0x80 + cmdBlockWrite, tag, idx, sub, leBytes 2 4096 ++ leBytes 1 69⟩
  match o.2 with
  | some c => setAck (.abort c) (respond n w (.abort c) o.1)
  | none => setAck .done (respond n w .done (setTransfer n (.blockWrite tag idx sub total 0 0 false []) o.1))

/-- The acknowledge of a block (R511): block number and the next segment expected. -/
def blockAck (tag idx sub block next : Nat) : PendResp := ⟨0x95, tag, idx, sub, leBytes 2 block ++ leBytes 1 next⟩

/-- A whole value of a block write reaches its object (R511, R512). -/
def blockWritten (p : Port) (tag idx sub : Nat) (got : List Byte) (s : State) : State × Ack := writeRequest p tag idx sub got s

/-- A segment that ends a block or the transfer arrived in order (R511, R533, R534): the acknowledge, the next block, at the
transfer's end the object written. DEDUCED, log entry 64. -/
def blockEnd (n : Fin 4) (tag idx sub total block next : Nat) (last : Bool) (got : List Byte) (s : State) : State :=
  let whole := decide (got.length = min total (4096 * (block + 1)))
  let done := decide (got.length = total)
  if last && !done then
    let t := setTransfer n .none s
    let u := if isImage idx sub then updPortLost (portOfCan n) t else t
    setAck (.abort .length) (respond n (blockAck tag idx sub block next) (.abort .length) u)
  else if !whole then
    setAck .done (respond n (blockAck tag idx sub block next) .done (setTransfer n (.blockWrite tag idx sub total block next false got) s))
  else
    let t := setTransfer n (if last then .none else .blockWrite tag idx sub total (block + 1) 0 false got) s
    let o := if isImage idx sub then
        (if s.update.phase = .receiving ∨ s.update.phase = .wiping then imageBlock (got.drop (4096 * block)) last t
          else (setTransfer n .none t, .abort .state))
      else if last then blockWritten (portOfCan n) tag idx sub got t else (t, .done)
    setAck o.2 (respond n (blockAck tag idx sub block 69) o.2 o.1)

/-- A SEGMENT is served (R511, R514); a frame of less than 8 bytes is MALFORMED (R508). A SEGMENT names no object, so an abort of a
stray one names 0. DEDUCED, log entry 64. -/
def serveSegment (n : Fin 4) (tag seq flags : Nat) (bytes : List Byte) (s : State) : State :=
    let stray (c : AbortCode) : State := serveAbort n c cmdSegment tag 0 0 s
    if bytes.length < 4 then stray .malformed
    else if accessBusy s (portOfCan n) then stray .busy else
      match s.can[n].transfer with
      | .blockWrite tag' idx sub total block want skip got =>
        if tag ≠ tag' then stray .noTransfer else
          let ends := decide (flags % 4 ≠ 0)
          if skip || decide (seq ≠ want) then
            (if ends then
              setAck .done (respond n (blockAck tag idx sub block want) .done
                (setTransfer n (.blockWrite tag idx sub total block want false got) s))
            else setTransfer n (.blockWrite tag idx sub total block want true got) s)
          else
            let room := min total (4096 * (block + 1)) - got.length
            let got' := got ++ bytes.take (min 60 room)
            if ends then blockEnd n tag idx sub total block (want + 1) (flags.testBit 1) got' s
            else setTransfer n (.blockWrite tag idx sub total block (want + 1) false got') s
      | _ => stray .noTransfer

/-- A BLOCK_READ_INIT is served (R513, R514): the value is taken now. -/
def serveBlockReadInit (n : Fin 4) (tag idx sub : Nat) (s : State) : State :=
  let w (d : List Byte) : PendResp := ⟨0x80 + cmdBlockRead, tag, idx, sub, d⟩
  match readRequest (portOfCan n) idx sub (abortTransfer n .transferReplaced s) with
  | (t, .value b) => setAck .done (respond n (w (leBytes 4 b.length)) .done (setTransfer n (.blockRead tag idx sub b) t))
  | (t, a) => setAck a (respond n (w []) a t)

/-- The segments of a block of `value` (R513): the chunks of 60 bytes with their numbers and flags. DEDUCED, log entry 64. -/
def blockSegments (tag block : Nat) (value : List Byte) : List (List Byte) :=
  let blk := (value.drop (4096 * block)).take 4096
  let k := max 1 ((blk.length + 59) / 60)
  let final := decide (value.length ≤ 4096 * (block + 1))
  (List.range k).map fun i =>
    let lastSeg := decide (i + 1 = k)
    leBytes 1 0x93 ++ leBytes 1 tag ++ leBytes 1 i ++ leBytes 1 (bitsOf [lastSeg, lastSeg && final]) ++ (blk.drop (60 * i)).take 60

/-- A BLOCK_REQUEST is served (R513, R514): the segments of a block, or the end of the transfer. A block behind the value's end is
refused by its length. DEDUCED, log entry 64. -/
def serveBlockRequest (n : Fin 4) (tag block : Nat) (s : State) : State :=
    let stray (c : AbortCode) : State := serveAbort n c cmdBlockRequest tag 0 0 s
    if accessBusy s (portOfCan n) then stray .busy else
      match s.can[n].transfer with
      | .blockRead tag' idx sub value =>
        if tag ≠ tag' then stray .noTransfer
        else
          let w : PendResp := ⟨0x80 + cmdBlockRequest, tag, idx, sub, []⟩
          if block = 0xFFFF then setAck .done (respond n w .done (setTransfer n .none s))
          else if block ≠ 0 ∧ value.length ≤ 4096 * block then setAck (.abort .length) (respond n w (.abort .length) s)
          else
            let t := (blockSegments tag block value).foldl (fun a l => canSend n (fdFrame a n 1 l) a) s
            setAck .done (if value.length ≤ 4096 * (block + 1) then setTransfer n .none t else t)
      | _ => stray .noTransfer

/-- TRANSFER_TIMEOUT (R514). DESIGN CHOICE, log entry 4. -/
def execTransferTimeout (n : Fin 4) (s : State) : Res := .next (abortTransfer n .transferTimeout s)

/-! ### Arrival and service (R506 to R508) -/

/-- A request is served and counted; the network engine goes on behind this port (R506). -/
def serveReq (n : Fin 4) (q : NetReq) (s : State) : State :=
  let t := modCan n (fun c => { c with reqCnt := satAdd max32 c.reqCnt 1 }) { s with netLast := portOfCan n }
  match q with
  | .read tag idx sub => serveRead n tag idx sub t
  | .write tag idx sub bytes => serveWrite n tag idx sub bytes t
  | .blockReadInit tag idx sub => serveBlockReadInit n tag idx sub t
  | .blockWriteInit tag idx sub total => serveBlockWriteInit n tag idx sub total t
  | .segment tag seq flags bytes => serveSegment n tag seq flags bytes t
  | .blockRequest tag block => serveBlockRequest n tag block t
  | .wrongLen cmd tag idx sub => serveWrongLen n cmd tag idx sub t
  | .malformed cmd tag idx sub => serveAbort n .malformed cmd tag idx sub t

/-- No earlier request of the port waits: a response goes out for each in order (R506). -/
def reqFirst (s : State) (n : Fin 4) : Bool := s.can[n].waiting.isEmpty && s.can[n].rxQueue.isEmpty

/-- A port with a request that may be served now. DEDUCED, log entry 65. -/
def netReady (s : State) (n : Fin 4) : Bool := canSends s n && s.can[n].waiting.isEmpty && !s.can[n].rxQueue.isEmpty

/-- No other port has a request ready, so that the turn is this one's (R506). -/
def netFree (s : State) : Bool := (allFin 4).all fun m => !netReady s m

/-- A frame at the request identifier arrives (R497, R506): counted; served, or queued behind requests not yet answered and the turns of
other ports; a full queue discards it. Only a port that may answer serves. DEDUCED, log entries 27 and 65. -/
def served (n : Fin 4) (q : NetReq) (s : State) : State :=
  let rx := modCan n (fun c => { c with rxCnt := satAdd max32 c.rxCnt 1 }) s
  if canSends s n then
    if reqFirst s n && netFree s then serveReq n q rx
    else if s.can[n].rxQueue.length < 64 then setAck .none (modCan n (fun c => { c with rxQueue := c.rxQueue ++ [q] }) rx)
    else setAck .none (modCan n (fun c => { c with rxDrop := satAdd max32 c.rxDrop 1 }) rx)
  else if s.can[n].phase = .monitoring then rx else s

/-- The network engine serves the oldest queued request of the next port behind the one it served last (R506).
DESIGN CHOICE, log entry 3. -/
def netServe (s : State) : State :=
  match (List.range 6).findSome? fun i => (fin? 4 ((s.netLast.val + 1 + i) % 6)).filter (netReady s) with
  | none => s
  | some n => match s.can[n].rxQueue with
    | [] => s
    | q :: l => serveReq n q (modCan n (fun c => { c with rxQueue := l }) s)

/-- READ (R510). DESIGN CHOICE, log entry 9. -/
def execRead (n : Fin 4) (tag idx sub : Nat) (s : State) : Res := .next (served n (.read tag idx sub) s)

/-- WRITE (R510). DESIGN CHOICE, log entry 9. -/
def execWrite (n : Fin 4) (tag idx sub : Nat) (bytes : List Byte) (s : State) : Res := .next (served n (.write tag idx sub bytes) s)

/-- BLOCK_WRITE_INIT (R511, R514). -/
def execBlockWriteInit (n : Fin 4) (tag idx sub total : Nat) (s : State) : Res := .next (served n (.blockWriteInit tag idx sub total) s)

/-- SEGMENT (R511, R514). DEDUCED, log entry 64. -/
def execSegment (n : Fin 4) (tag seq flags : Nat) (bytes : List Byte) (s : State) : Res :=
  .next (served n (.segment tag seq flags bytes) s)

/-- BLOCK_READ_INIT (R513, R514). -/
def execBlockReadInit (n : Fin 4) (tag idx sub : Nat) (s : State) : Res := .next (served n (.blockReadInit tag idx sub) s)

/-- BLOCK_REQUEST (R513, R514). DEDUCED, log entry 64. -/
def execBlockRequest (n : Fin 4) (tag block : Nat) (s : State) : Res := .next (served n (.blockRequest tag block) s)

/-- The request a frame of 2 bytes or more spells (R507, R508). DEDUCED, log entry 66. -/
def parseReq (l : List Byte) : NetReq :=
  let b (ofs n : Nat) : Nat := fieldAt l ofs n
  let cmd := b 0 1
  let tag := b 1 1
  let idx := b 2 2
  let sub := b 4 1
  let len := b 5 1
  let data := (l.drop 8).take len
  if l.length < 8 then .malformed cmd tag idx sub
  else if cmd = cmdSegment then .segment tag (b 2 1) (b 3 1) (l.drop 4)
  else if !([cmdRead, cmdWrite, cmdBlockRead, cmdBlockWrite, cmdBlockRequest].contains cmd) || decide (b 6 2 ≠ 0) || decide (l.length < 8 + len)
  then .malformed cmd tag idx sub
  else if cmd = cmdWrite then .write tag idx sub data
  else if len ≠ (if cmd = cmdBlockWrite then 4 else if cmd = cmdBlockRequest then 2 else 0) then .wrongLen cmd tag idx sub
  else if cmd = cmdRead then .read tag idx sub
  else if cmd = cmdBlockRead then .blockReadInit tag idx sub
  else if cmd = cmdBlockWrite then .blockWriteInit tag idx sub (leNat data)
  else .blockRequest tag (leNat data)

/-- MALFORMED (R505, R508): the bytes of a frame at the request identifier, in classical format or not. A classical frame and one of
less than 2 bytes get no response and are counted; any other is what it spells. DEDUCED, log entry 66. -/
def execMalformed (n : Fin 4) (classical : Bool) (bytes : List Byte) (s : State) : Res :=
  if classical || decide (bytes.length < 2) then
    .next (if canSends s n || decide (s.can[n].phase = .monitoring) then
      modCan n (fun c => { c with rxCnt := satAdd max32 c.rxCnt 1, rxDrop := satAdd max32 c.rxDrop 1 }) s else s)
  else .next (served n (parseReq bytes) s)

/-! ### Heartbeats (R518, R519) -/

/-- The heartbeat's bytes (R518). -/
def heartbeatBytes (s : State) (n : Fin 4) : List Byte :=
  leBytes 1 s.can[n].hbCnt ++ leBytes 1 (devStatus s)
    ++ leBytes 1 (s.roles[portOfCan n] % 4 + 4 * pwrCode s.pwr.state + 16 * bit s.wd.on + 32 * bit (!s.xb.pend.isEmpty))
    ++ leBytes 1 (srcTypeCode s) ++ leBytes 2 s.gauge.soc ++ leBytes 1 s.pp.phase.ctorIdx ++ leBytes 1 (seqUp s)

/-- HEARTBEAT (R518): none with `HB_PERIOD` 0, none in the activate pause. DEDUCED, log entry 80. -/
def execHeartbeat (n : Fin 4) (s : State) : Res :=
  .next (if canSends s n && decide (s.hbPeriod n ≠ 0) && !s.update.pause then
    modCan n (fun c => { c with hbCnt := if canAccepts s n then (c.hbCnt + 1) % 256 else c.hbCnt })
      (canSend n ⟨s.can[n].base + 0x7F, true, false, false, heartbeatBytes s n⟩ s) else s)

/-- PEER_HEARTBEAT (R519). DEDUCED, log entry 27. -/
def execPeerHeartbeat (n : Fin 4) (classical : Bool) (s : State) : Res :=
  .next (if (canSends s n || decide (s.can[n].phase = .monitoring)) && decide (s.peerHbId n ≠ 0xFFFF) then
    modCan n (fun c => { c with peerCur := true, peerClassical := classical }) s else s)

/-- PEER_HEARTBEAT_TIMEOUT (R519). -/
def execPeerHeartbeatTimeout (n : Fin 4) (s : State) : Res := .next (modCan n (fun c => { c with peerCur := false }) s)

/-! ### Report frames (R520 to R522) -/

/-- The port of a report, and its number on that port. -/
def rptPort (r : Fin 64) : Fin 4 := ⟨r.val / 16, by omega⟩

/-- The values of a report at one instant (R520). DEDUCED, log entry 31. -/
def rptValues (s : State) (r : Fin 64) : List Byte :=
  (rptEntries s r).flatMap fun e =>
    match objFind s.part e.1 e.2 with
    | some o => (objectBytes s (portOfCan (rptPort r)) o e.1 e.2).getD []
    | none => []

/-- The report may be sent now (R497, R521, R522). -/
def rptRuns (s : State) (r : Fin 64) : Bool := canSends s (rptPort r) && !s.update.pause && !s.reports[r].disabling

/-- The frame of a report is sent (R520), by the on-change rule or not; one that the port drops is not counted as sent.
DEDUCED, log entries 31 and 80. -/
def rptSend (r : Fin 64) (onChange : Bool) (s : State) : State :=
  let n := rptPort r
  let v := rptValues s r
  let t := canSend n (fdFrame s n (0x10 + r.val % 16) (leBytes 1 s.reports[r].cnt ++ v)) s
  if !canAccepts s n then useFree t else useFree { t with reports := vmod t.reports r fun x => { x with
    cnt := (x.cnt + 1) % 256, sent := satAdd max32 x.sent 1, last := v, changeAt := if onChange then some s.devTime else x.changeAt } }

/-- REPORT_PERIOD (R521). -/
def execReportPeriod (r : Fin 64) (s : State) : Res :=
  .next (if rptRuns s r && (decide (s.rptMode r = 1) || decide (s.rptMode r = 3)) then rptSend r false s else s)

/-- `RPT_INHIBIT` has passed since the report's previous on-change frame (R521). -/
def inhibitOver (s : State) (r : Fin 64) : Bool :=
  match s.reports[r].changeAt with
  | some t => decide (t + 1000 * s.rptInhibit r ≤ s.devTime)
  | none => true

/-- REPORT_CHANGE_SAMPLE (R521). -/
def execReportChangeSample (r : Fin 64) (s : State) : Res :=
  .next (if rptRuns s r && (decide (s.rptMode r = 2) || decide (s.rptMode r = 3)) && inhibitOver s r
      && decide (rptValues s r ≠ s.reports[r].last) then rptSend r true s else s)

/-- RPT_MODE_WRITE (R522). -/
def execRptModeWrite (p : Port) (r : Fin 64) (value : Nat) (s : State) : Res :=
  .next (directWrite p (okey (0x2D40 + r) 0x01) s (rptModeOp r (value % 256)))

end Sys2Proof.Machine
end

