-- ==== Sys2Proof/Machine/Dispatch.lean ====
section
/-! DEFINITION. One arm per command: its meaning. -/

namespace Sys2Proof.Machine

/-- The effect of a command on everything but the queue. -/
def exec (i : Instr) (s : State) : Host.Outcome State Fault Refusal :=
  match i with
  | .lockstepMismatch word => Sys2Proof.Machine.execLockstepMismatch word s
  | .sysClockCheck kHz => Sys2Proof.Machine.execSysClockCheck kHz s
  | .rsysClockCheck k kHz => Sys2Proof.Machine.execRsysClockCheck k kHz s
  | .crystalStartTimeout => Sys2Proof.Machine.execCrystalStartTimeout s
  | .canPllLockLoss => Sys2Proof.Machine.execCanPllLockLoss s
  | .canClockGood => Sys2Proof.Machine.execCanClockGood s
  | .hamperAccess reqs ecc => Sys2Proof.Machine.execHamperAccess reqs ecc s
  | .backgroundScrub ecc => Sys2Proof.Machine.execBackgroundScrub ecc s
  | .linkFrameBad k recv body crc => Sys2Proof.Machine.execLinkFrameBad k recv body crc s
  | .linkNak k recv seq => Sys2Proof.Machine.execLinkNak k recv seq s
  | .linkIdle k recv ack => Sys2Proof.Machine.execLinkIdle k recv ack s
  | .linkAckTimeout k sender => Sys2Proof.Machine.execLinkAckTimeout k sender s
  | .linkCommand k seq ack c => Sys2Proof.Machine.execLinkCommand k seq ack c s
  | .linkEvent k seq ack source cause => Sys2Proof.Machine.execLinkEvent k seq ack source cause s
  | .linkObjWrite k seq ack tag obj sub value => Sys2Proof.Machine.execLinkObjWrite k seq ack tag obj sub value s
  | .linkObjRead k seq ack tag obj sub => Sys2Proof.Machine.execLinkObjRead k seq ack tag obj sub s
  | .linkObjData k seq ack tag obj sub value => Sys2Proof.Machine.execLinkObjData k seq ack tag obj sub value s
  | .linkTelemetry k seq ack offset data => Sys2Proof.Machine.execLinkTelemetry k seq ack offset data s
  | .linkDown k => Sys2Proof.Machine.execLinkDown k s
  | .linkRetrained k => Sys2Proof.Machine.execLinkRetrained k s
  | .demandLaneFail g k => Sys2Proof.Machine.execDemandLaneFail g k s
  | .laneParityError g k => Sys2Proof.Machine.execLaneParityError g k s
  | .packageFaultLineAssert => Sys2Proof.Machine.execPackageFaultLineAssert s
  | .stageFault k => Sys2Proof.Machine.execStageFault k s
  | .disableBoundaryReached f => Sys2Proof.Machine.execDisableBoundaryReached f s
  | .strapSample a b c => Sys2Proof.Machine.execStrapSample a b c s
  | .vdrLow k => Sys2Proof.Machine.execVdrLow k s
  | .vdrRestored k => Sys2Proof.Machine.execVdrRestored k s
  | .vauxPowerOnReset => Sys2Proof.Machine.execVauxPowerOnReset s
  | .powerOnResetRelease => Sys2Proof.Machine.execPowerOnResetRelease s
  | .hamperSelfTestEnd weak failed => Sys2Proof.Machine.execHamperSelfTestEnd weak failed s
  | .objectDictionaryReady units => Sys2Proof.Machine.execObjectDictionaryReady units s
  | .pwrStateReqRun p => Sys2Proof.Machine.execPwrStateReqRun p s
  | .pwrStateReqDoze p => Sys2Proof.Machine.execPwrStateReqDoze p s
  | .pwrStateReqPark p => Sys2Proof.Machine.execPwrStateReqPark p s
  | .dozeEntry => Sys2Proof.Machine.execDozeEntry s
  | .sysStop => Sys2Proof.Machine.execSysStop s
  | .wake sources => Sys2Proof.Machine.execWake sources s
  | .wakeTimerExpire => Sys2Proof.Machine.execWakeTimerExpire s
  | .oldChartWakeLatch source => Sys2Proof.Machine.execOldChartWakeLatch source s
  | .resetPinRecognised => Sys2Proof.Machine.execResetPinRecognised s
  | .resetPinRise => Sys2Proof.Machine.execResetPinRise s
  | .resetCmd p value => Sys2Proof.Machine.execResetCmd p value s
  | .resetEnd => Sys2Proof.Machine.execResetEnd s
  | .skReadoptionDeadline r => Sys2Proof.Machine.execSkReadoptionDeadline r s
  | .skHardwareTimeout k => Sys2Proof.Machine.execSkHardwareTimeout k s
  | .zinWindowEnter n => Sys2Proof.Machine.execZinWindowEnter n s
  | .zinWindowExit n => Sys2Proof.Machine.execZinWindowExit n s
  | .zbusWindowEnter => Sys2Proof.Machine.execZbusWindowEnter s
  | .zbusWindowExit => Sys2Proof.Machine.execZbusWindowExit s
  | .insertionDelayExpire c nearBus => Sys2Proof.Machine.execInsertionDelayExpire c nearBus s
  | .retryTimerExpire c nearBus => Sys2Proof.Machine.execRetryTimerExpire c nearBus s
  | .inrushComplete c => Sys2Proof.Machine.execInrushComplete c s
  | .limitEnter c sense => Sys2Proof.Machine.execLimitEnter c sense s
  | .limitRelease c => Sys2Proof.Machine.execLimitRelease c s
  | .limitTimerExpire c => Sys2Proof.Machine.execLimitTimerExpire c s
  | .fastTrip c sense => Sys2Proof.Machine.execFastTrip c sense s
  | .absoluteTrip c => Sys2Proof.Machine.execAbsoluteTrip c s
  | .reverseDetected n => Sys2Proof.Machine.execReverseDetected n s
  | .forwardDetected n => Sys2Proof.Machine.execForwardDetected n s
  | .zinEnSet p n => Sys2Proof.Machine.execZinEnSet p n s
  | .zinEnClear p n => Sys2Proof.Machine.execZinEnClear p n s
  | .zinClear p n value => Sys2Proof.Machine.execZinClear p n value s
  | .foClear p n value => Sys2Proof.Machine.execFoClear p n value s
  | .normalOperationTimer c => Sys2Proof.Machine.execNormalOperationTimer c s
  | .coldStartQualify n => Sys2Proof.Machine.execColdStartQualify n s
  | .coldStartLimitTimeout n => Sys2Proof.Machine.execColdStartLimitTimeout n s
  | .coldStartBandExit n => Sys2Proof.Machine.execColdStartBandExit n s
  | .foGateOff n => Sys2Proof.Machine.execFoGateOff n s
  | .presenceLost n => Sys2Proof.Machine.execPresenceLost n s
  | .presenceDetected n => Sys2Proof.Machine.execPresenceDetected n s
  | .pfwThreshold => Sys2Proof.Machine.execPfwThreshold s
  | .pfwSlopeSample code => Sys2Proof.Machine.execPfwSlopeSample code s
  | .pfwRelease => Sys2Proof.Machine.execPfwRelease s
  | .loopCommit p r value => Sys2Proof.Machine.execLoopCommit p r value s
  | .rotationEpoch r m => Sys2Proof.Machine.execRotationEpoch r m s
  | .balanceUpdate r => Sys2Proof.Machine.execBalanceUpdate r s
  | .balanceAverageTimeout g k => Sys2Proof.Machine.execBalanceAverageTimeout g k s
  | .gangChangeRequest g change => Sys2Proof.Machine.execGangChangeRequest g change s
  | .gangChangeAck g k => Sys2Proof.Machine.execGangChangeAck g k s
  | .gangAckTimeout g => Sys2Proof.Machine.execGangAckTimeout g s
  | .followerEpochStrobe g k ns => Sys2Proof.Machine.execFollowerEpochStrobe g k ns s
  | .followerReaddStrobe g k ns => Sys2Proof.Machine.execFollowerReaddStrobe g k ns s
  | .syncStrobeLoss g k => Sys2Proof.Machine.execSyncStrobeLoss g k s
  | .followerHoldEnd g k => Sys2Proof.Machine.execFollowerHoldEnd g k s
  | .railVsetWrite p r mv => Sys2Proof.Machine.execRailVsetWrite p r mv s
  | .vsetWindowWrite h j mv => Sys2Proof.Machine.execVsetWindowWrite h j mv s
  | .slewTargetReached r => Sys2Proof.Machine.execSlewTargetReached r s
  | .transitionQualified r => Sys2Proof.Machine.execTransitionQualified r s
  | .stepAlarmAssert r => Sys2Proof.Machine.execStepAlarmAssert r s
  | .stepAlarmRelease r => Sys2Proof.Machine.execStepAlarmRelease r s
  | .stepTmaxExpire r => Sys2Proof.Machine.execStepTmaxExpire r s
  | .shedDwellExpire r => Sys2Proof.Machine.execShedDwellExpire r s
  | .shedStart r m => Sys2Proof.Machine.execShedStart r m s
  | .shedComplete r m => Sys2Proof.Machine.execShedComplete r m s
  | .addThreshold r mA => Sys2Proof.Machine.execAddThreshold r mA s
  | .readdEpoch r m => Sys2Proof.Machine.execReaddEpoch r m s
  | .shedHoldoffExpire r => Sys2Proof.Machine.execShedHoldoffExpire r s
  | .phmDisable p r => Sys2Proof.Machine.execPhmDisable p r s
  | .hintPinEdge h => Sys2Proof.Machine.execHintPinEdge h s
  | .fcWindowWrite h j value => Sys2Proof.Machine.execFcWindowWrite h j value s
  | .fcReqWrite p r value => Sys2Proof.Machine.execFcReqWrite p r value s
  | .forecastDeadline r => Sys2Proof.Machine.execForecastDeadline r s
  | .forecastInhibitEnd r => Sys2Proof.Machine.execForecastInhibitEnd r s
  | .trimPeriod r => Sys2Proof.Machine.execTrimPeriod r s
  | .trimFreeze r => Sys2Proof.Machine.execTrimFreeze r s
  | .trimDisable p r => Sys2Proof.Machine.execTrimDisable p r s
  | .stepAlarmDisable p r => Sys2Proof.Machine.execStepAlarmDisable p r s
  | .ovAbsTrip r vsense => Sys2Proof.Machine.execOvAbsTrip r vsense s
  | .ovTrackingTrip r vsense => Sys2Proof.Machine.execOvTrackingTrip r vsense s
  | .pgWindowChange r vsense => Sys2Proof.Machine.execPgWindowChange r vsense s
  | .uvTimerExpire r => Sys2Proof.Machine.execUvTimerExpire r s
  | .ocCondition r k mA => Sys2Proof.Machine.execOcCondition r k mA s
  | .ocTimerExpire r => Sys2Proof.Machine.execOcTimerExpire r s
  | .valleyLimit ph mA => Sys2Proof.Machine.execValleyLimit ph mA s
  | .pgQualified r => Sys2Proof.Machine.execPgQualified r s
  | .pgHoldEnd r => Sys2Proof.Machine.execPgHoldEnd r s
  | .railFclr p r value => Sys2Proof.Machine.execRailFclr p r value s
  | .groupUpCmd p g => Sys2Proof.Machine.execGroupUpCmd p g s
  | .groupDownCmd p g => Sys2Proof.Machine.execGroupDownCmd p g s
  | .groupInputQualified g => Sys2Proof.Machine.execGroupInputQualified g s
  | .groupInputLost g => Sys2Proof.Machine.execGroupInputLost g s
  | .stepDelayEnd g => Sys2Proof.Machine.execStepDelayEnd g s
  | .itemQualified i0 => Sys2Proof.Machine.execItemQualified i0 s
  | .itemPgFall i0 => Sys2Proof.Machine.execItemPgFall i0 s
  | .stepTimeout g retried => Sys2Proof.Machine.execStepTimeout g retried s
  | .itemOff i0 => Sys2Proof.Machine.execItemOff i0 s
  | .shutdownStepTimeout g => Sys2Proof.Machine.execShutdownStepTimeout g s
  | .minOffEnd g => Sys2Proof.Machine.execMinOffEnd g s
  | .itemRetryDelayEnd i0 => Sys2Proof.Machine.execItemRetryDelayEnd i0 s
  | .itemNormalTimer i0 => Sys2Proof.Machine.execItemNormalTimer i0 s
  | .enPinFall r => Sys2Proof.Machine.execEnPinFall r s
  | .enPinRise r => Sys2Proof.Machine.execEnPinRise r s
  | .regCurrentLimitFault n => Sys2Proof.Machine.execRegCurrentLimitFault n s
  | .buckOverVoltage n => Sys2Proof.Machine.execBuckOverVoltage n s
  | .regPgChange n inWindow => Sys2Proof.Machine.execRegPgChange n inWindow s
  | .regPgLostTimeout n => Sys2Proof.Machine.execRegPgLostTimeout n s
  | .rstoConditionsEnd n => Sys2Proof.Machine.execRstoConditionsEnd n s
  | .rstoStretchEnd n => Sys2Proof.Machine.execRstoStretchEnd n s
  | .rstoForce p n value => Sys2Proof.Machine.execRstoForce p n value s
  | .rstoPulseEnd n => Sys2Proof.Machine.execRstoPulseEnd n s
  | .serviceQualified => Sys2Proof.Machine.execServiceQualified s
  | .serviceWindowExit => Sys2Proof.Machine.execServiceWindowExit s
  | .srcAnncWrite p n value => Sys2Proof.Machine.execSrcAnncWrite p n value s
  | .srcAnncTimeout n => Sys2Proof.Machine.execSrcAnncTimeout n s
  | .sourceTypeChange => Sys2Proof.Machine.execSourceTypeChange s
  | .chargerControlCycle m => Sys2Proof.Machine.execChargerControlCycle m s
  | .lbusGoodRise => Sys2Proof.Machine.execLbusGoodRise s
  | .lbusGoodFall => Sys2Proof.Machine.execLbusGoodFall s
  | .chgEnSet p => Sys2Proof.Machine.execChgEnSet p s
  | .chgEnClear p => Sys2Proof.Machine.execChgEnClear p s
  | .chargeStartConditions temp vpkp => Sys2Proof.Machine.execChargeStartConditions temp vpkp s
  | .chgHbDelayEnd => Sys2Proof.Machine.execChgHbDelayEnd s
  | .prechargeDone => Sys2Proof.Machine.execPrechargeDone s
  | .prechargeTimeout => Sys2Proof.Machine.execPrechargeTimeout s
  | .chargeTerminationSample v temp currents => Sys2Proof.Machine.execChargeTerminationSample v temp currents s
  | .chargeBackstop v temp swOc => Sys2Proof.Machine.execChargeBackstop v temp swOc s
  | .packRemoval sign => Sys2Proof.Machine.execPackRemoval sign s
  | .chgFaultRead p => Sys2Proof.Machine.execChgFaultRead p s
  | .sourceLost zbus => Sys2Proof.Machine.execSourceLost zbus s
  | .handOverMakeDone => Sys2Proof.Machine.execHandOverMakeDone s
  | .handOverBreakDone t => Sys2Proof.Machine.execHandOverBreakDone t s
  | .handBackStart zbus => Sys2Proof.Machine.execHandBackStart zbus s
  | .handBackComplete => Sys2Proof.Machine.execHandBackComplete s
  | .gaugeEstimate vpkp ppI temp => Sys2Proof.Machine.execGaugeEstimate vpkp ppI temp s
  | .restQualified => Sys2Proof.Machine.execRestQualified s
  | .gaugeStart vpkp closed => Sys2Proof.Machine.execGaugeStart vpkp closed s
  | .learnFullWaitLapse => Sys2Proof.Machine.execLearnFullWaitLapse s
  | .ggNewpack p value => Sys2Proof.Machine.execGgNewpack p value s
  | .outingStartCmd p => Sys2Proof.Machine.execOutingStartCmd p s
  | .outingEndCmd p => Sys2Proof.Machine.execOutingEndCmd p s
  | .outingTimeout => Sys2Proof.Machine.execOutingTimeout s
  | .ggAlmTablesWrite p bytes => Sys2Proof.Machine.execGgAlmTablesWrite p bytes s
  | .writeBackTimer => Sys2Proof.Machine.execWriteBackTimer s
  | .almanacWriteBackDone ok => Sys2Proof.Machine.execAlmanacWriteBackDone ok s
  | .cfgSave p value => Sys2Proof.Machine.execCfgSave p value s
  | .configCopyWritten ok => Sys2Proof.Machine.execConfigCopyWritten ok s
  | .hcImageWrite p bytes => Sys2Proof.Machine.execHcImageWrite p bytes s
  | .hcLock p value => Sys2Proof.Machine.execHcLock p value s
  | .journalAppend => Sys2Proof.Machine.execJournalAppend s
  | .holdUpEntry hucap => Sys2Proof.Machine.execHoldUpEntry hucap s
  | .holdUpSaveEnd vauxHigh => Sys2Proof.Machine.execHoldUpSaveEnd vauxHigh s
  | .hucapPowerOnReset step => Sys2Proof.Machine.execHucapPowerOnReset step s
  | .tamper => Sys2Proof.Machine.execTamper s
  | .hkConversionEnd ch slice raw vref => Sys2Proof.Machine.execHkConversionEnd ch slice raw vref s
  | .hkSlowRound raws vref => Sys2Proof.Machine.execHkSlowRound raws vref s
  | .hkScanDisable p => Sys2Proof.Machine.execHkScanDisable p s
  | .hkCalCmd p value => Sys2Proof.Machine.execHkCalCmd p value s
  | .selfCalibrationDone gain ofs => Sys2Proof.Machine.execSelfCalibrationDone gain ofs s
  | .backgroundCalibration slice gain ofs => Sys2Proof.Machine.execBackgroundCalibration slice gain ofs s
  | .hkRefSelWrite p value => Sys2Proof.Machine.execHkRefSelWrite p value s
  | .refSettlingEnd => Sys2Proof.Machine.execRefSettlingEnd s
  | .roSample die temps => Sys2Proof.Machine.execRoSample die temps s
  | .thermalComparator => Sys2Proof.Machine.execThermalComparator s
  | .throttleEvaluation => Sys2Proof.Machine.execThrottleEvaluation s
  | .throttleDisable p => Sys2Proof.Machine.execThrottleDisable p s
  | .wdEnable p value => Sys2Proof.Machine.execWdEnable p value s
  | .wdWindowClose => Sys2Proof.Machine.execWdWindowClose s
  | .wdAnswer p n token tick => Sys2Proof.Machine.execWdAnswer p n token tick s
  | .wdCheckin p n task => Sys2Proof.Machine.execWdCheckin p n task s
  | .wdCycleEnd => Sys2Proof.Machine.execWdCycleEnd s
  | .engineService e => Sys2Proof.Machine.execEngineService e s
  | .engineWatchdogExpire e => Sys2Proof.Machine.execEngineWatchdogExpire e s
  | .engineSuspensionEnd => Sys2Proof.Machine.execEngineSuspensionEnd s
  | .logbookEntry code die src detail => Sys2Proof.Machine.execLogbookEntry code die src detail s
  | .logFclr p value => Sys2Proof.Machine.execLogFclr p value s
  | .twReadAddress n len => Sys2Proof.Machine.execTwReadAddress n len s
  | .twWritePointer n ptr => Sys2Proof.Machine.execTwWritePointer n ptr s
  | .registerWrite n offset bytes pec => Sys2Proof.Machine.execRegisterWrite n offset bytes pec s
  | .claim n => Sys2Proof.Machine.execClaim n s
  | .complete n src => Sys2Proof.Machine.execComplete n src s
  | .twErrRead n => Sys2Proof.Machine.execTwErrRead n s
  | .tunCmdRead n => Sys2Proof.Machine.execTunCmdRead n s
  | .tunCmdWrite n last => Sys2Proof.Machine.execTunCmdWrite n last s
  | .tunnelDone n => Sys2Proof.Machine.execTunnelDone n s
  | .twBusIdle n => Sys2Proof.Machine.execTwBusIdle n s
  | .twStartInTransfer n => Sys2Proof.Machine.execTwStartInTransfer n s
  | .twNotify n => Sys2Proof.Machine.execTwNotify n s
  | .twNotifyRepeat n => Sys2Proof.Machine.execTwNotifyRepeat n s
  | .twNotifyNack n => Sys2Proof.Machine.execTwNotifyNack n s
  | .twArbitrationLost n => Sys2Proof.Machine.execTwArbitrationLost n s
  | .twControllerBusError n => Sys2Proof.Machine.execTwControllerBusError n s
  | .twLineStuck n sda => Sys2Proof.Machine.execTwLineStuck n sda s
  | .twWedged n => Sys2Proof.Machine.execTwWedged n s
  | .eventSourceEdge slot => Sys2Proof.Machine.execEventSourceEdge slot s
  | .eventLevelChange slot holds => Sys2Proof.Machine.execEventLevelChange slot holds s
  | .evcRouteWrite p slot value => Sys2Proof.Machine.execEvcRouteWrite p slot value s
  | .evcGdisWrite p value => Sys2Proof.Machine.execEvcGdisWrite p value s
  | .canPortStart n => Sys2Proof.Machine.execCanPortStart n s
  | .canEnClear p n => Sys2Proof.Machine.execCanEnClear p n s
  | .canBusOff n => Sys2Proof.Machine.execCanBusOff n s
  | .canBoffRec p n value => Sys2Proof.Machine.execCanBoffRec p n value s
  | .canRecoveryDone n => Sys2Proof.Machine.execCanRecoveryDone n s
  | .read n tag idx sub => Sys2Proof.Machine.execRead n tag idx sub s
  | .write n tag idx sub bytes => Sys2Proof.Machine.execWrite n tag idx sub bytes s
  | .blockWriteInit n tag idx sub total => Sys2Proof.Machine.execBlockWriteInit n tag idx sub total s
  | .segment n tag seq flags bytes => Sys2Proof.Machine.execSegment n tag seq flags bytes s
  | .blockReadInit n tag idx sub => Sys2Proof.Machine.execBlockReadInit n tag idx sub s
  | .blockRequest n tag block => Sys2Proof.Machine.execBlockRequest n tag block s
  | .malformed n classical bytes => Sys2Proof.Machine.execMalformed n classical bytes s
  | .transferTimeout n => Sys2Proof.Machine.execTransferTimeout n s
  | .xbearTimeout => Sys2Proof.Machine.execXbearTimeout s
  | .heartbeat n => Sys2Proof.Machine.execHeartbeat n s
  | .peerHeartbeat n classical => Sys2Proof.Machine.execPeerHeartbeat n classical s
  | .peerHeartbeatTimeout n => Sys2Proof.Machine.execPeerHeartbeatTimeout n s
  | .reportPeriod r => Sys2Proof.Machine.execReportPeriod r s
  | .reportChangeSample r => Sys2Proof.Machine.execReportChangeSample r s
  | .rptModeWrite p r value => Sys2Proof.Machine.execRptModeWrite p r value s
  | .updateHeaderCheck p bytes => Sys2Proof.Machine.execUpdateHeaderCheck p bytes s
  | .bankWipeDone => Sys2Proof.Machine.execBankWipeDone s
  | .bankBlockWrite => Sys2Proof.Machine.execBankBlockWrite s
  | .updateVerify => Sys2Proof.Machine.execUpdateVerify s
  | .updActivate p => Sys2Proof.Machine.execUpdActivate p s
  | .updConfirm p => Sys2Proof.Machine.execUpdConfirm p s
  | .updAbandon p => Sys2Proof.Machine.execUpdAbandon p s
  | .activationPauseEnd => Sys2Proof.Machine.execActivationPauseEnd s
  | .activationTimeout e => Sys2Proof.Machine.execActivationTimeout e s
  | .trialEnd => Sys2Proof.Machine.execTrialEnd s
  | .lcAdvance p value => Sys2Proof.Machine.execLcAdvance p value s
  | .odDirStep p value => Sys2Proof.Machine.execOdDirStep p value s
  | .objectWrite p idx sub bytes => Sys2Proof.Machine.execObjectWrite p idx sub bytes s
  | .packLost => Sys2Proof.Machine.execPackLost s
  | .stageFaultRelease k => Sys2Proof.Machine.execStageFaultRelease k s
  | .tamperRelease => Sys2Proof.Machine.execTamperRelease s
  | .canErrorStateChange n tec rec => Sys2Proof.Machine.execCanErrorStateChange n tec rec s
  | .periodBoundary r m => Sys2Proof.Machine.execPeriodBoundary r m s
  | .objectDictionaryAnswering => Sys2Proof.Machine.execObjectDictionaryAnswering s
  | .homeChartWritten ok => Sys2Proof.Machine.execHomeChartWritten ok s
  | .serviceReverseTurnOff => Sys2Proof.Machine.execServiceReverseTurnOff s
  | .serviceDiodeConducts => Sys2Proof.Machine.execServiceDiodeConducts s

end Sys2Proof.Machine
end

