-- ==== Sys2Proof/Machine/Tick.lean ====
section
/-! DEFINITION. What one microsecond does when no command waits: the times the device counts, a frame leaving each CAN port,
the frames waiting at the link ends, the reads that waited too long for a link, a queued request. -/

namespace Sys2Proof.Machine

/-- One AON tick (R434, R441): the tick of the running Star Sight cycle, which `WD_CYCLE` bounds. DESIGN CHOICE, log entry 3. -/
def aonTick (s : State) : State :=
  if s.wd.running && !wdFrozen s then { s with wd := { s.wd with tick := min (s.wdCycle - 1) (s.wd.tick + 1) } } else s

/-- 32,768 AON ticks are a second (R18). DESIGN CHOICE, log entry 3. -/
def aonMicros (s : State) : State :=
  if 1000000 ≤ s.aonAcc + 32768 then aonTick { s with aonAcc := s.aonAcc + 32768 - 1000000 }
  else { s with aonAcc := s.aonAcc + 32768 }

/-- The oldest frame of a CAN port leaves (R528); where a disable runs its end is the boundary (R502). DESIGN CHOICE, log entry 3;
DEDUCED, log entry 80. -/
def canFrameOut (n : Fin 4) (s : State) : State :=
  if !canSends s n || s.can[n].txQueue.isEmpty then s
  else if s.can[n].disabling then canDisabled n s else canWireEnd n s

/-- The NAK that waits at an end arrives at the other (R34, R35). -/
def nakOut (k : Fin 7) (e : LinkEndSel) (s : State) : State :=
  (linkEnd s.links[k] e).waiting.foldl (fun a f => match f.payload with
    | .nak q => nakArrives k (otherEnd e) q a
    | _ => a) s

/-- An end at which nothing waits sends IDLE, whose ACKSEQ acknowledges what it has received (R34, R35). -/
def idleOut (k : Fin 7) (e : LinkEndSel) (s : State) : State :=
  if (linkEnd s.links[k] e).waiting.isEmpty then crossLink k (otherEnd e) ⟨0, 0, 0, .idle, 0⟩ s else s

/-- On a link that is UP the frames waiting at both ends leave in the order of R34, IDLE last. DESIGN CHOICE, log entry 3. -/
def linkOut (k : Fin 7) (s : State) : State :=
  if s.links[k].phase = .up then
    let s1 := nakOut k .atRail (nakOut k .atHelm s)
    idleOut k .atRail (idleOut k .atHelm (telemetryPump k (railPump k (helmPump k s1))))
  else s

/-- Reads that have waited for a link for t_LTRN are refused (R562). -/
def readsLate (k : Fin 7) (s : State) : State := if linkLate s k && !s.links[k].reads.isEmpty then readsAnswered k s else s

/-- A second of a trial passes (R540). -/
def trialSecond (due : Bool) (s : State) : State :=
  if due then { s with update := { s.update with trialLeft := s.update.trialLeft - 1 } } else s

/-- A microsecond passes for the engine watchdog (R446). -/
def enginesMicro (due : Bool) (s : State) : State :=
  if due then { s with ewd := { s.ewd with since := s.ewd.since.map (· + 1) } } else s

/-- What counts in a microsecond: the device clock, the slow clock, the seconds of a trial, the engine deadlines. -/
def tickClocks (s : State) : State :=
  enginesMicro (s.ewd.running && sysRuns s) (trialSecond (decide (s.devTime % 1000000 = 999999 ∧ s.update.phase = .trial))
    (aonMicros { s with devTime := s.devTime + 1 }))

/-- One microsecond with nothing commanded; with the power-on reset held no clock counts. DESIGN CHOICE, log entry 3. -/
def tick (s : State) : State :=
  if s.boot.phase = .porHeld then s else
    let s1 := (allFin 4).foldl (fun a n => canFrameOut n a) (tickClocks s)
    if sysRuns s then netServe ((allFin 7).foldl (fun a k => readsLate k (linkOut k a)) s1) else s1

end Sys2Proof.Machine
end

