-- ==== Sys2Proof/Machine/Step.lean ====
section
/-! DEFINITION. The step: the command at the front of the queue is carried out; with none waiting a microsecond passes. -/

namespace Sys2Proof.Machine

/-- One step. DESIGN CHOICE, log entries 3 and 5 and 75. -/
def step (s : State) : Host.Outcome State Fault Refusal :=
  match s.pending with
  | [] => .next (tick s)
  | c :: l => exec c { s with pending := l }

/-- The state with the command a word spells at the front of its queue; a word that spells none changes nothing.
DESIGN CHOICE, log entry 5. -/
def State.withFetchWord (s : State) (nbits w : Nat) : State :=
  match decodeTableWord nbits w with
  | some c => { s with pending := c :: s.pending }
  | none => s

end Sys2Proof.Machine
end

