-- ==== Sys2Proof/Safety.lean ====
section
/-! DEFINITION. What counts as a safe run, in the terms the statements use. -/

namespace Sys2Proof

open Machine

/-- A state whose Hamper memory stands in its canonical form. -/
def Canonical (s : State) : Prop := Memory.wf s.hamper.mem = true

/-- The Home Chart's lock word stands whole (R376). -/
def Locked (s : State) : Prop := s.mram.hc.lockLo = 0x4C4F434B ∧ s.mram.hc.lockHi = 0xB3B0BCB4

/-- What no command and no passing of time takes back: the part, the life-cycle fuses (R542), the lock (R376), the form of the
Hamper's memory. -/
def Onward (s t : State) : Prop :=
  t.part = s.part ∧ s.mram.lc ≤ t.mram.lc ∧ (Locked s → Locked t) ∧ (Canonical s → Canonical t)

end Sys2Proof
end

