-- ==== Sys2Proof/WellFormed.lean ====
section
/-! DEFINITION. Well-formed commands: operands that fit the fields they travel in (R32, R470, R507, R548), of dies, rails,
phases, items and engines that the part has (R1, R5). -/

namespace Sys2Proof

open Machine

/-- A value fits a field of `n` bits. -/
def fits (n v : Nat) : Bool := decide (v < 2 ^ n)

/-- What a part has (R1, R5). -/
def Machine.Part.hasDie (p : Part) (k : Fin 7) : Bool := decide (k.val < p.dies)
def Machine.Part.hasRail (p : Part) (r : Fin 28) : Bool := decide (r.val < 4 * p.dies)
def Machine.Part.hasPhase (p : Part) (ph : Fin 56) : Bool := decide (ph.val < 8 * p.dies)
def Machine.Part.hasItem (p : Part) (i : Fin 46) : Bool := decide (28 ≤ i.val) || decide (i.val < 4 * p.dies)
def Machine.Part.hasEngine (p : Part) (e : Fin 18) : Bool := decide (e.val < 4 + 2 * p.dies)

/-- A well-formed command of a part. -/
def Instr.wf (p : Part) : Instr → Bool
  | .lockstepMismatch _ | .sysClockCheck _ | .crystalStartTimeout | .canPllLockLoss | .canClockGood
  | .backgroundScrub _ | .packageFaultLineAssert | .strapSample _ _ _ | .vauxPowerOnReset | .powerOnResetRelease
  | .hamperSelfTestEnd _ _ | .objectDictionaryReady _ | .pwrStateReqRun _ | .pwrStateReqDoze _ | .pwrStateReqPark _
  | .dozeEntry | .sysStop | .wakeTimerExpire | .oldChartWakeLatch _ | .resetPinRecognised | .resetPinRise | .resetEnd
  | .zinWindowEnter _ | .zinWindowExit _ | .zbusWindowEnter | .zbusWindowExit | .insertionDelayExpire _ _
  | .retryTimerExpire _ _ | .inrushComplete _ | .limitEnter _ _ | .limitRelease _ | .limitTimerExpire _ | .fastTrip _ _
  | .absoluteTrip _ | .reverseDetected _ | .forwardDetected _ | .zinEnSet _ _ | .zinEnClear _ _
  | .normalOperationTimer _ | .coldStartQualify _ | .coldStartLimitTimeout _ | .coldStartBandExit _ | .foGateOff _
  | .presenceLost _ | .presenceDetected _ | .pfwThreshold | .pfwRelease | .gangAckTimeout _ | .phmDisable _ _
  | .hintPinEdge _ | .trimDisable _ _ | .stepAlarmDisable _ _ | .groupUpCmd _ _ | .groupDownCmd _ _
  | .groupInputQualified _ | .groupInputLost _ | .stepDelayEnd _ | .stepTimeout _ _ | .shutdownStepTimeout _
  | .minOffEnd _ | .regCurrentLimitFault _ | .buckOverVoltage _ | .regPgChange _ _ | .regPgLostTimeout _
  | .rstoConditionsEnd _ | .rstoStretchEnd _ | .rstoPulseEnd _ | .serviceQualified | .serviceWindowExit
  | .srcAnncTimeout _ | .sourceTypeChange | .chargerControlCycle _ | .lbusGoodRise | .lbusGoodFall | .chgEnSet _
  | .chgEnClear _ | .chargeStartConditions _ _ | .chgHbDelayEnd | .prechargeDone | .prechargeTimeout
  | .chargeTerminationSample _ _ _ | .chargeBackstop _ _ _ | .packRemoval _ | .chgFaultRead _ | .sourceLost _
  | .handOverMakeDone | .handOverBreakDone _ | .handBackStart _ | .handBackComplete | .gaugeEstimate _ _ _
  | .restQualified | .gaugeStart _ _ | .learnFullWaitLapse | .outingStartCmd _ | .outingEndCmd _ | .outingTimeout
  | .ggAlmTablesWrite _ _ | .writeBackTimer | .almanacWriteBackDone _ | .configCopyWritten _ | .hcImageWrite _ _
  | .journalAppend | .holdUpEntry _ | .holdUpSaveEnd _ | .hucapPowerOnReset _ | .tamper | .hkScanDisable _
  | .selfCalibrationDone _ _ | .backgroundCalibration _ _ _ | .refSettlingEnd | .thermalComparator
  | .throttleEvaluation | .throttleDisable _ | .wdWindowClose | .wdCycleEnd | .engineSuspensionEnd
  | .twReadAddress _ _ | .twWritePointer _ _ | .claim _ | .twErrRead _ | .tunCmdRead _ | .tunCmdWrite _ _
  | .tunnelDone _ | .twBusIdle _ | .twStartInTransfer _ | .twNotify _ | .twNotifyRepeat _ | .twNotifyNack _
  | .twArbitrationLost _ | .twControllerBusError _ | .twLineStuck _ _ | .twWedged _ | .eventSourceEdge _
  | .eventLevelChange _ _ | .canPortStart _ | .canEnClear _ _ | .canBusOff _ | .canRecoveryDone _
  | .transferTimeout _ | .xbearTimeout | .heartbeat _ | .peerHeartbeat _ _ | .peerHeartbeatTimeout _
  | .reportPeriod _ | .reportChangeSample _ | .updateHeaderCheck _ _ | .bankWipeDone | .bankBlockWrite
  | .updateVerify | .updActivate _ | .updConfirm _ | .updAbandon _ | .activationPauseEnd | .trialEnd | .packLost
  | .tamperRelease | .canErrorStateChange _ _ _ | .objectDictionaryAnswering | .homeChartWritten _
  | .serviceReverseTurnOff | .serviceDiodeConducts => true
  | .linkFrameBad k _ body crc => p.hasDie k && fits 64 body && fits 16 crc
  | .rsysClockCheck k _ | .linkAckTimeout k _ | .linkDown k | .linkRetrained k
  | .demandLaneFail _ k | .laneParityError _ k | .stageFault k | .vdrLow k | .vdrRestored k | .skHardwareTimeout k
  | .balanceAverageTimeout _ k | .gangChangeAck _ k | .followerEpochStrobe _ k _ | .followerReaddStrobe _ k _
  | .syncStrobeLoss _ k | .followerHoldEnd _ k | .stageFaultRelease k => p.hasDie k
  | .hamperAccess reqs _ => reqs.all fun q => fits 64 q.data
  | .linkNak k _ seq => p.hasDie k && fits 3 seq
  | .linkIdle k _ ack => p.hasDie k && fits 3 ack
  | .linkCommand k seq ack c => p.hasDie k && fits 3 seq && fits 3 ack && p.hasRail c.rail
  | .linkEvent k seq ack source cause => p.hasDie k && fits 3 seq && fits 3 ack && fits 3 source && fits 40 cause
  | .linkObjWrite k seq ack tag obj sub value => p.hasDie k && fits 3 seq && fits 3 ack && fits 6 tag && fits 8 obj && fits 8 sub && fits 32 value
  | .linkObjRead k seq ack tag obj sub => p.hasDie k && fits 3 seq && fits 3 ack && fits 6 tag && fits 8 obj && fits 8 sub
  | .linkObjData k seq ack tag obj sub value => p.hasDie k && fits 3 seq && fits 3 ack && fits 6 tag && fits 8 obj && fits 8 sub && fits 32 value
  | .linkTelemetry k seq ack offset data => p.hasDie k && fits 3 seq && fits 3 ack && fits 12 offset && fits 32 data
  | .disableBoundaryReached f => match f with | .rail r | .balance r | .busTrim r => p.hasRail r | _ => true
  | .wake sources => fits 14 sources
  | .resetCmd _ value | .fcReqWrite _ _ value | .cfgSave _ value | .hcLock _ value | .lcAdvance _ value => fits 32 value
  | .skReadoptionDeadline r | .balanceUpdate r | .slewTargetReached r | .transitionQualified r
  | .stepAlarmAssert r | .stepAlarmRelease r | .stepTmaxExpire r | .shedDwellExpire r | .addThreshold r _
  | .shedHoldoffExpire r | .forecastDeadline r
  | .forecastInhibitEnd r | .trimPeriod r | .trimFreeze r | .ovAbsTrip r _ | .ovTrackingTrip r _
  | .pgWindowChange r _ | .uvTimerExpire r | .ocTimerExpire r | .pgQualified r | .pgHoldEnd r
  | .enPinFall r | .enPinRise r => p.hasRail r
  | .zinClear _ _ value | .foClear _ _ value | .loopCommit _ _ value | .railFclr _ _ value | .rstoForce _ _ value
  | .srcAnncWrite _ _ value | .ggNewpack _ value | .hkCalCmd _ value | .hkRefSelWrite _ value | .wdEnable _ value
  | .logFclr _ value | .evcRouteWrite _ _ value | .evcGdisWrite _ value | .canBoffRec _ _ value
  | .rptModeWrite _ _ value | .odDirStep _ value => fits 8 value
  | .pfwSlopeSample code => fits 12 code
  | .gangChangeRequest _ change => match change with | .shed ph => p.hasPhase ph | _ => true
  | .railVsetWrite _ _ mv | .vsetWindowWrite _ _ mv => fits 16 mv
  | .fcWindowWrite _ _ value => fits 24 value
  | .valleyLimit ph _ => p.hasPhase ph
  | .itemQualified i | .itemPgFall i | .itemOff i | .itemRetryDelayEnd i | .itemNormalTimer i => p.hasItem i
  | .hkConversionEnd _ _ raw _ => fits 12 raw
  | .hkSlowRound raws _ => raws.all fun x => fits 12 x.2
  | .roSample die _ => decide (die.val ≤ p.dies)
  | .wdAnswer _ _ token tick => fits 16 token && fits 16 tick
  | .wdCheckin _ _ task => fits 8 task
  | .engineService e | .engineWatchdogExpire e | .activationTimeout e => p.hasEngine e
  | .logbookEntry _ die src detail => decide (die ≤ p.dies) && fits 16 src && fits 32 detail
  | .registerWrite _ offset bytes pec => fits 8 offset && fits 8 pec && decide (bytes.length ≤ 256)
  | .complete _ src => fits 8 src
  | .read _ tag idx sub | .blockReadInit _ tag idx sub => fits 8 tag && fits 16 idx && fits 8 sub
  | .write _ tag idx sub bytes => fits 8 tag && fits 16 idx && fits 8 sub && decide (bytes.length ≤ 56)
  | .blockWriteInit _ tag idx sub total => fits 8 tag && fits 16 idx && fits 8 sub && fits 32 total
  | .segment _ tag seq flags bytes => fits 8 tag && fits 8 seq && fits 8 flags && decide (bytes.length ≤ 60)
  | .blockRequest _ tag block => fits 8 tag && fits 16 block
  | .malformed _ _ bytes => decide (bytes.length ≤ 64)
  | .objectWrite _ idx sub _ => fits 16 idx && fits 8 sub
  | .periodBoundary r m | .rotationEpoch r m | .shedStart r m | .shedComplete r m | .readdEpoch r m =>
    p.hasRail r && m.all fun x => fits 16 x.vsense
  | .ocCondition r k _ => p.hasRail r && p.hasDie k

end Sys2Proof
end

