-- ==== Sys2Proof/Certificates/Slice0/Obligations.lean ====
section
/-! DEFINITION. The statements for the provers. -/

open Sys2Proof Sys2Proof.Machine

/-- Clock monitors: lockstep, SYS, RSYS, crystal and CAN PLL. (R14, R22, R23, R24, R40, R46, R453, R454) -/
def Obligations.ClockMonitors : Prop :=
  ∀ s : State, sysRuns s = true →
    (∀ word, s.boot.phase = .ready → ∃ t, exec (.lockstepMismatch word) s = .next t ∧
      t.boot.phase = .inReset ∧ t.boot.curCause = 8 ∧ t.boot.curSub = 0x0101 ∧ t.boot.curMask = 2 ^ 8 ∧ t.safeN = true ∧
      t.part = s.part ∧ t.settings = s.settings ∧ t.clk = s.clk ∧ t.hamper = s.hamper ∧ t.roles = s.roles) ∧
    (∀ kHz, s.boot.phase = .ready → (kHz < 94000 ∨ 106000 < kHz) → ∃ t, exec (.sysClockCheck kHz) s = .next t ∧
      t.boot.phase = .inReset ∧ t.boot.curCause = 8 ∧ t.boot.curSub = 0x0102 ∧ t.safeN = true ∧
      t.clk = { s.clk with failCnt := satAdd max16 s.clk.failCnt 1 } ∧ t.settings = s.settings ∧ t.hamper = s.hamper) ∧
    (∀ kHz, 94000 ≤ kHz → kHz ≤ 106000 → exec (.sysClockCheck kHz) s = .next s) ∧
    (∀ k kHz, diePresent s k = false → exec (.rsysClockCheck k kHz) s = .fault .absentInPart) ∧
    (∀ k kHz, diePresent s k = true → 97000 ≤ kHz → kHz ≤ 103000 →
      exec (.rsysClockCheck k kHz) s = .next { s with dies := vmod s.dies k fun d => { d with rsysBad := false } }) ∧
    (∀ k kHz, diePresent s k = true → (kHz < 97000 ∨ 103000 < kHz) → s.dies[k].rsysBad = false → s.logAReset = false →
      ∃ t, exec (.rsysClockCheck k kHz) s = .next t ∧ t.dies[k].rsysBad = true ∧ t.faultLine = true ∧ t.safeN = true ∧
        t.clk = { s.clk with failCnt := satAdd max16 s.clk.failCnt 1 } ∧ t.log.aDies = setBit s.log.aDies (k + 1) ∧
        t.boot = s.boot ∧ t.mram = s.mram ∧ t.settings = s.settings ∧ t.hamper = s.hamper) ∧
    (∃ t, exec .crystalStartTimeout s = .next t ∧
      t.clk = { s.clk with xtalOk := false, canLock := false, failCnt := satAdd max16 s.clk.failCnt 1 } ∧
      (∀ n : Fin 4, t.can[n].phase.stopped = true) ∧ t = { s with nv := t.nv, clk := t.clk, log := t.log, evc := t.evc, tw := t.tw, can := t.can, update := t.update }) ∧
    (∃ t, exec .canPllLockLoss s = .next t ∧
      t.clk = { s.clk with xtalOk := false, canLock := false, failCnt := satAdd max16 s.clk.failCnt 1 } ∧
      (∀ n : Fin 4, t.can[n].phase.stopped = true) ∧ t = { s with nv := t.nv, clk := t.clk, log := t.log, evc := t.evc, tw := t.tw, can := t.can, update := t.update }) ∧
    (∃ t, exec .canClockGood s = .next t ∧ t.clk = { s.clk with xtalOk := true, canLock := true } ∧
      (∀ n : Fin 4, s.canEn n = true → poweredOutputs s = true → (s.pwr.state = .run ∨ s.pwr.state = .doze) →
        s.can[n].phase.stopped = true → s.can[n].disabling = false → t.can[n].phase = .starting) ∧ t = { s with clk := t.clk, can := t.can })

/-- Hamper: one wheel cycle, access rights, the capture of a blocked access, and the scrub. (R26, R27, R28, R30, R31, R456) Which word an
offset falls in and its byte order (log 38) and the saturation of HAMPER_SCRUB_PASS (log 39) are the model's choice. -/
def Obligations.HamperCycle : Prop :=
  ∀ s : State,
    (∀ reqs ecc, sysRuns s = false → s.boot.phase ≠ .holdUp → exec (.hamperAccess reqs ecc) s = .next s) ∧
    (sysRuns s = true →
      (∀ reqs ecc, granted s reqs = none →
        exec (.hamperAccess reqs ecc) s = .next { s with hamper := { s.hamper with wheelSlot := wheelNext s.hamper.wheelSlot } }) ∧
      (∀ reqs ecc q, granted s reqs = some q →
        ∃ t, exec (.hamperAccess reqs ecc) s = .next t ∧ t = { s with nv := t.nv, hamper := t.hamper, log := t.log, fab := t.fab, evc := t.evc, tw := t.tw, freeCtr := t.freeCtr } ∧
          t.hamper.wheelSlot = wheelNext s.hamper.wheelSlot ∧ t.hamper.lastGrant = some q ∧
          (accessAllowed s q = true → q.write = true → Canonical s →
            Memory.getBytes t.hamper.mem (wordBase q.offset) 8 = leBytes 8 q.data ∧
            ∀ a, a < wordBase q.offset ∨ wordBase q.offset + 8 ≤ a → Memory.get t.hamper.mem a = Memory.get s.hamper.mem a) ∧
          (accessAllowed s q = true → q.write = false → t.hamper.mem = s.hamper.mem ∧
            (ecc = .clean → (s.nv.keyLoaded = false ∨ 0x4000 ≤ q.offset) →
              t.hamper.lastData = leNat (Memory.getBytes s.hamper.mem (wordBase q.offset) 8) ∧ t.fab = s.fab ∧ t.log = s.log)) ∧
          (accessAllowed s q = false → t.hamper.mem = s.hamper.mem ∧ t.hamper.lastBlocked = true ∧
            (s.fab.valid = false → t.fab.valid = true ∧ t.fab.addr = q.offset ∧ t.fab.master = masterCode q.master) ∧
            (s.fab.valid = true → t.fab = { s.fab with cnt := satAdd max32 s.fab.cnt 1 }))) ∧
      exec (.backgroundScrub .clean) s = .next { s with hamper := { s.hamper with
        correctPend := [], scrubPtr := (s.hamper.scrubPtr + 1) % 65536,
        scrubPass := if s.hamper.scrubPtr + 1 = 65536 then satAdd max32 s.hamper.scrubPass 1 else s.hamper.scrubPass } } ∧
      (∃ t, exec (.backgroundScrub .double) s = .next t ∧ t = { s with nv := t.nv, hamper := t.hamper, log := t.log, fab := t.fab, evc := t.evc, tw := t.tw } ∧
        t.hamper.dedCnt = satAdd max16 s.hamper.dedCnt 1 ∧ t.hamper.mem = s.hamper.mem ∧
        (s.fab.valid = false → t.fab.addr = 8 * s.hamper.scrubPtr ∧ t.fab.master = 0x0D)))

/-- Links: what a good or bad frame does at the end that receives it. (R27, R32, R33, R34, R35) The byte order of telemetry (log 38) and what
becomes of a frame with an unexpected SEQ, of frames that wait and of words under one TAG (log 40) are the model's choice. -/
def Obligations.LinkReceive : Prop :=
  ∀ (s : State) (k : Fin 7),
    (diePresent s k = false → ∀ e body crc seq ack tag obj sub v,
      exec (.linkFrameBad k e body crc) s = .fault .absentInPart ∧ exec (.linkIdle k e ack) s = .fault .absentInPart ∧
      exec (.linkObjWrite k seq ack tag obj sub v) s = .fault .absentInPart ∧ exec (.linkTelemetry k seq ack obj v) s = .fault .absentInPart) ∧
    (diePresent s k = true → sysRuns s = true → s.links[k].phase = .up →
      (∀ e body crc, (crc % 65536 ≠ crc16 0xFFFF (beBytes 8 (body % 2 ^ 64)) ∨ 8 ≤ body / 2 ^ 60 % 16) →
        ∃ t, exec (.linkFrameBad k e body crc) s = .next t ∧ t = { s with links := t.links } ∧ (∀ j : Fin 7, j ≠ k → t.links[j] = s.links[j]) ∧
        (∃ f ∈ (linkEnd t.links[k] e).waiting, f.payload = .nak (linkEnd s.links[k] e).expected) ∧
        (linkEnd t.links[k] e).unacked = (linkEnd s.links[k] e).unacked ∧
        (endClear s.links[k] (otherEnd e) = true → 2 ≤ body / 2 ^ 60 % 16 →
          ∃ f ∈ (linkEnd t.links[k] (otherEnd e)).unacked, f.seq = (linkEnd s.links[k] (otherEnd e)).nextSeq)) ∧
      (∀ e body crc, crc % 65536 = crc16 0xFFFF (beBytes 8 (body % 2 ^ 64)) → body / 2 ^ 60 % 16 < 8 →
        exec (.linkFrameBad k e body crc) s = .next s) ∧
      (∀ e ack, ∃ t, exec (.linkIdle k e ack) s = .next t ∧ t = { s with links := t.links } ∧ (∀ j : Fin 7, j ≠ k → t.links[j] = s.links[j]) ∧
        (linkEnd t.links[k] e).waiting = (linkEnd s.links[k] e).waiting ∧
        (linkEnd t.links[k] e).expected = (linkEnd s.links[k] e).expected ∧
        (linkEnd t.links[k] e).unacked.length ≤ (linkEnd s.links[k] e).unacked.length) ∧
      (∀ seq ack tag obj sub v, s.links[k].rail.expected = seq % 8 → s.links[k].helm.waiting = [] →
        ∃ t, exec (.linkObjWrite k seq ack tag obj sub v) s = .next t ∧ t = { s with links := t.links } ∧ (∀ j : Fin 7, j ≠ k → t.links[j] = s.links[j]) ∧
          t.links[k].rail.expected = (seq + 1) % 8 ∧
          (s.links[k].lastWr ≠ some (tag % 64, obj % 256 * 256 + sub % 256) →
            objWords t k (obj % 256 * 256 + sub % 256) = [v % 2 ^ 32]) ∧
          (s.links[k].lastWr = some (tag % 64, obj % 256 * 256 + sub % 256) →
            (∃ x ∈ s.links[k].objs, x.1 = obj % 256 * 256 + sub % 256) →
            objWords t k (obj % 256 * 256 + sub % 256) = objWords s k (obj % 256 * 256 + sub % 256) ++ [v % 2 ^ 32])) ∧
      (∀ seq ack tag obj sub v, s.links[k].rail.expected = seq % 8 → endClear s.links[k] .atHelm = true → nakWaits s.links[k].helm = true →
        ∃ t, exec (.linkObjWrite k seq ack tag obj sub v) s = .next t ∧ t = { s with links := t.links } ∧ t.links[k].objs = s.links[k].objs ∧
          t.links[k].rail.expected = s.links[k].rail.expected ∧ ⟨0, 0, tag % 64, .objWrite obj sub v, 0⟩ ∈ t.links[k].helm.waiting) ∧
      (∀ seq ack tag obj sub v, s.links[k].rail.expected ≠ seq % 8 →
        ∃ t, exec (.linkObjWrite k seq ack tag obj sub v) s = .next t ∧ t = { s with links := t.links } ∧ t.links[k].objs = s.links[k].objs ∧
          t.links[k].rail.expected = s.links[k].rail.expected) ∧
      (∀ seq ack tag obj sub, s.links[k].rail.expected = seq % 8 → s.links[k].helm.waiting = [] →
        ∃ t, exec (.linkObjRead k seq ack tag obj sub) s = .next t ∧ t = { s with links := t.links, evc := t.evc, tw := t.tw, freeCtr := t.freeCtr } ∧
          t.links[k].objs = s.links[k].objs ∧ t.links[k].rail.expected = (seq + 1) % 8 ∧
          (endFree s.links[k] .atRail = true → t.evc = s.evc ∧ t.tw = s.tw ∧
            t.links[k].data = (objWords s k (obj % 256 * 256 + sub % 256)).foldl
              (fun d w => addData (tag % 64) (w % 2 ^ 32) d) s.links[k].data)) ∧
      (∀ seq ack tag obj sub v, s.links[k].helm.expected = seq % 8 → s.links[k].rail.waiting = [] →
        ∃ t, exec (.linkObjData k seq ack tag obj sub v) s = .next t ∧ t = { s with links := t.links } ∧
          t.links[k].data = addData (tag % 64) (v % 2 ^ 32) s.links[k].data ∧ t.links[k].helm.expected = (seq + 1) % 8) ∧
      (∀ seq ack ofs v, s.links[k].helm.expected = seq % 8 → s.links[k].rail.waiting = [] → Canonical s →
        ∃ t, exec (.linkTelemetry k seq ack ofs v) s = .next t ∧ t = { s with links := t.links, hamper := t.hamper } ∧ t.links[k].helm.expected = (seq + 1) % 8 ∧
          Memory.getBytes t.hamper.mem (0x2C000 + k * 0x4000 + 4 * (ofs % 4096)) 4 = leBytes 4 v ∧
          ∀ a, a < 0x2C000 + k * 0x4000 + 4 * (ofs % 4096) ∨ 0x2C000 + k * 0x4000 + 4 * (ofs % 4096) + 4 ≤ a →
            Memory.get t.hamper.mem a = Memory.get s.hamper.mem a) ∧
      (∀ seq ack ofs v, s.links[k].helm.expected = seq % 8 → endClear s.links[k] .atRail = true → nakWaits s.links[k].rail = true →
        ∃ t, exec (.linkTelemetry k seq ack ofs v) s = .next t ∧ t = { s with links := t.links } ∧ ⟨0, 0, 0, .telemetry ofs v, 0⟩ ∈ t.links[k].rail.waiting) ∧
      (∀ seq ack ofs v, s.links[k].helm.expected ≠ seq % 8 → s.links[k].rail.waiting = [] →
        ∃ t, exec (.linkTelemetry k seq ack ofs v) s = .next t ∧ t = { s with links := t.links }))

/-- Links: commands and events over the link, resending, going DOWN and coming UP again. (R32, R34, R35, R36, R37, R46, R199, R485) What
becomes of a frame with an unexpected SEQ and of frames that wait (log 40) is the model's choice. -/
def Obligations.LinkRecovery : Prop :=
  ∀ (s : State) (k : Fin 7), diePresent s k = true → sysRuns s = true →
    (s.links[k].phase = .up →
      (∀ seq ack c, s.links[k].rail.expected = seq % 8 → helmFree s k = true →
        ∃ u, exec (.linkCommand k seq ack c) s = .next (seqSettle (if railDie c.rail = k then applyRailCmd c u else u)) ∧
          u = { s with links := u.links } ∧ u.links[k].rail.expected = (seq + 1) % 8 ∧ u.links[k].phase = .up) ∧
      (∀ seq ack c, s.links[k].rail.expected = seq % 8 → endClear s.links[k] .atHelm = false →
        ∃ u, exec (.linkCommand k seq ack c) s = .next (seqSettle (helmPump k (if railDie c.rail = k then applyRailCmd c u else u))) ∧
          u = { s with links := u.links } ∧ u.links[k].rail.expected = (seq + 1) % 8 ∧ u.links[k].phase = .up) ∧
      (∀ seq ack c, s.links[k].rail.expected ≠ seq % 8 →
        ∃ u, exec (.linkCommand k seq ack c) s = .next (seqSettle u) ∧ u = { s with links := u.links } ∧
          u.links[k].rail.expected = s.links[k].rail.expected) ∧
      (∀ seq ack source cause, s.links[k].helm.expected = seq % 8 → railFree s k = true →
        ∃ u, exec (.linkEvent k seq ack source cause) s = .next (if 8 ≤ source then u
            else if source = 6 then eventLevel (70 + 8 * k) (decide (0 < thrStep s (k + 1))) u
            else eventEdge (64 + 8 * k + source) u) ∧
          u = { s with links := u.links } ∧ u.links[k].helm.expected = (seq + 1) % 8) ∧
      (∀ seq ack source cause, s.links[k].helm.expected = seq % 8 → endClear s.links[k] .atRail = false →
        ∃ u, exec (.linkEvent k seq ack source cause) s = .next (railPump k (eventIn k source u)) ∧
          u = { s with links := u.links } ∧ u.links[k].helm.expected = (seq + 1) % 8) ∧
      (∀ e seq, (linkEnd s.links[k] (otherEnd e)).waiting = [] → (∀ f ∈ (linkEnd s.links[k] e).unacked, f.seq ≠ seq % 8) → exec (.linkNak k e seq) s = .next s) ∧
      (∀ e f l, (linkEnd s.links[k] e).unacked = f :: l → f.seq < 8 → f.failed = 0 →
        (linkEnd s.links[k] (otherEnd e)).waiting = [] →
        ∃ t, exec (.linkNak k e f.seq) s = .next t ∧ t = { s with links := t.links } ∧ t.links[k].phase = .up ∧
          t.links[k].retryCnt = satAdd max32 s.links[k].retryCnt (l.length + 1) ∧
          (linkEnd t.links[k] e).unacked = { f with failed := 1 } :: l) ∧
      (∀ e f l q, (linkEnd s.links[k] e).unacked = f :: l → f.seq < 8 → f.failed = 0 →
        (linkEnd s.links[k] (otherEnd e)).waiting = [⟨0, 0, 0, .nak q, 0⟩] →
        ∃ t, exec (.linkNak k e f.seq) s = .next t ∧ t = { s with links := t.links } ∧ t.links[k].phase = .up ∧
          t.links[k].retryCnt = satAdd max32 s.links[k].retryCnt (l.length + 1) ∧
          (linkEnd t.links[k] (otherEnd e)).waiting = [] ∧ (linkEnd t.links[k] e).unacked = { f with failed := 1 } :: l) ∧
      (∀ e, (linkEnd s.links[k] e).unacked = [] → exec (.linkAckTimeout k e) s = .next s) ∧
      (∀ e f l, (linkEnd s.links[k] e).unacked = f :: l → f.failed = 0 →
        ∃ t, exec (.linkAckTimeout k e) s = .next t ∧ t = { s with links := t.links } ∧ t.links[k].phase = .up ∧
          t.links[k].retryCnt = satAdd max32 s.links[k].retryCnt (l.length + 1)) ∧
      (∃ t, exec (.linkDown k) s = .next t ∧ t.links[k].phase = .training ∧
        t.links[k].retryCnt = satAdd max32 s.links[k].retryCnt 0x10000 ∧ t.part = s.part ∧ t.settings = s.settings ∧
        t.hamper = s.hamper ∧ t.clk = s.clk ∧ t.roles = s.roles)) ∧
    (s.links[k].phase ≠ .up → ∃ t, exec (.linkRetrained k) s = .next t ∧ t.links[k].phase = .up ∧ t.links[k].retrained = true ∧
      t.part = s.part ∧ t.hamper = s.hamper ∧ t.clk = s.clk ∧ t.roles = s.roles)

/-- Lane failures, the package fault line, stage faults, VDR and the boundaries of disables. (R5, R40, R43, R45, R57, R181, R186, R254, R290,
R453, R455, R543) That protection does not act in a hold-up save (log 34) is the model's reading. -/
def Obligations.GroupLanesAndPins : Prop :=
  ∀ s : State,
    (∀ g k, diePresent s k = false → exec (.demandLaneFail g k) s = .fault .absentInPart ∧
      exec (.laneParityError g k) s = .fault .absentInPart ∧ exec (.stageFault k) s = .fault .absentInPart ∧
      exec (.stageFaultRelease k) s = .fault .absentInPart ∧ exec (.vdrLow k) s = .fault .absentInPart ∧
      exec (.vdrRestored k) s = .fault .absentInPart) ∧
    (∀ g k, diePresent s k = true → gangStands s g = true → (gangDies s g).contains k = true → s.dies[k].holding = false →
      s.dies[k].held = false → ∃ t, exec (.demandLaneFail g k) s = .next t ∧ t.dies[k].holding = true ∧ t.dies[k].holdWhy = 1 ∧
        t.gangs[g].holdCnt = satAdd max16 s.gangs[g].holdCnt 1 ∧ (∀ j : Fin 7, j ≠ k → t.dies[j] = s.dies[j]) ∧
        t = { s with links := t.links, gangs := t.gangs, dies := t.dies, evc := t.evc, tw := t.tw }) ∧
    (∀ g k, diePresent s k = true → (s.dies[k].holding = true ∨ s.dies[k].held = true) → exec (.demandLaneFail g k) s = .next s) ∧
    (∀ g k, diePresent s k = true → gangStands s g = true → (gangDies s g).contains k = true →
      ∃ t, exec (.laneParityError g k) s = .next t ∧ t.gangs[g].parCnt = satAdd max32 s.gangs[g].parCnt 1 ∧
        t.dies[k] = { s.dies[k] with laneBad := true } ∧
        (∀ j : Fin 4, j ≠ g → t.gangs[j] = s.gangs[j]) ∧ (∀ j : Fin 7, j ≠ k → t.dies[j] = s.dies[j]) ∧ t = { s with links := t.links, gangs := t.gangs, dies := t.dies, evc := t.evc, tw := t.tw }) ∧
    (sysRuns s = true → s.update.pause = true → ∃ t, exec .packageFaultLineAssert s = .next t ∧ t.faultLine = true ∧ t.safeN = true ∧
      t.chg.current = 0 ∧ t.update = { s.update with heldA := s.update.heldA ++ [none] } ∧
      t = { s with links := t.links, fo := t.fo, rails := t.rails, regs := t.regs, chg := t.chg, faultLine := t.faultLine, safeN := t.safeN, evc := t.evc, tw := t.tw, update := t.update }) ∧
    (sysRuns s = true → s.update.pause = false → ∃ u, exec .packageFaultLineAssert s = .next (safeShutdowns (safeItems s) u) ∧
      u.faultLine = true ∧ u.safeN = true ∧ u.chg.current = 0 ∧
      u = { s with
        links := u.links, fo := u.fo, rails := u.rails, regs := u.regs, chg := u.chg, faultLine := u.faultLine
        safeN := u.safeN, evc := u.evc, tw := u.tw }) ∧
    (sysRuns s = true → s.update.pause = false → (∀ g : Fin 8, s.groups[g].phase = .off ∨ s.groups[g].phase = .faulted) →
      ∃ t, exec .packageFaultLineAssert s = .next t ∧ t.faultLine = true ∧ t.safeN = true ∧
      t.chg.current = 0 ∧ t = { s with links := t.links, fo := t.fo, rails := t.rails, regs := t.regs, chg := t.chg, faultLine := t.faultLine, safeN := t.safeN, evc := t.evc, tw := t.tw }) ∧
    (sysRuns s = false → exec .packageFaultLineAssert s = .next s) ∧
    (∀ k, diePresent s k = true → (s.pwr.state ≠ .run ∨ s.boot.phase = .holdUp) →
      exec (.stageFault k) s = .next { s with dies := vmod s.dies k fun d => { d with stf := true } }) ∧
    (∀ k, diePresent s k = true → s.pwr.state = .run → s.boot.phase ≠ .holdUp → s.dies[k].stf = false → s.logAReset = false →
      ∃ t, exec (.stageFault k) s = .next t ∧ t.dies[k].stf = true ∧ t.faultLine = true ∧ t.safeN = true ∧ t.settings = s.settings ∧
        ((∀ r : Fin 28, s.rails[r].stationKept = false) → s.sk.left = [] →
          t.log.aDies = setBit s.log.aDies (k + 1) ∧ t.boot = s.boot ∧ t.mram = s.mram)) ∧
    (∀ k, diePresent s k = true → exec (.stageFaultRelease k) s = .next { s with dies := vmod s.dies k fun d => { d with stf := false } }) ∧
    (∀ k, diePresent s k = true → s.dies[k].vdrOk = true → ∃ t, exec (.vdrLow k) s = .next t ∧ t.dies[k].vdrOk = false ∧
      t.part = s.part ∧ t.settings = s.settings ∧ t.hamper = s.hamper ∧ t.clk = s.clk) ∧
    (∀ k, diePresent s k = true → s.dies[k].vdrOk = false → ∃ t, exec (.vdrRestored k) s = .next t ∧ t.dies[k].vdrOk = true ∧
      t.part = s.part ∧ t.hamper = s.hamper ∧ t.clk = s.clk ∧
      ((∀ r : Fin 28, s.items[railItem r].retryDue = false) →
        (∀ j : Fin 7, j ≠ k → t.dies[j] = s.dies[j]) ∧ t = { s with links := t.links, rails := t.rails, dies := t.dies, evc := t.evc, tw := t.tw })) ∧
    (∀ r, exec (.disableBoundaryReached (.report r)) s =
      .next { s with reports := vmod s.reports r fun x => { x with disabling := false } }) ∧
    (s.hk.disabling = false → exec (.disableBoundaryReached .hkScan) s = .next s) ∧
    (s.hk.disabling = true → ∃ t, exec (.disableBoundaryReached .hkScan) s = .next t ∧ t.hk.disabling = false ∧ t = { s with hk := t.hk }) ∧
    (∀ r, railPresent s r = false → exec (.disableBoundaryReached (.busTrim r)) s = .fault .absentInPart) ∧
    (∀ r, railPresent s r = true → (s.rails[r].fc.trimDisabling = false ∨ s.rails[r].prot.ovLatch = true) →
      exec (.disableBoundaryReached (.busTrim r)) s = .next s) ∧
    (∀ r, railPresent s r = true → s.rails[r].fc.trimDisabling = true → s.rails[r].prot.ovLatch = false →
      ∃ t, exec (.disableBoundaryReached (.busTrim r)) s = .next t ∧ t.rails[r].fc.trimDisabling = false ∧
        (∀ j : Fin 28, j ≠ r → t.rails[j] = s.rails[j]) ∧ t = { s with rails := t.rails }) ∧
    (∀ n : Fin 8, s.fo[n].phase = .disabling → s.fo[n].onHeld = false → ∃ t, exec (.disableBoundaryReached (.fusedOut n)) s = .next t ∧
      t.fo[n].phase = .off ∧ (∀ j : Fin 8, j ≠ n → t.fo[j] = s.fo[j]) ∧ t = { s with fo := t.fo, evc := t.evc, tw := t.tw }) ∧
    (∀ n : Fin 4, s.zin[n].phase = .disabling → s.zin[n].enHeld = false → ∃ t, exec (.disableBoundaryReached (.zoneIn n)) s = .next t ∧
      t.zin[n].phase = .off ∧ (∀ j : Fin 4, j ≠ n → t.zin[j] = s.zin[j]) ∧ t = { s with zin := t.zin, evc := t.evc, tw := t.tw }) ∧
    (s.chg.phase = .disabling → s.chg.enHeld = false → ∃ t, exec (.disableBoundaryReached .charger) s = .next t ∧
      t.chg.phase = .off ∧ t.chg.current = 0 ∧ t = { s with chg := t.chg, evc := t.evc, tw := t.tw }) ∧
    (∀ n : Fin 4, s.can[n].disabling = true → s.can[n].enHeld = false → ∃ t, exec (.disableBoundaryReached (.canPort n)) s = .next t ∧
      t.can[n].disabling = false ∧ t.can[n].phase = .disabled ∧ t = { s with evc := t.evc, tw := t.tw, can := t.can, update := t.update, freeCtr := t.freeCtr }) ∧
    (∀ r, railPresent s r = true → (∀ ph ∈ railPhases s r, s.phases[ph].trim = 0) → exec (.disableBoundaryReached (.balance r)) s =
      .next { s with rails := vmod s.rails r fun x => { x with loop := { x.loop with balDisabling := false } } }) ∧
    (∀ r, railPresent s r = true → (∃ ph ∈ railPhases s r, s.phases[ph].trim ≠ 0) → exec (.disableBoundaryReached (.balance r)) s = .next s) ∧
    (∀ r, railPresent s r = true → s.rails[r].disabling = false → exec (.disableBoundaryReached (.rail r)) s = .next s) ∧
    (∀ r, railPresent s r = true → s.rails[r].disabling = true → s.rails[r].enabled = true → s.rails[r].enHeld = false →
      exec (.disableBoundaryReached (.rail r)) s = .next (seqSettle (railOffDone r s)) ∧
      (railOffDone r s).rails[r].enabled = false ∧ (railOffDone r s).rails[r].disabling = false) ∧
    (∀ g, s.groups[g].disabling = false → exec (.disableBoundaryReached (.group g)) s = .next s)

/-- The boot: power-on reset, straps, Hamper self-test, object dictionary ready. (R60, R64, R76, R84, R95, R98, R112, R393, R394, R395, R532,
R477) The torn record (log 85), the Hamper after each attempt (log 78), what counts as a bank (log 68), the order of step 6 (log 21) and
the flaws of MRAM words (log 36) are the model's readings. -/
def Obligations.BootSteps : Prop :=
  ∀ s : State,
    (s.boot.phase = .holdUp → exec .vauxPowerOnReset s = .next s) ∧
    (s.boot.phase ≠ .holdUp → ∃ t, exec .vauxPowerOnReset s = .next t ∧ t.boot.phase = .porHeld ∧ t.pwr.state = .off ∧
      t.hamper.mem = [] ∧ t.settings = [] ∧ (s.log.ring = [] → t.mram = s.mram) ∧
      t.mram = { s.mram with journal := t.mram.journal, jnlTornRec := t.mram.jnlTornRec } ∧ t.part = s.part ∧ t.pending = s.pending ∧
      ∀ r : Fin 28, t.rails[r].enabled = false ∧ t.rails[r].enPin = s.rails[r].enPin) ∧
    (s.boot.phase ≠ .porHeld → exec .powerOnResetRelease s = .next s) ∧
    (s.boot.phase = .porHeld → s.boot.resetNInSave = false → ∃ t, exec .powerOnResetRelease s = .next t ∧
      t.boot.phase = .strapWait ∧ t.pwr.state = .run ∧ t.clk.aonOk = true ∧ t.devTime = 0 ∧ t.mram = s.mram ∧ t.hamper = s.hamper) ∧
    (s.boot.phase = .porHeld → s.boot.resetNInSave = true → ∃ t, exec .powerOnResetRelease s = .next t ∧
      t.boot.phase = .inReset ∧ t.boot.curCause = 3 ∧ t.hamper = s.hamper) ∧
    (∀ a b d, s.boot.phase ≠ .strapWait → exec (.strapSample a b d) s = .next s) ∧
    (∀ a b d, s.boot.phase = .strapWait → ∃ t, exec (.strapSample a b d) s = .next t ∧ t.boot.phase = .selfTest ∧
      t.boot.attempts = 0 ∧ t.clk.sysLock = true ∧
      (∀ i, i < 3 → t.straps.twa.testBit i = majority (a.toNat.testBit i) (b.toNat.testBit i) (d.toNat.testBit i)) ∧
      t.straps.oldChart = majority (a.toNat.testBit 3) (b.toNat.testBit 3) (d.toNat.testBit 3) ∧
      t.straps.testEn = majority (a.toNat.testBit 4) (b.toNat.testBit 4) (d.toNat.testBit 4) ∧
      t = { s with nv := t.nv, clk := t.clk, straps := t.straps, boot := t.boot, log := t.log, evc := t.evc, tw := t.tw }) ∧
    (∀ w f, s.boot.phase ≠ .selfTest → exec (.hamperSelfTestEnd w f) s = .next s) ∧
    (∀ w f, s.boot.phase = .selfTest → f % 256 ≠ 0 → s.boot.attempts = 0 → ∃ t, exec (.hamperSelfTestEnd w f) s = .next t ∧
      t.boot = { s.boot with attempts := 1 } ∧ t.hamper.mem = [] ∧ t.nv.keyLoaded = false ∧ t = { s with nv := t.nv, boot := t.boot, hamper := t.hamper, log := t.log, evc := t.evc, tw := t.tw, update := t.update }) ∧
    (∀ w f, s.boot.phase = .selfTest → f % 256 ≠ 0 → s.boot.attempts ≠ 0 → ∃ t, exec (.hamperSelfTestEnd w f) s = .next t ∧
      t.boot.phase = .halted ∧ t.safeN = true ∧ t.settings = s.settings ∧ t.hamper.mem = [] ∧ t.nv.keyLoaded = false ∧
      ∀ n : Fin 8, t.fo[n].commanded = false) ∧
    (∀ w f (k : Fin 2), s.boot.phase = .selfTest → f % 256 = 0 → bankState s.mram.banks[k] = .active → s.mram.errs = [] →
      ∃ t, exec (.hamperSelfTestEnd w f) s = .next t ∧ t.boot.phase = .starting ∧ t.hamper.mem = [] ∧
        t.nv.keyLoaded = !s.nv.tamperLow ∧ t.log.ready = true ∧ t.part = s.part ∧ t.mram.cfg = s.mram.cfg ∧ t.mram.hc = s.mram.hc) ∧
    (∀ w f, s.boot.phase = .selfTest → f % 256 = 0 → s.mram.errs = [] →
      (∀ k : Fin 2, bankState s.mram.banks[k] ≠ .active ∧ bankState s.mram.banks[k] ≠ .previous) →
      ∃ t, exec (.hamperSelfTestEnd w f) s = .next t ∧ t.boot.phase = .halted ∧ t.safeN = true ∧ t.hamper.mem = [] ∧
        ∀ k : Fin 2, bankState t.mram.banks[k] ≠ .trial ∨ (∃ j : Fin 2, j ≠ k ∧ bankState s.mram.banks[j] = .trial)) ∧
    (∀ u, s.boot.phase ≠ .starting → exec (.objectDictionaryReady u) s = .next s) ∧
    (∀ u, s.boot.phase = .starting → ∃ t, exec (.objectDictionaryReady u) s = .next t ∧ t.boot.bootTime = min max16 u ∧
      t.part = s.part ∧ t.hamper = s.hamper ∧ t.straps = s.straps ∧ t.clk = s.clk) ∧
    (∀ u, s.boot.phase = .starting → s.therm.latch = true → (∀ k : Fin 7, s.links[k].phase = .up ∧ s.dies[k].stf = false) →
      ∃ t, exec (.objectDictionaryReady u) s = .next t ∧
      t.boot.phase = .ready ∧ t.boot.odAnswering = true ∧ t.boot.thermalHold = true ∧ t.boot.step8 = s.boot.step8 ∧
      t.boot.bootTime = min max16 u ∧ t.settings = s.settings ∧ t.groups = s.groups) ∧
    (∀ u, s.boot.phase = .starting → s.therm.latch = false → s.sk.left = [] →
      (∀ k : Fin 7, s.links[k].phase = .up ∧ s.dies[k].stf = false ∧ s.dies[k].vdrOk = true) → (∀ r : Fin 28, s.rails[r].prot.vdrDue = false) →
      ∃ t, exec (.objectDictionaryReady u) s = .next t ∧
      t.boot.phase = .ready ∧ t.boot.odAnswering = true ∧ t.boot.step8 = true ∧ t.boot.bootTime = min max16 u) ∧
    (s.boot.phase = .ready → (s.pwr.state = .run ∨ s.pwr.state = .doze) →
      exec .objectDictionaryAnswering s = .next { s with boot := { s.boot with odAnswering := true } }) ∧
    ((s.boot.phase ≠ .ready ∨ s.pwr.state = .park ∨ s.pwr.state = .off) → exec .objectDictionaryAnswering s = .next s)

/-- Power states: the requests of RUN, DOZE and PARK, DOZE entry and the stop of SYS. (R88, R90, R91, R92, R446, R448) One suspension for each
event whatever the number of engines (log 55) and what PWR_STATE_REQ reads afterwards (log 23) are the model's choice. -/
def Obligations.PowerStates : Prop :=
  ∀ (s : State) (p : Port),
    (∀ row, answering s = true → checkWrite s p 0x2108 0x02 = .ok row →
      (∃ t, exec (.pwrStateReqRun p) s = .next t ∧ t.ack = .done ∧ t.pwr.state = .run ∧ t.pwr.req = .run ∧ t.pwr.parkEntry = false ∧
        t.part = s.part ∧ t.hamper = s.hamper ∧ t.clk = s.clk) ∧
      (s.pwr.parkEntry = false → s.pwr.state ≠ .doze → exec (.pwrStateReqRun p) s = .next { s with
        settings := mapPut (okey 0x2108 0x02) 0 s.settings, pwr := { s.pwr with state := .run, req := .run }, ack := .done }) ∧
      (s.pwr.parkEntry = false → exec (.pwrStateReqDoze p) s =
        .next { s with settings := mapPut (okey 0x2108 0x02) 1 s.settings, pwr := { s.pwr with req := .doze }, ack := .done }) ∧
      (s.pwr.parkEntry = true → ∃ t, exec (.pwrStateReqDoze p) s = .next t ∧ t.ack = .done ∧ t.pwr.parkEntry = false ∧
        t.pwr.req = .doze ∧ t.pwr.state = s.pwr.state ∧ t = { s with settings := t.settings, pwr := t.pwr, groups := t.groups, rsto := t.rsto, evc := t.evc, tw := t.tw, ack := t.ack }) ∧
      (s.pwr.parkEntry = false → s.pwr.state ≠ .doze → exec (.pwrStateReqPark p) s = .next { s with ack := .abort .state }) ∧
      (s.pwr.parkEntry = false → s.pwr.state = .doze → ∃ t, exec (.pwrStateReqPark p) s = .next t ∧ t.ack = .done ∧
        t.pwr.parkEntry = true ∧ t.pwr.req = .park ∧ t.pwr.state = .doze ∧ t.pwr.fired = 0 ∧ t.chg.current = 0 ∧ t.gauge.outRunning = false ∧
        (t.pwr.wakeTimerOn = true ↔ s.wakeTimer ≠ 0) ∧ (∀ g : Fin 8, t.groups[g].phase = .parked ∨ t.groups[g].phase = .off ∨
          t.groups[g].phase = .faulted) ∧ t.part = s.part ∧ t.mram = s.mram ∧ t.hamper = s.hamper) ∧
      (s.pwr.parkEntry = true → exec (.pwrStateReqPark p) s =
        .next { s with settings := mapPut (okey 0x2108 0x02) 2 s.settings, ack := .done })) ∧
    (s.boot.phase = .ready → s.pwr.state = .run → s.pwr.req = .doze → anyRailOn s = false →
      exec .dozeEntry s = .next { s with pwr := { s.pwr with state := .doze } }) ∧
    (anyRailOn s = true → exec .dozeEntry s = .next s) ∧
    ((s.pwr.parkEntry = false ∨ mayPark s = false) → exec .sysStop s = .next s) ∧
    (s.pwr.parkEntry = true → mayPark s = true → ∃ t, exec .sysStop s = .next t ∧ t.pwr.state = .park ∧ t.pwr.parkEntry = false ∧
      t.boot.odAnswering = false ∧ t.ewd.suspCnt = satAdd max32 s.ewd.suspCnt 1 ∧ (∀ n : Fin 4, t.can[n].phase.stopped = true) ∧
      t = { s with boot := t.boot, pwr := t.pwr, zin := t.zin, pp := t.pp, gauge := t.gauge, hk := t.hk, ewd := t.ewd, evc := t.evc, tw := t.tw, can := t.can, update := t.update })

/-- Waking from PARK by a source, the wake timer or an Old Chart latch. (R93, R94, R148, R346, R568) -/
def Obligations.WakeFromPark : Prop :=
  ∀ s : State, s.pwr.state = .park → s.pwr.parkEntry = false →
    (∀ m b, s.pwr.oldChart = false → b < 14 → m.testBit b = true → (b = 13 ∨ s.wakeMask.testBit b = true) →
      ∃ t, exec (.wake m) s = .next t ∧ t.pwr.state = .doze ∧ t.pwr.req = .doze ∧ t.pwr.wakeCause.testBit b = true ∧
        t.pwr.fired = 0 ∧ t.pwr.wakeTimerOn = false ∧ t.part = s.part ∧ t.settings = s.settings ∧ t.mram = s.mram ∧
        t.hamper = s.hamper ∧ t.clk = s.clk ∧ t.rails = s.rails ∧ t.items = s.items) ∧
    (∀ m, s.pwr.fired = 0 → (∀ b, b < 14 → m.testBit b = true → b ≠ 13 ∧ s.wakeMask.testBit b = false) → exec (.wake m) s = .next s) ∧
    (s.pwr.wakeTimerOn = false → exec .wakeTimerExpire s = .next s) ∧
    (s.pwr.wakeTimerOn = true → s.wakeMask.testBit 10 = true → ∃ t, exec .wakeTimerExpire s = .next t ∧ t.pwr.state = .doze ∧
      t.pwr.wakeCause.testBit 10 = true ∧ t.pwr.wakeTimerOn = false ∧ t.pwr.fired = 0 ∧ t.settings = s.settings ∧ t.rails = s.rails) ∧
    (∀ b, s.pwr.oldChart = false → exec (.oldChartWakeLatch b) s = .next s) ∧
    (∀ b : Fin 12, s.pwr.oldChart = true → b.val < 8 → s.wakeMask.testBit b = true → ∃ t, exec (.oldChartWakeLatch b) s = .next t ∧
      t.pwr.state = .doze ∧ t.pwr.wakeCause.testBit b = true ∧ t.pwr.ocLatch = 0 ∧ t.pwr.fired = 0 ∧ t.settings = s.settings ∧
      t.rails = s.rails) ∧
    (∀ b : Fin 12, s.pwr.oldChart = true → b.val < 8 → s.wakeMask.testBit b = false → s.pwr.fired.testBit b = false →
      exec (.oldChartWakeLatch b) s = .next { s with pwr := { s.pwr with ocLatch := setBit s.pwr.ocLatch b } })

/-- Full reset: its start at RESET_N and by command, its flush and end, rails not re-adopted. (R83, R84, R105, R106, R107, R109, R113, R115,
R118, R120) What SK_FUSED names and the deadlines of kept rails (log 21) are the model's reading. -/
def Obligations.FullReset : Prop :=
  ∀ s : State,
    (s.boot.phase = .porHeld → exec .resetPinRecognised s = .next s) ∧
    (s.boot.phase = .ready → ∃ t, exec .resetPinRecognised s = .next t ∧ t.boot.phase = .inReset ∧ t.boot.curCause = 3 ∧
      t.boot.resetNLow = true ∧ t.boot.skActive = s.stationkeep ∧ t.boot.odAnswering = false ∧
      (∀ r : Fin 28, t.sk.kept[r] = (s.stationkeep && inRegulation s r)) ∧ t.settings = s.settings ∧ t.hamper = s.hamper ∧
      t.clk = s.clk ∧ t.roles = s.roles) ∧
    (s.boot.phase = .inReset → ∃ t, exec .resetPinRecognised s = .next t ∧ t.boot.phase = .inReset ∧ t.boot.curMask.testBit 3 = true ∧
      t.boot.curCause = s.boot.curCause ∧ t.settings = s.settings ∧ t.hamper = s.hamper ∧ t.rails = s.rails) ∧
    (s.boot.phase = .holdUp → exec .resetPinRecognised s =
      .next { s with boot := { s.boot with resetNLow := true, resetNInSave := true } }) ∧
    (∀ p row, answering s = true → checkWrite s p 0x2105 0x01 = .ok row →
      (∃ t, exec (.resetCmd p 0xA5C3) s = .next t ∧ t.ack = .done ∧ t.boot.phase = .inReset ∧ t.boot.curCause = 4 ∧
        t.boot.curSub = 0 ∧ t.settings = s.settings ∧ t.hamper = s.hamper) ∧
      ∀ v, v ≠ 0xA5C3 → exec (.resetCmd p v) s = .next { s with ack := .done }) ∧
    (s.boot.phase ≠ .inReset → exec .resetEnd s = .next s) ∧
    (s.boot.phase = .inReset → ∃ t, exec .resetEnd s = .next t ∧ t.log.ring = [] ∧
      (s.mram.journal.length + s.log.ring.length ≤ 6144 → t.mram.journal = s.mram.journal ++ s.log.ring) ∧
      t.mram.cfg = s.mram.cfg ∧ t.mram.hc = s.mram.hc ∧ t.settings = s.settings ∧ t.hamper = s.hamper ∧ t.pending = s.pending ∧
      (s.boot.resetNLow = false → t.boot.phase = .strapWait ∧ t.pwr.state = .run) ∧
      (s.boot.resetNLow = true → t.boot.phase = .inReset ∧ t.boot.flushDone = true)) ∧
    ((s.boot.phase ≠ .inReset ∨ s.boot.flushDone = false) →
      exec .resetPinRise s = .next { s with boot := { s.boot with resetNLow := false } }) ∧
    (s.boot.phase = .inReset → s.boot.flushDone = true → ∃ t, exec .resetPinRise s = .next t ∧ t.boot.phase = .strapWait ∧
      t.pwr.state = .run ∧ t.log.ring = [] ∧ (s.log.ring = [] → t.mram.journal = s.mram.journal) ∧
      (s.mram.journal.length + s.log.ring.length ≤ 6144 → t.mram.journal = s.mram.journal ++ s.log.ring) ∧
      t.mram.cfg = s.mram.cfg ∧ t.mram.hc = s.mram.hc ∧ t.settings = s.settings ∧ t.hamper = s.hamper ∧ t.pending = s.pending) ∧
    (∀ r, railPresent s r = false → exec (.skReadoptionDeadline r) s = .fault .absentInPart) ∧
    (∀ r : Fin 28, railPresent s r = true → (s.rails[r].stationKept = false ∨ s.sk.due[r] = true) →
      exec (.skReadoptionDeadline r) s = .next s) ∧
    (∀ r : Fin 28, railPresent s r = true → s.rails[r].stationKept = true → s.sk.due[r] = false →
      ∃ t, exec (.skReadoptionDeadline r) s = .next t ∧ t.part = s.part ∧ t.settings = s.settings ∧ t.hamper = s.hamper ∧
        ((s.items[railItem r].cmdOn = false ∨ s.items[railItem r].qual = true) → t.sk.down[r] = true ∧ t.sk.due[r] = true ∧
          t = { s with nv := t.nv, links := t.links, sk := t.sk, rails := t.rails, phases := t.phases, dies := t.dies, log := t.log, evc := t.evc, tw := t.tw, freeCtr := t.freeCtr })) ∧
    (∀ k, diePresent s k = false → exec (.skHardwareTimeout k) s = .fault .absentInPart) ∧
    (∀ k, diePresent s k = true → (∀ r : Fin 28, s.rails[r].stationKept = false) → exec (.skHardwareTimeout k) s = .next s) ∧
    (∀ k (r : Fin 28), diePresent s k = true → s.rails[r].stationKept = true → (railDies s r).contains k = true →
      ∃ t, exec (.skHardwareTimeout k) s = .next t ∧ t.sk.hwTimeout = true ∧ t.sk.down[r] = true ∧ t.rails[r].enabled = false ∧
        t = { s with nv := t.nv, links := t.links, sk := t.sk, rails := t.rails, phases := t.phases, dies := t.dies, log := t.log, evc := t.evc, tw := t.tw })

/-- Zone input and zone bus windows: what entering and leaving them does to the channels. (R93, R111, R123, R125, R133, R137, R139, R148)
QUALIFY entered at once inside the window (log 41) is the model's choice. -/
def Obligations.ZoneAndBusWindows : Prop :=
  ∀ s : State,
    (∀ n, ∃ t, exec (.zinWindowEnter n) s = .next t ∧ t.zin[n].inWindow = true ∧ (∀ j : Fin 4, j ≠ n → t.zin[j] = s.zin[j]) ∧
      t.zin[n].retryCnt = s.zin[n].retryCnt ∧ t.zin[n].retryTimer = s.zin[n].retryTimer ∧ t.zin[n].fault = s.zin[n].fault ∧
      (s.zin[n].timersStopped = false → s.zin[n].phase = .waitIn → t.zin[n].phase = .qualify ∧ t.zin[n].insRunning = true ∧
        t.zin[n].qualified = false) ∧
      (s.zin[n].phase ≠ .waitIn → t.zin[n].phase = s.zin[n].phase) ∧ t = { s with pwr := t.pwr, zin := t.zin, groups := t.groups, rsto := t.rsto, evc := t.evc, tw := t.tw }) ∧
    (∀ n, ∃ t, exec (.zinWindowExit n) s = .next t ∧ t.zin[n].inWindow = false ∧ t.zin[n].insRunning = false ∧
      t.zin[n].qualified = false ∧ t.zin[n].retryCnt = s.zin[n].retryCnt ∧ t.zin[n].retryTimer = s.zin[n].retryTimer ∧
      t.zin[n].fault = s.zin[n].fault ∧ (∀ j : Fin 4, j ≠ n → t.zin[j] = s.zin[j]) ∧
      (s.zin[n].timersStopped = false → s.zin[n].phase ∈ [.qualify, .retryWait, .inrush, .on, .block, .limit] →
        t.zin[n].phase = .waitIn) ∧
      (s.zin[n].phase ∈ [.off, .waitIn, .locked, .disabling] → t.zin[n].phase = s.zin[n].phase) ∧
      t = { s with nv := t.nv, pwr := t.pwr, zin := t.zin, groups := t.groups, rsto := t.rsto, pp := t.pp, log := t.log, evc := t.evc, tw := t.tw }) ∧
    (∃ t, exec .zbusWindowEnter s = .next t ∧ t.zbus = { s.zbus with inWindow := true } ∧
      (∀ m : Fin 8, (poweredOutputs s = true → s.fo[m].phase = .waitBus → s.fo[m].qualified = false → t.fo[m].phase = .qualify) ∧
        (poweredOutputs s = false → t.fo[m].phase = s.fo[m].phase) ∧
        (s.fo[m].phase ≠ .waitBus → t.fo[m].phase = s.fo[m].phase) ∧
        (s.fo[m].present = true → t.fo[m].insRunning = true ∨ t.fo[m].qualified = true) ∧
        t.fo[m].retryCnt = s.fo[m].retryCnt ∧ t.fo[m].retryTimer = s.fo[m].retryTimer ∧ t.fo[m].fault = s.fo[m].fault) ∧
      t = { s with fo := t.fo, zbus := t.zbus, evc := t.evc, tw := t.tw }) ∧
    (∃ t, exec .zbusWindowExit s = .next t ∧ t.zbus = { s.zbus with inWindow := false } ∧
      (∀ m : Fin 8, (poweredOutputs s = true → s.fo[m].phase ∈ [.qualify, .retryWait, .turnOn, .on, .limit] → t.fo[m].phase = .waitBus) ∧
        (poweredOutputs s = false → t.fo[m].phase = s.fo[m].phase) ∧
        (s.fo[m].phase ∈ [.off, .absent, .waitBus, .locked, .disabling] → t.fo[m].phase = s.fo[m].phase) ∧
        t.fo[m].insRunning = false ∧ t.fo[m].qualified = false ∧
        t.fo[m].retryCnt = s.fo[m].retryCnt ∧ t.fo[m].retryTimer = s.fo[m].retryTimer ∧ t.fo[m].fault = s.fo[m].fault) ∧
      t = { s with fo := t.fo, zbus := t.zbus, evc := t.evc, tw := t.tw })

/-- Insertion delay, retry timer, inrush and normal-operation timer of the fused channels. (R125, R133, R134, R137, R138, R140) The timers
that stand still in PARK (log 25) and a retry that ends before the insertion delay (log 41) are the model's reading. -/
def Obligations.ChannelTurnOn : Prop :=
  ∀ (s : State) (near : Bool),
    (∀ n, s.zin[n].insRunning = false → exec (.insertionDelayExpire (.zin n) near) s = .next s) ∧
    (∀ n, s.zin[n].insRunning = true → ∃ t, exec (.insertionDelayExpire (.zin n) near) s = .next t ∧
      t.zin[n].insRunning = false ∧ t.zin[n].qualified = true ∧ t.zin[n].retryCnt = s.zin[n].retryCnt ∧
      t.zin[n].phase = (if s.zin[n].phase = .qualify then
        (if s.zin[n].retryTimer = true then .retryWait else if near = true then .on else .inrush) else s.zin[n].phase) ∧
      (∀ j : Fin 4, j ≠ n → t.zin[j] = s.zin[j]) ∧ t = { s with nv := t.nv, zin := t.zin, pp := t.pp, log := t.log, evc := t.evc, tw := t.tw }) ∧
    (∀ n, s.fo[n].insRunning = false → exec (.insertionDelayExpire (.fo n) near) s = .next s) ∧
    (∀ n, s.fo[n].insRunning = true → ∃ t, exec (.insertionDelayExpire (.fo n) near) s = .next t ∧
      t.fo[n].insRunning = false ∧ t.fo[n].qualified = true ∧ t.fo[n].retryCnt = s.fo[n].retryCnt ∧
      (s.fo[n].phase = .qualify → poweredOutputs s = true → t.fo[n].phase =
        if s.fo[n].commanded = false then .off else if s.fo[n].retryTimer = true then .retryWait else .turnOn) ∧
      ((s.fo[n].phase ≠ .qualify ∨ poweredOutputs s = false) → t.fo[n].phase = s.fo[n].phase) ∧
      (∀ j : Fin 8, j ≠ n → t.fo[j] = s.fo[j]) ∧ t = { s with fo := t.fo, evc := t.evc, tw := t.tw }) ∧
    (∀ n, (s.zin[n].retryTimer = false ∨ s.zin[n].timersStopped = true) → exec (.retryTimerExpire (.zin n) near) s = .next s) ∧
    (∀ n, s.zin[n].retryTimer = true → s.zin[n].timersStopped = false → ∃ t, exec (.retryTimerExpire (.zin n) near) s = .next t ∧
      t.zin[n].retryTimer = false ∧ t.zin[n].retryCnt = s.zin[n].retryCnt ∧
      t.zin[n].phase = (if s.zin[n].phase = .retryWait then (if s.zin[n].qualified = false then .qualify
        else if near = true then .on else .inrush) else s.zin[n].phase) ∧
      (s.zin[n].phase = .retryWait → s.zin[n].qualified = false → t.zin[n].insRunning = true) ∧
      (∀ j : Fin 4, j ≠ n → t.zin[j] = s.zin[j]) ∧ t = { s with nv := t.nv, zin := t.zin, pp := t.pp, log := t.log, evc := t.evc, tw := t.tw }) ∧
    (∀ n, s.fo[n].retryTimer = false → exec (.retryTimerExpire (.fo n) near) s = .next s) ∧
    (∀ n, s.fo[n].retryTimer = true → ∃ t, exec (.retryTimerExpire (.fo n) near) s = .next t ∧
      t.fo[n].retryTimer = false ∧ t.fo[n].retryCnt = s.fo[n].retryCnt ∧
      t.fo[n].phase = (if s.fo[n].phase = .retryWait then (if s.fo[n].commanded = false then .off
        else if poweredOutputs s = false then .retryWait else if s.fo[n].qualified = true then .turnOn
        else if s.fo[n].present = false then .absent else if s.zbus.inWindow = false then .waitBus else .qualify) else s.fo[n].phase) ∧
      (∀ j : Fin 8, j ≠ n → t.fo[j] = s.fo[j]) ∧ t = { s with fo := t.fo, evc := t.evc, tw := t.tw }) ∧
    (∀ n, s.zin[n].phase ≠ .inrush → exec (.inrushComplete (.zin n)) s = .next s) ∧
    (∀ n, s.zin[n].phase = .inrush → ∃ t, exec (.inrushComplete (.zin n)) s = .next t ∧ t.zin[n].phase = .on ∧
      t.zin[n].normTimer = true ∧ t.zin[n].limTimer = false ∧ (∀ j : Fin 4, j ≠ n → t.zin[j] = s.zin[j]) ∧ t = { s with nv := t.nv, zin := t.zin, pp := t.pp, log := t.log, evc := t.evc, tw := t.tw }) ∧
    (∀ n, s.fo[n].phase ≠ .turnOn → exec (.inrushComplete (.fo n)) s = .next s) ∧
    (∀ n, s.fo[n].phase = .turnOn → ∃ t, exec (.inrushComplete (.fo n)) s = .next t ∧ t.fo[n].phase = .on ∧
      t.fo[n].normTimer = true ∧ t.fo[n].limTimer = false ∧ (∀ j : Fin 8, j ≠ n → t.fo[j] = s.fo[j]) ∧
      t.items[foItem n].phase = (if s.items[foItem n].phase = .starting then .qualifying else s.items[foItem n].phase) ∧
      (∀ j : Fin 46, j ≠ foItem n → t.items[j] = s.items[j]) ∧ t = { s with fo := t.fo, items := t.items, evc := t.evc, tw := t.tw }) ∧
    (∀ n, exec (.normalOperationTimer (.zin n)) s = .next (if s.zin[n].normTimer = true ∧ s.zin[n].timersStopped = false then
      { s with zin := vmod s.zin n fun c => { c with retryCnt := 0, normTimer := false } } else s)) ∧
    (∀ n, exec (.normalOperationTimer (.fo n)) s = .next (if s.fo[n].normTimer = true ∧ s.pwr.state ≠ .park then
      { s with fo := vmod s.fo n fun c => { c with retryCnt := 0, normTimer := false } } else s))

/-- Current limit, reverse and forward current, and cold start of the zone channels. (R126, R127, R128, R129, R132, R133, R137, R148, R149) -/
def Obligations.ChannelLimitAndColdStart : Prop :=
  ∀ s : State,
    (∀ n, s.zin[n].phase ≠ .inrush → 10000000 ≤ s.zinIlim n * s.zinRsense n / 50000 * 50000 →
      s.zinIlim n * s.zinRsense n / 50000 * 50000 ≤ 50000000 → activeLimit s (.zin n) = s.zinIlim n * s.zinRsense n / 50000 * 50000) ∧
    (∀ n, s.zin[n].phase = .inrush → 2000000 ≤ s.zinIinr n * s.zinRsense n →
      s.zinIinr n * s.zinRsense n ≤ s.zinIlim n * s.zinRsense n / 50000 * 50000 → activeLimit s (.zin n) = s.zinIinr n * s.zinRsense n) ∧
    (∀ n, s.fo[n].phase ≠ .turnOn → 10000000 ≤ s.foIlim n * s.foRsense n / 50000 * 50000 →
      s.foIlim n * s.foRsense n / 50000 * 50000 ≤ 50000000 → activeLimit s (.fo n) = s.foIlim n * s.foRsense n / 50000 * 50000) ∧
    (∀ n, s.fo[n].phase = .turnOn → 2000000 ≤ s.foIinr n * s.foRsense n →
      s.foIinr n * s.foRsense n ≤ s.foIlim n * s.foRsense n / 50000 * 50000 → activeLimit s (.fo n) = s.foIinr n * s.foRsense n) ∧
    (∀ c v, v < activeLimit s c → exec (.limitEnter c v) s = .next s) ∧
    (∀ n v, s.zin[n].timersStopped = true → exec (.limitEnter (.zin n) v) s = .next s) ∧
    (∀ n v, activeLimit s (.zin n) ≤ v → s.zin[n].timersStopped = false → s.zin[n].phase = .on → ∃ t, exec (.limitEnter (.zin n) v) s = .next t ∧
      t.zin[n].phase = .limit ∧ t.zin[n].limTimer = true ∧ t.zin[n].normTimer = false ∧ t.zin[n].retryCnt = s.zin[n].retryCnt ∧
      (∀ j : Fin 4, j ≠ n → t.zin[j] = s.zin[j]) ∧ t = { s with zin := t.zin, evc := t.evc, tw := t.tw }) ∧
    (∀ n v, activeLimit s (.zin n) ≤ v → s.zin[n].timersStopped = false → (s.zin[n].phase = .inrush ∨ s.zin[n].phase = .limit) →
      exec (.limitEnter (.zin n) v) s = .next { s with zin := vmod s.zin n fun c => { c with limTimer := true } }) ∧
    (∀ n v, s.zin[n].phase ∉ [.on, .inrush, .limit] → exec (.limitEnter (.zin n) v) s = .next s) ∧
    (∀ n v, activeLimit s (.fo n) ≤ v → s.fo[n].phase = .on → ∃ t, exec (.limitEnter (.fo n) v) s = .next t ∧ t.fo[n].phase = .limit ∧
      t.fo[n].limTimer = true ∧ t.fo[n].normTimer = false ∧ t.fo[n].retryCnt = s.fo[n].retryCnt ∧
      (∀ j : Fin 8, j ≠ n → t.fo[j] = s.fo[j]) ∧ t = { s with fo := t.fo, evc := t.evc, tw := t.tw }) ∧
    (∀ n v, activeLimit s (.fo n) ≤ v → (s.fo[n].phase = .turnOn ∨ s.fo[n].phase = .limit ∨ s.fo[n].phase = .disabling) →
      exec (.limitEnter (.fo n) v) s = .next { s with fo := vmod s.fo n fun c => { c with limTimer := true } }) ∧
    (∀ n v, s.fo[n].phase ∉ [.on, .turnOn, .limit, .disabling] → exec (.limitEnter (.fo n) v) s = .next s) ∧
    (∀ n, s.zin[n].phase = .limit → ∃ t, exec (.limitRelease (.zin n)) s = .next t ∧ t.zin[n].phase = .on ∧
      t.zin[n].limTimer = false ∧ t.zin[n].normTimer = true ∧ t.zin[n].retryCnt = s.zin[n].retryCnt ∧
      (∀ j : Fin 4, j ≠ n → t.zin[j] = s.zin[j]) ∧ t = { s with zin := t.zin, evc := t.evc, tw := t.tw }) ∧
    (∀ n, s.zin[n].phase = .inrush → exec (.limitRelease (.zin n)) s =
      .next { s with zin := vmod s.zin n fun c => { c with limTimer := false } }) ∧
    (∀ n, s.zin[n].phase ≠ .limit → s.zin[n].phase ≠ .inrush → exec (.limitRelease (.zin n)) s = .next s) ∧
    (∀ n, s.fo[n].phase = .limit → ∃ t, exec (.limitRelease (.fo n)) s = .next t ∧ t.fo[n].phase = .on ∧
      t.fo[n].limTimer = false ∧ t.fo[n].normTimer = true ∧ t.fo[n].retryCnt = s.fo[n].retryCnt ∧
      (∀ j : Fin 8, j ≠ n → t.fo[j] = s.fo[j]) ∧ t = { s with fo := t.fo, evc := t.evc, tw := t.tw }) ∧
    (∀ n, (s.fo[n].phase = .turnOn ∨ s.fo[n].phase = .disabling) → exec (.limitRelease (.fo n)) s =
      .next { s with fo := vmod s.fo n fun c => { c with limTimer := false } }) ∧
    (∀ n, s.fo[n].phase ∉ [.limit, .turnOn, .disabling] → exec (.limitRelease (.fo n)) s = .next s) ∧
    (∀ n, s.zin[n].coldStart = false → s.zin[n].phase = .on → ∃ t, exec (.reverseDetected n) s = .next t ∧ t.zin[n].phase = .block ∧
      t.zin[n].retryCnt = s.zin[n].retryCnt ∧ (∀ j : Fin 4, j ≠ n → t.zin[j] = s.zin[j]) ∧ t = { s with nv := t.nv, zin := t.zin, pp := t.pp, log := t.log, evc := t.evc, tw := t.tw }) ∧
    (∀ n, s.zin[n].coldStart = false → s.zin[n].phase ≠ .on → exec (.reverseDetected n) s = .next s) ∧
    (∀ n, s.zin[n].coldStart = true → exec (.reverseDetected n) s =
        .next { s with zin := vmod s.zin n fun c => { c with coldBlock := c.coldOn } } ∧
      exec (.forwardDetected n) s = .next { s with zin := vmod s.zin n fun c => { c with coldBlock := false } }) ∧
    (∀ n, s.zin[n].coldStart = false → s.zin[n].phase = .block → ∃ t, exec (.forwardDetected n) s = .next t ∧ t.zin[n].phase = .on ∧
      t.zin[n].retryCnt = s.zin[n].retryCnt ∧ (∀ j : Fin 4, j ≠ n → t.zin[j] = s.zin[j]) ∧ t = { s with nv := t.nv, zin := t.zin, pp := t.pp, log := t.log, evc := t.evc, tw := t.tw }) ∧
    (∀ n, s.zin[n].coldStart = false → s.zin[n].phase ≠ .block → exec (.forwardDetected n) s = .next s) ∧
    (∀ n, exec (.coldStartQualify n) s = .next (if s.zin[n].coldStart = true ∧ s.zin[n].coldDone = false ∧ s.boot.phase ≠ .holdUp then
      { s with zin := vmod s.zin n fun c => { c with coldOn := true, coldDone := true } } else s)) ∧
    (∀ n, exec (.coldStartLimitTimeout n) s = .next (if s.zin[n].coldStart = true ∧ s.zin[n].coldOn = true then
      { s with zin := vmod s.zin n fun c => { c with coldOn := false, coldBlock := false, fault := c.fault ||| 16 } } else s)) ∧
    (∀ n, exec (.coldStartBandExit n) s = .next (if s.zin[n].coldStart = true ∧ s.zin[n].coldOn = true then
      { s with zin := vmod s.zin n fun c => { c with coldOn := false, coldBlock := false } } else s))

/-- Fast, limit and absolute trips of the fused channels are counted and end in RETRY_WAIT or LOCKED. (R126, R129, R130, R131, R133, R137,
R138, R148, R149) -/
def Obligations.ChannelTrips : Prop :=
  ∀ s : State,
    (∀ (n : Fin 4) (c : Instr) (b v : Nat), s.zin[n].phase.gateOn = true →
      ((c = .fastTrip (.zin n) v ∧ 2 * vLim s (.zin n) < v ∧ b = 0) ∨ (c = .limitTimerExpire (.zin n) ∧ b = 1 ∧ s.zin[n].limTimer = true) ∨
        (c = .absoluteTrip (.zin n) ∧ b = 2 ∧ s.zin[n].coldStart = false)) →
      ∃ t, exec c s = .next t ∧ t.zin[n].retryCnt = min 8 (s.zin[n].retryCnt + 1) ∧
        (min 8 (s.zin[n].retryCnt + 1) ≤ s.zinRetryMax n → t.zin[n].phase = .retryWait ∧ t.zin[n].retryTimer = true ∧
          t.zin[n].fault = setBit s.zin[n].fault b) ∧
        (s.zinRetryMax n < min 8 (s.zin[n].retryCnt + 1) → t.zin[n].phase = .locked ∧ t.zin[n].retryTimer = false ∧
          t.zin[n].fault = setBit (setBit s.zin[n].fault b) 3) ∧
        (∀ j : Fin 4, j ≠ n → t.zin[j] = s.zin[j]) ∧ t = { s with nv := t.nv, zin := t.zin, pp := t.pp, log := t.log, evc := t.evc, tw := t.tw }) ∧
    (∀ c v, v ≤ 2 * vLim s c → exec (.fastTrip c v) s = .next s) ∧
    (∀ (n : Fin 4) v, s.zin[n].phase.gateOn = false → ∃ t, exec (.fastTrip (.zin n) v) s = .next t ∧ t = { s with nv := t.nv, pp := t.pp, log := t.log, evc := t.evc, tw := t.tw }) ∧
    (∀ n : Fin 4, s.zin[n].limTimer = false → exec (.limitTimerExpire (.zin n)) s = .next s) ∧
    (∀ n : Fin 8, s.fo[n].limTimer = false → exec (.limitTimerExpire (.fo n)) s = .next s) ∧
    (∀ (n : Fin 8) v, s.fo[n].phase.gateOn = false → exec (.fastTrip (.fo n) v) s = .next s ∧ exec (.absoluteTrip (.fo n)) s = .next s) ∧
    (∀ (n : Fin 8) (c : Instr) (b v : Nat), s.fo[n].phase.gateOn = true →
      ((c = .fastTrip (.fo n) v ∧ 2 * vLim s (.fo n) < v ∧ b = 0) ∨ (c = .limitTimerExpire (.fo n) ∧ b = 1 ∧ s.fo[n].limTimer = true) ∨
        (c = .absoluteTrip (.fo n) ∧ b = 2)) →
      (min 8 (s.fo[n].retryCnt + 1) ≤ s.foRetryMax n → ∃ t, exec c s = .next t ∧
        t.fo[n].retryCnt = min 8 (s.fo[n].retryCnt + 1) ∧ t.fo[n].phase = .retryWait ∧ t.fo[n].retryTimer = true ∧
        t.fo[n].fault = setBit s.fo[n].fault b ∧ (∀ j : Fin 8, j ≠ n → t.fo[j] = s.fo[j]) ∧ t = { s with nv := t.nv, fo := t.fo, log := t.log, evc := t.evc, tw := t.tw }) ∧
      (s.foRetryMax n < min 8 (s.fo[n].retryCnt + 1) → (foTrip n b s).fo[n].phase = .locked ∧
        (foTrip n b s).fo[n].retryTimer = false ∧ (foTrip n b s).fo[n].fault = setBit (setBit s.fo[n].fault b) 3 ∧
        exec c s = .next (if poweredOutputs s = true then itemFault (foItem n) .locked (foTrip n b s) else foTrip n b s))) ∧
    (∀ n : Fin 4, s.zin[n].coldStart = true → exec (.absoluteTrip (.zin n)) s = .next (if s.zin[n].coldOn = true then
      { s with zin := vmod s.zin n fun c => { c with coldOn := false, coldBlock := false, fault := c.fault ||| 20 } } else s))

/-- Enable, disable, clear and gate-off of the channels, and presence of the fused outputs. (R44, R93, R125, R133, R134, R135, R137, R141,
R147) QUALIFY entered at once inside the window and the values of the near-bus test of ZIN_CLEAR (log 41) are the model's choice. -/
def Obligations.ChannelCommandsAndPresence : Prop :=
  ∀ (s : State) (p : Port) (row : ObjRow),
    (∀ n : Fin 4, answering s = true → checkWrite s p (0x2210 + n) 0x01 = .ok row →
      (∃ t, exec (.zinEnSet p n) s = .next t ∧ t.ack = .done ∧ t.settings = mapPut (okey (0x2210 + n) 0x01) 1 s.settings ∧
        (s.zin[n].phase = .off → t.zin[n].phase = if s.zin[n].inWindow = true then .qualify else .waitIn) ∧
        (s.zin[n].phase = .disabling → t.zin[n].phase = .disabling ∧ t.zin[n].enHeld = true) ∧
        (s.zin[n].phase ≠ .off → s.zin[n].phase ≠ .disabling → t.zin[n] = s.zin[n]) ∧
        (∀ j : Fin 4, j ≠ n → t.zin[j] = s.zin[j]) ∧ t = { s with settings := t.settings, zin := t.zin, evc := t.evc, tw := t.tw, ack := t.ack }) ∧
      (∃ t, exec (.zinEnClear p n) s = .next t ∧ t.ack = .done ∧ t.settings = mapPut (okey (0x2210 + n) 0x01) 0 s.settings ∧
        (s.zin[n].phase = .off → t.zin[n] = s.zin[n]) ∧
        (s.zin[n].phase ≠ .off → t.zin[n].phase = .disabling ∧ t.zin[n].enHeld = false ∧
          (s.zin[n].phase ≠ .disabling → t.zin[n].insRunning = false ∧ t.zin[n].qualified = false)) ∧
        (∀ j : Fin 4, j ≠ n → t.zin[j] = s.zin[j]) ∧ t = { s with settings := t.settings, nv := t.nv, zin := t.zin, pp := t.pp, log := t.log, evc := t.evc, tw := t.tw, ack := t.ack })) ∧
    (∀ (n : Fin 4) (v : Nat), answering s = true → checkWrite s p (0x2210 + n) 0x10 = .ok row →
      (v ≠ 1 → exec (.zinClear p n v) s = .next { s with ack := .done }) ∧
      (v = 1 → s.zin[n].phase = .limit → exec (.zinClear p n v) s = .next { s with ack := .abort .state }) ∧
      (v = 1 → s.zin[n].phase ≠ .limit → ∃ t, exec (.zinClear p n v) s = .next t ∧ t.ack = .done ∧ t.zin[n].retryCnt = 0 ∧
        t.zin[n].retryTimer = false ∧ t.zin[n].fault = 0 ∧
        (s.zin[n].phase = .locked → t.zin[n].phase = if s.zin[n].inWindow = true then .qualify else .waitIn) ∧
        (s.zin[n].phase = .retryWait → t.zin[n].phase = if s.zin[n].qualified = false then .qualify else if s.zin[n].v ≤ s.zbus.v + 1000 then .on else .inrush) ∧
        (∀ j : Fin 4, j ≠ n → t.zin[j] = s.zin[j]) ∧ t = { s with zin := t.zin, evc := t.evc, tw := t.tw, ack := t.ack })) ∧
    (∀ (n : Fin 8) (v : Nat), answering s = true → checkWrite s p (0x2220 + n) 0x0B = .ok row →
      (v ≠ 1 → exec (.foClear p n v) s = .next { s with ack := .done }) ∧
      (v = 1 → s.fo[n].phase = .limit → exec (.foClear p n v) s = .next { s with ack := .abort .state }) ∧
      (v = 1 → s.fo[n].phase ≠ .limit → ∃ t, exec (.foClear p n v) s = .next t ∧ t.ack = .done ∧ t.fo[n].retryCnt = 0 ∧
        t.fo[n].retryTimer = false ∧ t.fo[n].fault = 0 ∧
        (s.fo[n].phase = .locked → s.fo[n].commanded = false → t.fo[n].phase = .off) ∧
        (s.fo[n].phase = .retryWait → s.fo[n].commanded = true → s.fo[n].qualified = true → t.fo[n].phase = .turnOn) ∧
        (∀ j : Fin 8, j ≠ n → t.fo[j] = s.fo[j]) ∧ t = { s with fo := t.fo, evc := t.evc, tw := t.tw, ack := t.ack })) ∧
    (∀ n : Fin 8, s.fo[n].phase ≠ .disabling → exec (.foGateOff n) s = .next s) ∧
    (∀ n : Fin 8, s.fo[n].phase = .disabling → s.fo[n].onHeld = false → ∃ t, exec (.foGateOff n) s = .next t ∧
      t.fo[n].phase = .off ∧ (∀ j : Fin 8, j ≠ n → t.fo[j] = s.fo[j]) ∧ t = { s with fo := t.fo, evc := t.evc, tw := t.tw }) ∧
    (∀ n : Fin 8, ∃ t, exec (.presenceLost n) s = .next t ∧ t.fo[n].present = false ∧ t.fo[n].insRunning = false ∧
      t.fo[n].qualified = false ∧
      t.fo[n].phase = (if s.fo[n].phase ∈ [.off, .disabling, .locked] then s.fo[n].phase else .absent) ∧
      t.fo[n].retryCnt = s.fo[n].retryCnt ∧ (∀ j : Fin 8, j ≠ n → t.fo[j] = s.fo[j]) ∧ t = { s with pwr := t.pwr, fo := t.fo, groups := t.groups, rsto := t.rsto, evc := t.evc, tw := t.tw }) ∧
    (∀ n : Fin 8, ∃ t, exec (.presenceDetected n) s = .next t ∧ t.fo[n].present = true ∧
      (s.fo[n].phase ≠ .absent → t.fo[n].phase = s.fo[n].phase) ∧
      (s.fo[n].phase = .absent → s.fo[n].commanded = false → t.fo[n].phase = .off) ∧
      (s.fo[n].phase = .absent → s.fo[n].commanded = true → poweredOutputs s = false → t.fo[n].phase = .absent) ∧
      (s.fo[n].phase = .absent → s.fo[n].commanded = true → poweredOutputs s = true →
        (s.zbus.inWindow = false → t.fo[n].phase = .waitBus) ∧
        (s.zbus.inWindow = true → s.fo[n].qualified = false → t.fo[n].phase = .qualify ∧ t.fo[n].insRunning = true)) ∧
      t.fo[n].retryCnt = s.fo[n].retryCnt ∧ (∀ j : Fin 8, j ≠ n → t.fo[j] = s.fo[j]) ∧ t = { s with pwr := t.pwr, fo := t.fo, groups := t.groups, rsto := t.rsto, evc := t.evc, tw := t.tw })

/-- The early power-fail warning: threshold, slope prediction and release. (R143, R144, R145, R319) Slope 0 and no alarm before eight earlier
samples (log 42) is the model's choice. -/
def Obligations.EarlyPowerFail : Prop :=
  ∀ s : State,
    (poweredOutputs s = false → exec .pfwThreshold s = .next { s with zbus := { s.zbus with pfwClear := false } }) ∧
    (poweredOutputs s = true → ∃ t, exec .pfwThreshold s = .next t ∧ t.zbus = { s.zbus with pfw := true, pfwClear := false, pfwThr := true } ∧
      t.evc.level = (if slotListed s.part 4 = true ∧ s.pwr.state ≠ .park then setBit s.evc.level 4 else s.evc.level) ∧ t = { s with zbus := t.zbus, evc := t.evc, tw := t.tw }) ∧
    (∀ code : Nat, ∃ t, exec (.pfwSlopeSample code) s = .next t ∧ t.zbus.v = 75 * (code % 1024) ∧
      t.zbus.hist = (code % 1024) :: s.zbus.hist.take 7 ∧
      (s.zbus.hist.length < 8 → t.zbus.slope = 0 ∧ t.zbus.slopeAlarm = false ∧ t.zbus.pfw = s.zbus.pfw) ∧
      (∀ old : Nat, s.zbus.hist[7]? = some old → t.zbus.slope = ((code % 1024 : Nat) - (old : Int)) * 1875 ∧
        (t.zbus.slopeAlarm = true ↔ (((code % 1024 : Nat) : Int) - old) * 1875 ≤ -2 * (s.pfwSlopeMin : Int) ∧
          2 * (75 * (code % 1024) : Int) + (((code % 1024 : Nat) : Int) - old) * 1875 < 2 * (s.hoThr : Int))) ∧
      (t.zbus.pfw = true ↔ s.zbus.pfw = true ∨ (t.zbus.slopeAlarm = true ∧ poweredOutputs s = true)) ∧
      (t.zbus.pfwClear = true ↔ s.pfwThr + s.pfwHyst < 75 * (code % 1024) ∧ t.zbus.slopeAlarm = false) ∧
      t.zbus.pfwThr = s.zbus.pfwThr ∧ t.zbus.inWindow = s.zbus.inWindow ∧ t = { s with zbus := t.zbus, pp := t.pp, evc := t.evc, tw := t.tw }) ∧
    (s.zbus.pfwClear = false → exec .pfwRelease s = .next s) ∧
    (s.zbus.pfwClear = true → drawingFromPack s = true → exec .pfwRelease s = .next { s with zbus := { s.zbus with pfwPack := s.zbus.pfw } }) ∧
    (s.zbus.pfwClear = true → drawingFromPack s = false → ∃ t, exec .pfwRelease s = .next t ∧
      t.zbus = { s.zbus with pfw := false, pfwThr := false, pfwSlope := false, pfwPack := false } ∧ t = { s with zbus := t.zbus, evc := t.evc, tw := t.tw })

/-- Loop law, loop commit, rotation and current balance of a rail. (R157, R158, R159, R160, R165, R168, R169, R171, R172, R173, R190, R193)
How samples fall into a period (log 84), what the trims of a disable do (log 29) and the currents (log 45) are the model's reading. -/
def Obligations.LoopAndRotation : Prop :=
  ∀ (s : State) (r : Fin 28),
    (∀ p row, answering s = true → checkWrite s p (0x3000 + r) 0x09 = .ok row →
      exec (.loopCommit p r 1) s = .next { s with
        ack := .done
        rails := vmod s.rails r fun x => { x with loop := { x.loop with
          co := ⟨s.loopKp r, s.loopKi r, s.loopKd r, s.loopPole r⟩, pend := false } } } ∧
      ∀ v, v ≠ 1 → exec (.loopCommit p r v) s = .next { s with ack := .done }) ∧
    (railPresent s r = false → ∀ m, exec (.periodBoundary r m) s = .fault .absentInPart ∧
      exec (.rotationEpoch r m) s = .fault .absentInPart ∧ exec (.balanceUpdate r) s = .fault .absentInPart) ∧
    (railPresent s r = true →
      (∀ m, dieArmed s = false → exec (.periodBoundary r m) s = .next s ∧ exec (.rotationEpoch r m) s = .next s) ∧
      (∀ m, dieArmed s = true → ∃ t, exec (.periodBoundary r m) s = .next t ∧ t.part = s.part ∧ t.clk = s.clk ∧
        t.hamper = s.hamper ∧ t.straps = s.straps) ∧
      (dieArmed s = true → ∃ t, exec (.periodBoundary r []) s = .next t ∧ (∀ j : Fin 28, j ≠ r → t.rails[j] = s.rails[j]) ∧
        t.rails[r].loop.dmax = s.railDmax r ∧ t.rails[r].dyn.stepThr = s.stepThr r ∧ t.rails[r].dyn.stepTmax = s.stepTmax r ∧
        t.rails[r].enabled = s.rails[r].enabled ∧ t.rails[r].dyn.vsp = s.rails[r].dyn.vsp ∧
        t.rails[r].loop.u = s.rails[r].loop.u ∧ t.rails[r].loop.i = s.rails[r].loop.i ∧
        (∀ ph ∈ railPhases s r, t.phases[ph].withheld = false) ∧
        (∀ ph, s.rails[r].enabled = true → phaseAt s r s.rails[r].loop.lead = some ph →
          t.phases[ph].leadCnt = satAdd max32 s.phases[ph].leadCnt 1) ∧
        (s.rails[r].enabled = true → gangOfRail s r = none → s.rails[r].dyn.readdPend = false → s.rails[r].dyn.shedDue = false →
          leavingPhases s r = [] →
          (s.rails[r].loop.epochCnt + 1 < railN s r → t.rails[r].loop.epochCnt = s.rails[r].loop.epochCnt + 1 ∧
            t.rails[r].loop.lead = if s.rails[r].loop.rotOn = true ∧ 2 ≤ railN s r then
              (s.rails[r].loop.lead + s.rails[r].loop.stride) % railN s r else s.rails[r].loop.lead) ∧
          (railN s r ≤ s.rails[r].loop.epochCnt + 1 → t.rails[r].loop.epochCnt = 0 ∧ t.rails[r].loop.lead = 0 ∧
            t.rails[r].loop.strideSet = s.rotStride r ∧ t.rails[r].loop.rotOn = s.rotEn r ∧
            t.rails[r].loop.stride = effStride (railN s r) (s.rotStride r))) ∧
        t = { s with rails := t.rails, phases := t.phases, gangs := t.gangs, dies := t.dies }) ∧
      (∀ v imon, dieArmed s = true → s.rails[r].enabled = true → s.rails[r].disabling = false → gangOfRail s r = none →
        s.rails[r].prot.ovLatch = false → s.rails[r].dyn.stepAlarm = false → s.rails[r].pulsed = true → s.loopRll r = 0 →
        trackOver s r (senseCode s r v) = false → ∃ t, exec (.periodBoundary r [⟨v, imon⟩]) s = .next t ∧
        t.rails[r].loop.vsense = v ∧ t.rails[r].vout = outMv s r v ∧
        t.rails[r].loop.iFilt = filterStep s.rails[r].loop.iFilt (dieCurrent s r (railDie r) imon) ∧
        (t.rails[r].loop.code : Int) = clampI 0 1023 (512 + (v : Int) - ((s.rails[r].dyn.vsp / 65536 : Nat) : Int)) ∧
        t.rails[r].loop.e = 512 - (t.rails[r].loop.code : Int) ∧
        (((s.rails[r].loop.u = (uMax s r : Int) ∧ 0 < t.rails[r].loop.e) ∨ (s.rails[r].loop.u = 0 ∧ t.rails[r].loop.e < 0)) →
          t.rails[r].loop.i = s.rails[r].loop.i) ∧
        (¬((s.rails[r].loop.u = (uMax s r : Int) ∧ 0 < t.rails[r].loop.e) ∨ (s.rails[r].loop.u = 0 ∧ t.rails[r].loop.e < 0)) →
          t.rails[r].loop.i = clampI 0 ((uMax s r : Int) * 65536)
            (s.rails[r].loop.i + (s.rails[r].loop.co.ki : Int) * t.rails[r].loop.e)) ∧
        t.rails[r].loop.u = clampI 0 (uMax s r : Int) (s.rails[r].loop.u + divHalfUpI (((s.rails[r].loop.co.pole : Int) + 1) *
          ((s.rails[r].loop.co.kp : Int) * t.rails[r].loop.e * 256 + t.rails[r].loop.i +
            (s.rails[r].loop.co.kd : Int) * (t.rails[r].loop.e - s.rails[r].loop.e) * 4096 - s.rails[r].loop.u * 65536)) (256 * 65536)) ∧
        (∀ ph ∈ activePhases s r, s.phases[ph].withheld = false →
          t.phases[ph].onTime = clampI 0 (4 * (uMax s r : Int)) (4 * t.rails[r].loop.u + s.phases[ph].trim)) ∧
        (∀ (j : Nat) (ph : Fin 56) (uv : Nat), (railPhases s r)[j]? = some ph → imon[j]? = some uv →
          t.phases[ph].iAvg = phaseCurrent s.phases[ph] uv) ∧
        (∀ j : Fin 28, j ≠ r → t.rails[j] = s.rails[j])) ∧
      (∀ m, epochNext s r = false → exec (.rotationEpoch r m) s = .next s) ∧
      (∀ m, epochNext s r = true → exec (.rotationEpoch r m) s = exec (.periodBoundary r m) s) ∧
      (s.rails[r].enabled = true → gangOfRail s r = none → (epochNext s r = true ↔ railN s r ≤ s.rails[r].loop.epochCnt + 1)) ∧
      (dieArmed s = true → s.rails[r].enabled = true → gangOfRail s r = none → s.rails[r].dyn.readdPend = false →
        s.rails[r].dyn.shedDue = false → leavingPhases s r = [] → railN s r ≤ s.rails[r].loop.epochCnt + 1 →
        ∃ t, exec (.rotationEpoch r []) s = .next t ∧ t.rails[r].loop.lead = 0 ∧ t.rails[r].loop.epochCnt = 0 ∧
        t.rails[r].loop.strideSet = s.rotStride r ∧ t.rails[r].loop.rotOn = s.rotEn r ∧
        t.rails[r].loop.stride = effStride (railN s r) (s.rotStride r) ∧
        (∀ j : Fin 28, j ≠ r → t.rails[j] = s.rails[j]) ∧ t = { s with rails := t.rails, phases := t.phases, gangs := t.gangs, dies := t.dies }) ∧
      (∃ t, exec (.balanceUpdate r) s = .next t ∧
        (∀ ph ∈ railPhases s r, t.phases[ph].balSum = 0 ∧ t.phases[ph].balNum = 0 ∧ t.phases[ph].gain = s.phImonGain ph ∧
          t.phases[ph].ofs = s.phImonOfs ph) ∧
        ((s.balEn r = false ∨ s.rails[r].enabled = false) → s.rails[r].loop.balDisabling = false → ∀ ph : Fin 56, t.phases[ph].trim = s.phases[ph].trim) ∧
        (s.rails[r].loop.balDisabling = true → ∀ ph ∈ railPhases s r, t.phases[ph].trim = trimToZero s.phases[ph].trim) ∧
        (∀ ph, ph ∉ railPhases s r → t.phases[ph] = s.phases[ph]) ∧ t = { s with rails := t.rails, phases := t.phases, dies := t.dies }))

/-- The effective stride of a rail of N phases is coprime to N. (R172) -/
def Obligations.StrideCoprime : Prop :=
  ∀ n st : Nat,
    (n < 2 → effStride n st = 0) ∧
    (2 ≤ n → Nat.gcd (effStride n st) n = 1 ∧ 1 ≤ effStride n st ∧
      effStride n st ≤ (if st % n = 0 then 1 else st % n) ∧
      ∀ d, effStride n st < d → d ≤ (if st % n = 0 then 1 else st % n) → Nat.gcd d n ≠ 1)

/-- Ganged groups: the handshake of a change, holds and strobes. (R181, R182, R183, R184, R185, R186, R223, R264) One change at a time, and
which of them is requested again (log 46), is the model's reading. -/
def Obligations.GangHandshake : Prop :=
  ∀ (s : State) (g : Fin 4),
    (∀ c, s.gangs[g].phase = .formed → s.gangs[g].change = none →
      exec (.gangChangeRequest g c) s = .next { s with gangs := vmod s.gangs g fun x =>
        { x with change := some c, waiting := followers s g, epochDue := false } }) ∧
    (∀ c, (s.gangs[g].phase ≠ .formed ∨ s.gangs[g].change ≠ none) → exec (.gangChangeRequest g c) s = .next s) ∧
    (s.gangs[g].waiting = [] → exec (.gangAckTimeout g) s = .next s) ∧
    (s.gangs[g].waiting ≠ [] → ∃ t, exec (.gangAckTimeout g) s = .next t ∧
      ((∀ r, gangRail s g = some r → s.rails[r].dyn.shedDue = false ∨ shedAsked s r = true ∨ activePhases s r = []) →
        t.gangs[g].change = none ∧ t.gangs[g].waiting = []) ∧
      t.gangs[g].epochDue = false ∧ t.gangs[g].phase = s.gangs[g].phase ∧
      (s.stationkeep = false → ∀ j : Fin 4, j ≠ g → t.gangs[j] = s.gangs[j]) ∧ t.part = s.part ∧ t.settings = s.settings ∧
      t.hamper = s.hamper ∧ t.clk = s.clk) ∧
    (∀ k, diePresent s k = false → exec (.gangChangeAck g k) s = .fault .absentInPart ∧
      exec (.syncStrobeLoss g k) s = .fault .absentInPart ∧ exec (.followerHoldEnd g k) s = .fault .absentInPart ∧
      exec (.balanceAverageTimeout g k) s = .fault .absentInPart) ∧
    (∀ k, diePresent s k = true →
      (s.gangs[g].waiting.contains k = false → exec (.gangChangeAck g k) s = .next s) ∧
      (s.gangs[g].waiting.contains k = true → ∃ t, exec (.gangChangeAck g k) s = .next t ∧
        t.gangs[g].waiting = s.gangs[g].waiting.filter (fun j => decide (j ≠ k)) ∧ t.dies[k].pendChange = s.gangs[g].change ∧
        (t.gangs[g].epochDue = true ↔ ∀ j ∈ s.gangs[g].waiting, j = k) ∧ t.gangs[g].change = s.gangs[g].change ∧ t = { s with gangs := t.gangs, dies := t.dies }) ∧
      (∀ ns, ns < 20 → exec (.followerEpochStrobe g k ns) s = .next s) ∧
      (∀ ns, 40 ≤ ns → exec (.followerEpochStrobe g k ns) s = exec (.followerReaddStrobe g k ns) s) ∧
      (∀ ns, 20 ≤ ns → ns < 40 → (followers s g).contains k = true → gangStands s g = true → s.dies[k].ownLead ≠ 0 →
        ∃ t, exec (.followerEpochStrobe g k ns) s = .next t ∧ t.dies[k].ownLead = 0 ∧
          t.gangs[g].rotErr = satAdd max16 s.gangs[g].rotErr 1 ∧ t = { s with nv := t.nv, links := t.links, gangs := t.gangs, dies := t.dies, log := t.log, evc := t.evc, tw := t.tw }) ∧
      (∀ ns, ns < 40 → s.dies[k].ownLead = 0 → exec (.followerEpochStrobe g k ns) s = .next s) ∧
      (∀ ns, ns < 40 → exec (.followerReaddStrobe g k ns) s = .next s) ∧
      (∀ ns, 40 ≤ ns → (followers s g).contains k = true → gangStands s g = true →
        ∃ t, exec (.followerReaddStrobe g k ns) s = .next t ∧ t.dies[k].pendChange = none ∧ t.dies[k].ownLead = 0 ∧
          (∀ ph ∈ diePhases k, s.phLoop ph = 0 → t.phases[ph].run = .active) ∧
          (s.dies[k].ownLead ≠ 0 → t.gangs[g].rotErr = satAdd max16 s.gangs[g].rotErr 1) ∧ t = { s with nv := t.nv, links := t.links, rails := t.rails, phases := t.phases, gangs := t.gangs, dies := t.dies, log := t.log, evc := t.evc, tw := t.tw }) ∧
      ((followers s g).contains k = true → gangStands s g = true → s.dies[k].holding = false → s.dies[k].held = false →
        ∃ t, exec (.syncStrobeLoss g k) s = .next t ∧ t.dies[k].holding = true ∧ t.dies[k].holdWhy = 2 ∧ t = { s with links := t.links, gangs := t.gangs, dies := t.dies, evc := t.evc, tw := t.tw }) ∧
      (s.dies[k].holding = true → (gangDies s g).contains k = true → s.logAReset = false →
        ∃ t, exec (.followerHoldEnd g k) s = .next t ∧ t.gangs[g].phase = .failed ∧ t.dies[k].held = true ∧
          t.dies[k].holding = false ∧ t.faultLine = true ∧ t.safeN = true ∧ t.boot = s.boot ∧ t.settings = s.settings) ∧
      (gangStands s g = true → (gangDies s g).contains k = true →
        exec (.balanceAverageTimeout g k) s = .next { s with dies := vmod s.dies k fun d => { d with balFrozen := true } }))

/-- Voltage commands by object and by window, the end of a slew and a qualified transition. (R5, R196, R197, R198, R199, R202, R203, R206,
R208, R270, R466, R473) Slew and demand rounding, and two targets of one pin step (log 44), are the model's reading. -/
def Obligations.VoltageCommands : Prop :=
  ∀ (s : State) (r : Fin 28),
    (∀ (p : Port) (mv : Nat) (row : ObjRow), answering s = true → checkWrite s p (0x3100 + r) 0x01 = .ok row →
      (trimHolds s r = true → exec (.railVsetWrite p r mv) s = .next { s with ack := .abort .state }) ∧
      (trimHolds s r = false → s.links[railDie r].phase ≠ .up → exec (.railVsetWrite p r mv) s = .next { s with
        settings := mapPut (okey (0x3100 + r) 0x01) mv s.settings, ack := .done,
        links := vmod s.links (railDie r) fun l =>
          { l with helm := waitFrame ⟨0, 0, 0, .command (.setTarget r mv (s.railSlew r) 2), 0⟩ l.helm } }) ∧
      (trimHolds s r = false → s.links[railDie r].phase = .up → helmFree s (railDie r) = true → cmdBlocked s r = true →
        ∃ t, exec (.railVsetWrite p r mv) s = .next t ∧ t.ack = .done ∧
          t.settings = mapPut (okey (0x3100 + r) 0x01) mv s.settings ∧
          t.rails = vmod s.rails r (fun x => { x with dyn := { x.dyn with held := true } }) ∧ t = { s with settings := t.settings, links := t.links, rails := t.rails, ack := t.ack }) ∧
      (trimHolds s r = false → s.links[railDie r].phase = .up → helmFree s (railDie r) = true → cmdBlocked s r = false →
        1920 * 65536 ≤ pinTarget mv (s.railDiv r) → pinTarget mv (s.railDiv r) ≤ 11520 * 65536 →
        ∃ t, exec (.railVsetWrite p r mv) s = .next t ∧ t.ack = .done ∧
          t.settings = mapPut (okey (0x3100 + r) 0x01) mv s.settings ∧
          (s.rails[r].dyn.target = pinTarget mv (s.railDiv r) → s.rails[r].dyn.src ≠ 0 → t.rails = s.rails) ∧
          (s.rails[r].dyn.target ≠ pinTarget mv (s.railDiv r) → t.rails[r].dyn.target = pinTarget mv (s.railDiv r) ∧
            t.rails[r].dyn.inc = slewInc (s.railSlew r) (s.railDiv r) ∧ t.rails[r].dyn.src = 2 ∧ t.rails[r].dyn.vtgt = mv ∧
            t.rails[r].dyn.held = false ∧ t.rails[r].dyn.cmdCnt = satAdd max32 s.rails[r].dyn.cmdCnt 1) ∧
          t.rails[r].dyn.vsp = s.rails[r].dyn.vsp ∧ t.rails[r].prot = s.rails[r].prot ∧ t.rails[r].loop = s.rails[r].loop ∧
          (∀ j : Fin 28, j ≠ r → t.rails[j] = s.rails[j]) ∧ t = { s with settings := t.settings, links := t.links, rails := t.rails, ack := t.ack })) ∧
    (∀ (h : Fin 2) (j : Fin 8) (mv : Nat), (s.pwr.oldChart = true ∧ 4 ≤ j.val → exec (.vsetWindowWrite h j mv) s = .next s) ∧
      (twAnswers s h = false → exec (.vsetWindowWrite h j mv) s = .next s) ∧
      (¬(s.pwr.oldChart = true ∧ 4 ≤ j.val) → twAnswers s h = true →
        (s.update.pause = true → exec (.vsetWindowWrite h j mv) s = .next (ptrPast h (regFirst s (.vset j) + (regAt s (regFirst s (.vset j))).size)
            (wrSet h .busy (regFirst s (.vset j)) s))) ∧
        (s.update.pause = false → windowRailW s h j = none →
          exec (.vsetWindowWrite h j mv) s = .next (ptrPast h (regFirst s (.vset j) + (regAt s (regFirst s (.vset j))).size)
            (wrSet h .notPermitted (regFirst s (.vset j)) s))) ∧
        (s.update.pause = false → windowRailW s h j = some r → trimHolds s r = true →
          exec (.vsetWindowWrite h j mv) s = .next (ptrPast h (regFirst s (.vset j) + (regAt s (regFirst s (.vset j))).size)
            (wrSet h .state (regFirst s (.vset j)) s))) ∧
        (s.update.pause = false → windowRailW s h j = some r → trimHolds s r = false →
          (s.links[railDie r].phase ≠ .up → ∃ t, exec (.vsetWindowWrite h j mv) s = .next t ∧
            t.settings = mapPut (okey (0x3100 + r) 0x01) (mv % 65536) s.settings ∧ t.tw[h].wrResult = .accepted ∧
            t.tw[h].wrOffset = regFirst s (.vset j) ∧
            t.tw[h].pointer = (regFirst s (.vset j) + (regAt s (regFirst s (.vset j))).size) % (if s.pwr.oldChart = true then 128 else 256) ∧
            t.links = vmod s.links (railDie r) (fun l => { l with
              helm := waitFrame ⟨0, 0, 0, .command (.setTarget r (mv % 65536) (s.railSlew r) (3 + h)), 0⟩ l.helm }) ∧
            t = { s with settings := t.settings, links := t.links, tw := t.tw }) ∧
          (s.links[railDie r].phase = .up → helmFree s (railDie r) = true → ∃ t, exec (.vsetWindowWrite h j mv) s = .next t ∧
            t.settings = mapPut (okey (0x3100 + r) 0x01) (mv % 65536) s.settings ∧ t.tw[h].wrResult = .accepted ∧
            t.tw[h].wrOffset = regFirst s (.vset j) ∧
            t.tw[h].pointer = (regFirst s (.vset j) + (regAt s (regFirst s (.vset j))).size) % (if s.pwr.oldChart = true then 128 else 256) ∧
            t.rails = (applyTarget r (mv % 65536) (s.railSlew r) (3 + h) s).rails ∧ t = { s with settings := t.settings, links := t.links, rails := t.rails, tw := t.tw })))) ∧
    (railPresent s r = false → exec (.slewTargetReached r) s = .fault .absentInPart ∧
      exec (.transitionQualified r) s = .fault .absentInPart) ∧
    (railPresent s r = true → s.rails[r].dyn.moving = false → exec (.slewTargetReached r) s = .next s) ∧
    (railPresent s r = true → s.rails[r].dyn.moving = true →
      exec (.slewTargetReached r) s = .next (seqSettle (rampEnd r (slewReached r s))) ∧
      (s.rails[r].prot.ovLatch = true → slewReached r s = s) ∧
      ((∀ g : Fin 8, s.groups[g].phase ≠ .poweringUp) → (∀ q : Fin 28, s.rails[q].prot.vdrDue = false ∧ s.sk.due[q] = false) →
        s.rails[r].prot.ovLatch = false →
        (s.rails[r].dyn.rampDown = false → s.rails[r].fc.trimDisabling = false → exec (.slewTargetReached r) s = .next { s with
          rails := vmod s.rails r fun x => { x with dyn := { x.dyn with vsp := x.dyn.target, moving := false, softDone := true } } }) ∧
        (s.rails[r].dyn.rampDown = false → s.rails[r].fc.trimDisabling = true → ∃ t, exec (.slewTargetReached r) s = .next t ∧
          t.rails[r].dyn = { s.rails[r].dyn with vsp := s.rails[r].dyn.target, moving := false, softDone := true } ∧
          t.rails[r].fc.trimDisabling = false ∧
          (t.rails[r].fc.trimActive = true ↔ s.rails[r].fc.trimActive = true ∨
            (trimMay s r = true ∧ s.rails[r].enabled = true ∧ s.rails[r].prot.pgRose = true)) ∧
          (∀ j : Fin 28, j ≠ r → t.rails[j] = s.rails[j]) ∧ t = { s with rails := t.rails }) ∧
        (s.rails[r].dyn.rampDown = true → s.rails[r].disabling = true → s.rails[r].enHeld = false →
          ∃ t, exec (.slewTargetReached r) s = .next t ∧ t.rails[r].enabled = false ∧ t.rails[r].dyn.moving = false ∧
            (∀ j : Fin 28, j ≠ r → t.rails[j] = s.rails[j]) ∧ t = { s with links := t.links, rails := t.rails, evc := t.evc, tw := t.tw }))) ∧
    (railPresent s r = true → s.rails[r].dyn.transition = true → s.rails[r].dyn.moving = false →
      s.rails[r].dyn.vsp = s.rails[r].dyn.target →
      exec (.transitionQualified r) s = .next (checkSteps (railEvent r { s with
        rails := vmod s.rails r fun x => { x with dyn := { x.dyn with transition := false } } })) ∧
      ((∀ g : Fin 8, s.groups[g].phase ≠ .poweringUp) → ∃ t, exec (.transitionQualified r) s = .next t ∧
        t.rails = vmod s.rails r (fun x => { x with dyn := { x.dyn with transition := false } }) ∧ t = { s with links := t.links, rails := t.rails, evc := t.evc, tw := t.tw })) ∧
    (railPresent s r = true → (s.rails[r].dyn.transition = false ∨ s.rails[r].dyn.moving = true ∨
      s.rails[r].dyn.vsp ≠ s.rails[r].dyn.target) → exec (.transitionQualified r) s = .next s)

/-- The step alarm: assertion, release, time-out and its disable. (R5, R44, R114, R210, R211, R212, R214, R220, R224, R237) -/
def Obligations.StepAlarm : Prop :=
  ∀ (s : State) (r : Fin 28),
    (railPresent s r = false → exec (.stepAlarmAssert r) s = .fault .absentInPart ∧
      exec (.stepAlarmRelease r) s = .fault .absentInPart ∧ exec (.stepTmaxExpire r) s = .fault .absentInPart) ∧
    (railPresent s r = true → (s.rails[r].dyn.stepArmed = false ∨ s.stepEn r = false ∨
      s.rails[r].dyn.stepDisabling = true ∨ s.rails[r].dyn.stepAlarm = true ∨ s.rails[r].dyn.stepBlocked = true) → exec (.stepAlarmAssert r) s = .next s) ∧
    (railPresent s r = true → s.rails[r].dyn.stepArmed = true → s.stepEn r = true → s.rails[r].dyn.stepDisabling = false →
      s.rails[r].dyn.stepAlarm = false →
      s.rails[r].dyn.stepBlocked = false → ∃ t, exec (.stepAlarmAssert r) s = .next t ∧ t.rails[r].dyn.stepAlarm = true ∧
        t.rails[r].dyn.stepCnt = satAdd max32 s.rails[r].dyn.stepCnt 1 ∧
        (s.rails[r].stationKept = false → t.rails[r].dyn.holdoff = true ∧ t.rails[r].dyn.readdPend = true ∧
          t.rails[r].dyn.shedDue = false) ∧
        (s.rails[r].stationKept = true → t.rails[r].dyn.holdoff = s.rails[r].dyn.holdoff ∧
          t.rails[r].dyn.readdPend = s.rails[r].dyn.readdPend ∧ ∀ ph : Fin 56, t.phases[ph].run = s.phases[ph].run) ∧
        t.rails[r].pulsed = true ∧ (∀ ph ∈ runningPhases s r, t.phases[ph].pulsed = true) ∧
        (∀ ph, ph ∉ railPhases s r → t.phases[ph] = s.phases[ph]) ∧
        t.rails[r].dyn.vsp = s.rails[r].dyn.vsp ∧ t.rails[r].prot = s.rails[r].prot ∧
        (∀ j : Fin 28, j ≠ r → t.rails[j] = s.rails[j]) ∧ t = { s with links := t.links, rails := t.rails, phases := t.phases, gangs := t.gangs, evc := t.evc, tw := t.tw }) ∧
    (railPresent s r = true → ∃ t, exec (.stepAlarmRelease r) s = .next t ∧ t.rails[r].dyn.stepAlarm = false ∧
      t.rails[r].dyn.stepBlocked = false ∧ t.rails[r].dyn.stepCnt = s.rails[r].dyn.stepCnt ∧
      t.rails[r].dyn.tmaxCnt = s.rails[r].dyn.tmaxCnt ∧ t.rails[r].dyn.holdoff = s.rails[r].dyn.holdoff ∧
      (∀ j : Fin 28, j ≠ r → t.rails[j] = s.rails[j]) ∧ t = { s with rails := t.rails, gangs := t.gangs }) ∧
    (railPresent s r = true → s.rails[r].dyn.stepAlarm = false → exec (.stepTmaxExpire r) s = .next s) ∧
    (railPresent s r = true → s.rails[r].dyn.stepAlarm = true → ∃ t, exec (.stepTmaxExpire r) s = .next t ∧
      t.rails[r].dyn.stepAlarm = false ∧ t.rails[r].dyn.stepBlocked = true ∧
      t.rails[r].dyn.tmaxCnt = satAdd max32 s.rails[r].dyn.tmaxCnt 1 ∧ t.rails[r].dyn.stepCnt = s.rails[r].dyn.stepCnt ∧
      (∀ j : Fin 28, j ≠ r → t.rails[j] = s.rails[j]) ∧ t = { s with rails := t.rails, gangs := t.gangs }) ∧
    (∀ (p : Port) (row : ObjRow), answering s = true → checkWrite s p (0x3100 + r) 0x0A = .ok row →
      exec (.stepAlarmDisable p r) s = .next (if s.stepEn r = true ∧ s.rails[r].dyn.stepDisabling = false ∧ s.rails[r].enabled = true then
        { s with
          settings := mapPut (okey (0x3100 + r) 0x0A) 0 s.settings, ack := .done,
          rails := vmod s.rails r fun x => { x with dyn := { x.dyn with stepDisabling := true, stepBndry := false } } }
        else { s with settings := mapPut (okey (0x3100 + r) 0x0A) 0 s.settings, ack := .done }))

/-- Phase shedding: dwell, shed, completion, re-add threshold, re-add epoch, hold-off, disable. (R5, R114, R215, R216, R217, R218, R220, R222,
R223, R224, R225, R237) That a shed waits behind the settings that differ (log 46) is the model's reading. -/
def Obligations.PhaseShedding : Prop :=
  ∀ (s : State) (r : Fin 28),
    (railPresent s r = false → exec (.shedDwellExpire r) s = .fault .absentInPart ∧ (∀ m, exec (.shedStart r m) s = .fault .absentInPart ∧
        exec (.shedComplete r m) s = .fault .absentInPart ∧ exec (.readdEpoch r m) s = .fault .absentInPart) ∧ (∀ m, exec (.addThreshold r m) s = .fault .absentInPart) ∧
      exec (.shedHoldoffExpire r) s = .fault .absentInPart) ∧
    (railPresent s r = true → (dwellHolds s r = false ∨ s.rails[r].dyn.shedDue = true) → exec (.shedDwellExpire r) s = .next s) ∧
    (railPresent s r = true → dwellHolds s r = true → s.rails[r].dyn.shedDue = false → gangOfRail s r = none →
      exec (.shedDwellExpire r) s = .next { s with rails := vmod s.rails r fun x => { x with
        dyn := { x.dyn with shedDue := true, dwellRun := false } } }) ∧
    (∀ g, railPresent s r = true → dwellHolds s r = true → s.rails[r].dyn.shedDue = false → gangOfRail s r = some g →
      ∃ t, exec (.shedDwellExpire r) s = .next t ∧ t.rails[r].dyn.shedDue = true ∧
        (∀ j : Fin 4, j ≠ g → t.gangs[j] = s.gangs[j]) ∧ t = { s with rails := t.rails, gangs := t.gangs }) ∧
    (railPresent s r = true → ∀ m,
      ((dieArmed s = false ∨ shedNext s r = false) → exec (.shedStart r m) s = .next s) ∧
      (shedNext s r = true → exec (.shedStart r m) s = exec (.periodBoundary r m) s) ∧
      ((dieArmed s = false ∨ ∀ ph ∈ leavingPhases s r, s.phases[ph].leaveCnt < 3) → exec (.shedComplete r m) s = .next s) ∧
      (∀ ph ∈ leavingPhases s r, 3 ≤ s.phases[ph].leaveCnt → exec (.shedComplete r m) s = exec (.periodBoundary r m) s) ∧
      ((dieArmed s = false ∨ s.rails[r].dyn.readdPend = false) → exec (.readdEpoch r m) s = .next s) ∧
      (s.rails[r].dyn.readdPend = true → exec (.readdEpoch r m) s = exec (.periodBoundary r m) s)) ∧
    (∀ ph, railPresent s r = true → dieArmed s = true → s.rails[r].enabled = true → gangOfRail s r = none →
      s.rails[r].dyn.readdPend = false → s.rails[r].dyn.shedDue = true → leavingPhases s r = [] →
      (activePhases s r).getLast? = some ph → ∃ t, exec (.shedStart r []) s = .next t ∧ t.phases[ph].run = .leaving ∧
        t.phases[ph].leaveCnt = 0 ∧ t.rails[r].dyn.shedDue = false ∧ (∀ j : Fin 56, j ≠ ph → t.phases[j].run = s.phases[j].run) ∧
        (∀ j : Fin 28, j ≠ r → t.rails[j] = s.rails[j]) ∧ t = { s with rails := t.rails, phases := t.phases, gangs := t.gangs, dies := t.dies }) ∧
    (railPresent s r = true → dieArmed s = true → s.rails[r].enabled = true → gangOfRail s r = none → leavingPhases s r ≠ [] →
      (∀ ph ∈ leavingPhases s r, 3 ≤ s.phases[ph].leaveCnt) → s.rails[r].dyn.readdPend = false → s.rails[r].dyn.shedDue = false →
      ∃ t, exec (.shedComplete r []) s = .next t ∧ (∀ ph, ph ∉ leavingPhases s r → t.phases[ph].run = s.phases[ph].run) ∧
        (s.rails[r].dyn.stepAlarm = false → s.rails[r].dyn.holdoff = false → s.rails[r].stationKept = false →
          (∀ ph ∈ leavingPhases s r, t.phases[ph].run = .shed) ∧ t.rails[r].loop.lead = 0 ∧
          t.rails[r].dyn.shedCnt = satAdd max32 s.rails[r].dyn.shedCnt 1 ∧ t.rails[r].dyn.keepCnt = s.rails[r].dyn.keepCnt) ∧
        ((s.rails[r].dyn.stepAlarm = true ∨ s.rails[r].dyn.holdoff = true ∨ s.rails[r].stationKept = true) →
          (∀ ph ∈ leavingPhases s r, t.phases[ph].run = .active) ∧ t.rails[r].dyn.shedCnt = s.rails[r].dyn.shedCnt ∧
          t.rails[r].dyn.keepCnt = satAdd max32 s.rails[r].dyn.keepCnt (leavingPhases s r).length) ∧
        (∀ j : Fin 28, j ≠ r → t.rails[j] = s.rails[j]) ∧ t = { s with rails := t.rails, phases := t.phases, gangs := t.gangs, dies := t.dies }) ∧
    (railPresent s r = true → dieArmed s = true → s.rails[r].enabled = true → s.rails[r].dyn.readdPend = true →
      ∃ t, exec (.readdEpoch r []) s = .next t ∧ (∀ ph ∈ railPhases s r, t.phases[ph].run = .active) ∧
        (∀ ph, ph ∉ railPhases s r → t.phases[ph] = s.phases[ph]) ∧
        t.rails[r].dyn.readdPend = false ∧ t.rails[r].dyn.shedDue = false ∧ t.rails[r].loop.lead = 0 ∧
        t.rails[r].dyn.phmDisabling = false ∧ t.rails[r].dyn.readdCnt = satAdd max32 s.rails[r].dyn.readdCnt 1 ∧
        t.rails[r].dyn.keepCnt = satAdd max32 s.rails[r].dyn.keepCnt ((leavingPhases s r).length + bit (shedAsked s r)) ∧
        (∀ g, gangOfRail s r = some g → t.gangs[g].change = none) ∧
        (∀ j : Fin 28, j ≠ r → t.rails[j] = s.rails[j]) ∧ t = { s with rails := t.rails, phases := t.phases, gangs := t.gangs, dies := t.dies }) ∧
    (∀ m, railPresent s r = true → ¬(s.phmIAdd r * (activePhases s r).length < m ∧ anyNotActive s r = true ∧
      s.rails[r].stationKept = false) → exec (.addThreshold r m) s = .next { s with
        rails := vmod s.rails r fun x => { x with loop := { x.loop with iFilt := (m : Int) * 65536 } } }) ∧
    (∀ m, railPresent s r = true → s.phmIAdd r * (activePhases s r).length < m → anyNotActive s r = true →
      s.rails[r].stationKept = false → ∃ t, exec (.addThreshold r m) s = .next t ∧ railMa t r = m ∧
        t.rails[r].dyn.holdoff = true ∧ t.rails[r].dyn.readdPend = true ∧ t.rails[r].dyn.shedDue = false ∧
        (∀ j : Fin 28, j ≠ r → t.rails[j] = s.rails[j]) ∧ t = { s with rails := t.rails, phases := t.phases }) ∧
    (railPresent s r = true → exec (.shedHoldoffExpire r) s = .next (if s.rails[r].dyn.stepAlarm = true then s else
      { s with rails := vmod s.rails r fun x => { x with dyn := { x.dyn with holdoff := false } } })) ∧
    (∀ (p : Port) (row : ObjRow), answering s = true → checkWrite s p (0x3100 + r) 0x0F = .ok row →
      (phmOn s r = false ∨ s.rails[r].enabled = false ∨ s.rails[r].stationKept = true → exec (.phmDisable p r) s = .next
        { s with settings := mapPut (okey (0x3100 + r) 0x0F) 0 s.settings, ack := .done }) ∧
      (phmOn s r = true → s.rails[r].enabled = true → s.rails[r].stationKept = false → ∃ t, exec (.phmDisable p r) s = .next t ∧ t.ack = .done ∧
        t.settings = mapPut (okey (0x3100 + r) 0x0F) 0 s.settings ∧ t.rails[r].dyn.phmDisabling = true ∧
        t.rails[r].dyn.readdPend = true ∧ (∀ j : Fin 28, j ≠ r → t.rails[j] = s.rails[j]) ∧ t = { s with settings := t.settings, rails := t.rails, phases := t.phases, ack := t.ack }))

/-- Forecast hints and bus trim. (R5, R226, R227, R228, R229, R230, R231, R232, R234, R237, R240, R473) A hint repeated within device time d +
1 (log 84) and no hint register in the Old Chart map (log 71) are the model's choice. -/
def Obligations.HintsAndBusTrim : Prop :=
  ∀ (s : State) (r : Fin 28),
    (railPresent s r = false → exec (.forecastDeadline r) s = .fault .absentInPart ∧
      exec (.forecastInhibitEnd r) s = .fault .absentInPart ∧ exec (.trimPeriod r) s = .fault .absentInPart ∧
      exec (.trimFreeze r) s = .fault .absentInPart) ∧
    (∀ h : Fin 2, (hintAgain h s = true ∨ ∀ q : Fin 28, railPresent s q = true → assigned s h q = true → s.fcPinEn q = false) →
      exec (.hintPinEdge h) s = .next { s with hintAt := vset s.hintAt h (some s.devTime) }) ∧
    (∀ h : Fin 2, (hintAgain h s = true ↔ ∃ d, s.hintAt[h] = some d ∧ s.devTime ≤ d + 1)) ∧
    (∀ h : Fin 2, (∀ k : Fin 7, s.links[k].phase = .up → helmFree s k = true) → ∃ t, exec (.hintPinEdge h) s = .next t ∧
      t.hintAt = vset s.hintAt h (some s.devTime) ∧
      (∀ q : Fin 28, t.rails[q].enabled = s.rails[q].enabled ∧ t.rails[q].dyn.vsp = s.rails[q].dyn.vsp ∧
        t.rails[q].dyn.target = s.rails[q].dyn.target ∧ t.rails[q].prot = s.rails[q].prot ∧
        (hintAgain h s = false → railPresent s q = true → assigned s h q = true → s.fcPinEn q = true →
          s.links[railDie q].phase = .up → s.fcEn q = true → s.rails[q].prot.pg = true → s.rails[q].stationKept = false →
          t.rails[q].fc.fcCnt = satAdd max32 s.rails[q].fc.fcCnt 1)) ∧ t = { s with links := t.links, rails := t.rails, phases := t.phases, hintAt := t.hintAt }) ∧
    (∀ (p : Port) (v : Nat) (row : ObjRow), answering s = true → checkWrite s p (0x3100 + r) 0x1C = .ok row →
      s.links[railDie r].phase ≠ .up → v < 2 ^ 23 → 1 ≤ field v 22 16 → field v 22 16 ≤ 100 →
      exec (.fcReqWrite p r v) s = .next { s with
        ack := .done,
        links := vmod s.links (railDie r) fun l =>
          { l with helm := waitFrame ⟨0, 0, 0, .command (.hint r (field v 15 0) (field v 22 16)), 0⟩ l.helm } }) ∧
    (∀ (p : Port) (v : Nat) (row : ObjRow), answering s = true → checkWrite s p (0x3100 + r) 0x1C = .ok row →
      exec (.fcReqWrite p r v) s = .next { fcRequest r v s with ack := .done }) ∧
    (∀ (p : Port) (v : Nat) (row : ObjRow), answering s = true → checkWrite s p (0x3100 + r) 0x1C = .ok row →
      s.links[railDie r].phase = .up → helmFree s (railDie r) = true → s.fcEn r = true → s.rails[r].prot.pg = true →
      s.rails[r].stationKept = false → ∃ t, exec (.fcReqWrite p r v) s = .next t ∧ t.ack = .done ∧
        t.rails[r].fc.fcCnt = satAdd max32 s.rails[r].fc.fcCnt 1 ∧
        (phmOn s r = true → v < 2 ^ 23 → 1 ≤ field v 22 16 → field v 22 16 ≤ 100 →
          t.rails[r].fc.hints = s.rails[r].fc.hints ++ [⟨field v 15 0, field v 22 16, false⟩]) ∧
        (phmOn s r = false → t.rails[r].fc.hints = s.rails[r].fc.hints) ∧
        (∀ j : Fin 28, j ≠ r → t.rails[j] = s.rails[j]) ∧ t = { s with links := t.links, rails := t.rails, phases := t.phases, ack := t.ack }) ∧
    (∀ (h : Fin 2) (j : Fin 8) (v : Nat), (s.pwr.oldChart = true → exec (.fcWindowWrite h j v) s = .next s) ∧
      (twAnswers s h = false → exec (.fcWindowWrite h j v) s = .next s) ∧
      (s.pwr.oldChart = false → twAnswers s h = true → s.update.pause = true →
        exec (.fcWindowWrite h j v) s = .next (ptrPast h (regFirst s (.fc j) + (regAt s (regFirst s (.fc j))).size)
            (wrSet h .busy (regFirst s (.fc j)) s))) ∧
      (s.pwr.oldChart = false → twAnswers s h = true → s.update.pause = false → windowRailW s h j = none →
        exec (.fcWindowWrite h j v) s = .next (ptrPast h (regFirst s (.fc j) + (regAt s (regFirst s (.fc j))).size)
            (wrSet h .notPermitted (regFirst s (.fc j)) s))) ∧
      (s.pwr.oldChart = false → twAnswers s h = true → s.update.pause = false → windowRailW s h j = some r →
        exec (.fcWindowWrite h j v) s =
          .next (ptrPast h (regFirst s (.fc j) + (regAt s (regFirst s (.fc j))).size)
            (wrSet h .accepted (regFirst s (.fc j)) (fcRequest r (v % 16777216) s))))) ∧
    (railPresent s r = true → (∀ x ∈ s.rails[r].fc.hints, x.due = true) → exec (.forecastDeadline r) s = .next s) ∧
    (railPresent s r = true → (∃ x ∈ s.rails[r].fc.hints, x.due = false) → anyNotActive s r = false →
      exec (.forecastDeadline r) s = .next { s with rails := vmod s.rails r fun x => { x with
        fc := { x.fc with hints := markDue x.fc.hints } } }) ∧
    (railPresent s r = true → (∃ x ∈ s.rails[r].fc.hints, x.due = false) → anyNotActive s r = true →
      ∃ t, exec (.forecastDeadline r) s = .next t ∧ t.rails = vmod s.rails r (fun x => { x with
        fc := { x.fc with hints := markDue x.fc.hints, lateCnt := satAdd max32 x.fc.lateCnt 1 } }) ∧ t = { s with nv := t.nv, rails := t.rails, log := t.log, evc := t.evc, tw := t.tw }) ∧
    (railPresent s r = true → exec (.forecastInhibitEnd r) s = .next { s with rails := vmod s.rails r fun x => { x with
      fc := { x.fc with hints := x.fc.hints.eraseP fun h => h.due } } }) ∧
    (railPresent s r = true → (s.rails[r].fc.trimActive = false ∨ s.rails[r].fc.trimStopped = true ∨
      s.rails[r].stationKept = true) → exec (.trimPeriod r) s = .next s) ∧
    (railPresent s r = true → s.rails[r].fc.trimActive = true → s.rails[r].fc.trimStopped = false →
      s.rails[r].stationKept = false → ∃ t, exec (.trimPeriod r) s = .next t ∧
        t.rails[r].fc.pdep = min max16 (pDep s r / 1000000).toNat ∧
        t.rails[r].fc.vtgt = pinsMv (trimPins s r (pDep s r)) (s.railDiv r) ∧
        t.rails[r].dyn.vsp = s.rails[r].dyn.vsp ∧ t.rails[r].dyn.cmdCnt = (if trimFreezeHolds s r = true ∨
          (s.rails[r].fc.trimFrozen = true ∧ s.rails[r].fc.freezeSeen = true) ∨ cmdBlocked s r = true ∨
          (s.rails[r].dyn.src ≠ 0 ∧ s.rails[r].dyn.target = trimPins s r (pDep s r)) then s.rails[r].dyn.cmdCnt
          else satAdd max32 s.rails[r].dyn.cmdCnt 1) ∧
        (trimFreezeHolds s r = true → t.rails[r].fc.trimFrozen = true ∧ t.rails[r].fc.freezeSeen = true ∧
          t.rails[r].dyn = { s.rails[r].dyn with moving := if s.rails[r].dyn.src = 5 then false else s.rails[r].dyn.moving }) ∧
        (trimFreezeHolds s r = false → t.rails[r].fc.freezeSeen = false ∧
          (t.rails[r].fc.trimFrozen = true ↔ s.rails[r].fc.trimFrozen = true ∧ s.rails[r].fc.freezeSeen = true)) ∧
        (trimRising s r = true → t.freeCtr = s.freeCtr) ∧
        (∀ j : Fin 28, j ≠ r → t.rails[j] = s.rails[j]) ∧ t = { s with rails := t.rails, freeCtr := t.freeCtr }) ∧
    (railPresent s r = true → exec (.trimFreeze r) s = .next (if s.rails[r].fc.trimActive = true ∧ s.rails[r].stationKept = false then
      { s with rails := vmod s.rails r fun x => { x with
        fc := { x.fc with trimFrozen := true, freezeSeen := true },
        dyn := { x.dyn with moving := if x.dyn.src = 5 then false else x.dyn.moving } } } else s)) ∧
    (∀ (p : Port) (row : ObjRow), answering s = true → checkWrite s p (0x3100 + r) 0x1F = .ok row →
      ∃ t, exec (.trimDisable p r) s = .next t ∧ t.ack = .done ∧
        t.settings = mapPut (okey (0x3100 + r) 0x1F) 0 s.settings ∧
        ((s.rails[r].fc.trimActive = false ∨ s.rails[r].stationKept = true) → t.rails = s.rails) ∧
        (s.rails[r].fc.trimActive = true → s.rails[r].stationKept = false → t.rails[r].fc.trimActive = false ∧ t.rails[r].fc.trimFrozen = false ∧
          t.rails[r].dyn.vsp = s.rails[r].dyn.vsp ∧
          (t.rails[r].fc.trimDisabling = true ↔ s.rails[r].dyn.vsp ≠ railTarget s r (s.railVset r)) ∧
          (cmdBlocked s r = false → t.rails[r].dyn.target = railTarget s r (s.railVset r) ∧ t.rails[r].dyn.inc = trimInc s r)) ∧
        (∀ j : Fin 28, j ≠ r → t.rails[j] = s.rails[j]) ∧ t = { s with settings := t.settings, rails := t.rails, ack := t.ack })

/-- Over-voltage trips and the rail fault clear. (R5, R115, R241, R243, R244, R245, R246, R247, R257, R258, R265) The packing of two values in
a log detail (log 58) and what follows a trip of a kept rail (log 21) are the model's choice. -/
def Obligations.OverVoltageAndClear : Prop :=
  ∀ (s : State) (r : Fin 28),
    (railPresent s r = false → ∀ v, exec (.ovAbsTrip r v) s = .fault .absentInPart ∧
      exec (.ovTrackingTrip r v) s = .fault .absentInPart) ∧
    (∀ v, railPresent s r = true → (dieArmed s = false ∨ railPhases s r = []) → exec (.ovAbsTrip r v) s = .next s) ∧
    (∀ v, railPresent s r = true → (dieArmed s = false ∨ s.rails[r].enabled = false ∨ s.rails[r].pulsed = false) →
      exec (.ovTrackingTrip r v) s = .next s) ∧
    (∀ v, railPresent s r = true → dieArmed s = true → railPhases s r ≠ [] → v ≤ mvUnits s.rails[r].prot.ovAbs →
      exec (.ovAbsTrip r v) s = .next { s with rails := vmod s.rails r fun x => { x with loop := { x.loop with vsense := v } } }) ∧
    (∀ v, railPresent s r = true → dieArmed s = true → s.rails[r].enabled = true → s.rails[r].pulsed = true →
      trackOver s r (senseCode s r v) = false →
      exec (.ovTrackingTrip r v) s = .next { s with rails := vmod s.rails r fun x => { x with loop := { x.loop with vsense := v } } }) ∧
    (∀ code : Nat, trackOver s r code = true ↔ 512 * 5 + 32 * s.ovTrkOfs r ≤ 5 * code) ∧
    (∀ v, railPresent s r = true → dieArmed s = true → railPhases s r ≠ [] → mvUnits s.rails[r].prot.ovAbs < v →
      s.rails[r].prot.ovLatch = true →
      ∃ t, exec (.ovAbsTrip r v) s = .next t ∧ t.rails = vmod s.rails r (fun x => { x with
        loop := { x.loop with vsense := v }, prot := { x.prot with fault := setBit x.prot.fault 0 } }) ∧
        (s.rails[r].prot.fault.testBit 0 = true → t.evc = s.evc ∧ t.links = s.links) ∧ t = { s with links := t.links, rails := t.rails, evc := t.evc, tw := t.tw }) ∧
    (∀ v, railPresent s r = true → dieArmed s = true → s.rails[r].enabled = true → s.rails[r].pulsed = true →
      trackOver s r (senseCode s r v) = true → s.rails[r].prot.ovLatch = true →
      ∃ t, exec (.ovTrackingTrip r v) s = .next t ∧ t.rails = vmod s.rails r (fun x => { x with
        loop := { x.loop with vsense := v }, prot := { x.prot with fault := setBit x.prot.fault 1 } }) ∧
        (s.rails[r].prot.fault.testBit 1 = true → t.evc = s.evc ∧ t.links = s.links) ∧ t = { s with links := t.links, rails := t.rails, evc := t.evc, tw := t.tw }) ∧
    (∀ (v : Nat) (c : Instr) (b : Nat), railPresent s r = true → dieArmed s = true → s.rails[r].prot.ovLatch = false →
      ((c = .ovAbsTrip r v ∧ b = 0 ∧ railPhases s r ≠ [] ∧ mvUnits s.rails[r].prot.ovAbs < v) ∨
        (c = .ovTrackingTrip r v ∧ b = 1 ∧ s.rails[r].enabled = true ∧ s.rails[r].pulsed = true ∧
          trackOver s r (senseCode s r v) = true)) →
      (gangOfRail s r = none → s.rails[r].stationKept = true → s.boot.step8 = true → ∃ t, exec c s = .next t ∧ t.sk.left = []) ∧
      (gangOfRail s r = none → s.rails[r].stationKept = true → s.rails[r].disabling = false → s.boot.step8 = false → ∃ t, exec c s = .next t ∧
        t.rails[r].prot.ovLatch = true ∧ t.rails[r].prot.ovTrips = satAdd max16 s.rails[r].prot.ovTrips 1 ∧
        t.rails[r].prot.fault = setBit (setBit s.rails[r].prot.fault b) 6 ∧ t.rails[r].loop.u = 0 ∧ t.rails[r].loop.i = 0 ∧
        t.rails[r].loop.vsense = v ∧ t.rails[r].dyn.moving = false ∧ t.rails[r].prot.uvTimer = false ∧
        t.rails[r].prot.ocTimer = false ∧ t.rails[r].stationKept = false ∧ t.rails[r].prot.pg = false ∧
        t.sk.left = s.sk.left ++ [⟨r.val, b, false⟩] ∧
        (∀ j : Fin 28, j ≠ r → t.rails[j] = s.rails[j]) ∧ t = { s with sk := t.sk, links := t.links, rails := t.rails, evc := t.evc, tw := t.tw }) ∧
      (∀ g, gangOfRail s r = some g → s.logAReset = false → s.sk.left = [] → ∃ t, exec c s = .next t ∧ t.faultLine = true ∧ t.safeN = true) ∧
      (gangOfRail s r = none → s.rails[r].stationKept = false →
        ∀ u, u = ovLatchSet r b { s with rails := vmod s.rails r fun x => { x with loop := { x.loop with vsense := v } } } →
        u.rails[r].prot.ovTrips = satAdd max16 s.rails[r].prot.ovTrips 1 ∧
        (s.rails[r].disabling = false → u.rails[r].prot.ovLatch = true ∧ u.rails[r].prot.fault = setBit s.rails[r].prot.fault b) ∧
        exec c s = .next (itemFault (railItem r) .overVoltage (logFault .railOv (railDie r + 1) r u.rails[r].prot.fault u)))) ∧
    (∀ (p : Port) (row : ObjRow), answering s = true → checkWrite s p (0x3200 + r) 0x0D = .ok row →
      (∀ v, v ≠ 1 → exec (.railFclr p r v) s = .next { s with ack := .done }) ∧
      (fclrRefused s r = true → exec (.railFclr p r 1) s = .next { s with ack := .abort .state }) ∧
      (fclrRefused s r = false → ∃ t, exec (.railFclr p r 1) s = .next t ∧ t.ack = .done ∧ t.rails[r].prot.fault = 0 ∧
        t.rails[r].prot.ovLatch = false ∧ t.rails[r].prot.faultLatch = false ∧ t.rails[r].enabled = false ∧
        (∀ j : Fin 28, j ≠ r → t.rails[j] = s.rails[j]) ∧ t = { s with links := t.links, rails := t.rails, items := t.items, evc := t.evc, tw := t.tw, ack := t.ack }))

/-- Power-good window, under-voltage and over-current timers, valley limit, qualification and hold. (R5, R241, R248, R249, R250, R251, R252,
R253, R256, R259, R260, R261) The scaling of a follower's current with halves rounded up (log 45) and its event that waits for the link
(log 40) are the model's reading. -/
def Obligations.FaultTimersAndPowerGood : Prop :=
  ∀ (s : State) (r : Fin 28),
    (railPresent s r = false → (∀ v, exec (.pgWindowChange r v) s = .fault .absentInPart) ∧
      exec (.uvTimerExpire r) s = .fault .absentInPart ∧ exec (.ocTimerExpire r) s = .fault .absentInPart ∧
      (∀ k m, exec (.ocCondition r k m) s = .fault .absentInPart) ∧ exec (.pgQualified r) s = .fault .absentInPart ∧
      exec (.pgHoldEnd r) s = .fault .absentInPart) ∧
    (∀ v k m, railPresent s r = true → dieArmed s = false → exec (.pgWindowChange r v) s = .next s ∧
      exec (.ocCondition r k m) s = .next s) ∧
    (∀ k m, railPresent s r = true → (railDies s r).contains k = false → exec (.ocCondition r k m) s = .next s) ∧
    (∀ v, railPresent s r = true → dieArmed s = true → ∃ t, exec (.pgWindowChange r v) s = .next t ∧
      t.rails[r].loop.vsense = v ∧ t.rails[r].prot.w = windowFlag s r v ∧
      t.rails[r].prot.uvCond = (belowWindow s r v && s.rails[r].enabled) ∧
      (windowFlag s r v = false → t.rails[r].prot.qualified = false) ∧
      (belowWindow s r v = true → s.rails[r].enabled = true → s.rails[r].prot.uvArmed = true → s.rails[r].prot.ovLatch = false →
        s.rails[r].prot.faultLatch = false → t.rails[r].prot.uvTimer = true) ∧
      t.rails[r].prot.fault = s.rails[r].prot.fault ∧ t.rails[r].enabled = s.rails[r].enabled ∧
      t.rails[r].dyn.vsp = s.rails[r].dyn.vsp ∧ (∀ j : Fin 28, j ≠ r → t.rails[j] = s.rails[j]) ∧ t = { s with links := t.links, rails := t.rails, evc := t.evc, tw := t.tw }) ∧
    (∀ m i : Int, railPresent s r = true → dieArmed s = true → (railDies s r).contains (railDie r) = true →
      i = (if (gangOfRail s r).isSome = true ∧ ((activePhases s r).filter fun ph => decide (phaseDie ph = railDie r)) ≠ [] then
        divHalfUpI (m * (activePhases s r).length) ((activePhases s r).filter fun ph => decide (phaseDie ph = railDie r)).length
        else m) →
      ∃ t, exec (.ocCondition r (railDie r) m) s = .next t ∧ railMa t r = i ∧ (t.rails[r].prot.ocCond = true ↔ ocLimitOf s r < i) ∧
        (ocLimitOf s r < i → s.rails[r].enabled = true → s.rails[r].prot.ovLatch = false → s.rails[r].prot.faultLatch = false →
          t.rails[r].prot.ocTimer = true) ∧
        t.rails[r].prot.fault = s.rails[r].prot.fault ∧ t.rails[r].enabled = s.rails[r].enabled ∧
        t.rails[r].dyn.vsp = s.rails[r].dyn.vsp ∧ (∀ j : Fin 28, j ≠ r → t.rails[j] = s.rails[j]) ∧ t = { s with links := t.links, rails := t.rails, evc := t.evc, tw := t.tw }) ∧
    (∀ (k : Fin 7) (m : Int), railPresent s r = true → dieArmed s = true → (railDies s r).contains k = true → k ≠ railDie r →
      ∃ t, exec (.ocCondition r k m) s = .next t ∧ railMa t r = railMa s r ∧
        (∀ n : Nat, n = ((activePhases s r).filter fun ph => decide (phaseDie ph = k)).length → 0 < n → (gangOfRail s r).isSome = true →
          (t.dies[k].ocOver = true ↔ ocLimitOf s r < divHalfUpI (m * (activePhases s r).length) n)) ∧
        t.rails[r].prot.fault = s.rails[r].prot.fault ∧ t.rails[r].enabled = s.rails[r].enabled ∧
        (∀ j : Fin 7, j ≠ k → t.dies[j] = s.dies[j]) ∧ (∀ j : Fin 28, j ≠ r → t.rails[j] = s.rails[j]) ∧
        t = { s with links := t.links, rails := t.rails, dies := t.dies, evc := t.evc, tw := t.tw }) ∧
    (railPresent s r = true → s.rails[r].prot.uvTimer = false → exec (.uvTimerExpire r) s = .next s) ∧
    (railPresent s r = true → s.rails[r].prot.ocTimer = false → exec (.ocTimerExpire r) s = .next s) ∧
    (railPresent s r = true → s.rails[r].prot.uvTimer = true → s.rails[r].prot.uvCond = false →
      exec (.uvTimerExpire r) s = .next (checkSteps (pgRefresh r
        { s with rails := vmod s.rails r fun x => { x with prot := { x.prot with uvTimer := false } } })) ∧
      ((∀ g : Fin 8, s.groups[g].phase ≠ .poweringUp) → ∃ t, exec (.uvTimerExpire r) s = .next t ∧ t.rails[r].prot.uvTimer = false ∧
        t.rails[r].prot.fault = s.rails[r].prot.fault ∧ t.rails[r].prot.faultLatch = s.rails[r].prot.faultLatch ∧
        (∀ j : Fin 28, j ≠ r → t.rails[j] = s.rails[j]) ∧ t = { s with links := t.links, rails := t.rails, evc := t.evc, tw := t.tw })) ∧
    (railPresent s r = true → s.rails[r].prot.ocTimer = true → ocHolds s r = false →
      exec (.ocTimerExpire r) s = .next (checkSteps (pgRefresh r
        { s with rails := vmod s.rails r fun x => { x with prot := { x.prot with ocTimer := false } } })) ∧
      ((∀ g : Fin 8, s.groups[g].phase ≠ .poweringUp) → ∃ t, exec (.ocTimerExpire r) s = .next t ∧ t.rails[r].prot.ocTimer = false ∧
        t.rails[r].prot.fault = s.rails[r].prot.fault ∧ t.rails[r].prot.faultLatch = s.rails[r].prot.faultLatch ∧
        (∀ j : Fin 28, j ≠ r → t.rails[j] = s.rails[j]) ∧ t = { s with links := t.links, rails := t.rails, evc := t.evc, tw := t.tw })) ∧
    (railPresent s r = true → s.rails[r].prot.uvTimer = true → s.rails[r].prot.uvCond = true →
      ∀ u, u = latchFault r 2 { s with rails := vmod s.rails r fun x => { x with prot := { x.prot with uvTimer := false, noPg := true } } } →
      u.rails[r].prot.faultLatch = true ∧ u.rails[r].prot.fault = setBit s.rails[r].prot.fault 2 ∧
      u.rails[r].prot.uvTimer = false ∧ u.rails[r].prot.ocTimer = false ∧ u.rails[r].prot.pg = false ∧
      exec (.uvTimerExpire r) s = .next (if s.rails[r].stationKept = true then skSettle (skLeave r 2 false u) else
        itemFault (railItem r) .underVoltage (logFault .railUv (railDie r + 1) r (setBit s.rails[r].prot.fault 2) u))) ∧
    (railPresent s r = true → s.rails[r].prot.ocTimer = true → ocHolds s r = true →
      ∀ u, u = latchFault r 3 { s with rails := vmod s.rails r fun x => { x with prot := { x.prot with ocTimer := false, noPg := true } } } →
      u.rails[r].prot.faultLatch = true ∧ u.rails[r].prot.fault = setBit s.rails[r].prot.fault 3 ∧
      u.rails[r].prot.uvTimer = false ∧ u.rails[r].prot.ocTimer = false ∧ u.rails[r].prot.pg = false ∧
      exec (.ocTimerExpire r) s = .next (if s.rails[r].stationKept = true then skSettle (skLeave r 3 false u) else
        itemFault (railItem r) .overCurrent (logFault .railOc (railDie r + 1) r (setBit s.rails[r].prot.fault 3) u))) ∧
    (∀ ph mA, diePresent s (phaseDie ph) = false → exec (.valleyLimit ph mA) s = .fault .absentInPart) ∧
    (∀ ph mA, diePresent s (phaseDie ph) = true → phaseRail s ph = none → exec (.valleyLimit ph mA) s = .next s) ∧
    (∀ ph mA, diePresent s (phaseDie ph) = true → phaseRail s ph = some r → (s.rails[r].enabled = false ∨
      s.phases[ph].run = .shed ∨ s.rails[r].dyn.stepAlarm = true ∨ mA ≤ valleyLimitOf s r) →
      exec (.valleyLimit ph mA) s = .next s) ∧
    (∀ ph mA, diePresent s (phaseDie ph) = true → phaseRail s ph = some r → s.rails[r].enabled = true →
      s.phases[ph].run ≠ .shed → s.rails[r].dyn.stepAlarm = false → valleyLimitOf s r < mA →
      ∃ t, exec (.valleyLimit ph mA) s = .next t ∧ t.rails = vmod s.rails r (fun x => { x with prot := { x.prot with
        valleyCnt := satAdd max32 x.prot.valleyCnt 1, fault := setBit x.prot.fault 7, valleyLogged := true } }) ∧
        t.phases = vmod s.phases ph (fun p => { p with withheld := true }) ∧
        (s.rails[r].prot.valleyLogged = true → t.log = s.log ∧
          (s.rails[r].prot.fault.testBit 7 = true → t.evc = s.evc ∧ t.links = s.links)) ∧ t = { s with nv := t.nv, links := t.links, rails := t.rails, phases := t.phases, log := t.log, evc := t.evc, tw := t.tw }) ∧
    (railPresent s r = true → (s.rails[r].enabled = false ∨ s.rails[r].disabling = true ∨ s.rails[r].dyn.softDone = false ∨
      s.rails[r].prot.w = false) → exec (.pgQualified r) s = .next s) ∧
    (railPresent s r = true → s.rails[r].enabled = true → s.rails[r].disabling = false → s.rails[r].dyn.softDone = true →
      s.rails[r].prot.w = true →
      ∀ u, u = pgRefresh r { s with rails := vmod s.rails r fun x => { x with prot := { x.prot with qualified := true } } } →
      exec (.pgQualified r) s = .next (checkSteps u) ∧
      (row2 s r = false → s.rails[r].prot.noPg = false → s.rails[r].prot.uvTimer = false → s.rails[r].prot.ocTimer = false →
        u.rails[r].prot.pg = true ∧ u.rails[r].prot.qualified = true) ∧
      (row2 s r = true → u.rails[r].prot.pg = false) ∧
      ((∀ g : Fin 8, s.groups[g].phase ≠ .poweringUp) → ∃ t, exec (.pgQualified r) s = .next t ∧ t.rails[r] = u.rails[r] ∧
        (∀ j : Fin 28, j ≠ r → t.rails[j] = s.rails[j]) ∧ t = { s with links := t.links, rails := t.rails, evc := t.evc, tw := t.tw })) ∧
    (railPresent s r = true → ∃ t, exec (.pgHoldEnd r) s = .next t ∧ (s.rails[r].prot.pg = true → t.rails[r].prot.hold = false) ∧
      t.rails[r].prot.fault = s.rails[r].prot.fault ∧ t.rails[r].enabled = s.rails[r].enabled ∧
      (∀ j : Fin 28, j ≠ r → t.rails[j] = s.rails[j]) ∧ t = { s with links := t.links, rails := t.rails, evc := t.evc, tw := t.tw })

/-- Group commands, group inputs, step delay and time-outs, and the end of the minimum off time. (R273, R276, R278, R281, R282, R283, R284,
R285, R286, R287) -/
def Obligations.SequencerGroups : Prop :=
  ∀ (s : State) (g : Fin 8),
    (∀ (p : Port) (row : ObjRow), answering s = true → checkWrite s p (0x2410 + g) 0x03 = .ok row →
      (upRefused s g = true → exec (.groupUpCmd p g) s = .next { s with ack := .abort .state }) ∧
      (upRefused s g = false → s.groups[g].phase ∈ [.shuttingDown, .minOff] → exec (.groupUpCmd p g) s = .next { s with
        ack := .done, groups := vmod s.groups g fun x => { x with request := true, clearHeld := true } }) ∧
      (upRefused s g = false → s.groups[g].phase ∈ [.off, .faulted] →
        (s.boot.step8 = false ∨ (s.groups[g].input = true ∧ s.groups[g].toffTimer = true)) →
        ∃ t, exec (.groupUpCmd p g) s = .next t ∧ t.ack = .done ∧
          t.groups = vmod s.groups g (fun x => { x with request := true }) ∧
          (∀ i ∈ groupItems s g, t.items[i].retryCnt = 0) ∧ t = { s with groups := t.groups, items := t.items, ack := t.ack }) ∧
      (upRefused s g = false → s.groups[g].phase ∈ [.off, .faulted] → s.boot.step8 = true → s.groups[g].input = false →
        ∃ t, exec (.groupUpCmd p g) s = .next t ∧ t.ack = .done ∧ t.groups[g].phase = .waitInput ∧ t.groups[g].request = true ∧
          (∀ i ∈ groupItems s g, t.items[i].retryCnt = 0) ∧ (∀ j : Fin 8, j ≠ g → t.groups[j] = s.groups[j]) ∧
          t = { s with groups := t.groups, items := t.items, rsto := t.rsto, evc := t.evc, tw := t.tw, ack := t.ack }) ∧
      (upRefused s g = false → s.groups[g].phase ∈ [.off, .faulted] → s.boot.step8 = true → s.groups[g].input = true →
        s.groups[g].toffTimer = false → (∀ k : Fin 7, s.dies[k].vdrOk = true) → (∀ q : Fin 28, s.rails[q].prot.vdrDue = false) →
        ∃ t, exec (.groupUpCmd p g) s = .next t ∧ t.ack = .done ∧ (t.groups[g].phase = .poweringUp ∨ t.groups[g].phase = .up) ∧
          t.groups[g].request = true ∧ (∀ j : Fin 8, j ≠ g → t.groups[j] = s.groups[j]) ∧
          t = { s with settings := t.settings, nv := t.nv, links := t.links, fo := t.fo, rails := t.rails, phases := t.phases, dies := t.dies, items := t.items, groups := t.groups, regs := t.regs, rsto := t.rsto, log := t.log, evc := t.evc, tw := t.tw, freeCtr := t.freeCtr, ack := t.ack }) ∧
      (upRefused s g = false → s.groups[g].phase ∈ [.waitInput, .poweringUp, .up, .parked] →
        ∃ t, exec (.groupUpCmd p g) s = .next t ∧ t.ack = .done ∧
          t.groups = vmod s.groups g (fun x => { x with request := true }) ∧
          (∀ i ∈ groupItems s g, t.items[i].retryCnt = 0) ∧ t = { s with groups := t.groups, items := t.items, ack := t.ack }) ∧
      (∃ t, exec (.groupDownCmd p g) s = .next t ∧ t.ack = .done ∧ t.groups[g].request = false ∧
        (s.groups[g].phase = .waitInput → t.groups[g].phase = .off) ∧
        (s.groups[g].phase ∈ [.poweringUp, .up] → t.groups[g].phase = .shuttingDown ∨ t.groups[g].phase = .minOff) ∧
        (s.groups[g].phase ∈ [.off, .faulted, .parked, .shuttingDown, .minOff] → t.groups[g].phase = s.groups[g].phase ∧
          t.items = s.items ∧ t.rails = s.rails) ∧
        (∀ j : Fin 8, j ≠ g → t.groups[j] = s.groups[j]) ∧ t = { s with nv := t.nv, links := t.links, fo := t.fo, rails := t.rails, phases := t.phases, dies := t.dies, items := t.items, groups := t.groups, regs := t.regs, rsto := t.rsto, log := t.log, evc := t.evc, tw := t.tw, freeCtr := t.freeCtr, ack := t.ack })) ∧
    (s.groups[g].phase ≠ .waitInput → exec (.groupInputQualified g) s = .next { s with
      groups := vmod s.groups g fun x => { x with input := true } }) ∧
    (s.groups[g].phase = .waitInput → (s.boot.step8 = false ∨ s.groups[g].toffTimer = true) →
      exec (.groupInputQualified g) s = .next { s with groups := vmod s.groups g fun x => { x with input := true } }) ∧
    (s.groups[g].phase = .waitInput → s.boot.step8 = true → s.groups[g].toffTimer = false → (∀ k : Fin 7, s.dies[k].vdrOk = true) → (∀ q : Fin 28, s.rails[q].prot.vdrDue = false) →
      ∃ t, exec (.groupInputQualified g) s = .next t ∧ t.groups[g].input = true ∧
      (t.groups[g].phase = .poweringUp ∨ t.groups[g].phase = .up) ∧ (∀ j : Fin 8, j ≠ g → t.groups[j] = s.groups[j]) ∧
      t = { s with settings := t.settings, nv := t.nv, links := t.links, fo := t.fo, rails := t.rails, phases := t.phases, dies := t.dies, items := t.items, groups := t.groups, regs := t.regs, rsto := t.rsto, log := t.log, evc := t.evc, tw := t.tw, freeCtr := t.freeCtr }) ∧
    (s.groups[g].phase ∉ [.poweringUp, .up] → exec (.groupInputLost g) s = .next { s with
      groups := vmod s.groups g fun x => { x with input := false } }) ∧
    (s.groups[g].phase ∈ [.poweringUp, .up] → ∃ t, exec (.groupInputLost g) s = .next t ∧ t.groups[g].input = false ∧
      t.groups[g].request = s.groups[g].request ∧ (t.groups[g].phase = .shuttingDown ∨ t.groups[g].phase = .minOff) ∧
      (∀ j : Fin 8, j ≠ g → t.groups[j] = s.groups[j]) ∧ t = { s with nv := t.nv, links := t.links, fo := t.fo, rails := t.rails, phases := t.phases, dies := t.dies, items := t.items, groups := t.groups, regs := t.regs, rsto := t.rsto, log := t.log, evc := t.evc, tw := t.tw, freeCtr := t.freeCtr }) ∧
    ((s.groups[g].phase ≠ .poweringUp ∨ s.groups[g].delaying = false) → exec (.stepDelayEnd g) s = .next s) ∧
    (∀ st, s.groups[g].phase = .poweringUp → s.groups[g].delaying = true → s.groups[g].step = some st →
      (stepMayRun s st = false → exec (.stepDelayEnd g) s = .next { s with
        groups := vmod s.groups g fun x => { x with delayDone := true } }) ∧
      (stepMayRun s st = true → exec (.stepDelayEnd g) s = .next (stepGo g st s)) ∧
      (stepMayRun s st = true → (∀ k : Fin 7, s.dies[k].vdrOk = true) → (∀ q : Fin 28, s.rails[q].prot.vdrDue = false) →
        ∃ t, exec (.stepDelayEnd g) s = .next t ∧ (t.groups[g].phase = .poweringUp ∨ t.groups[g].phase = .up) ∧
        (stepDone (startStep g st s) st = false → t.groups[g].phase = .poweringUp ∧ t.groups[g].delaying = false ∧
          t.groups[g].stepTimer = true ∧ t.groups[g].started = st :: s.groups[g].started) ∧
        (∀ j : Fin 8, j ≠ g → t.groups[j] = s.groups[j]) ∧
        t = { s with settings := t.settings, nv := t.nv, links := t.links, fo := t.fo, rails := t.rails, phases := t.phases, dies := t.dies, items := t.items, groups := t.groups, regs := t.regs, rsto := t.rsto, log := t.log, evc := t.evc, tw := t.tw, freeCtr := t.freeCtr })) ∧
    ((s.groups[g].phase ≠ .poweringUp ∨ s.groups[g].stepTimer = false) → exec (.stepTimeout g none) s = .next s) ∧
    (∀ st, s.groups[g].phase = .poweringUp → s.groups[g].stepTimer = true → s.groups[g].step = some st →
      exec (.stepTimeout g none) s = .next (checkStep g
        (itemFaults ((((stepItems s st).filter fun i => !itemCounts s i) ++ lateMoves s st).map fun i => (i, .stepTimeout))
          { s with groups := vmod s.groups g fun x => { x with stepTimer := false } }))) ∧
    (∀ i : Fin 46, exec (.stepTimeout g (some i)) s = .next (if s.items[i].retrying = true ∧ s.items[i].phase ≠ .retryWait ∧
      itemGroup s i = some g then itemFault i .stepTimeout s else s)) ∧
    ((s.groups[g].phase ≠ .shuttingDown ∨ s.groups[g].stepTimer = false) → exec (.shutdownStepTimeout g) s = .next s) ∧
    (∀ st, s.groups[g].phase = .shuttingDown → s.groups[g].stepTimer = true → s.groups[g].step = some st →
      ∃ t, exec (.shutdownStepTimeout g) s = .next t ∧ (t.groups[g].phase = .shuttingDown ∨ t.groups[g].phase = .minOff) ∧
        (∀ j : Fin 8, j ≠ g → t.groups[j] = s.groups[j]) ∧ t = { s with nv := t.nv, links := t.links, fo := t.fo, rails := t.rails, phases := t.phases, dies := t.dies, items := t.items, groups := t.groups, regs := t.regs, rsto := t.rsto, log := t.log, evc := t.evc, tw := t.tw, freeCtr := t.freeCtr }) ∧
    (s.groups[g].toffTimer = false → exec (.minOffEnd g) s = .next s) ∧
    (s.groups[g].toffTimer = true → s.groups[g].phase = .minOff → s.groups[g].heldReset = none → s.boot.step8 = true →
      (∀ k : Fin 7, s.dies[k].vdrOk = true) → (∀ q : Fin 28, s.rails[q].prot.vdrDue = false) →
      ∃ t, exec (.minOffEnd g) s = .next t ∧ t.groups[g].toffTimer = false ∧
        (s.groups[g].request = false → t.groups[g].phase = if s.groups[g].byFault = true then .faulted else .off) ∧
        (s.groups[g].request = true → s.groups[g].input = false → t.groups[g].phase = .waitInput) ∧
        (s.groups[g].request = true → s.groups[g].input = true → t.groups[g].phase = .poweringUp ∨ t.groups[g].phase = .up) ∧
        (∀ j : Fin 8, j ≠ g → t.groups[j] = s.groups[j]) ∧
        t = { s with settings := t.settings, nv := t.nv, links := t.links, fo := t.fo, rails := t.rails, phases := t.phases, dies := t.dies, items := t.items, groups := t.groups, regs := t.regs, rsto := t.rsto, log := t.log, evc := t.evc, tw := t.tw, freeCtr := t.freeCtr }) ∧
    (s.groups[g].toffTimer = true → s.groups[g].phase ∈ [.off, .waitInput] → s.groups[g].request = true → s.boot.step8 = true →
      (∀ k : Fin 7, s.dies[k].vdrOk = true) → (∀ q : Fin 28, s.rails[q].prot.vdrDue = false) →
      ∃ t, exec (.minOffEnd g) s = .next t ∧ t.groups[g].toffTimer = false ∧
        (s.groups[g].input = false → t.groups[g].phase = .waitInput) ∧
        (s.groups[g].input = true → t.groups[g].phase = .poweringUp ∨ t.groups[g].phase = .up) ∧
        (∀ j : Fin 8, j ≠ g → t.groups[j] = s.groups[j]) ∧
        t = { s with settings := t.settings, nv := t.nv, links := t.links, fo := t.fo, rails := t.rails, phases := t.phases, dies := t.dies, items := t.items, groups := t.groups, regs := t.regs, rsto := t.rsto, log := t.log, evc := t.evc, tw := t.tw, freeCtr := t.freeCtr }) ∧
    (∀ i, s.groups[g].toffTimer = true → s.groups[g].phase = .minOff → s.groups[g].heldReset = some i →
      exec (.minOffEnd g) s = .next (startFullReset 6 i { s with
        groups := vmod s.groups g fun x => { x with toffTimer := false, disabling := false, heldReset := none } })) ∧
    (s.groups[g].toffTimer = true → s.groups[g].phase ≠ .minOff →
      (s.groups[g].phase ∉ [.off, .waitInput] ∨ s.groups[g].request = false ∨ s.boot.step8 = false) → exec (.minOffEnd g) s = .next { s with
      groups := vmod s.groups g fun x => { x with toffTimer := false, disabling := false } })

/-- Item qualification, power-good fall, off, retry, normal timer and the rail enable pins. (R5, R44, R92, R256, R270, R271, R277, R280, R283,
R287, R288, R453) -/
def Obligations.SequencerItems : Prop :=
  ∀ s : State,
    (∀ i, itemPresent s i = false → exec (.itemQualified i) s = .fault .absentInPart ∧ exec (.itemPgFall i) s = .fault .absentInPart ∧
      exec (.itemOff i) s = .fault .absentInPart ∧ exec (.itemRetryDelayEnd i) s = .fault .absentInPart ∧
      exec (.itemNormalTimer i) s = .fault .absentInPart) ∧
    (∀ r, railPresent s r = false → exec (.enPinFall r) s = .fault .absentInPart ∧ exec (.enPinRise r) s = .fault .absentInPart) ∧
    (∀ i, itemPresent s i = true → (s.items[i].phase ∉ [.starting, .qualifying] ∨ itemPg s i = false) →
      exec (.itemQualified i) s = .next s) ∧
    (∀ i, itemPresent s i = true → s.items[i].phase ∈ [.starting, .qualifying] → itemPg s i = true →
      exec (.itemQualified i) s = .next (checkSteps { s with
        items := vmod s.items i fun x => { x with phase := .up, qual := true, retrying := false, normTimer := true } }) ∧
      ((∀ g : Fin 8, s.groups[g].phase ≠ .poweringUp) → exec (.itemQualified i) s = .next { s with
        items := vmod s.items i fun x => { x with phase := .up, qual := true, retrying := false, normTimer := true } })) ∧
    (∀ i g st, itemPresent s i = true → itemGroup s i = some g → itemStepOf s i = some st → s.groups[g].phase = .poweringUp →
      s.groups[g].step = some st →
      (s.items[i].phase ∈ [.starting, .qualifying, .up] → exec (.itemPgFall i) s = .next { s with
        items := vmod s.items i fun x => { x with
          phase := .starting, qual := false, normTimer := false, chatter := satAdd max16 x.chatter 1 } }) ∧
      (s.items[i].phase = .enLow → exec (.itemPgFall i) s = .next { s with
        items := vmod s.items i fun x => { x with chatter := satAdd max16 x.chatter 1 } })) ∧
    (∀ i, itemPresent s i = true → (s.items[i].phase ∉ [.starting, .qualifying, .up, .enLow] ∨ itemGroup s i = none ∨
      (∃ g, itemGroup s i = some g ∧ (s.groups[g].phase ≠ .poweringUp ∨ s.groups[g].step ≠ itemStepOf s i))) →
      exec (.itemPgFall i) s = .next s) ∧
    (∀ i, itemPresent s i = true → (itemFunctionOff s i = false ∨
      (s.items[i].phase ≠ .stopping ∧ ∀ q : Fin 28, s.sk.due[q] = false)) → exec (.itemOff i) s = .next s) ∧
    (∀ i, itemPresent s i = true → itemFunctionOff s i = true → s.items[i].phase ≠ .stopping →
      exec (.itemOff i) s = .next (skGoDown s)) ∧
    (∀ i, itemPresent s i = true → itemFunctionOff s i = true → s.items[i].phase = .stopping →
      ((∀ g, itemGroup s i = some g → s.groups[g].phase ≠ .shuttingDown) → (∀ q : Fin 28, s.sk.due[q] = false) →
        exec (.itemOff i) s = .next { s with items := vmod s.items i fun x => { x with phase := .off } }) ∧
      (∀ g, itemGroup s i = some g → s.groups[g].phase = .shuttingDown → ∃ t, exec (.itemOff i) s = .next t ∧
        t.items[i].phase = .off ∧ (t.groups[g].phase = .shuttingDown ∨ t.groups[g].phase = .minOff) ∧
        (∀ j : Fin 8, j ≠ g → t.groups[j] = s.groups[j]) ∧ t = { s with nv := t.nv, links := t.links, fo := t.fo, rails := t.rails, phases := t.phases, dies := t.dies, items := t.items, groups := t.groups, regs := t.regs, rsto := t.rsto, log := t.log, evc := t.evc, tw := t.tw, freeCtr := t.freeCtr })) ∧
    (∀ i, itemPresent s i = true → s.items[i].phase ≠ .retryWait → exec (.itemRetryDelayEnd i) s = .next s) ∧
    (∀ n, s.items[regItem n].phase = .retryWait → safeHeld s (regItem n) = false →
      exec (.itemRetryDelayEnd (regItem n)) s = .next { s with
        regs := vmod s.regs n fun x => { x with on := true, fault := 0, stopped := false }
        items := vmod s.items (regItem n) fun x => { x with
          cmdOn := true, retryDue := false, phase := if s.regs[n].pgWin = true then .qualifying else .starting } }) ∧
    (∀ n, s.items[foItem n].phase = .retryWait → safeHeld s (foItem n) = false →
      ∃ t, exec (.itemRetryDelayEnd (foItem n)) s = .next t ∧
      t.items = vmod s.items (foItem n) (fun x => { x with
        cmdOn := true, retryDue := false, phase := if s.fo[n].phase = .on then .qualifying else .starting }) ∧
      (∀ j : Fin 8, j ≠ n → t.fo[j] = s.fo[j]) ∧ t = { s with fo := t.fo, items := t.items, evc := t.evc, tw := t.tw }) ∧
    (∀ i, s.items[i].phase = .retryWait → safeHeld s i = true → exec (.itemRetryDelayEnd i) s = .next { s with
      items := vmod s.items i fun x => { x with cmdOn := true, retryDue := false, phase := .waiting } }) ∧
    (∀ r, railPresent s r = true → s.items[railItem r].phase = .retryWait → (∃ k ∈ railDies s r, s.dies[k].vdrOk = false) →
      exec (.itemRetryDelayEnd (railItem r)) s = .next { s with
        items := vmod s.items (railItem r) fun x => { x with retryDue := true } }) ∧
    (∀ r, railPresent s r = true → s.items[railItem r].phase = .retryWait → (∀ k ∈ railDies s r, s.dies[k].vdrOk = true) →
      ∀ u, u = switchOn (railItem r) (clearFaultLatch r s) → exec (.itemRetryDelayEnd (railItem r)) s = .next (seqSettle u) ∧
        ((s.links[railDie r].phase = .up → s.links[railDie r].helm.waiting = []) →
          u.rails[r].prot.faultLatch = s.rails[r].prot.skLatched ∧
          u.items = vmod s.items (railItem r) (fun x => { x with
            cmdOn := true, retryDue := false
            phase := if s.itemEnPin (railItem r) = true ∧ s.rails[r].enPin = false then .enLow
              else if s.pwr.state = .run then .starting else .waiting }) ∧
          (∀ j : Fin 28, j ≠ r → u.rails[j] = s.rails[j]) ∧
          u = { s with
            links := u.links, rails := u.rails, phases := u.phases, dies := u.dies, items := u.items, evc := u.evc, tw := u.tw })) ∧
    (∀ i, itemPresent s i = true → exec (.itemNormalTimer i) s = .next (if s.items[i].normTimer = true ∧ s.items[i].phase = .up then
      { s with items := vmod s.items i fun x => { x with retryCnt := 0, normTimer := false } } else s)) ∧
    (∀ r, railPresent s r = true → (s.itemEnPin (railItem r) = false ∨ (s.rails[r].stationKept = false ∧
      (s.items[railItem r].cmdOn = false ∨ s.items[railItem r].phase ∉ [.starting, .qualifying, .up]))) →
      exec (.enPinFall r) s = .next { s with rails := vmod s.rails r fun x => { x with enPin := false } }) ∧
    (∀ r, railPresent s r = true → s.itemEnPin (railItem r) = true → s.rails[r].stationKept = true → s.rails[r].enHeld = false →
      ∃ t, exec (.enPinFall r) s = .next t ∧ t.rails[r].enPin = false ∧ t.rails[r].stationKept = false ∧
        t.rails[r].enabled = false ∧ (s.boot.step8 = false → t.sk.left = s.sk.left ++ [⟨r.val, 15, false⟩]) ∧
        (∀ j : Fin 28, j ≠ r → t.rails[j] = s.rails[j]) ∧ t = { s with sk := t.sk, links := t.links, rails := t.rails, evc := t.evc, tw := t.tw }) ∧
    (∀ r, railPresent s r = true → s.itemEnPin (railItem r) = true → s.rails[r].stationKept = false →
      s.items[railItem r].cmdOn = true → s.items[railItem r].phase ∈ [.starting, .qualifying, .up] →
      (s.links[railDie r].phase = .up → s.links[railDie r].helm.waiting = []) →
      ∃ t, exec (.enPinFall r) s = .next t ∧ t.rails[r].enPin = false ∧
        t.items = vmod s.items (railItem r) (fun x => { x with phase := .enLow, qual := false, normTimer := false }) ∧
        (s.rails[r].enabled = true → s.links[railDie r].phase = .up → t.rails[r].enabled = false ∨ t.rails[r].disabling = true) ∧
        (∀ j : Fin 28, j ≠ r → t.rails[j] = s.rails[j]) ∧ t = { s with links := t.links, rails := t.rails, phases := t.phases, dies := t.dies, items := t.items, evc := t.evc, tw := t.tw }) ∧
    (∀ r, railPresent s r = true → (s.items[railItem r].cmdOn = false ∨ s.items[railItem r].phase ≠ .enLow) →
      exec (.enPinRise r) s = .next { s with rails := vmod s.rails r fun x => { x with enPin := true } }) ∧
    (∀ r, railPresent s r = true → s.items[railItem r].cmdOn = true → s.items[railItem r].phase = .enLow →
      ∀ u, u = switchOn (railItem r) { s with rails := vmod s.rails r fun x => { x with enPin := true } } →
        exec (.enPinRise r) s = .next (seqSettle u) ∧
        ((s.links[railDie r].phase = .up → s.links[railDie r].helm.waiting = []) → u.rails[r].enPin = true ∧
          u.items = vmod s.items (railItem r) (fun x => { x with
            retryDue := false, phase := if s.pwr.state = .run then .starting else .waiting }) ∧
          (∀ j : Fin 28, j ≠ r → u.rails[j] = s.rails[j]) ∧
          u = { s with
            nv := u.nv, links := u.links, rails := u.rails, phases := u.phases, dies := u.dies, items := u.items, log := u.log
            evc := u.evc, tw := u.tw }))

/-- Integrated regulators and the reset outputs. (R280, R292, R293, R294, R440) -/
def Obligations.RegulatorsAndResetOutputs : Prop :=
  ∀ s : State,
    (∀ n, s.regs[n].on = false → exec (.regCurrentLimitFault n) s = .next s) ∧
    (∀ n, s.regs[n].on = true → exec (.regCurrentLimitFault n) s = .next (itemFault (regItem n) .regCurrentLimit { s with
      regs := vmod s.regs n fun x => { x with on := false, stopped := true, pgWin := false, fault := setBit x.fault 0 } })) ∧
    (∀ (n : Fin 6) (m : Fin 10), m.val = n.val → s.regs[m].on = false → exec (.buckOverVoltage n) s = .next s) ∧
    (∀ (n : Fin 6) (m : Fin 10), m.val = n.val → s.regs[m].on = true →
      exec (.buckOverVoltage n) s = .next (itemFault (regItem m) .regOverVoltage { s with
        regs := vmod s.regs m fun x => { x with on := false, stopped := true, pgWin := false, fault := setBit x.fault 1 } })) ∧
    (∀ n b, (b = false ∨ s.regs[n].on = false) → exec (.regPgChange n b) s = .next { s with
      regs := vmod s.regs n fun x => { x with pgWin := false } }) ∧
    (∀ n, s.regs[n].on = true → exec (.regPgChange n true) s = .next { s with
      regs := vmod s.regs n fun x => { x with pgWin := true }
      items := vmod s.items (regItem n) fun x => { x with phase := if x.phase = .starting then .qualifying else x.phase } }) ∧
    (∀ n, (s.regs[n].on = false ∨ s.regs[n].pgWin = true ∨ s.items[regItem n].phase ≠ .up) →
      exec (.regPgLostTimeout n) s = .next s) ∧
    (∀ n, s.regs[n].on = true → s.regs[n].pgWin = false → s.items[regItem n].phase = .up →
      exec (.regPgLostTimeout n) s = .next (itemFault (regItem n) .regUnderVoltage { s with
        regs := vmod s.regs n fun x => { x with fault := setBit x.fault 2 } })) ∧
    (∀ n, exec (.rstoConditionsEnd n) s = .next (if s.rsto[n].pin = true ∧ rstoCond s n = false then
      { s with rsto := vmod s.rsto n fun x => { x with stretch := true } } else s)) ∧
    (∀ n, (s.rsto[n].stretch = false ∨ rstoCond s n = true) → exec (.rstoStretchEnd n) s = .next s) ∧
    (∀ n, s.rsto[n].stretch = true → rstoCond s n = false → ∃ t, exec (.rstoStretchEnd n) s = .next t ∧
      t.rsto = vmod s.rsto n (fun x => { x with pin := false, stretch := false }) ∧
      (∀ h : Fin 2, wdRstoOf s h = n.val → t.wd.hosts[h].started = true ∧ t.wd.hosts[h].cycles = 0 ∧
        t.wd.hosts[h].obliged = false) ∧
      (∀ h : Fin 2, wdRstoOf s h ≠ n.val → t.wd.hosts[h] = s.wd.hosts[h]) ∧
      t.wd.on = s.wd.on ∧ t.wd.lfsr = s.wd.lfsr ∧ t = { s with rsto := t.rsto, wd := t.wd }) ∧
    (∀ (p : Port) (n : Fin 4) (v : Nat) (row : ObjRow), answering s = true → checkWrite s p (0x2420 + n) 0x04 = .ok row →
      exec (.rstoForce p n v) s = .next (if v = 1 then { s with
        ack := .done, rsto := vmod s.rsto n fun x => { x with pin := true, forced := true, stretch := false } }
      else { s with ack := .done })) ∧
    (∀ n, s.rsto[n].forced = false → exec (.rstoPulseEnd n) s = .next s) ∧
    (∀ n, s.rsto[n].forced = true → exec (.rstoPulseEnd n) s = .next { s with
      rsto := vmod s.rsto n fun x => { x with
        forced := false, stretch := x.stretch || !(rstoBootCond s || rstoGroupCond s n) } })

/-- Source type, announcements, Lantern bus good, hand-over and hand-back. (R303, R304, R305, R306, R307, R311, R319, R320, R321, R323, R325,
R342) -/
def Obligations.SourceAndPowerPath : Prop :=
  ∀ s : State,
    (∃ t, exec .serviceQualified s = .next t ∧ t.pp.typ = sourceType t ∧ (t.pp.mismatch = true ↔ bandContradicts s = true ∨ disagreeing s ≠ none) ∧ (s.pp.svcRev = false → t.pp.typ = .service) ∧
      t.pp = { s.pp with svcQual := true, svcPulled := false, typ := t.pp.typ, mismatch := t.pp.mismatch, annMis := t.pp.annMis } ∧ t = { s with nv := t.nv, pp := t.pp, log := t.log, evc := t.evc, tw := t.tw }) ∧
    (∃ t, exec .serviceWindowExit s = .next t ∧ t.pp.typ = sourceType t ∧ t.pp.typ ≠ .service ∧
      t.pp = { s.pp with svcQual := false, typ := t.pp.typ, mismatch := t.pp.mismatch, annMis := t.pp.annMis } ∧ t = { s with nv := t.nv, pp := t.pp, log := t.log, evc := t.evc, tw := t.tw }) ∧
    (∃ t, exec .serviceReverseTurnOff s = .next t ∧ t.pp.typ = sourceType t ∧ t.pp.typ ≠ .service ∧
      t.pp = { s.pp with svcRev := true, typ := t.pp.typ, mismatch := t.pp.mismatch, annMis := t.pp.annMis } ∧ t = { s with nv := t.nv, pp := t.pp, log := t.log, evc := t.evc, tw := t.tw }) ∧
    (∃ t, exec .serviceDiodeConducts s = .next t ∧ t.pp.typ = sourceType t ∧ (s.pp.svcQual = true → t.pp.typ = .service) ∧
      t.pp = { s.pp with svcRev := false, typ := t.pp.typ, mismatch := t.pp.mismatch, annMis := t.pp.annMis } ∧ t = { s with nv := t.nv, pp := t.pp, log := t.log, evc := t.evc, tw := t.tw }) ∧
    (∀ (p : Port) (n : Fin 4) (v : Nat) (row : ObjRow), answering s = true → checkWrite s p 0x2703 (n + 1) = .ok row →
      ∃ t, exec (.srcAnncWrite p n v) s = .next t ∧ t.ack = .done ∧ t.settings = mapPut (okey 0x2703 (n + 1)) v s.settings ∧
        t.pp.typ = sourceType t ∧ t.pp = { s.pp with
          annc := vset s.pp.annc n ⟨v, decide (v ≠ 0)⟩, typ := t.pp.typ, mismatch := t.pp.mismatch, annMis := t.pp.annMis } ∧
        t = { s with settings := t.settings, nv := t.nv, pp := t.pp, log := t.log, evc := t.evc, tw := t.tw, ack := t.ack }) ∧
    (∀ n : Fin 4, ∃ t, exec (.srcAnncTimeout n) s = .next t ∧ t.pp.typ = sourceType t ∧ t.pp = { s.pp with
      annc := vmod s.pp.annc n fun a => { a with valid := false }
      typ := t.pp.typ, mismatch := t.pp.mismatch, annMis := t.pp.annMis } ∧ t = { s with nv := t.nv, pp := t.pp, log := t.log, evc := t.evc, tw := t.tw }) ∧
    (∃ t, exec .sourceTypeChange s = .next t ∧ t.pp.typ = sourceType s ∧
      (t.pp.mismatch = true ↔ bandContradicts s = true ∨ disagreeing s ≠ none) ∧ (t.pp.annMis = true ↔ disagreeing s ≠ none) ∧
      (s.pp.annMis = true → t.log = s.log) ∧
      t.pp.limTyp = (if s.pp.phase = .source ∧ (s.boot.phase = .starting ∨ s.boot.phase = .ready) then sourceType s else s.pp.limTyp) ∧
      t.pp = { s.pp with typ := t.pp.typ, mismatch := t.pp.mismatch, annMis := t.pp.annMis, limTyp := t.pp.limTyp } ∧ t = { s with nv := t.nv, pp := t.pp, log := t.log, evc := t.evc, tw := t.tw }) ∧
    (exec .lbusGoodRise s = .next { s with pp := { s.pp with lbusUp := true, lbusGood := !s.pp.eodHeld } }) ∧
    (s.gauge.outRunning = false → exec .lbusGoodFall s = .next { s with pp := { s.pp with lbusUp := false, lbusGood := false } }) ∧
    (s.gauge.outRunning = true → ∃ t, exec .lbusGoodFall s = .next t ∧ t.pp.lbusGood = false ∧ t.pp.lbusUp = false ∧ t.gauge.outRunning = false ∧
      t.gauge.outReason = 5 ∧ (s.pp.phase = .outing → t.pp.phase = .handingBack) ∧
      (s.pp.phase ≠ .outing → t.pp.phase = s.pp.phase) ∧ t = { s with pp := t.pp, gauge := t.gauge, evc := t.evc, tw := t.tw }) ∧
    (∀ z, (hasSource s z = true ↔ s.hoThr ≤ z ∨ s.pp.svcQual = true) ∧
      ((hasSource s z = true ∨ s.pp.phase ∈ [.handingOver, .onPack] ∨ (s.pp.phase = .source ∧ s.pp.present = false)) →
        exec (.sourceLost z) s = .next s) ∧
      (hasSource s z = false → s.pp.phase = .source → s.pp.present = true → ∃ t, exec (.sourceLost z) s = .next t ∧
        t.pp.phase = .handingOver ∧ t.pp.drawing = true ∧ (t.pp.made = true ↔ s.pp.fet = .full) ∧
        t.chg.phase = (if s.chg.phase.charging = true then .wait else s.chg.phase) ∧ t = { s with pp := t.pp, chg := t.chg, gauge := t.gauge, evc := t.evc, tw := t.tw }) ∧
      (hasSource s z = false → s.pp.phase = .handingBack → ∃ t, exec (.sourceLost z) s = .next t ∧ t.pp.phase = .onPack ∧
        t.pp.regulating = false ∧ t.pp.fet = .full ∧ t.pp.drawing = true ∧ t.pp.lbusIout = 0 ∧ t.pp.chgIin = 0 ∧
        t.pp.hoCnt = s.pp.hoCnt ∧ t.chg = { s.chg with current := 0 } ∧
        (s.gauge.eod = true → t.pp.lbusGood = false ∧ t.pp.eodHeld = true) ∧
        (s.gauge.eod = false → t.pp.lbusGood = s.pp.lbusGood ∧ t.pp.eodHeld = s.pp.eodHeld) ∧ t = { s with pp := t.pp, chg := t.chg, gauge := t.gauge, evc := t.evc, tw := t.tw }) ∧
      (hasSource s z = false → s.pp.phase = .outing → ∃ t, exec (.sourceLost z) s = .next t ∧ t.pp.phase = .onPack ∧
        t.pp.drawing = true ∧ t.gauge.outRunning = false ∧ (s.gauge.outRunning = true → t.gauge.outReason = 6) ∧
        (s.gauge.eod = false → t.pp = { s.pp with phase := .onPack, drawing := true }) ∧ t = { s with pp := t.pp, gauge := t.gauge, evc := t.evc, tw := t.tw })) ∧
    ((s.pp.phase ≠ .handingOver ∨ s.pp.made = true) → exec .handOverMakeDone s = .next s) ∧
    (s.pp.phase = .handingOver → s.pp.made = false → exec .handOverMakeDone s = .next { s with
      chg := { s.chg with current := 0 }
      pp := { s.pp with
        made := true, fet := .full, regulating := false, limIn := false, limOut := false, limFet := false, overload := false,
        lbusIout := 0, chgIin := 0, svcPulled := s.pp.svcPulled || decide (s.pp.limTyp = .service) } }) ∧
    (∀ d, (s.pp.phase ≠ .handingOver ∨ s.pp.made = false) → exec (.handOverBreakDone d) s = .next s) ∧
    (∀ d, s.pp.phase = .handingOver → s.pp.made = true → ∃ t, exec (.handOverBreakDone d) s = .next t ∧
      t.pp.phase = .onPack ∧ t.pp.hoCnt = satAdd max32 s.pp.hoCnt 1 ∧ t.pp.hoLastT = min max16 d ∧ t.pp.made = false ∧
      t.chg.terminated = false ∧ t.chg.hbDone = false ∧ t.chg.fastTime = 0 ∧ t.chg.preTime = 0 ∧
      t.chg.phase = (if s.chg.phase.charging = true then .wait else s.chg.phase) ∧
      (s.gauge.eod = true → t.pp.lbusGood = false ∧ t.pp.eodHeld = true) ∧
      (s.gauge.eod = false → t.pp.lbusGood = s.pp.lbusGood ∧ t.pp.eodHeld = s.pp.eodHeld) ∧ t = { s with mram := t.mram, nv := t.nv, pp := t.pp, chg := t.chg, gauge := t.gauge, evc := t.evc, tw := t.tw }) ∧
    (∀ z, (s.pp.phase ≠ .onPack ∨ s.pwr.state = .park ∨ (s.pp.svcQual = false ∧
        (z < s.hoThr + s.hoHyst ∨ ∀ n : Fin 4, s.zin[n].phase ≠ .on))) → exec (.handBackStart z) s = .next s) ∧
    (∀ z, s.pp.phase = .onPack → s.pwr.state ≠ .park →
      (s.pp.svcQual = true ∨ (s.hoThr + s.hoHyst ≤ z ∧ ∃ n : Fin 4, s.zin[n].phase = .on)) →
      ∃ t, exec (.handBackStart z) s = .next t ∧ t.pp = { s.pp with
        phase := .handingBack, regulating := !thermalOff s, limTyp := .unknown, fet := .full,
        svcPulled := s.pp.svcPulled && !s.pp.svcQual } ∧ t = { s with pp := t.pp, gauge := t.gauge, evc := t.evc, tw := t.tw }) ∧
    (s.pp.phase ≠ .handingBack → exec .handBackComplete s = .next s) ∧
    (s.pp.phase = .handingBack → ∃ t, exec .handBackComplete s = .next t ∧ t.pp.phase = .source ∧ t.pp.drawing = false ∧
      (fetByBus s = false → t.pp.fet = .off) ∧ t.pp.hbCnt = satAdd max32 s.pp.hbCnt 1 ∧ t.pp.eodHeld = false ∧ t.pp.lbusGood = s.pp.lbusUp ∧
      t.pp.typ = sourceType t ∧
      t.pp.limTyp = (if s.boot.phase = .starting ∨ s.boot.phase = .ready then t.pp.typ else s.pp.limTyp) ∧
      t.chg = { s.chg with hbDone := false } ∧ t = { s with nv := t.nv, pp := t.pp, chg := t.chg, gauge := t.gauge, log := t.log, evc := t.evc, tw := t.tw })

/-- The charger: control cycle, enable and disable, start conditions, hand-back delay, precharge. (R44, R71, R300, R301, R302, R306, R308,
R310, R311, R315, R328, R331) The cycle of 10 us, the free factor of a limit and LBUS within 2 % of its level (log 50) are the model's
choice. -/
def Obligations.ChargerControl : Prop :=
  ∀ s : State,
    (∀ m : ChargeMeas, ∃ t, exec (.chargerControlCycle m) s = .next t ∧ t.pp.packV = m.vpkp ∧ t.pp.packT = m.temp ∧
      t.chg.swOc = m.swOc ∧ t.pp.lbusV ≤ 19500 ∧ t.pp.lbusIout ≤ 4000 ∧ t.pp.chgIin ≤ ilimOf s s.pp.limTyp ∧
      (regulates s m = false → t.chg.current = 0 ∧ t.pp.lbusIout = 0 ∧ t.pp.chgIin = 0 ∧
        ((s.pp.present = false ∨ cellsOk s = false ∨ packVoltOk s m.vpkp = true) → t.chg = { s.chg with current := 0, swOc := m.swOc })) ∧
      (regulates s m = true → s.chg.phase = .disabling → 0 ≤ s.chg.current →
        t.chg.phase = .disabling ∧ 0 ≤ t.chg.current ∧ t.chg.current ≤ s.chg.current) ∧
      (regulates s m = true → s.chg.phase.charging = true → backstopBits s m.vpkp m.temp m.swOc = 0 →
        ((s.pp.present = false ∨ cellsOk s = false ∨ packVoltOk s m.vpkp = true) → t.chg.phase = s.chg.phase) ∧
        (¬(s.pp.present = false ∨ cellsOk s = false ∨ packVoltOk s m.vpkp = true) → t.chg.phase = .wait ∧ t.chg.current = 0 ∧ t.pp.present = false) ∧
        t.chg.current ≤ chgTarget s * chgFactor s / 16 ∧
        t.chg.current ≤ max 0 (choutLimit s - (m.loads : Rat)) ∧ t.chg.current ≤ max 0 (inputCap s m - (m.loads : Rat)) ∧
        (m.vpkp + vLhr s < s.lbusVset → m.vpkp < m.lbus →
          t.chg.current ≤ ((s.pkFetPmax * 1000 : Nat) : Rat) / ((m.lbus - m.vpkp : Nat) : Rat))) ∧
      (regulates s m = true → s.chg.phase.charging = true → backstopBits s m.vpkp m.temp m.swOc ≠ 0 →
        t.chg.phase = .fault ∧ t.chg.current ≤ 0 ∧
        t.chg.fault = s.chg.fault ||| backstopBits s m.vpkp m.temp m.swOc) ∧
      t = { s with mram := t.mram, nv := t.nv, pp := t.pp, chg := t.chg, gauge := t.gauge, log := t.log, evc := t.evc, tw := t.tw, freeCtr := t.freeCtr }) ∧
    (∀ (p : Port) (row : ObjRow), answering s = true → checkWrite s p 0x2701 0x01 = .ok row →
      (∃ t, exec (.chgEnSet p) s = .next t ∧ t.ack = .done ∧ t.settings = mapPut (okey 0x2701 0x01) 1 s.settings ∧
        (s.chg.phase = .off → t.chg.phase = if cellsOk s = true then (if s.chg.fault = 0 then .wait else .fault) else .off) ∧
        (s.chg.phase = .disabling → t.chg = { s.chg with enHeld := true }) ∧
        (s.chg.phase ∉ [.off, .disabling] → t.chg = s.chg) ∧ t = { s with settings := t.settings, chg := t.chg, evc := t.evc, tw := t.tw, ack := t.ack }) ∧
      (∃ t, exec (.chgEnClear p) s = .next t ∧ t.ack = .done ∧ t.settings = mapPut (okey 0x2701 0x01) 0 s.settings ∧
        (s.chg.phase = .off → t.chg = s.chg) ∧
        (s.chg.phase ≠ .off → t.chg.phase = .disabling ∧ t.chg.enHeld = false ∧ t.chg.current = s.chg.current) ∧
        t = { s with settings := t.settings, chg := t.chg, evc := t.evc, tw := t.tw, ack := t.ack })) ∧
    (∀ (x : Int) (v : Nat), (s.pp.present = false ∨ cellsOk s = false ∨ packVoltOk s v = true) →
      ∃ t, exec (.chargeStartConditions x v) s = .next t ∧ t.pp = { s.pp with packT := x, packV := v } ∧
      (startConditions s x = true → t.chg.tempPause = false ∧
        (s.chg.phase = .wait → t.chg.phase = if v < s.chgVpre * s.packCells then .precharge
          else if s.chg.terminated = true then .trickle else .fast) ∧
        (s.chg.phase ≠ .wait → t.chg.phase = s.chg.phase)) ∧
      (startConditions s x = false → (t.chg.phase = if s.chg.phase.charging = true then .wait else s.chg.phase) ∧
        (t.chg.tempPause = true ↔ s.chg.tempPause = true ∨ (s.chg.phase.charging = true ∧ chgTempOk s x = false))) ∧
      t = { s with pp := t.pp, chg := t.chg, evc := t.evc, tw := t.tw }) ∧
    (∀ (x : Int) (v : Nat), s.pp.present = true → cellsOk s = true → packVoltOk s v = false →
      ∃ t, exec (.chargeStartConditions x v) s = .next t ∧ t.pp.present = false ∧ t.gauge.running = false ∧
      (t.chg.phase = if s.chg.phase.charging = true then .wait else s.chg.phase) ∧ t = { s with pp := t.pp, chg := t.chg, gauge := t.gauge, evc := t.evc, tw := t.tw }) ∧
    (exec .chgHbDelayEnd s = .next (if s.pp.phase = .source ∧ (s.boot.phase = .ready ∨ s.boot.phase = .starting) then
      { s with chg := { s.chg with hbDone := true } } else s)) ∧
    (s.chg.phase ≠ .precharge → exec .prechargeDone s = .next s ∧ exec .prechargeTimeout s = .next s) ∧
    (s.chg.phase = .precharge → ∃ t, exec .prechargeDone s = .next t ∧ t.chg = { s.chg with
      phase := .fast, fastSamples := 0, peak := none, peakRestart := false, dvCnt := 0, dtCnt := 0, temps := [] } ∧ t = { s with chg := t.chg, evc := t.evc, tw := t.tw }) ∧
    (s.chg.phase = .precharge → ∃ t, exec .prechargeTimeout s = .next t ∧ t.chg = { s.chg with
      phase := .fault, fault := s.chg.fault ||| 4, faultRead := false, current := 0 } ∧ t = { s with nv := t.nv, chg := t.chg, log := t.log, evc := t.evc, tw := t.tw })

/-- The charger: termination samples, backstops, pack removal and loss, and the read of its faults. (R311, R312, R313, R314, R315, R316, R317,
R318, R330, R331, R332, R327) The level of LBUS with a charger stopped, and its cap of 19.5 V (log 50), are the model's choice. -/
def Obligations.ChargerFaultsAndRemoval : Prop :=
  ∀ s : State,
    (∀ (v : Nat) (x : Int) (is : List Nat), s.chg.phase ∉ [.fault, .fast] → (s.pp.present = false ∨ cellsOk s = false ∨ packVoltOk s v = true) →
      exec (.chargeTerminationSample v x is) s = .next { s with pp := { s.pp with packV := v, packT := x } }) ∧
    (∀ (v : Nat) (x : Int) (is : List Nat), s.chg.phase ∉ [.fault, .fast] → ¬(s.pp.present = false ∨ cellsOk s = false ∨ packVoltOk s v = true) →
      ∃ t, exec (.chargeTerminationSample v x is) s = .next t ∧ t.pp.present = false ∧ t.pp.packV = v ∧ t.pp.packT = x ∧
        t.gauge.running = false ∧ t.chg.phase = (if s.chg.phase.charging = true then .wait else s.chg.phase) ∧ t = { s with pp := t.pp, chg := t.chg, gauge := t.gauge, evc := t.evc, tw := t.tw }) ∧
    (∀ (v : Nat) (x : Int) (is : List Nat), s.chg.phase = .fault → ∃ t, exec (.chargeTerminationSample v x is) s = .next t ∧
      (s.chg.faultRead = false → t.chg = s.chg) ∧
      (s.chg.faultRead = true → persistBits s v x = 0 → t.chg.phase = .wait) ∧
      (s.chg.faultRead = true → persistBits s v x ≠ 0 → t.chg.phase = .fault ∧ t.chg.faultRead = false ∧
        t.chg.fault = s.chg.fault ||| persistBits s v x) ∧
      ((s.pp.present = false ∨ cellsOk s = false ∨ packVoltOk s v = true) → t.pp = { s.pp with packV := v, packT := x }) ∧
      t = { s with nv := t.nv, pp := t.pp, chg := t.chg, gauge := t.gauge, log := t.log, evc := t.evc, tw := t.tw }) ∧
    (∀ (v : Nat) (x : Int) (is : List Nat), s.chg.phase = .fast → ∃ t, exec (.chargeTerminationSample v x is) s = .next t ∧
      (backstopBits s v x s.chg.swOc ≠ 0 → t.chg.phase = .fault ∧ t.chg.fault = s.chg.fault ||| backstopBits s v x s.chg.swOc) ∧
      (¬(s.pp.present = false ∨ cellsOk s = false ∨ packVoltOk s v = true) → t.pp.present = false ∧ (backstopBits s v x s.chg.swOc = 0 → t.chg.phase = .wait)) ∧
      (backstopBits s v x s.chg.swOc = 0 → (s.pp.present = false ∨ cellsOk s = false ∨ packVoltOk s v = true) → is.any (fun i => moved5 ((is.headD 0 : Nat) : Rat) (i : Rat)) = true →
        t.chg.phase = .fast ∧ t.chg.dvCnt = 0 ∧ t.chg.dtCnt = 0 ∧ t.chg.peak = s.chg.peak) ∧
      (backstopBits s v x s.chg.swOc = 0 → (s.pp.present = false ∨ cellsOk s = false ∨ packVoltOk s v = true) →
        is.any (fun i => moved5 ((is.headD 0 : Nat) : Rat) (i : Rat)) = false →
        (3 ≤ t.chg.dvCnt ∨ 2 ≤ t.chg.dtCnt → t.chg.phase = .trickle ∧ t.chg.terminated = true ∧ t.chg.fastTime = 0 ∧
          t.chg.term = bit (decide (3 ≤ t.chg.dvCnt)) + 2 * bit (decide (2 ≤ t.chg.dtCnt))) ∧
        (t.chg.dvCnt < 3 → t.chg.dtCnt < 2 → t.chg.phase = .fast ∧ t.chg.terminated = s.chg.terminated)) ∧
      t = { s with mram := t.mram, nv := t.nv, pp := t.pp, chg := t.chg, gauge := t.gauge, log := t.log, evc := t.evc, tw := t.tw }) ∧
    (∀ (v : Nat) (x : Int) (oc : Bool), ∃ t, exec (.chargeBackstop v x oc) s = .next t ∧ t.chg.swOc = oc ∧
      ((s.pp.present = false ∨ cellsOk s = false ∨ packVoltOk s v = true) → t.pp = { s.pp with packV := v, packT := x }) ∧
      (s.chg.phase.charging = true → backstopBits s v x oc ≠ 0 → t.chg.phase = .fault ∧
        t.chg.fault = s.chg.fault ||| backstopBits s v x oc) ∧
      (s.chg.phase.charging = true → backstopBits s v x oc = 0 → (s.pp.present = false ∨ cellsOk s = false ∨ packVoltOk s v = true) → t.chg = { s.chg with swOc := oc }) ∧
      (s.chg.phase.charging = false → (s.chg.phase ≠ .fault ∨ s.chg.faultRead = false) → t.chg = { s.chg with swOc := oc }) ∧
      t = { s with nv := t.nv, pp := t.pp, chg := t.chg, gauge := t.gauge, log := t.log, evc := t.evc, tw := t.tw }) ∧
    (∀ (v : Nat) (x : Int), backstopBits s v x true ≠ 0 ∧ (s.chgTabs < x → backstopBits s v x false ≠ 0) ∧
      (s.chgVcellMax * s.packCells < v → backstopBits s v x false ≠ 0) ∧ (1200 < x → backstopBits s v x false ≠ 0) ∧
      (x ≤ s.chgTabs → x ≤ 1200 → v ≤ s.chgVcellMax * s.packCells → s.chg.fastTime < s.chgTsafe * 6000000 →
        backstopBits s v x false = 0)) ∧
    (∀ sign, (s.chg.phase.charging = false ∨ removalShows s sign = false) → exec (.packRemoval sign) s = .next s) ∧
    (removalShows s .pktOpen = true ∧ (∀ mA : Nat, removalShows s (.starved mA) = true ↔ ((mA * 10 : Nat) : Rat) < s.chg.current) ∧
      ∀ (a b : Nat) (di : Int), removalShows s (.jump a b di) = true ↔ ((di.natAbs : Nat) : Rat) * s.gauge.rser / 1000 +
        ((s.pkJump * s.packCells : Nat) : Rat) < (((b : Int) - (a : Int)).natAbs : Nat)) ∧
    (∀ sign, s.chg.phase.charging = true → removalShows s sign = true → ∃ t, exec (.packRemoval sign) s = .next t ∧
      t.chg.phase = .fault ∧ t.chg.current = 0 ∧
      t.chg.fault = s.chg.fault ||| 16 ∧ t.chg.terminated = false ∧ t.chg.fastTime = 0 ∧ t.chg.preTime = 0 ∧
      t.pp.present = false ∧ t.pp.clamp = true ∧ s.pp.lbusV + 300 ≤ t.pp.clampMax ∧ t.pp.clampMax ≤ s.pp.lbusV + 700 ∧
      t.gauge.running = false ∧ (s.pp.phase ≠ .outing → t.pp.fet = .off) ∧ t = { s with mram := t.mram, nv := t.nv, pp := t.pp, chg := t.chg, gauge := t.gauge, log := t.log, evc := t.evc, tw := t.tw, freeCtr := t.freeCtr }) ∧
    (s.chg.phase.charging = true → exec .packLost s = .next s) ∧
    (s.chg.phase.charging = false → ∃ t, exec .packLost s = .next t ∧ t.pp.present = false ∧ t.gauge.running = false ∧
      t.chg = s.chg ∧ (s.pp.phase ∉ [.onPack, .handingOver] → t.log = s.log) ∧ t = { s with nv := t.nv, pp := t.pp, gauge := t.gauge, log := t.log, evc := t.evc, tw := t.tw }) ∧
    (∀ (p : Port) (row : ObjRow), answering s = true → checkRead s p 0x2701 0x11 = .ok row →
      exec (.chgFaultRead p) s = .next { s with
        ack := .value (leBytes row.typ.bytes s.chg.fault)
        chg := { s.chg with fault := 0, faultRead := s.chg.faultRead || decide (s.chg.phase = .fault) } })

/-- The gauge estimate, qualified rest, start, and the wait for a discharge. (R318, R331, R332, R333, R336, R337, R338, R339, R340, R346,
R347, R348) Exact rationals (log 15), rest and means counted in estimates (log 17) and one rounding for each estimate (log 14) are the
model's choice. -/
def Obligations.GaugeEstimates : Prop :=
  ∀ s : State,
    (∀ (v : Nat) (i x : Int), s.pwr.state ∈ [.park, .off] → exec (.gaugeEstimate v i x) s = .next { s with
        pp := { s.pp with packV := v, packI := i, packT := x } }) ∧
    (∀ (v : Nat) (i x : Int), s.pwr.state ∉ [.park, .off] → (s.gauge.running = false ∨ s.pp.present = false ∨ cellsOk s = false) →
      exec (.gaugeEstimate v i x) s = .next { s with
        pp := { s.pp with packV := v, packI := i, packT := x }
        gauge := { s.gauge with
          ageSec := (s.gauge.ageSec + 1) % 60
          alm := { s.gauge.alm with age := satAdd max32 s.gauge.alm.age ((s.gauge.ageSec + 1) / 60) } } }) ∧
    (∀ (v : Nat) (i x : Int), s.gauge.running = true → s.pp.present = true → cellsOk s = true → s.pwr.state ∉ [.park, .off] →
      ∃ t, exec (.gaugeEstimate v i x) s = .next t ∧ t.pp.packV = v ∧ t.pp.packI = i ∧ t.pp.packT = x ∧
        (t.gauge.running = true ↔ packVoltOk s v = true) ∧ t.gauge.first = false ∧ s.freeCtr < t.freeCtr ∧
        t.gauge.restSec = (if -i ≤ (s.ggRestI : Int) ∧ -(s.ggRestI : Int) ≤ -i then s.gauge.restSec + 1 else 0) ∧
        t.gauge.hist = -i :: s.gauge.hist.take 59 ∧ 0 ≤ t.gauge.socV ∧ t.gauge.socV ≤ 1 ∧ 0 ≤ t.gauge.qInt ∧
        (s.gauge.first = false → (s.ggRestI : Int) < -i →
          t.gauge.qInt = max 0 (min (capacity s : Rat) (s.gauge.qInt + (i : Rat) / 3600))) ∧
        t.gauge.rcEst = ggRc t ∧ t.gauge.rcIntEst = ggRcInt t ∧ t.gauge.fccEst = ggFcc t ∧ t.gauge.socIEst = socI t ∧
        t = { s with mram := t.mram, nv := t.nv, pp := t.pp, chg := t.chg, gauge := t.gauge, log := t.log, evc := t.evc, tw := t.tw, freeCtr := t.freeCtr }) ∧
    ((s.gauge.running = false ∨ s.gauge.restSec = 0 ∨ s.gauge.restQual = true ∨ s.pwr.state ∉ [.run, .doze]) →
      exec .restQualified s = .next s) ∧
    (s.gauge.running = true → 0 < s.gauge.restSec → s.gauge.restQual = false → s.pwr.state ∈ [.run, .doze] →
      ∃ t, exec .restQualified s = .next t ∧ t.gauge.restQual = true ∧ t.gauge.socV = clamp01 s.gauge.sRaw ∧
        t.gauge.qInt = clamp01 s.gauge.sRaw * (capacity s : Rat) ∧ t.gauge.disagree = false ∧ t.gauge.dir = false ∧
        t.gauge.soc = ggSocUnits t ∧ t.gauge.tte = ggTte t ∧ t.gauge.rcEst = ggRc t ∧ t.gauge.rcIntEst = ggRcInt t ∧
        t.gauge.fccEst = ggFcc t ∧ t.gauge.socIEst = socI t ∧ t.gauge.alm = s.gauge.alm ∧
        (10 * s.chgRestartSoc ≤ t.gauge.soc → t.chg = s.chg) ∧
        (t.gauge.soc < 10 * s.chgRestartSoc → t.chg.terminated = false) ∧ t = { s with chg := t.chg, gauge := t.gauge, evc := t.evc, tw := t.tw }) ∧
    (∀ v b, (b = false ∨ cellsOk s = false ∨ packVoltOk s v = false) →
      exec (.gaugeStart v b) s = .next { s with pp := { s.pp with packV := v } }) ∧
    (∀ v, cellsOk s = true → packVoltOk s v = true → ∃ t, exec (.gaugeStart v true) s = .next t ∧
      t.pp = { s.pp with packV := v, present := true } ∧ t.gauge.running = true ∧ t.chg = { s.chg with removed := false } ∧
      t.gauge.first = true ∧ t.gauge.v1 = 0 ∧ t.gauge.v2 = 0 ∧ t.gauge.restSec = 0 ∧ t.gauge.eod = false ∧
      t.gauge.disagree = false ∧ t.gauge.learn = .idle ∧ t.gauge.alm = s.gauge.alm ∧ t = { s with pp := t.pp, chg := t.chg, gauge := t.gauge, evc := t.evc, tw := t.tw }) ∧
    (∀ v, packVoltOk s v = true ↔ 500 * s.packCells ≤ v ∧ v ≤ s.chgVcellMax * s.packCells) ∧
    (s.gauge.learn ≠ .full → exec .learnFullWaitLapse s = .next s) ∧
    (s.gauge.learn = .full → ∃ t, exec .learnFullWaitLapse s = .next t ∧ t.gauge.learn = .idle ∧ t.gauge.alm.result = 10 ∧
      t.gauge.alm.cap = s.gauge.alm.cap ∧ t = { s with pp := t.pp, gauge := t.gauge, evc := t.evc, tw := t.tw })

/-- New pack, outings, gauge tables and the Almanac write-back. (R351, R353, R354, R355, R357, R359, R369, R377, R378) The sequence of a
write-back (log 35) and the rounding of the discharged charge (log 14) are the model's reading. -/
def Obligations.OutingsAndAlmanac : Prop :=
  ∀ s : State,
    (∀ (p : Port) (row : ObjRow), answering s = true → checkWrite s p 0x2711 0x0F = .ok row →
      (∀ v, v ≠ 1 → exec (.ggNewpack p v) s = .next { s with ack := .done }) ∧
      (∃ t, exec (.ggNewpack p 1) s = .next t ∧ t.ack = .done ∧ t.gauge.alm.cap = 0 ∧ t.gauge.alm.capLearned = false ∧
        t.gauge.alm.cycles = 0 ∧ t.gauge.alm.disAcc = 0 ∧ t.gauge.alm.age = 0 ∧ t.gauge.learn = .idle ∧
        t.gauge.alm.tables = s.gauge.alm.tables ∧ t = { s with mram := t.mram, nv := t.nv, pp := t.pp, gauge := t.gauge, evc := t.evc, tw := t.tw, ack := t.ack, freeCtr := t.freeCtr })) ∧
    (∀ (p : Port) (row : ObjRow), answering s = true → checkWrite s p 0x2711 0x0B = .ok row →
      (outingMayStart s = false → exec (.outingStartCmd p) s = .next { s with ack := .abort .state }) ∧
      (outingMayStart s = true → ∃ t, exec (.outingStartCmd p) s = .next t ∧ t.ack = .done ∧ t.pp.phase = .outing ∧
        t.pp.fet = .full ∧ t.gauge.outRunning = true ∧ t.gauge.outCnt = satAdd max16 s.gauge.outCnt 1 ∧ t.chg.phase = .wait ∧
        t = { s with pp := t.pp, chg := t.chg, gauge := t.gauge, evc := t.evc, tw := t.tw, ack := t.ack }) ∧
      (s.gauge.outRunning = false → exec (.outingEndCmd p) s = .next { s with ack := .done }) ∧
      (s.gauge.outRunning = true → ∃ t, exec (.outingEndCmd p) s = .next t ∧ t.ack = .done ∧ t.gauge.outRunning = false ∧
        t.gauge.outReason = 2 ∧ (s.pp.phase = .outing → t.pp.phase = .handingBack) ∧ t = { s with pp := t.pp, gauge := t.gauge, evc := t.evc, tw := t.tw, ack := t.ack })) ∧
    (s.gauge.outRunning = false → exec .outingTimeout s = .next s) ∧
    (s.gauge.outRunning = true → ∃ t, exec .outingTimeout s = .next t ∧ t.gauge.outRunning = false ∧ t.gauge.outReason = 3 ∧
      t.gauge.learn = .idle ∧ (s.gauge.learn ≠ .idle → t.gauge.alm.result = 10) ∧
      (s.pp.phase = .outing → t.pp.phase = .handingBack) ∧ t = { s with pp := t.pp, gauge := t.gauge, evc := t.evc, tw := t.tw }) ∧
    (∀ (p : Port) (row : ObjRow) (b : List Byte), answering s = true → checkWrite s p 0x2712 0x01 = .ok row →
      (b.length ≠ 1240 → exec (.ggAlmTablesWrite p b) s = .next { s with ack := .abort .length }) ∧
      (b.length = 1240 → ∃ t, exec (.ggAlmTablesWrite p b) s = .next t ∧ t.ack = .done ∧ t.gauge.alm.tables = b ∧
        t.gauge.alm.tablesSet = true ∧ t.gauge.alm.cap = s.gauge.alm.cap ∧ t.gauge.learn = .idle ∧
        t = { s with mram := t.mram, nv := t.nv, pp := t.pp, gauge := t.gauge, evc := t.evc, tw := t.tw, ack := t.ack, freeCtr := t.freeCtr })) ∧
    (s.pwr.state ∉ [.run, .doze] → exec .writeBackTimer s = .next s) ∧
    (∀ k, s.pwr.state ∈ [.run, .doze] → s.nv.wb = .running k →
      exec .writeBackTimer s = .next { s with nv := { s.nv with wbReq := true } }) ∧
    (∀ k, s.pwr.state ∈ [.run, .doze] → s.nv.wb = .idle → s.nv.slotUse = some k → ∃ t, exec .writeBackTimer s = .next t ∧
      t.nv = { s.nv with wb := .running (otherSlot k), wbReq := false, wbLearn := false } ∧
      t.mram.slots[otherSlot k].valid = false ∧ t.mram.slots[otherSlot k].seq = 0 ∧ t.mram.slots[otherSlot k].recs = [] ∧
      t.mram.slots[otherSlot k].alm = { s.gauge.alm with
        cells := s.packCells, disAcc := t.mram.slots[otherSlot k].alm.disAcc } ∧ t.mram.slots[otherSlot k].base = s.nv.ctr ∧
      t.mram.slots[k] = s.mram.slots[k] ∧ t.mram = { s.mram with slots := t.mram.slots, errs := t.mram.errs } ∧
      t = { s with mram := t.mram, nv := t.nv, freeCtr := t.freeCtr }) ∧
    (s.pwr.state ∈ [.run, .doze] → s.nv.wb = .idle → s.nv.slotUse = none → ∃ t, exec .writeBackTimer s = .next t ∧
      t.nv = { s.nv with wb := .running 0, wbReq := false, wbLearn := false } ∧ t.mram.slots[(0 : Fin 2)].valid = false ∧
      t.mram.slots[(1 : Fin 2)] = s.mram.slots[(1 : Fin 2)] ∧ t = { s with mram := t.mram, nv := t.nv, freeCtr := t.freeCtr }) ∧
    (∀ ok, (s.nv.wb = .idle ∨ journalWaits s = true) → exec (.almanacWriteBackDone ok) s = .next s) ∧
    (∀ k, s.nv.wb = .running k → s.nv.wbReq = false → s.nv.ctrHeld = [] → journalWaits s = false →
      exec (.almanacWriteBackDone true) s = .next { s with
        nv := { s.nv with wb := .idle, slotUse := some k }
        mram := { s.mram with slots := vmod s.mram.slots k fun x => { x with valid := true, wip := false, seq := nextSlotSeq s } }
        gauge := { s.gauge with almInvalid := false }
        freeCtr := s.freeCtr + 1 }) ∧
    (∀ j, s.nv.slotUse = some j → nextSlotSeq s = seqNext s.mram.slots[j].seq) ∧
    (∀ k, s.nv.wb = .running k → s.nv.wbReq = false → s.nv.ctrHeld = [] → journalWaits s = false →
      ∃ t, exec (.almanacWriteBackDone false) s = .next t ∧ t.nv.wb = .idle ∧ t.nv.slotUse = s.nv.slotUse ∧
      t.mram = { s.mram with slots := vmod s.mram.slots k fun x => { x with valid := false, wip := false, seq := 0 } } ∧
      t = { s with mram := t.mram, nv := t.nv, log := t.log, evc := t.evc, tw := t.tw, freeCtr := t.freeCtr })

/-- Configuration save, copies written, the vote at boot, the Home Chart image, its lock, and the journal. (R100, R101, R102, R104, R368,
R369, R372, R373, R375, R376, R380, R381) The header of a copy while it is written (log 32), the flaws of MRAM words (log 36) and writers
that wait (log 74) are the model's reading. -/
def Obligations.ConfigurationAndHomeChart : Prop :=
  ∀ s : State,
    (∀ (p : Port) (row : ObjRow), answering s = true → checkWrite s p 0x2801 0x01 = .ok row →
      (∀ v, saveRuns s = true → exec (.cfgSave p v) s = .next { s with ack := .abort .state }) ∧
      (∀ v, v ≠ 0x5AFE → saveRuns s = false → exec (.cfgSave p v) s = .next { s with ack := .done }) ∧
      (saveRuns s = false → exec (.cfgSave p 0x5AFE) s = .next { s with
        ack := .done
        nv := { s.nv with
          saveGen := nextGen s, saveBody := imageOf s, saveStatus := 1, repairing := false, saveCopy := some 0 }
        mram := { (mramFresh 0x80000 0x8000 s).mram with cfg := vmod s.mram.cfg 0 fun c => { c with valid := false, gen := 0 } } })) ∧
    (∀ ok, (s.nv.saveCopy = none ∨ journalWaits s = true) → exec (.configCopyWritten ok) s = .next s) ∧
    (∀ k j : Fin 3, s.nv.saveCopy = some k → s.nv.repairing = false → journalWaits s = false → j.val = k.val + 1 →
      exec (.configCopyWritten true) s = .next { s with
        nv := { s.nv with saveCopy := some j }
        mram := { (mramFresh (copyOffset j) 0x8000 s).mram with
          cfg := vmod (vset s.mram.cfg k ⟨true, s.nv.saveGen, s.nv.saveBody⟩) j fun c => { c with valid := false, gen := 0 } } }) ∧
    (s.nv.saveCopy = some 2 → s.nv.repairing = false → journalWaits s = false → ∃ t, exec (.configCopyWritten true) s = .next t ∧
      t.mram.cfg = vset s.mram.cfg 2 ⟨true, s.nv.saveGen, s.nv.saveBody⟩ ∧ t.nv.saveCopy = none ∧ t.nv.saveStatus = 2 ∧
      t = { s with mram := t.mram, nv := t.nv, boot := t.boot, evc := t.evc, tw := t.tw }) ∧
    (∀ k : Fin 3, s.nv.saveCopy = some k → s.nv.repairing = false → journalWaits s = false →
      ∃ t, exec (.configCopyWritten false) s = .next t ∧
      t.nv.saveCopy = none ∧ t.nv.saveStatus = 3 ∧ t.mram.cfg[k] = ⟨false, 0, s.nv.saveBody⟩ ∧
      (∀ j : Fin 3, j ≠ k → t.mram.cfg[j] = s.mram.cfg[j]) ∧ t = { s with mram := t.mram, nv := t.nv, log := t.log, evc := t.evc, tw := t.tw }) ∧
    (∀ k : Fin 3, s.nv.saveCopy = some k → s.nv.repairing = true → s.boot.repairs = [] → journalWaits s = false → ∃ t,
      exec (.configCopyWritten true) s = .next t ∧ t.mram.cfg = vset s.mram.cfg k ⟨true, s.nv.saveGen, s.nv.saveBody⟩ ∧
      t.nv.saveCopy = none ∧ t.nv.repairing = false ∧ t = { s with mram := t.mram, nv := t.nv, log := t.log, evc := t.evc, tw := t.tw }) ∧
    (∀ (p : Port) (row : ObjRow) (b : List Byte), answering s = true → checkWrite s p 0x2802 0x01 = .ok row →
      (32696 < b.length → exec (.hcImageWrite p b) s = .next { s with ack := .abort .length }) ∧
      (b.length ≤ 32696 → (s.mram.lc ∉ [1, 2] ∨ hcLocked s = true ∨ s.nv.hcWrite ≠ none) →
        exec (.hcImageWrite p b) s = .next { s with ack := .abort .state }) ∧
      (b.length ≤ 32696 → s.mram.lc ∈ [1, 2] → hcLocked s = false → s.nv.hcWrite = none →
        exec (.hcImageWrite p b) s = .next { s with
          ack := .none, nv := { s.nv with hcWrite := some b, hcPort := p }
          mram := { (mramFresh 0x98000 0x7FF8 s).mram with hc := { s.mram.hc with valid := false } } })) ∧
    (∀ ok, (s.nv.hcWrite = none ∨ journalWaits s = true) → exec (.homeChartWritten ok) s = .next s) ∧
    (∀ b, s.nv.hcWrite = some b → journalWaits s = false → hcLocked s = false → ∃ t, exec (.homeChartWritten true) s = .next t ∧
      t.mram = { s.mram with hc := { s.mram.hc with valid := true, body := b } } ∧
      t.nv = { s.nv with hcWrite := none, hcNext := true } ∧ t = { s with mram := t.mram, nv := t.nv, tw := t.tw, can := t.can }) ∧
    (∀ ok b, s.nv.hcWrite = some b → journalWaits s = false → (ok = false ∨ hcLocked s = true) →
      ∃ t, exec (.homeChartWritten ok) s = .next t ∧ t.mram = s.mram ∧
      t.nv.hcWrite = none ∧ t.nv.hcNext = s.nv.hcNext ∧ t = { s with nv := t.nv, log := t.log, evc := t.evc, tw := t.tw, can := t.can }) ∧
    (∀ (p : Port) (row : ObjRow) (v : Nat), answering s = true → checkWrite s p 0x2802 0x02 = .ok row →
      ((v ≠ 0x4C4F434B ∨ hcLocked s = true) → exec (.hcLock p v) s = .next { s with ack := .done }) ∧
      (v = 0x4C4F434B → hcLocked s = false → (s.mram.lc ≠ 2 ∨ s.mram.hc.valid = false) →
        exec (.hcLock p v) s = .next { s with ack := .abort .state }) ∧
      (v = 0x4C4F434B → hcLocked s = false → s.mram.lc = 2 → s.mram.hc.valid = true → exec (.hcLock p v) s = .next { s with
        ack := .done
        mram := { s.mram with hc := { s.mram.hc with lockLo := 0x4C4F434B, lockHi := 0xB3B0BCB4 } } })) ∧
    (sysRuns s = false → exec .journalAppend s = .next s) ∧
    (sysRuns s = true → (s.nv.lfTail = [] ∨ s.boot.phase ≠ .ready) → s.log.ring = [] → exec .journalAppend s = .next s) ∧
    (∀ r l, sysRuns s = true → (s.nv.lfTail = [] ∨ s.boot.phase ≠ .ready) → s.log.ring = r :: l → exec .journalAppend s = .next { s with
      log := { s.log with ring := l }
      mram := { s.mram with
        journal := (if s.mram.journal.length < 6144 then s.mram.journal else s.mram.journal.tail) ++ [r]
        jnlTornRec := false } }) ∧
    (∀ r l, sysRuns s = true → s.boot.phase = .ready → s.nv.lfTail = r :: l → exec .journalAppend s = .next { s with
      nv := { s.nv with lfTail := l, lfTailDone := s.nv.lfTailDone || l.isEmpty }
      mram := { s.mram with
        journal := (if s.mram.journal.length < 6144 then s.mram.journal else s.mram.journal.tail) ++ [{ r with fromLf := true }]
        jnlTornRec := false } }) ∧
    (∀ w f (k : Fin 2) (a b d : CfgCopy), s.boot.phase = .selfTest → f % 256 = 0 → bankState s.mram.banks[k] = .active →
      s.mram.errs = [] → a = s.mram.cfg[(0 : Fin 3)] → b = s.mram.cfg[(1 : Fin 3)] → d = s.mram.cfg[(2 : Fin 3)] →
      ∃ t, exec (.hamperSelfTestEnd w f) s = .next t ∧ t.boot.crcValid = bitsOf [a.valid, b.valid, d.valid] ∧
        t.mram.cfg = s.mram.cfg ∧
        (∀ (x : CfgCopy) (n : Nat) (l : List (Fin 3)),
          (copiesAgree a b = true ∧ x = a ∧ n = 0 ∧ l = if copiesAgree b d = true then [] else [2]) ∨
          (copiesAgree a b = false ∧ copiesAgree a d = true ∧ x = a ∧ n = 0 ∧ l = [1]) ∨
          (copiesAgree a b = false ∧ copiesAgree a d = false ∧ copiesAgree b d = true ∧ x = b ∧ n = 1 ∧ l = [0]) ∨
          (a.valid = true ∧ b.valid = false ∧ d.valid = true ∧ a.gen = (d.gen + 1) % 2 ^ 32 ∧ copiesAgree a d = false ∧
            x = d ∧ n = 2 ∧ l = [0, 1]) →
          t.boot.copyUsed = n ∧ t.boot.cfgGen = x.gen ∧ t.boot.repairs = l ∧ (t.boot.cfgRepaired = true ↔ l ≠ []) ∧
          (t.boot.cfgAbandoned = true ↔ n = 2) ∧ t.boot.cfgSplit = false ∧ t.boot.hcUsed = false ∧ t.boot.hcInvalid = false ∧
          t.settings = (applyBody s.part false x.body).1) ∧
        (copiesAgree a b = false → copiesAgree a d = false → copiesAgree b d = false →
          ¬(a.valid = true ∧ b.valid = false ∧ d.valid = true ∧ a.gen = (d.gen + 1) % 2 ^ 32) →
          t.boot.copyUsed = 3 ∧ t.boot.cfgGen = 0 ∧ t.boot.repairs = [] ∧ t.boot.cfgRepaired = false ∧
          t.boot.cfgAbandoned = false ∧ t.boot.cfgSplit = true ∧ t.boot.hcUsed = true ∧ t.boot.hcInvalid = !s.mram.hc.valid ∧
          t.settings = if s.mram.hc.valid = true then (applyBody s.part true s.mram.hc.body).1 else []))

/-- Hold-up: entry, the save that ends or is cut off; tamper and its release. (R76, R84, R385, R386, R387, R388, R389, R391, R396, R397, R543)
A record torn by a save that is cut off (log 85) and a RESET_N then discarded (log 74) are the model's choice. -/
def Obligations.HoldUpAndTamper : Prop :=
  ∀ s : State,
    (∀ h, s.boot.phase ∈ [.porHeld, .holdUp] → exec (.holdUpEntry h) s = .next s) ∧
    (∀ h, s.boot.phase ∉ [.porHeld, .holdUp] → ∃ t, exec (.holdUpEntry h) s = .next t ∧ t.boot.phase = .holdUp ∧
      t.boot.odAnswering = false ∧ t.nv.huSlot = fixSlot s ∧ t.nv.huSave = saveAllowed s ∧ t.nv.hucap = h ∧
      (saveAllowed s = true → t.mram.lf[fixSlot s] = makeFix h s) ∧ (saveAllowed s = false → t.mram.lf = s.mram.lf) ∧
      (∀ k : Fin 2, k ≠ fixSlot s → t.mram.lf[k] = s.mram.lf[k]) ∧ (∀ r : Fin 28, t.rails[r].enabled = false) ∧
      t.mram.cfg = s.mram.cfg ∧ t.mram.hc = s.mram.hc ∧ t.mram.lc = s.mram.lc ∧
      (t.mram.journal = s.mram.journal ∨ (t.mram.jnlTornRec = true ∧ s.log.ring ≠ [] ∧ t.mram.journal =
        if s.mram.journal.length < 6144 then s.mram.journal else s.mram.journal.tail)) ∧
      t.part = s.part ∧ t.settings = s.settings ∧ t.hamper = s.hamper ∧ t.pending = s.pending ∧ t.safeN = s.safeN) ∧
    (∀ b, s.boot.phase ≠ .holdUp → exec (.holdUpSaveEnd b) s = .next s) ∧
    (∀ k, s.boot.phase ≠ .holdUp → exec (.hucapPowerOnReset k) s = .next s) ∧
    (∀ b, s.boot.phase = .holdUp → ∃ t, exec (.holdUpSaveEnd b) s = .next t ∧
      t = { State.reset with
        part := s.part, pending := s.pending, freeCtr := t.freeCtr, mram := t.mram
        zin := t.zin, fo := t.fo, rails := t.rails, dies := t.dies
        zbus := { State.reset.zbus with inWindow := s.zbus.inWindow, v := s.zbus.v }
        pp := { State.reset.pp with svcQual := s.pp.svcQual, svcRev := s.pp.svcRev, present := s.pp.present }
        nv := { State.reset.nv with tamperLow := s.nv.tamperLow }
        boot := { State.reset.boot with resetNLow := s.boot.resetNLow, resetNInSave := s.boot.resetNInSave && b } } ∧
      (∀ c : Fin 4, t.zin[c] = { State.reset.zin[c] with
        inWindow := s.zin[c].inWindow
        coldOn := if s.zin[c].coldStart = true then s.zin[c].coldOn else State.reset.zin[c].coldOn
        coldBlock := if s.zin[c].coldStart = true then s.zin[c].coldBlock else State.reset.zin[c].coldBlock
        coldDone := if s.zin[c].coldStart = true then s.zin[c].coldDone else State.reset.zin[c].coldDone
        fault := if s.zin[c].coldStart = true then s.zin[c].fault else State.reset.zin[c].fault }) ∧
      (∀ c : Fin 8, t.fo[c] = { State.reset.fo[c] with present := s.fo[c].present }) ∧
      (∀ r : Fin 28, t.rails[r] = { State.reset.rails[r] with enPin := s.rails[r].enPin }) ∧
      (∀ k : Fin 7, t.dies[k] = { State.reset.dies[k] with vdrOk := s.dies[k].vdrOk, stf := s.dies[k].stf }) ∧
      t.mram = { s.mram with lf := t.mram.lf, slots := t.mram.slots } ∧
      (s.nv.huSave = true → errIn s (fixOffset s.nv.huSlot) 0x1040 .stuck = false →
        t.mram.lf[s.nv.huSlot] = { s.mram.lf[s.nv.huSlot] with valid := true, torn := false }) ∧
      ((s.nv.huSave = false ∨ errIn s (fixOffset s.nv.huSlot) 0x1040 .stuck = true) → t.mram.lf = s.mram.lf) ∧
      (s.nv.huSave = false → t.mram = s.mram) ∧ (∀ k : Fin 2, k ≠ s.nv.huSlot → t.mram.lf[k] = s.mram.lf[k])) ∧
    (∀ n : Fin 7, s.boot.phase = .holdUp → ∃ t, exec (.hucapPowerOnReset n) s = .next t ∧
      t = { State.reset with
        part := s.part, pending := s.pending, freeCtr := t.freeCtr, mram := t.mram
        zin := t.zin, fo := t.fo, rails := t.rails, dies := t.dies
        zbus := { State.reset.zbus with inWindow := s.zbus.inWindow, v := s.zbus.v }
        pp := { State.reset.pp with svcQual := s.pp.svcQual, svcRev := s.pp.svcRev, present := s.pp.present }
        nv := { State.reset.nv with tamperLow := s.nv.tamperLow }
        boot := { State.reset.boot with resetNLow := s.boot.resetNLow, resetNInSave := State.reset.boot.resetNInSave } } ∧
      (∀ c : Fin 4, t.zin[c] = { State.reset.zin[c] with
        inWindow := s.zin[c].inWindow
        coldOn := if s.zin[c].coldStart = true then s.zin[c].coldOn else State.reset.zin[c].coldOn
        coldBlock := if s.zin[c].coldStart = true then s.zin[c].coldBlock else State.reset.zin[c].coldBlock
        coldDone := if s.zin[c].coldStart = true then s.zin[c].coldDone else State.reset.zin[c].coldDone
        fault := if s.zin[c].coldStart = true then s.zin[c].fault else State.reset.zin[c].fault }) ∧
      (∀ c : Fin 8, t.fo[c] = { State.reset.fo[c] with present := s.fo[c].present }) ∧
      (∀ r : Fin 28, t.rails[r] = { State.reset.rails[r] with enPin := s.rails[r].enPin }) ∧
      (∀ k : Fin 7, t.dies[k] = { State.reset.dies[k] with vdrOk := s.dies[k].vdrOk, stf := s.dies[k].stf }) ∧
      t.mram = { s.mram with lf := t.mram.lf, slots := t.mram.slots } ∧
      (4 ≤ n.val → s.nv.huSave = true → errIn s (fixOffset s.nv.huSlot) 0x1040 .stuck = false →
        t.mram.lf[s.nv.huSlot] = { s.mram.lf[s.nv.huSlot] with valid := true, torn := false }) ∧
      (n.val < 4 → t.mram = s.mram) ∧ (s.nv.huSave = false → t.mram = s.mram) ∧
      (∀ k : Fin 2, k ≠ s.nv.huSlot → t.mram.lf[k] = s.mram.lf[k])) ∧
    (s.nv.tamperLow = true → exec .tamper s = .next s) ∧
    (s.nv.tamperLow = false → s.boot.phase = .porHeld →
      exec .tamper s = .next { s with nv := { s.nv with tamperLow := true } }) ∧
    (s.nv.tamperLow = false → s.boot.phase ≠ .porHeld → ∃ t, exec .tamper s = .next t ∧ t.nv.tamperLow = true ∧
      t.nv.keyLoaded = false ∧ t.nv.wiped = true ∧ t.nv.wipeTamper = true ∧
      t.nv.ctr[ctrTamper] = satAdd max16 s.nv.ctr[ctrTamper] 1 ∧
      (Memory.wf s.hamper.mem = true → (∀ a, a < 0x4000 → Memory.get t.hamper.mem a = 0) ∧
        ∀ a, 0x4000 ≤ a → Memory.get t.hamper.mem a = Memory.get s.hamper.mem a) ∧
      t = { s with mram := t.mram, nv := t.nv, hamper := t.hamper, pwr := t.pwr, groups := t.groups, rsto := t.rsto, log := t.log, evc := t.evc, tw := t.tw, update := t.update, can := t.can, freeCtr := t.freeCtr }) ∧
    (exec .tamperRelease s = .next { s with nv := { s.nv with tamperLow := false } })

/-- The housekeeping converter: conversions, slow round, disable, calibration and reference. (R401, R402, R403, R404, R406, R408, R409, R410,
R411, R412) -/
def Obligations.Housekeeping : Prop :=
  ∀ s : State,
    (∀ (ch : Fin 48) sl raw v, (sysRuns s = false ∨ s.hk.calibrating = true) → exec (.hkConversionEnd ch sl raw v) s = .next s) ∧
    (∀ (ch : Fin 48) sl raw v, sysRuns s = true → s.hk.calibrating = false → s.hk.disabling = true → ∃ t,
      exec (.hkConversionEnd ch sl raw v) s = .next t ∧ t.hk = { s.hk with
        disabling := false, mask := s.hkScanMask, next := t.hk.next } ∧ t = { s with hk := t.hk }) ∧
    (∀ (ch : Fin 48) sl raw v, sysRuns s = true → s.hk.calibrating = false → s.hk.disabling = false →
      (s.hkScanEn = false ∨ s.hk.mask.testBit ch = false ∨ ch.val ≠ s.hk.next) → exec (.hkConversionEnd ch sl raw v) s = .next s) ∧
    (∀ (ch : Fin 48) (sl : Fin 5) (raw v : Nat), sysRuns s = true → s.hk.calibrating = false → s.hk.disabling = false →
      s.hkScanEn = true → s.hk.mask.testBit ch = true → ch.val = s.hk.next → ∀ c, c = hkCorrect s sl (min 4095 raw) →
      ∃ t, exec (.hkConversionEnd ch sl raw v) s = .next t ∧
        (8 ≤ ch.val → t.hk.result[ch] = c ∧ t.hk.value[ch] = hkMicrovolt s ch c vRefi) ∧
        (ch.val < 8 → s.hkRefSel = s.hk.refSel → t.hk.value[ch] = hkMicrovolt s ch c (if s.hk.refSel = 0 then vRefi else v) ∧
          t.hk.result[ch] = c + (if s.hk.settling = true then 32768 else 0)) ∧
        (ch.val < 8 → s.hkRefSel ≠ s.hk.refSel → t.hk.refSel = s.hkRefSel ∧ t.hk.settling = true ∧
          t.hk.result[ch] = c + 32768 ∧ t.hk.value[ch] = hkMicrovolt s ch c (if s.hkRefSel = 0 then vRefi else v)) ∧
        ((8 ≤ ch.val ∨ (s.hkRefSel = s.hk.refSel ∧ s.hk.settling = false)) →
          ((c < s.hkWinLo ch ∨ s.hkWinHi ch < c) → s.hk.armed[ch] = true →
            t.hk.armed[ch] = false ∧ t.hk.outside[ch] = true ∧ t.hk.evt[ch] = true) ∧
          ((c < s.hkWinLo ch ∨ s.hkWinHi ch < c) → s.hk.armed[ch] = false →
            t.hk.armed[ch] = false ∧ t.hk.outside[ch] = s.hk.outside[ch] ∧ t.hk.evt[ch] = s.hk.evt[ch]) ∧
          (s.hkWinLo ch + s.hkWinHyst ≤ c → c + s.hkWinHyst ≤ s.hkWinHi ch →
            t.hk.armed[ch] = true ∧ t.hk.outside[ch] = false ∧ t.hk.evt[ch] = s.hk.evt[ch])) ∧
        (¬(8 ≤ ch.val ∨ (s.hkRefSel = s.hk.refSel ∧ s.hk.settling = false)) →
          t.hk.armed[ch] = s.hk.armed[ch] ∧ t.hk.evt[ch] = s.hk.evt[ch]) ∧
        (∀ d : Fin 48, ch.val < d.val → s.hk.mask.testBit d = true →
          (∀ e : Fin 48, ch.val < e.val → e.val < d.val → s.hk.mask.testBit e = false) →
          t.hk.next = d.val ∧ t.hk.scanCnt = s.hk.scanCnt) ∧
        ((∀ d : Fin 48, ch.val < d.val → s.hk.mask.testBit d = false) → t.hk.mask = s.hkScanMask ∧
          t.hk.scanCnt = satAdd max32 s.hk.scanCnt 1) ∧
        (∀ j : Fin 48, j ≠ ch → t.hk.result[j] = s.hk.result[j] ∧ t.hk.value[j] = s.hk.value[j] ∧
          t.hk.armed[j] = s.hk.armed[j] ∧ t.hk.evt[j] = s.hk.evt[j]) ∧
        t.hk.gain = s.hk.gain ∧ t.hk.ofs = s.hk.ofs ∧ t = { s with hk := t.hk, evc := t.evc, tw := t.tw }) ∧
    (∀ raws v, (sysRuns s = false ∨ s.hk.calibrating = true) → exec (.hkSlowRound raws v) s = .next s) ∧
    (∀ (raws : List (Fin 5 × Nat)) (v : Nat), sysRuns s = true → s.hk.calibrating = false → ∃ t,
      exec (.hkSlowRound raws v) s = .next t ∧ t.hk.disabling = false ∧
      (∀ (ch : Fin 48) (x : Fin 5 × Nat), raws[ch.val]? = some x → 8 ≤ ch.val → t.hk.result[ch] = hkCorrect s x.1 (min 4095 x.2)) ∧
      t.part = s.part ∧ t.settings = s.settings ∧ t.hamper = s.hamper ∧ t.wd = s.wd ∧ t.pending = s.pending) ∧
    (∀ (p : Port) (row : ObjRow), answering s = true → checkWrite s p 0x2900 0x01 = .ok row → exec (.hkScanDisable p) s = .next { s with
      ack := .done, settings := mapPut (okey 0x2900 0x01) 0 s.settings
      hk := { s.hk with disabling := s.hk.disabling || hkScanning s } }) ∧
    (∀ (p : Port) (row : ObjRow), answering s = true → checkWrite s p 0x2900 0x05 = .ok row →
      (∀ v, s.hk.calibrating = true → exec (.hkCalCmd p v) s = .next { s with ack := .abort .state }) ∧
      (∀ v, v ≠ 1 → s.hk.calibrating = false → exec (.hkCalCmd p v) s = .next { s with ack := .done }) ∧
      (s.hk.calibrating = false → exec (.hkCalCmd p 1) s = .next { s with
        ack := .done, hk := { s.hk with calibrating := true } })) ∧
    (∀ g o, s.hk.calibrating = false → exec (.selfCalibrationDone g o) s = .next s) ∧
    (∀ g o, s.hk.calibrating = true → ∃ t, exec (.selfCalibrationDone g o) s = .next t ∧ t.hk = { s.hk with
      calibrating := false, calValid := true, background := s.hk.retired.isNone, gain := g, ofs := o, gain0 := g, ofs0 := o,
      mask := s.hkScanMask, next := t.hk.next } ∧ t = { s with hk := t.hk }) ∧
    (∀ i g o, (sysRuns s = false ∨ s.hk.calibrating = true ∨ s.hk.background = false ∨ i.val ≠ (s.hk.spare.val + 1) % 5) →
      exec (.backgroundCalibration i g o) s = .next s) ∧
    (∀ i g o, sysRuns s = true → s.hk.calibrating = false → s.hk.background = true → i.val = (s.hk.spare.val + 1) % 5 → ∃ t,
      exec (.backgroundCalibration i g o) s = .next t ∧ t.hk = { s.hk with
        gain := vset s.hk.gain i g, ofs := vset s.hk.ofs i o, spare := i,
        retired := if sliceBad s.hk i g o = true then some i else none, background := !sliceBad s.hk i g o } ∧
      (sliceBad s.hk i g o = false → t.log = s.log ∧ t.evc = s.evc ∧ t.tw = s.tw ∧ t.nv = s.nv) ∧ t = { s with nv := t.nv, hk := t.hk, log := t.log, evc := t.evc, tw := t.tw }) ∧
    (∀ (p : Port) (v : Nat) (row : ObjRow), answering s = true → checkWrite s p 0x2900 0x03 = .ok row →
      exec (.hkRefSelWrite p v) s = .next { s with ack := .done, settings := mapPut (okey 0x2900 0x03) v s.settings }) ∧
    (exec .refSettlingEnd s = .next { s with hk := { s.hk with settling := false } })

/-- Ring-oscillator samples, the thermal comparator and throttling. (R5, R112, R413, R414, R415, R419, R422, R423, R424, R426, R523) The
median of two, the comparator that does nothing while the latch is set and only latches in hold-up (log 72) are the model's reading. -/
def Obligations.ThermalManagement : Prop :=
  ∀ s : State,
    (∀ d l, thermDiePresent s d = false → exec (.roSample d l) s = .fault .absentInPart) ∧
    (∀ d l, thermDiePresent s d = true → dieSampled s d = false → exec (.roSample d l) s = .next s) ∧
    (∀ (d : Fin 8) (l : List Int), thermDiePresent s d = true → dieSampled s d = true → ∃ t, exec (.roSample d l) s = .next t ∧
      (∀ i x, (i, x) ∈ (dieSensors d).zip l →
        t.therm.ro[i] = sensorStep (plausible (median2 (((dieSensors d).zip l).map Prod.snd)) x) x s.therm.ro[i]) ∧
      (∀ i, i ∉ dieSensors d → t.therm.ro[i] = s.therm.ro[i]) ∧
      ((∃ x, x ∈ ((dieSensors d).zip l).map Prod.snd ∧ 1650 ≤ x ∧
        plausible (median2 (((dieSensors d).zip l).map Prod.snd)) x = true) → t.therm.latch = true) ∧
      t.part = s.part ∧ t.settings = s.settings ∧ t.hamper = s.hamper ∧ t.hk = s.hk ∧ t.wd = s.wd ∧
      t.pending = s.pending) ∧
    ((s.boot.phase = .porHeld ∨ s.pwr.state = .off ∨ s.therm.latch = true) → exec .thermalComparator s = .next s) ∧
    (s.boot.phase = .holdUp → s.pwr.state ≠ .off → s.therm.latch = false → exec .thermalComparator s = .next { s with
      therm := { s.therm with latch := true, path := setBit s.therm.path 1, latchDie := 0 } }) ∧
    (s.boot.phase ≠ .porHeld → s.pwr.state ≠ .off → s.therm.latch = false → ∃ t, exec .thermalComparator s = .next t ∧
      t.therm = { s.therm with latch := true, path := setBit s.therm.path 1, latchDie := 0 } ∧
      (s.boot.phase = .ready → t.boot.phase = .inReset ∧ t.boot.curCause = 9) ∧
      t.part = s.part ∧ t.settings = s.settings ∧ t.hamper = s.hamper ∧ t.hk = s.hk ∧ t.wd = s.wd ∧
      t.pending = s.pending) ∧
    ((sysRuns s = false ∨ (s.thrEn = false ∧ s.therm.disabling = false) ∨ (s.therm.latch = true ∧ s.update.pause = true)) →
      exec .throttleEvaluation s = .next s) ∧
    (sysRuns s = true → (s.thrEn = true ∨ s.therm.disabling = true) → (s.therm.latch = false ∨ s.update.pause = false) → ∃ t,
      exec .throttleEvaluation s = .next t ∧
      (∀ d : Fin 8, thermDiePresent s d = true → t.therm.die[d].n = nextStepOf s d) ∧
      (∀ d : Fin 8, thermDiePresent s d = false → t.therm.die[d] = s.therm.die[d]) ∧
      (∀ d : Fin 8, t.therm.die[d].t = s.therm.die[d].t) ∧ t.therm.ro = s.therm.ro ∧ t.therm.latch = s.therm.latch ∧
      t = { s with nv := t.nv, rails := t.rails, gangs := t.gangs, therm := t.therm, log := t.log, evc := t.evc, tw := t.tw }) ∧
    (∀ (p : Port), answering s = false → exec (.throttleDisable p) s = .next { s with ack := .none }) ∧
    (∀ (p : Port) (c : AbortCode), answering s = true → checkWrite s p 0x2910 1 = .error c →
      exec (.throttleDisable p) s = .next { s with ack := .abort c }) ∧
    (∀ (p : Port) (row : ObjRow), answering s = true → checkWrite s p 0x2910 1 = .ok row → row.acc = .rwx →
      lengthOk row 0x2910 1 1 = true →
      ((∀ a ∈ s.xb.pend, ¬(a.idx = 0x2910 ∧ a.sub = 1)) → s.xb.pend.length < 16 → ∃ t, exec (.throttleDisable p) s = .next t ∧
        t.ack = .pending ∧ t.xb.pend = s.xb.pend ++ [⟨0x2910, 1, p, 0, [0]⟩] ∧ t = { s with xb := t.xb, evc := t.evc, tw := t.tw, ack := t.ack }) ∧
      (∀ a, s.xb.pend.find? (fun x => decide (x.idx = 0x2910 ∧ x.sub = 1)) = some a → a.port ≠ p → a.bytes = [0] →
        ∃ t, exec (.throttleDisable p) s = .next t ∧ t.ack = .done ∧ t.settings = mapPut (okey 0x2910 1) 0 s.settings ∧
          t.xb.pend = s.xb.pend.erase a ∧ t.xb.doneCnt = satAdd max32 s.xb.doneCnt 1 ∧
          ((∃ d : Fin 8, 0 < s.therm.die[d].n) → t.therm.disabling = true) ∧ t = { s with settings := t.settings, therm := t.therm, xb := t.xb, tw := t.tw, can := t.can, ack := t.ack }))

/-- Star Sight: enable and lock, window close, answers, check-ins and the end of a cycle. (R430, R432, R433, R435, R436, R438, R439, R440,
R441, R442, R443, R445) WD_CYCLE_CNT 1 at the first cycle's start (log 52), a WD_RST_CNT step for each reaction and those the pause holds
back (log 53) and the check-in at 0x36 IGNORED in Old Chart (log 71) are the model's choice. -/
def Obligations.StarSight : Prop :=
  ∀ s : State,
    (∀ (p : Port) (row : ObjRow), answering s = true → checkWrite s p 0x2A10 0x01 = .ok row →
      (s.wd.locked = true → exec (.wdEnable p 0) s = .next { s with ack := .abort .state }) ∧
      (∀ v, s.wd.locked = true → v ≠ 0 → exec (.wdEnable p v) s = .next { s with ack := .done }) ∧
      (s.wd.locked = false → exec (.wdEnable p 0) s = .next { s with
        ack := .done, settings := mapPut (okey 0x2A10 0x01) 0 s.settings }) ∧
      (s.wd.locked = false → ∃ t, exec (.wdEnable p 1) s = .next t ∧ t.ack = .done ∧
        t.settings = mapPut (okey 0x2A10 0x01) 1 s.settings ∧ t.wd.on = true ∧ t.wd.locked = true ∧ t.wd.running = true ∧
        t.wd.lfsr = lfsrNext (wdSeed Config.unitId) ∧ t.wd.tick = 0 ∧ t.wd.cycleCnt = 1 ∧
        (∀ h : Fin 2, t.wd.hosts[h].failCnt = 0) ∧ t = { s with settings := t.settings, wd := t.wd, ack := t.ack })) ∧
    ((s.wd.running = false ∨ wdFrozen s = true ∨ s.wd.abandoned = true) → exec .wdWindowClose s = .next s) ∧
    ((s.wd.running = false ∨ s.pwr.state = .park) → exec .wdCycleEnd s = .next s) ∧
    (s.wd.running = true → wdFrozen s = false → s.wd.abandoned = false → ∃ t, exec .wdWindowClose s = .next t ∧
      (∀ h : Fin 2, wdObliged s h = true → s.wd.hosts[h].answered = false → wdWindowsOk s = true →
        t.wd.hosts[h].flags = setBit s.wd.hosts[h].flags 1) ∧
      (∀ h : Fin 2, (wdObliged s h = false ∨ s.wd.hosts[h].answered = true) → t.wd.hosts[h] = s.wd.hosts[h]) ∧
      t.wd.lfsr = s.wd.lfsr ∧ t.wd.checkins = s.wd.checkins ∧ (wdWindowsOk s = true → t.freeCtr = s.freeCtr) ∧ t = { s with wd := t.wd, freeCtr := t.freeCtr }) ∧
    (∀ (p : Port) (n : Fin 2) (ofs : Nat), twOf p = some n → ofs = (if s.pwr.oldChart = true then 0x0A else 0x22) →
      (∀ tok tk, twAnswers s n = false → exec (.wdAnswer p n tok tk) s = .next { s with ack := .none }) ∧
      (∀ tok tk, twAnswers s n = true → s.update.pause = true → exec (.wdAnswer p n tok tk) s =
        .next (setAck (.abort .busy) (ptrPast n (ofs + 2) (wrSet n .busy ofs s)))) ∧
      (∀ tok tk, twAnswers s n = true → s.update.pause = false → (wdObliged s n = false ∨ wdFrozen s = true) →
        exec (.wdAnswer p n tok tk) s = .next (setAck .done (ptrPast n (ofs + 2) (wrSet n .ignored ofs s)))) ∧
      (∀ tok tk, twAnswers s n = true → s.update.pause = false → wdFrozen s = false → wdObliged s n = true → s.wd.abandoned = false →
        ∃ t, exec (.wdAnswer p n tok tk) s = .next t ∧ t.ack = .done ∧ t.tw[n].wrResult = .accepted ∧ t.tw[n].wrOffset = ofs ∧
          t.tw[n].pointer = (ofs + 2) % (if s.pwr.oldChart = true then 128 else 256) ∧ t.wd.hosts[n].answered = true ∧
          (s.wd.hosts[n].answered = true → wdWindowsOk s = true → t.wd.hosts[n].earlyNext = true ∧ t.wd.earlyCnt = satAdd max32 s.wd.earlyCnt 1) ∧
          (s.wd.hosts[n].answered = false → wdWindowsOk s = true → s.wdWinOpen ≤ tk → tk < s.wdWinClose →
            tok % 65536 = wdToken s.wd.lfsr (wdKeyOf s n) → t.wd.hosts[n].flags = s.wd.hosts[n].flags) ∧
          (s.wd.hosts[n].answered = false → wdWindowsOk s = true → s.wdWinOpen ≤ tk → tk < s.wdWinClose →
            tok % 65536 ≠ wdToken s.wd.lfsr (wdKeyOf s n) → t.wd.hosts[n].flags = setBit s.wd.hosts[n].flags 2 ∧
              t.wd.wrongCnt = satAdd max32 s.wd.wrongCnt 1) ∧
          (s.wd.hosts[n].answered = false → wdWindowsOk s = true → tk < s.wdWinOpen →
            t.wd.hosts[n].flags = setBit s.wd.hosts[n].flags 0 ∧ t.wd.earlyCnt = satAdd max32 s.wd.earlyCnt 1) ∧
          (s.wd.hosts[n].answered = false → wdWindowsOk s = true → s.wdWinClose ≤ tk →
            t.wd.hosts[n].flags = setBit s.wd.hosts[n].flags 1) ∧
          (∀ j : Fin 2, j ≠ n → t.wd.hosts[j] = s.wd.hosts[j]) ∧ t.wd.lfsr = s.wd.lfsr ∧
          (wdWindowsOk s = true → t.freeCtr = s.freeCtr) ∧ t = { s with wd := t.wd, tw := t.tw, ack := t.ack, freeCtr := t.freeCtr })) ∧
    (∀ (p : Port) (n : Fin 2) (ofs : Nat), twOf p = some n → ofs = (if s.pwr.oldChart = true then 0x36 else 0x24) →
      (∀ k, twAnswers s n = false → exec (.wdCheckin p n k) s = .next { s with ack := .none }) ∧
      (∀ k, twAnswers s n = true → s.update.pause = true →
        exec (.wdCheckin p n k) s = .next (setAck (.abort .busy) (ptrPast n (ofs + 1) (wrSet n .busy ofs s)))) ∧
      (∀ k, twAnswers s n = true → s.update.pause = false → (wdObliged s n = false ∨ wdFrozen s = true ∨ s.pwr.oldChart = true) →
        exec (.wdCheckin p n k) s = .next (setAck .done (ptrPast n (ofs + 1) (wrSet n .ignored ofs s)))) ∧
      (∀ k : Fin 16, twAnswers s n = true → s.update.pause = false → s.pwr.oldChart = false → wdFrozen s = false → wdObliged s n = true →
        wdTaskOf s n k = true → exec (.wdCheckin p n k) s = .next (setAck .done (ptrPast n (ofs + 1) (wrSet n .accepted ofs
          { s with wd := { s.wd with checkins := vmod s.wd.checkins k (· + 1) } })))) ∧
      (∀ k : Nat, twAnswers s n = true → s.update.pause = false → s.pwr.oldChart = false → wdFrozen s = false → wdObliged s n = true →
        (∀ j : Fin 16, j.val = k → wdTaskOf s n j = false) → ∃ t, exec (.wdCheckin p n k) s = .next t ∧
          t.tw[n].wrResult = .accepted ∧ t.wd.hosts[n].flags = setBit s.wd.hosts[n].flags 5 ∧
          t.tw[n].wrOffset = ofs ∧ t.ack = .done ∧ t.wd.checkins = s.wd.checkins ∧ t = { s with wd := t.wd, tw := t.tw, ack := t.ack })) ∧
    (s.wd.running = true → s.pwr.state ≠ .park → s.wd.abandoned = false → (∀ h : Fin 2, wdObliged s h = false) →
      ∃ t, exec .wdCycleEnd s = .next t ∧ t.wd.lfsr = lfsrNext s.wd.lfsr ∧ t.wd.tick = 0 ∧
      t.wd.cycleCnt = satAdd max32 s.wd.cycleCnt 1 ∧
      (∀ h : Fin 2, t.wd.hosts[h].failCnt = 0 ∧ t.wd.hosts[h].answered = false) ∧ t = { s with wd := t.wd, freeCtr := t.freeCtr }) ∧
    (s.wd.running = true → s.pwr.state ≠ .park → s.wd.abandoned = true → ∃ t, exec .wdCycleEnd s = .next t ∧
      t.wd.lfsr = lfsrNext s.wd.lfsr ∧ t.wd.abandoned = false ∧ (∀ h : Fin 2, t.wd.hosts[h].failCnt = s.wd.hosts[h].failCnt) ∧ t = { s with wd := t.wd }) ∧
    (s.wd.running = true → s.pwr.state ≠ .park → s.wd.abandoned = false → wdWindowsOk s = true → (s.wdReact ≠ 2 ∨ s.update.pause = true) →
      ∃ t, exec .wdCycleEnd s = .next t ∧ t.wd.lfsr = lfsrNext s.wd.lfsr ∧ t.wd.tick = 0 ∧
      (∀ h : Fin 2, wdObliged s h = false → t.wd.hosts[h].failCnt = 0) ∧
      (∀ (h : Fin 2) (fl : Nat), wdObliged s h = true → fl = (if s.wd.hosts[h].answered = true then s.wd.hosts[h].flags else setBit s.wd.hosts[h].flags 1) +
          8 * bit ((allFin 16).any fun k => wdTaskOf s h k && decide (s.wd.checkins[k] = 0)) +
          16 * bit ((allFin 16).any fun k => wdTaskOf s h k && decide (1 < s.wd.checkins[k])) →
        (fl = 0 → t.wd.hosts[h].failCnt = 0 ∧ t.wd.hosts[h].lastFail = s.wd.hosts[h].lastFail) ∧
        (fl ≠ 0 → t.wd.hosts[h].lastFail = fl ∧ t.wd.hosts[h].failCnt =
          if s.wdFailMax ≤ s.wd.hosts[h].failCnt + 1 then 0 else s.wd.hosts[h].failCnt + 1) ∧
        (fl ≠ 0 → s.wdFailMax ≤ s.wd.hosts[h].failCnt + 1 → s.update.pause = true → ∃ c, (h, c) ∈ t.wd.held) ∧
        (∀ m : Fin 4, fl ≠ 0 → s.wdFailMax ≤ s.wd.hosts[h].failCnt + 1 → s.update.pause = false → s.wdReact = 1 →
          fin? 4 (wdRstoOf s h) = some m → t.rsto[m].pin = true ∧ t.rsto[m].forced = true ∧
          ((∀ j : Fin 2, j ≠ h → wdObliged s j = false) → t.nv.ctr[ctrWd] = min 0xFFFF (s.nv.ctr[ctrWd] + 1)))) ∧
      (∀ (h : Fin 2) (k : Fin 16), wdObliged s h = true → wdTaskOf s h k = true →
        t.wd.miss[k] = (if s.wd.checkins[k] = 0 then satAdd max16 s.wd.miss[k] 1 else s.wd.miss[k]) ∧
        t.wd.extra[k] = if 1 < s.wd.checkins[k] then satAdd max16 s.wd.extra[k] 1 else s.wd.extra[k]) ∧
      (s.wdReact ≠ 1 → t.rsto = s.rsto) ∧ t = { s with mram := t.mram, nv := t.nv, rsto := t.rsto, wd := t.wd, log := t.log, evc := t.evc, tw := t.tw, freeCtr := t.freeCtr }) ∧
    (∀ (h : Fin 2) (fl : Nat), s.wd.running = true → s.pwr.state ≠ .park → s.wd.abandoned = false → wdWindowsOk s = true →
      s.wdReact = 2 → s.update.pause = false → s.boot.phase = .ready → wdObliged s h = true → (∀ j : Fin 2, j ≠ h → wdObliged s j = false) →
      fl = (if s.wd.hosts[h].answered = true then s.wd.hosts[h].flags else setBit s.wd.hosts[h].flags 1) +
          8 * bit ((allFin 16).any fun k => wdTaskOf s h k && decide (s.wd.checkins[k] = 0)) +
          16 * bit ((allFin 16).any fun k => wdTaskOf s h k && decide (1 < s.wd.checkins[k])) →
      fl ≠ 0 → s.wdFailMax ≤ s.wd.hosts[h].failCnt + 1 → ∃ t, exec .wdCycleEnd s = .next t ∧
        t.boot.phase = .inReset ∧ t.boot.curCause = 5 ∧ t.nv.ctr[ctrWd] = min 0xFFFF (s.nv.ctr[ctrWd] + 1) ∧
        ((∀ k, wdTaskOf s h k = true → s.wd.checkins[k] = 1) → t.boot.curSub = 0x10 + h.val) ∧
        (∀ k : Fin 16, wdTaskOf s h k = true → s.wd.checkins[k] ≠ 1 →
          (∀ j : Fin 16, j.val < k.val → wdTaskOf s h j = true → s.wd.checkins[j] = 1) → t.boot.curSub = k.val))

/-- Engine services, engine deadlines and suspensions; Logbook entries and the latch clear. (R5, R15, R381, R446, R447, R448, R449, R450,
R451, R455, R456, R457) The supervisor pair as one engine (log 55) and the capture of a FABRIC_ERR entry (log 73) are the model's reading. -/
def Obligations.EngineWatchdogAndLogbook : Prop :=
  ∀ s : State,
    (∀ e, enginePresent s e = false → exec (.engineService e) s = .fault .absentInPart ∧
      exec (.engineWatchdogExpire e) s = .fault .absentInPart) ∧
    (∀ e, enginePresent s e = true → (s.ewd.running = false ∨ engineLinkOut s e = true) → exec (.engineService e) s = .next s) ∧
    (∀ e, enginePresent s e = true → s.ewd.running = true → engineLinkOut s e = false → exec (.engineService e) s = .next { s with
      ewd := { s.ewd with since := if e.val < 2 then vset (vset s.ewd.since 0 0) 1 0 else vset s.ewd.since e 0 } }) ∧
    (∀ e, enginePresent s e = true → (s.ewd.running = false ∨ ewdSuspended s e = true) →
      exec (.engineWatchdogExpire e) s = .next s) ∧
    (∀ e, enginePresent s e = true → s.ewd.running = true → ewdSuspended s e = false → ∃ t,
      exec (.engineWatchdogExpire e) s = .next t ∧ (s.boot.phase = .ready → t.boot.phase = .inReset ∧ t.boot.curCause = 7 ∧
        t.boot.curSub = if e.val < 2 then 0 else e.val) ∧ t.part = s.part ∧ t.settings = s.settings ∧ t.hamper = s.hamper ∧ t.clk = s.clk ∧
      t.wd = s.wd ∧ t.ewd = s.ewd ∧ t.pending = s.pending) ∧
    (exec .engineSuspensionEnd s = .next (if s.ewd.wipeSusp = true then
      { s with ewd := { s.ewd with wipeSusp := false, since := Vector.replicate 18 0 } } else s)) ∧
    (∀ c d i x, s.part.dies < d → exec (.logbookEntry c d i x) s = .fault .absentInPart) ∧
    (∀ c d i x, d ≤ s.part.dies → sysRuns s = false → exec (.logbookEntry c d i x) s = .next s) ∧
    (∀ c d i x, d ≤ s.part.dies → sysRuns s = true → c.cls = .a → exec (.logbookEntry c d i x) s = .next (useFree (classA c d i x s))) ∧
    (∀ c d i x, d ≤ s.part.dies → sysRuns s = true → c.cls ≠ .a → s.log.ready = false → c ≠ .fabricErr →
      exec (.logbookEntry c d i x) s = .next { s with
        freeCtr := s.freeCtr + 1
        log := { s.log with held := s.log.held ++ [⟨c, d, i, x⟩] } }) ∧
    (∀ c d i x, d ≤ s.part.dies → sysRuns s = true → c.cls ≠ .a → s.log.ready = true → ∃ t,
      exec (.logbookEntry c d i x) s = .next t ∧ (c.cls = .b → t.log.bLatched = true) ∧ (c.cls = .c → t.log.cSeen = true) ∧
      t.log.aDies = s.log.aDies ∧ t.log.aCode = s.log.aCode ∧
      (s.log.ring.length < 2048 → (∀ r ∈ s.log.ring, r.sameAs ⟨c, d, i, x⟩ = false) →
        t.log.ring = s.log.ring ++ [{
          seq := s.log.nextSeq, time := s.devTime, boot := s.boot.bootCount % 65536, code := c.code, cls := c.cls.code,
          fromLf := false, die := d, src := i, detail := x, rep := 1 }] ∧
        t.log.nextSeq = logNext s.log.nextSeq ∧ t.log.entryCnt = satAdd max32 s.log.entryCnt 1 ∧ t.nv = s.nv) ∧
      (c ≠ .fabricErr → t.fab = s.fab) ∧ (c = .fabricErr → s.fab.valid = true → t.fab = { s.fab with cnt := satAdd max32 s.fab.cnt 1 }) ∧
      (c = .fabricErr → s.fab.valid = false → t.fab.valid = true ∧ t.fab.addr = x ∧ t.fab.master = i ∧ t.fab.time = s.devTime) ∧
      t = { s with nv := t.nv, log := t.log, evc := t.evc, tw := t.tw, fab := t.fab, freeCtr := t.freeCtr }) ∧
    (∀ (p : Port) (row : ObjRow), answering s = true → checkWrite s p 0x2A20 0x04 = .ok row →
      (∀ v, v ≠ 1 → exec (.logFclr p v) s = .next { s with ack := .done }) ∧
      (s.log.since.any (persists s) = true → exec (.logFclr p 1) s = .next { s with
        ack := .abort .state, log := { s.log with refused := true } }) ∧
      (s.log.since.any (persists s) = false → ∃ t, exec (.logFclr p 1) s = .next t ∧ t.ack = .done ∧
        t = setAck .done (runItems (pgRefreshAll (safeRefresh { s with
          faultLine := false
          fab := .init
          log := { s.log with aDies := 0, bLatched := false, aCode := 0, bCode := 0, since := [], refused := false } })))) ∧
      (s.log.since.any (persists s) = false → (∀ i : Fin 46, s.items[i].phase ≠ .waiting) → ∃ t,
        exec (.logFclr p 1) s = .next t ∧ t.ack = .done ∧ t.faultLine = false ∧
        t.log = { s.log with aDies := 0, bLatched := false, aCode := 0, bCode := 0, since := [], refused := false } ∧
        t.fab = .init ∧ t = { s with links := t.links, rails := t.rails, log := t.log, faultLine := t.faultLine, safeN := t.safeN, fab := t.fab, evc := t.evc, tw := t.tw, ack := t.ack }))

/-- Two-wire reads, pointer and register writes, bus idle and START in a transfer. (R463, R464, R465, R466, R467, R468, R469, R470, R477,
R481, R484) The order of the checks of a register write (log 61) and the end of the stuck flags at bus idle (log 62) are the model's
choice. -/
def Obligations.TwoWireTransfers : Prop :=
  ∀ (s : State) (n : Fin 2),
    ((poweredOutputs s = false ∨ s.pwr.state = .off ∨ s.tw[n].wedged = true ∨
        (s.pwr.state = .park ∧ s.wakeMask.testBit (8 + n) = false)) →
      (∀ l, exec (.twReadAddress n l) s = .next s) ∧ (∀ b, exec (.twWritePointer n b) s = .next s)) ∧
    (poweredOutputs s = true → s.pwr.state = .park → s.tw[n].wedged = false → s.wakeMask.testBit (8 + n) = true →
      (∀ l, ∃ t, exec (.twReadAddress n l) s = .next t ∧ t.pwr.state = .doze ∧ t.tw[n].transfer = true) ∧
      (∀ b, ∃ t, exec (.twWritePointer n b) s = .next t ∧ t.pwr.state = .doze ∧ t.tw[n].transfer = true ∧
        t.tw[n].pointer = winPtr s b.toNat)) ∧
    (twAnswers s n = true → s.pwr.parkEntry = false →
      (∀ b : Byte, exec (.twWritePointer n b) s = .next { s with tw := vmod s.tw n fun x => { x with
        transfer := true, snapshot := [], pointer := winPtr s b.toNat,
        seen := (if x.transfer then x.seen else []) ++ [addrByte s n false, b] } }) ∧
      (∀ l : Nat, ∃ t, exec (.twReadAddress n l) s = .next t ∧ t.tw[n].transfer = true ∧
        t.tw[n].snapshot = windowSeen s n ∧ t.tw[n].pec = s.tw[n].pec ∧
        (s.tw[n].pec = false → t.tw[n].readData = readBytes s (winPtr s s.tw[n].pointer) l (windowSeen s n) ∧
          t.tw[n].pointer = winPtr s (winPtr s s.tw[n].pointer + l)) ∧
        (s.tw[n].pec = true → l ≤ pecSpan s n (winPtr s s.tw[n].pointer) →
          t.tw[n].readData = readBytes s (winPtr s s.tw[n].pointer) l (windowSeen s n) ∧
          t.tw[n].pointer = winPtr s (winPtr s s.tw[n].pointer + l)) ∧
        (s.tw[n].pec = true → pecSpan s n (winPtr s s.tw[n].pointer) < l →
          t.tw[n].readData = readBytes s (winPtr s s.tw[n].pointer) (pecSpan s n (winPtr s s.tw[n].pointer)) (windowSeen s n) ++
            [BitVec.ofNat 8 (crc8 ((if s.tw[n].transfer then s.tw[n].seen else []) ++ [addrByte s n true] ++
              readBytes s (winPtr s s.tw[n].pointer) (pecSpan s n (winPtr s s.tw[n].pointer)) (windowSeen s n)))] ++
            List.replicate (l - pecSpan s n (winPtr s s.tw[n].pointer) - 1) 0xFF ∧
          t.tw[n].pointer = winPtr s (winPtr s s.tw[n].pointer + pecSpan s n (winPtr s s.tw[n].pointer))) ∧
        (∀ j : Fin 2, j ≠ n → t.tw[j] = s.tw[j]) ∧ t = { s with tw := t.tw, freeCtr := t.freeCtr })) ∧
    (∀ o bs pec, twAnswers s n = false → exec (.registerWrite n o bs pec) s = .next s) ∧
    (∀ (o : Nat) (bs : List Byte) (pec : Nat) (g : WinRow), regAt s (winPtr s o) = g →
      twAnswers s n = true → s.tw[n].pec = false → bs ≠ [] → winPtr s o + bs.length ≤ g.first + g.size →
      (g.acc = .ro → ∃ t, exec (.registerWrite n o bs pec) s = .next t ∧ t.tw[n].wrResult = .readOnly ∧
        t.tw[n].wrOffset = g.first ∧ t.tw[n].pointer = winPtr s (winPtr s o + bs.length) ∧ t = { s with tw := t.tw }) ∧
      (g.acc ∉ [.ro, .const] → g.reg.tunnel = true → s.tw[n].tun.phase = .busy → ∃ t,
        exec (.registerWrite n o bs pec) s = .next t ∧ t.tw[n].wrResult = .busy ∧ t.tw[n].tun = s.tw[n].tun ∧ t = { s with tw := t.tw }) ∧
      (g.acc ∉ [.ro, .const] → (g.reg.tunnel = false ∨ s.tw[n].tun.phase ≠ .busy) → g.reg ≠ .tdata →
        (winPtr s o ≠ g.first ∨ bs.length ≠ g.size) → ∃ t,
        exec (.registerWrite n o bs pec) s = .next t ∧ t.tw[n].wrResult = .incomplete ∧ t = { s with tw := t.tw }) ∧
      (g.acc ∉ [.ro, .const] → (g.reg.tunnel = false ∨ s.tw[n].tun.phase ≠ .busy) →
        (g.reg = .tdata ∨ winPtr s o = g.first ∧ bs.length = g.size) → s.update.pause = true → ∃ t,
        exec (.registerWrite n o bs pec) s = .next t ∧ t.tw[n].wrResult = .busy ∧ t = { s with tw := t.tw }) ∧
      (g.acc ∉ [.ro, .const] → s.update.pause = false → s.tw[n].tun.phase ≠ .busy → g.reg = .tidx → winPtr s o = g.first →
        bs.length = g.size → ∃ t, exec (.registerWrite n o bs pec) s = .next t ∧
          t.tw[n].wrResult = .accepted ∧ t.tw[n].tun.index = leNat bs ∧ t = { s with tw := t.tw })) ∧
    (∀ (o : Nat) (bs : List Byte) (pec : Nat) (g : WinRow), regAt s (winPtr s o) = g →
      twAnswers s n = true → s.tw[n].pec = true →
      (winPtr s o ≠ g.first → ∃ t, exec (.registerWrite n o bs pec) s = .next t ∧ t.tw[n].wrResult = .align ∧ t = { s with tw := t.tw }) ∧
      (winPtr s o = g.first → (bs.length < pecSize s n g ∨ (bs.length = pecSize s n g ∧ 256 ≤ pec)) → ∃ t,
        exec (.registerWrite n o bs pec) s = .next t ∧ t.tw[n].wrResult = .incomplete ∧ t = { s with tw := t.tw }) ∧
      (winPtr s o = g.first → pecSize s n g ≤ bs.length → (bs.length = pecSize s n g → pec < 256) →
        pecRight s n (winPtr s o) (pecSize s n g) bs pec = false → ∃ t,
        exec (.registerWrite n o bs pec) s = .next t ∧ t.tw[n].wrResult = .pec ∧
          t.tw[n].pecErrCnt = satAdd max16 s.tw[n].pecErrCnt 1 ∧ t.tw[n].err = setBit s.tw[n].err 3 ∧ t = { s with evc := t.evc, tw := t.tw }) ∧
      (winPtr s o = g.first → pecSize s n g ≤ bs.length → pecRight s n (winPtr s o) (pecSize s n g) bs pec = true →
        exec (.registerWrite n o bs pec) s = .next (modTw n (fun x => { x with
          pointer := winPtr s (winPtr s o + pecSize s n g), seen := x.seen ++ bs })
          (regBytes n g (winPtr s o) (bs.take (pecSize s n g)) s))) ∧
      (s.tw[n].transfer = false → winPtr s o = g.first → bs.length = pecSize s n g → pec < 256 →
        pec ≠ crc8 ([addrByte s n false, BitVec.ofNat 8 (winPtr s o)] ++ bs) → ∃ t,
        exec (.registerWrite n o bs pec) s = .next t ∧ t.tw[n].wrResult = .pec ∧ t = { s with evc := t.evc, tw := t.tw })) ∧
    (twAnswers s n = false → exec (.twErrRead n) s = .next s) ∧
    (∀ b : Byte, twAnswers s n = true → s.tw[n].snapshot[regFirst s .twerr]? = some b → exec (.twErrRead n) s = .next { s with
      ack := .value [BitVec.ofNat 8 b.toNat]
      tw := vmod s.tw n fun x => { x with err := x.err - (x.err &&& b.toNat) } }) ∧
    (twAnswers s n = true → s.tw[n].snapshot[regFirst s .twerr]? = none → ∃ t, exec (.twErrRead n) s = .next t ∧
      t.ack = .value [BitVec.ofNat 8 (regValue s n .twerr)] ∧
      t.tw[n].err = s.tw[n].err - (s.tw[n].err &&& regValue s n .twerr) ∧ t = { s with tw := t.tw, ack := t.ack }) ∧
    (exec (.twBusIdle n) s = .next { s with tw := vmod s.tw n fun x => { x with
      transfer := false, snapshot := [], seen := [], addr := if s.pwr.oldChart then 0 else s.twAddr n
      pec := s.twPecEn n, speed := s.twCtrlSpeed n, sclStuck := false, sdaStuck := false } }) ∧
    (exec (.twStartInTransfer n) s = .next { s with tw := vmod s.tw n fun x => { x with
      transfer := false, snapshot := [], seen := [] } })

/-- Notifications, arbitration, controller bus errors, stuck lines and the wedged port. (R478, R479, R480, R482, R483, R484, R470, R485) -/
def Obligations.NotificationsAndBusErrors : Prop :=
  ∀ (s : State) (n : Fin 2),
    (twController s n = false → exec (.twNotify n) s = .next s ∧ exec (.twNotifyRepeat n) s = .next s ∧
      exec (.twNotifyNack n) s = .next s ∧ exec (.twArbitrationLost n) s = .next s ∧
      exec (.twControllerBusError n) s = .next s) ∧
    (s.tw[n].due = false → exec (.twNotify n) s = .next s ∧ exec (.twNotifyNack n) s = .next s ∧
      exec (.twArbitrationLost n) s = .next s ∧ exec (.twControllerBusError n) s = .next s) ∧
    (twController s n = true → s.tw[n].due = true → s.evc.alert[n] = true → s.tw[n].transfer = false →
      exec (.twNotify n) s = .next { s with tw := vmod s.tw n fun x => { x with
        due := false, notifyCnt := satAdd max32 x.notifyCnt 1,
        notified := [BitVec.ofNat 8 (2 * s.twHostAddr n), addrByte s n false, BitVec.ofNat 8 (claimByte s n), BitVec.ofNat 8 (min 127 (evtPend s n))] } }) ∧
    ((s.evc.alert[n] = false ∨ s.tw[n].transfer = true) → exec (.twNotify n) s = .next s) ∧
    (twController s n = true → s.evc.alert[n] = true → s.tw[n].sinceRise = false → s.twNotifyRep n ≠ 0 →
      exec (.twNotifyRepeat n) s = .next { s with tw := vmod s.tw n fun x => { x with due := true } }) ∧
    ((s.evc.alert[n] = false ∨ s.tw[n].sinceRise = true ∨ s.twNotifyRep n = 0) → exec (.twNotifyRepeat n) s = .next s) ∧
    (twController s n = true → s.tw[n].due = true →
      (∃ t, exec (.twNotifyNack n) s = .next t ∧ t.tw[n].nackCnt = satAdd max16 s.tw[n].nackCnt 1 ∧
        t.tw[n].err = setBit s.tw[n].err 4 ∧ t.tw[n].notified = s.tw[n].notified ∧
        (s.evc.alert[n] = true → t.tw[n].due = false) ∧ t = { s with evc := t.evc, tw := t.tw }) ∧
      (exec (.twArbitrationLost n) s = .next { s with tw := vmod s.tw n fun x => { x with
        arbCnt := satAdd max32 x.arbCnt 1 } }) ∧
      (∃ t, exec (.twControllerBusError n) s = .next t ∧ t.tw[n].busErrCnt = satAdd max16 s.tw[n].busErrCnt 1 ∧
        t.tw[n].err = setBit s.tw[n].err 0 ∧ t.tw[n].notified = s.tw[n].notified ∧
        (s.evc.alert[n] = true → t.tw[n].due = false) ∧ t.freeCtr = s.freeCtr + 1 ∧
        t = { s with nv := t.nv, log := t.log, evc := t.evc, tw := t.tw, freeCtr := t.freeCtr })) ∧
    (∀ b, answering s = false → exec (.twLineStuck n b) s = .next s) ∧
    (∀ b : Bool, answering s = true → ∃ t, exec (.twLineStuck n b) s = .next t ∧ t.tw[n].transfer = false ∧
      t.tw[n].err = setBit s.tw[n].err (if b = true then 2 else 1) ∧ t.tw[n].stuckCnt = satAdd max16 s.tw[n].stuckCnt 1 ∧
      t.tw[n].sdaStuck = (s.tw[n].sdaStuck || b) ∧ t.tw[n].sclStuck = (s.tw[n].sclStuck || !b) ∧
      (∀ j : Fin 2, j ≠ n → t.tw[j].err = s.tw[j].err ∧ t.tw[j].stuckCnt = s.tw[j].stuckCnt ∧
        t.tw[j].transfer = s.tw[j].transfer) ∧ t = { s with nv := t.nv, log := t.log, evc := t.evc, tw := t.tw, freeCtr := t.freeCtr }) ∧
    ((answering s = false ∨ s.tw[n].wedged = true) → exec (.twWedged n) s = .next s) ∧
    (answering s = true → s.tw[n].wedged = false → ∃ t, exec (.twWedged n) s = .next t ∧ t.tw[n].wedged = true ∧
      t.tw[n].transfer = false ∧ t.tw[n].err = setBit s.tw[n].err 5 ∧
      (∀ j : Fin 2, j ≠ n → t.tw[j].wedged = s.tw[j].wedged ∧ t.tw[j].err = s.tw[j].err) ∧ t = { s with nv := t.nv, log := t.log, evc := t.evc, tw := t.tw, freeCtr := t.freeCtr })

/-- The dictionary tunnel: READ and WRITE commands and their end. (R471, R474, R475, R476, R515, R526) The order of the checks and the rows
that stand for whole registers (log 61) are the model's reading. -/
def Obligations.DictionaryTunnel : Prop :=
  ∀ (s : State) (n : Fin 2),
    (twAnswers s n = false → exec (.tunCmdRead n) s = .next s ∧ ∀ b, exec (.tunCmdWrite n b) s = .next s) ∧
    (twAnswers s n = true → tunBusy s n = true → exec (.tunCmdRead n) s = .next (ptrPast n (regFirst s .tcmd + (regAt s (regFirst s .tcmd)).size)
        (wrSet n .busy (regFirst s .tcmd) s)) ∧
      ∀ b, exec (.tunCmdWrite n b) s = .next (ptrPast n (regFirst s .tcmd + (regAt s (regFirst s .tcmd)).size)
        (wrSet n .busy (regFirst s .tcmd) s))) ∧
    (∀ b, twAnswers s n = true → tunBusy s n = false → s.roles[portOfTw n] = 3 →
      exec (.tunCmdWrite n b) s = .next (ptrPast n (regFirst s .tcmd + (regAt s (regFirst s .tcmd)).size)
        (wrSet n .notPermitted (regFirst s .tcmd) s))) ∧
    (twAnswers s n = true → tunBusy s n = false →
      exec (.tunCmdRead n) s = .next (ptrPast n (regFirst s .tcmd + (regAt s (regFirst s .tcmd)).size)
        (wrSet n .accepted (regFirst s .tcmd) (tunStart n (tunReadOut n s).2 (tunReadOut n s).1))) ∧
      ∀ b, s.roles[portOfTw n] ≠ 3 → exec (.tunCmdWrite n b) s =
        .next (ptrPast n (regFirst s .tcmd + (regAt s (regFirst s .tcmd)).size)
        (wrSet n (tunTaken n s) (regFirst s .tcmd) (tunStart n (tunWriteOut n b s).2 (tunWriteOut n b s).1)))) ∧
      (tunTaken n s = if s.pwr.oldChart = true ∧ s.tw[n].tun.index = 0x2A11 ∧ s.tw[n].tun.sub = 5 + n.val then .ignored else .accepted) ∧
    (∀ e, twAnswers s n = true → tunBusy s n = false → checkRead s (portOfTw n) s.tw[n].tun.index s.tw[n].tun.sub = .error e →
      ∃ t, exec (.tunCmdRead n) s = .next t ∧ t.tw[n].wrResult = .accepted ∧ t.tw[n].tun.phase = .busy ∧
        t.tw[n].tun.outcome = .abort e ∧ t = { s with tw := t.tw, netLast := t.netLast }) ∧
    (∀ (row : ObjRow) (b : List Byte) (u : State), twAnswers s n = true → tunBusy s n = false →
      checkRead s (portOfTw n) s.tw[n].tun.index s.tw[n].tun.sub = .ok row → row.typ ≠ .domain → s.tw[n].tun.offset = 0 →
      readObject (portOfTw n) row s.tw[n].tun.index s.tw[n].tun.sub s = (u, .value b) → ∃ t, exec (.tunCmdRead n) s = .next t ∧
        t.tw[n].wrResult = .accepted ∧ t.tw[n].tun.phase = .busy ∧ t.tw[n].tun.outcome = .value b ∧
        t.tw[n].tun.size = b.length % 65536 ∧ t = { s with nv := t.nv, links := t.links, rails := t.rails, phases := t.phases, dies := t.dies, chg := t.chg, hk := t.hk, log := t.log, evc := t.evc, tw := t.tw, netLast := t.netLast, freeCtr := t.freeCtr } ∧
        ((∀ k : Fin 7, helmFree s k = true ∧ railFree s k = true) → t.nv = s.nv ∧ t.phases = s.phases ∧
          t.dies = s.dies ∧ t.evc = s.evc)) ∧
    (∀ (e : AbortCode) (last : Bool), twAnswers s n = true → tunBusy s n = false → s.roles[portOfTw n] ≠ 3 →
      checkWrite s (portOfTw n) s.tw[n].tun.index s.tw[n].tun.sub = .error e → ∃ t, exec (.tunCmdWrite n last) s = .next t ∧
        t.tw[n].wrResult = tunTaken n s ∧ t.tw[n].tun.phase = .busy ∧ t.tw[n].tun.outcome = .abort e ∧ t = { s with tw := t.tw, netLast := t.netLast }) ∧
    (∀ row : ObjRow, twAnswers s n = true → tunBusy s n = false → s.roles[portOfTw n] ≠ 3 →
      checkWrite s (portOfTw n) s.tw[n].tun.index s.tw[n].tun.sub = .ok row → row.typ ≠ .domain →
      (∃ t, exec (.tunCmdWrite n false) s = .next t ∧ t.tw[n].wrResult = tunTaken n s ∧ t.tw[n].tun.phase = .busy ∧
        t.tw[n].tun.outcome = .abort .length ∧ t = { s with tw := t.tw, netLast := t.netLast }) ∧
      (∀ (u : State) (a : Ack), writeRequest (portOfTw n) 0 s.tw[n].tun.index s.tw[n].tun.sub
          (s.tw[n].tun.data.take (tunLen s n)) s = (u, a) → ∃ t, exec (.tunCmdWrite n true) s = .next t ∧
        t.tw[n].wrResult = tunTaken n s ∧ t.tw[n].tun.phase = .busy ∧
        t.tw[n].tun.outcome = (if a = .pending then .none else a) ∧ t = { u with tw := t.tw, netLast := portOfTw n })) ∧
    ((s.tw[n].tun.phase ≠ .busy ∨ s.tw[n].tun.outcome = .none ∨ s.tw[n].tun.outcome = .pending) →
      exec (.tunnelDone n) s = .next s) ∧
    (s.tw[n].tun.phase = .busy → s.tw[n].tun.outcome = .done → ∃ t, exec (.tunnelDone n) s = .next t ∧
      t.tw[n].tun = { s.tw[n].tun with phase := .done, outcome := .none } ∧ t = { s with evc := t.evc, tw := t.tw }) ∧
    (∀ b, s.tw[n].tun.phase = .busy → s.tw[n].tun.outcome = .value b → ∃ t, exec (.tunnelDone n) s = .next t ∧
      t.tw[n].tun = { s.tw[n].tun with
        phase := .done, outcome := .none, data := (b ++ s.tw[n].tun.data.drop b.length).take 64 } ∧ t = { s with evc := t.evc, tw := t.tw }) ∧
    (∀ c, s.tw[n].tun.phase = .busy → s.tw[n].tun.outcome = .abort c → ∃ t, exec (.tunnelDone n) s = .next t ∧
      t.tw[n].tun = { s.tw[n].tun with phase := .aborted, outcome := .none, abort := c.num } ∧ t = { s with evc := t.evc, tw := t.tw })

/-- Event sources, claims, completions, routing and the global disable. (R466, R485, R486, R487, R488, R489, R490, R491, R492) -/
def Obligations.EventController : Prop :=
  ∀ s : State,
    (∀ i : Fin 128, (slotLevel i = true ∨ s.pwr.state = .park ∨ slotListed s.part i = false ∨ slotRouted s i = false) →
      exec (.eventSourceEdge i) s = .next s) ∧
    (∀ i : Fin 128, slotLevel i = false → s.pwr.state ≠ .park → slotListed s.part i = true → slotRouted s i = true →
      s.evc.pend.testBit i = true → exec (.eventSourceEdge i) s = .next { s with
        evc := { s.evc with ovf := vmod s.evc.ovf i fun c => satAdd max8 c 1 } }) ∧
    (∀ i : Fin 128, slotLevel i = false → s.pwr.state ≠ .park → slotListed s.part i = true → slotRouted s i = true →
      s.evc.pend.testBit i = false → ∃ t, exec (.eventSourceEdge i) s = .next t ∧
        t.evc = { s.evc with pend := setBit s.evc.pend i, alert := t.evc.alert } ∧ t = { s with evc := t.evc, tw := t.tw }) ∧
    (∀ (i : Fin 128) (b : Bool), (slotLevel i = false ∨ s.pwr.state = .park ∨ slotListed s.part i = false) →
      exec (.eventLevelChange i b) s = .next s) ∧
    (∀ (i : Fin 128), slotLevel i = true → s.pwr.state ≠ .park → slotListed s.part i = true →
      (∃ t, exec (.eventLevelChange i true) s = .next t ∧
        t.evc = { s.evc with level := setBit s.evc.level i, alert := t.evc.alert } ∧ t = { s with evc := t.evc, tw := t.tw }) ∧
      (∃ t, exec (.eventLevelChange i false) s = .next t ∧
        t.evc = { s.evc with
          level := clrBit s.evc.level i, alert := t.evc.alert
          wdrawn := if s.evc.level.testBit i && s.evc.inserv.testBit i then setBit s.evc.wdrawn i else s.evc.wdrawn } ∧
        t = { s with evc := t.evc, tw := t.tw })) ∧
    (∀ n : Fin 2, twAnswers s n = false → exec (.claim n) s = .next s) ∧
    (∀ n : Fin 2, twAnswers s n = true → 128 ≤ claimSource s n →
      exec (.claim n) s = .next { s with ack := .value [BitVec.ofNat 8 (claimSource s n)] }) ∧
    (∀ (n : Fin 2) (i : Fin 128), twAnswers s n = true → claimSource s n = i.val → s.evc.inserv.testBit i = true →
      exec (.claim n) s = .next { s with ack := .value [BitVec.ofNat 8 i] }) ∧
    (∀ (n : Fin 2) (i : Fin 128), twAnswers s n = true → claimSource s n = i.val → s.evc.inserv.testBit i = false →
      ∃ t, exec (.claim n) s = .next t ∧ t.ack = .value [BitVec.ofNat 8 i] ∧ t.evc = { s.evc with
        pend := clrBit s.evc.pend i, inserv := setBit s.evc.inserv i
        host1 := if n = 1 then setBit s.evc.host1 i else clrBit s.evc.host1 i
        ovf := vset s.evc.ovf i 0, alert := t.evc.alert } ∧
        t.tw[n].claimed = some i ∧ t.tw[n].claimOvf = s.evc.ovf[i] ∧ t = { s with evc := t.evc, tw := t.tw, ack := t.ack }) ∧
    (∀ (n : Fin 2) (x : Nat), twAnswers s n = false → exec (.complete n x) s = .next s) ∧
    (∀ (n : Fin 2) (x : Nat), twAnswers s n = true → s.update.pause = true →
      exec (.complete n x) s = .next (ptrPast n (regFirst s .complete + (regAt s (regFirst s .complete)).size)
        (wrSet n .busy (regFirst s .complete) s))) ∧
    (∀ (n : Fin 2) (x : Nat), twAnswers s n = true → s.update.pause = false →
      (s.evc.inserv.testBit (x % 256) = false ∨ s.evc.host1.testBit (x % 256) ≠ decide (n = 1)) →
      exec (.complete n x) s = .next (ptrPast n (regFirst s .complete + (regAt s (regFirst s .complete)).size)
        (wrSet n .state (regFirst s .complete) s))) ∧
    (∀ (n : Fin 2) (x : Nat), twAnswers s n = true → s.update.pause = false → s.evc.inserv.testBit (x % 256) = true →
      s.evc.host1.testBit (x % 256) = decide (n = 1) → ∃ t, exec (.complete n x) s = .next t ∧ t.evc = { s.evc with
        inserv := clrBit s.evc.inserv (x % 256), host1 := clrBit s.evc.host1 (x % 256)
        wdrawn := clrBit s.evc.wdrawn (x % 256), alert := t.evc.alert } ∧
        t.tw[n].wrResult = .accepted ∧ t.tw[n].wrOffset = regFirst s .complete ∧ t = { s with evc := t.evc, tw := t.tw }) ∧
    (∀ (p : Port) (i : Fin 128) (v : Nat) (row : ObjRow), answering s = true → checkWrite s p 0x2C10 (i + 1) = .ok row →
      ∃ t, exec (.evcRouteWrite p i v) s = .next t ∧ t.ack = .done ∧
        t.settings = mapPut (okey 0x2C10 (i + 1)) (v % 256) s.settings ∧ t.evc = { s.evc with alert := t.evc.alert } ∧
        t = { s with settings := t.settings, evc := t.evc, tw := t.tw, ack := t.ack }) ∧
    (∀ (p : Port) (v : Nat) (row : ObjRow), answering s = true → checkWrite s p 0x2C00 0x01 = .ok row →
      ∃ t, exec (.evcGdisWrite p v) s = .next t ∧ t.ack = .done ∧
        t.settings = mapPut (okey 0x2C00 0x01) (v % 256) s.settings ∧ t.evc = { s.evc with alert := t.evc.alert } ∧
        t = { s with settings := t.settings, evc := t.evc, tw := t.tw, ack := t.ack })

/-- CAN port start, disable, bus-off and recovery, error states, heartbeats, malformed frames. (R43, R44, R497, R501, R502, R503, R508, R514,
R518, R519) Which settings are in force (log 56), the counters at bus-off (log 57) and what becomes of frames (log 80) and of a frame's
bytes (log 66) are the model's reading. -/
def Obligations.CanPorts : Prop :=
  ∀ (s : State) (n : Fin 4),
    (s.can[n].phase = .starting → canMonitor s n = false → exec (.canPortStart n) s = .next { s with
      can := vmod s.can n fun c => { c with phase := .errorActive } }) ∧
    (s.can[n].phase = .starting → canMonitor s n = true → exec (.canPortStart n) s = .next { s with
      can := vmod s.can n fun c => { c with phase := .monitoring } }) ∧
    (s.can[n].phase ≠ .starting → s.can[n].phase.stopped = false → exec (.canPortStart n) s = .next s) ∧
    (s.can[n].phase.stopped = true → s.can[n].disabling = false → canShouldRun s n = true → ∃ t,
      exec (.canPortStart n) s = .next t ∧ t.can[n].phase = (if canMonitor s n = true then .monitoring else .errorActive) ∧
      t.can[n].tec = 0 ∧ t.can[n].rec_ = 0 ∧ t.can[n].hbCnt = 0 ∧ (∀ j : Fin 4, j ≠ n → t.can[j] = s.can[j]) ∧ t = { s with can := t.can }) ∧
    (s.can[n].phase.stopped = true → (s.can[n].disabling = true ∨ canShouldRun s n = false) → ∃ t,
      exec (.canPortStart n) s = .next t ∧ t.can[n].phase.stopped = true ∧ t.can[n].txQueue = s.can[n].txQueue ∧
      (∀ j : Fin 4, j ≠ n → t.can[j] = s.can[j]) ∧ t = { s with can := t.can }) ∧
    (∀ (p : Port) (row : ObjRow), answering s = true → checkWrite s p (0x2D00 + n) 0x01 = .ok row →
      (p = portOfCan n → exec (.canEnClear p n) s = .next { s with ack := .abort .state }) ∧
      (p ≠ portOfCan n → exec (.canEnClear p n) s = .next { s with
        ack := .done, settings := mapPut (okey (0x2D00 + n) 0x01) 0 s.settings
        can := vmod s.can n fun c => if c.phase.stopped = true then { c with phase := .disabled }
          else { c with disabling := true, enHeld := false } })) ∧
    (canSends s n = false → exec (.canBusOff n) s = .next s ∧ ∀ a b, exec (.canErrorStateChange n a b) s = .next s) ∧
    (canSends s n = true → ∃ t, exec (.canBusOff n) s = .next t ∧
      t.can[n].phase = (if s.canBoffAuto n = true then .recovering else .busOff) ∧
      t.can[n].boffCnt = satAdd max16 s.can[n].boffCnt 1 ∧ t.can[n].txQueue = [] ∧ t.can[n].rxQueue = s.can[n].rxQueue ∧
      t.can[n].transfer = .none ∧ (s.update.port ≠ portOfCan n → t.can[n].waiting = s.can[n].waiting ∧
        t.can[n].txDrop = satAdd max32 s.can[n].txDrop s.can[n].txQueue.length) ∧
      (∀ j : Fin 4, j ≠ n → t.can[j] = s.can[j]) ∧ t = { s with nv := t.nv, can := t.can, log := t.log, evc := t.evc, tw := t.tw, update := t.update, freeCtr := t.freeCtr }) ∧
    (∀ a b, canSends s n = true → ∃ t, exec (.canErrorStateChange n a b) s = .next t ∧
      t.can = vmod s.can n (fun c => { c with
        tec := min 255 a, rec_ := min 255 b, phase := if 128 ≤ a ∨ 128 ≤ b then .errorPassive else .errorActive
        txQueue := c.txQueue.take 1 ++ (c.txQueue.drop 1).map fun f =>
          { f with esi := !f.classical && decide (128 ≤ a ∨ 128 ≤ b) } }) ∧
      t = { s with can := t.can, evc := t.evc, tw := t.tw }) ∧
    (∀ (p : Port) (row : ObjRow), answering s = true → checkWrite s p (0x2D00 + n) 0x18 = .ok row →
      (∀ v, v ≠ 1 → exec (.canBoffRec p n v) s = .next { s with ack := .done }) ∧
      (p = portOfCan n → exec (.canBoffRec p n 1) s = .next { s with ack := .abort .state }) ∧
      (p ≠ portOfCan n → exec (.canBoffRec p n 1) s = .next { s with
        ack := .done, can := vmod s.can n fun c => { c with phase := if c.phase = .busOff then .recovering else c.phase } })) ∧
    (s.can[n].phase ≠ .recovering → exec (.canRecoveryDone n) s = .next s) ∧
    (s.can[n].phase = .recovering → ∃ t, exec (.canRecoveryDone n) s = .next t ∧
      t.can = vmod s.can n (fun c => { c with phase := .errorActive, tec := 0, rec_ := 0 }) ∧ t = { s with can := t.can, evc := t.evc, tw := t.tw }) ∧
    ((canSends s n = false ∨ s.hbPeriod n = 0 ∨ s.update.pause = true) → exec (.heartbeat n) s = .next s) ∧
    (canSends s n = true → s.hbPeriod n ≠ 0 → s.update.pause = false → exec (.heartbeat n) s = .next { s with
      can := vmod s.can n fun c => { c with
        hbCnt := if c.disabling = true then c.hbCnt else (c.hbCnt + 1) % 256
        txQueue := if c.disabling = true then c.txQueue else c.txQueue ++ [⟨c.base + 0x7F, true, false, false, heartbeatBytes s n⟩]
        txDrop := if c.disabling = true then satAdd max32 c.txDrop 1 else c.txDrop } }) ∧
    (∀ b, ((canSends s n = false ∧ s.can[n].phase ≠ .monitoring) ∨ s.peerHbId n = 0xFFFF) →
      exec (.peerHeartbeat n b) s = .next s) ∧
    (∀ b, (canSends s n = true ∨ s.can[n].phase = .monitoring) → s.peerHbId n ≠ 0xFFFF →
      exec (.peerHeartbeat n b) s = .next { s with
        can := vmod s.can n fun c => { c with peerCur := true, peerClassical := b } }) ∧
    (exec (.peerHeartbeatTimeout n) s = .next { s with can := vmod s.can n fun c => { c with peerCur := false } }) ∧
    (∀ (k : Bool) (bs : List Byte), canSends s n = false → s.can[n].phase ≠ .monitoring → exec (.malformed n k bs) s = .next s) ∧
    (∀ (k : Bool) (bs : List Byte), (canSends s n = true ∨ s.can[n].phase = .monitoring) → (k = true ∨ bs.length < 2) →
      exec (.malformed n k bs) s = .next { s with
        can := vmod s.can n fun c => { c with rxCnt := satAdd max32 c.rxCnt 1, rxDrop := satAdd max32 c.rxDrop 1 } }) ∧
    (∀ bs : List Byte, canSends s n = true → reqFirst s n = true → netFree s = true → s.can[n].disabling = false → 2 ≤ bs.length →
      (bs.length < 8 ∨ fieldAt bs 0 1 ∉ [0x01, 0x02, 0x11, 0x12, 0x13, 0x14]) → ∃ t, exec (.malformed n false bs) s = .next t ∧
      t.ack = .abort .malformed ∧ t.can[n].rxCnt = satAdd max32 s.can[n].rxCnt 1 ∧
      t.can[n].reqCnt = satAdd max32 s.can[n].reqCnt 1 ∧ t.can[n].abortCnt = satAdd max32 s.can[n].abortCnt 1 ∧
      t.can[n].lastAbort = 0x51010001 ∧ t.can[n].txQueue.length = s.can[n].txQueue.length + 1 ∧
      (∀ j : Fin 4, j ≠ n → t.can[j] = s.can[j]) ∧ t = { s with can := t.can, netLast := t.netLast, ack := t.ack }) ∧
    (∀ bs : List Byte, 2 ≤ bs.length → exec (.malformed n false bs) s = .next (served n (parseReq bs) s)) ∧
    (∀ tag i u : Nat, tag < 256 → i < 65536 → u < 256 →
      exec (.malformed n false (leBytes 1 1 ++ leBytes 1 tag ++ leBytes 2 i ++ leBytes 1 u ++ [0, 0, 0])) s =
        exec (.read n tag i u) s)

/-- READ, WRITE, block transfers and their time-out on a CAN port, and an object write of any port. (R497, R506, R508, R510, R511, R513, R514,
R515, R516, R526, R552) A stray SEGMENT or BLOCK_REQUEST naming object 0 and the block ends (log 64), and when a request is served at once
or queued (log 65), are the model's reading. -/
def Obligations.CanRequests : Prop :=
  ∀ (s : State) (n : Fin 4) (tag : Nat) (s1 : State), s1 = { s with
      can := vmod s.can n fun c => { c with rxCnt := satAdd max32 c.rxCnt 1, reqCnt := satAdd max32 c.reqCnt 1 },
      netLast := portOfCan n } →
    (∀ (c : Instr) (i u x y : Nat) (bs : List Byte), c ∈ [.read n tag i u, .write n tag i u bs, .blockWriteInit n tag i u x,
        .segment n tag x y bs, .blockReadInit n tag i u, .blockRequest n tag x] → canSends s n = false →
      exec c s = .next (if s.can[n].phase = .monitoring then
        { s with can := vmod s.can n fun c => { c with rxCnt := satAdd max32 c.rxCnt 1 } } else s)) ∧
    (∀ (c : Instr) (q : NetReq) (i u x y : Nat) (bs : List Byte), (c, q) ∈ [(.read n tag i u, .read tag i u),
        (.write n tag i u bs, .write tag i u bs), (.blockWriteInit n tag i u x, .blockWriteInit tag i u x),
        (.segment n tag x y bs, .segment tag x y bs), (.blockReadInit n tag i u, .blockReadInit tag i u),
        (.blockRequest n tag x, .blockRequest tag x)] → canSends s n = true → (reqFirst s n = false ∨ netFree s = false) →
      exec c s = .next { s with
        ack := .none
        can := vmod s.can n fun p => { p with
          rxCnt := satAdd max32 p.rxCnt 1
          rxQueue := if p.rxQueue.length < 64 then p.rxQueue ++ [q] else p.rxQueue
          rxDrop := if p.rxQueue.length < 64 then p.rxDrop else satAdd max32 p.rxDrop 1 } }) ∧
    (canSends s n = true → reqFirst s n = true → netFree s = true →
      (∀ i u e, checkRead s (portOfCan n) i u = .error e →
        exec (.read n tag i u) s = .next { respond n ⟨0x81, tag, i, u, []⟩ (.abort e) s1 with ack := .abort e }) ∧
      (∀ i u row b t0, checkRead s (portOfCan n) i u = .ok row → row.typ ≠ .domain →
        readObject (portOfCan n) row i u s1 = (t0, .value b) →
        exec (.read n tag i u) s = .next { respond n ⟨0x81, tag, i, u, []⟩ (.value b) t0 with ack := .value b }) ∧
      (∀ i u bs e, checkWrite s (portOfCan n) i u = .error e →
        exec (.write n tag i u bs) s = .next { respond n ⟨0x82, tag, i, u, []⟩ (.abort e) s1 with ack := .abort e }) ∧
      (∀ i u bs row, checkWrite s (portOfCan n) i u = .ok row → (bs.length = 0 ∨ 56 < bs.length ∨ lengthOk row i u bs.length = false) →
        exec (.write n tag i u bs) s = .next { respond n ⟨0x82, tag, i, u, []⟩ (.abort .length) s1 with ack := .abort .length }) ∧
      (∀ i u bs row, checkWrite s (portOfCan n) i u = .ok row → 1 ≤ bs.length → bs.length ≤ 56 → lengthOk row i u bs.length = true →
        row.acc ≠ .rwx → i / 256 = 0x2B → exec (.write n tag i u bs) s = .next
          { respond n ⟨0x82, tag, i, u, []⟩ .done { s1 with settings := mapPut (okey i u) (leNat bs) s.settings } with ack := .done }) ∧
      (∀ i u x e, s.can[n].transfer = .none → checkWrite s (portOfCan n) i u = .error e →
        exec (.blockWriteInit n tag i u x) s = .next
          { respond n ⟨0x92, tag, i, u, leBytes 2 4096 ++ leBytes 1 69⟩ (.abort e) s1 with ack := .abort e }) ∧
      (∀ i u x row, s.can[n].transfer = .none → checkWrite s (portOfCan n) i u = .ok row → isImage i u = false →
        blockLengthOk row i u x = true → ∃ t, exec (.blockWriteInit n tag i u x) s = .next t ∧ t.ack = .done ∧
          t.can[n].transfer = .blockWrite tag i u x 0 0 false [] ∧
          (s.can[n].disabling = false → t.can[n].txQueue.length = s.can[n].txQueue.length + 1) ∧
          (∀ j : Fin 4, j ≠ n → t.can[j] = s.can[j]) ∧ t = { s with can := t.can, netLast := t.netLast, ack := t.ack }) ∧
      (∀ q f (bs : List Byte), bs.length < 4 → exec (.segment n tag q f bs) s = .next
          { respond n ⟨0x93, tag, 0, 0, []⟩ (.abort .malformed) s1 with ack := .abort .malformed }) ∧
      (∀ q f (bs : List Byte), 4 ≤ bs.length → (s.can[n].transfer = .none ∨ ∃ tg i u b, s.can[n].transfer = .blockRead tg i u b) →
        accessBusy s (portOfCan n) = false → exec (.segment n tag q f bs) s = .next
          { respond n ⟨0x93, tag, 0, 0, []⟩ (.abort .noTransfer) s1 with ack := .abort .noTransfer }) ∧
      (∀ q f (bs : List Byte) i u total block want got, 4 ≤ bs.length → s.can[n].transfer = .blockWrite tag i u total block want false got →
        accessBusy s (portOfCan n) = false → f % 4 = 0 →
        exec (.segment n tag q f bs) s = .next (setTransfer n (if q = want then
          .blockWrite tag i u total block (want + 1) false
            (got ++ bs.take (min 60 (min total (4096 * (block + 1)) - got.length)))
          else .blockWrite tag i u total block want true got) s1)) ∧
      (∀ q f (bs : List Byte) i u total block want sk got, 4 ≤ bs.length → s.can[n].transfer = .blockWrite tag i u total block want sk got →
        accessBusy s (portOfCan n) = false → f % 4 ≠ 0 → (sk = true ∨ q ≠ want) → ∃ t,
          exec (.segment n tag q f bs) s = .next t ∧ t.ack = .done ∧
          t.can[n].transfer = .blockWrite tag i u total block want false got ∧ t = { s with can := t.can, netLast := t.netLast, ack := t.ack }) ∧
      (∀ i u b row t0, s.can[n].transfer = .none → checkRead s (portOfCan n) i u = .ok row →
        readObject (portOfCan n) row i u s1 = (t0, .value b) → ∃ t, exec (.blockReadInit n tag i u) s = .next t ∧
          t.ack = .done ∧ t.can[n].transfer = .blockRead tag i u b ∧ t = { t0 with can := t.can, ack := t.ack }) ∧
      (∀ x, (s.can[n].transfer = .none ∨ ∃ tg i u b, s.can[n].transfer = .blockRead tg i u b ∧ tg ≠ tag) →
        accessBusy s (portOfCan n) = false → exec (.blockRequest n tag x) s = .next
          { respond n ⟨0x94, tag, 0, 0, []⟩ (.abort .noTransfer) s1 with ack := .abort .noTransfer }) ∧
      (∀ i u b, s.can[n].transfer = .blockRead tag i u b → accessBusy s (portOfCan n) = false → ∃ t,
        exec (.blockRequest n tag 0xFFFF) s = .next t ∧ t.ack = .done ∧ t.can[n].transfer = .none ∧ t = { s with can := t.can, netLast := t.netLast, ack := t.ack }) ∧
      (∀ q f (bs : List Byte) i u total block got whole, 4 ≤ bs.length → s.can[n].transfer = .blockWrite tag i u total block q false got →
        accessBusy s (portOfCan n) = false → f % 4 ≠ 0 →
        whole = got ++ bs.take (min 60 (min total (4096 * (block + 1)) - got.length)) →
        (f.testBit 1 = false → whole.length = min total (4096 * (block + 1)) → isImage i u = false →
          exec (.segment n tag q f bs) s = .next { respond n ⟨0x95, tag, i, u, leBytes 2 block ++ leBytes 1 69⟩ .done
            (setTransfer n (.blockWrite tag i u total (block + 1) 0 false whole) s1) with ack := .done }) ∧
        (f.testBit 1 = false → whole.length ≠ min total (4096 * (block + 1)) →
          exec (.segment n tag q f bs) s = .next { respond n ⟨0x95, tag, i, u, leBytes 2 block ++ leBytes 1 (q + 1)⟩ .done
            (setTransfer n (.blockWrite tag i u total block (q + 1) false whole) s1) with ack := .done }) ∧
        (f.testBit 1 = true → whole.length ≠ total → isImage i u = false →
          exec (.segment n tag q f bs) s = .next { respond n ⟨0x95, tag, i, u, leBytes 2 block ++ leBytes 1 (q + 1)⟩
            (.abort .length) (setTransfer n .none s1) with ack := .abort .length }) ∧
        (∀ t o, f.testBit 1 = true → whole.length = total → total ≤ 4096 * (block + 1) → isImage i u = false →
          writeRequest (portOfCan n) tag i u whole (setTransfer n .none s1) = (t, o) →
          exec (.segment n tag q f bs) s = .next
            { respond n ⟨0x95, tag, i, u, leBytes 2 block ++ leBytes 1 69⟩ o t with ack := o }) ∧
        (f.testBit 1 = false → whole.length = min total (4096 * (block + 1)) → isImage i u = true → s.update.phase = .receiving →
          exec (.segment n tag q f bs) s = .next
            { respond n ⟨0x95, tag, i, u, leBytes 2 block ++ leBytes 1 69⟩ (if buffersUsed s.update < 16 then .done else .none)
              (setTransfer n (.blockWrite tag i u total (block + 1) 0 false whole)
                { s1 with update := { s.update with got := s.update.got ++ whole.drop (4096 * block) } })
              with ack := if buffersUsed s.update < 16 then .done else .none })) ∧
      (∀ x i u (v blk : List Byte) k, s.can[n].transfer = .blockRead tag i u v → accessBusy s (portOfCan n) = false →
        x ≠ 0xFFFF → blk = (v.drop (4096 * x)).take 4096 → k = max 1 ((blk.length + 59) / 60) →
        (x ≠ 0 → v.length ≤ 4096 * x → exec (.blockRequest n tag x) s = .next
          { respond n ⟨0x94, tag, i, u, []⟩ (.abort .length) s1 with ack := .abort .length }) ∧
        ((x = 0 ∨ 4096 * x < v.length) → s.can[n].disabling = false → ∃ t, exec (.blockRequest n tag x) s = .next t ∧
          t.ack = .done ∧ t.can[n].txQueue = s.can[n].txQueue ++ (List.range k).map (fun j => fdFrame s n 1
            (leBytes 1 0x93 ++ leBytes 1 tag ++ leBytes 1 j ++ leBytes 1
              (bitsOf [decide (j + 1 = k), decide (j + 1 = k) && decide (v.length ≤ 4096 * (x + 1))])
              ++ (blk.drop (60 * j)).take 60)) ∧
          t.can[n].transfer = (if v.length ≤ 4096 * (x + 1) then .none else .blockRead tag i u v) ∧
          (∀ j : Fin 4, j ≠ n → t.can[j] = s.can[j]) ∧ t = { s with can := t.can, netLast := t.netLast, ack := t.ack })) ∧
      (∀ tg i0 u0 v i u x e s2, s.can[n].transfer = .blockRead tg i0 u0 v →
        s2 = respond n ⟨0x91, tg, i0, u0, []⟩ (.abort .transferReplaced) (setTransfer n .none s1) →
        (checkWrite s2 (portOfCan n) i u = .error e → exec (.blockWriteInit n tag i u x) s = .next
          { respond n ⟨0x92, tag, i, u, leBytes 2 4096 ++ leBytes 1 69⟩ (.abort e) s2 with ack := .abort e }) ∧
        (checkRead s2 (portOfCan n) i u = .error e → exec (.blockReadInit n tag i u) s = .next
          { respond n ⟨0x91, tag, i, u, []⟩ (.abort e) s2 with ack := .abort e }))) ∧
    (s.can[n].transfer = .none → exec (.transferTimeout n) s = .next s) ∧
    (s.can[n].transfer ≠ .none → ∃ t, exec (.transferTimeout n) s = .next t ∧ t.can[n].transfer = .none ∧
      (canAccepts s n = true → s.can[n].waiting = [] →
        t.can[n].abortCnt = satAdd max32 s.can[n].abortCnt 1 ∧ t.can[n].lastAbort = 0x51010002) ∧
      (∀ j : Fin 4, j ≠ n → t.can[j] = s.can[j]) ∧ t = { s with evc := t.evc, tw := t.tw, can := t.can, update := t.update }) ∧
    (∀ (p : Port) (i u : Nat) (bs : List Byte),
      (answering s = false → exec (.objectWrite p i u bs) s = .next { s with ack := .none }) ∧
      (∀ e, answering s = true → checkWrite s p i u = .error e → exec (.objectWrite p i u bs) s = .next { s with ack := .abort e }) ∧
      (∀ row, answering s = true → checkWrite s p i u = .ok row → lengthOk row i u bs.length = false →
        exec (.objectWrite p i u bs) s = .next { s with ack := .abort .length }) ∧
      (∀ row, answering s = true → checkWrite s p i u = .ok row → lengthOk row i u bs.length = true → row.acc ≠ .rwx →
        exec (.objectWrite p i u bs) s = .next { (ownerWrite p i u bs s).1 with ack := (ownerWrite p i u bs s).2 }) ∧
      (∀ row, answering s = true → checkWrite s p i u = .ok row → lengthOk row i u bs.length = true → row.acc ≠ .rwx →
        i / 256 = 0x2B → exec (.objectWrite p i u bs) s = .next { s with
          ack := .done, settings := mapPut (okey i u) (leNat bs) s.settings }))

/-- The lapse of a bearing, reports by period and change, report modes, and the directory step. (R520, R521, R522, R523, R524, R560) That a
report clears nothing it maps (log 31) and that a dropped frame is not counted as sent (log 80) are the model's reading. -/
def Obligations.CrossBearingReportsDirectory : Prop :=
  ∀ s : State,
    (s.xb.pend = [] → exec .xbearTimeout s = .next s) ∧
    (∀ b l, s.xb.pend = b :: l → ∃ t, exec .xbearTimeout s = .next t ∧ t.xb = { s.xb with
      pend := l, abortCnt := satAdd max32 s.xb.abortCnt 1, last := xbWord b.idx b.sub b.port 7 3 } ∧
      t = { s with nv := t.nv, log := t.log, evc := t.evc, tw := t.tw, can := t.can, xb := t.xb }) ∧
    (∀ r, (rptRuns s r = false ∨ s.rptMode r ∉ [1, 3]) → exec (.reportPeriod r) s = .next s) ∧
    (∀ r, (rptRuns s r = false ∨ s.rptMode r ∉ [2, 3] ∨ inhibitOver s r = false ∨ rptValues s r = s.reports[r].last) →
      exec (.reportChangeSample r) s = .next s) ∧
    (∀ (r : Fin 64) (c : Instr) (ch : Bool), rptRuns s r = true →
        ((c = .reportPeriod r ∧ ch = false ∧ s.rptMode r ∈ [1, 3]) ∨
          (c = .reportChangeSample r ∧ ch = true ∧ s.rptMode r ∈ [2, 3] ∧ inhibitOver s r = true ∧
            rptValues s r ≠ s.reports[r].last)) →
      exec c s = .next { s with
        reports := if s.can[rptPort r].disabling = true then s.reports else vmod s.reports r fun x => { x with
          cnt := (x.cnt + 1) % 256, sent := satAdd max32 x.sent 1, last := rptValues s r
          changeAt := if ch = true then some s.devTime else x.changeAt }
        can := vmod s.can (rptPort r) fun q => { q with
          txQueue := if q.disabling = true then q.txQueue else q.txQueue ++
            [fdFrame s (rptPort r) (0x10 + r.val % 16) (leBytes 1 s.reports[r].cnt ++ rptValues s r)]
          txDrop := if q.disabling = true then satAdd max32 q.txDrop 1 else q.txDrop }
        freeCtr := s.freeCtr + 1 }) ∧
    (∀ (p : Port) (r : Fin 64) (v : Nat) (row : ObjRow), answering s = true → checkWrite s p (0x2D40 + r) 0x01 = .ok row →
      (v % 256 ≠ 0 → mappingOk s r = false → exec (.rptModeWrite p r v) s = .next { s with ack := .abort .mapping }) ∧
      (v % 256 ≠ 0 → mappingOk s r = true → exec (.rptModeWrite p r v) s = .next { s with
        ack := .done, settings := mapPut (okey (0x2D40 + r) 0x01) (v % 256) s.settings }) ∧
      (v % 256 = 0 → exec (.rptModeWrite p r v) s = .next { s with
        ack := .done, settings := mapPut (okey (0x2D40 + r) 0x01) 0 s.settings
        reports := vmod s.reports r fun x => { x with disabling := x.disabling || decide (s.rptMode r ≠ 0) } })) ∧
    (∀ (p : Port) (row : ObjRow), answering s = true → checkWrite s p 0x2001 5 = .ok row →
      (∀ v, v ≠ 1 → exec (.odDirStep p v) s = .next { s with ack := .done }) ∧
      (exec (.odDirStep p 1) s = .next { s with
        ack := .done, dirSel := vmod s.dirSel p fun x => dirNext s.part x.1 x.2 }))

/-- Image header, bank wipe, blocks, verification, activation, trial and abandon. (R5, R448, R530, R533, R534, R535, R536, R537, R538, R540,
R541, R545) The update path's answers, and that STAGED is no running update (log 68), are the model's reading. -/
def Obligations.FirmwareUpdate : Prop :=
  ∀ s : State,
    (∀ (p : Port) (h : List Byte) (row : ObjRow), answering s = true → checkWrite s p 0x2E00 0x01 = .ok row →
      ((h.length ≠ 256 ∨ (twOf p).isSome = true) → exec (.updateHeaderCheck p h) s = .next { s with ack := .abort .length }) ∧
      (h.length = 256 → twOf p = none → (s.update.phase ∈ [.trial, .activating] ∨
        (updRuns s.update.phase = true ∧ s.update.port ≠ p)) →
        exec (.updateHeaderCheck p h) s = .next { s with ack := .abort .state }) ∧
      (h.length = 256 → twOf p = none → (s.update.phase ∈ [.idle, .staged] ∨ updRuns s.update.phase = true ∧ s.update.port = p) → ∃ t,
        exec (.updateHeaderCheck p h) s = .next t ∧
        (∀ n, imageRefusal s h = some n → t.ack = .abort (.image n) ∧ t.update.refuse = n.val + 1 ∧
          t.update.phase = (if s.update.phase = .staged then .staged else .idle) ∧ t.mram = s.mram ∧
          t = { s with nv := t.nv, log := t.log, evc := t.evc, tw := t.tw, can := t.can, update := t.update, ack := t.ack }) ∧
        (imageRefusal s h = none → t.ack = .done ∧ t.update.phase = .wiping ∧ t.update.header = h ∧
          t.update.port = p ∧ t.mram.banks[targetBank s].phase = .writing ∧ t.mram.banks[targetBank s].payload = [] ∧
          t.mram.banks[s.update.sel] = s.mram.banks[s.update.sel] ∧ t.ewd.wipeSusp = true ∧ t = { s with mram := t.mram, ewd := t.ewd, evc := t.evc, tw := t.tw, can := t.can, update := t.update, ack := t.ack }))) ∧
    (s.update.phase ≠ .wiping → exec .bankWipeDone s = exec .engineSuspensionEnd s) ∧
    (s.update.phase = .wiping → bankWaits s = true → exec .bankWipeDone s = .next s) ∧
    (s.update.phase = .wiping → bankWaits s = false → ∃ t, exec .bankWipeDone s = .next t ∧ t.update = { s.update with phase := .receiving } ∧
      t.ewd.wipeSusp = false ∧ t = { s with ewd := t.ewd, evc := t.evc, tw := t.tw, update := t.update }) ∧
    ((s.update.phase ≠ .receiving ∨ s.update.got.length ≤ s.update.written ∨ bankWaits s = true) → exec .bankBlockWrite s = .next s) ∧
    (s.update.phase = .receiving → s.update.written < s.update.got.length → bankWaits s = false → ∃ t, exec .bankBlockWrite s = .next t ∧
      t.mram.banks[targetBank s].payload = s.mram.banks[targetBank s].payload ++ (s.update.got.drop s.update.written).take 4096 ∧
      t.mram.banks[s.update.sel] = s.mram.banks[s.update.sel] ∧
      t.update = { s.update with
        written := s.update.written + ((s.update.got.drop s.update.written).take 4096).length
        rxBlocks := s.update.rxBlocks + 1 } ∧ t = { s with mram := t.mram, update := t.update, can := t.can }) ∧
    ((s.update.phase ≠ .receiving ∨ s.update.written ≠ payloadSize s.update.header) → exec .updateVerify s = .next s) ∧
    (s.update.phase = .receiving → s.update.written = payloadSize s.update.header → ∃ t, exec .updateVerify s = .next t ∧
      (digestsMatch s.update.header s.mram.banks[targetBank s].payload = true → t.update.phase = .staged ∧
        t.mram.banks[targetBank s].phase = .staged ∧ t.mram.banks[targetBank s].header = s.update.header ∧
        ∀ k : Fin 7, t.dies[k] = if diePresent s k = true then { s.dies[k] with
          standby := s.mram.banks[targetBank s].payload.drop (helmSize s.update.header) } else s.dies[k]) ∧
      (digestsMatch s.update.header s.mram.banks[targetBank s].payload = false → t.update.phase = .idle ∧
        t.mram.banks[targetBank s].phase = .failed ∧ t.update.refuse = 9 ∧ t.dies = s.dies) ∧
      t.mram.banks[targetBank s].payload = s.mram.banks[targetBank s].payload ∧
      t.mram.banks[s.update.sel] = s.mram.banks[s.update.sel] ∧ t = { s with mram := t.mram, dies := t.dies, update := t.update, evc := t.evc, tw := t.tw, can := t.can }) ∧
    (∀ (p : Port) (row : ObjRow), answering s = true → checkWrite s p 0x2E00 0x03 = .ok row →
      (activateAllowed s = false → exec (.updActivate p) s = .next { s with ack := .abort .state }) ∧
      (activateAllowed s = true → ∃ t, exec (.updActivate p) s = .next t ∧ t.ack = .done ∧ t.update.phase = .activating ∧
        t.update.pause = true ∧ t.mram.banks[targetBank s].phase = .trial ∧ t.mram.banks[s.update.sel].phase = .previous ∧
        (∀ n : Fin 2, t.tw[n].frozen = windowOf s n) ∧ t = { s with mram := t.mram, update := t.update, evc := t.evc, tw := t.tw, ack := t.ack }) ∧
      (s.update.phase ≠ .trial → exec (.updConfirm p) s = .next { s with ack := .abort .state }) ∧
      (s.update.phase = .trial → ∃ t, exec (.updConfirm p) s = .next t ∧ t.ack = .done ∧
        t.update = { s.update with phase := .idle, trialLeft := 0 } ∧
        t.mram = { s.mram with banks := vmod s.mram.banks s.update.sel fun b => { b with phase := .active } } ∧
        t = { s with mram := t.mram, update := t.update, evc := t.evc, tw := t.tw, ack := t.ack }) ∧
      (s.update.phase ∈ [.idle, .activating] → exec (.updAbandon p) s = .next { s with ack := .abort .state }) ∧
      (s.update.phase ∈ [.wiping, .receiving, .staged] → ∃ t, exec (.updAbandon p) s = .next t ∧ t.ack = .done ∧
        t.update.phase = .idle ∧ t = { s with update := t.update, evc := t.evc, tw := t.tw, can := t.can, ack := t.ack }) ∧
      (s.update.phase = .trial → ∃ t, exec (.updAbandon p) s = .next t ∧ t.ack = .done ∧ t.boot.phase = .inReset ∧
        t.boot.curCause = 4 ∧ t.boot.curSub = 1 ∧ t.update.phase = .idle ∧ t.mram.banks = s.mram.banks)) ∧
    (s.update.phase ≠ .activating → exec .activationPauseEnd s = .next s) ∧
    (s.update.phase = .activating → ∃ t, t.update = { s.update with
        phase := .trial, pause := false, sel := targetBank s, trialLeft := 60 } ∧
      t.dies = s.dies.map (fun d => { d with code := d.standby }) ∧ t = { s with update := t.update, evc := t.evc, tw := t.tw, dies := t.dies } ∧
      exec .activationPauseEnd s = .next (heldReactions (heldFaults t)) ∧
      (s.update.heldA = [] → s.update.heldB = [] → s.wd.held = [] → exec .activationPauseEnd s = .next t)) ∧
    (∀ e, enginePresent s e = false → exec (.activationTimeout e) s = .fault .absentInPart) ∧
    (∀ e, enginePresent s e = true → s.update.phase ≠ .activating → exec (.activationTimeout e) s = .next s) ∧
    (∀ e, enginePresent s e = true → s.update.phase = .activating → s.boot.phase = .ready → ∃ t,
      exec (.activationTimeout e) s = .next t ∧ t.boot.phase = .inReset ∧ t.boot.curCause = 7 ∧ t.boot.curSub = e.val + 0x100 ∧
      t.update.phase = .idle ∧ t.update.pause = false ∧ t.mram.banks = s.mram.banks) ∧
    (s.update.phase ≠ .trial → exec .trialEnd s = .next s) ∧
    (s.update.phase = .trial → ∃ t, exec .trialEnd s = .next t ∧ t.update = { s.update with phase := .idle, trialLeft := 0 } ∧
      t.mram = { s.mram with banks := vmod s.mram.banks s.update.sel fun b => { b with phase := .active } } ∧
      t = { s with mram := t.mram, update := t.update, evc := t.evc, tw := t.tw })

/-- LC_ADVANCE commits exactly the next life-cycle state. (R376, R397, R542, R543) -/
def Obligations.LifeCycleAdvance : Prop :=
  ∀ (s : State) (p : Port) (v : Nat) (row : ObjRow), answering s = true → checkWrite s p 0x2E10 0x02 = .ok row →
    ((4 ≤ s.mram.lc ∨ v ≠ 0x4C430000 + s.mram.lc + 1 ∨ s.update.phase = .trial) →
      exec (.lcAdvance p v) s = .next { s with ack := .abort .state }) ∧
    (s.mram.lc < 4 → v = 0x4C430000 + s.mram.lc + 1 → s.update.phase ≠ .trial → ∃ t, exec (.lcAdvance p v) s = .next t ∧
      t.ack = .done ∧ t.mram.lc = s.mram.lc + 1 ∧ t.nv = { s.nv with keyLoaded := false, wiped := true, wipeLc := true } ∧
      (s.mram.lc = 2 → hcLocked t = true) ∧ (s.mram.lc ≠ 2 → t.mram = { s.mram with lc := s.mram.lc + 1 }) ∧
      t.mram.cfg = s.mram.cfg ∧ t.mram.banks = s.mram.banks ∧ t.mram.hc.body = s.mram.hc.body ∧
      (s.update.phase ∈ [.wiping, .receiving] → t.update.phase = .idle) ∧
      (∀ a, a < 0x4000 → Memory.get t.hamper.mem a = 0) ∧
      (Memory.wf s.hamper.mem = true → ∀ a, 0x4000 ≤ a → Memory.get t.hamper.mem a = Memory.get s.hamper.mem a) ∧
      t = { s with mram := t.mram, nv := t.nv, hamper := t.hamper, update := t.update, evc := t.evc, tw := t.tw, can := t.can, ack := t.ack })

/-- A step carries out the command at the front of the queue. (R506) -/
def Obligations.StepRunsFront : Prop :=
  ∀ (s : State) (c : Instr) (l : List Instr), s.pending = c :: l → step s = exec c { s with pending := l }

/-- With no command waiting a microsecond passes (the model's choice, log entry 3). (R18, R34, R434, R446, R499, R506, R528, R541) -/
def Obligations.EmptyQueueTicks : Prop :=
  ∀ s : State, s.pending = [] →
    (s.boot.phase = .porHeld → step s = .next s) ∧
    (s.boot.phase ≠ .porHeld → ∃ t, step s = .next t ∧ t.devTime = s.devTime + 1 ∧ t.part = s.part ∧ t.pending = []) ∧
    (s.boot.phase ≠ .porHeld → (∀ k : Fin 7, s.links[k].helm.waiting = [] ∧ s.links[k].rail.waiting = [] ∧ s.links[k].reads = []) →
      (∀ n : Fin 4, s.can[n].disabling = false) → (∀ n : Fin 4, s.can[n].rxQueue = []) → ∃ t, step s = .next t ∧
        t.devTime = s.devTime + 1 ∧
        t.aonAcc = (if 1000000 ≤ s.aonAcc + 32768 then s.aonAcc + 32768 - 1000000 else s.aonAcc + 32768) ∧
        t.wd = (if 1000000 ≤ s.aonAcc + 32768 ∧ s.wd.running = true ∧ wdFrozen s = false then
          { s.wd with tick := min (s.wdCycle - 1) (s.wd.tick + 1) } else s.wd) ∧
        t.update = (if s.devTime % 1000000 = 999999 ∧ s.update.phase = .trial then
          { s.update with trialLeft := s.update.trialLeft - 1 } else s.update) ∧
        t.ewd = (if s.ewd.running = true ∧ sysRuns s = true then { s.ewd with since := s.ewd.since.map (· + 1) } else s.ewd) ∧
        (∀ n : Fin 4, canTimingOk s n = true →
          ((canSends s n = false ∨ s.can[n].txQueue = []) → t.can[n] = s.can[n]) ∧
          (∀ f l, canSends s n = true → s.can[n].txQueue = f :: l →
            (canFails s n f = true → t.can[n] = s.can[n]) ∧
            (canFails s n f = false → t.can[n] = { s.can[n] with
              txQueue := l, txCnt := satAdd max32 s.can[n].txCnt 1, tdcVal := t.can[n].tdcVal } ∧
              ((f.classical = true ∨ f.brs = false ∨ canTdc s n = false) → t.can[n].tdcVal = s.can[n].tdcVal)))) ∧
        (∀ k : Fin 7, (s.links[k].phase ≠ .up ∨ sysRuns s = false) → t.links[k] = s.links[k]) ∧
        (∀ k : Fin 7, t.links[k] = { s.links[k] with helm := t.links[k].helm, rail := t.links[k].rail } ∧
          t.links[k].helm.waiting = [] ∧ t.links[k].rail.waiting = []) ∧
        t = { s with links := t.links, wd := t.wd, ewd := t.ewd, can := t.can, update := t.update, devTime := t.devTime, aonAcc := t.aonAcc, freeCtr := t.freeCtr }) ∧
    (∀ (n : Fin 4) (q : NetReq) (l : List NetReq) (s0 t0 : State), s.boot.phase ≠ .porHeld → sysRuns s = true →
      (∀ j : Fin 4, s.can[j].disabling = false) → (∀ j : Fin 4, j ≠ n → s.can[j].rxQueue = []) →
      canTimingOk s n = true → netReady s n = true → s.can[n].rxQueue = q :: l →
      s0 = { s with can := vmod s.can n fun c => { c with rxQueue := [] } } → step s0 = .next t0 →
      step s = .next (serveReq n q { t0 with can := vmod t0.can n fun c => { c with rxQueue := l } }))

/-- The machine right after reset, where the invariant holds (the model's choice of the moment, log entry 2). (R76, R88, R110, R393, R542) -/
def Obligations.ResetInvariant : Prop :=
  Canonical State.reset ∧ State.reset.mram.lc ≤ 4 ∧ State.reset.boot.phase = .porHeld ∧ State.reset.pwr.state = .off ∧ State.reset.safeN = true ∧
    State.reset.faultLine = false ∧ State.reset.part = .qmn2408 ∧ State.reset.mram.lc = 0 ∧ State.reset.hamper.mem = [] ∧
    State.reset.settings = [] ∧ State.reset.pending = [] ∧ (∀ n : Fin 4, State.reset.zin[n].phase = .off) ∧
    (∀ n : Fin 4, State.reset.rsto[n].pin = false) ∧ (∀ r : Fin 28, State.reset.rails[r].enabled = false) ∧
    (∀ g : Fin 8, State.reset.groups[g].phase = .off) ∧ (∀ n : Fin 4, State.reset.can[n].phase = .disabled) ∧
    State.reset.update.phase = .idle ∧ State.reset.wd.on = false

/-- What no command and no passing of time takes back. (R4, R5, R26, R376, R506, R542) -/
def Obligations.StepsGoOnward : Prop :=
  ∀ s t : State, step s = .next t →
    Onward s t ∧ (s.mram.lc ≤ 4 → t.mram.lc ≤ 4) ∧ t.pending = s.pending.tail

/-- Only a write of the dictionary moves the life-cycle state. (R376, R515, R542, R552) -/
def Obligations.LifeCycleByObjectWritesOnly : Prop :=
  ∀ (c : Instr) (s t : State), exec c s = .next t → t.mram.lc ≠ s.mram.lc →
    (∃ p v, c = .lcAdvance p v) ∨ (∃ p i u bs, c = .objectWrite p i u bs) ∨ (∃ n g i u bs, c = .write n g i u bs) ∨
    (∃ n g q f bs, c = .segment n g q f bs) ∨ (∃ n b, c = .tunCmdWrite n b) ∨ (∃ n k bs, c = .malformed n k bs) ∨ (∃ n o bs pec, c = .registerWrite n o bs pec)

/-- Every well-formed command of the part answers a next state. (R5, R32, R470, R507, R548) -/
def Obligations.EveryCommandOfThePartCompletes : Prop :=
  ∀ (c : Instr) (s : State),
    (c.wf s.part = true → ∃ t, exec c s = .next t) ∧
    ((∃ t, exec c s = .next t) ∨ exec c s = .fault .absentInPart)

/-- The order of the access checks. (R5, R474, R515, R516, R517, R562) That a read waits at a link for t_LTRN (log 76) is the model's reading. -/
def Obligations.AccessCheckOrder : Prop :=
  ∀ (s : State) (p : Port) (i u : Nat),
    ((s.boot.odAnswering = false ∨ s.update.pause = true ∨ ∃ n, twOf p = some n ∧ s.tw[n].tun.phase = .busy) →
      checkWrite s p i u = .error .busy ∧ checkRead s p i u = .error .busy) ∧
    (accessBusy s p = false → objFind s.part i u = none →
      checkWrite s p i u = .error .noObject ∧ checkRead s p i u = .error .noObject) ∧
    (∀ row, accessBusy s p = false → objFind s.part i u = some row →
      (row.acc ∈ [.ro, .const] → checkWrite s p i u = .error .readOnly) ∧
      (row.acc = .wo → checkRead s p i u = .error .writeOnly) ∧
      (row.acc ∉ [.ro, .const] → (roleMayWrite s p row.acc i u = false ∨ portBindOk p i u = false) →
        checkWrite s p i u = .error .role) ∧
      (row.acc ∉ [.ro, .const] → roleMayWrite s p row.acc i u = true → portBindOk p i u = true →
        checkWrite s p i u = .ok row) ∧
      (row.acc ≠ .wo → (linkBusy s i u = false ∨ ∀ k, objDie i = some k → s.devTime < s.links[k].downAt + 200) →
        checkRead s p i u = .ok row) ∧
      (∀ k, row.acc ≠ .wo → objDie i = some k → u ≠ 0 → s.links[k].phase ≠ .up →
        (s.links[k].downAt + 200 ≤ s.devTime → checkRead s p i u = .error .busy) ∧
        readObject p row i u s = ({ s with
          links := vmod s.links k fun l => { l with reads := l.reads ++ [(p, i, u)] } }, .none))) ∧
    (∀ k : Fin 7, objDie i = some k → s.part.dies ≤ k.val → objFind s.part i u = none)

/-- An access that is not answered or not permitted has no effect. (R98, R515, R516) The order of the checks (log 9) is the model's choice. -/
def Obligations.RefusedAccessesChangeNothing : Prop :=
  ∀ (s : State) (p : Port) (n : Fin 4) (m : Fin 8) (r : Fin 28) (q : Fin 64) (e : Fin 128) (v i u : Nat) (bs : List Byte)
      (c : Instr) (idx sub : Nat),
    (c, idx, sub) ∈ [
      (.pwrStateReqRun p, 0x2108, 2), (.pwrStateReqDoze p, 0x2108, 2), (.pwrStateReqPark p, 0x2108, 2),
      (.resetCmd p v, 0x2105, 1), (.zinEnSet p n, 0x2210 + n.val, 1), (.zinEnClear p n, 0x2210 + n.val, 1),
      (.zinClear p n v, 0x2210 + n.val, 0x10), (.foClear p m v, 0x2220 + m.val, 0x0B),
      (.loopCommit p r v, 0x3000 + r.val, 9), (.railVsetWrite p r v, 0x3100 + r.val, 1),
      (.phmDisable p r, 0x3100 + r.val, 0x0F), (.fcReqWrite p r v, 0x3100 + r.val, 0x1C),
      (.trimDisable p r, 0x3100 + r.val, 0x1F), (.stepAlarmDisable p r, 0x3100 + r.val, 0x0A),
      (.railFclr p r v, 0x3200 + r.val, 0x0D), (.groupUpCmd p m, 0x2410 + m.val, 3), (.groupDownCmd p m, 0x2410 + m.val, 3),
      (.rstoForce p n v, 0x2420 + n.val, 4), (.srcAnncWrite p n v, 0x2703, n.val + 1), (.chgEnSet p, 0x2701, 1),
      (.chgEnClear p, 0x2701, 1), (.ggNewpack p v, 0x2711, 0x0F), (.outingStartCmd p, 0x2711, 0x0B),
      (.outingEndCmd p, 0x2711, 0x0B), (.ggAlmTablesWrite p bs, 0x2712, 1), (.cfgSave p v, 0x2801, 1),
      (.hcImageWrite p bs, 0x2802, 1), (.hcLock p v, 0x2802, 2), (.hkScanDisable p, 0x2900, 1), (.hkCalCmd p v, 0x2900, 5),
      (.hkRefSelWrite p v, 0x2900, 3), (.throttleDisable p, 0x2910, 1), (.wdEnable p v, 0x2A10, 1), (.logFclr p v, 0x2A20, 4),
      (.evcRouteWrite p e v, 0x2C10, e.val + 1), (.evcGdisWrite p v, 0x2C00, 1), (.canEnClear p n, 0x2D00 + n.val, 1),
      (.canBoffRec p n v, 0x2D00 + n.val, 0x18), (.rptModeWrite p q v, 0x2D40 + q.val, 1),
      (.updateHeaderCheck p bs, 0x2E00, 1), (.updActivate p, 0x2E00, 3), (.updConfirm p, 0x2E00, 3), (.updAbandon p, 0x2E00, 3),
      (.lcAdvance p v, 0x2E10, 2), (.odDirStep p v, 0x2001, 5), (.objectWrite p i u bs, i, u)] →
    (answering s = false → exec c s = .next { s with ack := .none } ∧
      exec (.chgFaultRead p) s = .next { s with ack := .none }) ∧
    (∀ x, answering s = true → checkWrite s p idx sub = .error x → exec c s = .next { s with ack := .abort x }) ∧
    (∀ x, answering s = true → checkRead s p 0x2701 0x11 = .error x →
      exec (.chgFaultRead p) s = .next { s with ack := .abort x })

/-- Which of two sequence numbers is newer. (R371) -/
def Obligations.NewerSequence : Prop :=
  ∀ a b : Nat, a < 2 ^ 32 → b < 2 ^ 32 →
    (seqNewer a b = true ↔ 1 ≤ ((a : Int) - b) % 2 ^ 32 ∧ ((a : Int) - b) % 2 ^ 32 ≤ 2 ^ 31 - 1) ∧
    seqNext a < 2 ^ 32 ∧ seqNewer (seqNext a) a = true

/-- Global rail and phase numbers. (R9) -/
def Obligations.GlobalNumbers : Prop :=
  ∀ (k j : Fin 7), j.val = k.val →
    (∀ l : Fin 4, (dieRail k l).val = 4 * ((j.val + 1) - 1) + l.val ∧ railDie (dieRail k l) = k ∧ railLoop (dieRail k l) = l.val) ∧
    (∀ (p : Nat) (h : p < 8), ((diePhases k)[p]?).map (·.val) = some (8 * ((j.val + 1) - 1) + p) ∧
      phaseDie ⟨8 * k.val + p, by omega⟩ = k)

/-- A voltage command to the target in force changes nothing. (R206) -/
def Obligations.SameTargetChangesNothing : Prop :=
  ∀ (s : State) (r : Fin 28) (mv : Nat), cmdBlocked s r = false → s.rails[r].dyn.src ≠ 0 →
    s.rails[r].dyn.target = railTarget s r mv →
    (∀ slew src, applyRailCmd (.setTarget r mv slew src) s = s ∧
      (applyRailCmd (.setTarget r mv slew src) s).rails[r].dyn.transition = s.rails[r].dyn.transition ∧
      (applyRailCmd (.setTarget r mv slew src) s).rails[r].dyn.turnCnt = s.rails[r].dyn.turnCnt) ∧
    (∀ (p : Port) (row : ObjRow), answering s = true → checkWrite s p (0x3100 + r) 0x01 = .ok row → trimHolds s r = false →
      s.links[railDie r].phase = .up → s.links[railDie r].helm.waiting = [] →
      ∃ t, exec (.railVsetWrite p r mv) s = .next t ∧
        t = { s with ack := .done, settings := mapPut (okey (0x3100 + r) 0x01) mv s.settings, links := t.links })

/-- A missed engine deadline. (R447) -/
def Obligations.MissedDeadlineResets : Prop :=
  ∀ s : State, exec (.engineWatchdogExpire 1) s = exec (.engineWatchdogExpire 0) s ∧ ∀ e : Fin 18, e ≠ 1 →
    enginePresent s e = true → s.ewd.running = true → ewdSuspended s e = false →
    s.boot.phase ∈ [.strapWait, .selfTest, .starting, .ready] → ∃ u t, u = logFault .engineWdt 0 e 0 s ∧
      (s.log.ready = true → ∃ x ∈ u.log.ring, x.code = 0x0109 ∧ x.src = e.val) ∧
      (s.log.ready = false → ∃ x ∈ u.log.held, x.code.code = 0x0109 ∧ x.src = e.val) ∧
      exec (.engineWatchdogExpire e) s = .next t ∧ t = startFullReset 7 e u ∧
      t.boot.phase = .inReset ∧ t.boot.curCause = 0x07 ∧ t.boot.curSub = e.val

/-- The length of a response frame. (R509) -/
def Obligations.ResponsesArePadded : Prop :=
  ∀ (s : State) (n : Fin 4) (w : PendResp) (a : Ack) (d : List Byte) (res : Nat), canSends s n = true → s.can[n].disabling = false → d.length ≤ 56 →
    ((a = .done ∧ d = w.data ∧ res = 0) ∨ (a = .value d ∧ res = 0) ∨ (a = .pending ∧ d = [] ∧ res = 2) ∨
      (∃ c : AbortCode, a = .abort c ∧ d = leBytes 4 c.num ∧ res = 1)) →
    ∃ f : CanFrame, (respond n w a s).can[n].txQueue = s.can[n].txQueue ++ [f] ∧ f.classical = false ∧
      f.data.length ∈ [0, 1, 2, 3, 4, 5, 6, 7, 8, 12, 16, 20, 24, 32, 48, 64] ∧ 8 + d.length ≤ f.data.length ∧
      (∀ m ∈ [0, 1, 2, 3, 4, 5, 6, 7, 8, 12, 16, 20, 24, 32, 48, 64], 8 + d.length ≤ m → f.data.length ≤ m) ∧
      f.data.take (8 + d.length) = response w.cmd w.tag w.idx w.sub res d ∧
      (∀ b ∈ f.data.drop (8 + d.length), b = 0) ∧ (d.length = 2 → f.data.length = 12)
end

