-- ==== Sys2Proof/Laws/Frame.lean ====
section
/-! SUPPORT. Frames of the shared operations: `rest F s` is the state with the fields of `F` forgotten, and a lemma
`f_rest` says once all the fields that the operation f can change: for every F that holds them, it leaves `rest F` alone. -/

namespace Sys2Proof.Laws

open Sys2Proof.Machine
/-- The fields of the state. -/
inductive Fld
   | part | settings | mram | nv | clk | hamper | links | straps | boot | sk | pwr | zin | fo | zbus | rails | phases | gangs
   | dies | items | groups | regs | rsto | pp | chg | gauge | hk | therm | wd | ewd | log | faultLine | safeN | fab | evc | tw
   | can | roles | reports | xb | netLast | dirSel | update | skipCnt | hintAt | ack | devTime | aonAcc | freeCtr | pending
  deriving DecidableEq, Repr

/-- The state with the fields of `F` forgotten. -/
def rest (F : List Fld) (s : State) : State := { s with
  part := if Fld.part ∈ F then State.reset.part else s.part
  settings := if Fld.settings ∈ F then State.reset.settings else s.settings
  mram := if Fld.mram ∈ F then State.reset.mram else s.mram
  nv := if Fld.nv ∈ F then State.reset.nv else s.nv
  clk := if Fld.clk ∈ F then State.reset.clk else s.clk
  hamper := if Fld.hamper ∈ F then State.reset.hamper else s.hamper
  links := if Fld.links ∈ F then State.reset.links else s.links
  straps := if Fld.straps ∈ F then State.reset.straps else s.straps
  boot := if Fld.boot ∈ F then State.reset.boot else s.boot
  sk := if Fld.sk ∈ F then State.reset.sk else s.sk
  pwr := if Fld.pwr ∈ F then State.reset.pwr else s.pwr
  zin := if Fld.zin ∈ F then State.reset.zin else s.zin
  fo := if Fld.fo ∈ F then State.reset.fo else s.fo
  zbus := if Fld.zbus ∈ F then State.reset.zbus else s.zbus
  rails := if Fld.rails ∈ F then State.reset.rails else s.rails
  phases := if Fld.phases ∈ F then State.reset.phases else s.phases
  gangs := if Fld.gangs ∈ F then State.reset.gangs else s.gangs
  dies := if Fld.dies ∈ F then State.reset.dies else s.dies
  items := if Fld.items ∈ F then State.reset.items else s.items
  groups := if Fld.groups ∈ F then State.reset.groups else s.groups
  regs := if Fld.regs ∈ F then State.reset.regs else s.regs
  rsto := if Fld.rsto ∈ F then State.reset.rsto else s.rsto
  pp := if Fld.pp ∈ F then State.reset.pp else s.pp
  chg := if Fld.chg ∈ F then State.reset.chg else s.chg
  gauge := if Fld.gauge ∈ F then State.reset.gauge else s.gauge
  hk := if Fld.hk ∈ F then State.reset.hk else s.hk
  therm := if Fld.therm ∈ F then State.reset.therm else s.therm
  wd := if Fld.wd ∈ F then State.reset.wd else s.wd
  ewd := if Fld.ewd ∈ F then State.reset.ewd else s.ewd
  log := if Fld.log ∈ F then State.reset.log else s.log
  faultLine := if Fld.faultLine ∈ F then State.reset.faultLine else s.faultLine
  safeN := if Fld.safeN ∈ F then State.reset.safeN else s.safeN
  fab := if Fld.fab ∈ F then State.reset.fab else s.fab
  evc := if Fld.evc ∈ F then State.reset.evc else s.evc
  tw := if Fld.tw ∈ F then State.reset.tw else s.tw
  can := if Fld.can ∈ F then State.reset.can else s.can
  roles := if Fld.roles ∈ F then State.reset.roles else s.roles
  reports := if Fld.reports ∈ F then State.reset.reports else s.reports
  xb := if Fld.xb ∈ F then State.reset.xb else s.xb
  netLast := if Fld.netLast ∈ F then State.reset.netLast else s.netLast
  dirSel := if Fld.dirSel ∈ F then State.reset.dirSel else s.dirSel
  update := if Fld.update ∈ F then State.reset.update else s.update
  skipCnt := if Fld.skipCnt ∈ F then State.reset.skipCnt else s.skipCnt
  hintAt := if Fld.hintAt ∈ F then State.reset.hintAt else s.hintAt
  ack := if Fld.ack ∈ F then State.reset.ack else s.ack
  devTime := if Fld.devTime ∈ F then State.reset.devTime else s.devTime
  aonAcc := if Fld.aonAcc ∈ F then State.reset.aonAcc else s.aonAcc
  freeCtr := if Fld.freeCtr ∈ F then State.reset.freeCtr else s.freeCtr
  pending := if Fld.pending ∈ F then State.reset.pending else s.pending }

theorem rest_part {F : List Fld} {s t : State} (h : rest F t = rest F s) (n : Fld.part ∉ F) : t.part = s.part := by
  have := congrArg State.part h; simpa only [rest, n, if_false] using this
theorem rest_settings {F : List Fld} {s t : State} (h : rest F t = rest F s) (n : Fld.settings ∉ F) : t.settings = s.settings := by
  have := congrArg State.settings h; simpa only [rest, n, if_false] using this
theorem rest_mram {F : List Fld} {s t : State} (h : rest F t = rest F s) (n : Fld.mram ∉ F) : t.mram = s.mram := by
  have := congrArg State.mram h; simpa only [rest, n, if_false] using this
theorem rest_nv {F : List Fld} {s t : State} (h : rest F t = rest F s) (n : Fld.nv ∉ F) : t.nv = s.nv := by
  have := congrArg State.nv h; simpa only [rest, n, if_false] using this
theorem rest_clk {F : List Fld} {s t : State} (h : rest F t = rest F s) (n : Fld.clk ∉ F) : t.clk = s.clk := by
  have := congrArg State.clk h; simpa only [rest, n, if_false] using this
theorem rest_hamper {F : List Fld} {s t : State} (h : rest F t = rest F s) (n : Fld.hamper ∉ F) : t.hamper = s.hamper := by
  have := congrArg State.hamper h; simpa only [rest, n, if_false] using this
theorem rest_links {F : List Fld} {s t : State} (h : rest F t = rest F s) (n : Fld.links ∉ F) : t.links = s.links := by
  have := congrArg State.links h; simpa only [rest, n, if_false] using this
theorem rest_straps {F : List Fld} {s t : State} (h : rest F t = rest F s) (n : Fld.straps ∉ F) : t.straps = s.straps := by
  have := congrArg State.straps h; simpa only [rest, n, if_false] using this
theorem rest_boot {F : List Fld} {s t : State} (h : rest F t = rest F s) (n : Fld.boot ∉ F) : t.boot = s.boot := by
  have := congrArg State.boot h; simpa only [rest, n, if_false] using this
theorem rest_sk {F : List Fld} {s t : State} (h : rest F t = rest F s) (n : Fld.sk ∉ F) : t.sk = s.sk := by
  have := congrArg State.sk h; simpa only [rest, n, if_false] using this
theorem rest_pwr {F : List Fld} {s t : State} (h : rest F t = rest F s) (n : Fld.pwr ∉ F) : t.pwr = s.pwr := by
  have := congrArg State.pwr h; simpa only [rest, n, if_false] using this
theorem rest_zin {F : List Fld} {s t : State} (h : rest F t = rest F s) (n : Fld.zin ∉ F) : t.zin = s.zin := by
  have := congrArg State.zin h; simpa only [rest, n, if_false] using this
theorem rest_fo {F : List Fld} {s t : State} (h : rest F t = rest F s) (n : Fld.fo ∉ F) : t.fo = s.fo := by
  have := congrArg State.fo h; simpa only [rest, n, if_false] using this
theorem rest_zbus {F : List Fld} {s t : State} (h : rest F t = rest F s) (n : Fld.zbus ∉ F) : t.zbus = s.zbus := by
  have := congrArg State.zbus h; simpa only [rest, n, if_false] using this
theorem rest_rails {F : List Fld} {s t : State} (h : rest F t = rest F s) (n : Fld.rails ∉ F) : t.rails = s.rails := by
  have := congrArg State.rails h; simpa only [rest, n, if_false] using this
theorem rest_phases {F : List Fld} {s t : State} (h : rest F t = rest F s) (n : Fld.phases ∉ F) : t.phases = s.phases := by
  have := congrArg State.phases h; simpa only [rest, n, if_false] using this
theorem rest_gangs {F : List Fld} {s t : State} (h : rest F t = rest F s) (n : Fld.gangs ∉ F) : t.gangs = s.gangs := by
  have := congrArg State.gangs h; simpa only [rest, n, if_false] using this
theorem rest_dies {F : List Fld} {s t : State} (h : rest F t = rest F s) (n : Fld.dies ∉ F) : t.dies = s.dies := by
  have := congrArg State.dies h; simpa only [rest, n, if_false] using this
theorem rest_items {F : List Fld} {s t : State} (h : rest F t = rest F s) (n : Fld.items ∉ F) : t.items = s.items := by
  have := congrArg State.items h; simpa only [rest, n, if_false] using this
theorem rest_groups {F : List Fld} {s t : State} (h : rest F t = rest F s) (n : Fld.groups ∉ F) : t.groups = s.groups := by
  have := congrArg State.groups h; simpa only [rest, n, if_false] using this
theorem rest_regs {F : List Fld} {s t : State} (h : rest F t = rest F s) (n : Fld.regs ∉ F) : t.regs = s.regs := by
  have := congrArg State.regs h; simpa only [rest, n, if_false] using this
theorem rest_rsto {F : List Fld} {s t : State} (h : rest F t = rest F s) (n : Fld.rsto ∉ F) : t.rsto = s.rsto := by
  have := congrArg State.rsto h; simpa only [rest, n, if_false] using this
theorem rest_pp {F : List Fld} {s t : State} (h : rest F t = rest F s) (n : Fld.pp ∉ F) : t.pp = s.pp := by
  have := congrArg State.pp h; simpa only [rest, n, if_false] using this
theorem rest_chg {F : List Fld} {s t : State} (h : rest F t = rest F s) (n : Fld.chg ∉ F) : t.chg = s.chg := by
  have := congrArg State.chg h; simpa only [rest, n, if_false] using this
theorem rest_gauge {F : List Fld} {s t : State} (h : rest F t = rest F s) (n : Fld.gauge ∉ F) : t.gauge = s.gauge := by
  have := congrArg State.gauge h; simpa only [rest, n, if_false] using this
theorem rest_hk {F : List Fld} {s t : State} (h : rest F t = rest F s) (n : Fld.hk ∉ F) : t.hk = s.hk := by
  have := congrArg State.hk h; simpa only [rest, n, if_false] using this
theorem rest_therm {F : List Fld} {s t : State} (h : rest F t = rest F s) (n : Fld.therm ∉ F) : t.therm = s.therm := by
  have := congrArg State.therm h; simpa only [rest, n, if_false] using this
theorem rest_wd {F : List Fld} {s t : State} (h : rest F t = rest F s) (n : Fld.wd ∉ F) : t.wd = s.wd := by
  have := congrArg State.wd h; simpa only [rest, n, if_false] using this
theorem rest_ewd {F : List Fld} {s t : State} (h : rest F t = rest F s) (n : Fld.ewd ∉ F) : t.ewd = s.ewd := by
  have := congrArg State.ewd h; simpa only [rest, n, if_false] using this
theorem rest_log {F : List Fld} {s t : State} (h : rest F t = rest F s) (n : Fld.log ∉ F) : t.log = s.log := by
  have := congrArg State.log h; simpa only [rest, n, if_false] using this
theorem rest_faultLine {F : List Fld} {s t : State} (h : rest F t = rest F s) (n : Fld.faultLine ∉ F) : t.faultLine = s.faultLine := by
  have := congrArg State.faultLine h; simpa only [rest, n, if_false] using this
theorem rest_safeN {F : List Fld} {s t : State} (h : rest F t = rest F s) (n : Fld.safeN ∉ F) : t.safeN = s.safeN := by
  have := congrArg State.safeN h; simpa only [rest, n, if_false] using this
theorem rest_fab {F : List Fld} {s t : State} (h : rest F t = rest F s) (n : Fld.fab ∉ F) : t.fab = s.fab := by
  have := congrArg State.fab h; simpa only [rest, n, if_false] using this
theorem rest_evc {F : List Fld} {s t : State} (h : rest F t = rest F s) (n : Fld.evc ∉ F) : t.evc = s.evc := by
  have := congrArg State.evc h; simpa only [rest, n, if_false] using this
theorem rest_tw {F : List Fld} {s t : State} (h : rest F t = rest F s) (n : Fld.tw ∉ F) : t.tw = s.tw := by
  have := congrArg State.tw h; simpa only [rest, n, if_false] using this
theorem rest_can {F : List Fld} {s t : State} (h : rest F t = rest F s) (n : Fld.can ∉ F) : t.can = s.can := by
  have := congrArg State.can h; simpa only [rest, n, if_false] using this
theorem rest_roles {F : List Fld} {s t : State} (h : rest F t = rest F s) (n : Fld.roles ∉ F) : t.roles = s.roles := by
  have := congrArg State.roles h; simpa only [rest, n, if_false] using this
theorem rest_reports {F : List Fld} {s t : State} (h : rest F t = rest F s) (n : Fld.reports ∉ F) : t.reports = s.reports := by
  have := congrArg State.reports h; simpa only [rest, n, if_false] using this
theorem rest_xb {F : List Fld} {s t : State} (h : rest F t = rest F s) (n : Fld.xb ∉ F) : t.xb = s.xb := by
  have := congrArg State.xb h; simpa only [rest, n, if_false] using this
theorem rest_netLast {F : List Fld} {s t : State} (h : rest F t = rest F s) (n : Fld.netLast ∉ F) : t.netLast = s.netLast := by
  have := congrArg State.netLast h; simpa only [rest, n, if_false] using this
theorem rest_dirSel {F : List Fld} {s t : State} (h : rest F t = rest F s) (n : Fld.dirSel ∉ F) : t.dirSel = s.dirSel := by
  have := congrArg State.dirSel h; simpa only [rest, n, if_false] using this
theorem rest_update {F : List Fld} {s t : State} (h : rest F t = rest F s) (n : Fld.update ∉ F) : t.update = s.update := by
  have := congrArg State.update h; simpa only [rest, n, if_false] using this
theorem rest_skipCnt {F : List Fld} {s t : State} (h : rest F t = rest F s) (n : Fld.skipCnt ∉ F) : t.skipCnt = s.skipCnt := by
  have := congrArg State.skipCnt h; simpa only [rest, n, if_false] using this
theorem rest_hintAt {F : List Fld} {s t : State} (h : rest F t = rest F s) (n : Fld.hintAt ∉ F) : t.hintAt = s.hintAt := by
  have := congrArg State.hintAt h; simpa only [rest, n, if_false] using this
theorem rest_ack {F : List Fld} {s t : State} (h : rest F t = rest F s) (n : Fld.ack ∉ F) : t.ack = s.ack := by
  have := congrArg State.ack h; simpa only [rest, n, if_false] using this
theorem rest_devTime {F : List Fld} {s t : State} (h : rest F t = rest F s) (n : Fld.devTime ∉ F) : t.devTime = s.devTime := by
  have := congrArg State.devTime h; simpa only [rest, n, if_false] using this
theorem rest_aonAcc {F : List Fld} {s t : State} (h : rest F t = rest F s) (n : Fld.aonAcc ∉ F) : t.aonAcc = s.aonAcc := by
  have := congrArg State.aonAcc h; simpa only [rest, n, if_false] using this
theorem rest_freeCtr {F : List Fld} {s t : State} (h : rest F t = rest F s) (n : Fld.freeCtr ∉ F) : t.freeCtr = s.freeCtr := by
  have := congrArg State.freeCtr h; simpa only [rest, n, if_false] using this
theorem rest_pending {F : List Fld} {s t : State} (h : rest F t = rest F s) (n : Fld.pending ∉ F) : t.pending = s.pending := by
  have := congrArg State.pending h; simpa only [rest, n, if_false] using this

/-- What is outside the forgotten fields is the same. -/
theorem rest_patch {F : List Fld} {s t : State} (h : rest F t = rest F s) : t = { s with
    part := if Fld.part ∈ F then t.part else s.part
    settings := if Fld.settings ∈ F then t.settings else s.settings
    mram := if Fld.mram ∈ F then t.mram else s.mram
    nv := if Fld.nv ∈ F then t.nv else s.nv
    clk := if Fld.clk ∈ F then t.clk else s.clk
    hamper := if Fld.hamper ∈ F then t.hamper else s.hamper
    links := if Fld.links ∈ F then t.links else s.links
    straps := if Fld.straps ∈ F then t.straps else s.straps
    boot := if Fld.boot ∈ F then t.boot else s.boot
    sk := if Fld.sk ∈ F then t.sk else s.sk
    pwr := if Fld.pwr ∈ F then t.pwr else s.pwr
    zin := if Fld.zin ∈ F then t.zin else s.zin
    fo := if Fld.fo ∈ F then t.fo else s.fo
    zbus := if Fld.zbus ∈ F then t.zbus else s.zbus
    rails := if Fld.rails ∈ F then t.rails else s.rails
    phases := if Fld.phases ∈ F then t.phases else s.phases
    gangs := if Fld.gangs ∈ F then t.gangs else s.gangs
    dies := if Fld.dies ∈ F then t.dies else s.dies
    items := if Fld.items ∈ F then t.items else s.items
    groups := if Fld.groups ∈ F then t.groups else s.groups
    regs := if Fld.regs ∈ F then t.regs else s.regs
    rsto := if Fld.rsto ∈ F then t.rsto else s.rsto
    pp := if Fld.pp ∈ F then t.pp else s.pp
    chg := if Fld.chg ∈ F then t.chg else s.chg
    gauge := if Fld.gauge ∈ F then t.gauge else s.gauge
    hk := if Fld.hk ∈ F then t.hk else s.hk
    therm := if Fld.therm ∈ F then t.therm else s.therm
    wd := if Fld.wd ∈ F then t.wd else s.wd
    ewd := if Fld.ewd ∈ F then t.ewd else s.ewd
    log := if Fld.log ∈ F then t.log else s.log
    faultLine := if Fld.faultLine ∈ F then t.faultLine else s.faultLine
    safeN := if Fld.safeN ∈ F then t.safeN else s.safeN
    fab := if Fld.fab ∈ F then t.fab else s.fab
    evc := if Fld.evc ∈ F then t.evc else s.evc
    tw := if Fld.tw ∈ F then t.tw else s.tw
    can := if Fld.can ∈ F then t.can else s.can
    roles := if Fld.roles ∈ F then t.roles else s.roles
    reports := if Fld.reports ∈ F then t.reports else s.reports
    xb := if Fld.xb ∈ F then t.xb else s.xb
    netLast := if Fld.netLast ∈ F then t.netLast else s.netLast
    dirSel := if Fld.dirSel ∈ F then t.dirSel else s.dirSel
    update := if Fld.update ∈ F then t.update else s.update
    skipCnt := if Fld.skipCnt ∈ F then t.skipCnt else s.skipCnt
    hintAt := if Fld.hintAt ∈ F then t.hintAt else s.hintAt
    ack := if Fld.ack ∈ F then t.ack else s.ack
    devTime := if Fld.devTime ∈ F then t.devTime else s.devTime
    aonAcc := if Fld.aonAcc ∈ F then t.aonAcc else s.aonAcc
    freeCtr := if Fld.freeCtr ∈ F then t.freeCtr else s.freeCtr
    pending := if Fld.pending ∈ F then t.pending else s.pending } := by
  have e : ∀ {α : Type} {c : Prop} [Decidable c] {a b : α}, (¬c → a = b) → a = if c then a else b := by
    intro α c _ a b h; by_cases hc : c
    · rw [if_pos hc]
    · rw [if_neg hc]; exact h hc
  cases t
  exact State.mk.injEq .. |>.mpr ⟨e (rest_part h), e (rest_settings h), e (rest_mram h), e (rest_nv h), e (rest_clk h), e (rest_hamper h), e (rest_links h), e (rest_straps h), e (rest_boot h), e (rest_sk h), e (rest_pwr h), e (rest_zin h), e (rest_fo h), e (rest_zbus h), e (rest_rails h), e (rest_phases h), e (rest_gangs h), e (rest_dies h), e (rest_items h), e (rest_groups h), e (rest_regs h), e (rest_rsto h), e (rest_pp h), e (rest_chg h), e (rest_gauge h), e (rest_hk h), e (rest_therm h), e (rest_wd h), e (rest_ewd h), e (rest_log h), e (rest_faultLine h), e (rest_safeN h), e (rest_fab h), e (rest_evc h), e (rest_tw h), e (rest_can h), e (rest_roles h), e (rest_reports h), e (rest_xb h), e (rest_netLast h), e (rest_dirSel h), e (rest_update h), e (rest_skipCnt h), e (rest_hintAt h), e (rest_ack h), e (rest_devTime h), e (rest_aonAcc h), e (rest_freeCtr h), e (rest_pending h)⟩

@[simp] theorem rest_with_part {F : List Fld} (h : Fld.part ∈ F) (s : State) (v) : rest F { s with part := v } = rest F s := by
  simp only [rest, h, if_true]
@[simp] theorem rest_with_settings {F : List Fld} (h : Fld.settings ∈ F) (s : State) (v) : rest F { s with settings := v } = rest F s := by
  simp only [rest, h, if_true]
@[simp] theorem rest_with_mram {F : List Fld} (h : Fld.mram ∈ F) (s : State) (v) : rest F { s with mram := v } = rest F s := by
  simp only [rest, h, if_true]
@[simp] theorem rest_with_nv {F : List Fld} (h : Fld.nv ∈ F) (s : State) (v) : rest F { s with nv := v } = rest F s := by
  simp only [rest, h, if_true]
@[simp] theorem rest_with_clk {F : List Fld} (h : Fld.clk ∈ F) (s : State) (v) : rest F { s with clk := v } = rest F s := by
  simp only [rest, h, if_true]
@[simp] theorem rest_with_hamper {F : List Fld} (h : Fld.hamper ∈ F) (s : State) (v) : rest F { s with hamper := v } = rest F s := by
  simp only [rest, h, if_true]
@[simp] theorem rest_with_links {F : List Fld} (h : Fld.links ∈ F) (s : State) (v) : rest F { s with links := v } = rest F s := by
  simp only [rest, h, if_true]
@[simp] theorem rest_with_straps {F : List Fld} (h : Fld.straps ∈ F) (s : State) (v) : rest F { s with straps := v } = rest F s := by
  simp only [rest, h, if_true]
@[simp] theorem rest_with_boot {F : List Fld} (h : Fld.boot ∈ F) (s : State) (v) : rest F { s with boot := v } = rest F s := by
  simp only [rest, h, if_true]
@[simp] theorem rest_with_sk {F : List Fld} (h : Fld.sk ∈ F) (s : State) (v) : rest F { s with sk := v } = rest F s := by
  simp only [rest, h, if_true]
@[simp] theorem rest_with_pwr {F : List Fld} (h : Fld.pwr ∈ F) (s : State) (v) : rest F { s with pwr := v } = rest F s := by
  simp only [rest, h, if_true]
@[simp] theorem rest_with_zin {F : List Fld} (h : Fld.zin ∈ F) (s : State) (v) : rest F { s with zin := v } = rest F s := by
  simp only [rest, h, if_true]
@[simp] theorem rest_with_fo {F : List Fld} (h : Fld.fo ∈ F) (s : State) (v) : rest F { s with fo := v } = rest F s := by
  simp only [rest, h, if_true]
@[simp] theorem rest_with_zbus {F : List Fld} (h : Fld.zbus ∈ F) (s : State) (v) : rest F { s with zbus := v } = rest F s := by
  simp only [rest, h, if_true]
@[simp] theorem rest_with_rails {F : List Fld} (h : Fld.rails ∈ F) (s : State) (v) : rest F { s with rails := v } = rest F s := by
  simp only [rest, h, if_true]
@[simp] theorem rest_with_phases {F : List Fld} (h : Fld.phases ∈ F) (s : State) (v) : rest F { s with phases := v } = rest F s := by
  simp only [rest, h, if_true]
@[simp] theorem rest_with_gangs {F : List Fld} (h : Fld.gangs ∈ F) (s : State) (v) : rest F { s with gangs := v } = rest F s := by
  simp only [rest, h, if_true]
@[simp] theorem rest_with_dies {F : List Fld} (h : Fld.dies ∈ F) (s : State) (v) : rest F { s with dies := v } = rest F s := by
  simp only [rest, h, if_true]
@[simp] theorem rest_with_items {F : List Fld} (h : Fld.items ∈ F) (s : State) (v) : rest F { s with items := v } = rest F s := by
  simp only [rest, h, if_true]
@[simp] theorem rest_with_groups {F : List Fld} (h : Fld.groups ∈ F) (s : State) (v) : rest F { s with groups := v } = rest F s := by
  simp only [rest, h, if_true]
@[simp] theorem rest_with_regs {F : List Fld} (h : Fld.regs ∈ F) (s : State) (v) : rest F { s with regs := v } = rest F s := by
  simp only [rest, h, if_true]
@[simp] theorem rest_with_rsto {F : List Fld} (h : Fld.rsto ∈ F) (s : State) (v) : rest F { s with rsto := v } = rest F s := by
  simp only [rest, h, if_true]
@[simp] theorem rest_with_pp {F : List Fld} (h : Fld.pp ∈ F) (s : State) (v) : rest F { s with pp := v } = rest F s := by
  simp only [rest, h, if_true]
@[simp] theorem rest_with_chg {F : List Fld} (h : Fld.chg ∈ F) (s : State) (v) : rest F { s with chg := v } = rest F s := by
  simp only [rest, h, if_true]
@[simp] theorem rest_with_gauge {F : List Fld} (h : Fld.gauge ∈ F) (s : State) (v) : rest F { s with gauge := v } = rest F s := by
  simp only [rest, h, if_true]
@[simp] theorem rest_with_hk {F : List Fld} (h : Fld.hk ∈ F) (s : State) (v) : rest F { s with hk := v } = rest F s := by
  simp only [rest, h, if_true]
@[simp] theorem rest_with_therm {F : List Fld} (h : Fld.therm ∈ F) (s : State) (v) : rest F { s with therm := v } = rest F s := by
  simp only [rest, h, if_true]
@[simp] theorem rest_with_wd {F : List Fld} (h : Fld.wd ∈ F) (s : State) (v) : rest F { s with wd := v } = rest F s := by
  simp only [rest, h, if_true]
@[simp] theorem rest_with_ewd {F : List Fld} (h : Fld.ewd ∈ F) (s : State) (v) : rest F { s with ewd := v } = rest F s := by
  simp only [rest, h, if_true]
@[simp] theorem rest_with_log {F : List Fld} (h : Fld.log ∈ F) (s : State) (v) : rest F { s with log := v } = rest F s := by
  simp only [rest, h, if_true]
@[simp] theorem rest_with_faultLine {F : List Fld} (h : Fld.faultLine ∈ F) (s : State) (v) : rest F { s with faultLine := v } = rest F s := by
  simp only [rest, h, if_true]
@[simp] theorem rest_with_safeN {F : List Fld} (h : Fld.safeN ∈ F) (s : State) (v) : rest F { s with safeN := v } = rest F s := by
  simp only [rest, h, if_true]
@[simp] theorem rest_with_fab {F : List Fld} (h : Fld.fab ∈ F) (s : State) (v) : rest F { s with fab := v } = rest F s := by
  simp only [rest, h, if_true]
@[simp] theorem rest_with_evc {F : List Fld} (h : Fld.evc ∈ F) (s : State) (v) : rest F { s with evc := v } = rest F s := by
  simp only [rest, h, if_true]
@[simp] theorem rest_with_tw {F : List Fld} (h : Fld.tw ∈ F) (s : State) (v) : rest F { s with tw := v } = rest F s := by
  simp only [rest, h, if_true]
@[simp] theorem rest_with_can {F : List Fld} (h : Fld.can ∈ F) (s : State) (v) : rest F { s with can := v } = rest F s := by
  simp only [rest, h, if_true]
@[simp] theorem rest_with_roles {F : List Fld} (h : Fld.roles ∈ F) (s : State) (v) : rest F { s with roles := v } = rest F s := by
  simp only [rest, h, if_true]
@[simp] theorem rest_with_reports {F : List Fld} (h : Fld.reports ∈ F) (s : State) (v) : rest F { s with reports := v } = rest F s := by
  simp only [rest, h, if_true]
@[simp] theorem rest_with_xb {F : List Fld} (h : Fld.xb ∈ F) (s : State) (v) : rest F { s with xb := v } = rest F s := by
  simp only [rest, h, if_true]
@[simp] theorem rest_with_netLast {F : List Fld} (h : Fld.netLast ∈ F) (s : State) (v) : rest F { s with netLast := v } = rest F s := by
  simp only [rest, h, if_true]
@[simp] theorem rest_with_dirSel {F : List Fld} (h : Fld.dirSel ∈ F) (s : State) (v) : rest F { s with dirSel := v } = rest F s := by
  simp only [rest, h, if_true]
@[simp] theorem rest_with_update {F : List Fld} (h : Fld.update ∈ F) (s : State) (v) : rest F { s with update := v } = rest F s := by
  simp only [rest, h, if_true]
@[simp] theorem rest_with_skipCnt {F : List Fld} (h : Fld.skipCnt ∈ F) (s : State) (v) : rest F { s with skipCnt := v } = rest F s := by
  simp only [rest, h, if_true]
@[simp] theorem rest_with_hintAt {F : List Fld} (h : Fld.hintAt ∈ F) (s : State) (v) : rest F { s with hintAt := v } = rest F s := by
  simp only [rest, h, if_true]
@[simp] theorem rest_with_ack {F : List Fld} (h : Fld.ack ∈ F) (s : State) (v) : rest F { s with ack := v } = rest F s := by
  simp only [rest, h, if_true]
@[simp] theorem rest_with_devTime {F : List Fld} (h : Fld.devTime ∈ F) (s : State) (v) : rest F { s with devTime := v } = rest F s := by
  simp only [rest, h, if_true]
@[simp] theorem rest_with_aonAcc {F : List Fld} (h : Fld.aonAcc ∈ F) (s : State) (v) : rest F { s with aonAcc := v } = rest F s := by
  simp only [rest, h, if_true]
@[simp] theorem rest_with_freeCtr {F : List Fld} (h : Fld.freeCtr ∈ F) (s : State) (v) : rest F { s with freeCtr := v } = rest F s := by
  simp only [rest, h, if_true]
@[simp] theorem rest_with_pending {F : List Fld} (h : Fld.pending ∈ F) (s : State) (v) : rest F { s with pending := v } = rest F s := by
  simp only [rest, h, if_true]

@[simp] theorem store_rest {F : List Fld} (h : Fld.settings ∈ F) (s : State) (k v : Nat) : rest F (s.store k v) = rest F s :=
  rest_with_settings h s _

@[simp] theorem rest_ite {F : List Fld} (c : Prop) [Decidable c] (a b : State) : rest F (if c then a else b) = if c then rest F a else rest F b := by
  split <;> rfl
@[simp] theorem rest_foldl {F : List Fld} {α : Type} (g : State → α → State) (h : ∀ a x, rest F (g a x) = rest F a) (l : List α) (s : State) :
    rest F (l.foldl g s) = rest F s := by
  induction l generalizing s with
  | nil => rfl
  | cons x l ih => simp [ih, h]
theorem rest_foldl_fst {F : List Fld} {α β : Type} (g : State × β → α → State × β) (h : ∀ a x, rest F (g a x).1 = rest F a.1) (l : List α)
    (s : State × β) : rest F (l.foldl g s).1 = rest F s.1 := by
  induction l generalizing s with
  | nil => rfl
  | cons x l ih => simp [ih, h]

/-- A meaning that answers a next state leaves what is outside the fields of `F`. -/
def Leaves (F : List Fld) (r : Res) (s : State) : Prop := match r with | .next t => rest F t = rest F s | .fault _ => True | .refused _ => True
@[simp] theorem leaves_next (F : List Fld) (t s : State) : Leaves F (.next t) s = (rest F t = rest F s) := rfl
@[simp] theorem leaves_fault (F : List Fld) (f : Fault) (s : State) : Leaves F (.fault f) s = True := rfl
@[simp] theorem leaves_refused (F : List Fld) (f : Refusal) (s : State) : Leaves F (.refused f) s = True := rfl
@[simp] theorem leaves_ite (F : List Fld) (c : Prop) [Decidable c] (a b : Res) (s : State) : Leaves F (if c then a else b) s = if c then Leaves F a s else Leaves F b s := by
  split <;> rfl
end Sys2Proof.Laws
end

