-- ==== Sys2Proof/Laws/FrameShared.lean ====
section
/-! SUPPORT. Frames of the shared moves: what each operation can change. -/

namespace Sys2Proof.Laws

open Sys2Proof.Machine

@[simp] theorem evRefresh_rest {F : List Fld} (h_evc : Fld.evc ∈ F) (h_tw : Fld.tw ∈ F) (s : State) :
    rest F (evRefresh s) = rest F s := by
  unfold evRefresh; dsimp only; (repeat' first | split | (rw [rest_foldl]) | intro _ _) <;> first | (simp [*]; done) | (simp [rest, *]; done)

@[simp] theorem eventEdge_rest {F : List Fld} (h_evc : Fld.evc ∈ F) (h_tw : Fld.tw ∈ F) (slot : Nat) (s : State) :
    rest F (eventEdge slot s) = rest F s := by
  unfold eventEdge; (repeat' split) <;> simp [*]

@[simp] theorem eventLevel_rest {F : List Fld} (h_evc : Fld.evc ∈ F) (h_tw : Fld.tw ∈ F) (slot : Nat) (holds : Bool) (s : State) :
    rest F (eventLevel slot holds s) = rest F s := by
  unfold eventLevel; simp [*]

@[simp] theorem logRing_rest {F : List Fld} (h_nv : Fld.nv ∈ F) (h_log : Fld.log ∈ F) (f : HeldFault) (s : State) :
    rest F (logRing f s) = rest F s := by
  unfold logRing; (repeat' split) <;> simp [rest, *]

@[simp] theorem logEntry_rest {F : List Fld} (h_nv : Fld.nv ∈ F) (h_log : Fld.log ∈ F) (h_evc : Fld.evc ∈ F) (h_tw : Fld.tw ∈ F) (f : HeldFault) (s : State) :
    rest F (logEntry f s) = rest F s := by
  unfold logEntry; simp [*]

@[simp] theorem logFault_rest {F : List Fld} (h_nv : Fld.nv ∈ F) (h_log : Fld.log ∈ F) (h_evc : Fld.evc ∈ F) (h_tw : Fld.tw ∈ F) (code : FaultCode) (die src detail : Nat) (s : State) :
    rest F (logFault code die src detail s) = rest F s := by
  unfold logFault; simp [*]

@[simp] theorem setAck_rest {F : List Fld} (h_ack : Fld.ack ∈ F) (a : Ack) (s : State) :
    rest F (setAck a s) = rest F s := by
  unfold setAck; simp [*]

@[simp] theorem useFree_rest {F : List Fld} (h_freeCtr : Fld.freeCtr ∈ F) (s : State) :
    rest F (useFree s) = rest F s := by
  unfold useFree; simp [*]

@[simp] theorem directWrite_rest {F : List Fld} (h_ack : Fld.ack ∈ F) (p : Port) (key : Nat) (s : State) (f : State → State × Ack) (hf : ∀ s, rest F (f s).1 = rest F s) :
    rest F (directWrite p key s f) = rest F s := by
  unfold directWrite; (repeat' split) <;> simp [*]

@[simp] theorem directRead_rest {F : List Fld} (h_ack : Fld.ack ∈ F) (p : Port) (key : Nat) (s : State) (f : State → State × Nat) (hf : ∀ s, rest F (f s).1 = rest F s) :
    rest F (directRead p key s f) = rest F s := by
  unfold directRead; (repeat' split) <;> simp [*]

@[simp] theorem wrSet_rest {F : List Fld} (h_tw : Fld.tw ∈ F) (n : Fin 2) (w : WrResult) (ofs : Nat) (s : State) :
    rest F (wrSet n w ofs s) = rest F s := by
  unfold wrSet; simp [*]

@[simp] theorem ptrPast_rest {F : List Fld} (h_tw : Fld.tw ∈ F) (n : Fin 2) (k : Nat) (s : State) :
    rest F (ptrPast n k s) = rest F s := by
  unfold ptrPast; simp [*]

@[simp] theorem modLink_rest {F : List Fld} (h_links : Fld.links ∈ F) (k : Fin 7) (f : LinkState → LinkState) (s : State) :
    rest F (modLink k f s) = rest F s := by
  unfold modLink; simp [*]

@[simp] theorem modEnd_rest {F : List Fld} (h_links : Fld.links ∈ F) (k : Fin 7) (e : LinkEndSel) (f : LinkEnd → LinkEnd) (s : State) :
    rest F (modEnd k e f s) = rest F s := by
  unfold modEnd; (repeat' split) <;> simp [*]

@[simp] theorem crossLink_rest {F : List Fld} (h_links : Fld.links ∈ F) (k : Fin 7) (recv : LinkEndSel) (f : LinkFrame) (s : State) :
    rest F (crossLink k recv f s) = rest F s := by
  unfold crossLink; simp [*]

@[simp] theorem eventIn_rest {F : List Fld} (h_evc : Fld.evc ∈ F) (h_tw : Fld.tw ∈ F) (k : Fin 7) (source : Nat) (s : State) :
    rest F (eventIn k source s) = rest F s := by
  unfold eventIn; simp [*]

@[simp] theorem helmTakes_rest {F : List Fld} (h_links : Fld.links ∈ F) (h_evc : Fld.evc ∈ F) (h_tw : Fld.tw ∈ F) (k : Fin 7) (f : LinkFrame) (s : State) :
    rest F (helmTakes k f s) = rest F s := by
  unfold helmTakes; (repeat' split) <;> simp [*]

@[simp] theorem railPump_rest {F : List Fld} (h_links : Fld.links ∈ F) (h_evc : Fld.evc ∈ F) (h_tw : Fld.tw ∈ F) (k : Fin 7) (s : State) :
    rest F (railPump k s) = rest F s := by
  unfold railPump; simp [*]

@[simp] theorem railSend_rest {F : List Fld} (h_links : Fld.links ∈ F) (h_evc : Fld.evc ∈ F) (h_tw : Fld.tw ∈ F) (k : Fin 7) (tag : Nat) (p : FramePayload) (s : State) :
    rest F (railSend k tag p s) = rest F s := by
  unfold railSend; simp [*]

@[simp] theorem dieEvent_rest {F : List Fld} (h_links : Fld.links ∈ F) (h_evc : Fld.evc ∈ F) (h_tw : Fld.tw ∈ F) (k : Fin 7) (source : Nat) (s : State) :
    rest F (dieEvent k source s) = rest F s := by
  unfold dieEvent; simp [*]

@[simp] theorem modZin_rest {F : List Fld} (h_zin : Fld.zin ∈ F) (n : Fin 4) (f : ZinChan → ZinChan) (s : State) :
    rest F (modZin n f s) = rest F s := by
  unfold modZin; simp [*]

@[simp] theorem modFo_rest {F : List Fld} (h_fo : Fld.fo ∈ F) (n : Fin 8) (f : FoChan → FoChan) (s : State) :
    rest F (modFo n f s) = rest F s := by
  unfold modFo; simp [*]

@[simp] theorem zinTo_rest {F : List Fld} (h_zin : Fld.zin ∈ F) (h_evc : Fld.evc ∈ F) (h_tw : Fld.tw ∈ F) (n : Fin 4) (ph : ZinPhase) (s : State) :
    rest F (zinTo n ph s) = rest F s := by
  unfold zinTo; simp [*]

@[simp] theorem foTo_rest {F : List Fld} (h_fo : Fld.fo ∈ F) (h_evc : Fld.evc ∈ F) (h_tw : Fld.tw ∈ F) (n : Fin 8) (ph : FoPhase) (s : State) :
    rest F (foTo n ph s) = rest F s := by
  unfold foTo; simp [*]

@[simp] theorem zinSettle_rest {F : List Fld} (h_zin : Fld.zin ∈ F) (h_evc : Fld.evc ∈ F) (h_tw : Fld.tw ∈ F) (n : Fin 4) (s : State) :
    rest F (zinSettle n s) = rest F s := by
  unfold zinSettle; simp [*]

@[simp] theorem zinTurnOn_rest {F : List Fld} (h_zin : Fld.zin ∈ F) (h_evc : Fld.evc ∈ F) (h_tw : Fld.tw ∈ F) (n : Fin 4) (nearBus : Bool) (s : State) :
    rest F (zinTurnOn n nearBus s) = rest F s := by
  unfold zinTurnOn; simp [*]

@[simp] theorem foQualified_rest {F : List Fld} (h_fo : Fld.fo ∈ F) (h_evc : Fld.evc ∈ F) (h_tw : Fld.tw ∈ F) (n : Fin 8) (s : State) :
    rest F (foQualified n s) = rest F s := by
  unfold foQualified; simp [*]

@[simp] theorem foEntry_rest {F : List Fld} (h_fo : Fld.fo ∈ F) (h_evc : Fld.evc ∈ F) (h_tw : Fld.tw ∈ F) (n : Fin 8) (s : State) :
    rest F (foEntry n s) = rest F s := by
  unfold foEntry; simp [*]

@[simp] theorem foQualCond_rest {F : List Fld} (h_fo : Fld.fo ∈ F) (n : Fin 8) (s : State) :
    rest F (foQualCond n s) = rest F s := by
  unfold foQualCond; simp [*]

@[simp] theorem foCommandOn_rest {F : List Fld} (h_fo : Fld.fo ∈ F) (h_evc : Fld.evc ∈ F) (h_tw : Fld.tw ∈ F) (n : Fin 8) (s : State) :
    rest F (foCommandOn n s) = rest F s := by
  unfold foCommandOn; (repeat' split) <;> simp [*]

@[simp] theorem foCommandOff_rest {F : List Fld} (h_fo : Fld.fo ∈ F) (h_evc : Fld.evc ∈ F) (h_tw : Fld.tw ∈ F) (n : Fin 8) (s : State) :
    rest F (foCommandOff n s) = rest F s := by
  unfold foCommandOff; (repeat' split) <;> simp [*]

@[simp] theorem foForceOff_rest {F : List Fld} (h_fo : Fld.fo ∈ F) (h_evc : Fld.evc ∈ F) (h_tw : Fld.tw ∈ F) (n : Fin 8) (s : State) :
    rest F (foForceOff n s) = rest F s := by
  unfold foForceOff; (repeat' split) <;> simp [*]

@[simp] theorem foReachOff_rest {F : List Fld} (h_fo : Fld.fo ∈ F) (h_evc : Fld.evc ∈ F) (h_tw : Fld.tw ∈ F) (n : Fin 8) (s : State) :
    rest F (foReachOff n s) = rest F s := by
  unfold foReachOff; simp [*]

@[simp] theorem zinRetryDone_rest {F : List Fld} (h_zin : Fld.zin ∈ F) (h_evc : Fld.evc ∈ F) (h_tw : Fld.tw ∈ F) (n : Fin 4) (nearBus : Bool) (s : State) :
    rest F (zinRetryDone n nearBus s) = rest F s := by
  unfold zinRetryDone; simp [*]

@[simp] theorem foRetryDone_rest {F : List Fld} (h_fo : Fld.fo ∈ F) (h_evc : Fld.evc ∈ F) (h_tw : Fld.tw ∈ F) (n : Fin 8) (s : State) :
    rest F (foRetryDone n s) = rest F s := by
  unfold foRetryDone; simp [*]

@[simp] theorem logZinTrip_rest {F : List Fld} (h_nv : Fld.nv ∈ F) (h_zin : Fld.zin ∈ F) (h_log : Fld.log ∈ F) (h_evc : Fld.evc ∈ F) (h_tw : Fld.tw ∈ F) (n : Fin 4) (s : State) :
    rest F (logZinTrip n s) = rest F s := by
  unfold logZinTrip; simp [*]

@[simp] theorem logFoTrip_rest {F : List Fld} (h_nv : Fld.nv ∈ F) (h_fo : Fld.fo ∈ F) (h_log : Fld.log ∈ F) (h_evc : Fld.evc ∈ F) (h_tw : Fld.tw ∈ F) (n : Fin 8) (s : State) :
    rest F (logFoTrip n s) = rest F s := by
  unfold logFoTrip; simp [*]

@[simp] theorem zinTripsLogged_rest {F : List Fld} (h_nv : Fld.nv ∈ F) (h_zin : Fld.zin ∈ F) (h_log : Fld.log ∈ F) (h_evc : Fld.evc ∈ F) (h_tw : Fld.tw ∈ F) (n : Fin 4) (s : State) :
    rest F (zinTripsLogged n s) = rest F s := by
  unfold zinTripsLogged; simp [*]

@[simp] theorem foTripsLogged_rest {F : List Fld} (h_nv : Fld.nv ∈ F) (h_fo : Fld.fo ∈ F) (h_log : Fld.log ∈ F) (h_evc : Fld.evc ∈ F) (h_tw : Fld.tw ∈ F) (n : Fin 8) (s : State) :
    rest F (foTripsLogged n s) = rest F s := by
  unfold foTripsLogged; simp [*]

@[simp] theorem parkTripsLogged_rest {F : List Fld} (h_nv : Fld.nv ∈ F) (h_zin : Fld.zin ∈ F) (h_fo : Fld.fo ∈ F) (h_log : Fld.log ∈ F) (h_evc : Fld.evc ∈ F) (h_tw : Fld.tw ∈ F) (s : State) :
    rest F (parkTripsLogged s) = rest F s := by
  unfold parkTripsLogged; simp [*]

@[simp] theorem zinTrip_rest {F : List Fld} (h_nv : Fld.nv ∈ F) (h_zin : Fld.zin ∈ F) (h_log : Fld.log ∈ F) (h_evc : Fld.evc ∈ F) (h_tw : Fld.tw ∈ F) (n : Fin 4) (b : Nat) (s : State) :
    rest F (zinTrip n b s) = rest F s := by
  unfold zinTrip; simp [*]

@[simp] theorem foTrip_rest {F : List Fld} (h_nv : Fld.nv ∈ F) (h_fo : Fld.fo ∈ F) (h_log : Fld.log ∈ F) (h_evc : Fld.evc ∈ F) (h_tw : Fld.tw ∈ F) (n : Fin 8) (b : Nat) (s : State) :
    rest F (foTrip n b s) = rest F s := by
  unfold foTrip; simp [*]

@[simp] theorem zinClearOp_rest {F : List Fld} (h_zin : Fld.zin ∈ F) (h_evc : Fld.evc ∈ F) (h_tw : Fld.tw ∈ F) (n : Fin 4) (nearBus : Bool) (s : State) :
    rest F (zinClearOp n nearBus s).1 = rest F s := by
  unfold zinClearOp; (repeat' split) <;> simp [*]

@[simp] theorem foClearOp_rest {F : List Fld} (h_fo : Fld.fo ∈ F) (h_evc : Fld.evc ∈ F) (h_tw : Fld.tw ∈ F) (n : Fin 8) (s : State) :
    rest F (foClearOp n s).1 = rest F s := by
  unfold foClearOp; (repeat' split) <;> simp [*]

@[simp] theorem modNv_rest {F : List Fld} (h_nv : Fld.nv ∈ F) (f : StoreState → StoreState) (s : State) :
    rest F (modNv f s) = rest F s := by
  unfold modNv; simp [*]

@[simp] theorem modSlot_rest {F : List Fld} (h_mram : Fld.mram ∈ F) (k : Fin 2) (f : GaugeSlot → GaugeSlot) (s : State) :
    rest F (modSlot k f s) = rest F s := by
  unfold modSlot; simp [*]

@[simp] theorem mramFresh_rest {F : List Fld} (h_mram : Fld.mram ∈ F) (base n : Nat) (s : State) :
    rest F (mramFresh base n s) = rest F s := by
  unfold mramFresh; simp [*]

@[simp] theorem startWriteBack_rest {F : List Fld} (h_mram : Fld.mram ∈ F) (h_nv : Fld.nv ∈ F) (h_freeCtr : Fld.freeCtr ∈ F) (s : State) :
    rest F (startWriteBack s) = rest F s := by
  unfold startWriteBack; simp [*]

@[simp] theorem requestWriteBack_rest {F : List Fld} (h_mram : Fld.mram ∈ F) (h_nv : Fld.nv ∈ F) (h_freeCtr : Fld.freeCtr ∈ F) (s : State) :
    rest F (requestWriteBack s) = rest F s := by
  unfold requestWriteBack; (repeat' split) <;> simp [*]

@[simp] theorem areaFull_rest {F : List Fld} (h_mram : Fld.mram ∈ F) (h_nv : Fld.nv ∈ F) (h_freeCtr : Fld.freeCtr ∈ F) (s : State) :
    rest F (areaFull s) = rest F s := by
  unfold areaFull; (repeat' split) <;> simp [*]

@[simp] theorem putCtrRec_rest {F : List Fld} (h_mram : Fld.mram ∈ F) (h_nv : Fld.nv ∈ F) (h_freeCtr : Fld.freeCtr ∈ F) (r : CtrRec) (s : State) :
    rest F (putCtrRec r s) = rest F s := by
  unfold putCtrRec; (repeat' split) <;> simp [*]

@[simp] theorem ctrAppend_rest {F : List Fld} (h_mram : Fld.mram ∈ F) (h_nv : Fld.nv ∈ F) (h_freeCtr : Fld.freeCtr ∈ F) (id : Fin 12) (value : Nat) (s : State) :
    rest F (ctrAppend id value s) = rest F s := by
  unfold ctrAppend; simp [*]

@[simp] theorem dropWrites_rest {F : List Fld} (h_nv : Fld.nv ∈ F) (s : State) :
    rest F (dropWrites s) = rest F s := by
  unfold dropWrites; simp [*]

@[simp] theorem abandonWrites_rest {F : List Fld} (h_mram : Fld.mram ∈ F) (h_nv : Fld.nv ∈ F) (h_freeCtr : Fld.freeCtr ∈ F) (s : State) :
    rest F (abandonWrites s) = rest F s := by
  unfold abandonWrites; simp [*]

@[simp] theorem journalPut_rest {F : List Fld} (h_mram : Fld.mram ∈ F) (r : LogRec) (s : State) :
    rest F (journalPut r s) = rest F s := by
  unfold journalPut; simp [*]

@[simp] theorem tearJournal_rest {F : List Fld} (h_mram : Fld.mram ∈ F) (s : State) :
    rest F (tearJournal s) = rest F s := by
  unfold tearJournal; simp [*]

@[simp] theorem journalOne_rest {F : List Fld} (h_mram : Fld.mram ∈ F) (h_log : Fld.log ∈ F) (s : State) :
    rest F (journalOne s) = rest F s := by
  unfold journalOne; (repeat' split) <;> simp [*]

@[simp] theorem journalFlush_rest {F : List Fld} (h_mram : Fld.mram ∈ F) (h_log : Fld.log ∈ F) (s : State) :
    rest F (journalFlush s) = rest F s := by
  unfold journalFlush; simp [*]

@[simp] theorem secureWipe_rest {F : List Fld} (h_nv : Fld.nv ∈ F) (h_hamper : Fld.hamper ∈ F) (h_update : Fld.update ∈ F) (byTamper : Bool) (s : State) :
    rest F (secureWipe byTamper s) = rest F s := by
  unfold secureWipe; dsimp only; (repeat' first | split | (rw [rest_foldl]) | intro _ _) <;> (try simp_all) <;> (repeat' first | split | (rw [rest_foldl]) | intro _ _) <;> first | (simp [*]; done) | (simp [rest, *]; done)

@[simp] theorem lockHomeChart_rest {F : List Fld} (h_mram : Fld.mram ∈ F) (s : State) :
    rest F (lockHomeChart s) = rest F s := by
  unfold lockHomeChart; simp [*]

@[simp] theorem modRail_rest {F : List Fld} (h_rails : Fld.rails ∈ F) (r : Fin 28) (f : RailState → RailState) (s : State) :
    rest F (modRail r f s) = rest F s := by
  unfold modRail; simp [*]

@[simp] theorem modPhase_rest {F : List Fld} (h_phases : Fld.phases ∈ F) (ph : Fin 56) (f : PhaseState → PhaseState) (s : State) :
    rest F (modPhase ph f s) = rest F s := by
  unfold modPhase; simp [*]

@[simp] theorem modGang_rest {F : List Fld} (h_gangs : Fld.gangs ∈ F) (g : Fin 4) (f : GangState → GangState) (s : State) :
    rest F (modGang g f s) = rest F s := by
  unfold modGang; simp [*]

@[simp] theorem modDie_rest {F : List Fld} (h_dies : Fld.dies ∈ F) (k : Fin 7) (f : DieState → DieState) (s : State) :
    rest F (modDie k f s) = rest F s := by
  unfold modDie; simp [*]

@[simp] theorem modLoop_rest {F : List Fld} (h_rails : Fld.rails ∈ F) (r : Fin 28) (f : LoopState → LoopState) (s : State) :
    rest F (modLoop r f s) = rest F s := by
  unfold modLoop; simp [*]

@[simp] theorem modDyn_rest {F : List Fld} (h_rails : Fld.rails ∈ F) (r : Fin 28) (f : DynState → DynState) (s : State) :
    rest F (modDyn r f s) = rest F s := by
  unfold modDyn; simp [*]

@[simp] theorem modFc_rest {F : List Fld} (h_rails : Fld.rails ∈ F) (r : Fin 28) (f : FcTrim → FcTrim) (s : State) :
    rest F (modFc r f s) = rest F s := by
  unfold modFc; simp [*]

@[simp] theorem modProt_rest {F : List Fld} (h_rails : Fld.rails ∈ F) (r : Fin 28) (f : ProtState → ProtState) (s : State) :
    rest F (modProt r f s) = rest F s := by
  unfold modProt; simp [*]

@[simp] theorem epochWith_rest {F : List Fld} (h_rails : Fld.rails ∈ F) (r : Fin 28) (st : Nat) (en : Bool) (s : State) :
    rest F (epochWith r st en s) = rest F s := by
  unfold epochWith; simp [*]

@[simp] theorem epoch_rest {F : List Fld} (h_rails : Fld.rails ∈ F) (r : Fin 28) (s : State) :
    rest F (epoch r s) = rest F s := by
  unfold epoch; (repeat' split) <;> simp [*]

@[simp] theorem followersToZero_rest {F : List Fld} (h_dies : Fld.dies ∈ F) (r : Fin 28) (s : State) :
    rest F (followersToZero r s) = rest F s := by
  unfold followersToZero; (repeat' split) <;> simp [*]

@[simp] theorem dropGangChange_rest {F : List Fld} (h_gangs : Fld.gangs ∈ F) (h_dies : Fld.dies ∈ F) (g : Fin 4) (s : State) :
    rest F (dropGangChange g s) = rest F s := by
  unfold dropGangChange; simp [*]

@[simp] theorem sendLane_rest {F : List Fld} (h_dies : Fld.dies ∈ F) (r : Fin 28) (w : Nat) (s : State) :
    rest F (sendLane r w s) = rest F s := by
  unfold sendLane; (repeat' split) <;> simp [*]

@[simp] theorem loopSample_rest {F : List Fld} (h_rails : Fld.rails ∈ F) (h_dies : Fld.dies ∈ F) (r : Fin 28) (v : Nat) (s : State) :
    rest F (loopSample r v s) = rest F s := by
  unfold loopSample; simp [*]

@[simp] theorem trimStart_rest {F : List Fld} (h_rails : Fld.rails ∈ F) (r : Fin 28) (s : State) :
    rest F (trimStart r s) = rest F s := by
  unfold trimStart; simp [*]

@[simp] theorem slewReached_rest {F : List Fld} (h_rails : Fld.rails ∈ F) (r : Fin 28) (s : State) :
    rest F (slewReached r s) = rest F s := by
  unfold slewReached; simp [*]

@[simp] theorem slewSample_rest {F : List Fld} (h_rails : Fld.rails ∈ F) (r : Fin 28) (s : State) :
    rest F (slewSample r s) = rest F s := by
  unfold slewSample; simp [*]

@[simp] theorem moveTo_rest {F : List Fld} (h_rails : Fld.rails ∈ F) (r : Fin 28) (mv target inc src : Nat) (s : State) :
    rest F (moveTo r mv target inc src s) = rest F s := by
  unfold moveTo; simp [*]

@[simp] theorem applyTarget_rest {F : List Fld} (h_rails : Fld.rails ∈ F) (r : Fin 28) (mv slew src : Nat) (s : State) :
    rest F (applyTarget r mv slew src s) = rest F s := by
  unfold applyTarget; simp [*]

@[simp] theorem railEvent_rest {F : List Fld} (h_links : Fld.links ∈ F) (h_evc : Fld.evc ∈ F) (h_tw : Fld.tw ∈ F) (r : Fin 28) (s : State) :
    rest F (railEvent r s) = rest F s := by
  unfold railEvent; simp [*]

@[simp] theorem pgRefresh_rest {F : List Fld} (h_links : Fld.links ∈ F) (h_rails : Fld.rails ∈ F) (h_evc : Fld.evc ∈ F) (h_tw : Fld.tw ∈ F) (r : Fin 28) (s : State) :
    rest F (pgRefresh r s) = rest F s := by
  unfold pgRefresh; simp [*]

@[simp] theorem pgRefreshAll_rest {F : List Fld} (h_links : Fld.links ∈ F) (h_rails : Fld.rails ∈ F) (h_evc : Fld.evc ∈ F) (h_tw : Fld.tw ∈ F) (s : State) :
    rest F (pgRefreshAll s) = rest F s := by
  unfold pgRefreshAll; simp [*]

@[simp] theorem stopTimers_rest {F : List Fld} (h_rails : Fld.rails ∈ F) (r : Fin 28) (s : State) :
    rest F (stopTimers r s) = rest F s := by
  unfold stopTimers; simp [*]

@[simp] theorem latchFault_rest {F : List Fld} (h_links : Fld.links ∈ F) (h_rails : Fld.rails ∈ F) (h_evc : Fld.evc ∈ F) (h_tw : Fld.tw ∈ F) (r : Fin 28) (b : Nat) (s : State) :
    rest F (latchFault r b s) = rest F s := by
  unfold latchFault; simp [*]

@[simp] theorem vdrAtEnable_rest {F : List Fld} (h_nv : Fld.nv ∈ F) (h_links : Fld.links ∈ F) (h_rails : Fld.rails ∈ F) (h_log : Fld.log ∈ F) (h_evc : Fld.evc ∈ F) (h_tw : Fld.tw ∈ F) (r : Fin 28) (s : State) :
    rest F (vdrAtEnable r s) = rest F s := by
  unfold vdrAtEnable; (repeat' split) <;> simp [*]

@[simp] theorem railEnable_rest {F : List Fld} (h_nv : Fld.nv ∈ F) (h_links : Fld.links ∈ F) (h_rails : Fld.rails ∈ F) (h_phases : Fld.phases ∈ F) (h_dies : Fld.dies ∈ F) (h_log : Fld.log ∈ F) (h_evc : Fld.evc ∈ F) (h_tw : Fld.tw ∈ F) (r : Fin 28) (s : State) :
    rest F (railEnable r s) = rest F s := by
  unfold railEnable; simp [*]

@[simp] theorem railOffDone_rest {F : List Fld} (h_nv : Fld.nv ∈ F) (h_links : Fld.links ∈ F) (h_rails : Fld.rails ∈ F) (h_phases : Fld.phases ∈ F) (h_dies : Fld.dies ∈ F) (h_log : Fld.log ∈ F) (h_evc : Fld.evc ∈ F) (h_tw : Fld.tw ∈ F) (r : Fin 28) (s : State) :
    rest F (railOffDone r s) = rest F s := by
  unfold railOffDone; simp [*]

@[simp] theorem railDisable_rest {F : List Fld} (h_nv : Fld.nv ∈ F) (h_links : Fld.links ∈ F) (h_rails : Fld.rails ∈ F) (h_phases : Fld.phases ∈ F) (h_dies : Fld.dies ∈ F) (h_log : Fld.log ∈ F) (h_evc : Fld.evc ∈ F) (h_tw : Fld.tw ∈ F) (r : Fin 28) (atOnce : Bool) (s : State) :
    rest F (railDisable r atOnce s) = rest F s := by
  unfold railDisable; simp [*]

@[simp] theorem phaseBack_rest {F : List Fld} (h_phases : Fld.phases ∈ F) (ph : Fin 56) (s : State) :
    rest F (phaseBack ph s) = rest F s := by
  unfold phaseBack; simp [*]

@[simp] theorem readdEvent_rest {F : List Fld} (h_rails : Fld.rails ∈ F) (h_phases : Fld.phases ∈ F) (r : Fin 28) (stepAlarm : Bool) (s : State) :
    rest F (readdEvent r stepAlarm s) = rest F s := by
  unfold readdEvent; simp [*]

@[simp] theorem hintAccept_rest {F : List Fld} (h_rails : Fld.rails ∈ F) (h_phases : Fld.phases ∈ F) (r : Fin 28) (ifc tfc : Nat) (s : State) :
    rest F (hintAccept r ifc tfc s) = rest F s := by
  unfold hintAccept; simp [*]

@[simp] theorem clearFaultLatch_rest {F : List Fld} (h_links : Fld.links ∈ F) (h_rails : Fld.rails ∈ F) (h_evc : Fld.evc ∈ F) (h_tw : Fld.tw ∈ F) (r : Fin 28) (s : State) :
    rest F (clearFaultLatch r s) = rest F s := by
  unfold clearFaultLatch; simp [*]

@[simp] theorem ovLatchSet_rest {F : List Fld} (h_nv : Fld.nv ∈ F) (h_links : Fld.links ∈ F) (h_rails : Fld.rails ∈ F) (h_phases : Fld.phases ∈ F) (h_dies : Fld.dies ∈ F) (h_log : Fld.log ∈ F) (h_evc : Fld.evc ∈ F) (h_tw : Fld.tw ∈ F) (r : Fin 28) (b : Nat) (s : State) :
    rest F (ovLatchSet r b s) = rest F s := by
  unfold ovLatchSet; simp [*]

@[simp] theorem uvStart_rest {F : List Fld} (h_rails : Fld.rails ∈ F) (r : Fin 28) (s : State) :
    rest F (uvStart r s) = rest F s := by
  unfold uvStart; simp [*]

@[simp] theorem ocStart_rest {F : List Fld} (h_rails : Fld.rails ∈ F) (r : Fin 28) (s : State) :
    rest F (ocStart r s) = rest F s := by
  unfold ocStart; simp [*]

@[simp] theorem skLeave_rest {F : List Fld} (h_nv : Fld.nv ∈ F) (h_links : Fld.links ∈ F) (h_sk : Fld.sk ∈ F) (h_rails : Fld.rails ∈ F) (h_phases : Fld.phases ∈ F) (h_dies : Fld.dies ∈ F) (h_log : Fld.log ∈ F) (h_evc : Fld.evc ∈ F) (h_tw : Fld.tw ∈ F) (r : Fin 28) (why : Nat) (logged : Bool) (s : State) :
    rest F (skLeave r why logged s) = rest F s := by
  unfold skLeave; simp [*]

@[simp] theorem applyRailCmd_rest {F : List Fld} (h_nv : Fld.nv ∈ F) (h_links : Fld.links ∈ F) (h_rails : Fld.rails ∈ F) (h_phases : Fld.phases ∈ F) (h_dies : Fld.dies ∈ F) (h_log : Fld.log ∈ F) (h_evc : Fld.evc ∈ F) (h_tw : Fld.tw ∈ F) (c : RailCmd) (s : State) :
    rest F (applyRailCmd c s) = rest F s := by
  unfold applyRailCmd; (repeat' split) <;> simp [*]

@[simp] theorem objAnswer_rest {F : List Fld} (h_links : Fld.links ∈ F) (h_evc : Fld.evc ∈ F) (h_tw : Fld.tw ∈ F) (h_freeCtr : Fld.freeCtr ∈ F) (k : Fin 7) (tag o b : Nat) (s : State) :
    rest F (objAnswer k tag o b s) = rest F s := by
  unfold objAnswer; simp [*]

@[simp] theorem railTakes_rest {F : List Fld} (h_nv : Fld.nv ∈ F) (h_links : Fld.links ∈ F) (h_rails : Fld.rails ∈ F) (h_phases : Fld.phases ∈ F) (h_dies : Fld.dies ∈ F) (h_log : Fld.log ∈ F) (h_evc : Fld.evc ∈ F) (h_tw : Fld.tw ∈ F) (h_freeCtr : Fld.freeCtr ∈ F) (k : Fin 7) (f : LinkFrame) (s : State) :
    rest F (railTakes k f s) = rest F s := by
  unfold railTakes; (repeat' split) <;> simp [*]

@[simp] theorem helmPump_rest {F : List Fld} (h_nv : Fld.nv ∈ F) (h_links : Fld.links ∈ F) (h_rails : Fld.rails ∈ F) (h_phases : Fld.phases ∈ F) (h_dies : Fld.dies ∈ F) (h_log : Fld.log ∈ F) (h_evc : Fld.evc ∈ F) (h_tw : Fld.tw ∈ F) (h_freeCtr : Fld.freeCtr ∈ F) (k : Fin 7) (s : State) :
    rest F (helmPump k s) = rest F s := by
  unfold helmPump; simp [*]

@[simp] theorem helmSend_rest {F : List Fld} (h_nv : Fld.nv ∈ F) (h_links : Fld.links ∈ F) (h_rails : Fld.rails ∈ F) (h_phases : Fld.phases ∈ F) (h_dies : Fld.dies ∈ F) (h_log : Fld.log ∈ F) (h_evc : Fld.evc ∈ F) (h_tw : Fld.tw ∈ F) (h_freeCtr : Fld.freeCtr ∈ F) (k : Fin 7) (tag : Nat) (p : FramePayload) (s : State) :
    rest F (helmSend k tag p s) = rest F s := by
  unfold helmSend; simp [*]

@[simp] theorem sendCmd_rest {F : List Fld} (h_nv : Fld.nv ∈ F) (h_links : Fld.links ∈ F) (h_rails : Fld.rails ∈ F) (h_phases : Fld.phases ∈ F) (h_dies : Fld.dies ∈ F) (h_log : Fld.log ∈ F) (h_evc : Fld.evc ∈ F) (h_tw : Fld.tw ∈ F) (h_freeCtr : Fld.freeCtr ∈ F) (c : RailCmd) (s : State) :
    rest F (sendCmd c s) = rest F s := by
  unfold sendCmd; simp [*]

@[simp] theorem dieObjWrite_rest {F : List Fld} (h_nv : Fld.nv ∈ F) (h_links : Fld.links ∈ F) (h_rails : Fld.rails ∈ F) (h_phases : Fld.phases ∈ F) (h_dies : Fld.dies ∈ F) (h_log : Fld.log ∈ F) (h_evc : Fld.evc ∈ F) (h_tw : Fld.tw ∈ F) (h_freeCtr : Fld.freeCtr ∈ F) (k : Fin 7) (idx sub : Nat) (bytes : List Byte) (s : State) :
    rest F (dieObjWrite k idx sub bytes s) = rest F s := by
  unfold dieObjWrite; simp [*]

@[simp] theorem dieObjRead_rest {F : List Fld} (h_nv : Fld.nv ∈ F) (h_links : Fld.links ∈ F) (h_rails : Fld.rails ∈ F) (h_phases : Fld.phases ∈ F) (h_dies : Fld.dies ∈ F) (h_log : Fld.log ∈ F) (h_evc : Fld.evc ∈ F) (h_tw : Fld.tw ∈ F) (h_freeCtr : Fld.freeCtr ∈ F) (k : Fin 7) (idx sub : Nat) (bytes : List Byte) (s : State) :
    rest F (dieObjRead k idx sub bytes s) = rest F s := by
  unfold dieObjRead; simp [*]

@[simp] theorem modPp_rest {F : List Fld} (h_pp : Fld.pp ∈ F) (f : PathState → PathState) (s : State) :
    rest F (modPp f s) = rest F s := by
  unfold modPp; simp [*]

@[simp] theorem modChg_rest {F : List Fld} (h_chg : Fld.chg ∈ F) (f : ChargerState → ChargerState) (s : State) :
    rest F (modChg f s) = rest F s := by
  unfold modChg; simp [*]

@[simp] theorem modGg_rest {F : List Fld} (h_gauge : Fld.gauge ∈ F) (f : GaugeState → GaugeState) (s : State) :
    rest F (modGg f s) = rest F s := by
  unfold modGg; simp [*]

@[simp] theorem modAlm_rest {F : List Fld} (h_gauge : Fld.gauge ∈ F) (f : Almanac → Almanac) (s : State) :
    rest F (modAlm f s) = rest F s := by
  unfold modAlm; simp [*]

@[simp] theorem sourceEval_rest {F : List Fld} (h_nv : Fld.nv ∈ F) (h_pp : Fld.pp ∈ F) (h_log : Fld.log ∈ F) (h_evc : Fld.evc ∈ F) (h_tw : Fld.tw ∈ F) (s : State) :
    rest F (sourceEval s) = rest F s := by
  unfold sourceEval; simp [*]; (repeat' split) <;> simp [*]

@[simp] theorem powerPathChannels_rest {F : List Fld} (h_nv : Fld.nv ∈ F) (h_pp : Fld.pp ∈ F) (h_log : Fld.log ∈ F) (h_evc : Fld.evc ∈ F) (h_tw : Fld.tw ∈ F) (s : State) :
    rest F (powerPathChannels s) = rest F s := by
  unfold powerPathChannels; simp [*]

@[simp] theorem chgTo_rest {F : List Fld} (h_chg : Fld.chg ∈ F) (h_evc : Fld.evc ∈ F) (h_tw : Fld.tw ∈ F) (ph : ChgPhase) (s : State) :
    rest F (chgTo ph s) = rest F s := by
  unfold chgTo; simp [*]

@[simp] theorem chgEnable_rest {F : List Fld} (h_chg : Fld.chg ∈ F) (h_evc : Fld.evc ∈ F) (h_tw : Fld.tw ∈ F) (s : State) :
    rest F (chgEnable s) = rest F s := by
  unfold chgEnable; (repeat' split) <;> simp [*]

@[simp] theorem clearChgTimes_rest {F : List Fld} (h_mram : Fld.mram ∈ F) (h_nv : Fld.nv ∈ F) (h_chg : Fld.chg ∈ F) (h_freeCtr : Fld.freeCtr ∈ F) (s : State) :
    rest F (clearChgTimes s) = rest F s := by
  unfold clearChgTimes; simp [*]

@[simp] theorem chgFaultSet_rest {F : List Fld} (h_nv : Fld.nv ∈ F) (h_chg : Fld.chg ∈ F) (h_log : Fld.log ∈ F) (h_evc : Fld.evc ∈ F) (h_tw : Fld.tw ∈ F) (bits : Nat) (s : State) :
    rest F (chgFaultSet bits s) = rest F s := by
  unfold chgFaultSet; simp [*]

@[simp] theorem chgPause_rest {F : List Fld} (h_chg : Fld.chg ∈ F) (h_evc : Fld.evc ∈ F) (h_tw : Fld.tw ∈ F) (s : State) :
    rest F (chgPause s) = rest F s := by
  unfold chgPause; simp [*]

@[simp] theorem clearTerminated_rest {F : List Fld} (h_chg : Fld.chg ∈ F) (h_evc : Fld.evc ∈ F) (h_tw : Fld.tw ∈ F) (s : State) :
    rest F (clearTerminated s) = rest F s := by
  unfold clearTerminated; simp [*]

@[simp] theorem learnResult_rest {F : List Fld} (h_gauge : Fld.gauge ∈ F) (h_evc : Fld.evc ∈ F) (h_tw : Fld.tw ∈ F) (r : Nat) (s : State) :
    rest F (learnResult r s) = rest F s := by
  unfold learnResult; simp [*]

@[simp] theorem ppTo_rest {F : List Fld} (h_pp : Fld.pp ∈ F) (h_gauge : Fld.gauge ∈ F) (h_evc : Fld.evc ∈ F) (h_tw : Fld.tw ∈ F) (ph : PpPhase) (s : State) :
    rest F (ppTo ph s) = rest F s := by
  unfold ppTo; simp [*]

@[simp] theorem chargerStop_rest {F : List Fld} (h_pp : Fld.pp ∈ F) (h_chg : Fld.chg ∈ F) (s : State) :
    rest F (chargerStop s) = rest F s := by
  unfold chargerStop; simp [*]

@[simp] theorem handBack_rest {F : List Fld} (h_pp : Fld.pp ∈ F) (h_gauge : Fld.gauge ∈ F) (h_evc : Fld.evc ∈ F) (h_tw : Fld.tw ∈ F) (s : State) :
    rest F (handBack s) = rest F s := by
  unfold handBack; simp [*]

@[simp] theorem outingEnd_rest {F : List Fld} (h_pp : Fld.pp ∈ F) (h_gauge : Fld.gauge ∈ F) (h_evc : Fld.evc ∈ F) (h_tw : Fld.tw ∈ F) (reason : Nat) (s : State) :
    rest F (outingEnd reason s) = rest F s := by
  unfold outingEnd; simp [*]

@[simp] theorem learnAge_rest {F : List Fld} (h_gauge : Fld.gauge ∈ F) (secs : Nat) (s : State) :
    rest F (learnAge secs s) = rest F s := by
  unfold learnAge; simp [*]

@[simp] theorem learnIdle_rest {F : List Fld} (h_gauge : Fld.gauge ∈ F) (h_evc : Fld.evc ∈ F) (h_tw : Fld.tw ∈ F) (r : Nat) (s : State) :
    rest F (learnIdle r s) = rest F s := by
  unfold learnIdle; simp [*]

@[simp] theorem learnStop_rest {F : List Fld} (h_pp : Fld.pp ∈ F) (h_gauge : Fld.gauge ∈ F) (h_evc : Fld.evc ∈ F) (h_tw : Fld.tw ∈ F) (r : Nat) (s : State) :
    rest F (learnStop r s) = rest F s := by
  unfold learnStop; simp [*]

@[simp] theorem outingStop_rest {F : List Fld} (h_pp : Fld.pp ∈ F) (h_gauge : Fld.gauge ∈ F) (h_evc : Fld.evc ∈ F) (h_tw : Fld.tw ∈ F) (reason result : Nat) (s : State) :
    rest F (outingStop reason result s) = rest F s := by
  unfold outingStop; simp [*]

@[simp] theorem pathBreak_rest {F : List Fld} (h_pp : Fld.pp ∈ F) (h_chg : Fld.chg ∈ F) (s : State) :
    rest F (pathBreak s) = rest F s := by
  unfold pathBreak; simp [*]

@[simp] theorem outingStart_rest {F : List Fld} (h_pp : Fld.pp ∈ F) (h_chg : Fld.chg ∈ F) (h_gauge : Fld.gauge ∈ F) (h_evc : Fld.evc ∈ F) (h_tw : Fld.tw ∈ F) (s : State) :
    rest F (outingStart s) = rest F s := by
  unfold outingStart; simp [*]

@[simp] theorem anchor_rest {F : List Fld} (h_gauge : Fld.gauge ∈ F) (q : Rat) (s : State) :
    rest F (anchor q s) = rest F s := by
  unfold anchor; simp [*]

@[simp] theorem eodActs_rest {F : List Fld} (h_pp : Fld.pp ∈ F) (h_gauge : Fld.gauge ∈ F) (h_evc : Fld.evc ∈ F) (h_tw : Fld.tw ∈ F) (s : State) :
    rest F (eodActs s) = rest F s := by
  unfold eodActs; (repeat' split) <;> simp [*]

@[simp] theorem setDisagree_rest {F : List Fld} (h_nv : Fld.nv ∈ F) (h_pp : Fld.pp ∈ F) (h_gauge : Fld.gauge ∈ F) (h_log : Fld.log ∈ F) (h_evc : Fld.evc ∈ F) (h_tw : Fld.tw ∈ F) (dir : Bool) (s : State) :
    rest F (setDisagree dir s) = rest F s := by
  unfold setDisagree; simp [*]

@[simp] theorem gaugeStartOp_rest {F : List Fld} (h_gauge : Fld.gauge ∈ F) (h_evc : Fld.evc ∈ F) (h_tw : Fld.tw ∈ F) (s : State) :
    rest F (gaugeStartOp s) = rest F s := by
  unfold gaugeStartOp; simp [*]

@[simp] theorem gaugeTerminated_rest {F : List Fld} (h_gauge : Fld.gauge ∈ F) (s : State) :
    rest F (gaugeTerminated s) = rest F s := by
  unfold gaugeTerminated; simp [*]

@[simp] theorem packGone_rest {F : List Fld} (h_pp : Fld.pp ∈ F) (h_chg : Fld.chg ∈ F) (h_gauge : Fld.gauge ∈ F) (h_evc : Fld.evc ∈ F) (h_tw : Fld.tw ∈ F) (s : State) :
    rest F (packGone s) = rest F s := by
  unfold packGone; simp [*]

@[simp] theorem packCheck_rest {F : List Fld} (h_pp : Fld.pp ∈ F) (h_chg : Fld.chg ∈ F) (h_gauge : Fld.gauge ∈ F) (h_evc : Fld.evc ∈ F) (h_tw : Fld.tw ∈ F) (s : State) :
    rest F (packCheck s) = rest F s := by
  unfold packCheck; simp [*]

@[simp] theorem toOnPack_rest {F : List Fld} (h_pp : Fld.pp ∈ F) (h_gauge : Fld.gauge ∈ F) (h_evc : Fld.evc ∈ F) (h_tw : Fld.tw ∈ F) (s : State) :
    rest F (toOnPack s) = rest F s := by
  unfold toOnPack; simp [*]

@[simp] theorem makeDone_rest {F : List Fld} (h_pp : Fld.pp ∈ F) (h_chg : Fld.chg ∈ F) (s : State) :
    rest F (makeDone s) = rest F s := by
  unfold makeDone; simp [*]

@[simp] theorem bootFet_rest {F : List Fld} (h_pp : Fld.pp ∈ F) (s : State) :
    rest F (bootFet s) = rest F s := by
  unfold bootFet; simp [*]

@[simp] theorem pathFet_rest {F : List Fld} (h_pp : Fld.pp ∈ F) (s : State) :
    rest F (pathFet s) = rest F s := by
  unfold pathFet; simp [*]

@[simp] theorem limitTaken_rest {F : List Fld} (h_pp : Fld.pp ∈ F) (s : State) :
    rest F (limitTaken s) = rest F s := by
  unfold limitTaken; simp [*]

@[simp] theorem railToMid_rest {F : List Fld} (h_nv : Fld.nv ∈ F) (h_links : Fld.links ∈ F) (h_rails : Fld.rails ∈ F) (h_phases : Fld.phases ∈ F) (h_dies : Fld.dies ∈ F) (h_log : Fld.log ∈ F) (h_evc : Fld.evc ∈ F) (h_tw : Fld.tw ∈ F) (r : Fin 28) (s : State) :
    rest F (railToMid r s) = rest F s := by
  unfold railToMid; simp [*]

@[simp] theorem railKeep_rest {F : List Fld} (h_rails : Fld.rails ∈ F) (h_phases : Fld.phases ∈ F) (h_gangs : Fld.gangs ∈ F) (h_dies : Fld.dies ∈ F) (r : Fin 28) (s : State) :
    rest F (railKeep r s) = rest F s := by
  unfold railKeep; (repeat' split) <;> simp [*]

@[simp] theorem resetRails_rest {F : List Fld} (h_nv : Fld.nv ∈ F) (h_links : Fld.links ∈ F) (h_rails : Fld.rails ∈ F) (h_phases : Fld.phases ∈ F) (h_gangs : Fld.gangs ∈ F) (h_dies : Fld.dies ∈ F) (h_log : Fld.log ∈ F) (h_evc : Fld.evc ∈ F) (h_tw : Fld.tw ∈ F) (keep : Vector Bool 28) (s : State) :
    rest F (resetRails keep s) = rest F s := by
  unfold resetRails; simp [*]

@[simp] theorem resetFos_rest {F : List Fld} (h_fo : Fld.fo ∈ F) (h_evc : Fld.evc ∈ F) (h_tw : Fld.tw ∈ F) (s : State) :
    rest F (resetFos s) = rest F s := by
  unfold resetFos; simp [*]

@[simp] theorem killFos_rest {F : List Fld} (h_fo : Fld.fo ∈ F) (h_evc : Fld.evc ∈ F) (h_tw : Fld.tw ∈ F) (s : State) :
    rest F (killFos s) = rest F s := by
  unfold killFos; simp [*]

@[simp] theorem resetZin_rest {F : List Fld} (h_zin : Fld.zin ∈ F) (s : State) :
    rest F (resetZin s) = rest F s := by
  unfold resetZin; simp [*]

@[simp] theorem resetRegs_rest {F : List Fld} (h_regs : Fld.regs ∈ F) (s : State) :
    rest F (resetRegs s) = rest F s := by
  unfold resetRegs; simp [*]

@[simp] theorem resetCharger_rest {F : List Fld} (h_chg : Fld.chg ∈ F) (s : State) :
    rest F (resetCharger s) = rest F s := by
  unfold resetCharger; simp [*]

@[simp] theorem resetPath_rest {F : List Fld} (h_pp : Fld.pp ∈ F) (h_chg : Fld.chg ∈ F) (cause : Nat) (s : State) :
    rest F (resetPath cause s) = rest F s := by
  unfold resetPath; simp [*]

@[simp] theorem resetPins_rest {F : List Fld} (h_zbus : Fld.zbus ∈ F) (h_rsto : Fld.rsto ∈ F) (h_evc : Fld.evc ∈ F) (h_can : Fld.can ∈ F) (s : State) :
    rest F (resetPins s) = rest F s := by
  unfold resetPins; simp [rest, *]

@[simp] theorem recordMask_rest {F : List Fld} (h_mram : Fld.mram ∈ F) (h_nv : Fld.nv ∈ F) (h_freeCtr : Fld.freeCtr ∈ F) (s : State) :
    rest F (recordMask s) = rest F s := by
  unfold recordMask; simp [*]

@[simp] theorem endStationKeeping_rest {F : List Fld} (h_nv : Fld.nv ∈ F) (h_links : Fld.links ∈ F) (h_boot : Fld.boot ∈ F) (h_sk : Fld.sk ∈ F) (h_fo : Fld.fo ∈ F) (h_rails : Fld.rails ∈ F) (h_phases : Fld.phases ∈ F) (h_dies : Fld.dies ∈ F) (h_log : Fld.log ∈ F) (h_safeN : Fld.safeN ∈ F) (h_evc : Fld.evc ∈ F) (h_tw : Fld.tw ∈ F) (cause : Nat) (s : State) :
    rest F (endStationKeeping cause s) = rest F s := by
  have e : ∀ (a : State) b c, rest F { a with boot := b, safeN := c } = rest F a := by intro a b c; simp only [rest, *, if_true]
  unfold endStationKeeping; simp [e, *]

@[simp] theorem secondCause_rest {F : List Fld} (h_mram : Fld.mram ∈ F) (h_nv : Fld.nv ∈ F) (h_links : Fld.links ∈ F) (h_boot : Fld.boot ∈ F) (h_sk : Fld.sk ∈ F) (h_fo : Fld.fo ∈ F) (h_rails : Fld.rails ∈ F) (h_phases : Fld.phases ∈ F) (h_dies : Fld.dies ∈ F) (h_pp : Fld.pp ∈ F) (h_chg : Fld.chg ∈ F) (h_log : Fld.log ∈ F) (h_safeN : Fld.safeN ∈ F) (h_evc : Fld.evc ∈ F) (h_tw : Fld.tw ∈ F) (h_freeCtr : Fld.freeCtr ∈ F) (cause : Nat) (s : State) :
    rest F (secondCause cause s) = rest F s := by
  unfold secondCause; simp [*]

@[simp] theorem resetGroups_rest {F : List Fld} (h_items : Fld.items ∈ F) (h_groups : Fld.groups ∈ F) (keep : Vector Bool 28) (s : State) :
    rest F (resetGroups keep s) = rest F s := by
  unfold resetGroups; simp [rest, *]

@[simp] theorem resetStart_rest {F : List Fld} (h_mram : Fld.mram ∈ F) (h_nv : Fld.nv ∈ F) (h_links : Fld.links ∈ F) (h_boot : Fld.boot ∈ F) (h_sk : Fld.sk ∈ F) (h_pwr : Fld.pwr ∈ F) (h_zin : Fld.zin ∈ F) (h_fo : Fld.fo ∈ F) (h_zbus : Fld.zbus ∈ F) (h_rails : Fld.rails ∈ F) (h_phases : Fld.phases ∈ F) (h_gangs : Fld.gangs ∈ F) (h_dies : Fld.dies ∈ F) (h_items : Fld.items ∈ F) (h_groups : Fld.groups ∈ F) (h_regs : Fld.regs ∈ F) (h_rsto : Fld.rsto ∈ F) (h_pp : Fld.pp ∈ F) (h_chg : Fld.chg ∈ F) (h_gauge : Fld.gauge ∈ F) (h_log : Fld.log ∈ F) (h_faultLine : Fld.faultLine ∈ F) (h_safeN : Fld.safeN ∈ F) (h_evc : Fld.evc ∈ F) (h_tw : Fld.tw ∈ F) (h_can : Fld.can ∈ F) (h_update : Fld.update ∈ F) (h_freeCtr : Fld.freeCtr ∈ F) (cause sub : Nat) (s : State) :
    rest F (resetStart cause sub s) = rest F s := by
  have e : ∀ (a : State) b c d x l f n, rest F { a with boot := b, sk := c, pwr := d, update := x, log := l, faultLine := f, safeN := n } = rest F a := by
    intro a b c d x l f n; simp only [rest, *, if_true]
  unfold resetStart; simp only [recordMask_rest, ctrAppend_rest, abandonWrites_rest, bootFet_rest, resetPins_rest, resetCharger_rest, resetRegs_rest, resetZin_rest, *]
  (repeat' split) <;> simp [e, *]

@[simp] theorem startFullReset_rest {F : List Fld} (h_mram : Fld.mram ∈ F) (h_nv : Fld.nv ∈ F) (h_links : Fld.links ∈ F) (h_boot : Fld.boot ∈ F) (h_sk : Fld.sk ∈ F) (h_pwr : Fld.pwr ∈ F) (h_zin : Fld.zin ∈ F) (h_fo : Fld.fo ∈ F) (h_zbus : Fld.zbus ∈ F) (h_rails : Fld.rails ∈ F) (h_phases : Fld.phases ∈ F) (h_gangs : Fld.gangs ∈ F) (h_dies : Fld.dies ∈ F) (h_items : Fld.items ∈ F) (h_groups : Fld.groups ∈ F) (h_regs : Fld.regs ∈ F) (h_rsto : Fld.rsto ∈ F) (h_pp : Fld.pp ∈ F) (h_chg : Fld.chg ∈ F) (h_gauge : Fld.gauge ∈ F) (h_log : Fld.log ∈ F) (h_faultLine : Fld.faultLine ∈ F) (h_safeN : Fld.safeN ∈ F) (h_evc : Fld.evc ∈ F) (h_tw : Fld.tw ∈ F) (h_can : Fld.can ∈ F) (h_update : Fld.update ∈ F) (h_freeCtr : Fld.freeCtr ∈ F) (cause sub : Nat) (s : State) :
    rest F (startFullReset cause sub s) = rest F s := by
  unfold startFullReset; (repeat' split) <;> simp [*]

@[simp] theorem modItem_rest {F : List Fld} (h_items : Fld.items ∈ F) (i : Fin 46) (f : ItemState → ItemState) (s : State) :
    rest F (modItem i f s) = rest F s := by
  unfold modItem; simp [*]

@[simp] theorem modGroup_rest {F : List Fld} (h_groups : Fld.groups ∈ F) (g : Fin 8) (f : GroupState → GroupState) (s : State) :
    rest F (modGroup g f s) = rest F s := by
  unfold modGroup; simp [*]

@[simp] theorem modReg_rest {F : List Fld} (h_regs : Fld.regs ∈ F) (n : Fin 10) (f : RegState → RegState) (s : State) :
    rest F (modReg n f s) = rest F s := by
  unfold modReg; simp [*]

@[simp] theorem rstoRefresh_rest {F : List Fld} (h_rsto : Fld.rsto ∈ F) (s : State) :
    rest F (rstoRefresh s) = rest F s := by
  unfold rstoRefresh; simp [*]

@[simp] theorem groupTo_rest {F : List Fld} (h_groups : Fld.groups ∈ F) (h_rsto : Fld.rsto ∈ F) (h_evc : Fld.evc ∈ F) (h_tw : Fld.tw ∈ F) (g : Fin 8) (ph : GroupPhase) (s : State) :
    rest F (groupTo g ph s) = rest F s := by
  unfold groupTo; simp [*]

@[simp] theorem clearRetries_rest {F : List Fld} (h_items : Fld.items ∈ F) (g : Fin 8) (s : State) :
    rest F (clearRetries g s) = rest F s := by
  unfold clearRetries; simp [*]

@[simp] theorem switchOn_rest {F : List Fld} (h_nv : Fld.nv ∈ F) (h_links : Fld.links ∈ F) (h_fo : Fld.fo ∈ F) (h_rails : Fld.rails ∈ F) (h_phases : Fld.phases ∈ F) (h_dies : Fld.dies ∈ F) (h_items : Fld.items ∈ F) (h_regs : Fld.regs ∈ F) (h_log : Fld.log ∈ F) (h_evc : Fld.evc ∈ F) (h_tw : Fld.tw ∈ F) (h_freeCtr : Fld.freeCtr ∈ F) (i : Fin 46) (s : State) :
    rest F (switchOn i s) = rest F s := by
  unfold switchOn; (repeat' split) <;> simp [*]

@[simp] theorem runItems_rest {F : List Fld} (h_nv : Fld.nv ∈ F) (h_links : Fld.links ∈ F) (h_fo : Fld.fo ∈ F) (h_rails : Fld.rails ∈ F) (h_phases : Fld.phases ∈ F) (h_dies : Fld.dies ∈ F) (h_items : Fld.items ∈ F) (h_regs : Fld.regs ∈ F) (h_log : Fld.log ∈ F) (h_evc : Fld.evc ∈ F) (h_tw : Fld.tw ∈ F) (h_freeCtr : Fld.freeCtr ∈ F) (s : State) :
    rest F (runItems s) = rest F s := by
  unfold runItems; simp [*]

@[simp] theorem itemStarted_rest {F : List Fld} (h_items : Fld.items ∈ F) (i : Fin 46) (s : State) :
    rest F (itemStarted i s) = rest F s := by
  unfold itemStarted; simp [*]

@[simp] theorem switchOff_rest {F : List Fld} (h_nv : Fld.nv ∈ F) (h_links : Fld.links ∈ F) (h_fo : Fld.fo ∈ F) (h_rails : Fld.rails ∈ F) (h_phases : Fld.phases ∈ F) (h_dies : Fld.dies ∈ F) (h_items : Fld.items ∈ F) (h_regs : Fld.regs ∈ F) (h_log : Fld.log ∈ F) (h_evc : Fld.evc ∈ F) (h_tw : Fld.tw ∈ F) (h_freeCtr : Fld.freeCtr ∈ F) (i : Fin 46) (s : State) :
    rest F (switchOff i s) = rest F s := by
  unfold switchOff; (repeat' split) <;> simp [*]

@[simp] theorem itemForcedOff_rest {F : List Fld} (h_items : Fld.items ∈ F) (i : Fin 46) (s : State) :
    rest F (itemForcedOff i s) = rest F s := by
  unfold itemForcedOff; (repeat' split) <;> simp [*]

@[simp] theorem shutAdvance_rest {F : List Fld} (h_nv : Fld.nv ∈ F) (h_links : Fld.links ∈ F) (h_fo : Fld.fo ∈ F) (h_rails : Fld.rails ∈ F) (h_phases : Fld.phases ∈ F) (h_dies : Fld.dies ∈ F) (h_items : Fld.items ∈ F) (h_groups : Fld.groups ∈ F) (h_regs : Fld.regs ∈ F) (h_rsto : Fld.rsto ∈ F) (h_log : Fld.log ∈ F) (h_evc : Fld.evc ∈ F) (h_tw : Fld.tw ∈ F) (h_freeCtr : Fld.freeCtr ∈ F) (n : Nat) (g : Fin 8) (s : State) :
    rest F (shutAdvance n g s) = rest F s := by
  induction n generalizing s with
  | zero => rfl
  | succ n ih => unfold shutAdvance; dsimp only; (repeat' split) <;> simp [*]

@[simp] theorem itemsUnwait_rest {F : List Fld} (h_items : Fld.items ∈ F) (g : Fin 8) (s : State) :
    rest F (itemsUnwait g s) = rest F s := by
  unfold itemsUnwait; simp [*]

@[simp] theorem shutdown_rest {F : List Fld} (h_nv : Fld.nv ∈ F) (h_links : Fld.links ∈ F) (h_fo : Fld.fo ∈ F) (h_rails : Fld.rails ∈ F) (h_phases : Fld.phases ∈ F) (h_dies : Fld.dies ∈ F) (h_items : Fld.items ∈ F) (h_groups : Fld.groups ∈ F) (h_regs : Fld.regs ∈ F) (h_rsto : Fld.rsto ∈ F) (h_log : Fld.log ∈ F) (h_evc : Fld.evc ∈ F) (h_tw : Fld.tw ∈ F) (h_freeCtr : Fld.freeCtr ∈ F) (g : Fin 8) (byFault : Bool) (first : Option (Fin 46)) (s : State) :
    rest F (shutdown g byFault first s) = rest F s := by
  unfold shutdown; (repeat' split) <;> simp [*]

@[simp] theorem groupOff_rest {F : List Fld} (h_nv : Fld.nv ∈ F) (h_links : Fld.links ∈ F) (h_fo : Fld.fo ∈ F) (h_rails : Fld.rails ∈ F) (h_phases : Fld.phases ∈ F) (h_dies : Fld.dies ∈ F) (h_items : Fld.items ∈ F) (h_groups : Fld.groups ∈ F) (h_regs : Fld.regs ∈ F) (h_rsto : Fld.rsto ∈ F) (h_log : Fld.log ∈ F) (h_evc : Fld.evc ∈ F) (h_tw : Fld.tw ∈ F) (h_freeCtr : Fld.freeCtr ∈ F) (g : Fin 8) (i : Fin 46) (s : State) :
    rest F (groupOff g i s) = rest F s := by
  unfold groupOff; (repeat' split) <;> simp [*]

@[simp] theorem setItemFault_rest {F : List Fld} (h_items : Fld.items ∈ F) (i : Fin 46) (f : ItemFaultCode) (s : State) :
    rest F (setItemFault i f s) = rest F s := by
  unfold setItemFault; simp [*]

@[simp] theorem startRetry_rest {F : List Fld} (h_nv : Fld.nv ∈ F) (h_links : Fld.links ∈ F) (h_fo : Fld.fo ∈ F) (h_rails : Fld.rails ∈ F) (h_phases : Fld.phases ∈ F) (h_dies : Fld.dies ∈ F) (h_items : Fld.items ∈ F) (h_regs : Fld.regs ∈ F) (h_log : Fld.log ∈ F) (h_evc : Fld.evc ∈ F) (h_tw : Fld.tw ∈ F) (h_freeCtr : Fld.freeCtr ∈ F) (i : Fin 46) (s : State) :
    rest F (startRetry i s) = rest F s := by
  unfold startRetry; simp [*]

@[simp] theorem applyIgnore_rest {F : List Fld} (h_rails : Fld.rails ∈ F) (h_items : Fld.items ∈ F) (i : Fin 46) (f : ItemFaultCode) (s : State) :
    rest F (applyIgnore i f s) = rest F s := by
  unfold applyIgnore; (repeat' split) <;> simp [*]

@[simp] theorem applyReaction_rest {F : List Fld} (h_mram : Fld.mram ∈ F) (h_nv : Fld.nv ∈ F) (h_links : Fld.links ∈ F) (h_boot : Fld.boot ∈ F) (h_sk : Fld.sk ∈ F) (h_pwr : Fld.pwr ∈ F) (h_zin : Fld.zin ∈ F) (h_fo : Fld.fo ∈ F) (h_zbus : Fld.zbus ∈ F) (h_rails : Fld.rails ∈ F) (h_phases : Fld.phases ∈ F) (h_gangs : Fld.gangs ∈ F) (h_dies : Fld.dies ∈ F) (h_items : Fld.items ∈ F) (h_groups : Fld.groups ∈ F) (h_regs : Fld.regs ∈ F) (h_rsto : Fld.rsto ∈ F) (h_pp : Fld.pp ∈ F) (h_chg : Fld.chg ∈ F) (h_gauge : Fld.gauge ∈ F) (h_log : Fld.log ∈ F) (h_faultLine : Fld.faultLine ∈ F) (h_safeN : Fld.safeN ∈ F) (h_evc : Fld.evc ∈ F) (h_tw : Fld.tw ∈ F) (h_can : Fld.can ∈ F) (h_update : Fld.update ∈ F) (h_freeCtr : Fld.freeCtr ∈ F) (i : Fin 46) (f : ItemFaultCode) (x : Reaction) (s : State) :
    rest F (applyReaction i f x s) = rest F s := by
  unfold applyReaction; (repeat' split) <;> simp [*]

@[simp] theorem itemFaultsMark_rest {F : List Fld} (h_mram : Fld.mram ∈ F) (h_nv : Fld.nv ∈ F) (h_links : Fld.links ∈ F) (h_boot : Fld.boot ∈ F) (h_sk : Fld.sk ∈ F) (h_pwr : Fld.pwr ∈ F) (h_zin : Fld.zin ∈ F) (h_fo : Fld.fo ∈ F) (h_zbus : Fld.zbus ∈ F) (h_rails : Fld.rails ∈ F) (h_phases : Fld.phases ∈ F) (h_gangs : Fld.gangs ∈ F) (h_dies : Fld.dies ∈ F) (h_items : Fld.items ∈ F) (h_groups : Fld.groups ∈ F) (h_regs : Fld.regs ∈ F) (h_rsto : Fld.rsto ∈ F) (h_pp : Fld.pp ∈ F) (h_chg : Fld.chg ∈ F) (h_gauge : Fld.gauge ∈ F) (h_log : Fld.log ∈ F) (h_faultLine : Fld.faultLine ∈ F) (h_safeN : Fld.safeN ∈ F) (h_evc : Fld.evc ∈ F) (h_tw : Fld.tw ∈ F) (h_can : Fld.can ∈ F) (h_update : Fld.update ∈ F) (h_freeCtr : Fld.freeCtr ∈ F) (l : List (Fin 46 × ItemFaultCode)) (s : State) :
    rest F (itemFaultsMark l s) = rest F s := by
  unfold itemFaultsMark; simp [*]

@[simp] theorem itemReact_rest {F : List Fld} (h_mram : Fld.mram ∈ F) (h_nv : Fld.nv ∈ F) (h_links : Fld.links ∈ F) (h_boot : Fld.boot ∈ F) (h_sk : Fld.sk ∈ F) (h_pwr : Fld.pwr ∈ F) (h_zin : Fld.zin ∈ F) (h_fo : Fld.fo ∈ F) (h_zbus : Fld.zbus ∈ F) (h_rails : Fld.rails ∈ F) (h_phases : Fld.phases ∈ F) (h_gangs : Fld.gangs ∈ F) (h_dies : Fld.dies ∈ F) (h_items : Fld.items ∈ F) (h_groups : Fld.groups ∈ F) (h_regs : Fld.regs ∈ F) (h_rsto : Fld.rsto ∈ F) (h_pp : Fld.pp ∈ F) (h_chg : Fld.chg ∈ F) (h_gauge : Fld.gauge ∈ F) (h_log : Fld.log ∈ F) (h_faultLine : Fld.faultLine ∈ F) (h_safeN : Fld.safeN ∈ F) (h_evc : Fld.evc ∈ F) (h_tw : Fld.tw ∈ F) (h_can : Fld.can ∈ F) (h_update : Fld.update ∈ F) (h_freeCtr : Fld.freeCtr ∈ F) (l : List (Fin 46 × ItemFaultCode)) (s : State) :
    rest F (itemReact l s) = rest F s := by
  unfold itemReact; dsimp only
  rw [rest_foldl_fst]
  intro a x; (repeat' split) <;> simp [*]

@[simp] theorem itemFaults_rest {F : List Fld} (h_mram : Fld.mram ∈ F) (h_nv : Fld.nv ∈ F) (h_links : Fld.links ∈ F) (h_boot : Fld.boot ∈ F) (h_sk : Fld.sk ∈ F) (h_pwr : Fld.pwr ∈ F) (h_zin : Fld.zin ∈ F) (h_fo : Fld.fo ∈ F) (h_zbus : Fld.zbus ∈ F) (h_rails : Fld.rails ∈ F) (h_phases : Fld.phases ∈ F) (h_gangs : Fld.gangs ∈ F) (h_dies : Fld.dies ∈ F) (h_items : Fld.items ∈ F) (h_groups : Fld.groups ∈ F) (h_regs : Fld.regs ∈ F) (h_rsto : Fld.rsto ∈ F) (h_pp : Fld.pp ∈ F) (h_chg : Fld.chg ∈ F) (h_gauge : Fld.gauge ∈ F) (h_log : Fld.log ∈ F) (h_faultLine : Fld.faultLine ∈ F) (h_safeN : Fld.safeN ∈ F) (h_evc : Fld.evc ∈ F) (h_tw : Fld.tw ∈ F) (h_can : Fld.can ∈ F) (h_update : Fld.update ∈ F) (h_freeCtr : Fld.freeCtr ∈ F) (l : List (Fin 46 × ItemFaultCode)) (s : State) :
    rest F (itemFaults l s) = rest F s := by
  have h : rest F (itemFaultsMark l s) = rest F s := by simp [*]
  have e : ∀ (a : State) u, rest F { a with update := u } = rest F a := by intro a u; simp only [rest, *, if_true]
  unfold itemFaults; dsimp only
  split
  · exact (e _ _).trans h
  · simp [*]

@[simp] theorem itemFault_rest {F : List Fld} (h_mram : Fld.mram ∈ F) (h_nv : Fld.nv ∈ F) (h_links : Fld.links ∈ F) (h_boot : Fld.boot ∈ F) (h_sk : Fld.sk ∈ F) (h_pwr : Fld.pwr ∈ F) (h_zin : Fld.zin ∈ F) (h_fo : Fld.fo ∈ F) (h_zbus : Fld.zbus ∈ F) (h_rails : Fld.rails ∈ F) (h_phases : Fld.phases ∈ F) (h_gangs : Fld.gangs ∈ F) (h_dies : Fld.dies ∈ F) (h_items : Fld.items ∈ F) (h_groups : Fld.groups ∈ F) (h_regs : Fld.regs ∈ F) (h_rsto : Fld.rsto ∈ F) (h_pp : Fld.pp ∈ F) (h_chg : Fld.chg ∈ F) (h_gauge : Fld.gauge ∈ F) (h_log : Fld.log ∈ F) (h_faultLine : Fld.faultLine ∈ F) (h_safeN : Fld.safeN ∈ F) (h_evc : Fld.evc ∈ F) (h_tw : Fld.tw ∈ F) (h_can : Fld.can ∈ F) (h_update : Fld.update ∈ F) (h_freeCtr : Fld.freeCtr ∈ F) (i : Fin 46) (f : ItemFaultCode) (s : State) :
    rest F (itemFault i f s) = rest F s := by
  unfold itemFault; simp [*]

@[simp] theorem stepMoves_rest {F : List Fld} (h_settings : Fld.settings ∈ F) (h_nv : Fld.nv ∈ F) (h_links : Fld.links ∈ F) (h_rails : Fld.rails ∈ F) (h_phases : Fld.phases ∈ F) (h_dies : Fld.dies ∈ F) (h_items : Fld.items ∈ F) (h_log : Fld.log ∈ F) (h_evc : Fld.evc ∈ F) (h_tw : Fld.tw ∈ F) (h_freeCtr : Fld.freeCtr ∈ F) (st : Fin 64) (s : State) :
    rest F (stepMoves st s) = rest F s := by
  unfold stepMoves
  rw [rest_foldl]
  intro a x; dsimp only; (repeat' split) <;> simp [*]

@[simp] theorem vdrDeclared_rest {F : List Fld} (h_mram : Fld.mram ∈ F) (h_nv : Fld.nv ∈ F) (h_links : Fld.links ∈ F) (h_boot : Fld.boot ∈ F) (h_sk : Fld.sk ∈ F) (h_pwr : Fld.pwr ∈ F) (h_zin : Fld.zin ∈ F) (h_fo : Fld.fo ∈ F) (h_zbus : Fld.zbus ∈ F) (h_rails : Fld.rails ∈ F) (h_phases : Fld.phases ∈ F) (h_gangs : Fld.gangs ∈ F) (h_dies : Fld.dies ∈ F) (h_items : Fld.items ∈ F) (h_groups : Fld.groups ∈ F) (h_regs : Fld.regs ∈ F) (h_rsto : Fld.rsto ∈ F) (h_pp : Fld.pp ∈ F) (h_chg : Fld.chg ∈ F) (h_gauge : Fld.gauge ∈ F) (h_log : Fld.log ∈ F) (h_faultLine : Fld.faultLine ∈ F) (h_safeN : Fld.safeN ∈ F) (h_evc : Fld.evc ∈ F) (h_tw : Fld.tw ∈ F) (h_can : Fld.can ∈ F) (h_update : Fld.update ∈ F) (h_freeCtr : Fld.freeCtr ∈ F) (s : State) :
    rest F (vdrDeclared s) = rest F s := by
  unfold vdrDeclared; simp [*]

@[simp] theorem foAdopt_rest {F : List Fld} (h_fo : Fld.fo ∈ F) (h_items : Fld.items ∈ F) (h_evc : Fld.evc ∈ F) (h_tw : Fld.tw ∈ F) (n : Fin 8) (s : State) :
    rest F (foAdopt n s) = rest F s := by
  unfold foAdopt; simp [*]

@[simp] theorem groupFosAdopt_rest {F : List Fld} (h_fo : Fld.fo ∈ F) (h_items : Fld.items ∈ F) (h_evc : Fld.evc ∈ F) (h_tw : Fld.tw ∈ F) (g : Fin 8) (s : State) :
    rest F (groupFosAdopt g s) = rest F s := by
  unfold groupFosAdopt; simp [*]

@[simp] theorem startStep_rest {F : List Fld} (h_settings : Fld.settings ∈ F) (h_mram : Fld.mram ∈ F) (h_nv : Fld.nv ∈ F) (h_links : Fld.links ∈ F) (h_boot : Fld.boot ∈ F) (h_sk : Fld.sk ∈ F) (h_pwr : Fld.pwr ∈ F) (h_zin : Fld.zin ∈ F) (h_fo : Fld.fo ∈ F) (h_zbus : Fld.zbus ∈ F) (h_rails : Fld.rails ∈ F) (h_phases : Fld.phases ∈ F) (h_gangs : Fld.gangs ∈ F) (h_dies : Fld.dies ∈ F) (h_items : Fld.items ∈ F) (h_groups : Fld.groups ∈ F) (h_regs : Fld.regs ∈ F) (h_rsto : Fld.rsto ∈ F) (h_pp : Fld.pp ∈ F) (h_chg : Fld.chg ∈ F) (h_gauge : Fld.gauge ∈ F) (h_log : Fld.log ∈ F) (h_faultLine : Fld.faultLine ∈ F) (h_safeN : Fld.safeN ∈ F) (h_evc : Fld.evc ∈ F) (h_tw : Fld.tw ∈ F) (h_can : Fld.can ∈ F) (h_update : Fld.update ∈ F) (h_freeCtr : Fld.freeCtr ∈ F) (g : Fin 8) (st : Fin 64) (s : State) :
    rest F (startStep g st s) = rest F s := by
  unfold startStep; simp [*]

@[simp] theorem itemsWait_rest {F : List Fld} (h_items : Fld.items ∈ F) (st : Fin 64) (s : State) :
    rest F (itemsWait st s) = rest F s := by
  unfold itemsWait; simp [*]

@[simp] theorem advance_rest {F : List Fld} (h_settings : Fld.settings ∈ F) (h_mram : Fld.mram ∈ F) (h_nv : Fld.nv ∈ F) (h_links : Fld.links ∈ F) (h_boot : Fld.boot ∈ F) (h_sk : Fld.sk ∈ F) (h_pwr : Fld.pwr ∈ F) (h_zin : Fld.zin ∈ F) (h_fo : Fld.fo ∈ F) (h_zbus : Fld.zbus ∈ F) (h_rails : Fld.rails ∈ F) (h_phases : Fld.phases ∈ F) (h_gangs : Fld.gangs ∈ F) (h_dies : Fld.dies ∈ F) (h_items : Fld.items ∈ F) (h_groups : Fld.groups ∈ F) (h_regs : Fld.regs ∈ F) (h_rsto : Fld.rsto ∈ F) (h_pp : Fld.pp ∈ F) (h_chg : Fld.chg ∈ F) (h_gauge : Fld.gauge ∈ F) (h_log : Fld.log ∈ F) (h_faultLine : Fld.faultLine ∈ F) (h_safeN : Fld.safeN ∈ F) (h_evc : Fld.evc ∈ F) (h_tw : Fld.tw ∈ F) (h_can : Fld.can ∈ F) (h_update : Fld.update ∈ F) (h_freeCtr : Fld.freeCtr ∈ F) (n : Nat) (g : Fin 8) (o : Option (Fin 64)) (s : State) :
    rest F (advance n g o s) = rest F s := by
  induction n generalizing o s with
  | zero => rfl
  | succ n ih => unfold advance; dsimp only; (repeat' split) <;> simp [*]

@[simp] theorem stepGo_rest {F : List Fld} (h_settings : Fld.settings ∈ F) (h_mram : Fld.mram ∈ F) (h_nv : Fld.nv ∈ F) (h_links : Fld.links ∈ F) (h_boot : Fld.boot ∈ F) (h_sk : Fld.sk ∈ F) (h_pwr : Fld.pwr ∈ F) (h_zin : Fld.zin ∈ F) (h_fo : Fld.fo ∈ F) (h_zbus : Fld.zbus ∈ F) (h_rails : Fld.rails ∈ F) (h_phases : Fld.phases ∈ F) (h_gangs : Fld.gangs ∈ F) (h_dies : Fld.dies ∈ F) (h_items : Fld.items ∈ F) (h_groups : Fld.groups ∈ F) (h_regs : Fld.regs ∈ F) (h_rsto : Fld.rsto ∈ F) (h_pp : Fld.pp ∈ F) (h_chg : Fld.chg ∈ F) (h_gauge : Fld.gauge ∈ F) (h_log : Fld.log ∈ F) (h_faultLine : Fld.faultLine ∈ F) (h_safeN : Fld.safeN ∈ F) (h_evc : Fld.evc ∈ F) (h_tw : Fld.tw ∈ F) (h_can : Fld.can ∈ F) (h_update : Fld.update ∈ F) (h_freeCtr : Fld.freeCtr ∈ F) (g : Fin 8) (st : Fin 64) (s : State) :
    rest F (stepGo g st s) = rest F s := by
  unfold stepGo; simp [*]

@[simp] theorem checkStep_rest {F : List Fld} (h_settings : Fld.settings ∈ F) (h_mram : Fld.mram ∈ F) (h_nv : Fld.nv ∈ F) (h_links : Fld.links ∈ F) (h_boot : Fld.boot ∈ F) (h_sk : Fld.sk ∈ F) (h_pwr : Fld.pwr ∈ F) (h_zin : Fld.zin ∈ F) (h_fo : Fld.fo ∈ F) (h_zbus : Fld.zbus ∈ F) (h_rails : Fld.rails ∈ F) (h_phases : Fld.phases ∈ F) (h_gangs : Fld.gangs ∈ F) (h_dies : Fld.dies ∈ F) (h_items : Fld.items ∈ F) (h_groups : Fld.groups ∈ F) (h_regs : Fld.regs ∈ F) (h_rsto : Fld.rsto ∈ F) (h_pp : Fld.pp ∈ F) (h_chg : Fld.chg ∈ F) (h_gauge : Fld.gauge ∈ F) (h_log : Fld.log ∈ F) (h_faultLine : Fld.faultLine ∈ F) (h_safeN : Fld.safeN ∈ F) (h_evc : Fld.evc ∈ F) (h_tw : Fld.tw ∈ F) (h_can : Fld.can ∈ F) (h_update : Fld.update ∈ F) (h_freeCtr : Fld.freeCtr ∈ F) (g : Fin 8) (s : State) :
    rest F (checkStep g s) = rest F s := by
  unfold checkStep; (repeat' split) <;> simp [*]

@[simp] theorem checkSteps_rest {F : List Fld} (h_settings : Fld.settings ∈ F) (h_mram : Fld.mram ∈ F) (h_nv : Fld.nv ∈ F) (h_links : Fld.links ∈ F) (h_boot : Fld.boot ∈ F) (h_sk : Fld.sk ∈ F) (h_pwr : Fld.pwr ∈ F) (h_zin : Fld.zin ∈ F) (h_fo : Fld.fo ∈ F) (h_zbus : Fld.zbus ∈ F) (h_rails : Fld.rails ∈ F) (h_phases : Fld.phases ∈ F) (h_gangs : Fld.gangs ∈ F) (h_dies : Fld.dies ∈ F) (h_items : Fld.items ∈ F) (h_groups : Fld.groups ∈ F) (h_regs : Fld.regs ∈ F) (h_rsto : Fld.rsto ∈ F) (h_pp : Fld.pp ∈ F) (h_chg : Fld.chg ∈ F) (h_gauge : Fld.gauge ∈ F) (h_log : Fld.log ∈ F) (h_faultLine : Fld.faultLine ∈ F) (h_safeN : Fld.safeN ∈ F) (h_evc : Fld.evc ∈ F) (h_tw : Fld.tw ∈ F) (h_can : Fld.can ∈ F) (h_update : Fld.update ∈ F) (h_freeCtr : Fld.freeCtr ∈ F) (s : State) :
    rest F (checkSteps s) = rest F s := by
  unfold checkSteps; simp [*]

@[simp] theorem powerUp_rest {F : List Fld} (h_settings : Fld.settings ∈ F) (h_mram : Fld.mram ∈ F) (h_nv : Fld.nv ∈ F) (h_links : Fld.links ∈ F) (h_boot : Fld.boot ∈ F) (h_sk : Fld.sk ∈ F) (h_pwr : Fld.pwr ∈ F) (h_zin : Fld.zin ∈ F) (h_fo : Fld.fo ∈ F) (h_zbus : Fld.zbus ∈ F) (h_rails : Fld.rails ∈ F) (h_phases : Fld.phases ∈ F) (h_gangs : Fld.gangs ∈ F) (h_dies : Fld.dies ∈ F) (h_items : Fld.items ∈ F) (h_groups : Fld.groups ∈ F) (h_regs : Fld.regs ∈ F) (h_rsto : Fld.rsto ∈ F) (h_pp : Fld.pp ∈ F) (h_chg : Fld.chg ∈ F) (h_gauge : Fld.gauge ∈ F) (h_log : Fld.log ∈ F) (h_faultLine : Fld.faultLine ∈ F) (h_safeN : Fld.safeN ∈ F) (h_evc : Fld.evc ∈ F) (h_tw : Fld.tw ∈ F) (h_can : Fld.can ∈ F) (h_update : Fld.update ∈ F) (h_freeCtr : Fld.freeCtr ∈ F) (g : Fin 8) (s : State) :
    rest F (powerUp g s) = rest F s := by
  unfold powerUp; simp [*]

@[simp] theorem requestRow_rest {F : List Fld} (h_settings : Fld.settings ∈ F) (h_mram : Fld.mram ∈ F) (h_nv : Fld.nv ∈ F) (h_links : Fld.links ∈ F) (h_boot : Fld.boot ∈ F) (h_sk : Fld.sk ∈ F) (h_pwr : Fld.pwr ∈ F) (h_zin : Fld.zin ∈ F) (h_fo : Fld.fo ∈ F) (h_zbus : Fld.zbus ∈ F) (h_rails : Fld.rails ∈ F) (h_phases : Fld.phases ∈ F) (h_gangs : Fld.gangs ∈ F) (h_dies : Fld.dies ∈ F) (h_items : Fld.items ∈ F) (h_groups : Fld.groups ∈ F) (h_regs : Fld.regs ∈ F) (h_rsto : Fld.rsto ∈ F) (h_pp : Fld.pp ∈ F) (h_chg : Fld.chg ∈ F) (h_gauge : Fld.gauge ∈ F) (h_log : Fld.log ∈ F) (h_faultLine : Fld.faultLine ∈ F) (h_safeN : Fld.safeN ∈ F) (h_evc : Fld.evc ∈ F) (h_tw : Fld.tw ∈ F) (h_can : Fld.can ∈ F) (h_update : Fld.update ∈ F) (h_freeCtr : Fld.freeCtr ∈ F) (g : Fin 8) (s : State) :
    rest F (requestRow g s) = rest F s := by
  unfold requestRow; simp [*]

@[simp] theorem requestDown_rest {F : List Fld} (h_nv : Fld.nv ∈ F) (h_links : Fld.links ∈ F) (h_fo : Fld.fo ∈ F) (h_rails : Fld.rails ∈ F) (h_phases : Fld.phases ∈ F) (h_dies : Fld.dies ∈ F) (h_items : Fld.items ∈ F) (h_groups : Fld.groups ∈ F) (h_regs : Fld.regs ∈ F) (h_rsto : Fld.rsto ∈ F) (h_log : Fld.log ∈ F) (h_evc : Fld.evc ∈ F) (h_tw : Fld.tw ∈ F) (h_freeCtr : Fld.freeCtr ∈ F) (g : Fin 8) (s : State) :
    rest F (requestDown g s) = rest F s := by
  unfold requestDown; (repeat' split) <;> simp [*]

@[simp] theorem skGoDown_rest {F : List Fld} (h_nv : Fld.nv ∈ F) (h_links : Fld.links ∈ F) (h_rails : Fld.rails ∈ F) (h_phases : Fld.phases ∈ F) (h_dies : Fld.dies ∈ F) (h_log : Fld.log ∈ F) (h_evc : Fld.evc ∈ F) (h_tw : Fld.tw ∈ F) (h_freeCtr : Fld.freeCtr ∈ F) (s : State) :
    rest F (skGoDown s) = rest F s := by
  unfold skGoDown; simp [*]

@[simp] theorem seqSettle_rest {F : List Fld} (h_settings : Fld.settings ∈ F) (h_mram : Fld.mram ∈ F) (h_nv : Fld.nv ∈ F) (h_links : Fld.links ∈ F) (h_boot : Fld.boot ∈ F) (h_sk : Fld.sk ∈ F) (h_pwr : Fld.pwr ∈ F) (h_zin : Fld.zin ∈ F) (h_fo : Fld.fo ∈ F) (h_zbus : Fld.zbus ∈ F) (h_rails : Fld.rails ∈ F) (h_phases : Fld.phases ∈ F) (h_gangs : Fld.gangs ∈ F) (h_dies : Fld.dies ∈ F) (h_items : Fld.items ∈ F) (h_groups : Fld.groups ∈ F) (h_regs : Fld.regs ∈ F) (h_rsto : Fld.rsto ∈ F) (h_pp : Fld.pp ∈ F) (h_chg : Fld.chg ∈ F) (h_gauge : Fld.gauge ∈ F) (h_log : Fld.log ∈ F) (h_faultLine : Fld.faultLine ∈ F) (h_safeN : Fld.safeN ∈ F) (h_evc : Fld.evc ∈ F) (h_tw : Fld.tw ∈ F) (h_can : Fld.can ∈ F) (h_update : Fld.update ∈ F) (h_freeCtr : Fld.freeCtr ∈ F) (s : State) :
    rest F (seqSettle s) = rest F s := by
  unfold seqSettle; simp [*]

@[simp] theorem retryNow_rest {F : List Fld} (h_settings : Fld.settings ∈ F) (h_mram : Fld.mram ∈ F) (h_nv : Fld.nv ∈ F) (h_links : Fld.links ∈ F) (h_boot : Fld.boot ∈ F) (h_sk : Fld.sk ∈ F) (h_pwr : Fld.pwr ∈ F) (h_zin : Fld.zin ∈ F) (h_fo : Fld.fo ∈ F) (h_zbus : Fld.zbus ∈ F) (h_rails : Fld.rails ∈ F) (h_phases : Fld.phases ∈ F) (h_gangs : Fld.gangs ∈ F) (h_dies : Fld.dies ∈ F) (h_items : Fld.items ∈ F) (h_groups : Fld.groups ∈ F) (h_regs : Fld.regs ∈ F) (h_rsto : Fld.rsto ∈ F) (h_pp : Fld.pp ∈ F) (h_chg : Fld.chg ∈ F) (h_gauge : Fld.gauge ∈ F) (h_log : Fld.log ∈ F) (h_faultLine : Fld.faultLine ∈ F) (h_safeN : Fld.safeN ∈ F) (h_evc : Fld.evc ∈ F) (h_tw : Fld.tw ∈ F) (h_can : Fld.can ∈ F) (h_update : Fld.update ∈ F) (h_freeCtr : Fld.freeCtr ∈ F) (i : Fin 46) (s : State) :
    rest F (retryNow i s) = rest F s := by
  unfold retryNow; (repeat' split) <;> simp [*]

@[simp] theorem enPinLow_rest {F : List Fld} (h_nv : Fld.nv ∈ F) (h_links : Fld.links ∈ F) (h_rails : Fld.rails ∈ F) (h_phases : Fld.phases ∈ F) (h_dies : Fld.dies ∈ F) (h_items : Fld.items ∈ F) (h_log : Fld.log ∈ F) (h_evc : Fld.evc ∈ F) (h_tw : Fld.tw ∈ F) (h_freeCtr : Fld.freeCtr ∈ F) (r : Fin 28) (s : State) :
    rest F (enPinLow r s) = rest F s := by
  unfold enPinLow; simp [*]; (repeat' split) <;> simp [*]

@[simp] theorem enPinFree_rest {F : List Fld} (h_settings : Fld.settings ∈ F) (h_mram : Fld.mram ∈ F) (h_nv : Fld.nv ∈ F) (h_links : Fld.links ∈ F) (h_boot : Fld.boot ∈ F) (h_sk : Fld.sk ∈ F) (h_pwr : Fld.pwr ∈ F) (h_zin : Fld.zin ∈ F) (h_fo : Fld.fo ∈ F) (h_zbus : Fld.zbus ∈ F) (h_rails : Fld.rails ∈ F) (h_phases : Fld.phases ∈ F) (h_gangs : Fld.gangs ∈ F) (h_dies : Fld.dies ∈ F) (h_items : Fld.items ∈ F) (h_groups : Fld.groups ∈ F) (h_regs : Fld.regs ∈ F) (h_rsto : Fld.rsto ∈ F) (h_pp : Fld.pp ∈ F) (h_chg : Fld.chg ∈ F) (h_gauge : Fld.gauge ∈ F) (h_log : Fld.log ∈ F) (h_faultLine : Fld.faultLine ∈ F) (h_safeN : Fld.safeN ∈ F) (h_evc : Fld.evc ∈ F) (h_tw : Fld.tw ∈ F) (h_can : Fld.can ∈ F) (h_update : Fld.update ∈ F) (h_freeCtr : Fld.freeCtr ∈ F) (r : Fin 28) (s : State) :
    rest F (enPinFree r s) = rest F s := by
  unfold enPinFree; simp [*]

@[simp] theorem enPinWritten_rest {F : List Fld} (h_settings : Fld.settings ∈ F) (h_mram : Fld.mram ∈ F) (h_nv : Fld.nv ∈ F) (h_links : Fld.links ∈ F) (h_boot : Fld.boot ∈ F) (h_sk : Fld.sk ∈ F) (h_pwr : Fld.pwr ∈ F) (h_zin : Fld.zin ∈ F) (h_fo : Fld.fo ∈ F) (h_zbus : Fld.zbus ∈ F) (h_rails : Fld.rails ∈ F) (h_phases : Fld.phases ∈ F) (h_gangs : Fld.gangs ∈ F) (h_dies : Fld.dies ∈ F) (h_items : Fld.items ∈ F) (h_groups : Fld.groups ∈ F) (h_regs : Fld.regs ∈ F) (h_rsto : Fld.rsto ∈ F) (h_pp : Fld.pp ∈ F) (h_chg : Fld.chg ∈ F) (h_gauge : Fld.gauge ∈ F) (h_log : Fld.log ∈ F) (h_faultLine : Fld.faultLine ∈ F) (h_safeN : Fld.safeN ∈ F) (h_evc : Fld.evc ∈ F) (h_tw : Fld.tw ∈ F) (h_can : Fld.can ∈ F) (h_update : Fld.update ∈ F) (h_freeCtr : Fld.freeCtr ∈ F) (i : Fin 46) (s : State) :
    rest F (enPinWritten i s) = rest F s := by
  unfold enPinWritten; (repeat' split) <;> simp [*]

@[simp] theorem stopItem_rest {F : List Fld} (h_fo : Fld.fo ∈ F) (h_regs : Fld.regs ∈ F) (h_evc : Fld.evc ∈ F) (h_tw : Fld.tw ∈ F) (i : Fin 46) (s : State) :
    rest F (stopItem i s) = rest F s := by
  unfold stopItem; (repeat' split) <;> simp [*]

@[simp] theorem safeOutputs_rest {F : List Fld} (h_fo : Fld.fo ∈ F) (h_regs : Fld.regs ∈ F) (h_chg : Fld.chg ∈ F) (h_evc : Fld.evc ∈ F) (h_tw : Fld.tw ∈ F) (s : State) :
    rest F (safeOutputs s) = rest F s := by
  unfold safeOutputs; simp [*]

@[simp] theorem safeShutdowns_rest {F : List Fld} (h_nv : Fld.nv ∈ F) (h_links : Fld.links ∈ F) (h_fo : Fld.fo ∈ F) (h_rails : Fld.rails ∈ F) (h_phases : Fld.phases ∈ F) (h_dies : Fld.dies ∈ F) (h_items : Fld.items ∈ F) (h_groups : Fld.groups ∈ F) (h_regs : Fld.regs ∈ F) (h_rsto : Fld.rsto ∈ F) (h_log : Fld.log ∈ F) (h_evc : Fld.evc ∈ F) (h_tw : Fld.tw ∈ F) (h_freeCtr : Fld.freeCtr ∈ F) (l : List (Fin 46)) (s : State) :
    rest F (safeShutdowns l s) = rest F s := by
  unfold safeShutdowns
  rw [rest_foldl]
  intro a x; split <;> simp [*]

@[simp] theorem safeRailBits_rest {F : List Fld} (h_links : Fld.links ∈ F) (h_rails : Fld.rails ∈ F) (h_evc : Fld.evc ∈ F) (h_tw : Fld.tw ∈ F) (s : State) :
    rest F (safeRailBits s) = rest F s := by
  unfold safeRailBits; simp [*]

@[simp] theorem assertLine_rest {F : List Fld} (h_links : Fld.links ∈ F) (h_fo : Fld.fo ∈ F) (h_rails : Fld.rails ∈ F) (h_regs : Fld.regs ∈ F) (h_chg : Fld.chg ∈ F) (h_log : Fld.log ∈ F) (h_faultLine : Fld.faultLine ∈ F) (h_safeN : Fld.safeN ∈ F) (h_evc : Fld.evc ∈ F) (h_tw : Fld.tw ∈ F) (die : Nat) (s : State) :
    rest F (assertLine die s) = rest F s := by
  unfold assertLine; dsimp only; (repeat' first | split | (rw [rest_foldl]) | intro _ _) <;> (try simp_all) <;> (repeat' first | split | (rw [rest_foldl]) | intro _ _) <;> first | (simp [*]; done) | (simp [rest, *]; done)

@[simp] theorem classAFollow_rest {F : List Fld} (h_mram : Fld.mram ∈ F) (h_nv : Fld.nv ∈ F) (h_links : Fld.links ∈ F) (h_boot : Fld.boot ∈ F) (h_sk : Fld.sk ∈ F) (h_pwr : Fld.pwr ∈ F) (h_zin : Fld.zin ∈ F) (h_fo : Fld.fo ∈ F) (h_zbus : Fld.zbus ∈ F) (h_rails : Fld.rails ∈ F) (h_phases : Fld.phases ∈ F) (h_gangs : Fld.gangs ∈ F) (h_dies : Fld.dies ∈ F) (h_items : Fld.items ∈ F) (h_groups : Fld.groups ∈ F) (h_regs : Fld.regs ∈ F) (h_rsto : Fld.rsto ∈ F) (h_pp : Fld.pp ∈ F) (h_chg : Fld.chg ∈ F) (h_gauge : Fld.gauge ∈ F) (h_log : Fld.log ∈ F) (h_faultLine : Fld.faultLine ∈ F) (h_safeN : Fld.safeN ∈ F) (h_evc : Fld.evc ∈ F) (h_tw : Fld.tw ∈ F) (h_can : Fld.can ∈ F) (h_update : Fld.update ∈ F) (h_freeCtr : Fld.freeCtr ∈ F) (code : FaultCode) (items : List (Fin 46)) (s : State) :
    rest F (classAFollow code items s) = rest F s := by
  unfold classAFollow; (repeat' split) <;> simp [*]

@[simp] theorem classA_rest {F : List Fld} (h_mram : Fld.mram ∈ F) (h_nv : Fld.nv ∈ F) (h_links : Fld.links ∈ F) (h_boot : Fld.boot ∈ F) (h_sk : Fld.sk ∈ F) (h_pwr : Fld.pwr ∈ F) (h_zin : Fld.zin ∈ F) (h_fo : Fld.fo ∈ F) (h_zbus : Fld.zbus ∈ F) (h_rails : Fld.rails ∈ F) (h_phases : Fld.phases ∈ F) (h_gangs : Fld.gangs ∈ F) (h_dies : Fld.dies ∈ F) (h_items : Fld.items ∈ F) (h_groups : Fld.groups ∈ F) (h_regs : Fld.regs ∈ F) (h_rsto : Fld.rsto ∈ F) (h_pp : Fld.pp ∈ F) (h_chg : Fld.chg ∈ F) (h_gauge : Fld.gauge ∈ F) (h_log : Fld.log ∈ F) (h_faultLine : Fld.faultLine ∈ F) (h_safeN : Fld.safeN ∈ F) (h_evc : Fld.evc ∈ F) (h_tw : Fld.tw ∈ F) (h_can : Fld.can ∈ F) (h_update : Fld.update ∈ F) (h_freeCtr : Fld.freeCtr ∈ F) (code : FaultCode) (die src detail : Nat) (s : State) :
    rest F (classA code die src detail s) = rest F s := by
  unfold classA; simp [*]

@[simp] theorem skEndCheck_rest {F : List Fld} (h_evc : Fld.evc ∈ F) (h_tw : Fld.tw ∈ F) (was : Bool) (s : State) :
    rest F (skEndCheck was s) = rest F s := by
  unfold skEndCheck; simp [*]

@[simp] theorem skLeft_rest {F : List Fld} (h_mram : Fld.mram ∈ F) (h_nv : Fld.nv ∈ F) (h_links : Fld.links ∈ F) (h_boot : Fld.boot ∈ F) (h_sk : Fld.sk ∈ F) (h_pwr : Fld.pwr ∈ F) (h_zin : Fld.zin ∈ F) (h_fo : Fld.fo ∈ F) (h_zbus : Fld.zbus ∈ F) (h_rails : Fld.rails ∈ F) (h_phases : Fld.phases ∈ F) (h_gangs : Fld.gangs ∈ F) (h_dies : Fld.dies ∈ F) (h_items : Fld.items ∈ F) (h_groups : Fld.groups ∈ F) (h_regs : Fld.regs ∈ F) (h_rsto : Fld.rsto ∈ F) (h_pp : Fld.pp ∈ F) (h_chg : Fld.chg ∈ F) (h_gauge : Fld.gauge ∈ F) (h_log : Fld.log ∈ F) (h_faultLine : Fld.faultLine ∈ F) (h_safeN : Fld.safeN ∈ F) (h_evc : Fld.evc ∈ F) (h_tw : Fld.tw ∈ F) (h_can : Fld.can ∈ F) (h_update : Fld.update ∈ F) (h_freeCtr : Fld.freeCtr ∈ F) (x : SkLeft) (s : State) :
    rest F (skLeft x s) = rest F s := by
  unfold skLeft; simp [*]; (repeat' split) <;> simp [*]

@[simp] theorem skLeftAll_rest {F : List Fld} (h_mram : Fld.mram ∈ F) (h_nv : Fld.nv ∈ F) (h_links : Fld.links ∈ F) (h_boot : Fld.boot ∈ F) (h_sk : Fld.sk ∈ F) (h_pwr : Fld.pwr ∈ F) (h_zin : Fld.zin ∈ F) (h_fo : Fld.fo ∈ F) (h_zbus : Fld.zbus ∈ F) (h_rails : Fld.rails ∈ F) (h_phases : Fld.phases ∈ F) (h_gangs : Fld.gangs ∈ F) (h_dies : Fld.dies ∈ F) (h_items : Fld.items ∈ F) (h_groups : Fld.groups ∈ F) (h_regs : Fld.regs ∈ F) (h_rsto : Fld.rsto ∈ F) (h_pp : Fld.pp ∈ F) (h_chg : Fld.chg ∈ F) (h_gauge : Fld.gauge ∈ F) (h_log : Fld.log ∈ F) (h_faultLine : Fld.faultLine ∈ F) (h_safeN : Fld.safeN ∈ F) (h_evc : Fld.evc ∈ F) (h_tw : Fld.tw ∈ F) (h_can : Fld.can ∈ F) (h_update : Fld.update ∈ F) (h_freeCtr : Fld.freeCtr ∈ F) (s : State) :
    rest F (skLeftAll s) = rest F s := by
  unfold skLeftAll; simp [*]

@[simp] theorem skSettle_rest {F : List Fld} (h_mram : Fld.mram ∈ F) (h_nv : Fld.nv ∈ F) (h_links : Fld.links ∈ F) (h_boot : Fld.boot ∈ F) (h_sk : Fld.sk ∈ F) (h_pwr : Fld.pwr ∈ F) (h_zin : Fld.zin ∈ F) (h_fo : Fld.fo ∈ F) (h_zbus : Fld.zbus ∈ F) (h_rails : Fld.rails ∈ F) (h_phases : Fld.phases ∈ F) (h_gangs : Fld.gangs ∈ F) (h_dies : Fld.dies ∈ F) (h_items : Fld.items ∈ F) (h_groups : Fld.groups ∈ F) (h_regs : Fld.regs ∈ F) (h_rsto : Fld.rsto ∈ F) (h_pp : Fld.pp ∈ F) (h_chg : Fld.chg ∈ F) (h_gauge : Fld.gauge ∈ F) (h_log : Fld.log ∈ F) (h_faultLine : Fld.faultLine ∈ F) (h_safeN : Fld.safeN ∈ F) (h_evc : Fld.evc ∈ F) (h_tw : Fld.tw ∈ F) (h_can : Fld.can ∈ F) (h_update : Fld.update ∈ F) (h_freeCtr : Fld.freeCtr ∈ F) (s : State) :
    rest F (skSettle s) = rest F s := by
  unfold skSettle; simp [*]

@[simp] theorem classATrip_rest {F : List Fld} (h_mram : Fld.mram ∈ F) (h_nv : Fld.nv ∈ F) (h_links : Fld.links ∈ F) (h_boot : Fld.boot ∈ F) (h_sk : Fld.sk ∈ F) (h_pwr : Fld.pwr ∈ F) (h_zin : Fld.zin ∈ F) (h_fo : Fld.fo ∈ F) (h_zbus : Fld.zbus ∈ F) (h_rails : Fld.rails ∈ F) (h_phases : Fld.phases ∈ F) (h_gangs : Fld.gangs ∈ F) (h_dies : Fld.dies ∈ F) (h_items : Fld.items ∈ F) (h_groups : Fld.groups ∈ F) (h_regs : Fld.regs ∈ F) (h_rsto : Fld.rsto ∈ F) (h_pp : Fld.pp ∈ F) (h_chg : Fld.chg ∈ F) (h_gauge : Fld.gauge ∈ F) (h_log : Fld.log ∈ F) (h_faultLine : Fld.faultLine ∈ F) (h_safeN : Fld.safeN ∈ F) (h_evc : Fld.evc ∈ F) (h_tw : Fld.tw ∈ F) (h_can : Fld.can ∈ F) (h_update : Fld.update ∈ F) (h_freeCtr : Fld.freeCtr ∈ F) (rs : List (Fin 28)) (code : FaultCode) (die src detail : Nat) (s0 s : State) :
    rest F (classATrip rs code die src detail s0 s) = rest F s := by
  unfold classATrip; simp [*]

@[simp] theorem ovTrip_rest {F : List Fld} (h_mram : Fld.mram ∈ F) (h_nv : Fld.nv ∈ F) (h_links : Fld.links ∈ F) (h_boot : Fld.boot ∈ F) (h_sk : Fld.sk ∈ F) (h_pwr : Fld.pwr ∈ F) (h_zin : Fld.zin ∈ F) (h_fo : Fld.fo ∈ F) (h_zbus : Fld.zbus ∈ F) (h_rails : Fld.rails ∈ F) (h_phases : Fld.phases ∈ F) (h_gangs : Fld.gangs ∈ F) (h_dies : Fld.dies ∈ F) (h_items : Fld.items ∈ F) (h_groups : Fld.groups ∈ F) (h_regs : Fld.regs ∈ F) (h_rsto : Fld.rsto ∈ F) (h_pp : Fld.pp ∈ F) (h_chg : Fld.chg ∈ F) (h_gauge : Fld.gauge ∈ F) (h_log : Fld.log ∈ F) (h_faultLine : Fld.faultLine ∈ F) (h_safeN : Fld.safeN ∈ F) (h_evc : Fld.evc ∈ F) (h_tw : Fld.tw ∈ F) (h_can : Fld.can ∈ F) (h_update : Fld.update ∈ F) (h_freeCtr : Fld.freeCtr ∈ F) (r : Fin 28) (b : Nat) (s : State) :
    rest F (ovTrip r b s) = rest F s := by
  unfold ovTrip; (repeat' split) <;> simp [*]

@[simp] theorem ignoreClear_rest {F : List Fld} (h_links : Fld.links ∈ F) (h_rails : Fld.rails ∈ F) (h_evc : Fld.evc ∈ F) (h_tw : Fld.tw ∈ F) (r : Fin 28) (s : State) :
    rest F (ignoreClear r s) = rest F s := by
  unfold ignoreClear; simp [*]

@[simp] theorem groupsUnpark_rest {F : List Fld} (h_groups : Fld.groups ∈ F) (h_rsto : Fld.rsto ∈ F) (h_evc : Fld.evc ∈ F) (h_tw : Fld.tw ∈ F) (s : State) :
    rest F (groupsUnpark s) = rest F s := by
  unfold groupsUnpark; simp [*]

@[simp] theorem parkWithdraw_rest {F : List Fld} (h_pwr : Fld.pwr ∈ F) (h_groups : Fld.groups ∈ F) (h_rsto : Fld.rsto ∈ F) (h_evc : Fld.evc ∈ F) (h_tw : Fld.tw ∈ F) (s : State) :
    rest F (parkWithdraw s) = rest F s := by
  unfold parkWithdraw; simp [*]

@[simp] theorem wakeOn_rest {F : List Fld} (h_pwr : Fld.pwr ∈ F) (h_groups : Fld.groups ∈ F) (h_rsto : Fld.rsto ∈ F) (h_evc : Fld.evc ∈ F) (h_tw : Fld.tw ∈ F) (b : Nat) (s : State) :
    rest F (wakeOn b s) = rest F s := by
  unfold wakeOn; simp [*]

@[simp] theorem rstoReleased_rest {F : List Fld} (h_wd : Fld.wd ∈ F) (n : Fin 4) (s : State) :
    rest F (rstoReleased n s) = rest F s := by
  unfold rstoReleased; simp [*]

@[simp] theorem modCan_rest {F : List Fld} (h_can : Fld.can ∈ F) (n : Fin 4) (f : CanPort → CanPort) (s : State) :
    rest F (modCan n f s) = rest F s := by
  unfold modCan; simp [*]

@[simp] theorem canTake_rest {F : List Fld} (h_can : Fld.can ∈ F) (n : Fin 4) (s : State) :
    rest F (canTake n s) = rest F s := by
  unfold canTake; simp [*]

@[simp] theorem canStart_rest {F : List Fld} (h_can : Fld.can ∈ F) (n : Fin 4) (s : State) :
    rest F (canStart n s) = rest F s := by
  unfold canStart; simp [*]

@[simp] theorem canStartAll_rest {F : List Fld} (h_can : Fld.can ∈ F) (s : State) :
    rest F (canStartAll s) = rest F s := by
  unfold canStartAll; simp [*]

@[simp] theorem canDrop_rest {F : List Fld} (h_can : Fld.can ∈ F) (n : Fin 4) (s : State) :
    rest F (canDrop n s) = rest F s := by
  unfold canDrop; simp [*]

@[simp] theorem canStop_rest {F : List Fld} (h_can : Fld.can ∈ F) (n : Fin 4) (ph : CanPhase) (s : State) :
    rest F (canStop n ph s) = rest F s := by
  unfold canStop; simp [*]

@[simp] theorem canEvent_rest {F : List Fld} (h_evc : Fld.evc ∈ F) (h_tw : Fld.tw ∈ F) (n : Fin 4) (s : State) :
    rest F (canEvent n s) = rest F s := by
  unfold canEvent; simp [*]

@[simp] theorem canWireEnd_rest {F : List Fld} (h_can : Fld.can ∈ F) (h_freeCtr : Fld.freeCtr ∈ F) (n : Fin 4) (s : State) :
    rest F (canWireEnd n s) = rest F s := by
  unfold canWireEnd; (repeat' split) <;> simp [*]

@[simp] theorem canSend_rest {F : List Fld} (h_can : Fld.can ∈ F) (n : Fin 4) (f : CanFrame) (s : State) :
    rest F (canSend n f s) = rest F s := by
  unfold canSend; simp [*]

@[simp] theorem countAbort_rest {F : List Fld} (h_can : Fld.can ∈ F) (n : Fin 4) (c : AbortCode) (s : State) :
    rest F (countAbort n c s) = rest F s := by
  unfold countAbort; simp [*]

@[simp] theorem respond_rest {F : List Fld} (h_can : Fld.can ∈ F) (n : Fin 4) (w : PendResp) (a : Ack) (s : State) :
    rest F (respond n w a s) = rest F s := by
  unfold respond; (repeat' split) <;> simp [*]

@[simp] theorem imageAcksEnd_rest {F : List Fld} (h_can : Fld.can ∈ F) (s : State) :
    rest F (imageAcksEnd s) = rest F s := by
  unfold imageAcksEnd; (repeat' split) <;> simp [*]

@[simp] theorem updStop_rest {F : List Fld} (h_evc : Fld.evc ∈ F) (h_tw : Fld.tw ∈ F) (h_can : Fld.can ∈ F) (h_update : Fld.update ∈ F) (s : State) :
    rest F (updStop s) = rest F s := by
  unfold updStop; (repeat' split) <;> simp [*]

@[simp] theorem updPortLost_rest {F : List Fld} (h_evc : Fld.evc ∈ F) (h_tw : Fld.tw ∈ F) (h_can : Fld.can ∈ F) (h_update : Fld.update ∈ F) (p : Port) (s : State) :
    rest F (updPortLost p s) = rest F s := by
  unfold updPortLost; simp [*]

@[simp] theorem canDisabled_rest {F : List Fld} (h_evc : Fld.evc ∈ F) (h_tw : Fld.tw ∈ F) (h_can : Fld.can ∈ F) (h_update : Fld.update ∈ F) (h_freeCtr : Fld.freeCtr ∈ F) (n : Fin 4) (s : State) :
    rest F (canDisabled n s) = rest F s := by
  unfold canDisabled; simp [*]

end Sys2Proof.Laws
end

