-- ==== Sys2Proof/Laws/FramePower.lean ====
section
/-! SUPPORT. Frames of zones, Lantern bus and gauge: what each operation can change. -/

namespace Sys2Proof.Laws

open Sys2Proof.Machine

theorem execZinWindowEnter_rest {F : List Fld} (h_pwr : Fld.pwr ∈ F) (h_zin : Fld.zin ∈ F) (h_groups : Fld.groups ∈ F) (h_rsto : Fld.rsto ∈ F) (h_evc : Fld.evc ∈ F) (h_tw : Fld.tw ∈ F) (n : Fin 4) (s : State) :
    Leaves F (execZinWindowEnter n s) s := by
  unfold execZinWindowEnter; simp [*]

theorem execZinWindowExit_rest {F : List Fld} (h_nv : Fld.nv ∈ F) (h_pwr : Fld.pwr ∈ F) (h_zin : Fld.zin ∈ F) (h_groups : Fld.groups ∈ F) (h_rsto : Fld.rsto ∈ F) (h_pp : Fld.pp ∈ F) (h_log : Fld.log ∈ F) (h_evc : Fld.evc ∈ F) (h_tw : Fld.tw ∈ F) (n : Fin 4) (s : State) :
    Leaves F (execZinWindowExit n s) s := by
  unfold execZinWindowExit; (repeat' split) <;> simp [*]

theorem execZbusWindowEnter_rest {F : List Fld} (h_fo : Fld.fo ∈ F) (h_zbus : Fld.zbus ∈ F) (h_evc : Fld.evc ∈ F) (h_tw : Fld.tw ∈ F) (s : State) :
    Leaves F (execZbusWindowEnter s) s := by
  unfold execZbusWindowEnter; simp [*]

theorem execZbusWindowExit_rest {F : List Fld} (h_fo : Fld.fo ∈ F) (h_zbus : Fld.zbus ∈ F) (h_evc : Fld.evc ∈ F) (h_tw : Fld.tw ∈ F) (s : State) :
    Leaves F (execZbusWindowExit s) s := by
  unfold execZbusWindowExit; dsimp only; (repeat' first | split | (simp only [leaves_next]; rw [rest_foldl]) | intro _ _) <;> first | (simp [*]; done) | (simp [rest, *]; done)

theorem execInsertionDelayExpire_rest {F : List Fld} (h_nv : Fld.nv ∈ F) (h_zin : Fld.zin ∈ F) (h_fo : Fld.fo ∈ F) (h_pp : Fld.pp ∈ F) (h_log : Fld.log ∈ F) (h_evc : Fld.evc ∈ F) (h_tw : Fld.tw ∈ F) (c : Chan) (nearBus : Bool) (s : State) :
    Leaves F (execInsertionDelayExpire c nearBus s) s := by
  unfold execInsertionDelayExpire; (repeat' split) <;> simp [*]

theorem execRetryTimerExpire_rest {F : List Fld} (h_nv : Fld.nv ∈ F) (h_zin : Fld.zin ∈ F) (h_fo : Fld.fo ∈ F) (h_pp : Fld.pp ∈ F) (h_log : Fld.log ∈ F) (h_evc : Fld.evc ∈ F) (h_tw : Fld.tw ∈ F) (c : Chan) (nearBus : Bool) (s : State) :
    Leaves F (execRetryTimerExpire c nearBus s) s := by
  unfold execRetryTimerExpire; (repeat' split) <;> simp [*]

theorem execInrushComplete_rest {F : List Fld} (h_nv : Fld.nv ∈ F) (h_zin : Fld.zin ∈ F) (h_fo : Fld.fo ∈ F) (h_items : Fld.items ∈ F) (h_pp : Fld.pp ∈ F) (h_log : Fld.log ∈ F) (h_evc : Fld.evc ∈ F) (h_tw : Fld.tw ∈ F) (c : Chan) (s : State) :
    Leaves F (execInrushComplete c s) s := by
  unfold execInrushComplete; (repeat' split) <;> simp [*]

theorem execLimitEnter_rest {F : List Fld} (h_zin : Fld.zin ∈ F) (h_fo : Fld.fo ∈ F) (h_evc : Fld.evc ∈ F) (h_tw : Fld.tw ∈ F) (c : Chan) (sense : Nat) (s : State) :
    Leaves F (execLimitEnter c sense s) s := by
  unfold execLimitEnter; (repeat' split) <;> simp [*]

theorem execLimitRelease_rest {F : List Fld} (h_zin : Fld.zin ∈ F) (h_fo : Fld.fo ∈ F) (h_evc : Fld.evc ∈ F) (h_tw : Fld.tw ∈ F) (c : Chan) (s : State) :
    Leaves F (execLimitRelease c s) s := by
  unfold execLimitRelease; (repeat' split) <;> simp [*]

@[simp] theorem channelTrip_rest {F : List Fld} (h_mram : Fld.mram ∈ F) (h_nv : Fld.nv ∈ F) (h_links : Fld.links ∈ F) (h_boot : Fld.boot ∈ F) (h_sk : Fld.sk ∈ F) (h_pwr : Fld.pwr ∈ F) (h_zin : Fld.zin ∈ F) (h_fo : Fld.fo ∈ F) (h_zbus : Fld.zbus ∈ F) (h_rails : Fld.rails ∈ F) (h_phases : Fld.phases ∈ F) (h_gangs : Fld.gangs ∈ F) (h_dies : Fld.dies ∈ F) (h_items : Fld.items ∈ F) (h_groups : Fld.groups ∈ F) (h_regs : Fld.regs ∈ F) (h_rsto : Fld.rsto ∈ F) (h_pp : Fld.pp ∈ F) (h_chg : Fld.chg ∈ F) (h_gauge : Fld.gauge ∈ F) (h_log : Fld.log ∈ F) (h_faultLine : Fld.faultLine ∈ F) (h_safeN : Fld.safeN ∈ F) (h_evc : Fld.evc ∈ F) (h_tw : Fld.tw ∈ F) (h_can : Fld.can ∈ F) (h_update : Fld.update ∈ F) (h_freeCtr : Fld.freeCtr ∈ F) (c : Chan) (b : Nat) (s : State) :
    rest F (channelTrip c b s) = rest F s := by
  unfold channelTrip; (repeat' split) <;> simp [*]

theorem execLimitTimerExpire_rest {F : List Fld} (h_mram : Fld.mram ∈ F) (h_nv : Fld.nv ∈ F) (h_links : Fld.links ∈ F) (h_boot : Fld.boot ∈ F) (h_sk : Fld.sk ∈ F) (h_pwr : Fld.pwr ∈ F) (h_zin : Fld.zin ∈ F) (h_fo : Fld.fo ∈ F) (h_zbus : Fld.zbus ∈ F) (h_rails : Fld.rails ∈ F) (h_phases : Fld.phases ∈ F) (h_gangs : Fld.gangs ∈ F) (h_dies : Fld.dies ∈ F) (h_items : Fld.items ∈ F) (h_groups : Fld.groups ∈ F) (h_regs : Fld.regs ∈ F) (h_rsto : Fld.rsto ∈ F) (h_pp : Fld.pp ∈ F) (h_chg : Fld.chg ∈ F) (h_gauge : Fld.gauge ∈ F) (h_log : Fld.log ∈ F) (h_faultLine : Fld.faultLine ∈ F) (h_safeN : Fld.safeN ∈ F) (h_evc : Fld.evc ∈ F) (h_tw : Fld.tw ∈ F) (h_can : Fld.can ∈ F) (h_update : Fld.update ∈ F) (h_freeCtr : Fld.freeCtr ∈ F) (c : Chan) (s : State) :
    Leaves F (execLimitTimerExpire c s) s := by
  unfold execLimitTimerExpire; (repeat' split) <;> simp [*]

theorem execFastTrip_rest {F : List Fld} (h_mram : Fld.mram ∈ F) (h_nv : Fld.nv ∈ F) (h_links : Fld.links ∈ F) (h_boot : Fld.boot ∈ F) (h_sk : Fld.sk ∈ F) (h_pwr : Fld.pwr ∈ F) (h_zin : Fld.zin ∈ F) (h_fo : Fld.fo ∈ F) (h_zbus : Fld.zbus ∈ F) (h_rails : Fld.rails ∈ F) (h_phases : Fld.phases ∈ F) (h_gangs : Fld.gangs ∈ F) (h_dies : Fld.dies ∈ F) (h_items : Fld.items ∈ F) (h_groups : Fld.groups ∈ F) (h_regs : Fld.regs ∈ F) (h_rsto : Fld.rsto ∈ F) (h_pp : Fld.pp ∈ F) (h_chg : Fld.chg ∈ F) (h_gauge : Fld.gauge ∈ F) (h_log : Fld.log ∈ F) (h_faultLine : Fld.faultLine ∈ F) (h_safeN : Fld.safeN ∈ F) (h_evc : Fld.evc ∈ F) (h_tw : Fld.tw ∈ F) (h_can : Fld.can ∈ F) (h_update : Fld.update ∈ F) (h_freeCtr : Fld.freeCtr ∈ F) (c : Chan) (sense : Nat) (s : State) :
    Leaves F (execFastTrip c sense s) s := by
  unfold execFastTrip; simp [*]

@[simp] theorem coldOff_rest {F : List Fld} (h_zin : Fld.zin ∈ F) (n : Fin 4) (latch : Nat) (s : State) :
    rest F (coldOff n latch s) = rest F s := by
  unfold coldOff; simp [*]

theorem execAbsoluteTrip_rest {F : List Fld} (h_mram : Fld.mram ∈ F) (h_nv : Fld.nv ∈ F) (h_links : Fld.links ∈ F) (h_boot : Fld.boot ∈ F) (h_sk : Fld.sk ∈ F) (h_pwr : Fld.pwr ∈ F) (h_zin : Fld.zin ∈ F) (h_fo : Fld.fo ∈ F) (h_zbus : Fld.zbus ∈ F) (h_rails : Fld.rails ∈ F) (h_phases : Fld.phases ∈ F) (h_gangs : Fld.gangs ∈ F) (h_dies : Fld.dies ∈ F) (h_items : Fld.items ∈ F) (h_groups : Fld.groups ∈ F) (h_regs : Fld.regs ∈ F) (h_rsto : Fld.rsto ∈ F) (h_pp : Fld.pp ∈ F) (h_chg : Fld.chg ∈ F) (h_gauge : Fld.gauge ∈ F) (h_log : Fld.log ∈ F) (h_faultLine : Fld.faultLine ∈ F) (h_safeN : Fld.safeN ∈ F) (h_evc : Fld.evc ∈ F) (h_tw : Fld.tw ∈ F) (h_can : Fld.can ∈ F) (h_update : Fld.update ∈ F) (h_freeCtr : Fld.freeCtr ∈ F) (c : Chan) (s : State) :
    Leaves F (execAbsoluteTrip c s) s := by
  unfold execAbsoluteTrip; (repeat' split) <;> simp [*]

theorem execReverseDetected_rest {F : List Fld} (h_nv : Fld.nv ∈ F) (h_zin : Fld.zin ∈ F) (h_pp : Fld.pp ∈ F) (h_log : Fld.log ∈ F) (h_evc : Fld.evc ∈ F) (h_tw : Fld.tw ∈ F) (n : Fin 4) (s : State) :
    Leaves F (execReverseDetected n s) s := by
  unfold execReverseDetected; simp [*]

theorem execForwardDetected_rest {F : List Fld} (h_nv : Fld.nv ∈ F) (h_zin : Fld.zin ∈ F) (h_pp : Fld.pp ∈ F) (h_log : Fld.log ∈ F) (h_evc : Fld.evc ∈ F) (h_tw : Fld.tw ∈ F) (n : Fin 4) (s : State) :
    Leaves F (execForwardDetected n s) s := by
  unfold execForwardDetected; simp [*]

@[simp] theorem zinEnable_rest {F : List Fld} (h_zin : Fld.zin ∈ F) (h_evc : Fld.evc ∈ F) (h_tw : Fld.tw ∈ F) (n : Fin 4) (s : State) :
    rest F (zinEnable n s) = rest F s := by
  unfold zinEnable; (repeat' split) <;> simp [*]

@[simp] theorem zinDisable_rest {F : List Fld} (h_nv : Fld.nv ∈ F) (h_zin : Fld.zin ∈ F) (h_pp : Fld.pp ∈ F) (h_log : Fld.log ∈ F) (h_evc : Fld.evc ∈ F) (h_tw : Fld.tw ∈ F) (n : Fin 4) (s : State) :
    rest F (zinDisable n s) = rest F s := by
  unfold zinDisable; (repeat' split) <;> simp [*]

@[simp] theorem zinDisabled_rest {F : List Fld} (h_zin : Fld.zin ∈ F) (h_evc : Fld.evc ∈ F) (h_tw : Fld.tw ∈ F) (n : Fin 4) (s : State) :
    rest F (zinDisabled n s) = rest F s := by
  unfold zinDisabled; simp [*]

theorem execZinEnSet_rest {F : List Fld} (h_settings : Fld.settings ∈ F) (h_zin : Fld.zin ∈ F) (h_evc : Fld.evc ∈ F) (h_tw : Fld.tw ∈ F) (h_ack : Fld.ack ∈ F) (p : Port) (n : Fin 4) (s : State) :
    Leaves F (execZinEnSet p n s) s := by
  unfold execZinEnSet; simp [*]

theorem execZinEnClear_rest {F : List Fld} (h_settings : Fld.settings ∈ F) (h_nv : Fld.nv ∈ F) (h_zin : Fld.zin ∈ F) (h_pp : Fld.pp ∈ F) (h_log : Fld.log ∈ F) (h_evc : Fld.evc ∈ F) (h_tw : Fld.tw ∈ F) (h_ack : Fld.ack ∈ F) (p : Port) (n : Fin 4) (s : State) :
    Leaves F (execZinEnClear p n s) s := by
  unfold execZinEnClear; simp [*]

theorem execZinClear_rest {F : List Fld} (h_zin : Fld.zin ∈ F) (h_evc : Fld.evc ∈ F) (h_tw : Fld.tw ∈ F) (h_ack : Fld.ack ∈ F) (p : Port) (n : Fin 4) (value : Nat) (s : State) :
    Leaves F (execZinClear p n value s) s := by
  unfold execZinClear; (repeat' split) <;> simp [*]

theorem execFoClear_rest {F : List Fld} (h_fo : Fld.fo ∈ F) (h_evc : Fld.evc ∈ F) (h_tw : Fld.tw ∈ F) (h_ack : Fld.ack ∈ F) (p : Port) (n : Fin 8) (value : Nat) (s : State) :
    Leaves F (execFoClear p n value s) s := by
  unfold execFoClear; (repeat' split) <;> simp [*]

theorem execNormalOperationTimer_rest {F : List Fld} (h_zin : Fld.zin ∈ F) (h_fo : Fld.fo ∈ F) (c : Chan) (s : State) :
    Leaves F (execNormalOperationTimer c s) s := by
  unfold execNormalOperationTimer; (repeat' split) <;> simp [*]

theorem execColdStartQualify_rest {F : List Fld} (h_zin : Fld.zin ∈ F) (n : Fin 4) (s : State) :
    Leaves F (execColdStartQualify n s) s := by
  unfold execColdStartQualify; simp [*]

theorem execColdStartLimitTimeout_rest {F : List Fld} (h_zin : Fld.zin ∈ F) (n : Fin 4) (s : State) :
    Leaves F (execColdStartLimitTimeout n s) s := by
  unfold execColdStartLimitTimeout; simp [*]

theorem execColdStartBandExit_rest {F : List Fld} (h_zin : Fld.zin ∈ F) (n : Fin 4) (s : State) :
    Leaves F (execColdStartBandExit n s) s := by
  unfold execColdStartBandExit; simp [*]

theorem execFoGateOff_rest {F : List Fld} (h_fo : Fld.fo ∈ F) (h_evc : Fld.evc ∈ F) (h_tw : Fld.tw ∈ F) (n : Fin 8) (s : State) :
    Leaves F (execFoGateOff n s) s := by
  unfold execFoGateOff; simp [*]

theorem execPresenceLost_rest {F : List Fld} (h_pwr : Fld.pwr ∈ F) (h_fo : Fld.fo ∈ F) (h_groups : Fld.groups ∈ F) (h_rsto : Fld.rsto ∈ F) (h_evc : Fld.evc ∈ F) (h_tw : Fld.tw ∈ F) (n : Fin 8) (s : State) :
    Leaves F (execPresenceLost n s) s := by
  unfold execPresenceLost; (repeat' split) <;> simp [*]

theorem execPresenceDetected_rest {F : List Fld} (h_pwr : Fld.pwr ∈ F) (h_fo : Fld.fo ∈ F) (h_groups : Fld.groups ∈ F) (h_rsto : Fld.rsto ∈ F) (h_evc : Fld.evc ∈ F) (h_tw : Fld.tw ∈ F) (n : Fin 8) (s : State) :
    Leaves F (execPresenceDetected n s) s := by
  unfold execPresenceDetected; simp [*]

@[simp] theorem assertPfw_rest {F : List Fld} (h_zbus : Fld.zbus ∈ F) (h_evc : Fld.evc ∈ F) (h_tw : Fld.tw ∈ F) (thr slope : Bool) (s : State) :
    rest F (assertPfw thr slope s) = rest F s := by
  unfold assertPfw; simp [*]

theorem execPfwThreshold_rest {F : List Fld} (h_zbus : Fld.zbus ∈ F) (h_evc : Fld.evc ∈ F) (h_tw : Fld.tw ∈ F) (s : State) :
    Leaves F (execPfwThreshold s) s := by
  unfold execPfwThreshold; simp [*]

theorem execPfwSlopeSample_rest {F : List Fld} (h_zbus : Fld.zbus ∈ F) (h_pp : Fld.pp ∈ F) (h_evc : Fld.evc ∈ F) (h_tw : Fld.tw ∈ F) (code : Nat) (s : State) :
    Leaves F (execPfwSlopeSample code s) s := by
  unfold execPfwSlopeSample; simp [*]

theorem execPfwRelease_rest {F : List Fld} (h_zbus : Fld.zbus ∈ F) (h_evc : Fld.evc ∈ F) (h_tw : Fld.tw ∈ F) (s : State) :
    Leaves F (execPfwRelease s) s := by
  unfold execPfwRelease; simp [*]

theorem execServiceQualified_rest {F : List Fld} (h_nv : Fld.nv ∈ F) (h_pp : Fld.pp ∈ F) (h_log : Fld.log ∈ F) (h_evc : Fld.evc ∈ F) (h_tw : Fld.tw ∈ F) (s : State) :
    Leaves F (execServiceQualified s) s := by
  unfold execServiceQualified; simp [*]

theorem execServiceWindowExit_rest {F : List Fld} (h_nv : Fld.nv ∈ F) (h_pp : Fld.pp ∈ F) (h_log : Fld.log ∈ F) (h_evc : Fld.evc ∈ F) (h_tw : Fld.tw ∈ F) (s : State) :
    Leaves F (execServiceWindowExit s) s := by
  unfold execServiceWindowExit; simp [*]

theorem execServiceReverseTurnOff_rest {F : List Fld} (h_nv : Fld.nv ∈ F) (h_pp : Fld.pp ∈ F) (h_log : Fld.log ∈ F) (h_evc : Fld.evc ∈ F) (h_tw : Fld.tw ∈ F) (s : State) :
    Leaves F (execServiceReverseTurnOff s) s := by
  unfold execServiceReverseTurnOff; simp [*]

theorem execServiceDiodeConducts_rest {F : List Fld} (h_nv : Fld.nv ∈ F) (h_pp : Fld.pp ∈ F) (h_log : Fld.log ∈ F) (h_evc : Fld.evc ∈ F) (h_tw : Fld.tw ∈ F) (s : State) :
    Leaves F (execServiceDiodeConducts s) s := by
  unfold execServiceDiodeConducts; simp [*]

@[simp] theorem announce_rest {F : List Fld} (h_settings : Fld.settings ∈ F) (h_nv : Fld.nv ∈ F) (h_pp : Fld.pp ∈ F) (h_log : Fld.log ∈ F) (h_evc : Fld.evc ∈ F) (h_tw : Fld.tw ∈ F) (n : Fin 4) (value : Nat) (s : State) :
    rest F (announce n value s) = rest F s := by
  unfold announce; simp [*]

theorem execSrcAnncWrite_rest {F : List Fld} (h_settings : Fld.settings ∈ F) (h_nv : Fld.nv ∈ F) (h_pp : Fld.pp ∈ F) (h_log : Fld.log ∈ F) (h_evc : Fld.evc ∈ F) (h_tw : Fld.tw ∈ F) (h_ack : Fld.ack ∈ F) (p : Port) (n : Fin 4) (value : Nat) (s : State) :
    Leaves F (execSrcAnncWrite p n value s) s := by
  unfold execSrcAnncWrite; simp [*]

theorem execSrcAnncTimeout_rest {F : List Fld} (h_nv : Fld.nv ∈ F) (h_pp : Fld.pp ∈ F) (h_log : Fld.log ∈ F) (h_evc : Fld.evc ∈ F) (h_tw : Fld.tw ∈ F) (n : Fin 4) (s : State) :
    Leaves F (execSrcAnncTimeout n s) s := by
  unfold execSrcAnncTimeout; simp [*]

theorem execSourceTypeChange_rest {F : List Fld} (h_nv : Fld.nv ∈ F) (h_pp : Fld.pp ∈ F) (h_log : Fld.log ∈ F) (h_evc : Fld.evc ∈ F) (h_tw : Fld.tw ∈ F) (s : State) :
    Leaves F (execSourceTypeChange s) s := by
  unfold execSourceTypeChange; simp [*]

@[simp] theorem countChgTime_rest {F : List Fld} (h_mram : Fld.mram ∈ F) (h_nv : Fld.nv ∈ F) (h_chg : Fld.chg ∈ F) (h_freeCtr : Fld.freeCtr ∈ F) (s : State) :
    rest F (countChgTime s) = rest F s := by
  unfold countChgTime; (repeat' split) <;> simp [*]

@[simp] theorem overloadOp_rest {F : List Fld} (h_nv : Fld.nv ∈ F) (h_pp : Fld.pp ∈ F) (h_log : Fld.log ∈ F) (h_evc : Fld.evc ∈ F) (h_tw : Fld.tw ∈ F) (m : ChargeMeas) (s : State) :
    rest F (overloadOp m s) = rest F s := by
  unfold overloadOp; simp [*]

@[simp] theorem chargerOut_rest {F : List Fld} (h_pp : Fld.pp ∈ F) (m : ChargeMeas) (c : Rat) (s : State) :
    rest F (chargerOut m c s) = rest F s := by
  unfold chargerOut; simp [*]

@[simp] theorem lbusOp_rest {F : List Fld} (h_pp : Fld.pp ∈ F) (m : ChargeMeas) (s : State) :
    rest F (lbusOp m s) = rest F s := by
  unfold lbusOp; simp [*]

theorem execChargerControlCycle_rest {F : List Fld} (h_mram : Fld.mram ∈ F) (h_nv : Fld.nv ∈ F) (h_pp : Fld.pp ∈ F) (h_chg : Fld.chg ∈ F) (h_gauge : Fld.gauge ∈ F) (h_log : Fld.log ∈ F) (h_evc : Fld.evc ∈ F) (h_tw : Fld.tw ∈ F) (h_freeCtr : Fld.freeCtr ∈ F) (m : ChargeMeas) (s : State) :
    Leaves F (execChargerControlCycle m s) s := by
  unfold execChargerControlCycle; simp [*]

theorem execLbusGoodRise_rest {F : List Fld} (h_pp : Fld.pp ∈ F) (s : State) :
    Leaves F (execLbusGoodRise s) s := by
  unfold execLbusGoodRise; simp [*]

theorem execLbusGoodFall_rest {F : List Fld} (h_pp : Fld.pp ∈ F) (h_gauge : Fld.gauge ∈ F) (h_evc : Fld.evc ∈ F) (h_tw : Fld.tw ∈ F) (s : State) :
    Leaves F (execLbusGoodFall s) s := by
  unfold execLbusGoodFall; simp [*]

@[simp] theorem chgDisable_rest {F : List Fld} (h_chg : Fld.chg ∈ F) (h_evc : Fld.evc ∈ F) (h_tw : Fld.tw ∈ F) (s : State) :
    rest F (chgDisable s) = rest F s := by
  unfold chgDisable; (repeat' split) <;> simp [*]

@[simp] theorem chgDisabled_rest {F : List Fld} (h_chg : Fld.chg ∈ F) (h_evc : Fld.evc ∈ F) (h_tw : Fld.tw ∈ F) (s : State) :
    rest F (chgDisabled s) = rest F s := by
  unfold chgDisabled; simp [*]

theorem execChgEnSet_rest {F : List Fld} (h_settings : Fld.settings ∈ F) (h_chg : Fld.chg ∈ F) (h_evc : Fld.evc ∈ F) (h_tw : Fld.tw ∈ F) (h_ack : Fld.ack ∈ F) (p : Port) (s : State) :
    Leaves F (execChgEnSet p s) s := by
  unfold execChgEnSet; simp [*]

theorem execChgEnClear_rest {F : List Fld} (h_settings : Fld.settings ∈ F) (h_chg : Fld.chg ∈ F) (h_evc : Fld.evc ∈ F) (h_tw : Fld.tw ∈ F) (h_ack : Fld.ack ∈ F) (p : Port) (s : State) :
    Leaves F (execChgEnClear p s) s := by
  unfold execChgEnClear; simp [*]

theorem execChargeStartConditions_rest {F : List Fld} (h_pp : Fld.pp ∈ F) (h_chg : Fld.chg ∈ F) (h_gauge : Fld.gauge ∈ F) (h_evc : Fld.evc ∈ F) (h_tw : Fld.tw ∈ F) (t : Int) (v : Nat) (s : State) :
    Leaves F (execChargeStartConditions t v s) s := by
  unfold execChargeStartConditions; simp [*]

theorem execChgHbDelayEnd_rest {F : List Fld} (h_chg : Fld.chg ∈ F) (s : State) :
    Leaves F (execChgHbDelayEnd s) s := by
  unfold execChgHbDelayEnd; simp [*]

theorem execPrechargeDone_rest {F : List Fld} (h_chg : Fld.chg ∈ F) (h_evc : Fld.evc ∈ F) (h_tw : Fld.tw ∈ F) (s : State) :
    Leaves F (execPrechargeDone s) s := by
  unfold execPrechargeDone; simp [*]

theorem execPrechargeTimeout_rest {F : List Fld} (h_nv : Fld.nv ∈ F) (h_chg : Fld.chg ∈ F) (h_log : Fld.log ∈ F) (h_evc : Fld.evc ∈ F) (h_tw : Fld.tw ∈ F) (s : State) :
    Leaves F (execPrechargeTimeout s) s := by
  unfold execPrechargeTimeout; simp [*]

@[simp] theorem faultSample_rest {F : List Fld} (h_nv : Fld.nv ∈ F) (h_chg : Fld.chg ∈ F) (h_log : Fld.log ∈ F) (h_evc : Fld.evc ∈ F) (h_tw : Fld.tw ∈ F) (v : Nat) (t : Int) (s : State) :
    rest F (faultSample v t s) = rest F s := by
  unfold faultSample; simp [*]

@[simp] theorem terminate_rest {F : List Fld} (h_mram : Fld.mram ∈ F) (h_nv : Fld.nv ∈ F) (h_chg : Fld.chg ∈ F) (h_gauge : Fld.gauge ∈ F) (h_evc : Fld.evc ∈ F) (h_tw : Fld.tw ∈ F) (h_freeCtr : Fld.freeCtr ∈ F) (bits : Nat) (s : State) :
    rest F (terminate bits s) = rest F s := by
  unfold terminate; simp [*]

theorem execChargeTerminationSample_rest {F : List Fld} (h_mram : Fld.mram ∈ F) (h_nv : Fld.nv ∈ F) (h_pp : Fld.pp ∈ F) (h_chg : Fld.chg ∈ F) (h_gauge : Fld.gauge ∈ F) (h_log : Fld.log ∈ F) (h_evc : Fld.evc ∈ F) (h_tw : Fld.tw ∈ F) (h_freeCtr : Fld.freeCtr ∈ F) (v : Nat) (t : Int) (currents : List Nat) (s : State) :
    Leaves F (execChargeTerminationSample v t currents s) s := by
  unfold execChargeTerminationSample; (repeat' split) <;> simp [*]

theorem execChargeBackstop_rest {F : List Fld} (h_nv : Fld.nv ∈ F) (h_pp : Fld.pp ∈ F) (h_chg : Fld.chg ∈ F) (h_gauge : Fld.gauge ∈ F) (h_log : Fld.log ∈ F) (h_evc : Fld.evc ∈ F) (h_tw : Fld.tw ∈ F) (v : Nat) (t : Int) (swOc : Bool) (s : State) :
    Leaves F (execChargeBackstop v t swOc s) s := by
  unfold execChargeBackstop; simp [*]

theorem execPackRemoval_rest {F : List Fld} (h_mram : Fld.mram ∈ F) (h_nv : Fld.nv ∈ F) (h_pp : Fld.pp ∈ F) (h_chg : Fld.chg ∈ F) (h_gauge : Fld.gauge ∈ F) (h_log : Fld.log ∈ F) (h_evc : Fld.evc ∈ F) (h_tw : Fld.tw ∈ F) (h_freeCtr : Fld.freeCtr ∈ F) (x : RemovalSign) (s : State) :
    Leaves F (execPackRemoval x s) s := by
  unfold execPackRemoval; simp [*]

theorem execPackLost_rest {F : List Fld} (h_nv : Fld.nv ∈ F) (h_pp : Fld.pp ∈ F) (h_chg : Fld.chg ∈ F) (h_gauge : Fld.gauge ∈ F) (h_log : Fld.log ∈ F) (h_evc : Fld.evc ∈ F) (h_tw : Fld.tw ∈ F) (s : State) :
    Leaves F (execPackLost s) s := by
  unfold execPackLost; (repeat' split) <;> simp [*]

@[simp] theorem readChgFault_rest {F : List Fld} (h_chg : Fld.chg ∈ F) (s : State) :
    rest F (readChgFault s).1 = rest F s := by
  unfold readChgFault; simp [*]

theorem execChgFaultRead_rest {F : List Fld} (h_chg : Fld.chg ∈ F) (h_ack : Fld.ack ∈ F) (p : Port) (s : State) :
    Leaves F (execChgFaultRead p s) s := by
  unfold execChgFaultRead; simp [*]

theorem execSourceLost_rest {F : List Fld} (h_pp : Fld.pp ∈ F) (h_chg : Fld.chg ∈ F) (h_gauge : Fld.gauge ∈ F) (h_evc : Fld.evc ∈ F) (h_tw : Fld.tw ∈ F) (zbus : Nat) (s : State) :
    Leaves F (execSourceLost zbus s) s := by
  unfold execSourceLost; (repeat' split) <;> simp [*]

theorem execHandOverMakeDone_rest {F : List Fld} (h_pp : Fld.pp ∈ F) (h_chg : Fld.chg ∈ F) (s : State) :
    Leaves F (execHandOverMakeDone s) s := by
  unfold execHandOverMakeDone; simp [*]

theorem execHandOverBreakDone_rest {F : List Fld} (h_mram : Fld.mram ∈ F) (h_nv : Fld.nv ∈ F) (h_pp : Fld.pp ∈ F) (h_chg : Fld.chg ∈ F) (h_gauge : Fld.gauge ∈ F) (h_evc : Fld.evc ∈ F) (h_tw : Fld.tw ∈ F) (h_freeCtr : Fld.freeCtr ∈ F) (t : Nat) (s : State) :
    Leaves F (execHandOverBreakDone t s) s := by
  unfold execHandOverBreakDone; simp [*]

theorem execHandBackStart_rest {F : List Fld} (h_pp : Fld.pp ∈ F) (h_gauge : Fld.gauge ∈ F) (h_evc : Fld.evc ∈ F) (h_tw : Fld.tw ∈ F) (zbus : Nat) (s : State) :
    Leaves F (execHandBackStart zbus s) s := by
  unfold execHandBackStart; simp [*]

theorem execHandBackComplete_rest {F : List Fld} (h_nv : Fld.nv ∈ F) (h_pp : Fld.pp ∈ F) (h_chg : Fld.chg ∈ F) (h_gauge : Fld.gauge ∈ F) (h_log : Fld.log ∈ F) (h_evc : Fld.evc ∈ F) (h_tw : Fld.tw ∈ F) (s : State) :
    Leaves F (execHandBackComplete s) s := by
  unfold execHandBackComplete; simp [*]

@[simp] theorem gaugeReport_rest {F : List Fld} (h_chg : Fld.chg ∈ F) (h_gauge : Fld.gauge ∈ F) (h_evc : Fld.evc ∈ F) (h_tw : Fld.tw ∈ F) (s : State) :
    rest F (gaugeReport s) = rest F s := by
  unfold gaugeReport; simp [*]

@[simp] theorem gaugeRuns_rest {F : List Fld} (h_gauge : Fld.gauge ∈ F) (i : Int) (s : State) :
    rest F (gaugeRuns i s) = rest F s := by
  unfold gaugeRuns; simp [*]

@[simp] theorem integrate_rest {F : List Fld} (h_gauge : Fld.gauge ∈ F) (i : Int) (s : State) :
    rest F (integrate i s) = rest F s := by
  unfold integrate; simp [*]

@[simp] theorem gaugeEod_rest {F : List Fld} (h_gauge : Fld.gauge ∈ F) (h_evc : Fld.evc ∈ F) (h_tw : Fld.tw ∈ F) (v : Rat) (s : State) :
    rest F (gaugeEod v s).1 = rest F s := by
  unfold gaugeEod; simp [*]; (repeat' split) <;> simp [*]

@[simp] theorem gaugeDisagree_rest {F : List Fld} (h_nv : Fld.nv ∈ F) (h_pp : Fld.pp ∈ F) (h_gauge : Fld.gauge ∈ F) (h_log : Fld.log ∈ F) (h_evc : Fld.evc ∈ F) (h_tw : Fld.tw ∈ F) (declared : Bool) (s : State) :
    rest F (gaugeDisagree declared s) = rest F s := by
  unfold gaugeDisagree; simp [*]

@[simp] theorem learnCapacity_rest {F : List Fld} (h_mram : Fld.mram ∈ F) (h_nv : Fld.nv ∈ F) (h_gauge : Fld.gauge ∈ F) (h_evc : Fld.evc ∈ F) (h_tw : Fld.tw ∈ F) (h_freeCtr : Fld.freeCtr ∈ F) (s : State) :
    rest F (learnCapacity s) = rest F s := by
  unfold learnCapacity; simp [*]

@[simp] theorem gaugeLearn_rest {F : List Fld} (h_mram : Fld.mram ∈ F) (h_nv : Fld.nv ∈ F) (h_pp : Fld.pp ∈ F) (h_gauge : Fld.gauge ∈ F) (h_evc : Fld.evc ∈ F) (h_tw : Fld.tw ∈ F) (h_freeCtr : Fld.freeCtr ∈ F) (i t : Int) (declared : Bool) (s : State) :
    rest F (gaugeLearn i t declared s) = rest F s := by
  unfold gaugeLearn; (repeat' split) <;> simp [*]

@[simp] theorem gaugeCycles_rest {F : List Fld} (h_mram : Fld.mram ∈ F) (h_nv : Fld.nv ∈ F) (h_gauge : Fld.gauge ∈ F) (h_freeCtr : Fld.freeCtr ∈ F) (i : Int) (s : State) :
    rest F (gaugeCycles i s) = rest F s := by
  unfold gaugeCycles; simp [*]

@[simp] theorem gaugeAge_rest {F : List Fld} (h_gauge : Fld.gauge ∈ F) (s : State) :
    rest F (gaugeAge s) = rest F s := by
  unfold gaugeAge; simp [*]

theorem execGaugeEstimate_rest {F : List Fld} (h_mram : Fld.mram ∈ F) (h_nv : Fld.nv ∈ F) (h_pp : Fld.pp ∈ F) (h_chg : Fld.chg ∈ F) (h_gauge : Fld.gauge ∈ F) (h_log : Fld.log ∈ F) (h_evc : Fld.evc ∈ F) (h_tw : Fld.tw ∈ F) (h_freeCtr : Fld.freeCtr ∈ F) (vpkp : Nat) (ppI t : Int) (s : State) :
    Leaves F (execGaugeEstimate vpkp ppI t s) s := by
  unfold execGaugeEstimate; dsimp only; (repeat' split) <;> simp [*]

theorem execRestQualified_rest {F : List Fld} (h_chg : Fld.chg ∈ F) (h_gauge : Fld.gauge ∈ F) (h_evc : Fld.evc ∈ F) (h_tw : Fld.tw ∈ F) (s : State) :
    Leaves F (execRestQualified s) s := by
  unfold execRestQualified; simp [*]

theorem execGaugeStart_rest {F : List Fld} (h_pp : Fld.pp ∈ F) (h_chg : Fld.chg ∈ F) (h_gauge : Fld.gauge ∈ F) (h_evc : Fld.evc ∈ F) (h_tw : Fld.tw ∈ F) (vpkp : Nat) (closed : Bool) (s : State) :
    Leaves F (execGaugeStart vpkp closed s) s := by
  unfold execGaugeStart; simp [*]

@[simp] theorem packCellsOp_rest {F : List Fld} (h_settings : Fld.settings ∈ F) (h_pp : Fld.pp ∈ F) (h_chg : Fld.chg ∈ F) (h_gauge : Fld.gauge ∈ F) (h_evc : Fld.evc ∈ F) (h_tw : Fld.tw ∈ F) (v : Nat) (s : State) :
    rest F (packCellsOp v s) = rest F s := by
  unfold packCellsOp; simp [*]

theorem execLearnFullWaitLapse_rest {F : List Fld} (h_gauge : Fld.gauge ∈ F) (h_evc : Fld.evc ∈ F) (h_tw : Fld.tw ∈ F) (s : State) :
    Leaves F (execLearnFullWaitLapse s) s := by
  unfold execLearnFullWaitLapse; simp [*]

@[simp] theorem newPack_rest {F : List Fld} (h_mram : Fld.mram ∈ F) (h_nv : Fld.nv ∈ F) (h_pp : Fld.pp ∈ F) (h_gauge : Fld.gauge ∈ F) (h_evc : Fld.evc ∈ F) (h_tw : Fld.tw ∈ F) (h_freeCtr : Fld.freeCtr ∈ F) (s : State) :
    rest F (newPack s) = rest F s := by
  unfold newPack; simp [*]

theorem execGgNewpack_rest {F : List Fld} (h_mram : Fld.mram ∈ F) (h_nv : Fld.nv ∈ F) (h_pp : Fld.pp ∈ F) (h_gauge : Fld.gauge ∈ F) (h_evc : Fld.evc ∈ F) (h_tw : Fld.tw ∈ F) (h_ack : Fld.ack ∈ F) (h_freeCtr : Fld.freeCtr ∈ F) (p : Port) (value : Nat) (s : State) :
    Leaves F (execGgNewpack p value s) s := by
  unfold execGgNewpack; simp [*]

@[simp] theorem outCmd_rest {F : List Fld} (h_pp : Fld.pp ∈ F) (h_chg : Fld.chg ∈ F) (h_gauge : Fld.gauge ∈ F) (h_evc : Fld.evc ∈ F) (h_tw : Fld.tw ∈ F) (value : Nat) (s : State) :
    rest F (outCmd value s).1 = rest F s := by
  unfold outCmd; (repeat' split) <;> simp [*]

theorem execOutingStartCmd_rest {F : List Fld} (h_pp : Fld.pp ∈ F) (h_chg : Fld.chg ∈ F) (h_gauge : Fld.gauge ∈ F) (h_evc : Fld.evc ∈ F) (h_tw : Fld.tw ∈ F) (h_ack : Fld.ack ∈ F) (p : Port) (s : State) :
    Leaves F (execOutingStartCmd p s) s := by
  unfold execOutingStartCmd; simp [*]

theorem execOutingEndCmd_rest {F : List Fld} (h_pp : Fld.pp ∈ F) (h_chg : Fld.chg ∈ F) (h_gauge : Fld.gauge ∈ F) (h_evc : Fld.evc ∈ F) (h_tw : Fld.tw ∈ F) (h_ack : Fld.ack ∈ F) (p : Port) (s : State) :
    Leaves F (execOutingEndCmd p s) s := by
  unfold execOutingEndCmd; simp [*]

theorem execOutingTimeout_rest {F : List Fld} (h_pp : Fld.pp ∈ F) (h_gauge : Fld.gauge ∈ F) (h_evc : Fld.evc ∈ F) (h_tw : Fld.tw ∈ F) (s : State) :
    Leaves F (execOutingTimeout s) s := by
  unfold execOutingTimeout; simp [*]

@[simp] theorem writeTables_rest {F : List Fld} (h_mram : Fld.mram ∈ F) (h_nv : Fld.nv ∈ F) (h_pp : Fld.pp ∈ F) (h_gauge : Fld.gauge ∈ F) (h_evc : Fld.evc ∈ F) (h_tw : Fld.tw ∈ F) (h_freeCtr : Fld.freeCtr ∈ F) (bytes : List Byte) (s : State) :
    rest F (writeTables bytes s).1 = rest F s := by
  unfold writeTables; (repeat' split) <;> simp [*]

theorem execGgAlmTablesWrite_rest {F : List Fld} (h_mram : Fld.mram ∈ F) (h_nv : Fld.nv ∈ F) (h_pp : Fld.pp ∈ F) (h_gauge : Fld.gauge ∈ F) (h_evc : Fld.evc ∈ F) (h_tw : Fld.tw ∈ F) (h_ack : Fld.ack ∈ F) (h_freeCtr : Fld.freeCtr ∈ F) (p : Port) (bytes : List Byte) (s : State) :
    Leaves F (execGgAlmTablesWrite p bytes s) s := by
  unfold execGgAlmTablesWrite; simp [*]

theorem execWriteBackTimer_rest {F : List Fld} (h_mram : Fld.mram ∈ F) (h_nv : Fld.nv ∈ F) (h_freeCtr : Fld.freeCtr ∈ F) (s : State) :
    Leaves F (execWriteBackTimer s) s := by
  unfold execWriteBackTimer; simp [*]

theorem execAlmanacWriteBackDone_rest {F : List Fld} (h_mram : Fld.mram ∈ F) (h_nv : Fld.nv ∈ F) (h_gauge : Fld.gauge ∈ F) (h_log : Fld.log ∈ F) (h_evc : Fld.evc ∈ F) (h_tw : Fld.tw ∈ F) (h_freeCtr : Fld.freeCtr ∈ F) (ok : Bool) (s : State) :
    Leaves F (execAlmanacWriteBackDone ok s) s := by
  unfold execAlmanacWriteBackDone; (repeat' split) <;> simp [*]

end Sys2Proof.Laws
end

