-- ==== Sys2Proof/Laws/FrameRail.lean ====
section
/-! SUPPORT. Frames of rails, sequencer, clocks, Hamper and links: what each operation can change. -/

namespace Sys2Proof.Laws

open Sys2Proof.Machine

@[simp] theorem loopCommitOp_rest {F : List Fld} (h_rails : Fld.rails ∈ F) (r : Fin 28) (s : State) :
    rest F (loopCommitOp r s) = rest F s := by
  unfold loopCommitOp; simp [*]

theorem execLoopCommit_rest {F : List Fld} (h_rails : Fld.rails ∈ F) (h_ack : Fld.ack ∈ F) (p : Port) (r : Fin 28) (value : Nat) (s : State) :
    Leaves F (execLoopCommit p r value s) s := by
  unfold execLoopCommit; simp [*]

@[simp] theorem gangRequest_rest {F : List Fld} (h_gangs : Fld.gangs ∈ F) (g : Fin 4) (c : GangChange) (s : State) :
    rest F (gangRequest g c s) = rest F s := by
  unfold gangRequest; simp [*]

@[simp] theorem gangSettings_rest {F : List Fld} (h_gangs : Fld.gangs ∈ F) (g : Fin 4) (s : State) :
    rest F (gangSettings g s) = rest F s := by
  unfold gangSettings; (repeat' split) <;> simp [*]

@[simp] theorem applyGangChange_rest {F : List Fld} (h_rails : Fld.rails ∈ F) (h_phases : Fld.phases ∈ F) (h_gangs : Fld.gangs ∈ F) (h_dies : Fld.dies ∈ F) (g : Fin 4) (r : Fin 28) (c : GangChange) (s : State) :
    rest F (applyGangChange g r c s) = rest F s := by
  unfold applyGangChange; (repeat' split) <;> simp [*]

@[simp] theorem boundarySettings_rest {F : List Fld} (h_rails : Fld.rails ∈ F) (r : Fin 28) (s : State) :
    rest F (boundarySettings r s) = rest F s := by
  unfold boundarySettings; simp [*]

@[simp] theorem ocRefresh_rest {F : List Fld} (h_rails : Fld.rails ∈ F) (r : Fin 28) (s : State) :
    rest F (ocRefresh r s) = rest F s := by
  unfold ocRefresh; simp [*]

@[simp] theorem rampEnd_rest {F : List Fld} (h_settings : Fld.settings ∈ F) (h_mram : Fld.mram ∈ F) (h_nv : Fld.nv ∈ F) (h_links : Fld.links ∈ F) (h_boot : Fld.boot ∈ F) (h_sk : Fld.sk ∈ F) (h_pwr : Fld.pwr ∈ F) (h_zin : Fld.zin ∈ F) (h_fo : Fld.fo ∈ F) (h_zbus : Fld.zbus ∈ F) (h_rails : Fld.rails ∈ F) (h_phases : Fld.phases ∈ F) (h_gangs : Fld.gangs ∈ F) (h_dies : Fld.dies ∈ F) (h_items : Fld.items ∈ F) (h_groups : Fld.groups ∈ F) (h_regs : Fld.regs ∈ F) (h_rsto : Fld.rsto ∈ F) (h_pp : Fld.pp ∈ F) (h_chg : Fld.chg ∈ F) (h_gauge : Fld.gauge ∈ F) (h_log : Fld.log ∈ F) (h_faultLine : Fld.faultLine ∈ F) (h_safeN : Fld.safeN ∈ F) (h_evc : Fld.evc ∈ F) (h_tw : Fld.tw ∈ F) (h_can : Fld.can ∈ F) (h_update : Fld.update ∈ F) (h_freeCtr : Fld.freeCtr ∈ F) (r : Fin 28) (s : State) :
    rest F (rampEnd r s) = rest F s := by
  unfold rampEnd; simp [*]

@[simp] theorem snsCycle_rest {F : List Fld} (h_settings : Fld.settings ∈ F) (h_mram : Fld.mram ∈ F) (h_nv : Fld.nv ∈ F) (h_links : Fld.links ∈ F) (h_boot : Fld.boot ∈ F) (h_sk : Fld.sk ∈ F) (h_pwr : Fld.pwr ∈ F) (h_zin : Fld.zin ∈ F) (h_fo : Fld.fo ∈ F) (h_zbus : Fld.zbus ∈ F) (h_rails : Fld.rails ∈ F) (h_phases : Fld.phases ∈ F) (h_gangs : Fld.gangs ∈ F) (h_dies : Fld.dies ∈ F) (h_items : Fld.items ∈ F) (h_groups : Fld.groups ∈ F) (h_regs : Fld.regs ∈ F) (h_rsto : Fld.rsto ∈ F) (h_pp : Fld.pp ∈ F) (h_chg : Fld.chg ∈ F) (h_gauge : Fld.gauge ∈ F) (h_log : Fld.log ∈ F) (h_faultLine : Fld.faultLine ∈ F) (h_safeN : Fld.safeN ∈ F) (h_evc : Fld.evc ∈ F) (h_tw : Fld.tw ∈ F) (h_can : Fld.can ∈ F) (h_update : Fld.update ∈ F) (h_freeCtr : Fld.freeCtr ∈ F) (r : Fin 28) (m : SnsMeas) (s : State) :
    rest F (snsCycle r m s) = rest F s := by
  unfold snsCycle; simp [*]

@[simp] theorem slotFire_rest {F : List Fld} (h_rails : Fld.rails ∈ F) (h_phases : Fld.phases ∈ F) (r : Fin 28) (ph : Fin 56) (s : State) :
    rest F (slotFire r ph s) = rest F s := by
  unfold slotFire; simp [*]

@[simp] theorem runPeriod_rest {F : List Fld} (h_settings : Fld.settings ∈ F) (h_mram : Fld.mram ∈ F) (h_nv : Fld.nv ∈ F) (h_links : Fld.links ∈ F) (h_boot : Fld.boot ∈ F) (h_sk : Fld.sk ∈ F) (h_pwr : Fld.pwr ∈ F) (h_zin : Fld.zin ∈ F) (h_fo : Fld.fo ∈ F) (h_zbus : Fld.zbus ∈ F) (h_rails : Fld.rails ∈ F) (h_phases : Fld.phases ∈ F) (h_gangs : Fld.gangs ∈ F) (h_dies : Fld.dies ∈ F) (h_items : Fld.items ∈ F) (h_groups : Fld.groups ∈ F) (h_regs : Fld.regs ∈ F) (h_rsto : Fld.rsto ∈ F) (h_pp : Fld.pp ∈ F) (h_chg : Fld.chg ∈ F) (h_gauge : Fld.gauge ∈ F) (h_log : Fld.log ∈ F) (h_faultLine : Fld.faultLine ∈ F) (h_safeN : Fld.safeN ∈ F) (h_evc : Fld.evc ∈ F) (h_tw : Fld.tw ∈ F) (h_can : Fld.can ∈ F) (h_update : Fld.update ∈ F) (h_freeCtr : Fld.freeCtr ∈ F) (r : Fin 28) (i : Nat) (m : List SnsMeas) (sl : List (Nat × Fin 56)) (s : State) :
    rest F (runPeriod r i m sl s) = rest F s := by
  induction m generalizing i sl s with
  | nil => unfold runPeriod; rw [rest_foldl _ (by intro a x; simp [*])]
  | cons x m ih => unfold runPeriod; rw [ih, rest_foldl _ (by intro a x; simp [*]), snsCycle_rest] <;> assumption

@[simp] theorem takeCurrents_rest {F : List Fld} (h_phases : Fld.phases ∈ F) (r : Fin 28) (m : List SnsMeas) (s : State) :
    rest F (takeCurrents r m s) = rest F s := by
  unfold takeCurrents; dsimp only; (repeat' first | split | (rw [rest_foldl]) | intro _ _) <;> first | (simp [*]; done) | (simp [rest, *]; done)

@[simp] theorem endPeriod_rest {F : List Fld} (h_settings : Fld.settings ∈ F) (h_mram : Fld.mram ∈ F) (h_nv : Fld.nv ∈ F) (h_links : Fld.links ∈ F) (h_boot : Fld.boot ∈ F) (h_sk : Fld.sk ∈ F) (h_pwr : Fld.pwr ∈ F) (h_zin : Fld.zin ∈ F) (h_fo : Fld.fo ∈ F) (h_zbus : Fld.zbus ∈ F) (h_rails : Fld.rails ∈ F) (h_phases : Fld.phases ∈ F) (h_gangs : Fld.gangs ∈ F) (h_dies : Fld.dies ∈ F) (h_items : Fld.items ∈ F) (h_groups : Fld.groups ∈ F) (h_regs : Fld.regs ∈ F) (h_rsto : Fld.rsto ∈ F) (h_pp : Fld.pp ∈ F) (h_chg : Fld.chg ∈ F) (h_gauge : Fld.gauge ∈ F) (h_log : Fld.log ∈ F) (h_faultLine : Fld.faultLine ∈ F) (h_safeN : Fld.safeN ∈ F) (h_evc : Fld.evc ∈ F) (h_tw : Fld.tw ∈ F) (h_can : Fld.can ∈ F) (h_update : Fld.update ∈ F) (h_freeCtr : Fld.freeCtr ∈ F) (r : Fin 28) (m : List SnsMeas) (s : State) :
    rest F (endPeriod r m s) = rest F s := by
  unfold endPeriod; (repeat' split) <;> simp [*]

@[simp] theorem advanceLead_rest {F : List Fld} (h_rails : Fld.rails ∈ F) (h_dies : Fld.dies ∈ F) (r : Fin 28) (s : State) :
    rest F (advanceLead r s) = rest F s := by
  unfold advanceLead; (repeat' split) <;> simp [*]

@[simp] theorem readdEpochOp_rest {F : List Fld} (h_rails : Fld.rails ∈ F) (h_phases : Fld.phases ∈ F) (h_gangs : Fld.gangs ∈ F) (h_dies : Fld.dies ∈ F) (r : Fin 28) (s : State) :
    rest F (readdEpochOp r s) = rest F s := by
  unfold readdEpochOp; (repeat' split) <;> simp [*]

@[simp] theorem shedEnd_rest {F : List Fld} (h_rails : Fld.rails ∈ F) (h_phases : Fld.phases ∈ F) (r : Fin 28) (lv : List (Fin 56)) (s : State) :
    rest F (shedEnd r lv s) = rest F s := by
  unfold shedEnd; simp [*]

@[simp] theorem shedBegin_rest {F : List Fld} (h_rails : Fld.rails ∈ F) (h_phases : Fld.phases ∈ F) (r : Fin 28) (s : State) :
    rest F (shedBegin r s) = rest F s := by
  unfold shedBegin; (repeat' split) <;> simp [*]

@[simp] theorem boundaryPhases_rest {F : List Fld} (h_rails : Fld.rails ∈ F) (h_phases : Fld.phases ∈ F) (h_gangs : Fld.gangs ∈ F) (h_dies : Fld.dies ∈ F) (r : Fin 28) (s : State) :
    rest F (boundaryPhases r s) = rest F s := by
  unfold boundaryPhases; simp [*]; (repeat' split) <;> simp [*]

@[simp] theorem boundaryOp_rest {F : List Fld} (h_settings : Fld.settings ∈ F) (h_mram : Fld.mram ∈ F) (h_nv : Fld.nv ∈ F) (h_links : Fld.links ∈ F) (h_boot : Fld.boot ∈ F) (h_sk : Fld.sk ∈ F) (h_pwr : Fld.pwr ∈ F) (h_zin : Fld.zin ∈ F) (h_fo : Fld.fo ∈ F) (h_zbus : Fld.zbus ∈ F) (h_rails : Fld.rails ∈ F) (h_phases : Fld.phases ∈ F) (h_gangs : Fld.gangs ∈ F) (h_dies : Fld.dies ∈ F) (h_items : Fld.items ∈ F) (h_groups : Fld.groups ∈ F) (h_regs : Fld.regs ∈ F) (h_rsto : Fld.rsto ∈ F) (h_pp : Fld.pp ∈ F) (h_chg : Fld.chg ∈ F) (h_gauge : Fld.gauge ∈ F) (h_log : Fld.log ∈ F) (h_faultLine : Fld.faultLine ∈ F) (h_safeN : Fld.safeN ∈ F) (h_evc : Fld.evc ∈ F) (h_tw : Fld.tw ∈ F) (h_can : Fld.can ∈ F) (h_update : Fld.update ∈ F) (h_freeCtr : Fld.freeCtr ∈ F) (r : Fin 28) (m : List SnsMeas) (s : State) :
    rest F (boundaryOp r m s) = rest F s := by
  unfold boundaryOp; simp [*]

@[simp] theorem atBoundary_rest {F : List Fld} (h_settings : Fld.settings ∈ F) (h_mram : Fld.mram ∈ F) (h_nv : Fld.nv ∈ F) (h_links : Fld.links ∈ F) (h_boot : Fld.boot ∈ F) (h_sk : Fld.sk ∈ F) (h_pwr : Fld.pwr ∈ F) (h_zin : Fld.zin ∈ F) (h_fo : Fld.fo ∈ F) (h_zbus : Fld.zbus ∈ F) (h_rails : Fld.rails ∈ F) (h_phases : Fld.phases ∈ F) (h_gangs : Fld.gangs ∈ F) (h_dies : Fld.dies ∈ F) (h_items : Fld.items ∈ F) (h_groups : Fld.groups ∈ F) (h_regs : Fld.regs ∈ F) (h_rsto : Fld.rsto ∈ F) (h_pp : Fld.pp ∈ F) (h_chg : Fld.chg ∈ F) (h_gauge : Fld.gauge ∈ F) (h_log : Fld.log ∈ F) (h_faultLine : Fld.faultLine ∈ F) (h_safeN : Fld.safeN ∈ F) (h_evc : Fld.evc ∈ F) (h_tw : Fld.tw ∈ F) (h_can : Fld.can ∈ F) (h_update : Fld.update ∈ F) (h_freeCtr : Fld.freeCtr ∈ F) (r : Fin 28) (due : Bool) (m : List SnsMeas) (s : State) :
    Leaves F (atBoundary r due m s) s := by
  unfold atBoundary; simp [*]

theorem execPeriodBoundary_rest {F : List Fld} (h_settings : Fld.settings ∈ F) (h_mram : Fld.mram ∈ F) (h_nv : Fld.nv ∈ F) (h_links : Fld.links ∈ F) (h_boot : Fld.boot ∈ F) (h_sk : Fld.sk ∈ F) (h_pwr : Fld.pwr ∈ F) (h_zin : Fld.zin ∈ F) (h_fo : Fld.fo ∈ F) (h_zbus : Fld.zbus ∈ F) (h_rails : Fld.rails ∈ F) (h_phases : Fld.phases ∈ F) (h_gangs : Fld.gangs ∈ F) (h_dies : Fld.dies ∈ F) (h_items : Fld.items ∈ F) (h_groups : Fld.groups ∈ F) (h_regs : Fld.regs ∈ F) (h_rsto : Fld.rsto ∈ F) (h_pp : Fld.pp ∈ F) (h_chg : Fld.chg ∈ F) (h_gauge : Fld.gauge ∈ F) (h_log : Fld.log ∈ F) (h_faultLine : Fld.faultLine ∈ F) (h_safeN : Fld.safeN ∈ F) (h_evc : Fld.evc ∈ F) (h_tw : Fld.tw ∈ F) (h_can : Fld.can ∈ F) (h_update : Fld.update ∈ F) (h_freeCtr : Fld.freeCtr ∈ F) (r : Fin 28) (m : List SnsMeas) (s : State) :
    Leaves F (execPeriodBoundary r m s) s := by
  unfold execPeriodBoundary; simp [*]

theorem execRotationEpoch_rest {F : List Fld} (h_settings : Fld.settings ∈ F) (h_mram : Fld.mram ∈ F) (h_nv : Fld.nv ∈ F) (h_links : Fld.links ∈ F) (h_boot : Fld.boot ∈ F) (h_sk : Fld.sk ∈ F) (h_pwr : Fld.pwr ∈ F) (h_zin : Fld.zin ∈ F) (h_fo : Fld.fo ∈ F) (h_zbus : Fld.zbus ∈ F) (h_rails : Fld.rails ∈ F) (h_phases : Fld.phases ∈ F) (h_gangs : Fld.gangs ∈ F) (h_dies : Fld.dies ∈ F) (h_items : Fld.items ∈ F) (h_groups : Fld.groups ∈ F) (h_regs : Fld.regs ∈ F) (h_rsto : Fld.rsto ∈ F) (h_pp : Fld.pp ∈ F) (h_chg : Fld.chg ∈ F) (h_gauge : Fld.gauge ∈ F) (h_log : Fld.log ∈ F) (h_faultLine : Fld.faultLine ∈ F) (h_safeN : Fld.safeN ∈ F) (h_evc : Fld.evc ∈ F) (h_tw : Fld.tw ∈ F) (h_can : Fld.can ∈ F) (h_update : Fld.update ∈ F) (h_freeCtr : Fld.freeCtr ∈ F) (r : Fin 28) (m : List SnsMeas) (s : State) :
    Leaves F (execRotationEpoch r m s) s := by
  unfold execRotationEpoch; simp [*]

@[simp] theorem balSend_rest {F : List Fld} (h_dies : Fld.dies ∈ F) (r : Fin 28) (s : State) :
    rest F (balSend r s) = rest F s := by
  unfold balSend; (repeat' split) <;> simp [*]

@[simp] theorem balTrims_rest {F : List Fld} (h_phases : Fld.phases ∈ F) (r : Fin 28) (s : State) :
    rest F (balTrims r s) = rest F s := by
  unfold balTrims; simp [*]

@[simp] theorem balanceBoundary_rest {F : List Fld} (h_rails : Fld.rails ∈ F) (r : Fin 28) (s : State) :
    rest F (balanceBoundary r s) = rest F s := by
  unfold balanceBoundary; simp [*]

theorem execBalanceUpdate_rest {F : List Fld} (h_rails : Fld.rails ∈ F) (h_phases : Fld.phases ∈ F) (h_dies : Fld.dies ∈ F) (r : Fin 28) (s : State) :
    Leaves F (execBalanceUpdate r s) s := by
  unfold execBalanceUpdate; simp [*]

theorem execBalanceAverageTimeout_rest {F : List Fld} (h_dies : Fld.dies ∈ F) (g : Fin 4) (k : Fin 7) (s : State) :
    Leaves F (execBalanceAverageTimeout g k s) s := by
  unfold execBalanceAverageTimeout; simp [*]

theorem execGangChangeRequest_rest {F : List Fld} (h_gangs : Fld.gangs ∈ F) (g : Fin 4) (c : GangChange) (s : State) :
    Leaves F (execGangChangeRequest g c s) s := by
  unfold execGangChangeRequest; simp [*]

theorem execGangChangeAck_rest {F : List Fld} (h_gangs : Fld.gangs ∈ F) (h_dies : Fld.dies ∈ F) (g : Fin 4) (k : Fin 7) (s : State) :
    Leaves F (execGangChangeAck g k s) s := by
  unfold execGangChangeAck; simp [*]

@[simp] theorem shedAgain_rest {F : List Fld} (h_rails : Fld.rails ∈ F) (h_gangs : Fld.gangs ∈ F) (r : Fin 28) (g : Fin 4) (asked : Bool) (s : State) :
    rest F (shedAgain r g asked s) = rest F s := by
  unfold shedAgain; (repeat' split) <;> simp [*]

theorem execGangAckTimeout_rest {F : List Fld} (h_mram : Fld.mram ∈ F) (h_nv : Fld.nv ∈ F) (h_links : Fld.links ∈ F) (h_boot : Fld.boot ∈ F) (h_sk : Fld.sk ∈ F) (h_pwr : Fld.pwr ∈ F) (h_zin : Fld.zin ∈ F) (h_fo : Fld.fo ∈ F) (h_zbus : Fld.zbus ∈ F) (h_rails : Fld.rails ∈ F) (h_phases : Fld.phases ∈ F) (h_gangs : Fld.gangs ∈ F) (h_dies : Fld.dies ∈ F) (h_items : Fld.items ∈ F) (h_groups : Fld.groups ∈ F) (h_regs : Fld.regs ∈ F) (h_rsto : Fld.rsto ∈ F) (h_pp : Fld.pp ∈ F) (h_chg : Fld.chg ∈ F) (h_gauge : Fld.gauge ∈ F) (h_log : Fld.log ∈ F) (h_faultLine : Fld.faultLine ∈ F) (h_safeN : Fld.safeN ∈ F) (h_evc : Fld.evc ∈ F) (h_tw : Fld.tw ∈ F) (h_can : Fld.can ∈ F) (h_update : Fld.update ∈ F) (h_freeCtr : Fld.freeCtr ∈ F) (g : Fin 4) (s : State) :
    Leaves F (execGangAckTimeout g s) s := by
  unfold execGangAckTimeout; (repeat' split) <;> simp [*]

@[simp] theorem gangEvent_rest {F : List Fld} (h_links : Fld.links ∈ F) (h_evc : Fld.evc ∈ F) (h_tw : Fld.tw ∈ F) (k : Fin 7) (s : State) :
    rest F (gangEvent k s) = rest F s := by
  unfold gangEvent; simp [*]

@[simp] theorem followerEpoch_rest {F : List Fld} (h_nv : Fld.nv ∈ F) (h_links : Fld.links ∈ F) (h_gangs : Fld.gangs ∈ F) (h_dies : Fld.dies ∈ F) (h_log : Fld.log ∈ F) (h_evc : Fld.evc ∈ F) (h_tw : Fld.tw ∈ F) (g : Fin 4) (k : Fin 7) (s : State) :
    rest F (followerEpoch g k s) = rest F s := by
  unfold followerEpoch; simp [*]

@[simp] theorem followerReadd_rest {F : List Fld} (h_rails : Fld.rails ∈ F) (h_phases : Fld.phases ∈ F) (h_dies : Fld.dies ∈ F) (g : Fin 4) (k : Fin 7) (s : State) :
    rest F (followerReadd g k s) = rest F s := by
  unfold followerReadd; (repeat' split) <;> simp [*]

@[simp] theorem strobeOp_rest {F : List Fld} (h_nv : Fld.nv ∈ F) (h_links : Fld.links ∈ F) (h_rails : Fld.rails ∈ F) (h_phases : Fld.phases ∈ F) (h_gangs : Fld.gangs ∈ F) (h_dies : Fld.dies ∈ F) (h_log : Fld.log ∈ F) (h_evc : Fld.evc ∈ F) (h_tw : Fld.tw ∈ F) (g : Fin 4) (k : Fin 7) (ns : Nat) (s : State) :
    rest F (strobeOp g k ns s) = rest F s := by
  unfold strobeOp; simp [*]

theorem execFollowerEpochStrobe_rest {F : List Fld} (h_nv : Fld.nv ∈ F) (h_links : Fld.links ∈ F) (h_rails : Fld.rails ∈ F) (h_phases : Fld.phases ∈ F) (h_gangs : Fld.gangs ∈ F) (h_dies : Fld.dies ∈ F) (h_log : Fld.log ∈ F) (h_evc : Fld.evc ∈ F) (h_tw : Fld.tw ∈ F) (g : Fin 4) (k : Fin 7) (ns : Nat) (s : State) :
    Leaves F (execFollowerEpochStrobe g k ns s) s := by
  unfold execFollowerEpochStrobe; simp [*]

theorem execFollowerReaddStrobe_rest {F : List Fld} (h_nv : Fld.nv ∈ F) (h_links : Fld.links ∈ F) (h_rails : Fld.rails ∈ F) (h_phases : Fld.phases ∈ F) (h_gangs : Fld.gangs ∈ F) (h_dies : Fld.dies ∈ F) (h_log : Fld.log ∈ F) (h_evc : Fld.evc ∈ F) (h_tw : Fld.tw ∈ F) (g : Fin 4) (k : Fin 7) (ns : Nat) (s : State) :
    Leaves F (execFollowerReaddStrobe g k ns s) s := by
  unfold execFollowerReaddStrobe; simp [*]

@[simp] theorem startHold_rest {F : List Fld} (h_links : Fld.links ∈ F) (h_gangs : Fld.gangs ∈ F) (h_dies : Fld.dies ∈ F) (h_evc : Fld.evc ∈ F) (h_tw : Fld.tw ∈ F) (g : Fin 4) (k : Fin 7) (why : Nat) (s : State) :
    rest F (startHold g k why s) = rest F s := by
  unfold startHold; simp [*]

theorem execSyncStrobeLoss_rest {F : List Fld} (h_links : Fld.links ∈ F) (h_gangs : Fld.gangs ∈ F) (h_dies : Fld.dies ∈ F) (h_evc : Fld.evc ∈ F) (h_tw : Fld.tw ∈ F) (g : Fin 4) (k : Fin 7) (s : State) :
    Leaves F (execSyncStrobeLoss g k s) s := by
  unfold execSyncStrobeLoss; simp [*]

theorem execFollowerHoldEnd_rest {F : List Fld} (h_mram : Fld.mram ∈ F) (h_nv : Fld.nv ∈ F) (h_links : Fld.links ∈ F) (h_boot : Fld.boot ∈ F) (h_sk : Fld.sk ∈ F) (h_pwr : Fld.pwr ∈ F) (h_zin : Fld.zin ∈ F) (h_fo : Fld.fo ∈ F) (h_zbus : Fld.zbus ∈ F) (h_rails : Fld.rails ∈ F) (h_phases : Fld.phases ∈ F) (h_gangs : Fld.gangs ∈ F) (h_dies : Fld.dies ∈ F) (h_items : Fld.items ∈ F) (h_groups : Fld.groups ∈ F) (h_regs : Fld.regs ∈ F) (h_rsto : Fld.rsto ∈ F) (h_pp : Fld.pp ∈ F) (h_chg : Fld.chg ∈ F) (h_gauge : Fld.gauge ∈ F) (h_log : Fld.log ∈ F) (h_faultLine : Fld.faultLine ∈ F) (h_safeN : Fld.safeN ∈ F) (h_evc : Fld.evc ∈ F) (h_tw : Fld.tw ∈ F) (h_can : Fld.can ∈ F) (h_update : Fld.update ∈ F) (h_freeCtr : Fld.freeCtr ∈ F) (g : Fin 4) (k : Fin 7) (s : State) :
    Leaves F (execFollowerHoldEnd g k s) s := by
  unfold execFollowerHoldEnd; simp [*]

theorem execDemandLaneFail_rest {F : List Fld} (h_links : Fld.links ∈ F) (h_gangs : Fld.gangs ∈ F) (h_dies : Fld.dies ∈ F) (h_evc : Fld.evc ∈ F) (h_tw : Fld.tw ∈ F) (g : Fin 4) (k : Fin 7) (s : State) :
    Leaves F (execDemandLaneFail g k s) s := by
  unfold execDemandLaneFail; simp [*]

theorem execLaneParityError_rest {F : List Fld} (h_links : Fld.links ∈ F) (h_gangs : Fld.gangs ∈ F) (h_dies : Fld.dies ∈ F) (h_evc : Fld.evc ∈ F) (h_tw : Fld.tw ∈ F) (g : Fin 4) (k : Fin 7) (s : State) :
    Leaves F (execLaneParityError g k s) s := by
  unfold execLaneParityError; simp [*]

@[simp] theorem vsetCommand_rest {F : List Fld} (h_settings : Fld.settings ∈ F) (h_nv : Fld.nv ∈ F) (h_links : Fld.links ∈ F) (h_rails : Fld.rails ∈ F) (h_phases : Fld.phases ∈ F) (h_dies : Fld.dies ∈ F) (h_log : Fld.log ∈ F) (h_evc : Fld.evc ∈ F) (h_tw : Fld.tw ∈ F) (h_freeCtr : Fld.freeCtr ∈ F) (r : Fin 28) (mv src : Nat) (s : State) :
    rest F (vsetCommand r mv src s).1 = rest F s := by
  unfold vsetCommand; (repeat' split) <;> simp [*]

theorem execRailVsetWrite_rest {F : List Fld} (h_settings : Fld.settings ∈ F) (h_nv : Fld.nv ∈ F) (h_links : Fld.links ∈ F) (h_rails : Fld.rails ∈ F) (h_phases : Fld.phases ∈ F) (h_dies : Fld.dies ∈ F) (h_log : Fld.log ∈ F) (h_evc : Fld.evc ∈ F) (h_tw : Fld.tw ∈ F) (h_ack : Fld.ack ∈ F) (h_freeCtr : Fld.freeCtr ∈ F) (p : Port) (r : Fin 28) (mv : Nat) (s : State) :
    Leaves F (execRailVsetWrite p r mv s) s := by
  unfold execRailVsetWrite; simp [*]

theorem execSlewTargetReached_rest {F : List Fld} (h_settings : Fld.settings ∈ F) (h_mram : Fld.mram ∈ F) (h_nv : Fld.nv ∈ F) (h_links : Fld.links ∈ F) (h_boot : Fld.boot ∈ F) (h_sk : Fld.sk ∈ F) (h_pwr : Fld.pwr ∈ F) (h_zin : Fld.zin ∈ F) (h_fo : Fld.fo ∈ F) (h_zbus : Fld.zbus ∈ F) (h_rails : Fld.rails ∈ F) (h_phases : Fld.phases ∈ F) (h_gangs : Fld.gangs ∈ F) (h_dies : Fld.dies ∈ F) (h_items : Fld.items ∈ F) (h_groups : Fld.groups ∈ F) (h_regs : Fld.regs ∈ F) (h_rsto : Fld.rsto ∈ F) (h_pp : Fld.pp ∈ F) (h_chg : Fld.chg ∈ F) (h_gauge : Fld.gauge ∈ F) (h_log : Fld.log ∈ F) (h_faultLine : Fld.faultLine ∈ F) (h_safeN : Fld.safeN ∈ F) (h_evc : Fld.evc ∈ F) (h_tw : Fld.tw ∈ F) (h_can : Fld.can ∈ F) (h_update : Fld.update ∈ F) (h_freeCtr : Fld.freeCtr ∈ F) (r : Fin 28) (s : State) :
    Leaves F (execSlewTargetReached r s) s := by
  unfold execSlewTargetReached; simp [*]

theorem execTransitionQualified_rest {F : List Fld} (h_settings : Fld.settings ∈ F) (h_mram : Fld.mram ∈ F) (h_nv : Fld.nv ∈ F) (h_links : Fld.links ∈ F) (h_boot : Fld.boot ∈ F) (h_sk : Fld.sk ∈ F) (h_pwr : Fld.pwr ∈ F) (h_zin : Fld.zin ∈ F) (h_fo : Fld.fo ∈ F) (h_zbus : Fld.zbus ∈ F) (h_rails : Fld.rails ∈ F) (h_phases : Fld.phases ∈ F) (h_gangs : Fld.gangs ∈ F) (h_dies : Fld.dies ∈ F) (h_items : Fld.items ∈ F) (h_groups : Fld.groups ∈ F) (h_regs : Fld.regs ∈ F) (h_rsto : Fld.rsto ∈ F) (h_pp : Fld.pp ∈ F) (h_chg : Fld.chg ∈ F) (h_gauge : Fld.gauge ∈ F) (h_log : Fld.log ∈ F) (h_faultLine : Fld.faultLine ∈ F) (h_safeN : Fld.safeN ∈ F) (h_evc : Fld.evc ∈ F) (h_tw : Fld.tw ∈ F) (h_can : Fld.can ∈ F) (h_update : Fld.update ∈ F) (h_freeCtr : Fld.freeCtr ∈ F) (r : Fin 28) (s : State) :
    Leaves F (execTransitionQualified r s) s := by
  unfold execTransitionQualified; simp [*]

@[simp] theorem forcedHigh_rest {F : List Fld} (h_rails : Fld.rails ∈ F) (h_phases : Fld.phases ∈ F) (r : Fin 28) (s : State) :
    rest F (forcedHigh r s) = rest F s := by
  unfold forcedHigh; simp [*]

theorem execStepAlarmAssert_rest {F : List Fld} (h_links : Fld.links ∈ F) (h_rails : Fld.rails ∈ F) (h_phases : Fld.phases ∈ F) (h_gangs : Fld.gangs ∈ F) (h_evc : Fld.evc ∈ F) (h_tw : Fld.tw ∈ F) (r : Fin 28) (s : State) :
    Leaves F (execStepAlarmAssert r s) s := by
  unfold execStepAlarmAssert; (repeat' split) <;> simp [*]

@[simp] theorem stepRelease_rest {F : List Fld} (h_rails : Fld.rails ∈ F) (h_gangs : Fld.gangs ∈ F) (r : Fin 28) (s : State) :
    rest F (stepRelease r s) = rest F s := by
  unfold stepRelease; (repeat' split) <;> simp [*]

theorem execStepAlarmRelease_rest {F : List Fld} (h_rails : Fld.rails ∈ F) (h_gangs : Fld.gangs ∈ F) (r : Fin 28) (s : State) :
    Leaves F (execStepAlarmRelease r s) s := by
  unfold execStepAlarmRelease; simp [*]

theorem execStepTmaxExpire_rest {F : List Fld} (h_rails : Fld.rails ∈ F) (h_gangs : Fld.gangs ∈ F) (r : Fin 28) (s : State) :
    Leaves F (execStepTmaxExpire r s) s := by
  unfold execStepTmaxExpire; simp [*]

theorem execShedDwellExpire_rest {F : List Fld} (h_rails : Fld.rails ∈ F) (h_gangs : Fld.gangs ∈ F) (r : Fin 28) (s : State) :
    Leaves F (execShedDwellExpire r s) s := by
  unfold execShedDwellExpire; (repeat' split) <;> simp [*]

theorem execShedStart_rest {F : List Fld} (h_settings : Fld.settings ∈ F) (h_mram : Fld.mram ∈ F) (h_nv : Fld.nv ∈ F) (h_links : Fld.links ∈ F) (h_boot : Fld.boot ∈ F) (h_sk : Fld.sk ∈ F) (h_pwr : Fld.pwr ∈ F) (h_zin : Fld.zin ∈ F) (h_fo : Fld.fo ∈ F) (h_zbus : Fld.zbus ∈ F) (h_rails : Fld.rails ∈ F) (h_phases : Fld.phases ∈ F) (h_gangs : Fld.gangs ∈ F) (h_dies : Fld.dies ∈ F) (h_items : Fld.items ∈ F) (h_groups : Fld.groups ∈ F) (h_regs : Fld.regs ∈ F) (h_rsto : Fld.rsto ∈ F) (h_pp : Fld.pp ∈ F) (h_chg : Fld.chg ∈ F) (h_gauge : Fld.gauge ∈ F) (h_log : Fld.log ∈ F) (h_faultLine : Fld.faultLine ∈ F) (h_safeN : Fld.safeN ∈ F) (h_evc : Fld.evc ∈ F) (h_tw : Fld.tw ∈ F) (h_can : Fld.can ∈ F) (h_update : Fld.update ∈ F) (h_freeCtr : Fld.freeCtr ∈ F) (r : Fin 28) (m : List SnsMeas) (s : State) :
    Leaves F (execShedStart r m s) s := by
  unfold execShedStart; simp [*]

theorem execShedComplete_rest {F : List Fld} (h_settings : Fld.settings ∈ F) (h_mram : Fld.mram ∈ F) (h_nv : Fld.nv ∈ F) (h_links : Fld.links ∈ F) (h_boot : Fld.boot ∈ F) (h_sk : Fld.sk ∈ F) (h_pwr : Fld.pwr ∈ F) (h_zin : Fld.zin ∈ F) (h_fo : Fld.fo ∈ F) (h_zbus : Fld.zbus ∈ F) (h_rails : Fld.rails ∈ F) (h_phases : Fld.phases ∈ F) (h_gangs : Fld.gangs ∈ F) (h_dies : Fld.dies ∈ F) (h_items : Fld.items ∈ F) (h_groups : Fld.groups ∈ F) (h_regs : Fld.regs ∈ F) (h_rsto : Fld.rsto ∈ F) (h_pp : Fld.pp ∈ F) (h_chg : Fld.chg ∈ F) (h_gauge : Fld.gauge ∈ F) (h_log : Fld.log ∈ F) (h_faultLine : Fld.faultLine ∈ F) (h_safeN : Fld.safeN ∈ F) (h_evc : Fld.evc ∈ F) (h_tw : Fld.tw ∈ F) (h_can : Fld.can ∈ F) (h_update : Fld.update ∈ F) (h_freeCtr : Fld.freeCtr ∈ F) (r : Fin 28) (m : List SnsMeas) (s : State) :
    Leaves F (execShedComplete r m s) s := by
  unfold execShedComplete; simp [*]

theorem execAddThreshold_rest {F : List Fld} (h_rails : Fld.rails ∈ F) (h_phases : Fld.phases ∈ F) (r : Fin 28) (mA : Nat) (s : State) :
    Leaves F (execAddThreshold r mA s) s := by
  unfold execAddThreshold; simp [*]

theorem execReaddEpoch_rest {F : List Fld} (h_settings : Fld.settings ∈ F) (h_mram : Fld.mram ∈ F) (h_nv : Fld.nv ∈ F) (h_links : Fld.links ∈ F) (h_boot : Fld.boot ∈ F) (h_sk : Fld.sk ∈ F) (h_pwr : Fld.pwr ∈ F) (h_zin : Fld.zin ∈ F) (h_fo : Fld.fo ∈ F) (h_zbus : Fld.zbus ∈ F) (h_rails : Fld.rails ∈ F) (h_phases : Fld.phases ∈ F) (h_gangs : Fld.gangs ∈ F) (h_dies : Fld.dies ∈ F) (h_items : Fld.items ∈ F) (h_groups : Fld.groups ∈ F) (h_regs : Fld.regs ∈ F) (h_rsto : Fld.rsto ∈ F) (h_pp : Fld.pp ∈ F) (h_chg : Fld.chg ∈ F) (h_gauge : Fld.gauge ∈ F) (h_log : Fld.log ∈ F) (h_faultLine : Fld.faultLine ∈ F) (h_safeN : Fld.safeN ∈ F) (h_evc : Fld.evc ∈ F) (h_tw : Fld.tw ∈ F) (h_can : Fld.can ∈ F) (h_update : Fld.update ∈ F) (h_freeCtr : Fld.freeCtr ∈ F) (r : Fin 28) (m : List SnsMeas) (s : State) :
    Leaves F (execReaddEpoch r m s) s := by
  unfold execReaddEpoch; simp [*]

theorem execShedHoldoffExpire_rest {F : List Fld} (h_rails : Fld.rails ∈ F) (r : Fin 28) (s : State) :
    Leaves F (execShedHoldoffExpire r s) s := by
  unfold execShedHoldoffExpire; simp [*]

@[simp] theorem phmDisableOp_rest {F : List Fld} (h_settings : Fld.settings ∈ F) (h_rails : Fld.rails ∈ F) (h_phases : Fld.phases ∈ F) (r : Fin 28) (s : State) :
    rest F (phmDisableOp r s) = rest F s := by
  unfold phmDisableOp; simp [*]

theorem execPhmDisable_rest {F : List Fld} (h_settings : Fld.settings ∈ F) (h_rails : Fld.rails ∈ F) (h_phases : Fld.phases ∈ F) (h_ack : Fld.ack ∈ F) (p : Port) (r : Fin 28) (s : State) :
    Leaves F (execPhmDisable p r s) s := by
  unfold execPhmDisable; simp [*]

theorem execHintPinEdge_rest {F : List Fld} (h_nv : Fld.nv ∈ F) (h_links : Fld.links ∈ F) (h_rails : Fld.rails ∈ F) (h_phases : Fld.phases ∈ F) (h_dies : Fld.dies ∈ F) (h_log : Fld.log ∈ F) (h_evc : Fld.evc ∈ F) (h_tw : Fld.tw ∈ F) (h_hintAt : Fld.hintAt ∈ F) (h_freeCtr : Fld.freeCtr ∈ F) (h : Fin 2) (s : State) :
    Leaves F (execHintPinEdge h s) s := by
  unfold execHintPinEdge; simp [*]

@[simp] theorem fcRequest_rest {F : List Fld} (h_nv : Fld.nv ∈ F) (h_links : Fld.links ∈ F) (h_rails : Fld.rails ∈ F) (h_phases : Fld.phases ∈ F) (h_dies : Fld.dies ∈ F) (h_log : Fld.log ∈ F) (h_evc : Fld.evc ∈ F) (h_tw : Fld.tw ∈ F) (h_freeCtr : Fld.freeCtr ∈ F) (r : Fin 28) (value : Nat) (s : State) :
    rest F (fcRequest r value s) = rest F s := by
  unfold fcRequest; simp [*]

theorem execFcReqWrite_rest {F : List Fld} (h_nv : Fld.nv ∈ F) (h_links : Fld.links ∈ F) (h_rails : Fld.rails ∈ F) (h_phases : Fld.phases ∈ F) (h_dies : Fld.dies ∈ F) (h_log : Fld.log ∈ F) (h_evc : Fld.evc ∈ F) (h_tw : Fld.tw ∈ F) (h_ack : Fld.ack ∈ F) (h_freeCtr : Fld.freeCtr ∈ F) (p : Port) (r : Fin 28) (value : Nat) (s : State) :
    Leaves F (execFcReqWrite p r value s) s := by
  unfold execFcReqWrite; simp [*]

theorem execForecastDeadline_rest {F : List Fld} (h_nv : Fld.nv ∈ F) (h_rails : Fld.rails ∈ F) (h_log : Fld.log ∈ F) (h_evc : Fld.evc ∈ F) (h_tw : Fld.tw ∈ F) (r : Fin 28) (s : State) :
    Leaves F (execForecastDeadline r s) s := by
  unfold execForecastDeadline; simp [*]

theorem execForecastInhibitEnd_rest {F : List Fld} (h_rails : Fld.rails ∈ F) (r : Fin 28) (s : State) :
    Leaves F (execForecastInhibitEnd r s) s := by
  unfold execForecastInhibitEnd; simp [*]

@[simp] theorem trimStop_rest {F : List Fld} (h_rails : Fld.rails ∈ F) (r : Fin 28) (s : State) :
    rest F (trimStop r s) = rest F s := by
  unfold trimStop; simp [*]

@[simp] theorem trimMove_rest {F : List Fld} (h_rails : Fld.rails ∈ F) (r : Fin 28) (pins : Nat) (s : State) :
    rest F (trimMove r pins s) = rest F s := by
  unfold trimMove; simp [*]

theorem execTrimPeriod_rest {F : List Fld} (h_rails : Fld.rails ∈ F) (h_freeCtr : Fld.freeCtr ∈ F) (r : Fin 28) (s : State) :
    Leaves F (execTrimPeriod r s) s := by
  unfold execTrimPeriod; simp [*]

theorem execTrimFreeze_rest {F : List Fld} (h_rails : Fld.rails ∈ F) (r : Fin 28) (s : State) :
    Leaves F (execTrimFreeze r s) s := by
  unfold execTrimFreeze; simp [*]

@[simp] theorem trimDisableOp_rest {F : List Fld} (h_settings : Fld.settings ∈ F) (h_rails : Fld.rails ∈ F) (r : Fin 28) (s : State) :
    rest F (trimDisableOp r s) = rest F s := by
  unfold trimDisableOp; simp [*]

theorem execTrimDisable_rest {F : List Fld} (h_settings : Fld.settings ∈ F) (h_rails : Fld.rails ∈ F) (h_ack : Fld.ack ∈ F) (p : Port) (r : Fin 28) (s : State) :
    Leaves F (execTrimDisable p r s) s := by
  unfold execTrimDisable; simp [*]

@[simp] theorem stepDisableOp_rest {F : List Fld} (h_settings : Fld.settings ∈ F) (h_rails : Fld.rails ∈ F) (r : Fin 28) (s : State) :
    rest F (stepDisableOp r s) = rest F s := by
  unfold stepDisableOp; simp [*]

theorem execStepAlarmDisable_rest {F : List Fld} (h_settings : Fld.settings ∈ F) (h_rails : Fld.rails ∈ F) (h_ack : Fld.ack ∈ F) (p : Port) (r : Fin 28) (s : State) :
    Leaves F (execStepAlarmDisable p r s) s := by
  unfold execStepAlarmDisable; simp [*]

@[simp] theorem railFaultBit_rest {F : List Fld} (h_links : Fld.links ∈ F) (h_rails : Fld.rails ∈ F) (h_evc : Fld.evc ∈ F) (h_tw : Fld.tw ∈ F) (r : Fin 28) (b : Nat) (s : State) :
    rest F (railFaultBit r b s) = rest F s := by
  unfold railFaultBit; simp [*]

@[simp] theorem ovAgain_rest {F : List Fld} (h_mram : Fld.mram ∈ F) (h_nv : Fld.nv ∈ F) (h_links : Fld.links ∈ F) (h_boot : Fld.boot ∈ F) (h_sk : Fld.sk ∈ F) (h_pwr : Fld.pwr ∈ F) (h_zin : Fld.zin ∈ F) (h_fo : Fld.fo ∈ F) (h_zbus : Fld.zbus ∈ F) (h_rails : Fld.rails ∈ F) (h_phases : Fld.phases ∈ F) (h_gangs : Fld.gangs ∈ F) (h_dies : Fld.dies ∈ F) (h_items : Fld.items ∈ F) (h_groups : Fld.groups ∈ F) (h_regs : Fld.regs ∈ F) (h_rsto : Fld.rsto ∈ F) (h_pp : Fld.pp ∈ F) (h_chg : Fld.chg ∈ F) (h_gauge : Fld.gauge ∈ F) (h_log : Fld.log ∈ F) (h_faultLine : Fld.faultLine ∈ F) (h_safeN : Fld.safeN ∈ F) (h_evc : Fld.evc ∈ F) (h_tw : Fld.tw ∈ F) (h_can : Fld.can ∈ F) (h_update : Fld.update ∈ F) (h_freeCtr : Fld.freeCtr ∈ F) (r : Fin 28) (b : Nat) (s : State) :
    rest F (ovAgain r b s) = rest F s := by
  unfold ovAgain; simp [*]

theorem execOvAbsTrip_rest {F : List Fld} (h_mram : Fld.mram ∈ F) (h_nv : Fld.nv ∈ F) (h_links : Fld.links ∈ F) (h_boot : Fld.boot ∈ F) (h_sk : Fld.sk ∈ F) (h_pwr : Fld.pwr ∈ F) (h_zin : Fld.zin ∈ F) (h_fo : Fld.fo ∈ F) (h_zbus : Fld.zbus ∈ F) (h_rails : Fld.rails ∈ F) (h_phases : Fld.phases ∈ F) (h_gangs : Fld.gangs ∈ F) (h_dies : Fld.dies ∈ F) (h_items : Fld.items ∈ F) (h_groups : Fld.groups ∈ F) (h_regs : Fld.regs ∈ F) (h_rsto : Fld.rsto ∈ F) (h_pp : Fld.pp ∈ F) (h_chg : Fld.chg ∈ F) (h_gauge : Fld.gauge ∈ F) (h_log : Fld.log ∈ F) (h_faultLine : Fld.faultLine ∈ F) (h_safeN : Fld.safeN ∈ F) (h_evc : Fld.evc ∈ F) (h_tw : Fld.tw ∈ F) (h_can : Fld.can ∈ F) (h_update : Fld.update ∈ F) (h_freeCtr : Fld.freeCtr ∈ F) (r : Fin 28) (v : Nat) (s : State) :
    Leaves F (execOvAbsTrip r v s) s := by
  unfold execOvAbsTrip; simp [*]

theorem execOvTrackingTrip_rest {F : List Fld} (h_mram : Fld.mram ∈ F) (h_nv : Fld.nv ∈ F) (h_links : Fld.links ∈ F) (h_boot : Fld.boot ∈ F) (h_sk : Fld.sk ∈ F) (h_pwr : Fld.pwr ∈ F) (h_zin : Fld.zin ∈ F) (h_fo : Fld.fo ∈ F) (h_zbus : Fld.zbus ∈ F) (h_rails : Fld.rails ∈ F) (h_phases : Fld.phases ∈ F) (h_gangs : Fld.gangs ∈ F) (h_dies : Fld.dies ∈ F) (h_items : Fld.items ∈ F) (h_groups : Fld.groups ∈ F) (h_regs : Fld.regs ∈ F) (h_rsto : Fld.rsto ∈ F) (h_pp : Fld.pp ∈ F) (h_chg : Fld.chg ∈ F) (h_gauge : Fld.gauge ∈ F) (h_log : Fld.log ∈ F) (h_faultLine : Fld.faultLine ∈ F) (h_safeN : Fld.safeN ∈ F) (h_evc : Fld.evc ∈ F) (h_tw : Fld.tw ∈ F) (h_can : Fld.can ∈ F) (h_update : Fld.update ∈ F) (h_freeCtr : Fld.freeCtr ∈ F) (r : Fin 28) (v : Nat) (s : State) :
    Leaves F (execOvTrackingTrip r v s) s := by
  unfold execOvTrackingTrip; simp [*]

theorem execPgWindowChange_rest {F : List Fld} (h_links : Fld.links ∈ F) (h_rails : Fld.rails ∈ F) (h_evc : Fld.evc ∈ F) (h_tw : Fld.tw ∈ F) (r : Fin 28) (v : Nat) (s : State) :
    Leaves F (execPgWindowChange r v s) s := by
  unfold execPgWindowChange; simp [*]

@[simp] theorem timerFault_rest {F : List Fld} (h_mram : Fld.mram ∈ F) (h_nv : Fld.nv ∈ F) (h_links : Fld.links ∈ F) (h_boot : Fld.boot ∈ F) (h_sk : Fld.sk ∈ F) (h_pwr : Fld.pwr ∈ F) (h_zin : Fld.zin ∈ F) (h_fo : Fld.fo ∈ F) (h_zbus : Fld.zbus ∈ F) (h_rails : Fld.rails ∈ F) (h_phases : Fld.phases ∈ F) (h_gangs : Fld.gangs ∈ F) (h_dies : Fld.dies ∈ F) (h_items : Fld.items ∈ F) (h_groups : Fld.groups ∈ F) (h_regs : Fld.regs ∈ F) (h_rsto : Fld.rsto ∈ F) (h_pp : Fld.pp ∈ F) (h_chg : Fld.chg ∈ F) (h_gauge : Fld.gauge ∈ F) (h_log : Fld.log ∈ F) (h_faultLine : Fld.faultLine ∈ F) (h_safeN : Fld.safeN ∈ F) (h_evc : Fld.evc ∈ F) (h_tw : Fld.tw ∈ F) (h_can : Fld.can ∈ F) (h_update : Fld.update ∈ F) (h_freeCtr : Fld.freeCtr ∈ F) (r : Fin 28) (b : Nat) (code : FaultCode) (f : ItemFaultCode) (s : State) :
    rest F (timerFault r b code f s) = rest F s := by
  unfold timerFault; simp [*]

theorem execUvTimerExpire_rest {F : List Fld} (h_settings : Fld.settings ∈ F) (h_mram : Fld.mram ∈ F) (h_nv : Fld.nv ∈ F) (h_links : Fld.links ∈ F) (h_boot : Fld.boot ∈ F) (h_sk : Fld.sk ∈ F) (h_pwr : Fld.pwr ∈ F) (h_zin : Fld.zin ∈ F) (h_fo : Fld.fo ∈ F) (h_zbus : Fld.zbus ∈ F) (h_rails : Fld.rails ∈ F) (h_phases : Fld.phases ∈ F) (h_gangs : Fld.gangs ∈ F) (h_dies : Fld.dies ∈ F) (h_items : Fld.items ∈ F) (h_groups : Fld.groups ∈ F) (h_regs : Fld.regs ∈ F) (h_rsto : Fld.rsto ∈ F) (h_pp : Fld.pp ∈ F) (h_chg : Fld.chg ∈ F) (h_gauge : Fld.gauge ∈ F) (h_log : Fld.log ∈ F) (h_faultLine : Fld.faultLine ∈ F) (h_safeN : Fld.safeN ∈ F) (h_evc : Fld.evc ∈ F) (h_tw : Fld.tw ∈ F) (h_can : Fld.can ∈ F) (h_update : Fld.update ∈ F) (h_freeCtr : Fld.freeCtr ∈ F) (r : Fin 28) (s : State) :
    Leaves F (execUvTimerExpire r s) s := by
  unfold execUvTimerExpire; simp [*]

theorem execOcCondition_rest {F : List Fld} (h_links : Fld.links ∈ F) (h_rails : Fld.rails ∈ F) (h_dies : Fld.dies ∈ F) (h_evc : Fld.evc ∈ F) (h_tw : Fld.tw ∈ F) (r : Fin 28) (k : Fin 7) (mA : Int) (s : State) :
    Leaves F (execOcCondition r k mA s) s := by
  unfold execOcCondition; simp [*]

theorem execOcTimerExpire_rest {F : List Fld} (h_settings : Fld.settings ∈ F) (h_mram : Fld.mram ∈ F) (h_nv : Fld.nv ∈ F) (h_links : Fld.links ∈ F) (h_boot : Fld.boot ∈ F) (h_sk : Fld.sk ∈ F) (h_pwr : Fld.pwr ∈ F) (h_zin : Fld.zin ∈ F) (h_fo : Fld.fo ∈ F) (h_zbus : Fld.zbus ∈ F) (h_rails : Fld.rails ∈ F) (h_phases : Fld.phases ∈ F) (h_gangs : Fld.gangs ∈ F) (h_dies : Fld.dies ∈ F) (h_items : Fld.items ∈ F) (h_groups : Fld.groups ∈ F) (h_regs : Fld.regs ∈ F) (h_rsto : Fld.rsto ∈ F) (h_pp : Fld.pp ∈ F) (h_chg : Fld.chg ∈ F) (h_gauge : Fld.gauge ∈ F) (h_log : Fld.log ∈ F) (h_faultLine : Fld.faultLine ∈ F) (h_safeN : Fld.safeN ∈ F) (h_evc : Fld.evc ∈ F) (h_tw : Fld.tw ∈ F) (h_can : Fld.can ∈ F) (h_update : Fld.update ∈ F) (h_freeCtr : Fld.freeCtr ∈ F) (r : Fin 28) (s : State) :
    Leaves F (execOcTimerExpire r s) s := by
  unfold execOcTimerExpire; simp [*]

theorem execValleyLimit_rest {F : List Fld} (h_nv : Fld.nv ∈ F) (h_links : Fld.links ∈ F) (h_rails : Fld.rails ∈ F) (h_phases : Fld.phases ∈ F) (h_log : Fld.log ∈ F) (h_evc : Fld.evc ∈ F) (h_tw : Fld.tw ∈ F) (ph : Fin 56) (mA : Nat) (s : State) :
    Leaves F (execValleyLimit ph mA s) s := by
  unfold execValleyLimit; (repeat' split) <;> simp [*]

theorem execPgQualified_rest {F : List Fld} (h_settings : Fld.settings ∈ F) (h_mram : Fld.mram ∈ F) (h_nv : Fld.nv ∈ F) (h_links : Fld.links ∈ F) (h_boot : Fld.boot ∈ F) (h_sk : Fld.sk ∈ F) (h_pwr : Fld.pwr ∈ F) (h_zin : Fld.zin ∈ F) (h_fo : Fld.fo ∈ F) (h_zbus : Fld.zbus ∈ F) (h_rails : Fld.rails ∈ F) (h_phases : Fld.phases ∈ F) (h_gangs : Fld.gangs ∈ F) (h_dies : Fld.dies ∈ F) (h_items : Fld.items ∈ F) (h_groups : Fld.groups ∈ F) (h_regs : Fld.regs ∈ F) (h_rsto : Fld.rsto ∈ F) (h_pp : Fld.pp ∈ F) (h_chg : Fld.chg ∈ F) (h_gauge : Fld.gauge ∈ F) (h_log : Fld.log ∈ F) (h_faultLine : Fld.faultLine ∈ F) (h_safeN : Fld.safeN ∈ F) (h_evc : Fld.evc ∈ F) (h_tw : Fld.tw ∈ F) (h_can : Fld.can ∈ F) (h_update : Fld.update ∈ F) (h_freeCtr : Fld.freeCtr ∈ F) (r : Fin 28) (s : State) :
    Leaves F (execPgQualified r s) s := by
  unfold execPgQualified; simp [*]

theorem execPgHoldEnd_rest {F : List Fld} (h_links : Fld.links ∈ F) (h_rails : Fld.rails ∈ F) (h_evc : Fld.evc ∈ F) (h_tw : Fld.tw ∈ F) (r : Fin 28) (s : State) :
    Leaves F (execPgHoldEnd r s) s := by
  unfold execPgHoldEnd; simp [*]

@[simp] theorem fclrOp_rest {F : List Fld} (h_nv : Fld.nv ∈ F) (h_links : Fld.links ∈ F) (h_rails : Fld.rails ∈ F) (h_phases : Fld.phases ∈ F) (h_dies : Fld.dies ∈ F) (h_items : Fld.items ∈ F) (h_log : Fld.log ∈ F) (h_evc : Fld.evc ∈ F) (h_tw : Fld.tw ∈ F) (r : Fin 28) (s : State) :
    rest F (fclrOp r s).1 = rest F s := by
  unfold fclrOp; (repeat' split) <;> simp [*]

theorem execRailFclr_rest {F : List Fld} (h_nv : Fld.nv ∈ F) (h_links : Fld.links ∈ F) (h_rails : Fld.rails ∈ F) (h_phases : Fld.phases ∈ F) (h_dies : Fld.dies ∈ F) (h_items : Fld.items ∈ F) (h_log : Fld.log ∈ F) (h_evc : Fld.evc ∈ F) (h_tw : Fld.tw ∈ F) (h_ack : Fld.ack ∈ F) (p : Port) (r : Fin 28) (value : Nat) (s : State) :
    Leaves F (execRailFclr p r value s) s := by
  unfold execRailFclr; (repeat' split) <;> simp [*]

@[simp] theorem stageFaultOp_rest {F : List Fld} (h_mram : Fld.mram ∈ F) (h_nv : Fld.nv ∈ F) (h_links : Fld.links ∈ F) (h_boot : Fld.boot ∈ F) (h_sk : Fld.sk ∈ F) (h_pwr : Fld.pwr ∈ F) (h_zin : Fld.zin ∈ F) (h_fo : Fld.fo ∈ F) (h_zbus : Fld.zbus ∈ F) (h_rails : Fld.rails ∈ F) (h_phases : Fld.phases ∈ F) (h_gangs : Fld.gangs ∈ F) (h_dies : Fld.dies ∈ F) (h_items : Fld.items ∈ F) (h_groups : Fld.groups ∈ F) (h_regs : Fld.regs ∈ F) (h_rsto : Fld.rsto ∈ F) (h_pp : Fld.pp ∈ F) (h_chg : Fld.chg ∈ F) (h_gauge : Fld.gauge ∈ F) (h_log : Fld.log ∈ F) (h_faultLine : Fld.faultLine ∈ F) (h_safeN : Fld.safeN ∈ F) (h_evc : Fld.evc ∈ F) (h_tw : Fld.tw ∈ F) (h_can : Fld.can ∈ F) (h_update : Fld.update ∈ F) (h_freeCtr : Fld.freeCtr ∈ F) (k : Fin 7) (s : State) :
    rest F (stageFaultOp k s) = rest F s := by
  unfold stageFaultOp; simp [*]

theorem execStageFault_rest {F : List Fld} (h_mram : Fld.mram ∈ F) (h_nv : Fld.nv ∈ F) (h_links : Fld.links ∈ F) (h_boot : Fld.boot ∈ F) (h_sk : Fld.sk ∈ F) (h_pwr : Fld.pwr ∈ F) (h_zin : Fld.zin ∈ F) (h_fo : Fld.fo ∈ F) (h_zbus : Fld.zbus ∈ F) (h_rails : Fld.rails ∈ F) (h_phases : Fld.phases ∈ F) (h_gangs : Fld.gangs ∈ F) (h_dies : Fld.dies ∈ F) (h_items : Fld.items ∈ F) (h_groups : Fld.groups ∈ F) (h_regs : Fld.regs ∈ F) (h_rsto : Fld.rsto ∈ F) (h_pp : Fld.pp ∈ F) (h_chg : Fld.chg ∈ F) (h_gauge : Fld.gauge ∈ F) (h_log : Fld.log ∈ F) (h_faultLine : Fld.faultLine ∈ F) (h_safeN : Fld.safeN ∈ F) (h_evc : Fld.evc ∈ F) (h_tw : Fld.tw ∈ F) (h_can : Fld.can ∈ F) (h_update : Fld.update ∈ F) (h_freeCtr : Fld.freeCtr ∈ F) (k : Fin 7) (s : State) :
    Leaves F (execStageFault k s) s := by
  unfold execStageFault; simp [*]

theorem execStageFaultRelease_rest {F : List Fld} (h_dies : Fld.dies ∈ F) (k : Fin 7) (s : State) :
    Leaves F (execStageFaultRelease k s) s := by
  unfold execStageFaultRelease; simp [*]

theorem execVdrLow_rest {F : List Fld} (h_mram : Fld.mram ∈ F) (h_nv : Fld.nv ∈ F) (h_links : Fld.links ∈ F) (h_boot : Fld.boot ∈ F) (h_sk : Fld.sk ∈ F) (h_pwr : Fld.pwr ∈ F) (h_zin : Fld.zin ∈ F) (h_fo : Fld.fo ∈ F) (h_zbus : Fld.zbus ∈ F) (h_rails : Fld.rails ∈ F) (h_phases : Fld.phases ∈ F) (h_gangs : Fld.gangs ∈ F) (h_dies : Fld.dies ∈ F) (h_items : Fld.items ∈ F) (h_groups : Fld.groups ∈ F) (h_regs : Fld.regs ∈ F) (h_rsto : Fld.rsto ∈ F) (h_pp : Fld.pp ∈ F) (h_chg : Fld.chg ∈ F) (h_gauge : Fld.gauge ∈ F) (h_log : Fld.log ∈ F) (h_faultLine : Fld.faultLine ∈ F) (h_safeN : Fld.safeN ∈ F) (h_evc : Fld.evc ∈ F) (h_tw : Fld.tw ∈ F) (h_can : Fld.can ∈ F) (h_update : Fld.update ∈ F) (h_freeCtr : Fld.freeCtr ∈ F) (k : Fin 7) (s : State) :
    Leaves F (execVdrLow k s) s := by
  unfold execVdrLow; simp [*]

theorem execVdrRestored_rest {F : List Fld} (h_settings : Fld.settings ∈ F) (h_mram : Fld.mram ∈ F) (h_nv : Fld.nv ∈ F) (h_links : Fld.links ∈ F) (h_boot : Fld.boot ∈ F) (h_sk : Fld.sk ∈ F) (h_pwr : Fld.pwr ∈ F) (h_zin : Fld.zin ∈ F) (h_fo : Fld.fo ∈ F) (h_zbus : Fld.zbus ∈ F) (h_rails : Fld.rails ∈ F) (h_phases : Fld.phases ∈ F) (h_gangs : Fld.gangs ∈ F) (h_dies : Fld.dies ∈ F) (h_items : Fld.items ∈ F) (h_groups : Fld.groups ∈ F) (h_regs : Fld.regs ∈ F) (h_rsto : Fld.rsto ∈ F) (h_pp : Fld.pp ∈ F) (h_chg : Fld.chg ∈ F) (h_gauge : Fld.gauge ∈ F) (h_log : Fld.log ∈ F) (h_faultLine : Fld.faultLine ∈ F) (h_safeN : Fld.safeN ∈ F) (h_evc : Fld.evc ∈ F) (h_tw : Fld.tw ∈ F) (h_can : Fld.can ∈ F) (h_update : Fld.update ∈ F) (h_freeCtr : Fld.freeCtr ∈ F) (k : Fin 7) (s : State) :
    Leaves F (execVdrRestored k s) s := by
  unfold execVdrRestored; simp [*]

@[simp] theorem groupUpOp_rest {F : List Fld} (h_settings : Fld.settings ∈ F) (h_mram : Fld.mram ∈ F) (h_nv : Fld.nv ∈ F) (h_links : Fld.links ∈ F) (h_boot : Fld.boot ∈ F) (h_sk : Fld.sk ∈ F) (h_pwr : Fld.pwr ∈ F) (h_zin : Fld.zin ∈ F) (h_fo : Fld.fo ∈ F) (h_zbus : Fld.zbus ∈ F) (h_rails : Fld.rails ∈ F) (h_phases : Fld.phases ∈ F) (h_gangs : Fld.gangs ∈ F) (h_dies : Fld.dies ∈ F) (h_items : Fld.items ∈ F) (h_groups : Fld.groups ∈ F) (h_regs : Fld.regs ∈ F) (h_rsto : Fld.rsto ∈ F) (h_pp : Fld.pp ∈ F) (h_chg : Fld.chg ∈ F) (h_gauge : Fld.gauge ∈ F) (h_log : Fld.log ∈ F) (h_faultLine : Fld.faultLine ∈ F) (h_safeN : Fld.safeN ∈ F) (h_evc : Fld.evc ∈ F) (h_tw : Fld.tw ∈ F) (h_can : Fld.can ∈ F) (h_update : Fld.update ∈ F) (h_freeCtr : Fld.freeCtr ∈ F) (g : Fin 8) (s : State) :
    rest F (groupUpOp g s).1 = rest F s := by
  unfold groupUpOp; (repeat' split) <;> simp [*]

theorem execGroupUpCmd_rest {F : List Fld} (h_settings : Fld.settings ∈ F) (h_mram : Fld.mram ∈ F) (h_nv : Fld.nv ∈ F) (h_links : Fld.links ∈ F) (h_boot : Fld.boot ∈ F) (h_sk : Fld.sk ∈ F) (h_pwr : Fld.pwr ∈ F) (h_zin : Fld.zin ∈ F) (h_fo : Fld.fo ∈ F) (h_zbus : Fld.zbus ∈ F) (h_rails : Fld.rails ∈ F) (h_phases : Fld.phases ∈ F) (h_gangs : Fld.gangs ∈ F) (h_dies : Fld.dies ∈ F) (h_items : Fld.items ∈ F) (h_groups : Fld.groups ∈ F) (h_regs : Fld.regs ∈ F) (h_rsto : Fld.rsto ∈ F) (h_pp : Fld.pp ∈ F) (h_chg : Fld.chg ∈ F) (h_gauge : Fld.gauge ∈ F) (h_log : Fld.log ∈ F) (h_faultLine : Fld.faultLine ∈ F) (h_safeN : Fld.safeN ∈ F) (h_evc : Fld.evc ∈ F) (h_tw : Fld.tw ∈ F) (h_can : Fld.can ∈ F) (h_update : Fld.update ∈ F) (h_ack : Fld.ack ∈ F) (h_freeCtr : Fld.freeCtr ∈ F) (p : Port) (g : Fin 8) (s : State) :
    Leaves F (execGroupUpCmd p g s) s := by
  unfold execGroupUpCmd; simp [*]

theorem execGroupDownCmd_rest {F : List Fld} (h_nv : Fld.nv ∈ F) (h_links : Fld.links ∈ F) (h_fo : Fld.fo ∈ F) (h_rails : Fld.rails ∈ F) (h_phases : Fld.phases ∈ F) (h_dies : Fld.dies ∈ F) (h_items : Fld.items ∈ F) (h_groups : Fld.groups ∈ F) (h_regs : Fld.regs ∈ F) (h_rsto : Fld.rsto ∈ F) (h_log : Fld.log ∈ F) (h_evc : Fld.evc ∈ F) (h_tw : Fld.tw ∈ F) (h_ack : Fld.ack ∈ F) (h_freeCtr : Fld.freeCtr ∈ F) (p : Port) (g : Fin 8) (s : State) :
    Leaves F (execGroupDownCmd p g s) s := by
  unfold execGroupDownCmd; simp [*]

theorem execGroupInputQualified_rest {F : List Fld} (h_settings : Fld.settings ∈ F) (h_mram : Fld.mram ∈ F) (h_nv : Fld.nv ∈ F) (h_links : Fld.links ∈ F) (h_boot : Fld.boot ∈ F) (h_sk : Fld.sk ∈ F) (h_pwr : Fld.pwr ∈ F) (h_zin : Fld.zin ∈ F) (h_fo : Fld.fo ∈ F) (h_zbus : Fld.zbus ∈ F) (h_rails : Fld.rails ∈ F) (h_phases : Fld.phases ∈ F) (h_gangs : Fld.gangs ∈ F) (h_dies : Fld.dies ∈ F) (h_items : Fld.items ∈ F) (h_groups : Fld.groups ∈ F) (h_regs : Fld.regs ∈ F) (h_rsto : Fld.rsto ∈ F) (h_pp : Fld.pp ∈ F) (h_chg : Fld.chg ∈ F) (h_gauge : Fld.gauge ∈ F) (h_log : Fld.log ∈ F) (h_faultLine : Fld.faultLine ∈ F) (h_safeN : Fld.safeN ∈ F) (h_evc : Fld.evc ∈ F) (h_tw : Fld.tw ∈ F) (h_can : Fld.can ∈ F) (h_update : Fld.update ∈ F) (h_freeCtr : Fld.freeCtr ∈ F) (g : Fin 8) (s : State) :
    Leaves F (execGroupInputQualified g s) s := by
  unfold execGroupInputQualified; simp [*]

theorem execGroupInputLost_rest {F : List Fld} (h_nv : Fld.nv ∈ F) (h_links : Fld.links ∈ F) (h_fo : Fld.fo ∈ F) (h_rails : Fld.rails ∈ F) (h_phases : Fld.phases ∈ F) (h_dies : Fld.dies ∈ F) (h_items : Fld.items ∈ F) (h_groups : Fld.groups ∈ F) (h_regs : Fld.regs ∈ F) (h_rsto : Fld.rsto ∈ F) (h_log : Fld.log ∈ F) (h_evc : Fld.evc ∈ F) (h_tw : Fld.tw ∈ F) (h_freeCtr : Fld.freeCtr ∈ F) (g : Fin 8) (s : State) :
    Leaves F (execGroupInputLost g s) s := by
  unfold execGroupInputLost; (repeat' split) <;> simp [*]

theorem execStepDelayEnd_rest {F : List Fld} (h_settings : Fld.settings ∈ F) (h_mram : Fld.mram ∈ F) (h_nv : Fld.nv ∈ F) (h_links : Fld.links ∈ F) (h_boot : Fld.boot ∈ F) (h_sk : Fld.sk ∈ F) (h_pwr : Fld.pwr ∈ F) (h_zin : Fld.zin ∈ F) (h_fo : Fld.fo ∈ F) (h_zbus : Fld.zbus ∈ F) (h_rails : Fld.rails ∈ F) (h_phases : Fld.phases ∈ F) (h_gangs : Fld.gangs ∈ F) (h_dies : Fld.dies ∈ F) (h_items : Fld.items ∈ F) (h_groups : Fld.groups ∈ F) (h_regs : Fld.regs ∈ F) (h_rsto : Fld.rsto ∈ F) (h_pp : Fld.pp ∈ F) (h_chg : Fld.chg ∈ F) (h_gauge : Fld.gauge ∈ F) (h_log : Fld.log ∈ F) (h_faultLine : Fld.faultLine ∈ F) (h_safeN : Fld.safeN ∈ F) (h_evc : Fld.evc ∈ F) (h_tw : Fld.tw ∈ F) (h_can : Fld.can ∈ F) (h_update : Fld.update ∈ F) (h_freeCtr : Fld.freeCtr ∈ F) (g : Fin 8) (s : State) :
    Leaves F (execStepDelayEnd g s) s := by
  unfold execStepDelayEnd; (repeat' split) <;> simp [*]

theorem execItemQualified_rest {F : List Fld} (h_settings : Fld.settings ∈ F) (h_mram : Fld.mram ∈ F) (h_nv : Fld.nv ∈ F) (h_links : Fld.links ∈ F) (h_boot : Fld.boot ∈ F) (h_sk : Fld.sk ∈ F) (h_pwr : Fld.pwr ∈ F) (h_zin : Fld.zin ∈ F) (h_fo : Fld.fo ∈ F) (h_zbus : Fld.zbus ∈ F) (h_rails : Fld.rails ∈ F) (h_phases : Fld.phases ∈ F) (h_gangs : Fld.gangs ∈ F) (h_dies : Fld.dies ∈ F) (h_items : Fld.items ∈ F) (h_groups : Fld.groups ∈ F) (h_regs : Fld.regs ∈ F) (h_rsto : Fld.rsto ∈ F) (h_pp : Fld.pp ∈ F) (h_chg : Fld.chg ∈ F) (h_gauge : Fld.gauge ∈ F) (h_log : Fld.log ∈ F) (h_faultLine : Fld.faultLine ∈ F) (h_safeN : Fld.safeN ∈ F) (h_evc : Fld.evc ∈ F) (h_tw : Fld.tw ∈ F) (h_can : Fld.can ∈ F) (h_update : Fld.update ∈ F) (h_freeCtr : Fld.freeCtr ∈ F) (i : Fin 46) (s : State) :
    Leaves F (execItemQualified i s) s := by
  unfold execItemQualified; (repeat' split) <;> simp [*]

theorem execItemPgFall_rest {F : List Fld} (h_items : Fld.items ∈ F) (i : Fin 46) (s : State) :
    Leaves F (execItemPgFall i s) s := by
  unfold execItemPgFall; (repeat' split) <;> simp [*]

theorem execStepTimeout_rest {F : List Fld} (h_settings : Fld.settings ∈ F) (h_mram : Fld.mram ∈ F) (h_nv : Fld.nv ∈ F) (h_links : Fld.links ∈ F) (h_boot : Fld.boot ∈ F) (h_sk : Fld.sk ∈ F) (h_pwr : Fld.pwr ∈ F) (h_zin : Fld.zin ∈ F) (h_fo : Fld.fo ∈ F) (h_zbus : Fld.zbus ∈ F) (h_rails : Fld.rails ∈ F) (h_phases : Fld.phases ∈ F) (h_gangs : Fld.gangs ∈ F) (h_dies : Fld.dies ∈ F) (h_items : Fld.items ∈ F) (h_groups : Fld.groups ∈ F) (h_regs : Fld.regs ∈ F) (h_rsto : Fld.rsto ∈ F) (h_pp : Fld.pp ∈ F) (h_chg : Fld.chg ∈ F) (h_gauge : Fld.gauge ∈ F) (h_log : Fld.log ∈ F) (h_faultLine : Fld.faultLine ∈ F) (h_safeN : Fld.safeN ∈ F) (h_evc : Fld.evc ∈ F) (h_tw : Fld.tw ∈ F) (h_can : Fld.can ∈ F) (h_update : Fld.update ∈ F) (h_freeCtr : Fld.freeCtr ∈ F) (g : Fin 8) (retried : Option (Fin 46)) (s : State) :
    Leaves F (execStepTimeout g retried s) s := by
  unfold execStepTimeout; (repeat' split) <;> simp [*]

theorem execItemOff_rest {F : List Fld} (h_nv : Fld.nv ∈ F) (h_links : Fld.links ∈ F) (h_fo : Fld.fo ∈ F) (h_rails : Fld.rails ∈ F) (h_phases : Fld.phases ∈ F) (h_dies : Fld.dies ∈ F) (h_items : Fld.items ∈ F) (h_groups : Fld.groups ∈ F) (h_regs : Fld.regs ∈ F) (h_rsto : Fld.rsto ∈ F) (h_log : Fld.log ∈ F) (h_evc : Fld.evc ∈ F) (h_tw : Fld.tw ∈ F) (h_freeCtr : Fld.freeCtr ∈ F) (i : Fin 46) (s : State) :
    Leaves F (execItemOff i s) s := by
  unfold execItemOff; (repeat' split) <;> simp [*]

@[simp] theorem forceOff_rest {F : List Fld} (h_nv : Fld.nv ∈ F) (h_links : Fld.links ∈ F) (h_fo : Fld.fo ∈ F) (h_rails : Fld.rails ∈ F) (h_phases : Fld.phases ∈ F) (h_dies : Fld.dies ∈ F) (h_items : Fld.items ∈ F) (h_regs : Fld.regs ∈ F) (h_log : Fld.log ∈ F) (h_evc : Fld.evc ∈ F) (h_tw : Fld.tw ∈ F) (i : Fin 46) (s : State) :
    rest F (forceOff i s) = rest F s := by
  unfold forceOff; (repeat' split) <;> simp [*]

theorem execShutdownStepTimeout_rest {F : List Fld} (h_nv : Fld.nv ∈ F) (h_links : Fld.links ∈ F) (h_fo : Fld.fo ∈ F) (h_rails : Fld.rails ∈ F) (h_phases : Fld.phases ∈ F) (h_dies : Fld.dies ∈ F) (h_items : Fld.items ∈ F) (h_groups : Fld.groups ∈ F) (h_regs : Fld.regs ∈ F) (h_rsto : Fld.rsto ∈ F) (h_log : Fld.log ∈ F) (h_evc : Fld.evc ∈ F) (h_tw : Fld.tw ∈ F) (h_freeCtr : Fld.freeCtr ∈ F) (g : Fin 8) (s : State) :
    Leaves F (execShutdownStepTimeout g s) s := by
  unfold execShutdownStepTimeout; (repeat' split) <;> simp [*]

@[simp] theorem minOffEnd_rest {F : List Fld} (h_settings : Fld.settings ∈ F) (h_mram : Fld.mram ∈ F) (h_nv : Fld.nv ∈ F) (h_links : Fld.links ∈ F) (h_boot : Fld.boot ∈ F) (h_sk : Fld.sk ∈ F) (h_pwr : Fld.pwr ∈ F) (h_zin : Fld.zin ∈ F) (h_fo : Fld.fo ∈ F) (h_zbus : Fld.zbus ∈ F) (h_rails : Fld.rails ∈ F) (h_phases : Fld.phases ∈ F) (h_gangs : Fld.gangs ∈ F) (h_dies : Fld.dies ∈ F) (h_items : Fld.items ∈ F) (h_groups : Fld.groups ∈ F) (h_regs : Fld.regs ∈ F) (h_rsto : Fld.rsto ∈ F) (h_pp : Fld.pp ∈ F) (h_chg : Fld.chg ∈ F) (h_gauge : Fld.gauge ∈ F) (h_log : Fld.log ∈ F) (h_faultLine : Fld.faultLine ∈ F) (h_safeN : Fld.safeN ∈ F) (h_evc : Fld.evc ∈ F) (h_tw : Fld.tw ∈ F) (h_can : Fld.can ∈ F) (h_update : Fld.update ∈ F) (h_freeCtr : Fld.freeCtr ∈ F) (g : Fin 8) (s : State) :
    rest F (minOffEnd g s) = rest F s := by
  unfold minOffEnd; (repeat' split) <;> simp [*]

theorem execMinOffEnd_rest {F : List Fld} (h_settings : Fld.settings ∈ F) (h_mram : Fld.mram ∈ F) (h_nv : Fld.nv ∈ F) (h_links : Fld.links ∈ F) (h_boot : Fld.boot ∈ F) (h_sk : Fld.sk ∈ F) (h_pwr : Fld.pwr ∈ F) (h_zin : Fld.zin ∈ F) (h_fo : Fld.fo ∈ F) (h_zbus : Fld.zbus ∈ F) (h_rails : Fld.rails ∈ F) (h_phases : Fld.phases ∈ F) (h_gangs : Fld.gangs ∈ F) (h_dies : Fld.dies ∈ F) (h_items : Fld.items ∈ F) (h_groups : Fld.groups ∈ F) (h_regs : Fld.regs ∈ F) (h_rsto : Fld.rsto ∈ F) (h_pp : Fld.pp ∈ F) (h_chg : Fld.chg ∈ F) (h_gauge : Fld.gauge ∈ F) (h_log : Fld.log ∈ F) (h_faultLine : Fld.faultLine ∈ F) (h_safeN : Fld.safeN ∈ F) (h_evc : Fld.evc ∈ F) (h_tw : Fld.tw ∈ F) (h_can : Fld.can ∈ F) (h_update : Fld.update ∈ F) (h_freeCtr : Fld.freeCtr ∈ F) (g : Fin 8) (s : State) :
    Leaves F (execMinOffEnd g s) s := by
  unfold execMinOffEnd; simp [*]

theorem execItemRetryDelayEnd_rest {F : List Fld} (h_settings : Fld.settings ∈ F) (h_mram : Fld.mram ∈ F) (h_nv : Fld.nv ∈ F) (h_links : Fld.links ∈ F) (h_boot : Fld.boot ∈ F) (h_sk : Fld.sk ∈ F) (h_pwr : Fld.pwr ∈ F) (h_zin : Fld.zin ∈ F) (h_fo : Fld.fo ∈ F) (h_zbus : Fld.zbus ∈ F) (h_rails : Fld.rails ∈ F) (h_phases : Fld.phases ∈ F) (h_gangs : Fld.gangs ∈ F) (h_dies : Fld.dies ∈ F) (h_items : Fld.items ∈ F) (h_groups : Fld.groups ∈ F) (h_regs : Fld.regs ∈ F) (h_rsto : Fld.rsto ∈ F) (h_pp : Fld.pp ∈ F) (h_chg : Fld.chg ∈ F) (h_gauge : Fld.gauge ∈ F) (h_log : Fld.log ∈ F) (h_faultLine : Fld.faultLine ∈ F) (h_safeN : Fld.safeN ∈ F) (h_evc : Fld.evc ∈ F) (h_tw : Fld.tw ∈ F) (h_can : Fld.can ∈ F) (h_update : Fld.update ∈ F) (h_freeCtr : Fld.freeCtr ∈ F) (i : Fin 46) (s : State) :
    Leaves F (execItemRetryDelayEnd i s) s := by
  unfold execItemRetryDelayEnd; simp [*]

theorem execItemNormalTimer_rest {F : List Fld} (h_items : Fld.items ∈ F) (i : Fin 46) (s : State) :
    Leaves F (execItemNormalTimer i s) s := by
  unfold execItemNormalTimer; simp [*]

theorem execEnPinFall_rest {F : List Fld} (h_mram : Fld.mram ∈ F) (h_nv : Fld.nv ∈ F) (h_links : Fld.links ∈ F) (h_boot : Fld.boot ∈ F) (h_sk : Fld.sk ∈ F) (h_pwr : Fld.pwr ∈ F) (h_zin : Fld.zin ∈ F) (h_fo : Fld.fo ∈ F) (h_zbus : Fld.zbus ∈ F) (h_rails : Fld.rails ∈ F) (h_phases : Fld.phases ∈ F) (h_gangs : Fld.gangs ∈ F) (h_dies : Fld.dies ∈ F) (h_items : Fld.items ∈ F) (h_groups : Fld.groups ∈ F) (h_regs : Fld.regs ∈ F) (h_rsto : Fld.rsto ∈ F) (h_pp : Fld.pp ∈ F) (h_chg : Fld.chg ∈ F) (h_gauge : Fld.gauge ∈ F) (h_log : Fld.log ∈ F) (h_faultLine : Fld.faultLine ∈ F) (h_safeN : Fld.safeN ∈ F) (h_evc : Fld.evc ∈ F) (h_tw : Fld.tw ∈ F) (h_can : Fld.can ∈ F) (h_update : Fld.update ∈ F) (h_freeCtr : Fld.freeCtr ∈ F) (r : Fin 28) (s : State) :
    Leaves F (execEnPinFall r s) s := by
  unfold execEnPinFall; simp [*]

theorem execEnPinRise_rest {F : List Fld} (h_settings : Fld.settings ∈ F) (h_mram : Fld.mram ∈ F) (h_nv : Fld.nv ∈ F) (h_links : Fld.links ∈ F) (h_boot : Fld.boot ∈ F) (h_sk : Fld.sk ∈ F) (h_pwr : Fld.pwr ∈ F) (h_zin : Fld.zin ∈ F) (h_fo : Fld.fo ∈ F) (h_zbus : Fld.zbus ∈ F) (h_rails : Fld.rails ∈ F) (h_phases : Fld.phases ∈ F) (h_gangs : Fld.gangs ∈ F) (h_dies : Fld.dies ∈ F) (h_items : Fld.items ∈ F) (h_groups : Fld.groups ∈ F) (h_regs : Fld.regs ∈ F) (h_rsto : Fld.rsto ∈ F) (h_pp : Fld.pp ∈ F) (h_chg : Fld.chg ∈ F) (h_gauge : Fld.gauge ∈ F) (h_log : Fld.log ∈ F) (h_faultLine : Fld.faultLine ∈ F) (h_safeN : Fld.safeN ∈ F) (h_evc : Fld.evc ∈ F) (h_tw : Fld.tw ∈ F) (h_can : Fld.can ∈ F) (h_update : Fld.update ∈ F) (h_freeCtr : Fld.freeCtr ∈ F) (r : Fin 28) (s : State) :
    Leaves F (execEnPinRise r s) s := by
  unfold execEnPinRise; simp [*]

@[simp] theorem regStop_rest {F : List Fld} (h_mram : Fld.mram ∈ F) (h_nv : Fld.nv ∈ F) (h_links : Fld.links ∈ F) (h_boot : Fld.boot ∈ F) (h_sk : Fld.sk ∈ F) (h_pwr : Fld.pwr ∈ F) (h_zin : Fld.zin ∈ F) (h_fo : Fld.fo ∈ F) (h_zbus : Fld.zbus ∈ F) (h_rails : Fld.rails ∈ F) (h_phases : Fld.phases ∈ F) (h_gangs : Fld.gangs ∈ F) (h_dies : Fld.dies ∈ F) (h_items : Fld.items ∈ F) (h_groups : Fld.groups ∈ F) (h_regs : Fld.regs ∈ F) (h_rsto : Fld.rsto ∈ F) (h_pp : Fld.pp ∈ F) (h_chg : Fld.chg ∈ F) (h_gauge : Fld.gauge ∈ F) (h_log : Fld.log ∈ F) (h_faultLine : Fld.faultLine ∈ F) (h_safeN : Fld.safeN ∈ F) (h_evc : Fld.evc ∈ F) (h_tw : Fld.tw ∈ F) (h_can : Fld.can ∈ F) (h_update : Fld.update ∈ F) (h_freeCtr : Fld.freeCtr ∈ F) (n : Fin 10) (b : Nat) (f : ItemFaultCode) (s : State) :
    rest F (regStop n b f s) = rest F s := by
  unfold regStop; simp [*]

theorem execRegCurrentLimitFault_rest {F : List Fld} (h_mram : Fld.mram ∈ F) (h_nv : Fld.nv ∈ F) (h_links : Fld.links ∈ F) (h_boot : Fld.boot ∈ F) (h_sk : Fld.sk ∈ F) (h_pwr : Fld.pwr ∈ F) (h_zin : Fld.zin ∈ F) (h_fo : Fld.fo ∈ F) (h_zbus : Fld.zbus ∈ F) (h_rails : Fld.rails ∈ F) (h_phases : Fld.phases ∈ F) (h_gangs : Fld.gangs ∈ F) (h_dies : Fld.dies ∈ F) (h_items : Fld.items ∈ F) (h_groups : Fld.groups ∈ F) (h_regs : Fld.regs ∈ F) (h_rsto : Fld.rsto ∈ F) (h_pp : Fld.pp ∈ F) (h_chg : Fld.chg ∈ F) (h_gauge : Fld.gauge ∈ F) (h_log : Fld.log ∈ F) (h_faultLine : Fld.faultLine ∈ F) (h_safeN : Fld.safeN ∈ F) (h_evc : Fld.evc ∈ F) (h_tw : Fld.tw ∈ F) (h_can : Fld.can ∈ F) (h_update : Fld.update ∈ F) (h_freeCtr : Fld.freeCtr ∈ F) (n : Fin 10) (s : State) :
    Leaves F (execRegCurrentLimitFault n s) s := by
  unfold execRegCurrentLimitFault; simp [*]

theorem execBuckOverVoltage_rest {F : List Fld} (h_mram : Fld.mram ∈ F) (h_nv : Fld.nv ∈ F) (h_links : Fld.links ∈ F) (h_boot : Fld.boot ∈ F) (h_sk : Fld.sk ∈ F) (h_pwr : Fld.pwr ∈ F) (h_zin : Fld.zin ∈ F) (h_fo : Fld.fo ∈ F) (h_zbus : Fld.zbus ∈ F) (h_rails : Fld.rails ∈ F) (h_phases : Fld.phases ∈ F) (h_gangs : Fld.gangs ∈ F) (h_dies : Fld.dies ∈ F) (h_items : Fld.items ∈ F) (h_groups : Fld.groups ∈ F) (h_regs : Fld.regs ∈ F) (h_rsto : Fld.rsto ∈ F) (h_pp : Fld.pp ∈ F) (h_chg : Fld.chg ∈ F) (h_gauge : Fld.gauge ∈ F) (h_log : Fld.log ∈ F) (h_faultLine : Fld.faultLine ∈ F) (h_safeN : Fld.safeN ∈ F) (h_evc : Fld.evc ∈ F) (h_tw : Fld.tw ∈ F) (h_can : Fld.can ∈ F) (h_update : Fld.update ∈ F) (h_freeCtr : Fld.freeCtr ∈ F) (n : Fin 6) (s : State) :
    Leaves F (execBuckOverVoltage n s) s := by
  unfold execBuckOverVoltage; simp [*]

theorem execRegPgChange_rest {F : List Fld} (h_items : Fld.items ∈ F) (h_regs : Fld.regs ∈ F) (n : Fin 10) (inWindow : Bool) (s : State) :
    Leaves F (execRegPgChange n inWindow s) s := by
  unfold execRegPgChange; simp [*]

theorem execRegPgLostTimeout_rest {F : List Fld} (h_mram : Fld.mram ∈ F) (h_nv : Fld.nv ∈ F) (h_links : Fld.links ∈ F) (h_boot : Fld.boot ∈ F) (h_sk : Fld.sk ∈ F) (h_pwr : Fld.pwr ∈ F) (h_zin : Fld.zin ∈ F) (h_fo : Fld.fo ∈ F) (h_zbus : Fld.zbus ∈ F) (h_rails : Fld.rails ∈ F) (h_phases : Fld.phases ∈ F) (h_gangs : Fld.gangs ∈ F) (h_dies : Fld.dies ∈ F) (h_items : Fld.items ∈ F) (h_groups : Fld.groups ∈ F) (h_regs : Fld.regs ∈ F) (h_rsto : Fld.rsto ∈ F) (h_pp : Fld.pp ∈ F) (h_chg : Fld.chg ∈ F) (h_gauge : Fld.gauge ∈ F) (h_log : Fld.log ∈ F) (h_faultLine : Fld.faultLine ∈ F) (h_safeN : Fld.safeN ∈ F) (h_evc : Fld.evc ∈ F) (h_tw : Fld.tw ∈ F) (h_can : Fld.can ∈ F) (h_update : Fld.update ∈ F) (h_freeCtr : Fld.freeCtr ∈ F) (n : Fin 10) (s : State) :
    Leaves F (execRegPgLostTimeout n s) s := by
  unfold execRegPgLostTimeout; simp [*]

@[simp] theorem modRsto_rest {F : List Fld} (h_rsto : Fld.rsto ∈ F) (n : Fin 4) (f : RstoState → RstoState) (s : State) :
    rest F (modRsto n f s) = rest F s := by
  unfold modRsto; simp [*]

theorem execRstoConditionsEnd_rest {F : List Fld} (h_rsto : Fld.rsto ∈ F) (n : Fin 4) (s : State) :
    Leaves F (execRstoConditionsEnd n s) s := by
  unfold execRstoConditionsEnd; simp [*]

theorem execRstoStretchEnd_rest {F : List Fld} (h_rsto : Fld.rsto ∈ F) (h_wd : Fld.wd ∈ F) (n : Fin 4) (s : State) :
    Leaves F (execRstoStretchEnd n s) s := by
  unfold execRstoStretchEnd; simp [*]

@[simp] theorem forceRsto_rest {F : List Fld} (h_rsto : Fld.rsto ∈ F) (n : Fin 4) (s : State) :
    rest F (forceRsto n s) = rest F s := by
  unfold forceRsto; simp [*]

theorem execRstoForce_rest {F : List Fld} (h_rsto : Fld.rsto ∈ F) (h_ack : Fld.ack ∈ F) (p : Port) (n : Fin 4) (value : Nat) (s : State) :
    Leaves F (execRstoForce p n value s) s := by
  unfold execRstoForce; simp [*]

theorem execRstoPulseEnd_rest {F : List Fld} (h_rsto : Fld.rsto ∈ F) (n : Fin 4) (s : State) :
    Leaves F (execRstoPulseEnd n s) s := by
  unfold execRstoPulseEnd; simp [*]

@[simp] theorem modClk_rest {F : List Fld} (h_clk : Fld.clk ∈ F) (f : ClockState → ClockState) (s : State) :
    rest F (modClk f s) = rest F s := by
  unfold modClk; simp [*]

@[simp] theorem clkTrip_rest {F : List Fld} (h_clk : Fld.clk ∈ F) (s : State) :
    rest F (clkTrip s) = rest F s := by
  unfold clkTrip; simp [*]

theorem execLockstepMismatch_rest {F : List Fld} (h_mram : Fld.mram ∈ F) (h_nv : Fld.nv ∈ F) (h_links : Fld.links ∈ F) (h_boot : Fld.boot ∈ F) (h_sk : Fld.sk ∈ F) (h_pwr : Fld.pwr ∈ F) (h_zin : Fld.zin ∈ F) (h_fo : Fld.fo ∈ F) (h_zbus : Fld.zbus ∈ F) (h_rails : Fld.rails ∈ F) (h_phases : Fld.phases ∈ F) (h_gangs : Fld.gangs ∈ F) (h_dies : Fld.dies ∈ F) (h_items : Fld.items ∈ F) (h_groups : Fld.groups ∈ F) (h_regs : Fld.regs ∈ F) (h_rsto : Fld.rsto ∈ F) (h_pp : Fld.pp ∈ F) (h_chg : Fld.chg ∈ F) (h_gauge : Fld.gauge ∈ F) (h_log : Fld.log ∈ F) (h_faultLine : Fld.faultLine ∈ F) (h_safeN : Fld.safeN ∈ F) (h_evc : Fld.evc ∈ F) (h_tw : Fld.tw ∈ F) (h_can : Fld.can ∈ F) (h_update : Fld.update ∈ F) (h_freeCtr : Fld.freeCtr ∈ F) (word : Nat) (s : State) :
    Leaves F (execLockstepMismatch word s) s := by
  unfold execLockstepMismatch; simp [*]

theorem execSysClockCheck_rest {F : List Fld} (h_mram : Fld.mram ∈ F) (h_nv : Fld.nv ∈ F) (h_clk : Fld.clk ∈ F) (h_links : Fld.links ∈ F) (h_boot : Fld.boot ∈ F) (h_sk : Fld.sk ∈ F) (h_pwr : Fld.pwr ∈ F) (h_zin : Fld.zin ∈ F) (h_fo : Fld.fo ∈ F) (h_zbus : Fld.zbus ∈ F) (h_rails : Fld.rails ∈ F) (h_phases : Fld.phases ∈ F) (h_gangs : Fld.gangs ∈ F) (h_dies : Fld.dies ∈ F) (h_items : Fld.items ∈ F) (h_groups : Fld.groups ∈ F) (h_regs : Fld.regs ∈ F) (h_rsto : Fld.rsto ∈ F) (h_pp : Fld.pp ∈ F) (h_chg : Fld.chg ∈ F) (h_gauge : Fld.gauge ∈ F) (h_log : Fld.log ∈ F) (h_faultLine : Fld.faultLine ∈ F) (h_safeN : Fld.safeN ∈ F) (h_evc : Fld.evc ∈ F) (h_tw : Fld.tw ∈ F) (h_can : Fld.can ∈ F) (h_update : Fld.update ∈ F) (h_freeCtr : Fld.freeCtr ∈ F) (kHz : Nat) (s : State) :
    Leaves F (execSysClockCheck kHz s) s := by
  unfold execSysClockCheck; simp [*]

theorem execRsysClockCheck_rest {F : List Fld} (h_mram : Fld.mram ∈ F) (h_nv : Fld.nv ∈ F) (h_clk : Fld.clk ∈ F) (h_links : Fld.links ∈ F) (h_boot : Fld.boot ∈ F) (h_sk : Fld.sk ∈ F) (h_pwr : Fld.pwr ∈ F) (h_zin : Fld.zin ∈ F) (h_fo : Fld.fo ∈ F) (h_zbus : Fld.zbus ∈ F) (h_rails : Fld.rails ∈ F) (h_phases : Fld.phases ∈ F) (h_gangs : Fld.gangs ∈ F) (h_dies : Fld.dies ∈ F) (h_items : Fld.items ∈ F) (h_groups : Fld.groups ∈ F) (h_regs : Fld.regs ∈ F) (h_rsto : Fld.rsto ∈ F) (h_pp : Fld.pp ∈ F) (h_chg : Fld.chg ∈ F) (h_gauge : Fld.gauge ∈ F) (h_log : Fld.log ∈ F) (h_faultLine : Fld.faultLine ∈ F) (h_safeN : Fld.safeN ∈ F) (h_evc : Fld.evc ∈ F) (h_tw : Fld.tw ∈ F) (h_can : Fld.can ∈ F) (h_update : Fld.update ∈ F) (h_freeCtr : Fld.freeCtr ∈ F) (k : Fin 7) (kHz : Nat) (s : State) :
    Leaves F (execRsysClockCheck k kHz s) s := by
  unfold execRsysClockCheck; simp [*]

@[simp] theorem canClockLost_rest {F : List Fld} (h_evc : Fld.evc ∈ F) (h_tw : Fld.tw ∈ F) (h_can : Fld.can ∈ F) (h_update : Fld.update ∈ F) (n : Fin 4) (s : State) :
    rest F (canClockLost n s) = rest F s := by
  unfold canClockLost; simp [*]

@[simp] theorem canClockFail_rest {F : List Fld} (h_nv : Fld.nv ∈ F) (h_clk : Fld.clk ∈ F) (h_log : Fld.log ∈ F) (h_evc : Fld.evc ∈ F) (h_tw : Fld.tw ∈ F) (h_can : Fld.can ∈ F) (h_update : Fld.update ∈ F) (f : ClockState → ClockState) (s : State) :
    rest F (canClockFail f s) = rest F s := by
  unfold canClockFail; simp [*]

theorem execCrystalStartTimeout_rest {F : List Fld} (h_nv : Fld.nv ∈ F) (h_clk : Fld.clk ∈ F) (h_log : Fld.log ∈ F) (h_evc : Fld.evc ∈ F) (h_tw : Fld.tw ∈ F) (h_can : Fld.can ∈ F) (h_update : Fld.update ∈ F) (s : State) :
    Leaves F (execCrystalStartTimeout s) s := by
  unfold execCrystalStartTimeout; simp [*]

theorem execCanPllLockLoss_rest {F : List Fld} (h_nv : Fld.nv ∈ F) (h_clk : Fld.clk ∈ F) (h_log : Fld.log ∈ F) (h_evc : Fld.evc ∈ F) (h_tw : Fld.tw ∈ F) (h_can : Fld.can ∈ F) (h_update : Fld.update ∈ F) (s : State) :
    Leaves F (execCanPllLockLoss s) s := by
  unfold execCanPllLockLoss; simp [*]

theorem execCanClockGood_rest {F : List Fld} (h_clk : Fld.clk ∈ F) (h_can : Fld.can ∈ F) (s : State) :
    Leaves F (execCanClockGood s) s := by
  unfold execCanClockGood; simp [*]

@[simp] theorem modHamper_rest {F : List Fld} (h_hamper : Fld.hamper ∈ F) (f : HamperState → HamperState) (s : State) :
    rest F (modHamper f s) = rest F s := by
  unfold modHamper; simp [*]

@[simp] theorem fabCapture_rest {F : List Fld} (h_fab : Fld.fab ∈ F) (addr master typ : Nat) (s : State) :
    rest F (fabCapture addr master typ s) = rest F s := by
  unfold fabCapture; simp [*]

@[simp] theorem hamperDed_rest {F : List Fld} (h_nv : Fld.nv ∈ F) (h_hamper : Fld.hamper ∈ F) (h_log : Fld.log ∈ F) (h_fab : Fld.fab ∈ F) (h_evc : Fld.evc ∈ F) (h_tw : Fld.tw ∈ F) (master offset : Nat) (s : State) :
    rest F (hamperDed master offset s) = rest F s := by
  unfold hamperDed; simp [*]

@[simp] theorem fabReported_rest {F : List Fld} (h_fab : Fld.fab ∈ F) (code : FaultCode) (src detail : Nat) (s : State) :
    rest F (fabReported code src detail s) = rest F s := by
  unfold fabReported; simp [*]

@[simp] theorem hamperGrant_rest {F : List Fld} (h_nv : Fld.nv ∈ F) (h_hamper : Fld.hamper ∈ F) (h_log : Fld.log ∈ F) (h_fab : Fld.fab ∈ F) (h_evc : Fld.evc ∈ F) (h_tw : Fld.tw ∈ F) (q : HamperReq) (ecc : EccFind) (s : State) :
    rest F (hamperGrant q ecc s) = rest F s := by
  unfold hamperGrant; (repeat' split) <;> simp [*]

theorem execHamperAccess_rest {F : List Fld} (h_nv : Fld.nv ∈ F) (h_hamper : Fld.hamper ∈ F) (h_log : Fld.log ∈ F) (h_fab : Fld.fab ∈ F) (h_evc : Fld.evc ∈ F) (h_tw : Fld.tw ∈ F) (h_freeCtr : Fld.freeCtr ∈ F) (reqs : List HamperReq) (ecc : EccFind) (s : State) :
    Leaves F (execHamperAccess reqs ecc s) s := by
  unfold execHamperAccess; (repeat' split) <;> simp [*]

theorem execBackgroundScrub_rest {F : List Fld} (h_nv : Fld.nv ∈ F) (h_hamper : Fld.hamper ∈ F) (h_log : Fld.log ∈ F) (h_fab : Fld.fab ∈ F) (h_evc : Fld.evc ∈ F) (h_tw : Fld.tw ∈ F) (ecc : EccFind) (s : State) :
    Leaves F (execBackgroundScrub ecc s) s := by
  unfold execBackgroundScrub; (repeat' split) <;> simp [*]

@[simp] theorem linkEvt_rest {F : List Fld} (h_evc : Fld.evc ∈ F) (h_tw : Fld.tw ∈ F) (k : Fin 7) (s : State) :
    rest F (linkEvt k s) = rest F s := by
  unfold linkEvt; simp [*]

@[simp] theorem suspendEngines_rest {F : List Fld} (h_ewd : Fld.ewd ∈ F) (s : State) :
    rest F (suspendEngines s) = rest F s := by
  unfold suspendEngines; simp [*]

@[simp] theorem restartEngines_rest {F : List Fld} (h_ewd : Fld.ewd ∈ F) (l : List (Fin 18)) (s : State) :
    rest F (restartEngines l s) = rest F s := by
  unfold restartEngines; simp [*]

@[simp] theorem linkLost_rest {F : List Fld} (h_mram : Fld.mram ∈ F) (h_nv : Fld.nv ∈ F) (h_links : Fld.links ∈ F) (h_boot : Fld.boot ∈ F) (h_sk : Fld.sk ∈ F) (h_pwr : Fld.pwr ∈ F) (h_zin : Fld.zin ∈ F) (h_fo : Fld.fo ∈ F) (h_zbus : Fld.zbus ∈ F) (h_rails : Fld.rails ∈ F) (h_phases : Fld.phases ∈ F) (h_gangs : Fld.gangs ∈ F) (h_dies : Fld.dies ∈ F) (h_items : Fld.items ∈ F) (h_groups : Fld.groups ∈ F) (h_regs : Fld.regs ∈ F) (h_rsto : Fld.rsto ∈ F) (h_pp : Fld.pp ∈ F) (h_chg : Fld.chg ∈ F) (h_gauge : Fld.gauge ∈ F) (h_ewd : Fld.ewd ∈ F) (h_log : Fld.log ∈ F) (h_faultLine : Fld.faultLine ∈ F) (h_safeN : Fld.safeN ∈ F) (h_evc : Fld.evc ∈ F) (h_tw : Fld.tw ∈ F) (h_can : Fld.can ∈ F) (h_update : Fld.update ∈ F) (h_freeCtr : Fld.freeCtr ∈ F) (k : Fin 7) (hold : Bool) (s : State) :
    rest F (linkLost k hold s) = rest F s := by
  unfold linkLost; simp [*]; (repeat' split) <;> simp [*]

@[simp] theorem linkGoDown_rest {F : List Fld} (h_mram : Fld.mram ∈ F) (h_nv : Fld.nv ∈ F) (h_links : Fld.links ∈ F) (h_boot : Fld.boot ∈ F) (h_sk : Fld.sk ∈ F) (h_pwr : Fld.pwr ∈ F) (h_zin : Fld.zin ∈ F) (h_fo : Fld.fo ∈ F) (h_zbus : Fld.zbus ∈ F) (h_rails : Fld.rails ∈ F) (h_phases : Fld.phases ∈ F) (h_gangs : Fld.gangs ∈ F) (h_dies : Fld.dies ∈ F) (h_items : Fld.items ∈ F) (h_groups : Fld.groups ∈ F) (h_regs : Fld.regs ∈ F) (h_rsto : Fld.rsto ∈ F) (h_pp : Fld.pp ∈ F) (h_chg : Fld.chg ∈ F) (h_gauge : Fld.gauge ∈ F) (h_ewd : Fld.ewd ∈ F) (h_log : Fld.log ∈ F) (h_faultLine : Fld.faultLine ∈ F) (h_safeN : Fld.safeN ∈ F) (h_evc : Fld.evc ∈ F) (h_tw : Fld.tw ∈ F) (h_can : Fld.can ∈ F) (h_update : Fld.update ∈ F) (h_freeCtr : Fld.freeCtr ∈ F) (k : Fin 7) (s : State) :
    rest F (linkGoDown k s) = rest F s := by
  unfold linkGoDown; simp [*]

@[simp] theorem bootLinksDown_rest {F : List Fld} (h_mram : Fld.mram ∈ F) (h_nv : Fld.nv ∈ F) (h_links : Fld.links ∈ F) (h_boot : Fld.boot ∈ F) (h_sk : Fld.sk ∈ F) (h_pwr : Fld.pwr ∈ F) (h_zin : Fld.zin ∈ F) (h_fo : Fld.fo ∈ F) (h_zbus : Fld.zbus ∈ F) (h_rails : Fld.rails ∈ F) (h_phases : Fld.phases ∈ F) (h_gangs : Fld.gangs ∈ F) (h_dies : Fld.dies ∈ F) (h_items : Fld.items ∈ F) (h_groups : Fld.groups ∈ F) (h_regs : Fld.regs ∈ F) (h_rsto : Fld.rsto ∈ F) (h_pp : Fld.pp ∈ F) (h_chg : Fld.chg ∈ F) (h_gauge : Fld.gauge ∈ F) (h_ewd : Fld.ewd ∈ F) (h_log : Fld.log ∈ F) (h_faultLine : Fld.faultLine ∈ F) (h_safeN : Fld.safeN ∈ F) (h_evc : Fld.evc ∈ F) (h_tw : Fld.tw ∈ F) (h_can : Fld.can ∈ F) (h_update : Fld.update ∈ F) (h_freeCtr : Fld.freeCtr ∈ F) (s : State) :
    rest F (bootLinksDown s) = rest F s := by
  unfold bootLinksDown; simp [*]

@[simp] theorem resendFrom_rest {F : List Fld} (h_mram : Fld.mram ∈ F) (h_nv : Fld.nv ∈ F) (h_links : Fld.links ∈ F) (h_boot : Fld.boot ∈ F) (h_sk : Fld.sk ∈ F) (h_pwr : Fld.pwr ∈ F) (h_zin : Fld.zin ∈ F) (h_fo : Fld.fo ∈ F) (h_zbus : Fld.zbus ∈ F) (h_rails : Fld.rails ∈ F) (h_phases : Fld.phases ∈ F) (h_gangs : Fld.gangs ∈ F) (h_dies : Fld.dies ∈ F) (h_items : Fld.items ∈ F) (h_groups : Fld.groups ∈ F) (h_regs : Fld.regs ∈ F) (h_rsto : Fld.rsto ∈ F) (h_pp : Fld.pp ∈ F) (h_chg : Fld.chg ∈ F) (h_gauge : Fld.gauge ∈ F) (h_ewd : Fld.ewd ∈ F) (h_log : Fld.log ∈ F) (h_faultLine : Fld.faultLine ∈ F) (h_safeN : Fld.safeN ∈ F) (h_evc : Fld.evc ∈ F) (h_tw : Fld.tw ∈ F) (h_can : Fld.can ∈ F) (h_update : Fld.update ∈ F) (h_freeCtr : Fld.freeCtr ∈ F) (k : Fin 7) (e : LinkEndSel) (from_ : Nat) (s : State) :
    rest F (resendFrom k e from_ s) = rest F s := by
  unfold resendFrom; simp [*]; (repeat' split) <;> simp [*]

theorem onLink_rest {F : List Fld}  (k : Fin 7) (s : State) (f : State → State) (hf : ∀ s, rest F (f s) = rest F s) :
    Leaves F (onLink k s f) s := by
  unfold onLink; simp [*]

@[simp] theorem pumpEnd_rest {F : List Fld} (h_nv : Fld.nv ∈ F) (h_links : Fld.links ∈ F) (h_rails : Fld.rails ∈ F) (h_phases : Fld.phases ∈ F) (h_dies : Fld.dies ∈ F) (h_log : Fld.log ∈ F) (h_evc : Fld.evc ∈ F) (h_tw : Fld.tw ∈ F) (h_freeCtr : Fld.freeCtr ∈ F) (k : Fin 7) (e : LinkEndSel) (s : State) :
    rest F (pumpEnd k e s) = rest F s := by
  unfold pumpEnd; (repeat' split) <;> simp [*]

@[simp] theorem endTakes_rest {F : List Fld} (h_nv : Fld.nv ∈ F) (h_links : Fld.links ∈ F) (h_rails : Fld.rails ∈ F) (h_phases : Fld.phases ∈ F) (h_dies : Fld.dies ∈ F) (h_log : Fld.log ∈ F) (h_evc : Fld.evc ∈ F) (h_tw : Fld.tw ∈ F) (h_freeCtr : Fld.freeCtr ∈ F) (k : Fin 7) (recv : LinkEndSel) (f : LinkFrame) (s : State) :
    rest F (endTakes k recv f s) = rest F s := by
  unfold endTakes; (repeat' split) <;> simp [*]

@[simp] theorem takeFrame_rest {F : List Fld} (h_nv : Fld.nv ∈ F) (h_links : Fld.links ∈ F) (h_rails : Fld.rails ∈ F) (h_phases : Fld.phases ∈ F) (h_dies : Fld.dies ∈ F) (h_log : Fld.log ∈ F) (h_evc : Fld.evc ∈ F) (h_tw : Fld.tw ∈ F) (h_freeCtr : Fld.freeCtr ∈ F) (k : Fin 7) (recv : LinkEndSel) (seq ack : Nat) (f : LinkFrame) (s : State) :
    rest F (takeFrame k recv seq ack f s) = rest F s := by
  unfold takeFrame; simp [*]

@[simp] theorem lostFrame_rest {F : List Fld} (h_links : Fld.links ∈ F) (k : Fin 7) (recv : LinkEndSel) (body : Nat) (s : State) :
    rest F (lostFrame k recv body s) = rest F s := by
  unfold lostFrame; simp [*]

theorem execLinkFrameBad_rest {F : List Fld} (h_links : Fld.links ∈ F) (k : Fin 7) (recv : LinkEndSel) (body crc : Nat) (s : State) :
    Leaves F (execLinkFrameBad k recv body crc s) s := by
  unfold execLinkFrameBad; (try dsimp only); apply onLink_rest; intro s; (try (apply takeFrame_rest (by assumption); intro s)); (try dsimp only); (repeat' split) <;> simp [*]

@[simp] theorem nakArrives_rest {F : List Fld} (h_mram : Fld.mram ∈ F) (h_nv : Fld.nv ∈ F) (h_links : Fld.links ∈ F) (h_boot : Fld.boot ∈ F) (h_sk : Fld.sk ∈ F) (h_pwr : Fld.pwr ∈ F) (h_zin : Fld.zin ∈ F) (h_fo : Fld.fo ∈ F) (h_zbus : Fld.zbus ∈ F) (h_rails : Fld.rails ∈ F) (h_phases : Fld.phases ∈ F) (h_gangs : Fld.gangs ∈ F) (h_dies : Fld.dies ∈ F) (h_items : Fld.items ∈ F) (h_groups : Fld.groups ∈ F) (h_regs : Fld.regs ∈ F) (h_rsto : Fld.rsto ∈ F) (h_pp : Fld.pp ∈ F) (h_chg : Fld.chg ∈ F) (h_gauge : Fld.gauge ∈ F) (h_ewd : Fld.ewd ∈ F) (h_log : Fld.log ∈ F) (h_faultLine : Fld.faultLine ∈ F) (h_safeN : Fld.safeN ∈ F) (h_evc : Fld.evc ∈ F) (h_tw : Fld.tw ∈ F) (h_can : Fld.can ∈ F) (h_update : Fld.update ∈ F) (h_freeCtr : Fld.freeCtr ∈ F) (k : Fin 7) (recv : LinkEndSel) (seq : Nat) (s : State) :
    rest F (nakArrives k recv seq s) = rest F s := by
  unfold nakArrives; simp [*]

theorem execLinkNak_rest {F : List Fld} (h_mram : Fld.mram ∈ F) (h_nv : Fld.nv ∈ F) (h_links : Fld.links ∈ F) (h_boot : Fld.boot ∈ F) (h_sk : Fld.sk ∈ F) (h_pwr : Fld.pwr ∈ F) (h_zin : Fld.zin ∈ F) (h_fo : Fld.fo ∈ F) (h_zbus : Fld.zbus ∈ F) (h_rails : Fld.rails ∈ F) (h_phases : Fld.phases ∈ F) (h_gangs : Fld.gangs ∈ F) (h_dies : Fld.dies ∈ F) (h_items : Fld.items ∈ F) (h_groups : Fld.groups ∈ F) (h_regs : Fld.regs ∈ F) (h_rsto : Fld.rsto ∈ F) (h_pp : Fld.pp ∈ F) (h_chg : Fld.chg ∈ F) (h_gauge : Fld.gauge ∈ F) (h_ewd : Fld.ewd ∈ F) (h_log : Fld.log ∈ F) (h_faultLine : Fld.faultLine ∈ F) (h_safeN : Fld.safeN ∈ F) (h_evc : Fld.evc ∈ F) (h_tw : Fld.tw ∈ F) (h_can : Fld.can ∈ F) (h_update : Fld.update ∈ F) (h_freeCtr : Fld.freeCtr ∈ F) (k : Fin 7) (recv : LinkEndSel) (seq : Nat) (s : State) :
    Leaves F (execLinkNak k recv seq s) s := by
  unfold execLinkNak; (try dsimp only); apply onLink_rest; intro s; (try (apply takeFrame_rest (by assumption); intro s)); (try dsimp only); (repeat' split) <;> simp [*]

theorem execLinkIdle_rest {F : List Fld} (h_links : Fld.links ∈ F) (k : Fin 7) (recv : LinkEndSel) (ack : Nat) (s : State) :
    Leaves F (execLinkIdle k recv ack s) s := by
  unfold execLinkIdle; (try dsimp only); apply onLink_rest; intro s; (try (apply takeFrame_rest (by assumption); intro s)); (try dsimp only); (repeat' split) <;> simp [*]

theorem execLinkAckTimeout_rest {F : List Fld} (h_mram : Fld.mram ∈ F) (h_nv : Fld.nv ∈ F) (h_links : Fld.links ∈ F) (h_boot : Fld.boot ∈ F) (h_sk : Fld.sk ∈ F) (h_pwr : Fld.pwr ∈ F) (h_zin : Fld.zin ∈ F) (h_fo : Fld.fo ∈ F) (h_zbus : Fld.zbus ∈ F) (h_rails : Fld.rails ∈ F) (h_phases : Fld.phases ∈ F) (h_gangs : Fld.gangs ∈ F) (h_dies : Fld.dies ∈ F) (h_items : Fld.items ∈ F) (h_groups : Fld.groups ∈ F) (h_regs : Fld.regs ∈ F) (h_rsto : Fld.rsto ∈ F) (h_pp : Fld.pp ∈ F) (h_chg : Fld.chg ∈ F) (h_gauge : Fld.gauge ∈ F) (h_ewd : Fld.ewd ∈ F) (h_log : Fld.log ∈ F) (h_faultLine : Fld.faultLine ∈ F) (h_safeN : Fld.safeN ∈ F) (h_evc : Fld.evc ∈ F) (h_tw : Fld.tw ∈ F) (h_can : Fld.can ∈ F) (h_update : Fld.update ∈ F) (h_freeCtr : Fld.freeCtr ∈ F) (k : Fin 7) (sender : LinkEndSel) (s : State) :
    Leaves F (execLinkAckTimeout k sender s) s := by
  unfold execLinkAckTimeout; (try dsimp only); apply onLink_rest; intro s; (try (apply takeFrame_rest (by assumption); intro s)); (try dsimp only); (repeat' split) <;> simp [*]

theorem execLinkCommand_rest {F : List Fld} (h_settings : Fld.settings ∈ F) (h_mram : Fld.mram ∈ F) (h_nv : Fld.nv ∈ F) (h_links : Fld.links ∈ F) (h_boot : Fld.boot ∈ F) (h_sk : Fld.sk ∈ F) (h_pwr : Fld.pwr ∈ F) (h_zin : Fld.zin ∈ F) (h_fo : Fld.fo ∈ F) (h_zbus : Fld.zbus ∈ F) (h_rails : Fld.rails ∈ F) (h_phases : Fld.phases ∈ F) (h_gangs : Fld.gangs ∈ F) (h_dies : Fld.dies ∈ F) (h_items : Fld.items ∈ F) (h_groups : Fld.groups ∈ F) (h_regs : Fld.regs ∈ F) (h_rsto : Fld.rsto ∈ F) (h_pp : Fld.pp ∈ F) (h_chg : Fld.chg ∈ F) (h_gauge : Fld.gauge ∈ F) (h_log : Fld.log ∈ F) (h_faultLine : Fld.faultLine ∈ F) (h_safeN : Fld.safeN ∈ F) (h_evc : Fld.evc ∈ F) (h_tw : Fld.tw ∈ F) (h_can : Fld.can ∈ F) (h_update : Fld.update ∈ F) (h_freeCtr : Fld.freeCtr ∈ F) (k : Fin 7) (seq ack : Nat) (c : RailCmd) (s : State) :
    Leaves F (execLinkCommand k seq ack c s) s := by
  unfold execLinkCommand; apply onLink_rest; intro s; simp only [seqSettle_rest, takeFrame_rest, *]

theorem execLinkEvent_rest {F : List Fld} (h_nv : Fld.nv ∈ F) (h_links : Fld.links ∈ F) (h_rails : Fld.rails ∈ F) (h_phases : Fld.phases ∈ F) (h_dies : Fld.dies ∈ F) (h_log : Fld.log ∈ F) (h_evc : Fld.evc ∈ F) (h_tw : Fld.tw ∈ F) (h_freeCtr : Fld.freeCtr ∈ F) (k : Fin 7) (seq ack source cause : Nat) (s : State) :
    Leaves F (execLinkEvent k seq ack source cause s) s := by
  unfold execLinkEvent; apply onLink_rest; intro s; simp only [seqSettle_rest, takeFrame_rest, *]

theorem execLinkObjWrite_rest {F : List Fld} (h_nv : Fld.nv ∈ F) (h_links : Fld.links ∈ F) (h_rails : Fld.rails ∈ F) (h_phases : Fld.phases ∈ F) (h_dies : Fld.dies ∈ F) (h_log : Fld.log ∈ F) (h_evc : Fld.evc ∈ F) (h_tw : Fld.tw ∈ F) (h_freeCtr : Fld.freeCtr ∈ F) (k : Fin 7) (seq ack tag obj sub value : Nat) (s : State) :
    Leaves F (execLinkObjWrite k seq ack tag obj sub value s) s := by
  unfold execLinkObjWrite; apply onLink_rest; intro s; simp only [seqSettle_rest, takeFrame_rest, *]

theorem execLinkObjRead_rest {F : List Fld} (h_nv : Fld.nv ∈ F) (h_links : Fld.links ∈ F) (h_rails : Fld.rails ∈ F) (h_phases : Fld.phases ∈ F) (h_dies : Fld.dies ∈ F) (h_log : Fld.log ∈ F) (h_evc : Fld.evc ∈ F) (h_tw : Fld.tw ∈ F) (h_freeCtr : Fld.freeCtr ∈ F) (k : Fin 7) (seq ack tag obj sub : Nat) (s : State) :
    Leaves F (execLinkObjRead k seq ack tag obj sub s) s := by
  unfold execLinkObjRead; apply onLink_rest; intro s; simp only [seqSettle_rest, takeFrame_rest, *]

theorem execLinkObjData_rest {F : List Fld} (h_nv : Fld.nv ∈ F) (h_links : Fld.links ∈ F) (h_rails : Fld.rails ∈ F) (h_phases : Fld.phases ∈ F) (h_dies : Fld.dies ∈ F) (h_log : Fld.log ∈ F) (h_evc : Fld.evc ∈ F) (h_tw : Fld.tw ∈ F) (h_freeCtr : Fld.freeCtr ∈ F) (k : Fin 7) (seq ack tag obj sub value : Nat) (s : State) :
    Leaves F (execLinkObjData k seq ack tag obj sub value s) s := by
  unfold execLinkObjData; apply onLink_rest; intro s; simp only [seqSettle_rest, takeFrame_rest, *]

@[simp] theorem mirrorWord_rest {F : List Fld} (h_hamper : Fld.hamper ∈ F) (k : Fin 7) (offset data : Nat) (s : State) :
    rest F (mirrorWord k offset data s) = rest F s := by
  unfold mirrorWord; simp [*]

@[simp] theorem telemetryPump_rest {F : List Fld} (h_hamper : Fld.hamper ∈ F) (h_links : Fld.links ∈ F) (h_evc : Fld.evc ∈ F) (h_tw : Fld.tw ∈ F) (k : Fin 7) (s : State) :
    rest F (telemetryPump k s) = rest F s := by
  have h : ∀ (l : List LinkFrame) (a : State), rest F (l.foldl (fun a f => match f.payload with
        | .telemetry ofs d => mirrorWord k ofs d (crossLink k .atHelm f a)
        | _ => helmTakes k f (crossLink k .atHelm f a)) a) = rest F a :=
    fun l a => rest_foldl _ (by intro a f; split <;> simp [*]) _ _
  unfold telemetryPump
  split
  · rfl
  · refine (h _ _).trans ?_; simp [*]

theorem execLinkTelemetry_rest {F : List Fld} (h_nv : Fld.nv ∈ F) (h_hamper : Fld.hamper ∈ F) (h_links : Fld.links ∈ F) (h_rails : Fld.rails ∈ F) (h_phases : Fld.phases ∈ F) (h_dies : Fld.dies ∈ F) (h_log : Fld.log ∈ F) (h_evc : Fld.evc ∈ F) (h_tw : Fld.tw ∈ F) (h_freeCtr : Fld.freeCtr ∈ F) (k : Fin 7) (seq ack offset data : Nat) (s : State) :
    Leaves F (execLinkTelemetry k seq ack offset data s) s := by
  unfold execLinkTelemetry; (try dsimp only); apply onLink_rest; intro s; (try (apply takeFrame_rest (by assumption); intro s)); (try dsimp only); (repeat' split) <;> simp [*]

theorem execLinkDown_rest {F : List Fld} (h_mram : Fld.mram ∈ F) (h_nv : Fld.nv ∈ F) (h_links : Fld.links ∈ F) (h_boot : Fld.boot ∈ F) (h_sk : Fld.sk ∈ F) (h_pwr : Fld.pwr ∈ F) (h_zin : Fld.zin ∈ F) (h_fo : Fld.fo ∈ F) (h_zbus : Fld.zbus ∈ F) (h_rails : Fld.rails ∈ F) (h_phases : Fld.phases ∈ F) (h_gangs : Fld.gangs ∈ F) (h_dies : Fld.dies ∈ F) (h_items : Fld.items ∈ F) (h_groups : Fld.groups ∈ F) (h_regs : Fld.regs ∈ F) (h_rsto : Fld.rsto ∈ F) (h_pp : Fld.pp ∈ F) (h_chg : Fld.chg ∈ F) (h_gauge : Fld.gauge ∈ F) (h_ewd : Fld.ewd ∈ F) (h_log : Fld.log ∈ F) (h_faultLine : Fld.faultLine ∈ F) (h_safeN : Fld.safeN ∈ F) (h_evc : Fld.evc ∈ F) (h_tw : Fld.tw ∈ F) (h_can : Fld.can ∈ F) (h_update : Fld.update ∈ F) (h_freeCtr : Fld.freeCtr ∈ F) (k : Fin 7) (s : State) :
    Leaves F (execLinkDown k s) s := by
  unfold execLinkDown; (try dsimp only); apply onLink_rest; intro s; (try (apply takeFrame_rest (by assumption); intro s)); (try dsimp only); (repeat' split) <;> simp [*]

@[simp] theorem linkComesUp_rest {F : List Fld} (h_nv : Fld.nv ∈ F) (h_links : Fld.links ∈ F) (h_rails : Fld.rails ∈ F) (h_phases : Fld.phases ∈ F) (h_dies : Fld.dies ∈ F) (h_ewd : Fld.ewd ∈ F) (h_log : Fld.log ∈ F) (h_evc : Fld.evc ∈ F) (h_tw : Fld.tw ∈ F) (h_freeCtr : Fld.freeCtr ∈ F) (k : Fin 7) (s : State) :
    rest F (linkComesUp k s) = rest F s := by
  unfold linkComesUp; simp [*]; (repeat' split) <;> simp [*]

@[simp] theorem readLinkStatus_rest {F : List Fld} (h_links : Fld.links ∈ F) (k : Fin 7) (s : State) :
    rest F (readLinkStatus k s).1 = rest F s := by
  unfold readLinkStatus; simp [*]

end Sys2Proof.Laws
end

