-- ==== Sys2Proof/Machine/MramMap.lean ====
section
/-! DEFINITION. What the MRAM holds byte for byte: the map of R366, the records of R369 to R378 with their headers and CRCs, the
lock word of R376, the journal R380, the Last Fix R388, the bank state records of R531. State holds the records as fields; this
file says which bytes spell them. -/

namespace Sys2Proof.Machine

/-! ### Records (R369, R370) -/

/-- Header bytes closed by their own CRC. -/
def sealed (h : List Byte) : List Byte := h ++ leBytes 4 (crc32 h)

/-- The 64-byte header of a configuration copy or of the Home Chart. -/
def cfgHeader (magic gen : Nat) (body : List Byte) : List Byte :=
  sealed (leBytes 2 magic ++ leBytes 2 1 ++ leBytes 4 gen ++ leBytes 4 body.length ++ leBytes 4 (crc32 body) ++ List.replicate 44 0)

/-- The record of a configuration copy or of the Home Chart: header and body. -/
def cfgRecord (magic gen : Nat) (body : List Byte) : List Byte := cfgHeader magic gen body ++ body

/-- Whether such a record is valid: its magic, its format, its body CRC and its header CRC all hold (R369). -/
def cfgRecordOk (magic : Nat) (l : List Byte) : Bool :=
  decide (fieldAt l 0 2 = magic) && decide (fieldAt l 2 2 = 1)
    && decide (fieldAt l 0x0C 4 = crc32 ((l.drop 0x40).take (fieldAt l 0x08 4)))
    && decide (fieldAt l 0x3C 4 = crc32 (l.take 0x3C))

/-- The lock word (R376). -/
def lockWord (h : HomeChart) : List Byte := leBytes 4 h.lockLo ++ leBytes 4 h.lockHi

/-! ### Gauge slots (R356, R377, R378) -/

/-- The Almanac at slot offsets 0x0100 to 0x05FF (R356); its reserved bytes are zero. -/
def almanacBytes (a : Almanac) : List Byte :=
  let flags := bit a.tablesSet + 2 * bit a.capLearned
  let tables := (if a.tablesSet then zeroFill 1240 a.tables else (List.range 1240).map Config.genericTables).zipIdx.map fun x =>
    if 20 ≤ x.2 ∧ x.2 < 24 then 0 else x.1
  leBytes 2 1 ++ leBytes 1 a.cells ++ leBytes 1 flags ++ leBytes 2 a.cap ++ leBytes 2 a.learnCnt ++ leBytes 4 a.cycles
    ++ leBytes 4 (a.disAcc * 100).floor.toNat ++ leBytes 4 a.age ++ leBytes 2 a.result ++ leBytes 2 0
    ++ tables ++ List.replicate 16 0

/-- The body of a slot at 0x0100 to 0x0FFF. -/
def slotBody (g : GaugeSlot) : List Byte :=
  almanacBytes g.alm ++ (g.base.toList.flatMap fun c => leBytes 4 c) ++ List.replicate 2512 0

/-- A counter record (R378); what a torn one holds is open. DESIGN CHOICE, log entry 79. -/
def ctrRecBytes (r : CtrRec) : List Byte :=
  if r.torn then (List.range 16).map fun i => BitVec.ofNat 8 (Config.free (0x37800 + i) r.rseq) else
  let b := leBytes 1 0xC7 ++ leBytes 1 r.id ++ leBytes 2 0 ++ leBytes 4 r.value ++ leBytes 4 r.rseq ++ leBytes 2 0
  b ++ leBytes 2 (crc16 0xFFFF b)

/-- Whether 16 bytes are a counter record that counts (R378). -/
def ctrRecOk (l : List Byte) : Bool := decide (fieldAt l 0 1 = 0xC7) && decide (fieldAt l 14 2 = crc16 0xFFFF (l.take 14))

/-- A gauge slot, 8 KiB (R377). The places of the records in their area are taken in the order of their appending.
DESIGN CHOICE, log entry 79. -/
def slotRecord (g : GaugeSlot) : List Byte :=
  let body := slotBody g
  sealed (leBytes 2 0x414C ++ leBytes 2 1 ++ leBytes 4 g.seq ++ leBytes 4 (crc32 body) ++ List.replicate 240 0) ++ body
    ++ zeroFill 4096 (g.recs.flatMap ctrRecBytes)

/-! ### Last Fix and banks (R388, R531) -/

/-- A Last Fix slot: header and content (R388, R389). -/
def lfRecord (x : LfSlot) : List Byte :=
  let body := lfContent x
  sealed (leBytes 2 0x4C46 ++ leBytes 2 1 ++ leBytes 4 x.seq ++ leBytes 4 x.boot ++ leBytes 8 x.time ++ leBytes 2 x.hucap
    ++ leBytes 2 x.lost ++ leBytes 1 x.pwr ++ List.replicate 31 0 ++ leBytes 4 (crc32 body)) ++ body

/-- The 64-byte state record of a bank (R531). -/
def bankRecord (ph : BankPhase) : List Byte := sealed (leBytes 4 ph.ctorIdx ++ List.replicate 56 0)

/-! ### The map (R366) -/

/-- A byte the manual leaves open: of an invalid record, or of a region beyond its record. DESIGN CHOICE, log entry 79. -/
def openByte (ofs : Nat) : Byte := BitVec.ofNat 8 (Config.free (0x36600000 + ofs) 0)

/-- A byte of a region that holds one record from its start: the record's, where it is valid. -/
def recByte (valid : Bool) (l : List Byte) (base k : Nat) : Byte := if valid then l.getD k (openByte (base + k)) else openByte (base + k)

/-- A byte of a firmware bank (R531). -/
def bankByte (b : Bank) (base k : Nat) : Byte :=
  if 0x3FFC0 ≤ k then (bankRecord b.phase).getD (k - 0x3FFC0) 0
  else (if k < 0x100 then b.header else List.replicate 0x100 0 ++ b.payload).getD k (openByte (base + k))

/-- The byte at an offset of the MRAM (R366): a read of the reserved region returns zero. DESIGN CHOICE, log entry 79. -/
def mramByte (s : State) (ofs : Nat) : Byte :=
  let m := s.mram
  if ofs < 0x80000 then
    let k : Fin 2 := if ofs < 0x40000 then 0 else 1
    bankByte m.banks[k] (0x40000 * k.val) (ofs % 0x40000)
  else if ofs < 0x98000 then
    match fin? 3 ((ofs - 0x80000) / 0x8000) with
    | some k => recByte m.cfg[k].valid (cfgRecord 0x4346 m.cfg[k].gen m.cfg[k].body) (0x80000 + 0x8000 * k.val) (ofs % 0x8000)
    | none => 0
  else if ofs < 0xA0000 then
    if 0x9FFF8 ≤ ofs then (lockWord m.hc).getD (ofs - 0x9FFF8) 0
    else recByte m.hc.valid (cfgRecord 0x4843 0 m.hc.body) 0x98000 (ofs - 0x98000)
  else if ofs < 0xD0000 then
    let k := ofs - 0xA0000
    match m.journal[k / 32]? with
    | some r => (logRecBytes r).getD (k % 32) 0
    | none => openByte ofs
  else if ofs < 0xD4000 then
    let k : Fin 2 := if ofs < 0xD2000 then 0 else 1
    recByte m.slots[k].valid (slotRecord m.slots[k]) (slotOffset k) (ofs % 0x2000)
  else if ofs < 0xD8000 then
    let k : Fin 2 := if ofs < 0xD6000 then 0 else 1
    recByte m.lf[k].valid (lfRecord m.lf[k]) (0xD4000 + 0x2000 * k.val) (ofs % 0x2000)
  else 0

end Sys2Proof.Machine
end

