-- ==== Sys2Proof/Laws/FrameHost.lean ====
section
/-! SUPPORT. Frames of Star Sight, housekeeping, reads, bearings, the store and updates: what each operation can change. -/

namespace Sys2Proof.Laws

open Sys2Proof.Machine

@[simp] theorem modWd_rest {F : List Fld} (h_wd : Fld.wd ∈ F) (f : WdState → WdState) (s : State) :
    rest F (modWd f s) = rest F s := by
  unfold modWd; simp [*]

@[simp] theorem modHost_rest {F : List Fld} (h_wd : Fld.wd ∈ F) (h : Fin 2) (f : WdHost → WdHost) (s : State) :
    rest F (modHost h f s) = rest F s := by
  unfold modHost; simp [*]

@[simp] theorem beginCycle_rest {F : List Fld} (h_wd : Fld.wd ∈ F) (s : State) :
    rest F (beginCycle s) = rest F s := by
  unfold beginCycle; simp [*]

@[simp] theorem obligationsStart_rest {F : List Fld} (h_wd : Fld.wd ∈ F) (s : State) :
    rest F (obligationsStart s) = rest F s := by
  unfold obligationsStart; simp [*]

@[simp] theorem wdStart_rest {F : List Fld} (h_wd : Fld.wd ∈ F) (s : State) :
    rest F (wdStart s) = rest F s := by
  unfold wdStart; simp [*]

@[simp] theorem wdEnableOp_rest {F : List Fld} (h_settings : Fld.settings ∈ F) (h_wd : Fld.wd ∈ F) (value : Nat) (s : State) :
    rest F (wdEnableOp value s).1 = rest F s := by
  unfold wdEnableOp; (repeat' split) <;> simp [*]

theorem execWdEnable_rest {F : List Fld} (h_settings : Fld.settings ∈ F) (h_wd : Fld.wd ∈ F) (h_ack : Fld.ack ∈ F) (p : Port) (value : Nat) (s : State) :
    Leaves F (execWdEnable p value s) s := by
  unfold execWdEnable; simp [*]

@[simp] theorem wdSetLate_rest {F : List Fld} (h_wd : Fld.wd ∈ F) (h : Fin 2) (s : State) :
    rest F (wdSetLate h s) = rest F s := by
  unfold wdSetLate; simp [*]

@[simp] theorem wdUsed_rest {F : List Fld} (h_freeCtr : Fld.freeCtr ∈ F) (s : State) :
    rest F (wdUsed s) = rest F s := by
  unfold wdUsed; simp [*]

theorem execWdWindowClose_rest {F : List Fld} (h_wd : Fld.wd ∈ F) (h_freeCtr : Fld.freeCtr ∈ F) (s : State) :
    Leaves F (execWdWindowClose s) s := by
  unfold execWdWindowClose; simp [*]

@[simp] theorem wdCountEarly_rest {F : List Fld} (h_wd : Fld.wd ∈ F) (s : State) :
    rest F (wdCountEarly s) = rest F s := by
  unfold wdCountEarly; simp [*]

@[simp] theorem wdAnswerOp_rest {F : List Fld} (h_wd : Fld.wd ∈ F) (h_freeCtr : Fld.freeCtr ∈ F) (h : Fin 2) (token tick : Nat) (s : State) :
    rest F (wdAnswerOp h token tick s).1 = rest F s := by
  unfold wdAnswerOp; simp [*]; (repeat' split) <;> simp [*]

@[simp] theorem wdWindow_rest {F : List Fld} (h_tw : Fld.tw ∈ F) (h_ack : Fld.ack ∈ F) (n : Fin 2) (ofs size : Nat) (s : State) (f : State → State × Bool) (hf : ∀ s, rest F (f s).1 = rest F s) :
    rest F (wdWindow n ofs size s f) = rest F s := by
  unfold wdWindow; simp [*]

theorem execWdAnswer_rest {F : List Fld} (h_wd : Fld.wd ∈ F) (h_tw : Fld.tw ∈ F) (h_ack : Fld.ack ∈ F) (h_freeCtr : Fld.freeCtr ∈ F) (p : Port) (n : Fin 2) (token tick : Nat) (s : State) :
    Leaves F (execWdAnswer p n token tick s) s := by
  unfold execWdAnswer; simp [*]

@[simp] theorem wdCheckinOp_rest {F : List Fld} (h_wd : Fld.wd ∈ F) (h : Fin 2) (task : Nat) (s : State) :
    rest F (wdCheckinOp h task s).1 = rest F s := by
  unfold wdCheckinOp; (repeat' split) <;> simp [*]

theorem execWdCheckin_rest {F : List Fld} (h_wd : Fld.wd ∈ F) (h_tw : Fld.tw ∈ F) (h_ack : Fld.ack ∈ F) (p : Port) (n : Fin 2) (task : Nat) (s : State) :
    Leaves F (execWdCheckin p n task s) s := by
  unfold execWdCheckin; simp [*]

@[simp] theorem judgeHost_rest {F : List Fld} (h_nv : Fld.nv ∈ F) (h_wd : Fld.wd ∈ F) (h_log : Fld.log ∈ F) (h_evc : Fld.evc ∈ F) (h_tw : Fld.tw ∈ F) (h : Fin 2) (s : State) :
    rest F (judgeHost h s).1 = rest F s := by
  unfold judgeHost; simp [*]; (repeat' split) <;> simp [*]

@[simp] theorem forceRstoPin_rest {F : List Fld} (h_rsto : Fld.rsto ∈ F) (n : Fin 4) (s : State) :
    rest F (forceRstoPin n s) = rest F s := by
  unfold forceRstoPin; simp [*]

@[simp] theorem wdCount_rest {F : List Fld} (h_mram : Fld.mram ∈ F) (h_nv : Fld.nv ∈ F) (h_freeCtr : Fld.freeCtr ∈ F) (s : State) :
    rest F (wdCount s) = rest F s := by
  unfold wdCount; simp [*]

@[simp] theorem wdReactOp_rest {F : List Fld} (h_mram : Fld.mram ∈ F) (h_nv : Fld.nv ∈ F) (h_links : Fld.links ∈ F) (h_boot : Fld.boot ∈ F) (h_sk : Fld.sk ∈ F) (h_pwr : Fld.pwr ∈ F) (h_zin : Fld.zin ∈ F) (h_fo : Fld.fo ∈ F) (h_zbus : Fld.zbus ∈ F) (h_rails : Fld.rails ∈ F) (h_phases : Fld.phases ∈ F) (h_gangs : Fld.gangs ∈ F) (h_dies : Fld.dies ∈ F) (h_items : Fld.items ∈ F) (h_groups : Fld.groups ∈ F) (h_regs : Fld.regs ∈ F) (h_rsto : Fld.rsto ∈ F) (h_pp : Fld.pp ∈ F) (h_chg : Fld.chg ∈ F) (h_gauge : Fld.gauge ∈ F) (h_log : Fld.log ∈ F) (h_faultLine : Fld.faultLine ∈ F) (h_safeN : Fld.safeN ∈ F) (h_evc : Fld.evc ∈ F) (h_tw : Fld.tw ∈ F) (h_can : Fld.can ∈ F) (h_update : Fld.update ∈ F) (h_freeCtr : Fld.freeCtr ∈ F) (h : Fin 2) (sub : Nat) (s : State) :
    rest F (wdReactOp h sub s) = rest F s := by
  unfold wdReactOp; (repeat' split) <;> simp [*]

@[simp] theorem wdReactAll_rest {F : List Fld} (h_mram : Fld.mram ∈ F) (h_nv : Fld.nv ∈ F) (h_links : Fld.links ∈ F) (h_boot : Fld.boot ∈ F) (h_sk : Fld.sk ∈ F) (h_pwr : Fld.pwr ∈ F) (h_zin : Fld.zin ∈ F) (h_fo : Fld.fo ∈ F) (h_zbus : Fld.zbus ∈ F) (h_rails : Fld.rails ∈ F) (h_phases : Fld.phases ∈ F) (h_gangs : Fld.gangs ∈ F) (h_dies : Fld.dies ∈ F) (h_items : Fld.items ∈ F) (h_groups : Fld.groups ∈ F) (h_regs : Fld.regs ∈ F) (h_rsto : Fld.rsto ∈ F) (h_pp : Fld.pp ∈ F) (h_chg : Fld.chg ∈ F) (h_gauge : Fld.gauge ∈ F) (h_wd : Fld.wd ∈ F) (h_log : Fld.log ∈ F) (h_faultLine : Fld.faultLine ∈ F) (h_safeN : Fld.safeN ∈ F) (h_evc : Fld.evc ∈ F) (h_tw : Fld.tw ∈ F) (h_can : Fld.can ∈ F) (h_update : Fld.update ∈ F) (h_freeCtr : Fld.freeCtr ∈ F) (l : List (Fin 2 × Nat)) (s : State) :
    rest F (wdReactAll l s) = rest F s := by
  unfold wdReactAll; simp [*]

@[simp] theorem wdJudge_rest {F : List Fld} (h_nv : Fld.nv ∈ F) (h_wd : Fld.wd ∈ F) (h_log : Fld.log ∈ F) (h_evc : Fld.evc ∈ F) (h_tw : Fld.tw ∈ F) (h_freeCtr : Fld.freeCtr ∈ F) (s : State) :
    rest F (wdJudge s).1 = rest F s := by
  unfold wdJudge; (repeat' split) <;> simp [*]

theorem execWdCycleEnd_rest {F : List Fld} (h_mram : Fld.mram ∈ F) (h_nv : Fld.nv ∈ F) (h_links : Fld.links ∈ F) (h_boot : Fld.boot ∈ F) (h_sk : Fld.sk ∈ F) (h_pwr : Fld.pwr ∈ F) (h_zin : Fld.zin ∈ F) (h_fo : Fld.fo ∈ F) (h_zbus : Fld.zbus ∈ F) (h_rails : Fld.rails ∈ F) (h_phases : Fld.phases ∈ F) (h_gangs : Fld.gangs ∈ F) (h_dies : Fld.dies ∈ F) (h_items : Fld.items ∈ F) (h_groups : Fld.groups ∈ F) (h_regs : Fld.regs ∈ F) (h_rsto : Fld.rsto ∈ F) (h_pp : Fld.pp ∈ F) (h_chg : Fld.chg ∈ F) (h_gauge : Fld.gauge ∈ F) (h_wd : Fld.wd ∈ F) (h_log : Fld.log ∈ F) (h_faultLine : Fld.faultLine ∈ F) (h_safeN : Fld.safeN ∈ F) (h_evc : Fld.evc ∈ F) (h_tw : Fld.tw ∈ F) (h_can : Fld.can ∈ F) (h_update : Fld.update ∈ F) (h_freeCtr : Fld.freeCtr ∈ F) (s : State) :
    Leaves F (execWdCycleEnd s) s := by
  unfold execWdCycleEnd; simp [*]

theorem execEngineService_rest {F : List Fld} (h_ewd : Fld.ewd ∈ F) (e : Fin 18) (s : State) :
    Leaves F (execEngineService e s) s := by
  unfold execEngineService; simp [*]

theorem execEngineWatchdogExpire_rest {F : List Fld} (h_mram : Fld.mram ∈ F) (h_nv : Fld.nv ∈ F) (h_links : Fld.links ∈ F) (h_boot : Fld.boot ∈ F) (h_sk : Fld.sk ∈ F) (h_pwr : Fld.pwr ∈ F) (h_zin : Fld.zin ∈ F) (h_fo : Fld.fo ∈ F) (h_zbus : Fld.zbus ∈ F) (h_rails : Fld.rails ∈ F) (h_phases : Fld.phases ∈ F) (h_gangs : Fld.gangs ∈ F) (h_dies : Fld.dies ∈ F) (h_items : Fld.items ∈ F) (h_groups : Fld.groups ∈ F) (h_regs : Fld.regs ∈ F) (h_rsto : Fld.rsto ∈ F) (h_pp : Fld.pp ∈ F) (h_chg : Fld.chg ∈ F) (h_gauge : Fld.gauge ∈ F) (h_log : Fld.log ∈ F) (h_faultLine : Fld.faultLine ∈ F) (h_safeN : Fld.safeN ∈ F) (h_evc : Fld.evc ∈ F) (h_tw : Fld.tw ∈ F) (h_can : Fld.can ∈ F) (h_update : Fld.update ∈ F) (h_freeCtr : Fld.freeCtr ∈ F) (e : Fin 18) (s : State) :
    Leaves F (execEngineWatchdogExpire e s) s := by
  unfold execEngineWatchdogExpire; simp [*]

@[simp] theorem endWipeSuspension_rest {F : List Fld} (h_ewd : Fld.ewd ∈ F) (s : State) :
    rest F (endWipeSuspension s) = rest F s := by
  unfold endWipeSuspension; simp [*]

theorem execEngineSuspensionEnd_rest {F : List Fld} (h_ewd : Fld.ewd ∈ F) (s : State) :
    Leaves F (execEngineSuspensionEnd s) s := by
  unfold execEngineSuspensionEnd; simp [*]

theorem execLogbookEntry_rest {F : List Fld} (h_mram : Fld.mram ∈ F) (h_nv : Fld.nv ∈ F) (h_links : Fld.links ∈ F) (h_boot : Fld.boot ∈ F) (h_sk : Fld.sk ∈ F) (h_pwr : Fld.pwr ∈ F) (h_zin : Fld.zin ∈ F) (h_fo : Fld.fo ∈ F) (h_zbus : Fld.zbus ∈ F) (h_rails : Fld.rails ∈ F) (h_phases : Fld.phases ∈ F) (h_gangs : Fld.gangs ∈ F) (h_dies : Fld.dies ∈ F) (h_items : Fld.items ∈ F) (h_groups : Fld.groups ∈ F) (h_regs : Fld.regs ∈ F) (h_rsto : Fld.rsto ∈ F) (h_pp : Fld.pp ∈ F) (h_chg : Fld.chg ∈ F) (h_gauge : Fld.gauge ∈ F) (h_log : Fld.log ∈ F) (h_faultLine : Fld.faultLine ∈ F) (h_safeN : Fld.safeN ∈ F) (h_fab : Fld.fab ∈ F) (h_evc : Fld.evc ∈ F) (h_tw : Fld.tw ∈ F) (h_can : Fld.can ∈ F) (h_update : Fld.update ∈ F) (h_freeCtr : Fld.freeCtr ∈ F) (code : FaultCode) (die src detail : Nat) (s : State) :
    Leaves F (execLogbookEntry code die src detail s) s := by
  unfold execLogbookEntry; simp [*]

@[simp] theorem safeRefresh_rest {F : List Fld} (h_safeN : Fld.safeN ∈ F) (s : State) :
    rest F (safeRefresh s) = rest F s := by
  unfold safeRefresh; simp [*]

@[simp] theorem logFclrOp_rest {F : List Fld} (h_nv : Fld.nv ∈ F) (h_links : Fld.links ∈ F) (h_zin : Fld.zin ∈ F) (h_fo : Fld.fo ∈ F) (h_rails : Fld.rails ∈ F) (h_phases : Fld.phases ∈ F) (h_dies : Fld.dies ∈ F) (h_items : Fld.items ∈ F) (h_regs : Fld.regs ∈ F) (h_log : Fld.log ∈ F) (h_faultLine : Fld.faultLine ∈ F) (h_safeN : Fld.safeN ∈ F) (h_fab : Fld.fab ∈ F) (h_evc : Fld.evc ∈ F) (h_tw : Fld.tw ∈ F) (h_freeCtr : Fld.freeCtr ∈ F) (value : Nat) (s : State) :
    rest F (logFclrOp value s).1 = rest F s := by
  unfold logFclrOp; dsimp only; (repeat' first | split | (rw [rest_foldl]) | intro _ _) <;> (try simp_all) <;> (repeat' first | split | (rw [rest_foldl]) | intro _ _) <;> first | (simp [*]; done) | (simp [rest, *]; done)

theorem execLogFclr_rest {F : List Fld} (h_nv : Fld.nv ∈ F) (h_links : Fld.links ∈ F) (h_zin : Fld.zin ∈ F) (h_fo : Fld.fo ∈ F) (h_rails : Fld.rails ∈ F) (h_phases : Fld.phases ∈ F) (h_dies : Fld.dies ∈ F) (h_items : Fld.items ∈ F) (h_regs : Fld.regs ∈ F) (h_log : Fld.log ∈ F) (h_faultLine : Fld.faultLine ∈ F) (h_safeN : Fld.safeN ∈ F) (h_fab : Fld.fab ∈ F) (h_evc : Fld.evc ∈ F) (h_tw : Fld.tw ∈ F) (h_ack : Fld.ack ∈ F) (h_freeCtr : Fld.freeCtr ∈ F) (p : Port) (value : Nat) (s : State) :
    Leaves F (execLogFclr p value s) s := by
  unfold execLogFclr; simp [*]

@[simp] theorem readLogStatus_rest {F : List Fld} (h_log : Fld.log ∈ F) (s : State) :
    rest F (readLogStatus s).1 = rest F s := by
  unfold readLogStatus; simp [*]

@[simp] theorem modHk_rest {F : List Fld} (h_hk : Fld.hk ∈ F) (f : HkState → HkState) (s : State) :
    rest F (modHk f s) = rest F s := by
  unfold modHk; simp [*]

@[simp] theorem modTherm_rest {F : List Fld} (h_therm : Fld.therm ∈ F) (f : ThermState → ThermState) (s : State) :
    rest F (modTherm f s) = rest F s := by
  unfold modTherm; simp [*]

@[simp] theorem hkWindow_rest {F : List Fld} (h_hk : Fld.hk ∈ F) (h_evc : Fld.evc ∈ F) (h_tw : Fld.tw ∈ F) (ch : Fin 48) (code : Nat) (s : State) :
    rest F (hkWindow ch code s) = rest F s := by
  unfold hkWindow; simp [*]

@[simp] theorem hkResult_rest {F : List Fld} (h_hk : Fld.hk ∈ F) (h_evc : Fld.evc ∈ F) (h_tw : Fld.tw ∈ F) (ch : Fin 48) (slice : Fin 5) (raw vref : Nat) (s : State) :
    rest F (hkResult ch slice raw vref s) = rest F s := by
  unfold hkResult; simp [*]

@[simp] theorem hkScanStart_rest {F : List Fld} (h_hk : Fld.hk ∈ F) (s : State) :
    rest F (hkScanStart s) = rest F s := by
  unfold hkScanStart; simp [*]

@[simp] theorem hkScanNext_rest {F : List Fld} (h_hk : Fld.hk ∈ F) (ch : Fin 48) (s : State) :
    rest F (hkScanNext ch s) = rest F s := by
  unfold hkScanNext; (repeat' split) <;> simp [*]

theorem execHkConversionEnd_rest {F : List Fld} (h_hk : Fld.hk ∈ F) (h_evc : Fld.evc ∈ F) (h_tw : Fld.tw ∈ F) (ch : Fin 48) (slice : Fin 5) (raw vref : Nat) (s : State) :
    Leaves F (execHkConversionEnd ch slice raw vref s) s := by
  unfold execHkConversionEnd; simp [*]

@[simp] theorem tsUpdate_rest {F : List Fld} (h_nv : Fld.nv ∈ F) (h_therm : Fld.therm ∈ F) (h_log : Fld.log ∈ F) (h_evc : Fld.evc ∈ F) (h_tw : Fld.tw ∈ F) (n : Fin 8) (s : State) :
    rest F (tsUpdate n s) = rest F s := by
  unfold tsUpdate; simp [*]

@[simp] theorem modDieT_rest {F : List Fld} (h_therm : Fld.therm ∈ F) (d : Fin 8) (f : DieTherm → DieTherm) (s : State) :
    rest F (modDieT d f s) = rest F s := by
  unfold modDieT; simp [*]

@[simp] theorem applyThrottle_rest {F : List Fld} (h_rails : Fld.rails ∈ F) (h_gangs : Fld.gangs ∈ F) (s : State) :
    rest F (applyThrottle s) = rest F s := by
  unfold applyThrottle; dsimp only; (repeat' first | split | (rw [rest_foldl]) | intro _ _) <;> first | (simp [*]; done) | (simp [rest, *]; done)

@[simp] theorem setStep_rest {F : List Fld} (h_nv : Fld.nv ∈ F) (h_therm : Fld.therm ∈ F) (h_log : Fld.log ∈ F) (h_evc : Fld.evc ∈ F) (h_tw : Fld.tw ∈ F) (d : Fin 8) (n : Nat) (s : State) :
    rest F (setStep d n s) = rest F s := by
  unfold setStep; simp [*]

@[simp] theorem thermShutdown_rest {F : List Fld} (h_mram : Fld.mram ∈ F) (h_nv : Fld.nv ∈ F) (h_links : Fld.links ∈ F) (h_boot : Fld.boot ∈ F) (h_sk : Fld.sk ∈ F) (h_pwr : Fld.pwr ∈ F) (h_zin : Fld.zin ∈ F) (h_fo : Fld.fo ∈ F) (h_zbus : Fld.zbus ∈ F) (h_rails : Fld.rails ∈ F) (h_phases : Fld.phases ∈ F) (h_gangs : Fld.gangs ∈ F) (h_dies : Fld.dies ∈ F) (h_items : Fld.items ∈ F) (h_groups : Fld.groups ∈ F) (h_regs : Fld.regs ∈ F) (h_rsto : Fld.rsto ∈ F) (h_pp : Fld.pp ∈ F) (h_chg : Fld.chg ∈ F) (h_gauge : Fld.gauge ∈ F) (h_therm : Fld.therm ∈ F) (h_log : Fld.log ∈ F) (h_faultLine : Fld.faultLine ∈ F) (h_safeN : Fld.safeN ∈ F) (h_evc : Fld.evc ∈ F) (h_tw : Fld.tw ∈ F) (h_can : Fld.can ∈ F) (h_update : Fld.update ∈ F) (h_freeCtr : Fld.freeCtr ∈ F) (path : Fin 3) (d : Fin 8) (s : State) :
    rest F (thermShutdown path d s) = rest F s := by
  unfold thermShutdown; simp [*]

@[simp] theorem fallbackUpdate_rest {F : List Fld} (h_mram : Fld.mram ∈ F) (h_nv : Fld.nv ∈ F) (h_links : Fld.links ∈ F) (h_boot : Fld.boot ∈ F) (h_sk : Fld.sk ∈ F) (h_pwr : Fld.pwr ∈ F) (h_zin : Fld.zin ∈ F) (h_fo : Fld.fo ∈ F) (h_zbus : Fld.zbus ∈ F) (h_rails : Fld.rails ∈ F) (h_phases : Fld.phases ∈ F) (h_gangs : Fld.gangs ∈ F) (h_dies : Fld.dies ∈ F) (h_items : Fld.items ∈ F) (h_groups : Fld.groups ∈ F) (h_regs : Fld.regs ∈ F) (h_rsto : Fld.rsto ∈ F) (h_pp : Fld.pp ∈ F) (h_chg : Fld.chg ∈ F) (h_gauge : Fld.gauge ∈ F) (h_therm : Fld.therm ∈ F) (h_log : Fld.log ∈ F) (h_faultLine : Fld.faultLine ∈ F) (h_safeN : Fld.safeN ∈ F) (h_evc : Fld.evc ∈ F) (h_tw : Fld.tw ∈ F) (h_can : Fld.can ∈ F) (h_update : Fld.update ∈ F) (h_freeCtr : Fld.freeCtr ∈ F) (d : Fin 8) (s : State) :
    rest F (fallbackUpdate d s) = rest F s := by
  unfold fallbackUpdate; (repeat' split) <;> simp [*]

@[simp] theorem dieTempUpdate_rest {F : List Fld} (h_mram : Fld.mram ∈ F) (h_nv : Fld.nv ∈ F) (h_links : Fld.links ∈ F) (h_boot : Fld.boot ∈ F) (h_sk : Fld.sk ∈ F) (h_pwr : Fld.pwr ∈ F) (h_zin : Fld.zin ∈ F) (h_fo : Fld.fo ∈ F) (h_zbus : Fld.zbus ∈ F) (h_rails : Fld.rails ∈ F) (h_phases : Fld.phases ∈ F) (h_gangs : Fld.gangs ∈ F) (h_dies : Fld.dies ∈ F) (h_items : Fld.items ∈ F) (h_groups : Fld.groups ∈ F) (h_regs : Fld.regs ∈ F) (h_rsto : Fld.rsto ∈ F) (h_pp : Fld.pp ∈ F) (h_chg : Fld.chg ∈ F) (h_gauge : Fld.gauge ∈ F) (h_therm : Fld.therm ∈ F) (h_log : Fld.log ∈ F) (h_faultLine : Fld.faultLine ∈ F) (h_safeN : Fld.safeN ∈ F) (h_evc : Fld.evc ∈ F) (h_tw : Fld.tw ∈ F) (h_can : Fld.can ∈ F) (h_update : Fld.update ∈ F) (h_freeCtr : Fld.freeCtr ∈ F) (d : Fin 8) (s : State) :
    rest F (dieTempUpdate d s) = rest F s := by
  unfold dieTempUpdate; (repeat' split) <;> simp [*]

theorem execRoSample_rest {F : List Fld} (h_mram : Fld.mram ∈ F) (h_nv : Fld.nv ∈ F) (h_links : Fld.links ∈ F) (h_boot : Fld.boot ∈ F) (h_sk : Fld.sk ∈ F) (h_pwr : Fld.pwr ∈ F) (h_zin : Fld.zin ∈ F) (h_fo : Fld.fo ∈ F) (h_zbus : Fld.zbus ∈ F) (h_rails : Fld.rails ∈ F) (h_phases : Fld.phases ∈ F) (h_gangs : Fld.gangs ∈ F) (h_dies : Fld.dies ∈ F) (h_items : Fld.items ∈ F) (h_groups : Fld.groups ∈ F) (h_regs : Fld.regs ∈ F) (h_rsto : Fld.rsto ∈ F) (h_pp : Fld.pp ∈ F) (h_chg : Fld.chg ∈ F) (h_gauge : Fld.gauge ∈ F) (h_therm : Fld.therm ∈ F) (h_log : Fld.log ∈ F) (h_faultLine : Fld.faultLine ∈ F) (h_safeN : Fld.safeN ∈ F) (h_evc : Fld.evc ∈ F) (h_tw : Fld.tw ∈ F) (h_can : Fld.can ∈ F) (h_update : Fld.update ∈ F) (h_freeCtr : Fld.freeCtr ∈ F) (die : Fin 8) (temps : List Int) (s : State) :
    Leaves F (execRoSample die temps s) s := by
  unfold execRoSample; simp [*]

theorem execThermalComparator_rest {F : List Fld} (h_mram : Fld.mram ∈ F) (h_nv : Fld.nv ∈ F) (h_links : Fld.links ∈ F) (h_boot : Fld.boot ∈ F) (h_sk : Fld.sk ∈ F) (h_pwr : Fld.pwr ∈ F) (h_zin : Fld.zin ∈ F) (h_fo : Fld.fo ∈ F) (h_zbus : Fld.zbus ∈ F) (h_rails : Fld.rails ∈ F) (h_phases : Fld.phases ∈ F) (h_gangs : Fld.gangs ∈ F) (h_dies : Fld.dies ∈ F) (h_items : Fld.items ∈ F) (h_groups : Fld.groups ∈ F) (h_regs : Fld.regs ∈ F) (h_rsto : Fld.rsto ∈ F) (h_pp : Fld.pp ∈ F) (h_chg : Fld.chg ∈ F) (h_gauge : Fld.gauge ∈ F) (h_therm : Fld.therm ∈ F) (h_log : Fld.log ∈ F) (h_faultLine : Fld.faultLine ∈ F) (h_safeN : Fld.safeN ∈ F) (h_evc : Fld.evc ∈ F) (h_tw : Fld.tw ∈ F) (h_can : Fld.can ∈ F) (h_update : Fld.update ∈ F) (h_freeCtr : Fld.freeCtr ∈ F) (s : State) :
    Leaves F (execThermalComparator s) s := by
  unfold execThermalComparator; simp [*]

@[simp] theorem hkReadings_rest {F : List Fld} (h_nv : Fld.nv ∈ F) (h_zin : Fld.zin ∈ F) (h_fo : Fld.fo ∈ F) (h_regs : Fld.regs ∈ F) (h_pp : Fld.pp ∈ F) (s : State) :
    rest F (hkReadings s) = rest F s := by
  unfold hkReadings; simp [rest, *]

theorem execHkSlowRound_rest {F : List Fld} (h_mram : Fld.mram ∈ F) (h_nv : Fld.nv ∈ F) (h_links : Fld.links ∈ F) (h_boot : Fld.boot ∈ F) (h_sk : Fld.sk ∈ F) (h_pwr : Fld.pwr ∈ F) (h_zin : Fld.zin ∈ F) (h_fo : Fld.fo ∈ F) (h_zbus : Fld.zbus ∈ F) (h_rails : Fld.rails ∈ F) (h_phases : Fld.phases ∈ F) (h_gangs : Fld.gangs ∈ F) (h_dies : Fld.dies ∈ F) (h_items : Fld.items ∈ F) (h_groups : Fld.groups ∈ F) (h_regs : Fld.regs ∈ F) (h_rsto : Fld.rsto ∈ F) (h_pp : Fld.pp ∈ F) (h_chg : Fld.chg ∈ F) (h_gauge : Fld.gauge ∈ F) (h_hk : Fld.hk ∈ F) (h_therm : Fld.therm ∈ F) (h_log : Fld.log ∈ F) (h_faultLine : Fld.faultLine ∈ F) (h_safeN : Fld.safeN ∈ F) (h_evc : Fld.evc ∈ F) (h_tw : Fld.tw ∈ F) (h_can : Fld.can ∈ F) (h_update : Fld.update ∈ F) (h_freeCtr : Fld.freeCtr ∈ F) (raws : List (Fin 5 × Nat)) (vref : Nat) (s : State) :
    Leaves F (execHkSlowRound raws vref s) s := by
  unfold execHkSlowRound; simp [*]

@[simp] theorem hkDisableOp_rest {F : List Fld} (h_settings : Fld.settings ∈ F) (h_hk : Fld.hk ∈ F) (s : State) :
    rest F (hkDisableOp s) = rest F s := by
  unfold hkDisableOp; simp [*]

theorem execHkScanDisable_rest {F : List Fld} (h_settings : Fld.settings ∈ F) (h_hk : Fld.hk ∈ F) (h_ack : Fld.ack ∈ F) (p : Port) (s : State) :
    Leaves F (execHkScanDisable p s) s := by
  unfold execHkScanDisable; simp [*]

@[simp] theorem hkCalOp_rest {F : List Fld} (h_hk : Fld.hk ∈ F) (value : Nat) (s : State) :
    rest F (hkCalOp value s).1 = rest F s := by
  unfold hkCalOp; (repeat' split) <;> simp [*]

theorem execHkCalCmd_rest {F : List Fld} (h_hk : Fld.hk ∈ F) (h_ack : Fld.ack ∈ F) (p : Port) (value : Nat) (s : State) :
    Leaves F (execHkCalCmd p value s) s := by
  unfold execHkCalCmd; simp [*]

theorem execSelfCalibrationDone_rest {F : List Fld} (h_hk : Fld.hk ∈ F) (gain : Vector Nat 5) (ofs : Vector Int 5) (s : State) :
    Leaves F (execSelfCalibrationDone gain ofs s) s := by
  unfold execSelfCalibrationDone; simp [*]

theorem execBackgroundCalibration_rest {F : List Fld} (h_nv : Fld.nv ∈ F) (h_hk : Fld.hk ∈ F) (h_log : Fld.log ∈ F) (h_evc : Fld.evc ∈ F) (h_tw : Fld.tw ∈ F) (slice : Fin 5) (gain : Nat) (ofs : Int) (s : State) :
    Leaves F (execBackgroundCalibration slice gain ofs s) s := by
  unfold execBackgroundCalibration; simp [*]

theorem execHkRefSelWrite_rest {F : List Fld} (h_settings : Fld.settings ∈ F) (h_ack : Fld.ack ∈ F) (p : Port) (value : Nat) (s : State) :
    Leaves F (execHkRefSelWrite p value s) s := by
  unfold execHkRefSelWrite; simp [*]

theorem execRefSettlingEnd_rest {F : List Fld} (h_hk : Fld.hk ∈ F) (s : State) :
    Leaves F (execRefSettlingEnd s) s := by
  unfold execRefSettlingEnd; simp [*]

theorem execThrottleEvaluation_rest {F : List Fld} (h_nv : Fld.nv ∈ F) (h_rails : Fld.rails ∈ F) (h_gangs : Fld.gangs ∈ F) (h_therm : Fld.therm ∈ F) (h_log : Fld.log ∈ F) (h_evc : Fld.evc ∈ F) (h_tw : Fld.tw ∈ F) (s : State) :
    Leaves F (execThrottleEvaluation s) s := by
  unfold execThrottleEvaluation; simp [*]

@[simp] theorem thrEnOp_rest {F : List Fld} (h_settings : Fld.settings ∈ F) (h_therm : Fld.therm ∈ F) (value : Nat) (s : State) :
    rest F (thrEnOp value s) = rest F s := by
  unfold thrEnOp; simp [*]

@[simp] theorem thrRailsOp_rest {F : List Fld} (h_settings : Fld.settings ∈ F) (h_rails : Fld.rails ∈ F) (h_gangs : Fld.gangs ∈ F) (value : Nat) (s : State) :
    rest F (thrRailsOp value s) = rest F s := by
  unfold thrRailsOp; dsimp only; (repeat' first | split | (rw [rest_foldl]) | intro _ _) <;> first | (simp [*]; done) | (simp [rest, *]; done)

@[simp] theorem readClears_rest {F : List Fld} (h_links : Fld.links ∈ F) (h_rails : Fld.rails ∈ F) (h_chg : Fld.chg ∈ F) (h_hk : Fld.hk ∈ F) (h_log : Fld.log ∈ F) (idx sub : Nat) (s : State) :
    rest F (readClears idx sub s) = rest F s := by
  unfold readClears; (repeat' split) <;> simp [*]

@[simp] theorem overLink_rest {F : List Fld} (idx sub : Nat) (f : Fin 7 → State → State) (s : State) (hf : ∀ k s, rest F (f k s) = rest F s) :
    rest F (overLink idx sub f s) = rest F s := by
  unfold overLink; (repeat' split) <;> simp [*]

@[simp] theorem readObject_rest {F : List Fld} (h_nv : Fld.nv ∈ F) (h_links : Fld.links ∈ F) (h_rails : Fld.rails ∈ F) (h_phases : Fld.phases ∈ F) (h_dies : Fld.dies ∈ F) (h_chg : Fld.chg ∈ F) (h_hk : Fld.hk ∈ F) (h_log : Fld.log ∈ F) (h_evc : Fld.evc ∈ F) (h_tw : Fld.tw ∈ F) (h_freeCtr : Fld.freeCtr ∈ F) (p : Port) (r : ObjRow) (idx sub : Nat) (s : State) :
    rest F (readObject p r idx sub s).1 = rest F s := by
  unfold readObject; (repeat' split) <;> simp [*]

@[simp] theorem readRequest_rest {F : List Fld} (h_nv : Fld.nv ∈ F) (h_links : Fld.links ∈ F) (h_rails : Fld.rails ∈ F) (h_phases : Fld.phases ∈ F) (h_dies : Fld.dies ∈ F) (h_chg : Fld.chg ∈ F) (h_hk : Fld.hk ∈ F) (h_log : Fld.log ∈ F) (h_evc : Fld.evc ∈ F) (h_tw : Fld.tw ∈ F) (h_freeCtr : Fld.freeCtr ∈ F) (p : Port) (idx sub : Nat) (s : State) :
    rest F (readRequest p idx sub s).1 = rest F s := by
  unfold readRequest; (repeat' split) <;> simp [*]

@[simp] theorem tunOutcome_rest {F : List Fld} (h_tw : Fld.tw ∈ F) (n : Fin 2) (a : Ack) (s : State) :
    rest F (tunOutcome n a s) = rest F s := by
  unfold tunOutcome; simp [*]

@[simp] theorem answerPort_rest {F : List Fld} (h_tw : Fld.tw ∈ F) (h_can : Fld.can ∈ F) (p : Port) (idx sub : Nat) (a : Ack) (s : State) :
    rest F (answerPort p idx sub a s) = rest F s := by
  unfold answerPort; (repeat' split) <;> simp [*]

@[simp] theorem completeBearing_rest {F : List Fld} (h_tw : Fld.tw ∈ F) (h_can : Fld.can ∈ F) (b : Bearing) (a : Ack) (s : State) :
    rest F (completeBearing b a s) = rest F s := by
  unfold completeBearing; (repeat' split) <;> simp [*]

@[simp] theorem freezeWindows_rest {F : List Fld} (h_tw : Fld.tw ∈ F) (s : State) :
    rest F (freezeWindows s) = rest F s := by
  unfold freezeWindows; simp [*]

@[simp] theorem modTw_rest {F : List Fld} (h_tw : Fld.tw ∈ F) (n : Fin 2) (f : TwPort → TwPort) (s : State) :
    rest F (modTw n f s) = rest F s := by
  unfold modTw; simp [*]

@[simp] theorem modTun_rest {F : List Fld} (h_tw : Fld.tw ∈ F) (n : Fin 2) (f : Tunnel → Tunnel) (s : State) :
    rest F (modTun n f s) = rest F s := by
  unfold modTun; simp [*]

@[simp] theorem readExpedited_rest {F : List Fld} (h_nv : Fld.nv ∈ F) (h_links : Fld.links ∈ F) (h_rails : Fld.rails ∈ F) (h_phases : Fld.phases ∈ F) (h_dies : Fld.dies ∈ F) (h_chg : Fld.chg ∈ F) (h_hk : Fld.hk ∈ F) (h_log : Fld.log ∈ F) (h_evc : Fld.evc ∈ F) (h_tw : Fld.tw ∈ F) (h_freeCtr : Fld.freeCtr ∈ F) (p : Port) (idx sub : Nat) (s : State) :
    rest F (readExpedited p idx sub s).1 = rest F s := by
  unfold readExpedited
  split
  · rfl
  · rename_i r _
    have hr : rest F (readObject p r idx sub s).1 = rest F s := by simp [*]
    split
    · rename_i t b he
      rw [he] at hr
      split
      · rfl
      · exact hr
    · exact hr

@[simp] theorem setTransfer_rest {F : List Fld} (h_can : Fld.can ∈ F) (n : Fin 4) (t : Transfer) (s : State) :
    rest F (setTransfer n t s) = rest F s := by
  unfold setTransfer; simp [*]

@[simp] theorem tunReadOut_rest {F : List Fld} (h_nv : Fld.nv ∈ F) (h_links : Fld.links ∈ F) (h_rails : Fld.rails ∈ F) (h_phases : Fld.phases ∈ F) (h_dies : Fld.dies ∈ F) (h_chg : Fld.chg ∈ F) (h_hk : Fld.hk ∈ F) (h_log : Fld.log ∈ F) (h_evc : Fld.evc ∈ F) (h_tw : Fld.tw ∈ F) (h_freeCtr : Fld.freeCtr ∈ F) (n : Fin 2) (s : State) :
    rest F (tunReadOut n s).1 = rest F s := by
  unfold tunReadOut; dsimp only
  split
  · rfl
  · split
    · rfl
    · rename_i r _ _
      have hr : rest F (readObject (portOfTw n) r s.tw[n].tun.index s.tw[n].tun.sub s).1 = rest F s := by simp [*]
      split
      · rename_i s1 b he
        rw [he] at hr
        have hm : ∀ f, rest F (modTun n f s1) = rest F s := by intro f; simp [*]
        split
        · exact hm _
        · split
          · rfl
          · exact hm _
      · exact hr

@[simp] theorem waitServed_rest {F : List Fld} (h_nv : Fld.nv ∈ F) (h_links : Fld.links ∈ F) (h_rails : Fld.rails ∈ F) (h_phases : Fld.phases ∈ F) (h_dies : Fld.dies ∈ F) (h_chg : Fld.chg ∈ F) (h_hk : Fld.hk ∈ F) (h_log : Fld.log ∈ F) (h_evc : Fld.evc ∈ F) (h_tw : Fld.tw ∈ F) (h_can : Fld.can ∈ F) (h_freeCtr : Fld.freeCtr ∈ F) (n : Fin 4) (w : PendResp) (s : State) :
    rest F (waitServed n w s) = rest F s := by
  have h : rest F (readRequest (portOfCan n) w.idx w.sub s).1 = rest F s := by simp [*]
  unfold waitServed; dsimp only
  split
  · simp [*]
  · split
    all_goals
      rename_i he
      rw [he] at h
      simpa [*] using h

@[simp] theorem waitRead_rest {F : List Fld} (h_nv : Fld.nv ∈ F) (h_links : Fld.links ∈ F) (h_rails : Fld.rails ∈ F) (h_phases : Fld.phases ∈ F) (h_dies : Fld.dies ∈ F) (h_chg : Fld.chg ∈ F) (h_hk : Fld.hk ∈ F) (h_log : Fld.log ∈ F) (h_evc : Fld.evc ∈ F) (h_tw : Fld.tw ∈ F) (h_can : Fld.can ∈ F) (h_freeCtr : Fld.freeCtr ∈ F) (p : Port) (idx sub : Nat) (s : State) :
    rest F (waitRead p idx sub s) = rest F s := by
  unfold waitRead; (repeat' split) <;> simp [*]

@[simp] theorem readsAnswered_rest {F : List Fld} (h_nv : Fld.nv ∈ F) (h_links : Fld.links ∈ F) (h_rails : Fld.rails ∈ F) (h_phases : Fld.phases ∈ F) (h_dies : Fld.dies ∈ F) (h_chg : Fld.chg ∈ F) (h_hk : Fld.hk ∈ F) (h_log : Fld.log ∈ F) (h_evc : Fld.evc ∈ F) (h_tw : Fld.tw ∈ F) (h_can : Fld.can ∈ F) (h_freeCtr : Fld.freeCtr ∈ F) (k : Fin 7) (s : State) :
    rest F (readsAnswered k s) = rest F s := by
  unfold readsAnswered; simp [*]

@[simp] theorem takeHomeChart_rest {F : List Fld} (h_rails : Fld.rails ∈ F) (h_roles : Fld.roles ∈ F) (h_skipCnt : Fld.skipCnt ∈ F) (s : State) :
    rest F (takeHomeChart s) = rest F s := by
  unfold takeHomeChart; dsimp only; (repeat' first | split | (rw [rest_foldl]) | intro _ _) <;> first | (simp [*]; done) | (simp [rest, *]; done)

@[simp] theorem applyVote_rest {F : List Fld} (h_settings : Fld.settings ∈ F) (h_boot : Fld.boot ∈ F) (h_rails : Fld.rails ∈ F) (h_roles : Fld.roles ∈ F) (h_skipCnt : Fld.skipCnt ∈ F) (s : State) :
    rest F (applyVote s) = rest F s := by
  unfold applyVote; dsimp only; (repeat' first | split | (rw [rest_foldl]) | intro _ _) <;> (try simp_all) <;> (repeat' first | split | (rw [rest_foldl]) | intro _ _) <;> first | (simp [*]; done) | (simp [rest, *]; done)

@[simp] theorem modCopy_rest {F : List Fld} (h_mram : Fld.mram ∈ F) (k : Fin 3) (f : CfgCopy → CfgCopy) (s : State) :
    rest F (modCopy k f s) = rest F s := by
  unfold modCopy; simp [*]

@[simp] theorem startCopy_rest {F : List Fld} (h_mram : Fld.mram ∈ F) (h_nv : Fld.nv ∈ F) (k : Fin 3) (s : State) :
    rest F (startCopy k s) = rest F s := by
  unfold startCopy; simp [*]

@[simp] theorem saveEvent_rest {F : List Fld} (h_evc : Fld.evc ∈ F) (h_tw : Fld.tw ∈ F) (s : State) :
    rest F (saveEvent s) = rest F s := by
  unfold saveEvent; simp [*]

@[simp] theorem cfgSaveOp_rest {F : List Fld} (h_mram : Fld.mram ∈ F) (h_nv : Fld.nv ∈ F) (value : Nat) (s : State) :
    rest F (cfgSaveOp value s).1 = rest F s := by
  unfold cfgSaveOp; (repeat' split) <;> simp [*]

theorem execCfgSave_rest {F : List Fld} (h_mram : Fld.mram ∈ F) (h_nv : Fld.nv ∈ F) (h_ack : Fld.ack ∈ F) (p : Port) (value : Nat) (s : State) :
    Leaves F (execCfgSave p value s) s := by
  unfold execCfgSave; simp [*]

@[simp] theorem nextRepair_rest {F : List Fld} (h_mram : Fld.mram ∈ F) (h_nv : Fld.nv ∈ F) (h_boot : Fld.boot ∈ F) (s : State) :
    rest F (nextRepair s) = rest F s := by
  unfold nextRepair; (repeat' split) <;> simp [*]

@[simp] theorem saveFailed_rest {F : List Fld} (h_mram : Fld.mram ∈ F) (h_nv : Fld.nv ∈ F) (h_boot : Fld.boot ∈ F) (h_log : Fld.log ∈ F) (h_evc : Fld.evc ∈ F) (h_tw : Fld.tw ∈ F) (k : Fin 3) (s : State) :
    rest F (saveFailed k s) = rest F s := by
  unfold saveFailed; simp [*]

@[simp] theorem copyDone_rest {F : List Fld} (h_mram : Fld.mram ∈ F) (h_nv : Fld.nv ∈ F) (h_boot : Fld.boot ∈ F) (h_log : Fld.log ∈ F) (h_evc : Fld.evc ∈ F) (h_tw : Fld.tw ∈ F) (k : Fin 3) (s : State) :
    rest F (copyDone k s) = rest F s := by
  unfold copyDone; (repeat' split) <;> simp [*]

theorem execConfigCopyWritten_rest {F : List Fld} (h_mram : Fld.mram ∈ F) (h_nv : Fld.nv ∈ F) (h_boot : Fld.boot ∈ F) (h_log : Fld.log ∈ F) (h_evc : Fld.evc ∈ F) (h_tw : Fld.tw ∈ F) (ok : Bool) (s : State) :
    Leaves F (execConfigCopyWritten ok s) s := by
  unfold execConfigCopyWritten; (repeat' split) <;> simp [*]

@[simp] theorem modHc_rest {F : List Fld} (h_mram : Fld.mram ∈ F) (f : HomeChart → HomeChart) (s : State) :
    rest F (modHc f s) = rest F s := by
  unfold modHc; simp [*]

@[simp] theorem hcImageOp_rest {F : List Fld} (h_mram : Fld.mram ∈ F) (h_nv : Fld.nv ∈ F) (p : Port) (bytes : List Byte) (s : State) :
    rest F (hcImageOp p bytes s).1 = rest F s := by
  unfold hcImageOp; (repeat' split) <;> simp [*]

theorem execHcImageWrite_rest {F : List Fld} (h_mram : Fld.mram ∈ F) (h_nv : Fld.nv ∈ F) (h_ack : Fld.ack ∈ F) (p : Port) (bytes : List Byte) (s : State) :
    Leaves F (execHcImageWrite p bytes s) s := by
  unfold execHcImageWrite; simp [*]

theorem execHomeChartWritten_rest {F : List Fld} (h_mram : Fld.mram ∈ F) (h_nv : Fld.nv ∈ F) (h_log : Fld.log ∈ F) (h_evc : Fld.evc ∈ F) (h_tw : Fld.tw ∈ F) (h_can : Fld.can ∈ F) (ok : Bool) (s : State) :
    Leaves F (execHomeChartWritten ok s) s := by
  unfold execHomeChartWritten; (repeat' split) <;> simp [*]

@[simp] theorem hcLockOp_rest {F : List Fld} (h_mram : Fld.mram ∈ F) (value : Nat) (s : State) :
    rest F (hcLockOp value s).1 = rest F s := by
  unfold hcLockOp; (repeat' split) <;> simp [*]

theorem execHcLock_rest {F : List Fld} (h_mram : Fld.mram ∈ F) (h_ack : Fld.ack ∈ F) (p : Port) (value : Nat) (s : State) :
    Leaves F (execHcLock p value s) s := by
  unfold execHcLock; simp [*]

theorem execJournalAppend_rest {F : List Fld} (h_mram : Fld.mram ∈ F) (h_nv : Fld.nv ∈ F) (h_log : Fld.log ∈ F) (s : State) :
    Leaves F (execJournalAppend s) s := by
  unfold execJournalAppend; (repeat' split) <;> simp [*]

@[simp] theorem modFix_rest {F : List Fld} (h_mram : Fld.mram ∈ F) (k : Fin 2) (f : LfSlot → LfSlot) (s : State) :
    rest F (modFix k f s) = rest F s := by
  unfold modFix; simp [*]

@[simp] theorem fixWritten_rest {F : List Fld} (h_mram : Fld.mram ∈ F) (s : State) :
    rest F (fixWritten s) = rest F s := by
  unfold fixWritten; simp [*]

@[simp] theorem fixCounted_rest {F : List Fld} (h_mram : Fld.mram ∈ F) (h_nv : Fld.nv ∈ F) (h_freeCtr : Fld.freeCtr ∈ F) (s : State) :
    rest F (fixCounted s) = rest F s := by
  unfold fixCounted; simp [*]

@[simp] theorem tearCtr_rest {F : List Fld} (h_mram : Fld.mram ∈ F) (s : State) :
    rest F (tearCtr s) = rest F s := by
  unfold tearCtr; (repeat' split) <;> simp [*]

theorem execTamper_rest {F : List Fld} (h_mram : Fld.mram ∈ F) (h_nv : Fld.nv ∈ F) (h_hamper : Fld.hamper ∈ F) (h_pwr : Fld.pwr ∈ F) (h_groups : Fld.groups ∈ F) (h_rsto : Fld.rsto ∈ F) (h_log : Fld.log ∈ F) (h_evc : Fld.evc ∈ F) (h_tw : Fld.tw ∈ F) (h_can : Fld.can ∈ F) (h_update : Fld.update ∈ F) (h_freeCtr : Fld.freeCtr ∈ F) (s : State) :
    Leaves F (execTamper s) s := by
  unfold execTamper; simp [*]

theorem execTamperRelease_rest {F : List Fld} (h_nv : Fld.nv ∈ F) (s : State) :
    Leaves F (execTamperRelease s) s := by
  unfold execTamperRelease; simp [*]

@[simp] theorem modUpd_rest {F : List Fld} (h_update : Fld.update ∈ F) (f : UpdState → UpdState) (s : State) :
    rest F (modUpd f s) = rest F s := by
  unfold modUpd; simp [*]

@[simp] theorem modBank_rest {F : List Fld} (h_mram : Fld.mram ∈ F) (k : Fin 2) (f : Bank → Bank) (s : State) :
    rest F (modBank k f s) = rest F s := by
  unfold modBank; simp [*]

@[simp] theorem updTo_rest {F : List Fld} (h_evc : Fld.evc ∈ F) (h_tw : Fld.tw ∈ F) (h_update : Fld.update ∈ F) (ph : UpdPhase) (s : State) :
    rest F (updTo ph s) = rest F s := by
  unfold updTo; simp [*]

@[simp] theorem updRefuse_rest {F : List Fld} (h_update : Fld.update ∈ F) (n : Fin 9) (s : State) :
    rest F (updRefuse n s) = rest F s := by
  unfold updRefuse; simp [*]

@[simp] theorem acceptHeader_rest {F : List Fld} (h_mram : Fld.mram ∈ F) (h_ewd : Fld.ewd ∈ F) (h_evc : Fld.evc ∈ F) (h_tw : Fld.tw ∈ F) (h_update : Fld.update ∈ F) (p : Port) (h : List Byte) (s : State) :
    rest F (acceptHeader p h s) = rest F s := by
  unfold acceptHeader; simp [*]

@[simp] theorem headerOp_rest {F : List Fld} (h_mram : Fld.mram ∈ F) (h_nv : Fld.nv ∈ F) (h_ewd : Fld.ewd ∈ F) (h_log : Fld.log ∈ F) (h_evc : Fld.evc ∈ F) (h_tw : Fld.tw ∈ F) (h_can : Fld.can ∈ F) (h_update : Fld.update ∈ F) (p : Port) (h : List Byte) (s : State) :
    rest F (headerOp p h s).1 = rest F s := by
  unfold headerOp; simp [*]; (repeat' split) <;> simp [*]

theorem execUpdateHeaderCheck_rest {F : List Fld} (h_mram : Fld.mram ∈ F) (h_nv : Fld.nv ∈ F) (h_ewd : Fld.ewd ∈ F) (h_log : Fld.log ∈ F) (h_evc : Fld.evc ∈ F) (h_tw : Fld.tw ∈ F) (h_can : Fld.can ∈ F) (h_update : Fld.update ∈ F) (h_ack : Fld.ack ∈ F) (p : Port) (bytes : List Byte) (s : State) :
    Leaves F (execUpdateHeaderCheck p bytes s) s := by
  unfold execUpdateHeaderCheck; simp [*]

theorem execBankWipeDone_rest {F : List Fld} (h_ewd : Fld.ewd ∈ F) (h_evc : Fld.evc ∈ F) (h_tw : Fld.tw ∈ F) (h_update : Fld.update ∈ F) (s : State) :
    Leaves F (execBankWipeDone s) s := by
  unfold execBankWipeDone; simp [*]

@[simp] theorem imageInit_rest {F : List Fld} (h_update : Fld.update ∈ F) (p : Port) (total : Nat) (s : State) :
    rest F (imageInit p total s).1 = rest F s := by
  unfold imageInit; (repeat' split) <;> simp [*]

@[simp] theorem imageBlock_rest {F : List Fld} (h_update : Fld.update ∈ F) (bytes : List Byte) (closing : Bool) (s : State) :
    rest F (imageBlock bytes closing s).1 = rest F s := by
  unfold imageBlock; simp [*]

@[simp] theorem answerBlock_rest {F : List Fld} (h_can : Fld.can ∈ F) (n : Fin 4) (a : Ack) (s : State) :
    rest F (answerBlock n a s) = rest F s := by
  unfold answerBlock; (repeat' split) <;> simp [*]

theorem execBankBlockWrite_rest {F : List Fld} (h_mram : Fld.mram ∈ F) (h_can : Fld.can ∈ F) (h_update : Fld.update ∈ F) (s : State) :
    Leaves F (execBankBlockWrite s) s := by
  unfold execBankBlockWrite; (repeat' split) <;> simp [*]

@[simp] theorem loadStandby_rest {F : List Fld} (h_dies : Fld.dies ∈ F) (section_ : List Byte) (s : State) :
    rest F (loadStandby section_ s) = rest F s := by
  unfold loadStandby; simp [*]

@[simp] theorem activateOp_rest {F : List Fld} (h_mram : Fld.mram ∈ F) (h_evc : Fld.evc ∈ F) (h_tw : Fld.tw ∈ F) (h_update : Fld.update ∈ F) (s : State) :
    rest F (activateOp s).1 = rest F s := by
  unfold activateOp; (repeat' split) <;> simp [*]

@[simp] theorem confirmTrial_rest {F : List Fld} (h_mram : Fld.mram ∈ F) (h_evc : Fld.evc ∈ F) (h_tw : Fld.tw ∈ F) (h_update : Fld.update ∈ F) (s : State) :
    rest F (confirmTrial s) = rest F s := by
  unfold confirmTrial; simp [*]

@[simp] theorem confirmOp_rest {F : List Fld} (h_mram : Fld.mram ∈ F) (h_evc : Fld.evc ∈ F) (h_tw : Fld.tw ∈ F) (h_update : Fld.update ∈ F) (s : State) :
    rest F (confirmOp s).1 = rest F s := by
  unfold confirmOp; (repeat' split) <;> simp [*]

@[simp] theorem abandonOp_rest {F : List Fld} (h_mram : Fld.mram ∈ F) (h_nv : Fld.nv ∈ F) (h_links : Fld.links ∈ F) (h_boot : Fld.boot ∈ F) (h_sk : Fld.sk ∈ F) (h_pwr : Fld.pwr ∈ F) (h_zin : Fld.zin ∈ F) (h_fo : Fld.fo ∈ F) (h_zbus : Fld.zbus ∈ F) (h_rails : Fld.rails ∈ F) (h_phases : Fld.phases ∈ F) (h_gangs : Fld.gangs ∈ F) (h_dies : Fld.dies ∈ F) (h_items : Fld.items ∈ F) (h_groups : Fld.groups ∈ F) (h_regs : Fld.regs ∈ F) (h_rsto : Fld.rsto ∈ F) (h_pp : Fld.pp ∈ F) (h_chg : Fld.chg ∈ F) (h_gauge : Fld.gauge ∈ F) (h_log : Fld.log ∈ F) (h_faultLine : Fld.faultLine ∈ F) (h_safeN : Fld.safeN ∈ F) (h_evc : Fld.evc ∈ F) (h_tw : Fld.tw ∈ F) (h_can : Fld.can ∈ F) (h_update : Fld.update ∈ F) (h_freeCtr : Fld.freeCtr ∈ F) (s : State) :
    rest F (abandonOp s).1 = rest F s := by
  unfold abandonOp; (repeat' split) <;> simp [*]

@[simp] theorem updCmdOp_rest {F : List Fld} (h_mram : Fld.mram ∈ F) (h_nv : Fld.nv ∈ F) (h_links : Fld.links ∈ F) (h_boot : Fld.boot ∈ F) (h_sk : Fld.sk ∈ F) (h_pwr : Fld.pwr ∈ F) (h_zin : Fld.zin ∈ F) (h_fo : Fld.fo ∈ F) (h_zbus : Fld.zbus ∈ F) (h_rails : Fld.rails ∈ F) (h_phases : Fld.phases ∈ F) (h_gangs : Fld.gangs ∈ F) (h_dies : Fld.dies ∈ F) (h_items : Fld.items ∈ F) (h_groups : Fld.groups ∈ F) (h_regs : Fld.regs ∈ F) (h_rsto : Fld.rsto ∈ F) (h_pp : Fld.pp ∈ F) (h_chg : Fld.chg ∈ F) (h_gauge : Fld.gauge ∈ F) (h_log : Fld.log ∈ F) (h_faultLine : Fld.faultLine ∈ F) (h_safeN : Fld.safeN ∈ F) (h_evc : Fld.evc ∈ F) (h_tw : Fld.tw ∈ F) (h_can : Fld.can ∈ F) (h_update : Fld.update ∈ F) (h_freeCtr : Fld.freeCtr ∈ F) (value : Nat) (s : State) :
    rest F (updCmdOp value s).1 = rest F s := by
  unfold updCmdOp; (repeat' split) <;> simp [*]

theorem execUpdActivate_rest {F : List Fld} (h_mram : Fld.mram ∈ F) (h_nv : Fld.nv ∈ F) (h_links : Fld.links ∈ F) (h_boot : Fld.boot ∈ F) (h_sk : Fld.sk ∈ F) (h_pwr : Fld.pwr ∈ F) (h_zin : Fld.zin ∈ F) (h_fo : Fld.fo ∈ F) (h_zbus : Fld.zbus ∈ F) (h_rails : Fld.rails ∈ F) (h_phases : Fld.phases ∈ F) (h_gangs : Fld.gangs ∈ F) (h_dies : Fld.dies ∈ F) (h_items : Fld.items ∈ F) (h_groups : Fld.groups ∈ F) (h_regs : Fld.regs ∈ F) (h_rsto : Fld.rsto ∈ F) (h_pp : Fld.pp ∈ F) (h_chg : Fld.chg ∈ F) (h_gauge : Fld.gauge ∈ F) (h_log : Fld.log ∈ F) (h_faultLine : Fld.faultLine ∈ F) (h_safeN : Fld.safeN ∈ F) (h_evc : Fld.evc ∈ F) (h_tw : Fld.tw ∈ F) (h_can : Fld.can ∈ F) (h_update : Fld.update ∈ F) (h_ack : Fld.ack ∈ F) (h_freeCtr : Fld.freeCtr ∈ F) (p : Port) (s : State) :
    Leaves F (execUpdActivate p s) s := by
  unfold execUpdActivate; simp [*]

theorem execUpdConfirm_rest {F : List Fld} (h_mram : Fld.mram ∈ F) (h_nv : Fld.nv ∈ F) (h_links : Fld.links ∈ F) (h_boot : Fld.boot ∈ F) (h_sk : Fld.sk ∈ F) (h_pwr : Fld.pwr ∈ F) (h_zin : Fld.zin ∈ F) (h_fo : Fld.fo ∈ F) (h_zbus : Fld.zbus ∈ F) (h_rails : Fld.rails ∈ F) (h_phases : Fld.phases ∈ F) (h_gangs : Fld.gangs ∈ F) (h_dies : Fld.dies ∈ F) (h_items : Fld.items ∈ F) (h_groups : Fld.groups ∈ F) (h_regs : Fld.regs ∈ F) (h_rsto : Fld.rsto ∈ F) (h_pp : Fld.pp ∈ F) (h_chg : Fld.chg ∈ F) (h_gauge : Fld.gauge ∈ F) (h_log : Fld.log ∈ F) (h_faultLine : Fld.faultLine ∈ F) (h_safeN : Fld.safeN ∈ F) (h_evc : Fld.evc ∈ F) (h_tw : Fld.tw ∈ F) (h_can : Fld.can ∈ F) (h_update : Fld.update ∈ F) (h_ack : Fld.ack ∈ F) (h_freeCtr : Fld.freeCtr ∈ F) (p : Port) (s : State) :
    Leaves F (execUpdConfirm p s) s := by
  unfold execUpdConfirm; simp [*]

theorem execUpdAbandon_rest {F : List Fld} (h_mram : Fld.mram ∈ F) (h_nv : Fld.nv ∈ F) (h_links : Fld.links ∈ F) (h_boot : Fld.boot ∈ F) (h_sk : Fld.sk ∈ F) (h_pwr : Fld.pwr ∈ F) (h_zin : Fld.zin ∈ F) (h_fo : Fld.fo ∈ F) (h_zbus : Fld.zbus ∈ F) (h_rails : Fld.rails ∈ F) (h_phases : Fld.phases ∈ F) (h_gangs : Fld.gangs ∈ F) (h_dies : Fld.dies ∈ F) (h_items : Fld.items ∈ F) (h_groups : Fld.groups ∈ F) (h_regs : Fld.regs ∈ F) (h_rsto : Fld.rsto ∈ F) (h_pp : Fld.pp ∈ F) (h_chg : Fld.chg ∈ F) (h_gauge : Fld.gauge ∈ F) (h_log : Fld.log ∈ F) (h_faultLine : Fld.faultLine ∈ F) (h_safeN : Fld.safeN ∈ F) (h_evc : Fld.evc ∈ F) (h_tw : Fld.tw ∈ F) (h_can : Fld.can ∈ F) (h_update : Fld.update ∈ F) (h_ack : Fld.ack ∈ F) (h_freeCtr : Fld.freeCtr ∈ F) (p : Port) (s : State) :
    Leaves F (execUpdAbandon p s) s := by
  unfold execUpdAbandon; simp [*]

@[simp] theorem runStandby_rest {F : List Fld} (h_dies : Fld.dies ∈ F) (s : State) :
    rest F (runStandby s) = rest F s := by
  unfold runStandby; simp [*]

@[simp] theorem heldFaults_rest {F : List Fld} (h_mram : Fld.mram ∈ F) (h_nv : Fld.nv ∈ F) (h_links : Fld.links ∈ F) (h_boot : Fld.boot ∈ F) (h_sk : Fld.sk ∈ F) (h_pwr : Fld.pwr ∈ F) (h_zin : Fld.zin ∈ F) (h_fo : Fld.fo ∈ F) (h_zbus : Fld.zbus ∈ F) (h_rails : Fld.rails ∈ F) (h_phases : Fld.phases ∈ F) (h_gangs : Fld.gangs ∈ F) (h_dies : Fld.dies ∈ F) (h_items : Fld.items ∈ F) (h_groups : Fld.groups ∈ F) (h_regs : Fld.regs ∈ F) (h_rsto : Fld.rsto ∈ F) (h_pp : Fld.pp ∈ F) (h_chg : Fld.chg ∈ F) (h_gauge : Fld.gauge ∈ F) (h_log : Fld.log ∈ F) (h_faultLine : Fld.faultLine ∈ F) (h_safeN : Fld.safeN ∈ F) (h_evc : Fld.evc ∈ F) (h_tw : Fld.tw ∈ F) (h_can : Fld.can ∈ F) (h_update : Fld.update ∈ F) (h_freeCtr : Fld.freeCtr ∈ F) (s : State) :
    rest F (heldFaults s) = rest F s := by
  have h : ∀ (l : List (Option FaultCode)) (a : State), rest F (l.foldl (fun a c => match c with
      | some code => classAFollow code (safeItems a) a
      | none => safeShutdowns (safeItems a) a) a) = rest F a := by
    intro l a
    apply rest_foldl
    intro a c
    cases c <;> simp [*]
  have h' : ∀ (f : UpdState → UpdState), rest F (modUpd f s) = rest F s := by intro f; simp [*]
  have g : ∀ (l : List (Fin 46 × ItemFaultCode)) (a : State), rest F (itemReact l a) = rest F a := by intro l a; simp [*]
  unfold heldFaults; dsimp only
  split
  · exact (g _ _).trans ((h _ _).trans (h' _))
  · exact (h _ _).trans (h' _)

@[simp] theorem heldReactions_rest {F : List Fld} (h_mram : Fld.mram ∈ F) (h_nv : Fld.nv ∈ F) (h_links : Fld.links ∈ F) (h_boot : Fld.boot ∈ F) (h_sk : Fld.sk ∈ F) (h_pwr : Fld.pwr ∈ F) (h_zin : Fld.zin ∈ F) (h_fo : Fld.fo ∈ F) (h_zbus : Fld.zbus ∈ F) (h_rails : Fld.rails ∈ F) (h_phases : Fld.phases ∈ F) (h_gangs : Fld.gangs ∈ F) (h_dies : Fld.dies ∈ F) (h_items : Fld.items ∈ F) (h_groups : Fld.groups ∈ F) (h_regs : Fld.regs ∈ F) (h_rsto : Fld.rsto ∈ F) (h_pp : Fld.pp ∈ F) (h_chg : Fld.chg ∈ F) (h_gauge : Fld.gauge ∈ F) (h_wd : Fld.wd ∈ F) (h_log : Fld.log ∈ F) (h_faultLine : Fld.faultLine ∈ F) (h_safeN : Fld.safeN ∈ F) (h_evc : Fld.evc ∈ F) (h_tw : Fld.tw ∈ F) (h_can : Fld.can ∈ F) (h_update : Fld.update ∈ F) (h_freeCtr : Fld.freeCtr ∈ F) (s : State) :
    rest F (heldReactions s) = rest F s := by
  unfold heldReactions; simp [*]

theorem execActivationPauseEnd_rest {F : List Fld} (h_mram : Fld.mram ∈ F) (h_nv : Fld.nv ∈ F) (h_links : Fld.links ∈ F) (h_boot : Fld.boot ∈ F) (h_sk : Fld.sk ∈ F) (h_pwr : Fld.pwr ∈ F) (h_zin : Fld.zin ∈ F) (h_fo : Fld.fo ∈ F) (h_zbus : Fld.zbus ∈ F) (h_rails : Fld.rails ∈ F) (h_phases : Fld.phases ∈ F) (h_gangs : Fld.gangs ∈ F) (h_dies : Fld.dies ∈ F) (h_items : Fld.items ∈ F) (h_groups : Fld.groups ∈ F) (h_regs : Fld.regs ∈ F) (h_rsto : Fld.rsto ∈ F) (h_pp : Fld.pp ∈ F) (h_chg : Fld.chg ∈ F) (h_gauge : Fld.gauge ∈ F) (h_wd : Fld.wd ∈ F) (h_log : Fld.log ∈ F) (h_faultLine : Fld.faultLine ∈ F) (h_safeN : Fld.safeN ∈ F) (h_evc : Fld.evc ∈ F) (h_tw : Fld.tw ∈ F) (h_can : Fld.can ∈ F) (h_update : Fld.update ∈ F) (h_freeCtr : Fld.freeCtr ∈ F) (s : State) :
    Leaves F (execActivationPauseEnd s) s := by
  unfold execActivationPauseEnd; simp [*]

theorem execActivationTimeout_rest {F : List Fld} (h_mram : Fld.mram ∈ F) (h_nv : Fld.nv ∈ F) (h_links : Fld.links ∈ F) (h_boot : Fld.boot ∈ F) (h_sk : Fld.sk ∈ F) (h_pwr : Fld.pwr ∈ F) (h_zin : Fld.zin ∈ F) (h_fo : Fld.fo ∈ F) (h_zbus : Fld.zbus ∈ F) (h_rails : Fld.rails ∈ F) (h_phases : Fld.phases ∈ F) (h_gangs : Fld.gangs ∈ F) (h_dies : Fld.dies ∈ F) (h_items : Fld.items ∈ F) (h_groups : Fld.groups ∈ F) (h_regs : Fld.regs ∈ F) (h_rsto : Fld.rsto ∈ F) (h_pp : Fld.pp ∈ F) (h_chg : Fld.chg ∈ F) (h_gauge : Fld.gauge ∈ F) (h_log : Fld.log ∈ F) (h_faultLine : Fld.faultLine ∈ F) (h_safeN : Fld.safeN ∈ F) (h_evc : Fld.evc ∈ F) (h_tw : Fld.tw ∈ F) (h_can : Fld.can ∈ F) (h_update : Fld.update ∈ F) (h_freeCtr : Fld.freeCtr ∈ F) (e : Fin 18) (s : State) :
    Leaves F (execActivationTimeout e s) s := by
  unfold execActivationTimeout; simp [*]

theorem execTrialEnd_rest {F : List Fld} (h_mram : Fld.mram ∈ F) (h_evc : Fld.evc ∈ F) (h_tw : Fld.tw ∈ F) (h_update : Fld.update ∈ F) (s : State) :
    Leaves F (execTrialEnd s) s := by
  unfold execTrialEnd; simp [*]

@[simp] theorem lcAdvanceOp_rest {F : List Fld} (h_mram : Fld.mram ∈ F) (h_nv : Fld.nv ∈ F) (h_hamper : Fld.hamper ∈ F) (h_evc : Fld.evc ∈ F) (h_tw : Fld.tw ∈ F) (h_can : Fld.can ∈ F) (h_update : Fld.update ∈ F) (value : Nat) (s : State) :
    rest F (lcAdvanceOp value s).1 = rest F s := by
  unfold lcAdvanceOp; (repeat' split) <;> simp [*]

theorem execLcAdvance_rest {F : List Fld} (h_mram : Fld.mram ∈ F) (h_nv : Fld.nv ∈ F) (h_hamper : Fld.hamper ∈ F) (h_evc : Fld.evc ∈ F) (h_tw : Fld.tw ∈ F) (h_can : Fld.can ∈ F) (h_update : Fld.update ∈ F) (h_ack : Fld.ack ∈ F) (p : Port) (value : Nat) (s : State) :
    Leaves F (execLcAdvance p value s) s := by
  unfold execLcAdvance; simp [*]

end Sys2Proof.Laws
end

