-- ==== Sys2Proof/Laws/Memory.lean ====
section
/-! SUPPORT. The laws of the Hamper's bytes: every memory operation keeps the canonical form, and a read after a write. -/

namespace Sys2Proof.Laws.Mem

open Sys2Proof.Machine

@[simp] theorem wfFrom_nil (lo : Nat) : Memory.wfFrom lo [] = true := by cases lo <;> rfl

theorem wfFrom_cons (lo a : Nat) (b : Byte) (l : List Host.Cell) :
    Memory.wfFrom lo ((a, b) :: l) = true ↔ lo ≤ a ∧ a < 0x80000 ∧ b ≠ 0 ∧ Memory.wfFrom (a + 1) l = true := by
  simp [Memory.wfFrom, and_assoc]

theorem wfFrom_mono {lo lo' : Nat} {m : List Host.Cell} (h : lo' ≤ lo) (hm : Memory.wfFrom lo m = true) :
    Memory.wfFrom lo' m = true := by
  cases m with
  | nil => simp
  | cons c l =>
    obtain ⟨a, b⟩ := c
    rw [wfFrom_cons] at hm ⊢
    exact ⟨Nat.le_trans h hm.1, hm.2⟩

/-- A write of one byte inside the Hamper keeps the form. -/
theorem put_wfFrom {m : List Host.Cell} {lo k : Nat} {v : Byte} (hlo : lo ≤ k) (hk : k < 0x80000)
    (hm : Memory.wfFrom lo m = true) : Memory.wfFrom lo (Memory.put m k v) = true := by
  induction m generalizing lo with
  | nil =>
    unfold Memory.put
    split
    · simp
    · rw [wfFrom_cons]; exact ⟨hlo, hk, by assumption, by simp⟩
  | cons c l ih =>
    obtain ⟨a, b⟩ := c
    rw [wfFrom_cons] at hm
    obtain ⟨h1, h2, h3, h4⟩ := hm
    unfold Memory.put
    split
    · split
      · rw [wfFrom_cons]; exact ⟨h1, h2, h3, h4⟩
      · rw [wfFrom_cons, wfFrom_cons]
        exact ⟨hlo, hk, by assumption, by omega, h2, h3, h4⟩
    · split
      · split
        · exact wfFrom_mono (by omega) h4
        · rw [wfFrom_cons]; subst_vars; exact ⟨hlo, hk, by assumption, h4⟩
      · rw [wfFrom_cons]; exact ⟨h1, h2, h3, ih (by omega) h4⟩

/-- A write of one byte keeps the form. -/
theorem put_wf {m : List Host.Cell} {k : Nat} {v : Byte} (hk : k < 0x80000) (hm : Memory.wf m = true) :
    Memory.wf (Memory.put m k v) = true := put_wfFrom (Nat.zero_le k) hk hm

/-- A write of bytes keeps the form. -/
theorem putBytes_wf {m : List Host.Cell} {k : Nat} {l : List Byte} (hm : Memory.wf m = true) :
    Memory.wf (Memory.putBytes m k l) = true := by
  induction l generalizing m k with
  | nil => exact hm
  | cons b l ih =>
    unfold Memory.putBytes
    apply ih
    split
    · exact put_wf (by assumption) hm
    · exact hm

/-- Dropping entries keeps the form. -/
theorem filter_wfFrom {m : List Host.Cell} {lo : Nat} (p : Host.Cell → Bool) (hm : Memory.wfFrom lo m = true) :
    Memory.wfFrom lo (m.filter p) = true := by
  induction m generalizing lo with
  | nil => simp
  | cons c l ih =>
    obtain ⟨a, b⟩ := c
    rw [wfFrom_cons] at hm
    rw [List.filter_cons]
    split
    · rw [wfFrom_cons]; exact ⟨hm.1, hm.2.1, hm.2.2.1, ih hm.2.2.2⟩
    · exact wfFrom_mono (by omega) (ih hm.2.2.2)

theorem filter_wf {m : List Host.Cell} (p : Host.Cell → Bool) (hm : Memory.wf m = true) : Memory.wf (m.filter p) = true :=
  filter_wfFrom p hm

theorem reset_wf : Memory.wf State.reset.hamper.mem = true := rfl

/-- In a memory whose entries stand from `lo` on, every byte below is 0. -/
theorem get_below {m : List Host.Cell} {lo k : Nat} (hm : Memory.wfFrom lo m = true) (h : k < lo) : Memory.get m k = 0 := by
  cases m with
  | nil => simp [Memory.get]
  | cons c l =>
    obtain ⟨a, b⟩ := c
    rw [wfFrom_cons] at hm
    unfold Memory.get
    rw [if_neg (by omega), if_pos (by omega)]

/-- A read after a write of the byte gives the value written. -/
theorem get_put_same {m : List Host.Cell} {lo k : Nat} {v : Byte} (hm : Memory.wfFrom lo m = true) :
    Memory.get (Memory.put m k v) k = v := by
  induction m generalizing lo with
  | nil =>
    unfold Memory.put
    split
    · simp_all [Memory.get]
    · simp [Memory.get]
  | cons c l ih =>
    obtain ⟨a, b⟩ := c
    rw [wfFrom_cons] at hm
    unfold Memory.put
    split
    · split
      · unfold Memory.get; rw [if_neg (by omega), if_pos (by omega)]; simp_all
      · simp [Memory.get]
    · split
      · split
        · subst_vars; exact get_below hm.2.2.2 (by omega)
        · simp [Memory.get]
      · unfold Memory.get; rw [if_neg (by omega), if_neg (by omega)]; exact ih hm.2.2.2

/-- A write of one byte leaves every other byte as it was. -/
theorem get_put_other {m : List Host.Cell} {lo k j : Nat} {v : Byte} (hm : Memory.wfFrom lo m = true) (hj : j ≠ k) :
    Memory.get (Memory.put m k v) j = Memory.get m j := by
  induction m generalizing lo with
  | nil =>
    unfold Memory.put
    split
    · rfl
    · simp only [Memory.get]; rw [if_neg (by omega)]; split <;> rfl
  | cons c l ih =>
    obtain ⟨a, b⟩ := c
    rw [wfFrom_cons] at hm
    unfold Memory.put
    split
    · split
      · rfl
      · rw [Memory.get]
        rw [if_neg (by omega)]
        split
        · unfold Memory.get; rw [if_neg (by omega), if_pos (by omega)]
        · rfl
    · split
      · split
        · subst_vars
          by_cases h : j < a + 1
          · rw [get_below hm.2.2.2 h]; unfold Memory.get; rw [if_neg (by omega), if_pos (by omega)]
          · conv => rhs; unfold Memory.get
            rw [if_neg (by omega), if_neg (by omega)]
        · subst_vars
          simp only [Memory.get]
          have h : ¬ a = j := fun h => hj h.symm
          simp only [if_neg h]
      · simp only [Memory.get]
        split
        · rfl
        · split
          · rfl
          · exact ih hm.2.2.2

/-- A write of bytes leaves every byte outside them as it was. -/
theorem get_putBytes_other {m : List Host.Cell} {k j : Nat} {l : List Byte} (hm : Memory.wf m = true)
    (hj : j < k ∨ k + l.length ≤ j) : Memory.get (Memory.putBytes m k l) j = Memory.get m j := by
  induction l generalizing m k with
  | nil => rfl
  | cons b l ih =>
    simp only [List.length_cons] at hj
    unfold Memory.putBytes
    split
    · rw [ih (put_wf (by assumption) hm) (by omega), get_put_other hm (by omega)]
    · exact ih hm (by omega)

/-- The bytes just written read back, as far as they lie inside the Hamper. -/
theorem getBytes_putBytes {m : List Host.Cell} {k : Nat} {l : List Byte} (hm : Memory.wf m = true) (hk : k + l.length ≤ 0x80000) :
    Memory.getBytes (Memory.putBytes m k l) k l.length = l := by
  induction l generalizing m k with
  | nil => rfl
  | cons b l ih =>
    simp only [List.length_cons] at hk
    unfold Memory.putBytes
    rw [if_pos (by omega)]
    have h1 : Memory.wf (Memory.put m k b) = true := put_wf (by omega) hm
    rw [List.length_cons, Memory.getBytes, get_putBytes_other h1 (by omega), get_put_same hm, ih h1 (by omega)]

end Sys2Proof.Laws.Mem
end

