-- ==== Sys2Proof/Laws/Kept.lean ====
section
/-! SUPPORT. What every operation keeps: the part, the queue, the Hamper's bytes, the life-cycle state and the lock word. An
operation that writes the bytes, the fuses or the lock word keeps their form (`Grown`). -/

namespace Sys2Proof.Laws

open Sys2Proof.Machine

structure Kept where
  part : Part
  pending : List Instr
  mem : List Host.Cell
  lc : Nat
  lockLo : Nat
  lockHi : Nat
def kept (s : State) : Kept := ⟨s.part, s.pending, s.hamper.mem, s.mram.lc, s.mram.hc.lockLo, s.mram.hc.lockHi⟩
@[simp] theorem kept_mk xpart xsettings xmram xnv xclk xhamper xlinks xstraps xboot xsk xpwr xzin xfo xzbus xrails xphases xgangs xdies xitems xgroups xregs xrsto xpp xchg xgauge xhk xtherm xwd xewd xlog xfaultLine xsafeN xfab xevc xtw xcan xroles xreports xxb xnetLast xdirSel xupdate xskipCnt xhintAt xack xdevTime xaonAcc xfreeCtr xpending :
    kept (State.mk xpart xsettings xmram xnv xclk xhamper xlinks xstraps xboot xsk xpwr xzin xfo xzbus xrails xphases xgangs xdies xitems xgroups xregs xrsto xpp xchg xgauge xhk xtherm xwd xewd xlog xfaultLine xsafeN xfab xevc xtw xcan xroles xreports xxb xnetLast xdirSel xupdate xskipCnt xhintAt xack xdevTime xaonAcc xfreeCtr xpending) = ⟨xpart, xpending, xhamper.mem, xmram.lc, xmram.hc.lockLo, xmram.hc.lockHi⟩ := rfl
@[simp] theorem kept_fold (s : State) : Kept.mk s.part s.pending s.hamper.mem s.mram.lc s.mram.hc.lockLo s.mram.hc.lockHi = kept s := rfl
@[simp] theorem kept_ite (c : Prop) [Decidable c] (a b : State) : kept (if c then a else b) = if c then kept a else kept b := by
  split <;> rfl
@[simp] theorem kept_foldl {α : Type} (g : State → α → State) (h : ∀ a x, kept (g a x) = kept a) (l : List α) (s : State) :
    kept (l.foldl g s) = kept s := by
  induction l generalizing s with
  | nil => rfl
  | cons x l ih => simp [ih, h]
@[simp] theorem store_kept (s : State) (k v : Nat) : kept (s.store k v) = kept s := rfl
/-- A meaning that answers a next state keeps what `kept` reads. -/
def Keeps (r : Res) (s : State) : Prop := match r with | .next t => kept t = kept s | .fault _ => True | .refused _ => True
@[simp] theorem keeps_next (t s : State) : Keeps (.next t) s = (kept t = kept s) := rfl
@[simp] theorem keeps_fault (f : Fault) (s : State) : Keeps (.fault f) s = True := rfl
@[simp] theorem keeps_refused (f : Refusal) (s : State) : Keeps (.refused f) s = True := rfl
@[simp] theorem keeps_ite (c : Prop) [Decidable c] (a b : Res) (s : State) : Keeps (if c then a else b) s = if c then Keeps a s else Keeps b s := by
  split <;> rfl
structure Grown (b k : Kept) : Prop where
  part : k.part = b.part
  pending : k.pending = b.pending
  mem : Memory.wf b.mem = true → Memory.wf k.mem = true
  lc : b.lc ≤ k.lc
  lockLo : b.lockLo = 0x4C4F434B → k.lockLo = 0x4C4F434B
  lockHi : b.lockHi = 0xB3B0BCB4 → k.lockHi = 0xB3B0BCB4
theorem Grown.rfl (b : Kept) : Grown b b := ⟨Eq.refl _, Eq.refl _, id, Nat.le_refl _, id, id⟩
def Grows (b : Kept) (r : Res) : Prop := match r with | .next t => Grown b (kept t) | .fault _ => True | .refused _ => True
@[simp] theorem grows_next (b : Kept) (t : State) : Grows b (.next t) = Grown b (kept t) := rfl
@[simp] theorem grows_fault (b : Kept) (f : Fault) : Grows b (.fault f) = True := rfl
@[simp] theorem grows_refused (b : Kept) (f : Refusal) : Grows b (.refused f) = True := rfl
theorem grown_foldl {α : Type} (b : Kept) (g : State → α → State) (h : ∀ a x, Grown b (kept a) → Grown b (kept (g a x))) (l : List α) (s : State)
    (hs : Grown b (kept s)) : Grown b (kept (l.foldl g s)) := by
  induction l generalizing s with
  | nil => exact hs
  | cons x l ih => exact ih _ (h _ _ hs)
end Sys2Proof.Laws
end

