-- ==== Sys2Proof/Laws/KeptShared.lean ====
section
/-! SUPPORT. What is kept by the shared moves. -/

namespace Sys2Proof.Laws

open Sys2Proof.Machine

@[simp] theorem evRefresh_kept (s : State) :
    kept (evRefresh s) = kept s := by
  unfold evRefresh; simp

@[simp] theorem eventEdge_kept (slot : Nat) (s : State) :
    kept (eventEdge slot s) = kept s := by
  unfold eventEdge; (repeat' split) <;> simp

@[simp] theorem eventLevel_kept (slot : Nat) (holds : Bool) (s : State) :
    kept (eventLevel slot holds s) = kept s := by
  unfold eventLevel; simp

@[simp] theorem logRing_kept (f : HeldFault) (s : State) :
    kept (logRing f s) = kept s := by
  unfold logRing; simp

@[simp] theorem logEntry_kept (f : HeldFault) (s : State) :
    kept (logEntry f s) = kept s := by
  unfold logEntry; simp

@[simp] theorem logFault_kept (code : FaultCode) (die src detail : Nat) (s : State) :
    kept (logFault code die src detail s) = kept s := by
  unfold logFault; simp

@[simp] theorem setAck_kept (a : Ack) (s : State) :
    kept (setAck a s) = kept s := by
  unfold setAck; simp

@[simp] theorem useFree_kept (s : State) :
    kept (useFree s) = kept s := by
  unfold useFree; simp

@[simp] theorem directWrite_kept (p : Port) (key : Nat) (s : State) (f : State → State × Ack) (h : ∀ s, kept (f s).1 = kept s) :
    kept (directWrite p key s f) = kept s := by
  unfold directWrite
  (repeat' split) <;> simp_all
@[simp] theorem directWrite_grown (b₀ : Kept) (p : Port) (key : Nat) (s : State) (f : State → State × Ack)
    (h : ∀ s, Grown b₀ (kept s) → Grown b₀ (kept (f s).1)) (h₀ : Grown b₀ (kept s)) : Grown b₀ (kept (directWrite p key s f)) := by
  unfold directWrite
  (repeat' split) <;> simp [h, h₀]

@[simp] theorem directRead_kept (p : Port) (key : Nat) (s : State) (f : State → State × Nat) (h : ∀ s, kept (f s).1 = kept s) :
    kept (directRead p key s f) = kept s := by
  unfold directRead
  (repeat' split) <;> simp_all

@[simp] theorem wrSet_kept (n : Fin 2) (w : WrResult) (ofs : Nat) (s : State) :
    kept (wrSet n w ofs s) = kept s := by
  unfold wrSet; simp

@[simp] theorem ptrPast_kept (n : Fin 2) (k : Nat) (s : State) :
    kept (ptrPast n k s) = kept s := by
  unfold ptrPast; simp

@[simp] theorem modLink_kept (k : Fin 7) (f : LinkState → LinkState) (s : State) :
    kept (modLink k f s) = kept s := by
  unfold modLink; simp

@[simp] theorem modEnd_kept (k : Fin 7) (e : LinkEndSel) (f : LinkEnd → LinkEnd) (s : State) :
    kept (modEnd k e f s) = kept s := by
  unfold modEnd; (repeat' split) <;> simp

@[simp] theorem crossLink_kept (k : Fin 7) (recv : LinkEndSel) (f : LinkFrame) (s : State) :
    kept (crossLink k recv f s) = kept s := by
  unfold crossLink; simp

@[simp] theorem eventIn_kept (k : Fin 7) (source : Nat) (s : State) :
    kept (eventIn k source s) = kept s := by
  unfold eventIn; simp

@[simp] theorem helmTakes_kept (k : Fin 7) (f : LinkFrame) (s : State) :
    kept (helmTakes k f s) = kept s := by
  unfold helmTakes; (repeat' split) <;> simp

@[simp] theorem railPump_kept (k : Fin 7) (s : State) :
    kept (railPump k s) = kept s := by
  unfold railPump; simp

@[simp] theorem railSend_kept (k : Fin 7) (tag : Nat) (p : FramePayload) (s : State) :
    kept (railSend k tag p s) = kept s := by
  unfold railSend; simp

@[simp] theorem dieEvent_kept (k : Fin 7) (source : Nat) (s : State) :
    kept (dieEvent k source s) = kept s := by
  unfold dieEvent; simp

@[simp] theorem modZin_kept (n : Fin 4) (f : ZinChan → ZinChan) (s : State) :
    kept (modZin n f s) = kept s := by
  unfold modZin; simp

@[simp] theorem modFo_kept (n : Fin 8) (f : FoChan → FoChan) (s : State) :
    kept (modFo n f s) = kept s := by
  unfold modFo; simp

@[simp] theorem zinTo_kept (n : Fin 4) (ph : ZinPhase) (s : State) :
    kept (zinTo n ph s) = kept s := by
  unfold zinTo; simp

@[simp] theorem foTo_kept (n : Fin 8) (ph : FoPhase) (s : State) :
    kept (foTo n ph s) = kept s := by
  unfold foTo; simp

@[simp] theorem zinSettle_kept (n : Fin 4) (s : State) :
    kept (zinSettle n s) = kept s := by
  unfold zinSettle; simp

@[simp] theorem zinTurnOn_kept (n : Fin 4) (nearBus : Bool) (s : State) :
    kept (zinTurnOn n nearBus s) = kept s := by
  unfold zinTurnOn; simp

@[simp] theorem foQualified_kept (n : Fin 8) (s : State) :
    kept (foQualified n s) = kept s := by
  unfold foQualified; simp

@[simp] theorem foEntry_kept (n : Fin 8) (s : State) :
    kept (foEntry n s) = kept s := by
  unfold foEntry; simp

@[simp] theorem foQualCond_kept (n : Fin 8) (s : State) :
    kept (foQualCond n s) = kept s := by
  unfold foQualCond; simp

@[simp] theorem foCommandOn_kept (n : Fin 8) (s : State) :
    kept (foCommandOn n s) = kept s := by
  unfold foCommandOn; (repeat' split) <;> simp

@[simp] theorem foCommandOff_kept (n : Fin 8) (s : State) :
    kept (foCommandOff n s) = kept s := by
  unfold foCommandOff; (repeat' split) <;> simp

@[simp] theorem foForceOff_kept (n : Fin 8) (s : State) :
    kept (foForceOff n s) = kept s := by
  unfold foForceOff; (repeat' split) <;> simp

@[simp] theorem foReachOff_kept (n : Fin 8) (s : State) :
    kept (foReachOff n s) = kept s := by
  unfold foReachOff; simp

@[simp] theorem zinRetryDone_kept (n : Fin 4) (nearBus : Bool) (s : State) :
    kept (zinRetryDone n nearBus s) = kept s := by
  unfold zinRetryDone; simp

@[simp] theorem foRetryDone_kept (n : Fin 8) (s : State) :
    kept (foRetryDone n s) = kept s := by
  unfold foRetryDone; simp

@[simp] theorem logZinTrip_kept (n : Fin 4) (s : State) :
    kept (logZinTrip n s) = kept s := by
  unfold logZinTrip; simp

@[simp] theorem logFoTrip_kept (n : Fin 8) (s : State) :
    kept (logFoTrip n s) = kept s := by
  unfold logFoTrip; simp

@[simp] theorem zinTripsLogged_kept (n : Fin 4) (s : State) :
    kept (zinTripsLogged n s) = kept s := by
  unfold zinTripsLogged; simp

@[simp] theorem foTripsLogged_kept (n : Fin 8) (s : State) :
    kept (foTripsLogged n s) = kept s := by
  unfold foTripsLogged; simp

@[simp] theorem parkTripsLogged_kept (s : State) :
    kept (parkTripsLogged s) = kept s := by
  unfold parkTripsLogged; simp

@[simp] theorem zinTrip_kept (n : Fin 4) (b : Nat) (s : State) :
    kept (zinTrip n b s) = kept s := by
  unfold zinTrip; simp

@[simp] theorem foTrip_kept (n : Fin 8) (b : Nat) (s : State) :
    kept (foTrip n b s) = kept s := by
  unfold foTrip; simp

@[simp] theorem zinClearOp_kept (n : Fin 4) (nearBus : Bool) (s : State) :
    kept (zinClearOp n nearBus s).1 = kept s := by
  unfold zinClearOp; (repeat' split) <;> simp

@[simp] theorem foClearOp_kept (n : Fin 8) (s : State) :
    kept (foClearOp n s).1 = kept s := by
  unfold foClearOp; (repeat' split) <;> simp

@[simp] theorem modNv_kept (f : StoreState → StoreState) (s : State) :
    kept (modNv f s) = kept s := by
  unfold modNv; simp

@[simp] theorem modSlot_kept (k : Fin 2) (f : GaugeSlot → GaugeSlot) (s : State) :
    kept (modSlot k f s) = kept s := by
  unfold modSlot; simp

@[simp] theorem mramFresh_kept (base n : Nat) (s : State) :
    kept (mramFresh base n s) = kept s := by
  unfold mramFresh; simp

@[simp] theorem startWriteBack_kept (s : State) :
    kept (startWriteBack s) = kept s := by
  unfold startWriteBack; simp

@[simp] theorem requestWriteBack_kept (s : State) :
    kept (requestWriteBack s) = kept s := by
  unfold requestWriteBack; (repeat' split) <;> simp

@[simp] theorem areaFull_kept (s : State) :
    kept (areaFull s) = kept s := by
  unfold areaFull; (repeat' split) <;> simp

@[simp] theorem putCtrRec_kept (r : CtrRec) (s : State) :
    kept (putCtrRec r s) = kept s := by
  unfold putCtrRec; (repeat' split) <;> simp

@[simp] theorem ctrAppend_kept (id : Fin 12) (value : Nat) (s : State) :
    kept (ctrAppend id value s) = kept s := by
  unfold ctrAppend; simp

@[simp] theorem dropWrites_kept (s : State) :
    kept (dropWrites s) = kept s := by
  unfold dropWrites; simp

@[simp] theorem abandonWrites_kept (s : State) :
    kept (abandonWrites s) = kept s := by
  unfold abandonWrites; simp

@[simp] theorem journalPut_kept (r : LogRec) (s : State) :
    kept (journalPut r s) = kept s := by
  unfold journalPut; simp

@[simp] theorem tearJournal_kept (s : State) :
    kept (tearJournal s) = kept s := by
  unfold tearJournal; simp

@[simp] theorem journalOne_kept (s : State) :
    kept (journalOne s) = kept s := by
  unfold journalOne; (repeat' split) <;> simp

@[simp] theorem journalFlush_kept (s : State) :
    kept (journalFlush s) = kept s := by
  unfold journalFlush; simp

@[simp] theorem secureWipe_grown (b₀ : Kept) (x : Bool) (s : State) (h₀ : Grown b₀ (kept s)) : Grown b₀ (kept (secureWipe x s)) :=
  ⟨h₀.part, h₀.pending, fun h => Mem.filter_wf _ (h₀.mem h), h₀.lc, h₀.lockLo, h₀.lockHi⟩

@[simp] theorem lockHomeChart_grown (b₀ : Kept) (s : State) (h₀ : Grown b₀ (kept s)) : Grown b₀ (kept (lockHomeChart s)) :=
  ⟨h₀.part, h₀.pending, h₀.mem, h₀.lc, fun _ => rfl, fun _ => rfl⟩

@[simp] theorem modRail_kept (r : Fin 28) (f : RailState → RailState) (s : State) :
    kept (modRail r f s) = kept s := by
  unfold modRail; simp

@[simp] theorem modPhase_kept (ph : Fin 56) (f : PhaseState → PhaseState) (s : State) :
    kept (modPhase ph f s) = kept s := by
  unfold modPhase; simp

@[simp] theorem modGang_kept (g : Fin 4) (f : GangState → GangState) (s : State) :
    kept (modGang g f s) = kept s := by
  unfold modGang; simp

@[simp] theorem modDie_kept (k : Fin 7) (f : DieState → DieState) (s : State) :
    kept (modDie k f s) = kept s := by
  unfold modDie; simp

@[simp] theorem modLoop_kept (r : Fin 28) (f : LoopState → LoopState) (s : State) :
    kept (modLoop r f s) = kept s := by
  unfold modLoop; simp

@[simp] theorem modDyn_kept (r : Fin 28) (f : DynState → DynState) (s : State) :
    kept (modDyn r f s) = kept s := by
  unfold modDyn; simp

@[simp] theorem modFc_kept (r : Fin 28) (f : FcTrim → FcTrim) (s : State) :
    kept (modFc r f s) = kept s := by
  unfold modFc; simp

@[simp] theorem modProt_kept (r : Fin 28) (f : ProtState → ProtState) (s : State) :
    kept (modProt r f s) = kept s := by
  unfold modProt; simp

@[simp] theorem epochWith_kept (r : Fin 28) (st : Nat) (en : Bool) (s : State) :
    kept (epochWith r st en s) = kept s := by
  unfold epochWith; simp

@[simp] theorem epoch_kept (r : Fin 28) (s : State) :
    kept (epoch r s) = kept s := by
  unfold epoch; (repeat' split) <;> simp

@[simp] theorem followersToZero_kept (r : Fin 28) (s : State) :
    kept (followersToZero r s) = kept s := by
  unfold followersToZero; (repeat' split) <;> simp

@[simp] theorem dropGangChange_kept (g : Fin 4) (s : State) :
    kept (dropGangChange g s) = kept s := by
  unfold dropGangChange; simp

@[simp] theorem sendLane_kept (r : Fin 28) (w : Nat) (s : State) :
    kept (sendLane r w s) = kept s := by
  unfold sendLane; (repeat' split) <;> simp

@[simp] theorem loopSample_kept (r : Fin 28) (v : Nat) (s : State) :
    kept (loopSample r v s) = kept s := by
  unfold loopSample; simp

@[simp] theorem trimStart_kept (r : Fin 28) (s : State) :
    kept (trimStart r s) = kept s := by
  unfold trimStart; simp

@[simp] theorem slewReached_kept (r : Fin 28) (s : State) :
    kept (slewReached r s) = kept s := by
  unfold slewReached; simp

@[simp] theorem slewSample_kept (r : Fin 28) (s : State) :
    kept (slewSample r s) = kept s := by
  unfold slewSample; simp

@[simp] theorem moveTo_kept (r : Fin 28) (mv target inc src : Nat) (s : State) :
    kept (moveTo r mv target inc src s) = kept s := by
  unfold moveTo; simp

@[simp] theorem applyTarget_kept (r : Fin 28) (mv slew src : Nat) (s : State) :
    kept (applyTarget r mv slew src s) = kept s := by
  unfold applyTarget; simp

@[simp] theorem railEvent_kept (r : Fin 28) (s : State) :
    kept (railEvent r s) = kept s := by
  unfold railEvent; simp

@[simp] theorem pgRefresh_kept (r : Fin 28) (s : State) :
    kept (pgRefresh r s) = kept s := by
  unfold pgRefresh; simp

@[simp] theorem pgRefreshAll_kept (s : State) :
    kept (pgRefreshAll s) = kept s := by
  unfold pgRefreshAll; simp

@[simp] theorem stopTimers_kept (r : Fin 28) (s : State) :
    kept (stopTimers r s) = kept s := by
  unfold stopTimers; simp

@[simp] theorem latchFault_kept (r : Fin 28) (b : Nat) (s : State) :
    kept (latchFault r b s) = kept s := by
  unfold latchFault; simp

@[simp] theorem vdrAtEnable_kept (r : Fin 28) (s : State) :
    kept (vdrAtEnable r s) = kept s := by
  unfold vdrAtEnable; (repeat' split) <;> simp

@[simp] theorem railEnable_kept (r : Fin 28) (s : State) :
    kept (railEnable r s) = kept s := by
  unfold railEnable; simp

@[simp] theorem railOffDone_kept (r : Fin 28) (s : State) :
    kept (railOffDone r s) = kept s := by
  unfold railOffDone; simp

@[simp] theorem railDisable_kept (r : Fin 28) (atOnce : Bool) (s : State) :
    kept (railDisable r atOnce s) = kept s := by
  unfold railDisable; simp

@[simp] theorem phaseBack_kept (ph : Fin 56) (s : State) :
    kept (phaseBack ph s) = kept s := by
  unfold phaseBack; simp

@[simp] theorem readdEvent_kept (r : Fin 28) (stepAlarm : Bool) (s : State) :
    kept (readdEvent r stepAlarm s) = kept s := by
  unfold readdEvent; simp

@[simp] theorem hintAccept_kept (r : Fin 28) (ifc tfc : Nat) (s : State) :
    kept (hintAccept r ifc tfc s) = kept s := by
  unfold hintAccept; simp

@[simp] theorem clearFaultLatch_kept (r : Fin 28) (s : State) :
    kept (clearFaultLatch r s) = kept s := by
  unfold clearFaultLatch; simp

@[simp] theorem ovLatchSet_kept (r : Fin 28) (b : Nat) (s : State) :
    kept (ovLatchSet r b s) = kept s := by
  unfold ovLatchSet; simp

@[simp] theorem uvStart_kept (r : Fin 28) (s : State) :
    kept (uvStart r s) = kept s := by
  unfold uvStart; simp

@[simp] theorem ocStart_kept (r : Fin 28) (s : State) :
    kept (ocStart r s) = kept s := by
  unfold ocStart; simp

@[simp] theorem skLeave_kept (r : Fin 28) (why : Nat) (logged : Bool) (s : State) :
    kept (skLeave r why logged s) = kept s := by
  unfold skLeave; simp

@[simp] theorem applyRailCmd_kept (c : RailCmd) (s : State) :
    kept (applyRailCmd c s) = kept s := by
  unfold applyRailCmd; (repeat' split) <;> simp

@[simp] theorem objAnswer_kept (k : Fin 7) (tag o b : Nat) (s : State) :
    kept (objAnswer k tag o b s) = kept s := by
  unfold objAnswer; simp

@[simp] theorem railTakes_kept (k : Fin 7) (f : LinkFrame) (s : State) :
    kept (railTakes k f s) = kept s := by
  unfold railTakes; (repeat' split) <;> simp

@[simp] theorem helmPump_kept (k : Fin 7) (s : State) :
    kept (helmPump k s) = kept s := by
  unfold helmPump; simp

@[simp] theorem helmSend_kept (k : Fin 7) (tag : Nat) (p : FramePayload) (s : State) :
    kept (helmSend k tag p s) = kept s := by
  unfold helmSend; simp

@[simp] theorem sendCmd_kept (c : RailCmd) (s : State) :
    kept (sendCmd c s) = kept s := by
  unfold sendCmd; simp

@[simp] theorem dieObjWrite_kept (k : Fin 7) (idx sub : Nat) (bytes : List Byte) (s : State) :
    kept (dieObjWrite k idx sub bytes s) = kept s := by
  unfold dieObjWrite; simp

@[simp] theorem dieObjRead_kept (k : Fin 7) (idx sub : Nat) (bytes : List Byte) (s : State) :
    kept (dieObjRead k idx sub bytes s) = kept s := by
  unfold dieObjRead; simp

@[simp] theorem modPp_kept (f : PathState → PathState) (s : State) :
    kept (modPp f s) = kept s := by
  unfold modPp; simp

@[simp] theorem modChg_kept (f : ChargerState → ChargerState) (s : State) :
    kept (modChg f s) = kept s := by
  unfold modChg; simp

@[simp] theorem modGg_kept (f : GaugeState → GaugeState) (s : State) :
    kept (modGg f s) = kept s := by
  unfold modGg; simp

@[simp] theorem modAlm_kept (f : Almanac → Almanac) (s : State) :
    kept (modAlm f s) = kept s := by
  unfold modAlm; simp

@[simp] theorem sourceEval_kept (s : State) :
    kept (sourceEval s) = kept s := by
  unfold sourceEval; simp; (repeat' split) <;> simp

@[simp] theorem powerPathChannels_kept (s : State) :
    kept (powerPathChannels s) = kept s := by
  unfold powerPathChannels; simp

@[simp] theorem chgTo_kept (ph : ChgPhase) (s : State) :
    kept (chgTo ph s) = kept s := by
  unfold chgTo; simp

@[simp] theorem chgEnable_kept (s : State) :
    kept (chgEnable s) = kept s := by
  unfold chgEnable; (repeat' split) <;> simp

@[simp] theorem clearChgTimes_kept (s : State) :
    kept (clearChgTimes s) = kept s := by
  unfold clearChgTimes; simp

@[simp] theorem chgFaultSet_kept (bits : Nat) (s : State) :
    kept (chgFaultSet bits s) = kept s := by
  unfold chgFaultSet; simp

@[simp] theorem chgPause_kept (s : State) :
    kept (chgPause s) = kept s := by
  unfold chgPause; simp

@[simp] theorem clearTerminated_kept (s : State) :
    kept (clearTerminated s) = kept s := by
  unfold clearTerminated; simp

@[simp] theorem learnResult_kept (r : Nat) (s : State) :
    kept (learnResult r s) = kept s := by
  unfold learnResult; simp

@[simp] theorem ppTo_kept (ph : PpPhase) (s : State) :
    kept (ppTo ph s) = kept s := by
  unfold ppTo; simp

@[simp] theorem chargerStop_kept (s : State) :
    kept (chargerStop s) = kept s := by
  unfold chargerStop; simp

@[simp] theorem handBack_kept (s : State) :
    kept (handBack s) = kept s := by
  unfold handBack; simp

@[simp] theorem outingEnd_kept (reason : Nat) (s : State) :
    kept (outingEnd reason s) = kept s := by
  unfold outingEnd; simp

@[simp] theorem learnAge_kept (secs : Nat) (s : State) :
    kept (learnAge secs s) = kept s := by
  unfold learnAge; simp

@[simp] theorem learnIdle_kept (r : Nat) (s : State) :
    kept (learnIdle r s) = kept s := by
  unfold learnIdle; simp

@[simp] theorem learnStop_kept (r : Nat) (s : State) :
    kept (learnStop r s) = kept s := by
  unfold learnStop; simp

@[simp] theorem outingStop_kept (reason result : Nat) (s : State) :
    kept (outingStop reason result s) = kept s := by
  unfold outingStop; simp

@[simp] theorem pathBreak_kept (s : State) :
    kept (pathBreak s) = kept s := by
  unfold pathBreak; simp

@[simp] theorem outingStart_kept (s : State) :
    kept (outingStart s) = kept s := by
  unfold outingStart; simp

@[simp] theorem anchor_kept (q : Rat) (s : State) :
    kept (anchor q s) = kept s := by
  unfold anchor; simp

@[simp] theorem eodActs_kept (s : State) :
    kept (eodActs s) = kept s := by
  unfold eodActs; (repeat' split) <;> simp

@[simp] theorem setDisagree_kept (dir : Bool) (s : State) :
    kept (setDisagree dir s) = kept s := by
  unfold setDisagree; simp

@[simp] theorem gaugeStartOp_kept (s : State) :
    kept (gaugeStartOp s) = kept s := by
  unfold gaugeStartOp; simp

@[simp] theorem gaugeTerminated_kept (s : State) :
    kept (gaugeTerminated s) = kept s := by
  unfold gaugeTerminated; simp

@[simp] theorem packGone_kept (s : State) :
    kept (packGone s) = kept s := by
  unfold packGone; simp

@[simp] theorem packCheck_kept (s : State) :
    kept (packCheck s) = kept s := by
  unfold packCheck; simp

@[simp] theorem toOnPack_kept (s : State) :
    kept (toOnPack s) = kept s := by
  unfold toOnPack; simp

@[simp] theorem makeDone_kept (s : State) :
    kept (makeDone s) = kept s := by
  unfold makeDone; simp

@[simp] theorem bootFet_kept (s : State) :
    kept (bootFet s) = kept s := by
  unfold bootFet; simp

@[simp] theorem pathFet_kept (s : State) :
    kept (pathFet s) = kept s := by
  unfold pathFet; simp

@[simp] theorem limitTaken_kept (s : State) :
    kept (limitTaken s) = kept s := by
  unfold limitTaken; simp

@[simp] theorem railToMid_kept (r : Fin 28) (s : State) :
    kept (railToMid r s) = kept s := by
  unfold railToMid; simp

@[simp] theorem railKeep_kept (r : Fin 28) (s : State) :
    kept (railKeep r s) = kept s := by
  unfold railKeep; (repeat' split) <;> simp

@[simp] theorem resetRails_kept (keep : Vector Bool 28) (s : State) :
    kept (resetRails keep s) = kept s := by
  unfold resetRails; simp

@[simp] theorem resetFos_kept (s : State) :
    kept (resetFos s) = kept s := by
  unfold resetFos; simp

@[simp] theorem killFos_kept (s : State) :
    kept (killFos s) = kept s := by
  unfold killFos; simp

@[simp] theorem resetZin_kept (s : State) :
    kept (resetZin s) = kept s := by
  unfold resetZin; simp

@[simp] theorem resetRegs_kept (s : State) :
    kept (resetRegs s) = kept s := by
  unfold resetRegs; simp

@[simp] theorem resetCharger_kept (s : State) :
    kept (resetCharger s) = kept s := by
  unfold resetCharger; simp

@[simp] theorem resetPath_kept (cause : Nat) (s : State) :
    kept (resetPath cause s) = kept s := by
  unfold resetPath; simp

@[simp] theorem resetPins_kept (s : State) :
    kept (resetPins s) = kept s := by
  unfold resetPins; simp

@[simp] theorem recordMask_kept (s : State) :
    kept (recordMask s) = kept s := by
  unfold recordMask; simp

@[simp] theorem endStationKeeping_kept (cause : Nat) (s : State) :
    kept (endStationKeeping cause s) = kept s := by
  unfold endStationKeeping; simp

@[simp] theorem secondCause_kept (cause : Nat) (s : State) :
    kept (secondCause cause s) = kept s := by
  unfold secondCause; simp

@[simp] theorem resetGroups_kept (keep : Vector Bool 28) (s : State) :
    kept (resetGroups keep s) = kept s := by
  unfold resetGroups; simp

@[simp] theorem resetStart_kept (cause sub : Nat) (s : State) :
    kept (resetStart cause sub s) = kept s := by
  unfold resetStart; simp

@[simp] theorem startFullReset_kept (cause sub : Nat) (s : State) :
    kept (startFullReset cause sub s) = kept s := by
  unfold startFullReset; (repeat' split) <;> simp

@[simp] theorem modItem_kept (i : Fin 46) (f : ItemState → ItemState) (s : State) :
    kept (modItem i f s) = kept s := by
  unfold modItem; simp

@[simp] theorem modGroup_kept (g : Fin 8) (f : GroupState → GroupState) (s : State) :
    kept (modGroup g f s) = kept s := by
  unfold modGroup; simp

@[simp] theorem modReg_kept (n : Fin 10) (f : RegState → RegState) (s : State) :
    kept (modReg n f s) = kept s := by
  unfold modReg; simp

@[simp] theorem rstoRefresh_kept (s : State) :
    kept (rstoRefresh s) = kept s := by
  unfold rstoRefresh; simp

@[simp] theorem groupTo_kept (g : Fin 8) (ph : GroupPhase) (s : State) :
    kept (groupTo g ph s) = kept s := by
  unfold groupTo; simp

@[simp] theorem clearRetries_kept (g : Fin 8) (s : State) :
    kept (clearRetries g s) = kept s := by
  unfold clearRetries; simp

@[simp] theorem switchOn_kept (i : Fin 46) (s : State) :
    kept (switchOn i s) = kept s := by
  unfold switchOn; (repeat' split) <;> simp

@[simp] theorem runItems_kept (s : State) :
    kept (runItems s) = kept s := by
  unfold runItems; simp

@[simp] theorem itemStarted_kept (i : Fin 46) (s : State) :
    kept (itemStarted i s) = kept s := by
  unfold itemStarted; simp

@[simp] theorem switchOff_kept (i : Fin 46) (s : State) :
    kept (switchOff i s) = kept s := by
  unfold switchOff; (repeat' split) <;> simp

@[simp] theorem itemForcedOff_kept (i : Fin 46) (s : State) :
    kept (itemForcedOff i s) = kept s := by
  unfold itemForcedOff; (repeat' split) <;> simp

@[simp] theorem shutAdvance_kept (n : Nat) (g : Fin 8) (s : State) : kept (shutAdvance n g s) = kept s := by
  induction n generalizing s with
  | zero => rfl
  | succ n ih => unfold shutAdvance; dsimp only; (repeat' split) <;> simp [ih]

@[simp] theorem itemsUnwait_kept (g : Fin 8) (s : State) :
    kept (itemsUnwait g s) = kept s := by
  unfold itemsUnwait; simp

@[simp] theorem shutdown_kept (g : Fin 8) (byFault : Bool) (first : Option (Fin 46)) (s : State) :
    kept (shutdown g byFault first s) = kept s := by
  unfold shutdown; (repeat' split) <;> simp

@[simp] theorem groupOff_kept (g : Fin 8) (i : Fin 46) (s : State) :
    kept (groupOff g i s) = kept s := by
  unfold groupOff; (repeat' split) <;> simp

@[simp] theorem setItemFault_kept (i : Fin 46) (f : ItemFaultCode) (s : State) :
    kept (setItemFault i f s) = kept s := by
  unfold setItemFault; simp

@[simp] theorem startRetry_kept (i : Fin 46) (s : State) :
    kept (startRetry i s) = kept s := by
  unfold startRetry; simp

@[simp] theorem applyIgnore_kept (i : Fin 46) (f : ItemFaultCode) (s : State) :
    kept (applyIgnore i f s) = kept s := by
  unfold applyIgnore; (repeat' split) <;> simp

@[simp] theorem applyReaction_kept (i : Fin 46) (f : ItemFaultCode) (x : Reaction) (s : State) :
    kept (applyReaction i f x s) = kept s := by
  unfold applyReaction; (repeat' split) <;> simp

@[simp] theorem itemFaultsMark_kept (l : List (Fin 46 × ItemFaultCode)) (s : State) :
    kept (itemFaultsMark l s) = kept s := by
  unfold itemFaultsMark; simp

theorem kept_foldl_fst {α β : Type} (g : State × β → α → State × β) (h : ∀ a x, kept (g a x).1 = kept a.1) (l : List α)
    (s : State × β) : kept (l.foldl g s).1 = kept s.1 := by
  induction l generalizing s with
  | nil => rfl
  | cons x l ih => simp [ih, h]
@[simp] theorem itemReact_kept (l : List (Fin 46 × ItemFaultCode)) (s : State) : kept (itemReact l s) = kept s := by
  unfold itemReact; dsimp only
  rw [kept_foldl_fst]
  intro a x; (repeat' split) <;> simp

@[simp] theorem itemFaults_kept (l : List (Fin 46 × ItemFaultCode)) (s : State) : kept (itemFaults l s) = kept s := by
  unfold itemFaults; dsimp only
  rw [kept_ite]
  have h : kept (itemFaultsMark l s) = kept s := itemFaultsMark_kept l s
  split
  · exact h
  · simp

@[simp] theorem itemFault_kept (i : Fin 46) (f : ItemFaultCode) (s : State) :
    kept (itemFault i f s) = kept s := by
  unfold itemFault; simp

@[simp] theorem stepMoves_kept (st : Fin 64) (s : State) : kept (stepMoves st s) = kept s := by
  unfold stepMoves
  rw [kept_foldl]
  intro a x; dsimp only; (repeat' split) <;> simp

@[simp] theorem vdrDeclared_kept (s : State) :
    kept (vdrDeclared s) = kept s := by
  unfold vdrDeclared; simp

@[simp] theorem foAdopt_kept (n : Fin 8) (s : State) :
    kept (foAdopt n s) = kept s := by
  unfold foAdopt; simp

@[simp] theorem groupFosAdopt_kept (g : Fin 8) (s : State) :
    kept (groupFosAdopt g s) = kept s := by
  unfold groupFosAdopt; simp

@[simp] theorem startStep_kept (g : Fin 8) (st : Fin 64) (s : State) :
    kept (startStep g st s) = kept s := by
  unfold startStep; simp

@[simp] theorem itemsWait_kept (st : Fin 64) (s : State) :
    kept (itemsWait st s) = kept s := by
  unfold itemsWait; simp

@[simp] theorem advance_kept (n : Nat) (g : Fin 8) (o : Option (Fin 64)) (s : State) : kept (advance n g o s) = kept s := by
  induction n generalizing o s with
  | zero => rfl
  | succ n ih => unfold advance; dsimp only; (repeat' split) <;> simp [ih]

@[simp] theorem stepGo_kept (g : Fin 8) (st : Fin 64) (s : State) :
    kept (stepGo g st s) = kept s := by
  unfold stepGo; simp

@[simp] theorem checkStep_kept (g : Fin 8) (s : State) :
    kept (checkStep g s) = kept s := by
  unfold checkStep; (repeat' split) <;> simp

@[simp] theorem checkSteps_kept (s : State) :
    kept (checkSteps s) = kept s := by
  unfold checkSteps; simp

@[simp] theorem powerUp_kept (g : Fin 8) (s : State) :
    kept (powerUp g s) = kept s := by
  unfold powerUp; simp

@[simp] theorem requestRow_kept (g : Fin 8) (s : State) :
    kept (requestRow g s) = kept s := by
  unfold requestRow; simp

@[simp] theorem requestDown_kept (g : Fin 8) (s : State) :
    kept (requestDown g s) = kept s := by
  unfold requestDown; (repeat' split) <;> simp

@[simp] theorem skGoDown_kept (s : State) :
    kept (skGoDown s) = kept s := by
  unfold skGoDown; simp

@[simp] theorem seqSettle_kept (s : State) :
    kept (seqSettle s) = kept s := by
  unfold seqSettle; simp

@[simp] theorem retryNow_kept (i : Fin 46) (s : State) :
    kept (retryNow i s) = kept s := by
  unfold retryNow; (repeat' split) <;> simp

@[simp] theorem enPinLow_kept (r : Fin 28) (s : State) :
    kept (enPinLow r s) = kept s := by
  unfold enPinLow; simp; (repeat' split) <;> simp

@[simp] theorem enPinFree_kept (r : Fin 28) (s : State) :
    kept (enPinFree r s) = kept s := by
  unfold enPinFree; simp

@[simp] theorem enPinWritten_kept (i : Fin 46) (s : State) :
    kept (enPinWritten i s) = kept s := by
  unfold enPinWritten; (repeat' split) <;> simp

@[simp] theorem stopItem_kept (i : Fin 46) (s : State) :
    kept (stopItem i s) = kept s := by
  unfold stopItem; (repeat' split) <;> simp

@[simp] theorem safeOutputs_kept (s : State) :
    kept (safeOutputs s) = kept s := by
  unfold safeOutputs; simp

@[simp] theorem safeShutdowns_kept (l : List (Fin 46)) (s : State) : kept (safeShutdowns l s) = kept s := by
  unfold safeShutdowns
  rw [kept_foldl]
  intro a x; split <;> simp

@[simp] theorem safeRailBits_kept (s : State) :
    kept (safeRailBits s) = kept s := by
  unfold safeRailBits; simp

@[simp] theorem assertLine_kept (die : Nat) (s : State) :
    kept (assertLine die s) = kept s := by
  unfold assertLine; simp

@[simp] theorem classAFollow_kept (code : FaultCode) (items : List (Fin 46)) (s : State) :
    kept (classAFollow code items s) = kept s := by
  unfold classAFollow; (repeat' split) <;> simp

@[simp] theorem classA_kept (code : FaultCode) (die src detail : Nat) (s : State) :
    kept (classA code die src detail s) = kept s := by
  unfold classA; simp

@[simp] theorem skEndCheck_kept (was : Bool) (s : State) :
    kept (skEndCheck was s) = kept s := by
  unfold skEndCheck; simp

@[simp] theorem skLeft_kept (x : SkLeft) (s : State) :
    kept (skLeft x s) = kept s := by
  unfold skLeft; simp; (repeat' split) <;> simp

@[simp] theorem skLeftAll_kept (s : State) :
    kept (skLeftAll s) = kept s := by
  unfold skLeftAll; simp

@[simp] theorem skSettle_kept (s : State) :
    kept (skSettle s) = kept s := by
  unfold skSettle; simp

@[simp] theorem classATrip_kept (rs : List (Fin 28)) (code : FaultCode) (die src detail : Nat) (s0 s : State) :
    kept (classATrip rs code die src detail s0 s) = kept s := by
  unfold classATrip; simp

@[simp] theorem ovTrip_kept (r : Fin 28) (b : Nat) (s : State) :
    kept (ovTrip r b s) = kept s := by
  unfold ovTrip; (repeat' split) <;> simp

@[simp] theorem ignoreClear_kept (r : Fin 28) (s : State) :
    kept (ignoreClear r s) = kept s := by
  unfold ignoreClear; simp

@[simp] theorem groupsUnpark_kept (s : State) :
    kept (groupsUnpark s) = kept s := by
  unfold groupsUnpark; simp

@[simp] theorem parkWithdraw_kept (s : State) :
    kept (parkWithdraw s) = kept s := by
  unfold parkWithdraw; simp

@[simp] theorem wakeOn_kept (b : Nat) (s : State) :
    kept (wakeOn b s) = kept s := by
  unfold wakeOn; simp

@[simp] theorem rstoReleased_kept (n : Fin 4) (s : State) :
    kept (rstoReleased n s) = kept s := by
  unfold rstoReleased; simp

@[simp] theorem modCan_kept (n : Fin 4) (f : CanPort → CanPort) (s : State) :
    kept (modCan n f s) = kept s := by
  unfold modCan; simp

@[simp] theorem canTake_kept (n : Fin 4) (s : State) :
    kept (canTake n s) = kept s := by
  unfold canTake; simp

@[simp] theorem canStart_kept (n : Fin 4) (s : State) :
    kept (canStart n s) = kept s := by
  unfold canStart; simp

@[simp] theorem canStartAll_kept (s : State) :
    kept (canStartAll s) = kept s := by
  unfold canStartAll; simp

@[simp] theorem canDrop_kept (n : Fin 4) (s : State) :
    kept (canDrop n s) = kept s := by
  unfold canDrop; simp

@[simp] theorem canStop_kept (n : Fin 4) (ph : CanPhase) (s : State) :
    kept (canStop n ph s) = kept s := by
  unfold canStop; simp

@[simp] theorem canEvent_kept (n : Fin 4) (s : State) :
    kept (canEvent n s) = kept s := by
  unfold canEvent; simp

@[simp] theorem canWireEnd_kept (n : Fin 4) (s : State) :
    kept (canWireEnd n s) = kept s := by
  unfold canWireEnd; (repeat' split) <;> simp

@[simp] theorem canSend_kept (n : Fin 4) (f : CanFrame) (s : State) :
    kept (canSend n f s) = kept s := by
  unfold canSend; simp

@[simp] theorem countAbort_kept (n : Fin 4) (c : AbortCode) (s : State) :
    kept (countAbort n c s) = kept s := by
  unfold countAbort; simp

@[simp] theorem respond_kept (n : Fin 4) (w : PendResp) (a : Ack) (s : State) :
    kept (respond n w a s) = kept s := by
  unfold respond; (repeat' split) <;> simp

@[simp] theorem imageAcksEnd_kept (s : State) :
    kept (imageAcksEnd s) = kept s := by
  unfold imageAcksEnd; (repeat' split) <;> simp

@[simp] theorem updStop_kept (s : State) :
    kept (updStop s) = kept s := by
  unfold updStop; (repeat' split) <;> simp

@[simp] theorem updPortLost_kept (p : Port) (s : State) :
    kept (updPortLost p s) = kept s := by
  unfold updPortLost; simp

@[simp] theorem canDisabled_kept (n : Fin 4) (s : State) :
    kept (canDisabled n s) = kept s := by
  unfold canDisabled; simp

end Sys2Proof.Laws
end

