-- ==== Sys2Proof/Laws/KeptPower.lean ====
section
/-! SUPPORT. What is kept by zones, Lantern bus and gauge. -/

namespace Sys2Proof.Laws

open Sys2Proof.Machine

theorem execZinWindowEnter_kept (n : Fin 4) (s : State) :
    Keeps (execZinWindowEnter n s) s := by
  unfold execZinWindowEnter; simp

theorem execZinWindowExit_kept (n : Fin 4) (s : State) :
    Keeps (execZinWindowExit n s) s := by
  unfold execZinWindowExit; (repeat' split) <;> simp

theorem execZbusWindowEnter_kept (s : State) :
    Keeps (execZbusWindowEnter s) s := by
  unfold execZbusWindowEnter; simp

theorem execZbusWindowExit_kept (s : State) :
    Keeps (execZbusWindowExit s) s := by
  unfold execZbusWindowExit; dsimp only; (repeat' first | split | (simp only [keeps_next]; rw [kept_foldl]) | intro _ _) <;> (try simp_all)

theorem execInsertionDelayExpire_kept (c : Chan) (nearBus : Bool) (s : State) :
    Keeps (execInsertionDelayExpire c nearBus s) s := by
  unfold execInsertionDelayExpire; (repeat' split) <;> simp

theorem execRetryTimerExpire_kept (c : Chan) (nearBus : Bool) (s : State) :
    Keeps (execRetryTimerExpire c nearBus s) s := by
  unfold execRetryTimerExpire; (repeat' split) <;> simp

theorem execInrushComplete_kept (c : Chan) (s : State) :
    Keeps (execInrushComplete c s) s := by
  unfold execInrushComplete; (repeat' split) <;> simp

theorem execLimitEnter_kept (c : Chan) (sense : Nat) (s : State) :
    Keeps (execLimitEnter c sense s) s := by
  unfold execLimitEnter; (repeat' split) <;> simp

theorem execLimitRelease_kept (c : Chan) (s : State) :
    Keeps (execLimitRelease c s) s := by
  unfold execLimitRelease; (repeat' split) <;> simp

@[simp] theorem channelTrip_kept (c : Chan) (b : Nat) (s : State) :
    kept (channelTrip c b s) = kept s := by
  unfold channelTrip; (repeat' split) <;> simp

theorem execLimitTimerExpire_kept (c : Chan) (s : State) :
    Keeps (execLimitTimerExpire c s) s := by
  unfold execLimitTimerExpire; (repeat' split) <;> simp

theorem execFastTrip_kept (c : Chan) (sense : Nat) (s : State) :
    Keeps (execFastTrip c sense s) s := by
  unfold execFastTrip; simp

@[simp] theorem coldOff_kept (n : Fin 4) (latch : Nat) (s : State) :
    kept (coldOff n latch s) = kept s := by
  unfold coldOff; simp

theorem execAbsoluteTrip_kept (c : Chan) (s : State) :
    Keeps (execAbsoluteTrip c s) s := by
  unfold execAbsoluteTrip; (repeat' split) <;> simp

theorem execReverseDetected_kept (n : Fin 4) (s : State) :
    Keeps (execReverseDetected n s) s := by
  unfold execReverseDetected; simp

theorem execForwardDetected_kept (n : Fin 4) (s : State) :
    Keeps (execForwardDetected n s) s := by
  unfold execForwardDetected; simp

@[simp] theorem zinEnable_kept (n : Fin 4) (s : State) :
    kept (zinEnable n s) = kept s := by
  unfold zinEnable; (repeat' split) <;> simp

@[simp] theorem zinDisable_kept (n : Fin 4) (s : State) :
    kept (zinDisable n s) = kept s := by
  unfold zinDisable; (repeat' split) <;> simp

@[simp] theorem zinDisabled_kept (n : Fin 4) (s : State) :
    kept (zinDisabled n s) = kept s := by
  unfold zinDisabled; simp

theorem execZinEnSet_kept (p : Port) (n : Fin 4) (s : State) :
    Keeps (execZinEnSet p n s) s := by
  unfold execZinEnSet; simp

theorem execZinEnClear_kept (p : Port) (n : Fin 4) (s : State) :
    Keeps (execZinEnClear p n s) s := by
  unfold execZinEnClear; simp

theorem execZinClear_kept (p : Port) (n : Fin 4) (value : Nat) (s : State) :
    Keeps (execZinClear p n value s) s := by
  unfold execZinClear; (repeat' split) <;> simp

theorem execFoClear_kept (p : Port) (n : Fin 8) (value : Nat) (s : State) :
    Keeps (execFoClear p n value s) s := by
  unfold execFoClear; (repeat' split) <;> simp

theorem execNormalOperationTimer_kept (c : Chan) (s : State) :
    Keeps (execNormalOperationTimer c s) s := by
  unfold execNormalOperationTimer; (repeat' split) <;> simp

theorem execColdStartQualify_kept (n : Fin 4) (s : State) :
    Keeps (execColdStartQualify n s) s := by
  unfold execColdStartQualify; simp

theorem execColdStartLimitTimeout_kept (n : Fin 4) (s : State) :
    Keeps (execColdStartLimitTimeout n s) s := by
  unfold execColdStartLimitTimeout; simp

theorem execColdStartBandExit_kept (n : Fin 4) (s : State) :
    Keeps (execColdStartBandExit n s) s := by
  unfold execColdStartBandExit; simp

theorem execFoGateOff_kept (n : Fin 8) (s : State) :
    Keeps (execFoGateOff n s) s := by
  unfold execFoGateOff; simp

theorem execPresenceLost_kept (n : Fin 8) (s : State) :
    Keeps (execPresenceLost n s) s := by
  unfold execPresenceLost; (repeat' split) <;> simp

theorem execPresenceDetected_kept (n : Fin 8) (s : State) :
    Keeps (execPresenceDetected n s) s := by
  unfold execPresenceDetected; simp

@[simp] theorem assertPfw_kept (thr slope : Bool) (s : State) :
    kept (assertPfw thr slope s) = kept s := by
  unfold assertPfw; simp

theorem execPfwThreshold_kept (s : State) :
    Keeps (execPfwThreshold s) s := by
  unfold execPfwThreshold; simp

theorem execPfwSlopeSample_kept (code : Nat) (s : State) :
    Keeps (execPfwSlopeSample code s) s := by
  unfold execPfwSlopeSample; simp

theorem execPfwRelease_kept (s : State) :
    Keeps (execPfwRelease s) s := by
  unfold execPfwRelease; simp

theorem execServiceQualified_kept (s : State) :
    Keeps (execServiceQualified s) s := by
  unfold execServiceQualified; simp

theorem execServiceWindowExit_kept (s : State) :
    Keeps (execServiceWindowExit s) s := by
  unfold execServiceWindowExit; simp

theorem execServiceReverseTurnOff_kept (s : State) :
    Keeps (execServiceReverseTurnOff s) s := by
  unfold execServiceReverseTurnOff; simp

theorem execServiceDiodeConducts_kept (s : State) :
    Keeps (execServiceDiodeConducts s) s := by
  unfold execServiceDiodeConducts; simp

@[simp] theorem announce_kept (n : Fin 4) (value : Nat) (s : State) :
    kept (announce n value s) = kept s := by
  unfold announce; simp

theorem execSrcAnncWrite_kept (p : Port) (n : Fin 4) (value : Nat) (s : State) :
    Keeps (execSrcAnncWrite p n value s) s := by
  unfold execSrcAnncWrite; simp

theorem execSrcAnncTimeout_kept (n : Fin 4) (s : State) :
    Keeps (execSrcAnncTimeout n s) s := by
  unfold execSrcAnncTimeout; simp

theorem execSourceTypeChange_kept (s : State) :
    Keeps (execSourceTypeChange s) s := by
  unfold execSourceTypeChange; simp

@[simp] theorem countChgTime_kept (s : State) :
    kept (countChgTime s) = kept s := by
  unfold countChgTime; (repeat' split) <;> simp

@[simp] theorem overloadOp_kept (m : ChargeMeas) (s : State) :
    kept (overloadOp m s) = kept s := by
  unfold overloadOp; simp

@[simp] theorem chargerOut_kept (m : ChargeMeas) (c : Rat) (s : State) :
    kept (chargerOut m c s) = kept s := by
  unfold chargerOut; simp

@[simp] theorem lbusOp_kept (m : ChargeMeas) (s : State) :
    kept (lbusOp m s) = kept s := by
  unfold lbusOp; simp

theorem execChargerControlCycle_kept (m : ChargeMeas) (s : State) :
    Keeps (execChargerControlCycle m s) s := by
  unfold execChargerControlCycle; simp

theorem execLbusGoodRise_kept (s : State) :
    Keeps (execLbusGoodRise s) s := by
  unfold execLbusGoodRise; simp

theorem execLbusGoodFall_kept (s : State) :
    Keeps (execLbusGoodFall s) s := by
  unfold execLbusGoodFall; simp

@[simp] theorem chgDisable_kept (s : State) :
    kept (chgDisable s) = kept s := by
  unfold chgDisable; (repeat' split) <;> simp

@[simp] theorem chgDisabled_kept (s : State) :
    kept (chgDisabled s) = kept s := by
  unfold chgDisabled; simp

theorem execChgEnSet_kept (p : Port) (s : State) :
    Keeps (execChgEnSet p s) s := by
  unfold execChgEnSet; simp

theorem execChgEnClear_kept (p : Port) (s : State) :
    Keeps (execChgEnClear p s) s := by
  unfold execChgEnClear; simp

theorem execChargeStartConditions_kept (t : Int) (v : Nat) (s : State) :
    Keeps (execChargeStartConditions t v s) s := by
  unfold execChargeStartConditions; simp

theorem execChgHbDelayEnd_kept (s : State) :
    Keeps (execChgHbDelayEnd s) s := by
  unfold execChgHbDelayEnd; simp

theorem execPrechargeDone_kept (s : State) :
    Keeps (execPrechargeDone s) s := by
  unfold execPrechargeDone; simp

theorem execPrechargeTimeout_kept (s : State) :
    Keeps (execPrechargeTimeout s) s := by
  unfold execPrechargeTimeout; simp

@[simp] theorem faultSample_kept (v : Nat) (t : Int) (s : State) :
    kept (faultSample v t s) = kept s := by
  unfold faultSample; simp

@[simp] theorem terminate_kept (bits : Nat) (s : State) :
    kept (terminate bits s) = kept s := by
  unfold terminate; simp

theorem execChargeTerminationSample_kept (v : Nat) (t : Int) (currents : List Nat) (s : State) :
    Keeps (execChargeTerminationSample v t currents s) s := by
  unfold execChargeTerminationSample; (repeat' split) <;> simp

theorem execChargeBackstop_kept (v : Nat) (t : Int) (swOc : Bool) (s : State) :
    Keeps (execChargeBackstop v t swOc s) s := by
  unfold execChargeBackstop; simp

theorem execPackRemoval_kept (x : RemovalSign) (s : State) :
    Keeps (execPackRemoval x s) s := by
  unfold execPackRemoval; simp

theorem execPackLost_kept (s : State) :
    Keeps (execPackLost s) s := by
  unfold execPackLost; (repeat' split) <;> simp

@[simp] theorem readChgFault_kept (s : State) :
    kept (readChgFault s).1 = kept s := by
  unfold readChgFault; simp

theorem execChgFaultRead_kept (p : Port) (s : State) :
    Keeps (execChgFaultRead p s) s := by
  unfold execChgFaultRead; simp

theorem execSourceLost_kept (zbus : Nat) (s : State) :
    Keeps (execSourceLost zbus s) s := by
  unfold execSourceLost; (repeat' split) <;> simp

theorem execHandOverMakeDone_kept (s : State) :
    Keeps (execHandOverMakeDone s) s := by
  unfold execHandOverMakeDone; simp

theorem execHandOverBreakDone_kept (t : Nat) (s : State) :
    Keeps (execHandOverBreakDone t s) s := by
  unfold execHandOverBreakDone; simp

theorem execHandBackStart_kept (zbus : Nat) (s : State) :
    Keeps (execHandBackStart zbus s) s := by
  unfold execHandBackStart; simp

theorem execHandBackComplete_kept (s : State) :
    Keeps (execHandBackComplete s) s := by
  unfold execHandBackComplete; simp

@[simp] theorem gaugeReport_kept (s : State) :
    kept (gaugeReport s) = kept s := by
  unfold gaugeReport; simp

@[simp] theorem gaugeRuns_kept (i : Int) (s : State) :
    kept (gaugeRuns i s) = kept s := by
  unfold gaugeRuns; simp

@[simp] theorem integrate_kept (i : Int) (s : State) :
    kept (integrate i s) = kept s := by
  unfold integrate; simp

@[simp] theorem gaugeEod_kept (v : Rat) (s : State) :
    kept (gaugeEod v s).1 = kept s := by
  unfold gaugeEod; simp; (repeat' split) <;> simp

@[simp] theorem gaugeDisagree_kept (declared : Bool) (s : State) :
    kept (gaugeDisagree declared s) = kept s := by
  unfold gaugeDisagree; simp

@[simp] theorem learnCapacity_kept (s : State) :
    kept (learnCapacity s) = kept s := by
  unfold learnCapacity; simp

@[simp] theorem gaugeLearn_kept (i t : Int) (declared : Bool) (s : State) :
    kept (gaugeLearn i t declared s) = kept s := by
  unfold gaugeLearn; (repeat' split) <;> simp

@[simp] theorem gaugeCycles_kept (i : Int) (s : State) :
    kept (gaugeCycles i s) = kept s := by
  unfold gaugeCycles; simp

@[simp] theorem gaugeAge_kept (s : State) :
    kept (gaugeAge s) = kept s := by
  unfold gaugeAge; simp

theorem execGaugeEstimate_kept (vpkp : Nat) (ppI t : Int) (s : State) :
    Keeps (execGaugeEstimate vpkp ppI t s) s := by
  unfold execGaugeEstimate; dsimp only; (repeat' split) <;> simp

theorem execRestQualified_kept (s : State) :
    Keeps (execRestQualified s) s := by
  unfold execRestQualified; simp

theorem execGaugeStart_kept (vpkp : Nat) (closed : Bool) (s : State) :
    Keeps (execGaugeStart vpkp closed s) s := by
  unfold execGaugeStart; simp

@[simp] theorem packCellsOp_kept (v : Nat) (s : State) :
    kept (packCellsOp v s) = kept s := by
  unfold packCellsOp; simp

theorem execLearnFullWaitLapse_kept (s : State) :
    Keeps (execLearnFullWaitLapse s) s := by
  unfold execLearnFullWaitLapse; simp

@[simp] theorem newPack_kept (s : State) :
    kept (newPack s) = kept s := by
  unfold newPack; simp

theorem execGgNewpack_kept (p : Port) (value : Nat) (s : State) :
    Keeps (execGgNewpack p value s) s := by
  unfold execGgNewpack; simp

@[simp] theorem outCmd_kept (value : Nat) (s : State) :
    kept (outCmd value s).1 = kept s := by
  unfold outCmd; (repeat' split) <;> simp

theorem execOutingStartCmd_kept (p : Port) (s : State) :
    Keeps (execOutingStartCmd p s) s := by
  unfold execOutingStartCmd; simp

theorem execOutingEndCmd_kept (p : Port) (s : State) :
    Keeps (execOutingEndCmd p s) s := by
  unfold execOutingEndCmd; simp

theorem execOutingTimeout_kept (s : State) :
    Keeps (execOutingTimeout s) s := by
  unfold execOutingTimeout; simp

@[simp] theorem writeTables_kept (bytes : List Byte) (s : State) :
    kept (writeTables bytes s).1 = kept s := by
  unfold writeTables; (repeat' split) <;> simp

theorem execGgAlmTablesWrite_kept (p : Port) (bytes : List Byte) (s : State) :
    Keeps (execGgAlmTablesWrite p bytes s) s := by
  unfold execGgAlmTablesWrite; simp

theorem execWriteBackTimer_kept (s : State) :
    Keeps (execWriteBackTimer s) s := by
  unfold execWriteBackTimer; simp

theorem execAlmanacWriteBackDone_kept (ok : Bool) (s : State) :
    Keeps (execAlmanacWriteBackDone ok s) s := by
  unfold execAlmanacWriteBackDone; (repeat' split) <;> simp

end Sys2Proof.Laws
end

