-- ==== Sys2Proof/Laws/KeptRail.lean ====
section
/-! SUPPORT. What is kept by rails, sequencer, clocks, Hamper and links. -/

namespace Sys2Proof.Laws

open Sys2Proof.Machine

@[simp] theorem loopCommitOp_kept (r : Fin 28) (s : State) :
    kept (loopCommitOp r s) = kept s := by
  unfold loopCommitOp; simp

theorem execLoopCommit_kept (p : Port) (r : Fin 28) (value : Nat) (s : State) :
    Keeps (execLoopCommit p r value s) s := by
  unfold execLoopCommit; simp

@[simp] theorem gangRequest_kept (g : Fin 4) (c : GangChange) (s : State) :
    kept (gangRequest g c s) = kept s := by
  unfold gangRequest; simp

@[simp] theorem gangSettings_kept (g : Fin 4) (s : State) :
    kept (gangSettings g s) = kept s := by
  unfold gangSettings; (repeat' split) <;> simp

@[simp] theorem applyGangChange_kept (g : Fin 4) (r : Fin 28) (c : GangChange) (s : State) :
    kept (applyGangChange g r c s) = kept s := by
  unfold applyGangChange; (repeat' split) <;> simp

@[simp] theorem boundarySettings_kept (r : Fin 28) (s : State) :
    kept (boundarySettings r s) = kept s := by
  unfold boundarySettings; simp

@[simp] theorem ocRefresh_kept (r : Fin 28) (s : State) :
    kept (ocRefresh r s) = kept s := by
  unfold ocRefresh; simp

@[simp] theorem rampEnd_kept (r : Fin 28) (s : State) :
    kept (rampEnd r s) = kept s := by
  unfold rampEnd; simp

@[simp] theorem snsCycle_kept (r : Fin 28) (m : SnsMeas) (s : State) :
    kept (snsCycle r m s) = kept s := by
  unfold snsCycle; simp

@[simp] theorem slotFire_kept (r : Fin 28) (ph : Fin 56) (s : State) :
    kept (slotFire r ph s) = kept s := by
  unfold slotFire; simp

@[simp] theorem runPeriod_kept (r : Fin 28) (i : Nat) (m : List SnsMeas) (sl : List (Nat × Fin 56)) (s : State) :
    kept (runPeriod r i m sl s) = kept s := by
  induction m generalizing i sl s with
  | nil => unfold runPeriod; rw [kept_foldl _ (by simp)]
  | cons x m ih => unfold runPeriod; rw [ih, kept_foldl _ (by simp), snsCycle_kept]

@[simp] theorem takeCurrents_kept (r : Fin 28) (m : List SnsMeas) (s : State) :
    kept (takeCurrents r m s) = kept s := by
  unfold takeCurrents; dsimp only; (repeat' first | split | (rw [kept_foldl]) | intro _ _) <;> (try simp_all)

@[simp] theorem endPeriod_kept (r : Fin 28) (m : List SnsMeas) (s : State) : kept (endPeriod r m s) = kept s := by
  unfold endPeriod; dsimp only
  rw [kept_foldl _ (by simp)]
  (repeat' split) <;> simp

@[simp] theorem advanceLead_kept (r : Fin 28) (s : State) :
    kept (advanceLead r s) = kept s := by
  unfold advanceLead; (repeat' split) <;> simp

@[simp] theorem readdEpochOp_kept (r : Fin 28) (s : State) :
    kept (readdEpochOp r s) = kept s := by
  unfold readdEpochOp; (repeat' split) <;> simp

@[simp] theorem shedEnd_kept (r : Fin 28) (lv : List (Fin 56)) (s : State) :
    kept (shedEnd r lv s) = kept s := by
  unfold shedEnd; simp

@[simp] theorem shedBegin_kept (r : Fin 28) (s : State) :
    kept (shedBegin r s) = kept s := by
  unfold shedBegin; (repeat' split) <;> simp

@[simp] theorem boundaryPhases_kept (r : Fin 28) (s : State) :
    kept (boundaryPhases r s) = kept s := by
  unfold boundaryPhases; simp; (repeat' split) <;> simp

@[simp] theorem boundaryOp_kept (r : Fin 28) (m : List SnsMeas) (s : State) :
    kept (boundaryOp r m s) = kept s := by
  unfold boundaryOp; simp

@[simp] theorem atBoundary_kept (r : Fin 28) (due : Bool) (m : List SnsMeas) (s : State) : Keeps (atBoundary r due m s) s := by
  unfold atBoundary; simp

theorem execPeriodBoundary_kept (r : Fin 28) (m : List SnsMeas) (s : State) :
    Keeps (execPeriodBoundary r m s) s := by
  unfold execPeriodBoundary; simp

theorem execRotationEpoch_kept (r : Fin 28) (m : List SnsMeas) (s : State) :
    Keeps (execRotationEpoch r m s) s := by
  unfold execRotationEpoch; simp

@[simp] theorem balSend_kept (r : Fin 28) (s : State) :
    kept (balSend r s) = kept s := by
  unfold balSend; (repeat' split) <;> simp

@[simp] theorem balTrims_kept (r : Fin 28) (s : State) :
    kept (balTrims r s) = kept s := by
  unfold balTrims; simp

@[simp] theorem balanceBoundary_kept (r : Fin 28) (s : State) :
    kept (balanceBoundary r s) = kept s := by
  unfold balanceBoundary; simp

theorem execBalanceUpdate_kept (r : Fin 28) (s : State) :
    Keeps (execBalanceUpdate r s) s := by
  unfold execBalanceUpdate; simp

theorem execBalanceAverageTimeout_kept (g : Fin 4) (k : Fin 7) (s : State) :
    Keeps (execBalanceAverageTimeout g k s) s := by
  unfold execBalanceAverageTimeout; simp

theorem execGangChangeRequest_kept (g : Fin 4) (c : GangChange) (s : State) :
    Keeps (execGangChangeRequest g c s) s := by
  unfold execGangChangeRequest; simp

theorem execGangChangeAck_kept (g : Fin 4) (k : Fin 7) (s : State) :
    Keeps (execGangChangeAck g k s) s := by
  unfold execGangChangeAck; simp

@[simp] theorem shedAgain_kept (r : Fin 28) (g : Fin 4) (asked : Bool) (s : State) :
    kept (shedAgain r g asked s) = kept s := by
  unfold shedAgain; (repeat' split) <;> simp

theorem execGangAckTimeout_kept (g : Fin 4) (s : State) :
    Keeps (execGangAckTimeout g s) s := by
  unfold execGangAckTimeout; (repeat' split) <;> simp

@[simp] theorem gangEvent_kept (k : Fin 7) (s : State) :
    kept (gangEvent k s) = kept s := by
  unfold gangEvent; simp

@[simp] theorem followerEpoch_kept (g : Fin 4) (k : Fin 7) (s : State) :
    kept (followerEpoch g k s) = kept s := by
  unfold followerEpoch; simp

@[simp] theorem followerReadd_kept (g : Fin 4) (k : Fin 7) (s : State) :
    kept (followerReadd g k s) = kept s := by
  unfold followerReadd; (repeat' split) <;> simp

@[simp] theorem strobeOp_kept (g : Fin 4) (k : Fin 7) (ns : Nat) (s : State) :
    kept (strobeOp g k ns s) = kept s := by
  unfold strobeOp; simp

theorem execFollowerEpochStrobe_kept (g : Fin 4) (k : Fin 7) (ns : Nat) (s : State) :
    Keeps (execFollowerEpochStrobe g k ns s) s := by
  unfold execFollowerEpochStrobe; simp

theorem execFollowerReaddStrobe_kept (g : Fin 4) (k : Fin 7) (ns : Nat) (s : State) :
    Keeps (execFollowerReaddStrobe g k ns s) s := by
  unfold execFollowerReaddStrobe; simp

@[simp] theorem startHold_kept (g : Fin 4) (k : Fin 7) (why : Nat) (s : State) :
    kept (startHold g k why s) = kept s := by
  unfold startHold; simp

theorem execSyncStrobeLoss_kept (g : Fin 4) (k : Fin 7) (s : State) :
    Keeps (execSyncStrobeLoss g k s) s := by
  unfold execSyncStrobeLoss; simp

theorem execFollowerHoldEnd_kept (g : Fin 4) (k : Fin 7) (s : State) :
    Keeps (execFollowerHoldEnd g k s) s := by
  unfold execFollowerHoldEnd; simp

theorem execDemandLaneFail_kept (g : Fin 4) (k : Fin 7) (s : State) :
    Keeps (execDemandLaneFail g k s) s := by
  unfold execDemandLaneFail; simp

theorem execLaneParityError_kept (g : Fin 4) (k : Fin 7) (s : State) :
    Keeps (execLaneParityError g k s) s := by
  unfold execLaneParityError; simp

@[simp] theorem vsetCommand_kept (r : Fin 28) (mv src : Nat) (s : State) :
    kept (vsetCommand r mv src s).1 = kept s := by
  unfold vsetCommand; (repeat' split) <;> simp

theorem execRailVsetWrite_kept (p : Port) (r : Fin 28) (mv : Nat) (s : State) :
    Keeps (execRailVsetWrite p r mv s) s := by
  unfold execRailVsetWrite; simp

theorem execSlewTargetReached_kept (r : Fin 28) (s : State) :
    Keeps (execSlewTargetReached r s) s := by
  unfold execSlewTargetReached; simp

theorem execTransitionQualified_kept (r : Fin 28) (s : State) :
    Keeps (execTransitionQualified r s) s := by
  unfold execTransitionQualified; simp

@[simp] theorem forcedHigh_kept (r : Fin 28) (s : State) :
    kept (forcedHigh r s) = kept s := by
  unfold forcedHigh; simp

theorem execStepAlarmAssert_kept (r : Fin 28) (s : State) :
    Keeps (execStepAlarmAssert r s) s := by
  unfold execStepAlarmAssert; (repeat' split) <;> simp

@[simp] theorem stepRelease_kept (r : Fin 28) (s : State) :
    kept (stepRelease r s) = kept s := by
  unfold stepRelease; (repeat' split) <;> simp

theorem execStepAlarmRelease_kept (r : Fin 28) (s : State) :
    Keeps (execStepAlarmRelease r s) s := by
  unfold execStepAlarmRelease; simp

theorem execStepTmaxExpire_kept (r : Fin 28) (s : State) :
    Keeps (execStepTmaxExpire r s) s := by
  unfold execStepTmaxExpire; simp

theorem execShedDwellExpire_kept (r : Fin 28) (s : State) :
    Keeps (execShedDwellExpire r s) s := by
  unfold execShedDwellExpire; (repeat' split) <;> simp

theorem execShedStart_kept (r : Fin 28) (m : List SnsMeas) (s : State) :
    Keeps (execShedStart r m s) s := by
  unfold execShedStart; simp

theorem execShedComplete_kept (r : Fin 28) (m : List SnsMeas) (s : State) :
    Keeps (execShedComplete r m s) s := by
  unfold execShedComplete; simp

theorem execAddThreshold_kept (r : Fin 28) (mA : Nat) (s : State) :
    Keeps (execAddThreshold r mA s) s := by
  unfold execAddThreshold; simp

theorem execReaddEpoch_kept (r : Fin 28) (m : List SnsMeas) (s : State) :
    Keeps (execReaddEpoch r m s) s := by
  unfold execReaddEpoch; simp

theorem execShedHoldoffExpire_kept (r : Fin 28) (s : State) :
    Keeps (execShedHoldoffExpire r s) s := by
  unfold execShedHoldoffExpire; simp

@[simp] theorem phmDisableOp_kept (r : Fin 28) (s : State) :
    kept (phmDisableOp r s) = kept s := by
  unfold phmDisableOp; simp

theorem execPhmDisable_kept (p : Port) (r : Fin 28) (s : State) :
    Keeps (execPhmDisable p r s) s := by
  unfold execPhmDisable; simp

theorem execHintPinEdge_kept (h : Fin 2) (s : State) :
    Keeps (execHintPinEdge h s) s := by
  unfold execHintPinEdge; simp

@[simp] theorem fcRequest_kept (r : Fin 28) (value : Nat) (s : State) :
    kept (fcRequest r value s) = kept s := by
  unfold fcRequest; simp

theorem execFcReqWrite_kept (p : Port) (r : Fin 28) (value : Nat) (s : State) :
    Keeps (execFcReqWrite p r value s) s := by
  unfold execFcReqWrite; simp

theorem execForecastDeadline_kept (r : Fin 28) (s : State) :
    Keeps (execForecastDeadline r s) s := by
  unfold execForecastDeadline; simp

theorem execForecastInhibitEnd_kept (r : Fin 28) (s : State) :
    Keeps (execForecastInhibitEnd r s) s := by
  unfold execForecastInhibitEnd; simp

@[simp] theorem trimStop_kept (r : Fin 28) (s : State) :
    kept (trimStop r s) = kept s := by
  unfold trimStop; simp

@[simp] theorem trimMove_kept (r : Fin 28) (pins : Nat) (s : State) :
    kept (trimMove r pins s) = kept s := by
  unfold trimMove; simp

theorem execTrimPeriod_kept (r : Fin 28) (s : State) :
    Keeps (execTrimPeriod r s) s := by
  unfold execTrimPeriod; simp

theorem execTrimFreeze_kept (r : Fin 28) (s : State) :
    Keeps (execTrimFreeze r s) s := by
  unfold execTrimFreeze; simp

@[simp] theorem trimDisableOp_kept (r : Fin 28) (s : State) :
    kept (trimDisableOp r s) = kept s := by
  unfold trimDisableOp; simp

theorem execTrimDisable_kept (p : Port) (r : Fin 28) (s : State) :
    Keeps (execTrimDisable p r s) s := by
  unfold execTrimDisable; simp

@[simp] theorem stepDisableOp_kept (r : Fin 28) (s : State) :
    kept (stepDisableOp r s) = kept s := by
  unfold stepDisableOp; simp

theorem execStepAlarmDisable_kept (p : Port) (r : Fin 28) (s : State) :
    Keeps (execStepAlarmDisable p r s) s := by
  unfold execStepAlarmDisable; simp

@[simp] theorem railFaultBit_kept (r : Fin 28) (b : Nat) (s : State) :
    kept (railFaultBit r b s) = kept s := by
  unfold railFaultBit; simp

@[simp] theorem ovAgain_kept (r : Fin 28) (b : Nat) (s : State) :
    kept (ovAgain r b s) = kept s := by
  unfold ovAgain; simp

theorem execOvAbsTrip_kept (r : Fin 28) (v : Nat) (s : State) :
    Keeps (execOvAbsTrip r v s) s := by
  unfold execOvAbsTrip; simp

theorem execOvTrackingTrip_kept (r : Fin 28) (v : Nat) (s : State) :
    Keeps (execOvTrackingTrip r v s) s := by
  unfold execOvTrackingTrip; simp

theorem execPgWindowChange_kept (r : Fin 28) (v : Nat) (s : State) :
    Keeps (execPgWindowChange r v s) s := by
  unfold execPgWindowChange; simp

@[simp] theorem timerFault_kept (r : Fin 28) (b : Nat) (code : FaultCode) (f : ItemFaultCode) (s : State) :
    kept (timerFault r b code f s) = kept s := by
  unfold timerFault; simp

theorem execUvTimerExpire_kept (r : Fin 28) (s : State) :
    Keeps (execUvTimerExpire r s) s := by
  unfold execUvTimerExpire; simp

theorem execOcCondition_kept (r : Fin 28) (k : Fin 7) (mA : Int) (s : State) :
    Keeps (execOcCondition r k mA s) s := by
  unfold execOcCondition; simp

theorem execOcTimerExpire_kept (r : Fin 28) (s : State) :
    Keeps (execOcTimerExpire r s) s := by
  unfold execOcTimerExpire; simp

theorem execValleyLimit_kept (ph : Fin 56) (mA : Nat) (s : State) :
    Keeps (execValleyLimit ph mA s) s := by
  unfold execValleyLimit; (repeat' split) <;> simp

theorem execPgQualified_kept (r : Fin 28) (s : State) :
    Keeps (execPgQualified r s) s := by
  unfold execPgQualified; simp

theorem execPgHoldEnd_kept (r : Fin 28) (s : State) :
    Keeps (execPgHoldEnd r s) s := by
  unfold execPgHoldEnd; simp

@[simp] theorem fclrOp_kept (r : Fin 28) (s : State) :
    kept (fclrOp r s).1 = kept s := by
  unfold fclrOp; (repeat' split) <;> simp

theorem execRailFclr_kept (p : Port) (r : Fin 28) (value : Nat) (s : State) :
    Keeps (execRailFclr p r value s) s := by
  unfold execRailFclr; (repeat' split) <;> simp

@[simp] theorem stageFaultOp_kept (k : Fin 7) (s : State) :
    kept (stageFaultOp k s) = kept s := by
  unfold stageFaultOp; simp

theorem execStageFault_kept (k : Fin 7) (s : State) :
    Keeps (execStageFault k s) s := by
  unfold execStageFault; simp

theorem execStageFaultRelease_kept (k : Fin 7) (s : State) :
    Keeps (execStageFaultRelease k s) s := by
  unfold execStageFaultRelease; simp

theorem execVdrLow_kept (k : Fin 7) (s : State) :
    Keeps (execVdrLow k s) s := by
  unfold execVdrLow; simp

theorem execVdrRestored_kept (k : Fin 7) (s : State) :
    Keeps (execVdrRestored k s) s := by
  unfold execVdrRestored; simp

@[simp] theorem groupUpOp_kept (g : Fin 8) (s : State) :
    kept (groupUpOp g s).1 = kept s := by
  unfold groupUpOp; (repeat' split) <;> simp

theorem execGroupUpCmd_kept (p : Port) (g : Fin 8) (s : State) :
    Keeps (execGroupUpCmd p g s) s := by
  unfold execGroupUpCmd; simp

theorem execGroupDownCmd_kept (p : Port) (g : Fin 8) (s : State) :
    Keeps (execGroupDownCmd p g s) s := by
  unfold execGroupDownCmd; simp

theorem execGroupInputQualified_kept (g : Fin 8) (s : State) :
    Keeps (execGroupInputQualified g s) s := by
  unfold execGroupInputQualified; simp

theorem execGroupInputLost_kept (g : Fin 8) (s : State) :
    Keeps (execGroupInputLost g s) s := by
  unfold execGroupInputLost; (repeat' split) <;> simp

theorem execStepDelayEnd_kept (g : Fin 8) (s : State) :
    Keeps (execStepDelayEnd g s) s := by
  unfold execStepDelayEnd; (repeat' split) <;> simp

theorem execItemQualified_kept (i : Fin 46) (s : State) :
    Keeps (execItemQualified i s) s := by
  unfold execItemQualified; (repeat' split) <;> simp

theorem execItemPgFall_kept (i : Fin 46) (s : State) :
    Keeps (execItemPgFall i s) s := by
  unfold execItemPgFall; (repeat' split) <;> simp

theorem execStepTimeout_kept (g : Fin 8) (retried : Option (Fin 46)) (s : State) :
    Keeps (execStepTimeout g retried s) s := by
  unfold execStepTimeout; (repeat' split) <;> simp

theorem execItemOff_kept (i : Fin 46) (s : State) :
    Keeps (execItemOff i s) s := by
  unfold execItemOff; (repeat' split) <;> simp

@[simp] theorem forceOff_kept (i : Fin 46) (s : State) :
    kept (forceOff i s) = kept s := by
  unfold forceOff; (repeat' split) <;> simp

theorem execShutdownStepTimeout_kept (g : Fin 8) (s : State) :
    Keeps (execShutdownStepTimeout g s) s := by
  unfold execShutdownStepTimeout; (repeat' split) <;> simp

@[simp] theorem minOffEnd_kept (g : Fin 8) (s : State) :
    kept (minOffEnd g s) = kept s := by
  unfold minOffEnd; (repeat' split) <;> simp

theorem execMinOffEnd_kept (g : Fin 8) (s : State) :
    Keeps (execMinOffEnd g s) s := by
  unfold execMinOffEnd; simp

theorem execItemRetryDelayEnd_kept (i : Fin 46) (s : State) :
    Keeps (execItemRetryDelayEnd i s) s := by
  unfold execItemRetryDelayEnd; simp

theorem execItemNormalTimer_kept (i : Fin 46) (s : State) :
    Keeps (execItemNormalTimer i s) s := by
  unfold execItemNormalTimer; simp

theorem execEnPinFall_kept (r : Fin 28) (s : State) :
    Keeps (execEnPinFall r s) s := by
  unfold execEnPinFall; simp

theorem execEnPinRise_kept (r : Fin 28) (s : State) :
    Keeps (execEnPinRise r s) s := by
  unfold execEnPinRise; simp

@[simp] theorem regStop_kept (n : Fin 10) (b : Nat) (f : ItemFaultCode) (s : State) :
    kept (regStop n b f s) = kept s := by
  unfold regStop; simp

theorem execRegCurrentLimitFault_kept (n : Fin 10) (s : State) :
    Keeps (execRegCurrentLimitFault n s) s := by
  unfold execRegCurrentLimitFault; simp

theorem execBuckOverVoltage_kept (n : Fin 6) (s : State) :
    Keeps (execBuckOverVoltage n s) s := by
  unfold execBuckOverVoltage; simp

theorem execRegPgChange_kept (n : Fin 10) (inWindow : Bool) (s : State) :
    Keeps (execRegPgChange n inWindow s) s := by
  unfold execRegPgChange; simp

theorem execRegPgLostTimeout_kept (n : Fin 10) (s : State) :
    Keeps (execRegPgLostTimeout n s) s := by
  unfold execRegPgLostTimeout; simp

@[simp] theorem modRsto_kept (n : Fin 4) (f : RstoState → RstoState) (s : State) :
    kept (modRsto n f s) = kept s := by
  unfold modRsto; simp

theorem execRstoConditionsEnd_kept (n : Fin 4) (s : State) :
    Keeps (execRstoConditionsEnd n s) s := by
  unfold execRstoConditionsEnd; simp

theorem execRstoStretchEnd_kept (n : Fin 4) (s : State) :
    Keeps (execRstoStretchEnd n s) s := by
  unfold execRstoStretchEnd; simp

@[simp] theorem forceRsto_kept (n : Fin 4) (s : State) :
    kept (forceRsto n s) = kept s := by
  unfold forceRsto; simp

theorem execRstoForce_kept (p : Port) (n : Fin 4) (value : Nat) (s : State) :
    Keeps (execRstoForce p n value s) s := by
  unfold execRstoForce; simp

theorem execRstoPulseEnd_kept (n : Fin 4) (s : State) :
    Keeps (execRstoPulseEnd n s) s := by
  unfold execRstoPulseEnd; simp

@[simp] theorem modClk_kept (f : ClockState → ClockState) (s : State) :
    kept (modClk f s) = kept s := by
  unfold modClk; simp

@[simp] theorem clkTrip_kept (s : State) :
    kept (clkTrip s) = kept s := by
  unfold clkTrip; simp

theorem execLockstepMismatch_kept (word : Nat) (s : State) :
    Keeps (execLockstepMismatch word s) s := by
  unfold execLockstepMismatch; simp

theorem execSysClockCheck_kept (kHz : Nat) (s : State) :
    Keeps (execSysClockCheck kHz s) s := by
  unfold execSysClockCheck; simp

theorem execRsysClockCheck_kept (k : Fin 7) (kHz : Nat) (s : State) :
    Keeps (execRsysClockCheck k kHz s) s := by
  unfold execRsysClockCheck; simp

@[simp] theorem canClockLost_kept (n : Fin 4) (s : State) :
    kept (canClockLost n s) = kept s := by
  unfold canClockLost; simp

@[simp] theorem canClockFail_kept (f : ClockState → ClockState) (s : State) :
    kept (canClockFail f s) = kept s := by
  unfold canClockFail; simp

theorem execCrystalStartTimeout_kept (s : State) :
    Keeps (execCrystalStartTimeout s) s := by
  unfold execCrystalStartTimeout; simp

theorem execCanPllLockLoss_kept (s : State) :
    Keeps (execCanPllLockLoss s) s := by
  unfold execCanPllLockLoss; simp

theorem execCanClockGood_kept (s : State) :
    Keeps (execCanClockGood s) s := by
  unfold execCanClockGood; simp

@[simp] theorem modHamper_kept (f : HamperState → HamperState) (s : State) (h : (f s.hamper).mem = s.hamper.mem) :
    kept (modHamper f s) = kept s := by
  unfold modHamper kept; rw [h]
theorem modHamper_grown (b₀ : Kept) (f : HamperState → HamperState) (s : State)
    (h : Memory.wf s.hamper.mem = true → Memory.wf (f s.hamper).mem = true) (h₀ : Grown b₀ (kept s)) :
    Grown b₀ (kept (modHamper f s)) :=
  ⟨h₀.part, h₀.pending, fun x => h (h₀.mem x), h₀.lc, h₀.lockLo, h₀.lockHi⟩

@[simp] theorem fabCapture_kept (addr master typ : Nat) (s : State) :
    kept (fabCapture addr master typ s) = kept s := by
  unfold fabCapture; simp

@[simp] theorem hamperDed_kept (master offset : Nat) (s : State) :
    kept (hamperDed master offset s) = kept s := by
  unfold hamperDed; simp

@[simp] theorem fabReported_kept (code : FaultCode) (src detail : Nat) (s : State) :
    kept (fabReported code src detail s) = kept s := by
  unfold fabReported; simp

@[simp] theorem hamperGrant_grown (b₀ : Kept) (q : HamperReq) (ecc : EccFind) (s : State) (h₀ : Grown b₀ (kept s)) :
    Grown b₀ (kept (hamperGrant q ecc s)) := by
  unfold hamperGrant; dsimp only
  split
  · simp [h₀]
  · split
    · exact modHamper_grown _ _ _ (fun h => Mem.putBytes_wf h) (by simp [h₀])
    · split <;> simp [h₀]

theorem execHamperAccess_grown (b₀ : Kept) (reqs : List HamperReq) (ecc : EccFind) (s : State) (h₀ : Grown b₀ (kept s)) :
    Grows b₀ (execHamperAccess reqs ecc s) := by
  unfold execHamperAccess; (repeat' split) <;> simp [*]

theorem execBackgroundScrub_kept (ecc : EccFind) (s : State) :
    Keeps (execBackgroundScrub ecc s) s := by
  unfold execBackgroundScrub; (repeat' split) <;> simp

@[simp] theorem linkEvt_kept (k : Fin 7) (s : State) :
    kept (linkEvt k s) = kept s := by
  unfold linkEvt; simp

@[simp] theorem suspendEngines_kept (s : State) :
    kept (suspendEngines s) = kept s := by
  unfold suspendEngines; simp

@[simp] theorem restartEngines_kept (l : List (Fin 18)) (s : State) :
    kept (restartEngines l s) = kept s := by
  unfold restartEngines; simp

@[simp] theorem linkLost_kept (k : Fin 7) (hold : Bool) (s : State) :
    kept (linkLost k hold s) = kept s := by
  unfold linkLost; simp; (repeat' split) <;> simp

@[simp] theorem linkGoDown_kept (k : Fin 7) (s : State) :
    kept (linkGoDown k s) = kept s := by
  unfold linkGoDown; simp

@[simp] theorem bootLinksDown_kept (s : State) :
    kept (bootLinksDown s) = kept s := by
  unfold bootLinksDown; simp

@[simp] theorem resendFrom_kept (k : Fin 7) (e : LinkEndSel) (from_ : Nat) (s : State) :
    kept (resendFrom k e from_ s) = kept s := by
  unfold resendFrom; simp; (repeat' split) <;> simp

@[simp] theorem onLink_kept (k : Fin 7) (s : State) (f : State → State) (h : ∀ s, kept (f s) = kept s) : Keeps (onLink k s f) s := by
  unfold onLink; (repeat' split) <;> simp [h]
@[simp] theorem onLink_grown (b₀ : Kept) (k : Fin 7) (s : State) (f : State → State) (h : ∀ s, Grown b₀ (kept s) → Grown b₀ (kept (f s)))
    (h₀ : Grown b₀ (kept s)) : Grows b₀ (onLink k s f) := by
  unfold onLink; (repeat' split) <;> simp [*]

@[simp] theorem pumpEnd_kept (k : Fin 7) (e : LinkEndSel) (s : State) :
    kept (pumpEnd k e s) = kept s := by
  unfold pumpEnd; (repeat' split) <;> simp

@[simp] theorem endTakes_kept (k : Fin 7) (recv : LinkEndSel) (f : LinkFrame) (s : State) :
    kept (endTakes k recv f s) = kept s := by
  unfold endTakes; (repeat' split) <;> simp

@[simp] theorem takeFrame_kept (k : Fin 7) (recv : LinkEndSel) (seq ack : Nat) (f : LinkFrame) (s : State) :
    kept (takeFrame k recv seq ack f s) = kept s := by
  unfold takeFrame; (repeat' split) <;> simp

@[simp] theorem lostFrame_kept (k : Fin 7) (recv : LinkEndSel) (body : Nat) (s : State) :
    kept (lostFrame k recv body s) = kept s := by
  unfold lostFrame; simp

theorem execLinkFrameBad_kept (k : Fin 7) (recv : LinkEndSel) (body crc : Nat) (s : State) :
    Keeps (execLinkFrameBad k recv body crc s) s := by
  unfold execLinkFrameBad; simp

@[simp] theorem nakArrives_kept (k : Fin 7) (recv : LinkEndSel) (seq : Nat) (s : State) :
    kept (nakArrives k recv seq s) = kept s := by
  unfold nakArrives; simp

theorem execLinkNak_kept (k : Fin 7) (recv : LinkEndSel) (seq : Nat) (s : State) :
    Keeps (execLinkNak k recv seq s) s := by
  unfold execLinkNak; simp

theorem execLinkIdle_kept (k : Fin 7) (recv : LinkEndSel) (ack : Nat) (s : State) :
    Keeps (execLinkIdle k recv ack s) s := by
  unfold execLinkIdle; simp

theorem execLinkAckTimeout_kept (k : Fin 7) (sender : LinkEndSel) (s : State) : Keeps (execLinkAckTimeout k sender s) s := by
  unfold execLinkAckTimeout
  apply onLink_kept
  intro s; split <;> simp

theorem execLinkCommand_kept (k : Fin 7) (seq ack : Nat) (c : RailCmd) (s : State) :
    Keeps (execLinkCommand k seq ack c s) s := by
  unfold execLinkCommand; simp

theorem execLinkEvent_kept (k : Fin 7) (seq ack source cause : Nat) (s : State) :
    Keeps (execLinkEvent k seq ack source cause s) s := by
  unfold execLinkEvent; simp

theorem execLinkObjWrite_kept (k : Fin 7) (seq ack tag obj sub value : Nat) (s : State) :
    Keeps (execLinkObjWrite k seq ack tag obj sub value s) s := by
  unfold execLinkObjWrite; simp

theorem execLinkObjRead_kept (k : Fin 7) (seq ack tag obj sub : Nat) (s : State) :
    Keeps (execLinkObjRead k seq ack tag obj sub s) s := by
  unfold execLinkObjRead; simp

theorem execLinkObjData_kept (k : Fin 7) (seq ack tag obj sub value : Nat) (s : State) :
    Keeps (execLinkObjData k seq ack tag obj sub value s) s := by
  unfold execLinkObjData; simp

theorem mirrorWord_grown (b₀ : Kept) (k : Fin 7) (offset data : Nat) (s : State) (h₀ : Grown b₀ (kept s)) :
    Grown b₀ (kept (mirrorWord k offset data s)) := by
  unfold mirrorWord
  exact modHamper_grown _ _ _ (fun h => Mem.putBytes_wf h) h₀

@[simp] theorem telemetryPump_grown (b₀ : Kept) (k : Fin 7) (s : State) (h₀ : Grown b₀ (kept s)) : Grown b₀ (kept (telemetryPump k s)) := by
  unfold telemetryPump
  split
  · exact h₀
  · apply grown_foldl
    · intro a x h
      split
      · exact mirrorWord_grown _ _ _ _ _ (by simpa using h)
      · simpa using h
    · simpa using h₀

theorem execLinkTelemetry_grown (b₀ : Kept) (k : Fin 7) (seq ack offset data : Nat) (s : State) (h₀ : Grown b₀ (kept s)) :
    Grows b₀ (execLinkTelemetry k seq ack offset data s) := by
  unfold execLinkTelemetry
  apply onLink_grown _ _ _ _ _ h₀
  intro s h
  dsimp only
  apply telemetryPump_grown
  split
  · exact mirrorWord_grown _ _ _ _ _ (by simpa using h)
  · simpa using h

theorem execLinkDown_kept (k : Fin 7) (s : State) :
    Keeps (execLinkDown k s) s := by
  unfold execLinkDown; simp

@[simp] theorem linkComesUp_kept (k : Fin 7) (s : State) :
    kept (linkComesUp k s) = kept s := by
  unfold linkComesUp; simp; (repeat' split) <;> simp

@[simp] theorem readLinkStatus_kept (k : Fin 7) (s : State) :
    kept (readLinkStatus k s).1 = kept s := by
  unfold readLinkStatus; simp

end Sys2Proof.Laws
end

