-- ==== Sys2Proof/Laws/KeptHost.lean ====
section
/-! SUPPORT. What is kept by Star Sight, housekeeping, reads. -/

namespace Sys2Proof.Laws

open Sys2Proof.Machine

@[simp] theorem modWd_kept (f : WdState → WdState) (s : State) :
    kept (modWd f s) = kept s := by
  unfold modWd; simp

@[simp] theorem modHost_kept (h : Fin 2) (f : WdHost → WdHost) (s : State) :
    kept (modHost h f s) = kept s := by
  unfold modHost; simp

@[simp] theorem beginCycle_kept (s : State) :
    kept (beginCycle s) = kept s := by
  unfold beginCycle; simp

@[simp] theorem obligationsStart_kept (s : State) :
    kept (obligationsStart s) = kept s := by
  unfold obligationsStart; simp

@[simp] theorem wdStart_kept (s : State) :
    kept (wdStart s) = kept s := by
  unfold wdStart; simp

@[simp] theorem wdEnableOp_kept (value : Nat) (s : State) :
    kept (wdEnableOp value s).1 = kept s := by
  unfold wdEnableOp; (repeat' split) <;> simp

theorem execWdEnable_kept (p : Port) (value : Nat) (s : State) :
    Keeps (execWdEnable p value s) s := by
  unfold execWdEnable; simp

@[simp] theorem wdSetLate_kept (h : Fin 2) (s : State) :
    kept (wdSetLate h s) = kept s := by
  unfold wdSetLate; simp

@[simp] theorem wdUsed_kept (s : State) :
    kept (wdUsed s) = kept s := by
  unfold wdUsed; simp

theorem execWdWindowClose_kept (s : State) :
    Keeps (execWdWindowClose s) s := by
  unfold execWdWindowClose; simp

@[simp] theorem wdCountEarly_kept (s : State) :
    kept (wdCountEarly s) = kept s := by
  unfold wdCountEarly; simp

@[simp] theorem wdAnswerOp_kept (h : Fin 2) (token tick : Nat) (s : State) :
    kept (wdAnswerOp h token tick s).1 = kept s := by
  unfold wdAnswerOp; simp; (repeat' split) <;> simp

@[simp] theorem wdWindow_kept (n : Fin 2) (ofs size : Nat) (s : State) (f : State → State × Bool) (h : ∀ s, kept (f s).1 = kept s) :
    kept (wdWindow n ofs size s f) = kept s := by
  unfold wdWindow
  (repeat' split) <;> simp [h]

theorem execWdAnswer_kept (p : Port) (n : Fin 2) (token tick : Nat) (s : State) :
    Keeps (execWdAnswer p n token tick s) s := by
  unfold execWdAnswer; simp

@[simp] theorem wdCheckinOp_kept (h : Fin 2) (task : Nat) (s : State) :
    kept (wdCheckinOp h task s).1 = kept s := by
  unfold wdCheckinOp; (repeat' split) <;> simp

theorem execWdCheckin_kept (p : Port) (n : Fin 2) (task : Nat) (s : State) :
    Keeps (execWdCheckin p n task s) s := by
  unfold execWdCheckin; simp

@[simp] theorem judgeHost_kept (h : Fin 2) (s : State) :
    kept (judgeHost h s).1 = kept s := by
  unfold judgeHost; simp; (repeat' split) <;> simp

@[simp] theorem forceRstoPin_kept (n : Fin 4) (s : State) :
    kept (forceRstoPin n s) = kept s := by
  unfold forceRstoPin; simp

@[simp] theorem wdCount_kept (s : State) :
    kept (wdCount s) = kept s := by
  unfold wdCount; simp

@[simp] theorem wdReactOp_kept (h : Fin 2) (sub : Nat) (s : State) :
    kept (wdReactOp h sub s) = kept s := by
  unfold wdReactOp; (repeat' split) <;> simp

@[simp] theorem wdReactAll_kept (l : List (Fin 2 × Nat)) (s : State) :
    kept (wdReactAll l s) = kept s := by
  unfold wdReactAll; simp

@[simp] theorem wdJudge_kept (s : State) :
    kept (wdJudge s).1 = kept s := by
  unfold wdJudge; (repeat' split) <;> simp

theorem execWdCycleEnd_kept (s : State) :
    Keeps (execWdCycleEnd s) s := by
  unfold execWdCycleEnd; simp

theorem execEngineService_kept (e : Fin 18) (s : State) :
    Keeps (execEngineService e s) s := by
  unfold execEngineService; simp

theorem execEngineWatchdogExpire_kept (e : Fin 18) (s : State) :
    Keeps (execEngineWatchdogExpire e s) s := by
  unfold execEngineWatchdogExpire; simp

@[simp] theorem endWipeSuspension_kept (s : State) :
    kept (endWipeSuspension s) = kept s := by
  unfold endWipeSuspension; simp

theorem execEngineSuspensionEnd_kept (s : State) :
    Keeps (execEngineSuspensionEnd s) s := by
  unfold execEngineSuspensionEnd; simp

theorem execLogbookEntry_kept (code : FaultCode) (die src detail : Nat) (s : State) :
    Keeps (execLogbookEntry code die src detail s) s := by
  unfold execLogbookEntry; simp

@[simp] theorem safeRefresh_kept (s : State) :
    kept (safeRefresh s) = kept s := by
  unfold safeRefresh; simp

@[simp] theorem logFclrOp_kept (value : Nat) (s : State) :
    kept (logFclrOp value s).1 = kept s := by
  unfold logFclrOp; (repeat' split) <;> simp

theorem execLogFclr_kept (p : Port) (value : Nat) (s : State) :
    Keeps (execLogFclr p value s) s := by
  unfold execLogFclr; simp

@[simp] theorem readLogStatus_kept (s : State) :
    kept (readLogStatus s).1 = kept s := by
  unfold readLogStatus; simp

@[simp] theorem modHk_kept (f : HkState → HkState) (s : State) :
    kept (modHk f s) = kept s := by
  unfold modHk; simp

@[simp] theorem modTherm_kept (f : ThermState → ThermState) (s : State) :
    kept (modTherm f s) = kept s := by
  unfold modTherm; simp

@[simp] theorem hkWindow_kept (ch : Fin 48) (code : Nat) (s : State) :
    kept (hkWindow ch code s) = kept s := by
  unfold hkWindow; simp

@[simp] theorem hkResult_kept (ch : Fin 48) (slice : Fin 5) (raw vref : Nat) (s : State) :
    kept (hkResult ch slice raw vref s) = kept s := by
  unfold hkResult; simp

@[simp] theorem hkScanStart_kept (s : State) :
    kept (hkScanStart s) = kept s := by
  unfold hkScanStart; simp

@[simp] theorem hkScanNext_kept (ch : Fin 48) (s : State) :
    kept (hkScanNext ch s) = kept s := by
  unfold hkScanNext; (repeat' split) <;> simp

theorem execHkConversionEnd_kept (ch : Fin 48) (slice : Fin 5) (raw vref : Nat) (s : State) :
    Keeps (execHkConversionEnd ch slice raw vref s) s := by
  unfold execHkConversionEnd; simp

@[simp] theorem tsUpdate_kept (n : Fin 8) (s : State) :
    kept (tsUpdate n s) = kept s := by
  unfold tsUpdate; simp

@[simp] theorem modDieT_kept (d : Fin 8) (f : DieTherm → DieTherm) (s : State) :
    kept (modDieT d f s) = kept s := by
  unfold modDieT; simp

@[simp] theorem applyThrottle_kept (s : State) :
    kept (applyThrottle s) = kept s := by
  unfold applyThrottle; dsimp only; (repeat' first | split | (rw [kept_foldl]) | intro _ _) <;> (try simp_all)

@[simp] theorem setStep_kept (d : Fin 8) (n : Nat) (s : State) :
    kept (setStep d n s) = kept s := by
  unfold setStep; simp

@[simp] theorem thermShutdown_kept (path : Fin 3) (d : Fin 8) (s : State) :
    kept (thermShutdown path d s) = kept s := by
  unfold thermShutdown; simp

@[simp] theorem fallbackUpdate_kept (d : Fin 8) (s : State) :
    kept (fallbackUpdate d s) = kept s := by
  unfold fallbackUpdate; (repeat' split) <;> simp

@[simp] theorem dieTempUpdate_kept (d : Fin 8) (s : State) :
    kept (dieTempUpdate d s) = kept s := by
  unfold dieTempUpdate; (repeat' split) <;> simp

theorem execRoSample_kept (die : Fin 8) (temps : List Int) (s : State) :
    Keeps (execRoSample die temps s) s := by
  unfold execRoSample; simp

theorem execThermalComparator_kept (s : State) :
    Keeps (execThermalComparator s) s := by
  unfold execThermalComparator; simp

@[simp] theorem hkReadings_kept (s : State) :
    kept (hkReadings s) = kept s := by
  unfold hkReadings; simp

theorem execHkSlowRound_kept (raws : List (Fin 5 × Nat)) (vref : Nat) (s : State) :
    Keeps (execHkSlowRound raws vref s) s := by
  unfold execHkSlowRound; simp

@[simp] theorem hkDisableOp_kept (s : State) :
    kept (hkDisableOp s) = kept s := by
  unfold hkDisableOp; simp

theorem execHkScanDisable_kept (p : Port) (s : State) :
    Keeps (execHkScanDisable p s) s := by
  unfold execHkScanDisable; simp

@[simp] theorem hkCalOp_kept (value : Nat) (s : State) :
    kept (hkCalOp value s).1 = kept s := by
  unfold hkCalOp; (repeat' split) <;> simp

theorem execHkCalCmd_kept (p : Port) (value : Nat) (s : State) :
    Keeps (execHkCalCmd p value s) s := by
  unfold execHkCalCmd; simp

theorem execSelfCalibrationDone_kept (gain : Vector Nat 5) (ofs : Vector Int 5) (s : State) :
    Keeps (execSelfCalibrationDone gain ofs s) s := by
  unfold execSelfCalibrationDone; simp

theorem execBackgroundCalibration_kept (slice : Fin 5) (gain : Nat) (ofs : Int) (s : State) :
    Keeps (execBackgroundCalibration slice gain ofs s) s := by
  unfold execBackgroundCalibration; simp

theorem execHkRefSelWrite_kept (p : Port) (value : Nat) (s : State) : Keeps (execHkRefSelWrite p value s) s :=
  directWrite_kept _ _ _ _ (fun _ => rfl)

theorem execRefSettlingEnd_kept (s : State) :
    Keeps (execRefSettlingEnd s) s := by
  unfold execRefSettlingEnd; simp

theorem execThrottleEvaluation_kept (s : State) :
    Keeps (execThrottleEvaluation s) s := by
  unfold execThrottleEvaluation; simp

@[simp] theorem thrEnOp_kept (value : Nat) (s : State) :
    kept (thrEnOp value s) = kept s := by
  unfold thrEnOp; simp

@[simp] theorem thrRailsOp_kept (value : Nat) (s : State) :
    kept (thrRailsOp value s) = kept s := by
  unfold thrRailsOp; dsimp only; (repeat' first | split | (rw [kept_foldl]) | intro _ _) <;> (try simp_all)

@[simp] theorem readClears_kept (idx sub : Nat) (s : State) :
    kept (readClears idx sub s) = kept s := by
  unfold readClears; (repeat' split) <;> simp

@[simp] theorem overLink_kept (idx sub : Nat) (f : Fin 7 → State → State) (s : State) (h : ∀ k s, kept (f k s) = kept s) :
    kept (overLink idx sub f s) = kept s := by
  unfold overLink; (repeat' split) <;> simp [h]

@[simp] theorem readObject_kept (p : Port) (r : ObjRow) (idx sub : Nat) (s : State) :
    kept (readObject p r idx sub s).1 = kept s := by
  unfold readObject; (repeat' split) <;> simp

@[simp] theorem readRequest_kept (p : Port) (idx sub : Nat) (s : State) :
    kept (readRequest p idx sub s).1 = kept s := by
  unfold readRequest; (repeat' split) <;> simp

@[simp] theorem tunOutcome_kept (n : Fin 2) (a : Ack) (s : State) :
    kept (tunOutcome n a s) = kept s := by
  unfold tunOutcome; simp

@[simp] theorem answerPort_kept (p : Port) (idx sub : Nat) (a : Ack) (s : State) :
    kept (answerPort p idx sub a s) = kept s := by
  unfold answerPort; (repeat' split) <;> simp

@[simp] theorem completeBearing_kept (b : Bearing) (a : Ack) (s : State) :
    kept (completeBearing b a s) = kept s := by
  unfold completeBearing; (repeat' split) <;> simp

@[simp] theorem freezeWindows_kept (s : State) :
    kept (freezeWindows s) = kept s := by
  unfold freezeWindows; simp

@[simp] theorem modTw_kept (n : Fin 2) (f : TwPort → TwPort) (s : State) :
    kept (modTw n f s) = kept s := by
  unfold modTw; simp

@[simp] theorem modTun_kept (n : Fin 2) (f : Tunnel → Tunnel) (s : State) :
    kept (modTun n f s) = kept s := by
  unfold modTun; simp

@[simp] theorem readExpedited_kept (p : Port) (idx sub : Nat) (s : State) : kept (readExpedited p idx sub s).1 = kept s := by
  unfold readExpedited
  split
  · rfl
  · rename_i r _
    have hr := readObject_kept p r idx sub s
    split
    · rename_i t b he
      rw [he] at hr
      split
      · rfl
      · exact hr
    · exact hr

@[simp] theorem setTransfer_kept (n : Fin 4) (t : Transfer) (s : State) :
    kept (setTransfer n t s) = kept s := by
  unfold setTransfer; simp

@[simp] theorem tunReadOut_kept (n : Fin 2) (s : State) : kept (tunReadOut n s).1 = kept s := by
  unfold tunReadOut; dsimp only
  split
  · rfl
  · split
    · rfl
    · rename_i r _ _
      have hr := readObject_kept (portOfTw n) r s.tw[n].tun.index s.tw[n].tun.sub s
      split
      · rename_i s1 b he
        rw [he] at hr
        split
        · simpa using hr
        · split
          · rfl
          · simpa using hr
      · exact hr

@[simp] theorem waitServed_kept (n : Fin 4) (w : PendResp) (s : State) : kept (waitServed n w s) = kept s := by
  have h := readRequest_kept (portOfCan n) w.idx w.sub s
  unfold waitServed; dsimp only
  split
  · simp
  · split
    all_goals
      rename_i he
      rw [he] at h
      simpa using h

@[simp] theorem waitRead_kept (p : Port) (idx sub : Nat) (s : State) :
    kept (waitRead p idx sub s) = kept s := by
  unfold waitRead; (repeat' split) <;> simp

@[simp] theorem readsAnswered_kept (k : Fin 7) (s : State) :
    kept (readsAnswered k s) = kept s := by
  unfold readsAnswered; simp

end Sys2Proof.Laws
end

