-- ==== Sys2Proof/Laws/KeptStore.lean ====
section
/-! SUPPORT. What is kept by the store, updates, boot and power. -/

namespace Sys2Proof.Laws

open Sys2Proof.Machine

@[simp] theorem takeHomeChart_kept (s : State) :
    kept (takeHomeChart s) = kept s := by
  unfold takeHomeChart; dsimp only; (repeat' first | split | (rw [kept_foldl]) | intro _ _) <;> (try simp_all)

@[simp] theorem applyVote_kept (s : State) :
    kept (applyVote s) = kept s := by
  unfold applyVote; simp

@[simp] theorem modCopy_kept (k : Fin 3) (f : CfgCopy → CfgCopy) (s : State) :
    kept (modCopy k f s) = kept s := by
  unfold modCopy; simp

@[simp] theorem startCopy_kept (k : Fin 3) (s : State) :
    kept (startCopy k s) = kept s := by
  unfold startCopy; simp

@[simp] theorem saveEvent_kept (s : State) :
    kept (saveEvent s) = kept s := by
  unfold saveEvent; simp

@[simp] theorem cfgSaveOp_kept (value : Nat) (s : State) :
    kept (cfgSaveOp value s).1 = kept s := by
  unfold cfgSaveOp; (repeat' split) <;> simp

theorem execCfgSave_kept (p : Port) (value : Nat) (s : State) :
    Keeps (execCfgSave p value s) s := by
  unfold execCfgSave; simp

@[simp] theorem nextRepair_kept (s : State) :
    kept (nextRepair s) = kept s := by
  unfold nextRepair; (repeat' split) <;> simp

@[simp] theorem saveFailed_kept (k : Fin 3) (s : State) :
    kept (saveFailed k s) = kept s := by
  unfold saveFailed; simp

@[simp] theorem copyDone_kept (k : Fin 3) (s : State) :
    kept (copyDone k s) = kept s := by
  unfold copyDone; (repeat' split) <;> simp

theorem execConfigCopyWritten_kept (ok : Bool) (s : State) :
    Keeps (execConfigCopyWritten ok s) s := by
  unfold execConfigCopyWritten; (repeat' split) <;> simp

@[simp] theorem modHc_kept (f : HomeChart → HomeChart) (s : State) (h1 : (f s.mram.hc).lockLo = s.mram.hc.lockLo)
    (h2 : (f s.mram.hc).lockHi = s.mram.hc.lockHi) : kept (modHc f s) = kept s := by
  unfold modHc kept; rw [h1, h2]

@[simp] theorem hcImageOp_kept (p : Port) (bytes : List Byte) (s : State) :
    kept (hcImageOp p bytes s).1 = kept s := by
  unfold hcImageOp; (repeat' split) <;> simp

theorem execHcImageWrite_kept (p : Port) (bytes : List Byte) (s : State) :
    Keeps (execHcImageWrite p bytes s) s := by
  unfold execHcImageWrite; simp

theorem execHomeChartWritten_kept (ok : Bool) (s : State) :
    Keeps (execHomeChartWritten ok s) s := by
  unfold execHomeChartWritten; (repeat' split) <;> simp

@[simp] theorem hcLockOp_grown (b₀ : Kept) (value : Nat) (s : State) (h₀ : Grown b₀ (kept s)) :
    Grown b₀ (kept (hcLockOp value s).1) := by
  unfold hcLockOp; (repeat' split) <;> simp [*]

theorem execHcLock_grown (b₀ : Kept) (p : Port) (value : Nat) (s : State) (h₀ : Grown b₀ (kept s)) : Grows b₀ (execHcLock p value s) :=
  directWrite_grown _ _ _ _ _ (fun _ h => hcLockOp_grown _ _ _ h) h₀

theorem execJournalAppend_kept (s : State) :
    Keeps (execJournalAppend s) s := by
  unfold execJournalAppend; (repeat' split) <;> simp

@[simp] theorem modFix_kept (k : Fin 2) (f : LfSlot → LfSlot) (s : State) :
    kept (modFix k f s) = kept s := by
  unfold modFix; simp

@[simp] theorem holdUpOutputs_kept (s : State) :
    kept (holdUpOutputs s) = kept s := by
  unfold holdUpOutputs; simp

theorem execHoldUpEntry_kept (hucap : Nat) (s : State) :
    Keeps (execHoldUpEntry hucap s) s := by
  unfold execHoldUpEntry; simp

@[simp] theorem powerOnReset_grown (b₀ : Kept) (s : State) (h₀ : Grown b₀ (kept s)) : Grown b₀ (kept (powerOnReset s)) :=
  ⟨h₀.part, h₀.pending, fun _ => Mem.reset_wf, h₀.lc, h₀.lockLo, h₀.lockHi⟩

@[simp] theorem fixWritten_kept (s : State) :
    kept (fixWritten s) = kept s := by
  unfold fixWritten; simp

@[simp] theorem fixCounted_kept (s : State) :
    kept (fixCounted s) = kept s := by
  unfold fixCounted; simp

@[simp] theorem tearCtr_kept (s : State) :
    kept (tearCtr s) = kept s := by
  unfold tearCtr; (repeat' split) <;> simp

theorem execHoldUpSaveEnd_grown (b₀ : Kept) (vauxHigh : Bool) (s : State) (h₀ : Grown b₀ (kept s)) :
    Grows b₀ (execHoldUpSaveEnd vauxHigh s) := by
  unfold execHoldUpSaveEnd; (repeat' split) <;> simp [*]

theorem execHucapPowerOnReset_grown (b₀ : Kept) (step : Fin 7) (s : State) (h₀ : Grown b₀ (kept s)) :
    Grows b₀ (execHucapPowerOnReset step s) := by
  unfold execHucapPowerOnReset; (repeat' split) <;> simp [*]

theorem execTamper_grown (b₀ : Kept) (s : State) (h₀ : Grown b₀ (kept s)) :
    Grows b₀ (execTamper s) := by
  unfold execTamper; (repeat' split) <;> simp [*]

theorem execTamperRelease_kept (s : State) :
    Keeps (execTamperRelease s) s := by
  unfold execTamperRelease; simp

@[simp] theorem modUpd_kept (f : UpdState → UpdState) (s : State) :
    kept (modUpd f s) = kept s := by
  unfold modUpd; simp

@[simp] theorem modBank_kept (k : Fin 2) (f : Bank → Bank) (s : State) :
    kept (modBank k f s) = kept s := by
  unfold modBank; simp

@[simp] theorem updTo_kept (ph : UpdPhase) (s : State) :
    kept (updTo ph s) = kept s := by
  unfold updTo; simp

@[simp] theorem updRefuse_kept (n : Fin 9) (s : State) :
    kept (updRefuse n s) = kept s := by
  unfold updRefuse; simp

@[simp] theorem acceptHeader_kept (p : Port) (h : List Byte) (s : State) :
    kept (acceptHeader p h s) = kept s := by
  unfold acceptHeader; simp

@[simp] theorem headerOp_kept (p : Port) (h : List Byte) (s : State) :
    kept (headerOp p h s).1 = kept s := by
  unfold headerOp; simp; (repeat' split) <;> simp

theorem execUpdateHeaderCheck_kept (p : Port) (bytes : List Byte) (s : State) :
    Keeps (execUpdateHeaderCheck p bytes s) s := by
  unfold execUpdateHeaderCheck; simp

theorem execBankWipeDone_kept (s : State) :
    Keeps (execBankWipeDone s) s := by
  unfold execBankWipeDone; simp

@[simp] theorem imageInit_kept (p : Port) (total : Nat) (s : State) :
    kept (imageInit p total s).1 = kept s := by
  unfold imageInit; (repeat' split) <;> simp

@[simp] theorem imageBlock_kept (bytes : List Byte) (closing : Bool) (s : State) :
    kept (imageBlock bytes closing s).1 = kept s := by
  unfold imageBlock; simp

@[simp] theorem answerBlock_kept (n : Fin 4) (a : Ack) (s : State) :
    kept (answerBlock n a s) = kept s := by
  unfold answerBlock; (repeat' split) <;> simp

theorem execBankBlockWrite_kept (s : State) :
    Keeps (execBankBlockWrite s) s := by
  unfold execBankBlockWrite; (repeat' split) <;> simp

@[simp] theorem loadStandby_kept (section_ : List Byte) (s : State) :
    kept (loadStandby section_ s) = kept s := by
  unfold loadStandby; simp

theorem execUpdateVerify_kept (s : State) : Keeps (execUpdateVerify s) s := by
  unfold execUpdateVerify
  dsimp only
  split
  · rfl
  · split <;> simp only [keeps_next, answerBlock_kept, kept_ite, updTo_kept, modBank_kept, loadStandby_kept, updRefuse_kept, ite_self]

@[simp] theorem activateOp_kept (s : State) :
    kept (activateOp s).1 = kept s := by
  unfold activateOp; (repeat' split) <;> simp

@[simp] theorem confirmTrial_kept (s : State) :
    kept (confirmTrial s) = kept s := by
  unfold confirmTrial; simp

@[simp] theorem confirmOp_kept (s : State) :
    kept (confirmOp s).1 = kept s := by
  unfold confirmOp; (repeat' split) <;> simp

@[simp] theorem abandonOp_kept (s : State) :
    kept (abandonOp s).1 = kept s := by
  unfold abandonOp; (repeat' split) <;> simp

@[simp] theorem updCmdOp_kept (value : Nat) (s : State) :
    kept (updCmdOp value s).1 = kept s := by
  unfold updCmdOp; (repeat' split) <;> simp

theorem execUpdActivate_kept (p : Port) (s : State) :
    Keeps (execUpdActivate p s) s := by
  unfold execUpdActivate; simp

theorem execUpdConfirm_kept (p : Port) (s : State) :
    Keeps (execUpdConfirm p s) s := by
  unfold execUpdConfirm; simp

theorem execUpdAbandon_kept (p : Port) (s : State) :
    Keeps (execUpdAbandon p s) s := by
  unfold execUpdAbandon; simp

@[simp] theorem runStandby_kept (s : State) :
    kept (runStandby s) = kept s := by
  unfold runStandby; simp

@[simp] theorem heldFaults_kept (s : State) : kept (heldFaults s) = kept s := by
  unfold heldFaults; dsimp only
  rw [kept_ite, itemReact_kept, kept_foldl _ (by intro a c; split <;> simp)]
  split <;> simp

@[simp] theorem heldReactions_kept (s : State) :
    kept (heldReactions s) = kept s := by
  unfold heldReactions; simp

theorem execActivationPauseEnd_kept (s : State) :
    Keeps (execActivationPauseEnd s) s := by
  unfold execActivationPauseEnd; simp

theorem execActivationTimeout_kept (e : Fin 18) (s : State) :
    Keeps (execActivationTimeout e s) s := by
  unfold execActivationTimeout; simp

theorem execTrialEnd_kept (s : State) :
    Keeps (execTrialEnd s) s := by
  unfold execTrialEnd; simp

@[simp] theorem updStop_lc (s : State) : (updStop s).mram.lc = s.mram.lc := congrArg Kept.lc (updStop_kept s)
@[simp] theorem lcAdvanceOp_grown (b₀ : Kept) (value : Nat) (s : State) (h₀ : Grown b₀ (kept s)) : Grown b₀ (kept (lcAdvanceOp value s).1) := by
  unfold lcAdvanceOp
  split
  · exact h₀
  · have h1 : Grown b₀ (kept (updStop (secureWipe false s))) := by simp [h₀]
    dsimp only
    split
    · have h2 := lockHomeChart_grown b₀ _ h1
      exact ⟨h2.part, h2.pending, h2.mem, Nat.le_succ_of_le h₀.lc, h2.lockLo, h2.lockHi⟩
    · exact ⟨h1.part, h1.pending, h1.mem, Nat.le_succ_of_le h₀.lc, h1.lockLo, h1.lockHi⟩

theorem execLcAdvance_grown (b₀ : Kept) (p : Port) (value : Nat) (s : State) (h₀ : Grown b₀ (kept s)) : Grows b₀ (execLcAdvance p value s) :=
  directWrite_grown _ _ _ _ _ (fun _ h => lcAdvanceOp_grown _ _ _ h) h₀

@[simp] theorem modBoot_kept (f : BootState → BootState) (s : State) :
    kept (modBoot f s) = kept s := by
  unfold modBoot; simp

@[simp] theorem modPwr_kept (f : PwrCtl → PwrCtl) (s : State) :
    kept (modPwr f s) = kept s := by
  unfold modPwr; simp

@[simp] theorem modSk_kept (f : SkState → SkState) (s : State) :
    kept (modSk f s) = kept s := by
  unfold modSk; simp

@[simp] theorem loadCounters_kept (s : State) :
    kept (loadCounters s) = kept s := by
  unfold loadCounters; (repeat' split) <;> simp

@[simp] theorem homeChartSettings_kept (s : State) :
    kept (homeChartSettings s) = kept s := by
  unfold homeChartSettings; simp

@[simp] theorem bootFromRelease_kept (s : State) :
    kept (bootFromRelease s) = kept s := by
  unfold bootFromRelease; simp

theorem execVauxPowerOnReset_grown (b₀ : Kept) (s : State) (h₀ : Grown b₀ (kept s)) :
    Grows b₀ (execVauxPowerOnReset s) := by
  unfold execVauxPowerOnReset; (repeat' split) <;> simp [*]

theorem execPowerOnResetRelease_kept (s : State) :
    Keeps (execPowerOnResetRelease s) s := by
  unfold execPowerOnResetRelease; simp

@[simp] theorem clocksLock_kept (s : State) :
    kept (clocksLock s) = kept s := by
  unfold clocksLock; simp

theorem execStrapSample_kept (a b d : BitVec 5) (s : State) :
    Keeps (execStrapSample a b d s) s := by
  unfold execStrapSample; simp

@[simp] theorem trainLinks_kept (s : State) :
    kept (trainLinks s) = kept s := by
  unfold trainLinks; simp

@[simp] theorem bootRecord_kept (s : State) :
    kept (bootRecord s) = kept s := by
  unfold bootRecord; simp

@[simp] theorem logVote_kept (s : State) :
    kept (logVote s) = kept s := by
  unfold logVote; simp

@[simp] theorem loadAlmanac_kept (s : State) :
    kept (loadAlmanac s) = kept s := by
  unfold loadAlmanac; (repeat' split) <;> simp

@[simp] theorem abandonedWriteBacks_kept (s : State) :
    kept (abandonedWriteBacks s) = kept s := by
  unfold abandonedWriteBacks; simp

@[simp] theorem presentFix_kept (s : State) :
    kept (presentFix s) = kept s := by
  unfold presentFix; simp

@[simp] theorem zoneConfigure_kept (n : Fin 4) (s : State) :
    kept (zoneConfigure n s) = kept s := by
  unfold zoneConfigure; simp

@[simp] theorem channelsConfigure_kept (s : State) :
    kept (channelsConfigure s) = kept s := by
  unfold channelsConfigure; simp

@[simp] theorem railConfigure_kept (r : Fin 28) (s : State) :
    kept (railConfigure r s) = kept s := by
  unfold railConfigure; simp

@[simp] theorem phasesConfigure_kept (s : State) :
    kept (phasesConfigure s) = kept s := by
  unfold phasesConfigure; simp

@[simp] theorem gangForm_kept (g : Fin 4) (s : State) :
    kept (gangForm g s) = kept s := by
  unfold gangForm; simp; (repeat' split) <;> simp

@[simp] theorem gangsConfigure_kept (s : State) :
    kept (gangsConfigure s) = kept s := by
  unfold gangsConfigure; simp

@[simp] theorem itemConfigure_kept (i : Fin 46) (s : State) :
    kept (itemConfigure i s) = kept s := by
  unfold itemConfigure; (repeat' split) <;> simp

@[simp] theorem seqConfigure_kept (s : State) :
    kept (seqConfigure s) = kept s := by
  unfold seqConfigure; simp

@[simp] theorem pathStart_kept (s : State) :
    kept (pathStart s) = kept s := by
  unfold pathStart; simp

@[simp] theorem packStart_kept (s : State) :
    kept (packStart s) = kept s := by
  unfold packStart; simp

@[simp] theorem houseStart_kept (s : State) :
    kept (houseStart s) = kept s := by
  unfold houseStart; simp

@[simp] theorem wdConfigure_kept (s : State) :
    kept (wdConfigure s) = kept s := by
  unfold wdConfigure; simp

@[simp] theorem portsConfigure_kept (s : State) :
    kept (portsConfigure s) = kept s := by
  unfold portsConfigure; simp

@[simp] theorem logStart_kept (s : State) :
    kept (logStart s) = kept s := by
  unfold logStart; simp

@[simp] theorem logSkTimeout_kept (s : State) :
    kept (logSkTimeout s) = kept s := by
  unfold logSkTimeout; simp

@[simp] theorem bootStep6_kept (s : State) :
    kept (bootStep6 s) = kept s := by
  unfold bootStep6; simp

@[simp] theorem runBank_kept (k : Fin 2) (s : State) :
    kept (runBank k s) = kept s := by
  unfold runBank; simp

@[simp] theorem selectBank_kept (s : State) : kept (selectBank s).1 = kept s := by
  unfold selectBank; dsimp only
  cases bankIn s .trial <;> (split <;> simp)

@[simp] theorem bootHalt_kept (s : State) :
    kept (bootHalt s) = kept s := by
  unfold bootHalt; simp

@[simp] theorem bootVote_kept (s : State) :
    kept (bootVote s) = kept s := by
  unfold bootVote; simp

@[simp] theorem hamperZeroed_grown (b₀ : Kept) (s : State) (h₀ : Grown b₀ (kept s)) : Grown b₀ (kept (hamperZeroed s)) := by
  unfold hamperZeroed
  rw [modNv_kept]
  exact ⟨h₀.part, h₀.pending, fun _ => Mem.reset_wf, h₀.lc, h₀.lockLo, h₀.lockHi⟩

@[simp] theorem keyLoad_kept (s : State) :
    kept (keyLoad s) = kept s := by
  unfold keyLoad; simp

@[simp] theorem recordLost_kept (w : Nat) (s : State) :
    kept (recordLost w s) = kept s := by
  unfold recordLost; (repeat' split) <;> simp

@[simp] theorem mramScan_kept (s : State) :
    kept (mramScan s) = kept s := by
  unfold mramScan; simp

@[simp] theorem weakWords_kept (weak : Vector Nat 8) (s : State) :
    kept (weakWords weak s) = kept s := by
  unfold weakWords; simp

theorem execHamperSelfTestEnd_grown (b₀ : Kept) (weak : Vector Nat 8) (failed : Nat) (s : State) (h₀ : Grown b₀ (kept s)) :
    Grows b₀ (execHamperSelfTestEnd weak failed s) := by
  have h₁ : Grown b₀ (kept (hamperZeroed (weakWords weak s))) := hamperZeroed_grown _ _ (by simpa using h₀)
  unfold execHamperSelfTestEnd; dsimp only
  split
  · exact h₀
  · split
    · rw [grows_next, kept_ite]; split <;> simpa using h₁
    · have hb := selectBank_kept (mramScan (keyLoad (hamperZeroed (weakWords weak s))))
      simp only [mramScan_kept, keyLoad_kept] at hb
      split
      · rename_i s2 h
        rw [h] at hb
        simpa [hb] using h₁
      · rename_i s2 h
        rw [h] at hb
        simpa [hb] using h₁

@[simp] theorem skAdopt_kept (r : Fin 28) (s : State) :
    kept (skAdopt r s) = kept s := by
  unfold skAdopt; simp

@[simp] theorem fosAdoptNow_kept (s : State) :
    kept (fosAdoptNow s) = kept s := by
  unfold fosAdoptNow; simp

@[simp] theorem unlessReset_kept (f : State → State) (s : State) (h : ∀ s, kept (f s) = kept s) : kept (unlessReset f s) = kept s := by
  unfold unlessReset; split <;> simp [h]

@[simp] theorem bootStep8_kept (s : State) :
    kept (bootStep8 s) = kept s := by
  unfold bootStep8; simp

@[simp] theorem stageFaultsAgain_kept (s : State) :
    kept (stageFaultsAgain s) = kept s := by
  unfold stageFaultsAgain; simp

theorem execObjectDictionaryReady_kept (units : Nat) (s : State) :
    Keeps (execObjectDictionaryReady units s) s := by
  unfold execObjectDictionaryReady; (repeat' split) <;> simp

theorem execResetPinRecognised_kept (s : State) :
    Keeps (execResetPinRecognised s) s := by
  unfold execResetPinRecognised; simp

@[simp] theorem resetCmdOp_kept (value : Nat) (s : State) :
    kept (resetCmdOp value s).1 = kept s := by
  unfold resetCmdOp; simp

theorem execResetCmd_kept (p : Port) (value : Nat) (s : State) :
    Keeps (execResetCmd p value s) s := by
  unfold execResetCmd; simp

@[simp] theorem endReset_kept (s : State) :
    kept (endReset s) = kept s := by
  unfold endReset; simp

theorem execResetEnd_kept (s : State) :
    Keeps (execResetEnd s) s := by
  unfold execResetEnd; simp

theorem execResetPinRise_kept (s : State) :
    Keeps (execResetPinRise s) s := by
  unfold execResetPinRise; simp

theorem execSkReadoptionDeadline_kept (r : Fin 28) (s : State) :
    Keeps (execSkReadoptionDeadline r s) s := by
  unfold execSkReadoptionDeadline; simp

theorem execLinkRetrained_kept (k : Fin 7) (s : State) :
    Keeps (execLinkRetrained k s) s := by
  unfold execLinkRetrained; simp

theorem execSkHardwareTimeout_kept (k : Fin 7) (s : State) :
    Keeps (execSkHardwareTimeout k s) s := by
  unfold execSkHardwareTimeout; simp

@[simp] theorem runSteps_kept (s : State) : kept (runSteps s) = kept s := by
  unfold runSteps
  rw [kept_foldl]
  intro a x; (repeat' split) <;> simp

@[simp] theorem toRun_kept (s : State) :
    kept (toRun s) = kept s := by
  unfold toRun; simp

@[simp] theorem runOp_kept (s : State) :
    kept (runOp s) = kept s := by
  unfold runOp; simp

@[simp] theorem dozeOp_kept (s : State) :
    kept (dozeOp s) = kept s := by
  unfold dozeOp; simp

@[simp] theorem groupPark_kept (g : Fin 8) (s : State) : kept (groupPark g s) = kept s := by
  unfold groupPark
  split
  · rfl
  · rw [groupTo_kept, itemsUnwait_kept, modGroup_kept]

@[simp] theorem itemPark_kept (i : Fin 46) (s : State) :
    kept (itemPark i s) = kept s := by
  unfold itemPark; simp

@[simp] theorem parkAccept_kept (s : State) :
    kept (parkAccept s) = kept s := by
  unfold parkAccept; simp

@[simp] theorem pwrReqOp_kept (value : Nat) (s : State) :
    kept (pwrReqOp value s).1 = kept s := by
  unfold pwrReqOp; simp; (repeat' split) <;> simp

theorem execPwrStateReqRun_kept (p : Port) (s : State) :
    Keeps (execPwrStateReqRun p s) s := by
  unfold execPwrStateReqRun; simp

theorem execPwrStateReqDoze_kept (p : Port) (s : State) :
    Keeps (execPwrStateReqDoze p s) s := by
  unfold execPwrStateReqDoze; simp

theorem execPwrStateReqPark_kept (p : Port) (s : State) :
    Keeps (execPwrStateReqPark p s) s := by
  unfold execPwrStateReqPark; simp

theorem execDozeEntry_kept (s : State) :
    Keeps (execDozeEntry s) s := by
  unfold execDozeEntry; simp

@[simp] theorem canPark_kept (n : Fin 4) (s : State) :
    kept (canPark n s) = kept s := by
  unfold canPark; simp

theorem execSysStop_kept (s : State) :
    Keeps (execSysStop s) s := by
  unfold execSysStop; simp

@[simp] theorem zinWake_kept (n : Fin 4) (s : State) :
    kept (zinWake n s) = kept s := by
  unfold zinWake; simp; (repeat' split) <;> simp

@[simp] theorem foWake_kept (n : Fin 8) (s : State) :
    kept (foWake n s) = kept s := by
  unfold foWake; simp

@[simp] theorem wakeEvents_kept (fired : Nat) (s : State) :
    kept (wakeEvents fired s) = kept s := by
  unfold wakeEvents; simp

@[simp] theorem restWake_kept (s : State) :
    kept (restWake s) = kept s := by
  unfold restWake; simp

@[simp] theorem wdWake_kept (s : State) :
    kept (wdWake s) = kept s := by
  unfold wdWake; simp

@[simp] theorem wakeNow_kept (s : State) :
    kept (wakeNow s) = kept s := by
  unfold wakeNow; simp

@[simp] theorem fireAll_kept (sources : Nat) (s : State) :
    kept (fireAll sources s) = kept s := by
  unfold fireAll; simp

theorem execWake_kept (sources : Nat) (s : State) :
    Keeps (execWake sources s) s := by
  unfold execWake; simp

theorem execWakeTimerExpire_kept (s : State) :
    Keeps (execWakeTimerExpire s) s := by
  unfold execWakeTimerExpire; simp

theorem execOldChartWakeLatch_kept (source : Fin 12) (s : State) :
    Keeps (execOldChartWakeLatch source s) s := by
  unfold execOldChartWakeLatch; simp

theorem execObjectDictionaryAnswering_kept (s : State) :
    Keeps (execObjectDictionaryAnswering s) s := by
  unfold execObjectDictionaryAnswering; simp

theorem execPackageFaultLineAssert_kept (s : State) :
    Keeps (execPackageFaultLineAssert s) s := by
  unfold execPackageFaultLineAssert; simp

@[simp] theorem hkBoundary_kept (s : State) :
    kept (hkBoundary s) = kept s := by
  unfold hkBoundary; simp

@[simp] theorem canBoundary_kept (n : Fin 4) (s : State) :
    kept (canBoundary n s) = kept s := by
  unfold canBoundary; simp

@[simp] theorem railBoundary_kept (r : Fin 28) (s : State) :
    kept (railBoundary r s) = kept s := by
  unfold railBoundary; simp

@[simp] theorem reportBoundary_kept (r : Fin 64) (s : State) :
    kept (reportBoundary r s) = kept s := by
  unfold reportBoundary; simp

@[simp] theorem groupBoundary_kept (g : Fin 8) (s : State) :
    kept (groupBoundary g s) = kept s := by
  unfold groupBoundary; simp

@[simp] theorem trimBoundary_kept (r : Fin 28) (s : State) :
    kept (trimBoundary r s) = kept s := by
  unfold trimBoundary; simp

theorem execDisableBoundaryReached_kept (f : DisableFn) (s : State) :
    Keeps (execDisableBoundaryReached f s) s := by
  unfold execDisableBoundaryReached; (repeat' split) <;> simp

theorem execEventSourceEdge_kept (slot : Fin 128) (s : State) :
    Keeps (execEventSourceEdge slot s) s := by
  unfold execEventSourceEdge; simp

theorem execEventLevelChange_kept (slot : Fin 128) (holds : Bool) (s : State) :
    Keeps (execEventLevelChange slot holds s) s := by
  unfold execEventLevelChange; simp

@[simp] theorem evcRouteOp_kept (slot : Fin 128) (value : Nat) (s : State) :
    kept (evcRouteOp slot value s).1 = kept s := by
  unfold evcRouteOp; simp

theorem execEvcRouteWrite_kept (p : Port) (slot : Fin 128) (value : Nat) (s : State) :
    Keeps (execEvcRouteWrite p slot value s) s := by
  unfold execEvcRouteWrite; simp

@[simp] theorem evcGdisOp_kept (value : Nat) (s : State) :
    kept (evcGdisOp value s).1 = kept s := by
  unfold evcGdisOp; simp

theorem execEvcGdisWrite_kept (p : Port) (value : Nat) (s : State) :
    Keeps (execEvcGdisWrite p value s) s := by
  unfold execEvcGdisWrite; simp

end Sys2Proof.Laws
end

