-- ==== Sys2Proof/Laws/KeptPort.lean ====
section
/-! SUPPORT. What is kept by the ports and the tick. -/

namespace Sys2Proof.Laws

open Sys2Proof.Machine

@[simp] theorem regroup_kept (b a : Option (Fin 8)) (s t : State) (h : kept t = kept s) : kept (regroup b a s t).1 = kept s := by
  unfold regroup; split <;> simp [h]

@[simp] theorem grpCmdOp_kept (g : Fin 8) (v : Nat) (s : State) :
    kept (grpCmdOp g v s).1 = kept s := by
  unfold grpCmdOp; (repeat' split) <;> simp

@[simp] theorem balEnOp_kept (r : Fin 28) (v : Nat) (s : State) :
    kept (balEnOp r v s) = kept s := by
  unfold balEnOp; simp

@[simp] theorem gangedWrite_kept (r : Fin 28) (t : State) :
    kept (gangedWrite r t) = kept t := by
  unfold gangedWrite; (repeat' split) <;> simp

@[simp] theorem canEnOp_kept (p : Port) (n : Fin 4) (v : Nat) (s : State) :
    kept (canEnOp p n v s).1 = kept s := by
  unfold canEnOp; simp; (repeat' split) <;> simp

@[simp] theorem boffRecOp_kept (p : Port) (n : Fin 4) (v : Nat) (s : State) :
    kept (boffRecOp p n v s).1 = kept s := by
  unfold boffRecOp; (repeat' split) <;> simp

@[simp] theorem rptModeOp_kept (r : Fin 64) (v : Nat) (s : State) :
    kept (rptModeOp r v s).1 = kept s := by
  unfold rptModeOp; (repeat' split) <;> simp

@[simp] theorem dirStepOp_kept (p : Port) (v : Nat) (s : State) :
    kept (dirStepOp p v s).1 = kept s := by
  unfold dirStepOp; simp

@[simp] theorem plain_kept (idx sub v : Nat) (s : State) :
    kept (plain idx sub v s).1 = kept s := by
  unfold plain; simp

theorem onFin_kept (n i : Nat) (s : State) (f : Fin n → State × Ack) (h : ∀ k, kept (f k).1 = kept s) : kept (onFin n i s f).1 = kept s := by
  unfold onFin; split <;> simp [h]
theorem onFin_grown (b₀ : Kept) (n i : Nat) (s : State) (f : Fin n → State × Ack) (h : ∀ k, Grown b₀ (kept (f k).1))
    (h₀ : Grown b₀ (kept s)) : Grown b₀ (kept (onFin n i s f).1) := by
  unfold onFin; split <;> simp [h, h₀]

@[simp] theorem ownSystem_kept (p : Port) (idx sub v : Nat) (s : State) :
    kept (ownSystem p idx sub v s).1 = kept s := by
  unfold ownSystem; (repeat' split) <;> simp

@[simp] theorem ownZone_kept (idx sub v : Nat) (s : State) : kept (ownZone idx sub v s).1 = kept s := by
  unfold ownZone
  (repeat' first | split | ((with_reducible apply onFin_kept); intro _; try dsimp only)) <;> try simp

@[simp] theorem ownSeq_kept (idx sub v : Nat) (s : State) : kept (ownSeq idx sub v s).1 = kept s := by
  unfold ownSeq
  dsimp only
  split
  · refine onFin_kept _ _ _ _ fun i => ?_
    split
    · exact regroup_kept _ _ _ _ (store_kept _ _ _)
    · split
      · exact regroup_kept _ _ _ _ (store_kept _ _ _)
      · dsimp only
        rw [kept_ite, enPinWritten_kept, store_kept, ite_self]
  · split
    · split
      · exact regroup_kept _ _ _ _ (store_kept _ _ _)
      · exact store_kept _ _ _
    · split
      · split
        · rw [apply_ite Prod.fst, kept_ite]; simp only [store_kept, ite_self]
        · exact Eq.refl _
      · split
        · refine onFin_kept _ _ _ _ fun n => ?_
          split
          · rw [kept_ite, forceRsto_kept, ite_self]
          · rw [kept_ite, rstoRefresh_kept, store_kept, ite_self]
        · refine onFin_kept _ _ _ _ fun g => ?_
          split
          · exact regroup_kept _ _ _ _ (by rw [modGroup_kept, store_kept])
          · split
            · exact grpCmdOp_kept _ _ _
            · exact store_kept _ _ _

@[simp] theorem ownLantern_kept (idx sub v : Nat) (s : State) : kept (ownLantern idx sub v s).1 = kept s := by
  unfold ownLantern
  (repeat' first | split | ((with_reducible apply onFin_kept); intro _; try dsimp only)) <;> try simp

@[simp] theorem ownHouse_kept (p : Port) (idx sub v : Nat) (s : State) : kept (ownHouse p idx sub v s).1 = kept s := by
  unfold ownHouse
  split
  · dsimp only; split
    · dsimp only; rw [kept_ite]; split <;> simp
    · simp
  · simp
  · simp
  · simp
  · simp
  · split <;> simp
  · split
    · rfl
    · split <;> simp
  · simp
  · simp

@[simp] theorem ownHost_grown (b₀ : Kept) (p : Port) (idx sub v : Nat) (s : State) (h₀ : Grown b₀ (kept s)) :
    Grown b₀ (kept (ownHost p idx sub v s).1) := by
  unfold ownHost
  (repeat' first | split | ((with_reducible refine onFin_grown _ _ _ _ _ ?_ h₀); intro _; try dsimp only)) <;> simp [h₀]

@[simp] theorem ownRail_kept (idx sub v : Nat) (s : State) : kept (ownRail idx sub v s).1 = kept s := by
  unfold ownRail
  (repeat' first | split | ((with_reducible apply onFin_kept); intro _; try dsimp only)) <;> try simp

@[simp] theorem ownPhase_kept (idx sub v : Nat) (s : State) : kept (ownPhase idx sub v s).1 = kept s := by
  unfold ownPhase
  (repeat' first | split | ((with_reducible apply onFin_kept); intro _; try dsimp only)) <;> try simp

@[simp] theorem ownStore_grown (b₀ : Kept) (idx sub v : Nat) (s : State) (h₀ : Grown b₀ (kept s)) : Grown b₀ (kept (ownStore idx sub v s).1) := by
  unfold ownStore
  split <;> simp [h₀]

@[simp] theorem ownDomain_kept (p : Port) (idx sub : Nat) (bytes : List Byte) (s : State) :
    kept (ownDomain p idx sub bytes s).1 = kept s := by
  unfold ownDomain; (repeat' split) <;> simp

@[simp] theorem dieWrite_kept (idx sub : Nat) (bytes : List Byte) (out : State × Ack) :
    kept (dieWrite idx sub bytes out).1 = kept out.1 := by
  unfold dieWrite; split <;> simp

@[simp] theorem ownerWrite_grown (b₀ : Kept) (p : Port) (idx sub : Nat) (bytes : List Byte) (s : State) (h₀ : Grown b₀ (kept s)) :
    Grown b₀ (kept (ownerWrite p idx sub bytes s).1) := by
  unfold ownerWrite; dsimp only
  (repeat' split) <;> first
    | (rw [ownDomain_kept]; exact h₀) | (rw [ownSystem_kept]; exact h₀) | (rw [ownZone_kept]; exact h₀) | (rw [ownSeq_kept]; exact h₀)
    | (rw [ownLantern_kept]; exact h₀) | with_reducible exact ownStore_grown _ _ _ _ _ h₀ | (rw [ownHouse_kept]; exact h₀)
    | with_reducible exact ownHost_grown _ _ _ _ _ _ h₀ | (rw [dieWrite_kept, ownRail_kept]; exact h₀) | (rw [dieWrite_kept, ownPhase_kept]; exact h₀)
    | (rw [plain_kept]; exact h₀)

@[simp] theorem modXb_kept (f : XbState → XbState) (s : State) :
    kept (modXb f s) = kept s := by
  unfold modXb; simp

@[simp] theorem xbAborted_kept (b : Bearing) (cause : Port) (second code : Nat) (s : State) :
    kept (xbAborted b cause second code s) = kept s := by
  unfold xbAborted; simp

@[simp] theorem bearingHold_kept (b : Bearing) (s : State) :
    kept (bearingHold b s).1 = kept s := by
  unfold bearingHold; (repeat' split) <;> simp

@[simp] theorem bearing_grown (b₀ : Kept) (b : Bearing) (s : State) (h₀ : Grown b₀ (kept s)) : Grown b₀ (kept (bearing b s).1) := by
  unfold bearing
  split
  · simp [h₀]
  · dsimp only
    split
    · simp [h₀]
    · split
      · simp only [completeBearing_kept, modXb_kept]
        exact ownerWrite_grown _ _ _ _ _ _ (by simpa using h₀)
      · simp [h₀]

@[simp] theorem writeRequest_grown (b₀ : Kept) (p : Port) (tag idx sub : Nat) (bytes : List Byte) (s : State) (h₀ : Grown b₀ (kept s)) :
    Grown b₀ (kept (writeRequest p tag idx sub bytes s).1) := by
  unfold writeRequest; (repeat' split) <;> simp [*]

theorem execXbearTimeout_kept (s : State) :
    Keeps (execXbearTimeout s) s := by
  unfold execXbearTimeout; (repeat' split) <;> simp

@[simp] theorem portWrite_grown (b₀ : Kept) (p : Port) (idx sub : Nat) (bytes : List Byte) (s : State) (h₀ : Grown b₀ (kept s)) :
    Grown b₀ (kept (portWrite p idx sub bytes s)) := by
  unfold portWrite; (repeat' split) <;> simp [*]

theorem execObjectWrite_grown (b₀ : Kept) (p : Port) (idx sub : Nat) (bytes : List Byte) (s : State) (h₀ : Grown b₀ (kept s)) :
    Grows b₀ (execObjectWrite p idx sub bytes s) := by
  unfold execObjectWrite; simp [*]

theorem execOdDirStep_kept (p : Port) (value : Nat) (s : State) :
    Keeps (execOdDirStep p value s) s := by
  unfold execOdDirStep; simp

theorem execThrottleDisable_grown (b₀ : Kept) (p : Port) (s : State) (h₀ : Grown b₀ (kept s)) :
    Grows b₀ (execThrottleDisable p s) := by
  unfold execThrottleDisable; simp [*]

theorem kept_of_ite_some {c : Prop} [Decidable c] {a : State} {s t : State} (ha : kept a = kept s) (h : (if c then some a else none) = some t) :
    kept t = kept s := by
  by_cases hc : c
  · rw [if_pos hc] at h; injection h with h; rw [← h, ha]
  · rw [if_neg hc] at h; cases h
theorem twServe_kept {n : Fin 2} {s t : State} (h : twServe n s = some t) : kept t = kept s := by
  unfold twServe at h
  split at h
  · cases h
  · split at h
    · exact kept_of_ite_some (by rw [wakeNow_kept, wakeOn_kept]) h
    · injection h with h; rw [← h, wakeOn_kept]

@[simp] theorem twErr_kept (n : Fin 2) (b : Nat) (s : State) :
    kept (twErr n b s) = kept s := by
  unfold twErr; simp

theorem execTwReadAddress_kept (n : Fin 2) (len : Nat) (s : State) : Keeps (execTwReadAddress n len s) s := by
  unfold execTwReadAddress
  split
  · rfl
  · rename_i t h
    dsimp only
    rw [keeps_next, useFree_kept, modTw_kept, twServe_kept h]

theorem execTwWritePointer_kept (n : Fin 2) (ptr : Byte) (s : State) : Keeps (execTwWritePointer n ptr s) s := by
  unfold execTwWritePointer
  split
  · rfl
  · rename_i t h
    rw [keeps_next, modTw_kept, twServe_kept h]

theorem execClaim_kept (n : Fin 2) (s : State) :
    Keeps (execClaim n s) s := by
  unfold execClaim; dsimp only; (repeat' split) <;> simp

theorem execTwErrRead_kept (n : Fin 2) (s : State) :
    Keeps (execTwErrRead n s) s := by
  unfold execTwErrRead; simp

@[simp] theorem tunStart_kept (n : Fin 2) (a : Ack) (s : State) :
    kept (tunStart n a s) = kept s := by
  unfold tunStart; simp

@[simp] theorem tunWriteOut_grown (b₀ : Kept) (n : Fin 2) (last : Bool) (s : State) (h₀ : Grown b₀ (kept s)) :
    Grown b₀ (kept (tunWriteOut n last s).1) := by
  unfold tunWriteOut
  extract_lets t p d drop
  have hd : ∀ s, kept (drop s) = kept s := fun s => modTun_kept _ _ _
  split
  · exact h₀
  · (repeat' split) <;> simp [hd, h₀]

@[simp] theorem tunRead_kept (n : Fin 2) (s : State) :
    kept (tunRead n s).1 = kept s := by
  unfold tunRead; (repeat' split) <;> simp

@[simp] theorem tunWrite_grown (b₀ : Kept) (n : Fin 2) (last : Bool) (s : State) (h₀ : Grown b₀ (kept s)) :
    Grown b₀ (kept (tunWrite n last s).1) := by
  unfold tunWrite; (repeat' split) <;> simp [*]

@[simp] theorem windowWrite_kept (n : Fin 2) (ofs : Nat) (s : State) (f : State → State × WrResult) (h : ∀ s, kept (f s).1 = kept s) :
    kept (windowWrite n ofs s f) = kept s := by
  unfold windowWrite; split <;> simp [h]
@[simp] theorem windowWrite_grown (b₀ : Kept) (n : Fin 2) (ofs : Nat) (s : State) (f : State → State × WrResult)
    (h : ∀ s, Grown b₀ (kept s) → Grown b₀ (kept (f s).1)) (h₀ : Grown b₀ (kept s)) : Grown b₀ (kept (windowWrite n ofs s f)) := by
  unfold windowWrite; split <;> simp [h, h₀]

theorem execTunCmdRead_kept (n : Fin 2) (s : State) :
    Keeps (execTunCmdRead n s) s := by
  unfold execTunCmdRead; simp

theorem execTunCmdWrite_grown (b₀ : Kept) (n : Fin 2) (last : Bool) (s : State) (h₀ : Grown b₀ (kept s)) : Grows b₀ (execTunCmdWrite n last s) :=
  windowWrite_grown _ _ _ _ _ (fun _ h => tunWrite_grown _ _ _ _ h) h₀

theorem execTunnelDone_kept (n : Fin 2) (s : State) :
    Keeps (execTunnelDone n s) s := by
  unfold execTunnelDone; dsimp only; (repeat' split) <;> simp

@[simp] theorem completeOp_kept (n : Fin 2) (src : Nat) (s : State) :
    kept (completeOp n src s).1 = kept s := by
  unfold completeOp; (repeat' split) <;> simp

@[simp] theorem windowVset_kept (n : Fin 2) (j : Fin 8) (mv : Nat) (s : State) : kept (windowVset n j mv s).1 = kept s := by
  unfold windowVset
  split
  · rfl
  · split
    · rfl
    · rename_i r _
      have h := vsetCommand_kept r mv (3 + n) s
      split <;> (rename_i he; rw [he] at h; exact h)

@[simp] theorem windowFc_kept (n : Fin 2) (j : Fin 8) (v : Nat) (s : State) :
    kept (windowFc n j v s).1 = kept s := by
  unfold windowFc; (repeat' split) <;> simp

@[simp] theorem regEffect_grown (b₀ : Kept) (n : Fin 2) (g : WinReg) (v : Nat) (s : State) (h₀ : Grown b₀ (kept s)) :
    Grown b₀ (kept (regEffect n g v s).1) := by
  unfold regEffect; (repeat' split) <;> simp [*]

@[simp] theorem regBytes_grown (b₀ : Kept) (n : Fin 2) (g : WinRow) (ofs : Nat) (bytes : List Byte) (s : State) (h₀ : Grown b₀ (kept s)) :
    Grown b₀ (kept (regBytes n g ofs bytes s)) := by
  unfold regBytes; (repeat' split) <;> simp [*]

@[simp] theorem writeBytes_grown (b₀ : Kept) (p : Fin 2) (n o : Nat) (l : List Byte) (s : State) (h₀ : Grown b₀ (kept s)) :
    Grown b₀ (kept (writeBytes p n o l s)) := by
  induction n generalizing o l s with
  | zero => exact h₀
  | succ n ih =>
    cases l with
    | nil => exact h₀
    | cons a l => unfold writeBytes; dsimp only; exact ih _ _ _ (regBytes_grown _ _ _ _ _ _ h₀)

@[simp] theorem pecWrite_grown (b₀ : Kept) (n : Fin 2) (ofs : Nat) (bytes : List Byte) (pec : Nat) (s : State) (h₀ : Grown b₀ (kept s)) :
    Grown b₀ (kept (pecWrite n ofs bytes pec s)) := by
  unfold pecWrite
  extract_lets g size
  split
  · rw [wrSet_kept]; exact h₀
  · split
    · rw [wrSet_kept]; exact h₀
    · split
      · rw [twErr_kept, wrSet_kept, modTw_kept]; exact h₀
      · exact regBytes_grown _ _ _ _ _ _ h₀

theorem execRegisterWrite_grown (b₀ : Kept) (n : Fin 2) (offset : Nat) (bytes : List Byte) (pec : Nat) (s : State) (h₀ : Grown b₀ (kept s)) :
    Grows b₀ (execRegisterWrite n offset bytes pec s) := by
  unfold execRegisterWrite
  split
  · exact h₀
  · dsimp only
    rw [grows_next, modTw_kept]
    split
    · exact pecWrite_grown _ _ _ _ _ _ h₀
    · exact writeBytes_grown _ _ _ _ _ _ h₀

theorem execComplete_kept (n : Fin 2) (src : Nat) (s : State) :
    Keeps (execComplete n src s) s := by
  unfold execComplete; simp

theorem execVsetWindowWrite_kept (h : Fin 2) (j : Fin 8) (mv : Nat) (s : State) :
    Keeps (execVsetWindowWrite h j mv s) s := by
  unfold execVsetWindowWrite; simp

theorem execFcWindowWrite_kept (h : Fin 2) (j : Fin 8) (value : Nat) (s : State) :
    Keeps (execFcWindowWrite h j value s) s := by
  unfold execFcWindowWrite; simp

@[simp] theorem twEnd_kept (n : Fin 2) (s : State) :
    kept (twEnd n s) = kept s := by
  unfold twEnd; simp

theorem execTwBusIdle_kept (n : Fin 2) (s : State) :
    Keeps (execTwBusIdle n s) s := by
  unfold execTwBusIdle; simp

theorem execTwStartInTransfer_kept (n : Fin 2) (s : State) :
    Keeps (execTwStartInTransfer n s) s := by
  unfold execTwStartInTransfer; simp

theorem execTwNotify_kept (n : Fin 2) (s : State) :
    Keeps (execTwNotify n s) s := by
  unfold execTwNotify; simp

theorem execTwNotifyRepeat_kept (n : Fin 2) (s : State) :
    Keeps (execTwNotifyRepeat n s) s := by
  unfold execTwNotifyRepeat; simp

theorem execTwNotifyNack_kept (n : Fin 2) (s : State) :
    Keeps (execTwNotifyNack n s) s := by
  unfold execTwNotifyNack; simp

theorem execTwArbitrationLost_kept (n : Fin 2) (s : State) :
    Keeps (execTwArbitrationLost n s) s := by
  unfold execTwArbitrationLost; simp

@[simp] theorem twLog_kept (code : FaultCode) (n : Fin 2) (use : Nat) (s : State) :
    kept (twLog code n use s) = kept s := by
  unfold twLog; simp

theorem execTwControllerBusError_kept (n : Fin 2) (s : State) :
    Keeps (execTwControllerBusError n s) s := by
  unfold execTwControllerBusError; simp

theorem execTwLineStuck_kept (n : Fin 2) (sda : Bool) (s : State) :
    Keeps (execTwLineStuck n sda s) s := by
  unfold execTwLineStuck; simp

theorem execTwWedged_kept (n : Fin 2) (s : State) :
    Keeps (execTwWedged n s) s := by
  unfold execTwWedged; simp

theorem execCanPortStart_kept (n : Fin 4) (s : State) :
    Keeps (execCanPortStart n s) s := by
  unfold execCanPortStart; simp

theorem execCanEnClear_kept (p : Port) (n : Fin 4) (s : State) :
    Keeps (execCanEnClear p n s) s := by
  unfold execCanEnClear; simp

theorem execCanBusOff_kept (n : Fin 4) (s : State) :
    Keeps (execCanBusOff n s) s := by
  unfold execCanBusOff; simp

theorem execCanBoffRec_kept (p : Port) (n : Fin 4) (value : Nat) (s : State) :
    Keeps (execCanBoffRec p n value s) s := by
  unfold execCanBoffRec; simp

theorem execCanRecoveryDone_kept (n : Fin 4) (s : State) :
    Keeps (execCanRecoveryDone n s) s := by
  unfold execCanRecoveryDone; simp

theorem execCanErrorStateChange_kept (n : Fin 4) (tec rec : Nat) (s : State) :
    Keeps (execCanErrorStateChange n tec rec s) s := by
  unfold execCanErrorStateChange; simp

@[simp] theorem serveRead_kept (n : Fin 4) (tag idx sub : Nat) (s : State) :
    kept (serveRead n tag idx sub s) = kept s := by
  unfold serveRead; simp

@[simp] theorem writeExpedited_grown (b₀ : Kept) (p : Port) (tag idx sub : Nat) (bytes : List Byte) (s : State) (h₀ : Grown b₀ (kept s)) :
    Grown b₀ (kept (writeExpedited p tag idx sub bytes s).1) := by
  unfold writeExpedited; (repeat' split) <;> simp [*]

@[simp] theorem serveWrite_grown (b₀ : Kept) (n : Fin 4) (tag idx sub : Nat) (bytes : List Byte) (s : State) (h₀ : Grown b₀ (kept s)) :
    Grown b₀ (kept (serveWrite n tag idx sub bytes s)) := by
  unfold serveWrite; simp [*]

@[simp] theorem serveAbort_kept (n : Fin 4) (c : AbortCode) (cmd tag idx sub : Nat) (s : State) :
    kept (serveAbort n c cmd tag idx sub s) = kept s := by
  unfold serveAbort; simp

@[simp] theorem serveWrongLen_kept (n : Fin 4) (cmd tag idx sub : Nat) (s : State) :
    kept (serveWrongLen n cmd tag idx sub s) = kept s := by
  unfold serveWrongLen; simp

@[simp] theorem abortTransfer_kept (n : Fin 4) (c : AbortCode) (s : State) :
    kept (abortTransfer n c s) = kept s := by
  unfold abortTransfer; (repeat' split) <;> simp

@[simp] theorem blockWriteCheck_kept (p : Port) (idx sub total : Nat) (s : State) :
    kept (blockWriteCheck p idx sub total s).1 = kept s := by
  unfold blockWriteCheck; (repeat' split) <;> simp

@[simp] theorem serveBlockWriteInit_kept (n : Fin 4) (tag idx sub total : Nat) (s : State) :
    kept (serveBlockWriteInit n tag idx sub total s) = kept s := by
  unfold serveBlockWriteInit; simp; (repeat' split) <;> simp

@[simp] theorem blockWritten_grown (b₀ : Kept) (p : Port) (tag idx sub : Nat) (got : List Byte) (s : State) (h₀ : Grown b₀ (kept s)) :
    Grown b₀ (kept (blockWritten p tag idx sub got s).1) := by
  unfold blockWritten; simp [*]

@[simp] theorem blockEnd_grown (b₀ : Kept) (n : Fin 4) (tag idx sub total block next : Nat) (last : Bool) (got : List Byte) (s : State) (h₀ : Grown b₀ (kept s)) :
    Grown b₀ (kept (blockEnd n tag idx sub total block next last got s)) := by
  unfold blockEnd; dsimp only; (repeat' split) <;> simp_all

@[simp] theorem serveSegment_grown (b₀ : Kept) (n : Fin 4) (tag seq flags : Nat) (bytes : List Byte) (s : State) (h₀ : Grown b₀ (kept s)) :
    Grown b₀ (kept (serveSegment n tag seq flags bytes s)) := by
  unfold serveSegment; dsimp only; (repeat' split) <;> simp_all

@[simp] theorem serveBlockReadInit_kept (n : Fin 4) (tag idx sub : Nat) (s : State) : kept (serveBlockReadInit n tag idx sub s) = kept s := by
  unfold serveBlockReadInit
  extract_lets w
  have hr := readRequest_kept (portOfCan n) idx sub (abortTransfer n .transferReplaced s)
  rw [abortTransfer_kept] at hr
  split
  · rename_i t b he
    rw [he] at hr
    simpa using hr
  · rename_i t a _ he
    rw [he] at hr
    simpa using hr

@[simp] theorem serveBlockRequest_kept (n : Fin 4) (tag block : Nat) (s : State) :
    kept (serveBlockRequest n tag block s) = kept s := by
  unfold serveBlockRequest; (repeat' split) <;> simp

theorem execTransferTimeout_kept (n : Fin 4) (s : State) :
    Keeps (execTransferTimeout n s) s := by
  unfold execTransferTimeout; simp

@[simp] theorem serveReq_grown (b₀ : Kept) (n : Fin 4) (q : NetReq) (s : State) (h₀ : Grown b₀ (kept s)) :
    Grown b₀ (kept (serveReq n q s)) := by
  unfold serveReq; (repeat' split) <;> simp [*]

@[simp] theorem served_grown (b₀ : Kept) (n : Fin 4) (q : NetReq) (s : State) (h₀ : Grown b₀ (kept s)) : Grown b₀ (kept (served n q s)) := by
  unfold served; dsimp only
  (repeat' split) <;> first
    | exact h₀ | (rw [setAck_kept, modCan_kept, modCan_kept]; exact h₀) | exact serveReq_grown _ _ _ _ (by rw [modCan_kept]; exact h₀)
    | (rw [modCan_kept]; exact h₀)

@[simp] theorem netServe_grown (b₀ : Kept) (s : State) (h₀ : Grown b₀ (kept s)) :
    Grown b₀ (kept (netServe s)) := by
  unfold netServe; (repeat' split) <;> simp [*]

theorem execRead_grown (b₀ : Kept) (n : Fin 4) (tag idx sub : Nat) (s : State) (h₀ : Grown b₀ (kept s)) : Grows b₀ (execRead n tag idx sub s) :=
  served_grown _ _ _ _ h₀

theorem execWrite_grown (b₀ : Kept) (n : Fin 4) (tag idx sub : Nat) (bytes : List Byte) (s : State) (h₀ : Grown b₀ (kept s)) : Grows b₀ (execWrite n tag idx sub bytes s) :=
  served_grown _ _ _ _ h₀

theorem execBlockWriteInit_grown (b₀ : Kept) (n : Fin 4) (tag idx sub total : Nat) (s : State) (h₀ : Grown b₀ (kept s)) : Grows b₀ (execBlockWriteInit n tag idx sub total s) :=
  served_grown _ _ _ _ h₀

theorem execSegment_grown (b₀ : Kept) (n : Fin 4) (tag seq flags : Nat) (bytes : List Byte) (s : State) (h₀ : Grown b₀ (kept s)) : Grows b₀ (execSegment n tag seq flags bytes s) :=
  served_grown _ _ _ _ h₀

theorem execBlockReadInit_grown (b₀ : Kept) (n : Fin 4) (tag idx sub : Nat) (s : State) (h₀ : Grown b₀ (kept s)) : Grows b₀ (execBlockReadInit n tag idx sub s) :=
  served_grown _ _ _ _ h₀

theorem execBlockRequest_grown (b₀ : Kept) (n : Fin 4) (tag block : Nat) (s : State) (h₀ : Grown b₀ (kept s)) : Grows b₀ (execBlockRequest n tag block s) :=
  served_grown _ _ _ _ h₀

theorem execMalformed_grown (b₀ : Kept) (n : Fin 4) (classical : Bool) (bytes : List Byte) (s : State) (h₀ : Grown b₀ (kept s)) :
    Grows b₀ (execMalformed n classical bytes s) := by
  unfold execMalformed; (repeat' split) <;> simp [*]

theorem execHeartbeat_kept (n : Fin 4) (s : State) :
    Keeps (execHeartbeat n s) s := by
  unfold execHeartbeat; simp

theorem execPeerHeartbeat_kept (n : Fin 4) (classical : Bool) (s : State) :
    Keeps (execPeerHeartbeat n classical s) s := by
  unfold execPeerHeartbeat; simp

theorem execPeerHeartbeatTimeout_kept (n : Fin 4) (s : State) :
    Keeps (execPeerHeartbeatTimeout n s) s := by
  unfold execPeerHeartbeatTimeout; simp

@[simp] theorem rptSend_kept (r : Fin 64) (onChange : Bool) (s : State) :
    kept (rptSend r onChange s) = kept s := by
  unfold rptSend; simp

theorem execReportPeriod_kept (r : Fin 64) (s : State) :
    Keeps (execReportPeriod r s) s := by
  unfold execReportPeriod; simp

theorem execReportChangeSample_kept (r : Fin 64) (s : State) :
    Keeps (execReportChangeSample r s) s := by
  unfold execReportChangeSample; simp

theorem execRptModeWrite_kept (p : Port) (r : Fin 64) (value : Nat) (s : State) :
    Keeps (execRptModeWrite p r value s) s := by
  unfold execRptModeWrite; simp

@[simp] theorem aonTick_kept (s : State) :
    kept (aonTick s) = kept s := by
  unfold aonTick; simp

theorem aonAcc_kept (s : State) (n : Nat) : kept { s with aonAcc := n } = kept s := rfl
@[simp] theorem aonMicros_kept (s : State) : kept (aonMicros s) = kept s := by
  unfold aonMicros
  generalize s.aonAcc + 32768 - 1000000 = a
  generalize s.aonAcc + 32768 = b
  split
  · rw [aonTick_kept, aonAcc_kept]
  · rw [aonAcc_kept]

@[simp] theorem canFrameOut_kept (n : Fin 4) (s : State) :
    kept (canFrameOut n s) = kept s := by
  unfold canFrameOut; simp

@[simp] theorem nakOut_kept (k : Fin 7) (e : LinkEndSel) (s : State) : kept (nakOut k e s) = kept s := by
  have h : ∀ (a : State) (f : LinkFrame), kept (match f.payload with
      | .nak q => nakArrives k (otherEnd e) q a
      | _ => a) = kept a := by intro a f; cases f.payload <;> simp
  exact kept_foldl _ h _ _

@[simp] theorem idleOut_kept (k : Fin 7) (e : LinkEndSel) (s : State) :
    kept (idleOut k e s) = kept s := by
  unfold idleOut; simp

@[simp] theorem linkOut_grown (b₀ : Kept) (k : Fin 7) (s : State) (h₀ : Grown b₀ (kept s)) : Grown b₀ (kept (linkOut k s)) := by
  unfold linkOut; dsimp only
  split
  · rw [idleOut_kept, idleOut_kept]
    exact telemetryPump_grown _ _ _ (by simpa using h₀)
  · exact h₀

@[simp] theorem readsLate_kept (k : Fin 7) (s : State) :
    kept (readsLate k s) = kept s := by
  unfold readsLate; simp

@[simp] theorem trialSecond_kept (due : Bool) (s : State) :
    kept (trialSecond due s) = kept s := by
  unfold trialSecond; simp

@[simp] theorem enginesMicro_kept (due : Bool) (s : State) :
    kept (enginesMicro due s) = kept s := by
  unfold enginesMicro; simp

theorem devTime_kept (s : State) (n : Nat) : kept { s with devTime := n } = kept s := rfl
@[simp] theorem tickClocks_kept (s : State) : kept (tickClocks s) = kept s := by
  unfold tickClocks
  rw [enginesMicro_kept, trialSecond_kept, aonMicros_kept, devTime_kept]

@[simp] theorem tick_grown (b₀ : Kept) (s : State) (h₀ : Grown b₀ (kept s)) : Grown b₀ (kept (tick s)) := by
  have h₁ : Grown b₀ (kept ((allFin 4).foldl (fun a n => canFrameOut n a) (tickClocks s))) := by
    rw [kept_foldl _ (by simp), tickClocks_kept]; exact h₀
  unfold tick; dsimp only
  split
  · exact h₀
  · split
    · exact netServe_grown _ _ (grown_foldl _ _ (fun a k h => by rw [readsLate_kept]; exact linkOut_grown _ _ _ h) _ _ h₁)
    · exact h₁

end Sys2Proof.Laws
end

