-- ==== Sys2Proof/Laws/PerInstr.lean ====
section
/-! SUPPORT. The parts nest (R1, R5): a command that is well-formed for a part is well-formed for every part with at least its
rail dies. -/

namespace Sys2Proof.Laws.Parts

open Machine

/-- Well-formed for a part, hence for a larger one. -/
def Statement (i : Instr) : Prop := ∀ p q : Part, p.dies ≤ q.dies → i.wf p = true → i.wf q = true

theorem hasDie_mono {p q : Part} (h : p.dies ≤ q.dies) (k : Fin 7) : p.hasDie k = true → q.hasDie k = true := by
  simp only [Part.hasDie, decide_eq_true_eq]; omega

theorem hasRail_mono {p q : Part} (h : p.dies ≤ q.dies) (r : Fin 28) : p.hasRail r = true → q.hasRail r = true := by
  simp only [Part.hasRail, decide_eq_true_eq]; omega

theorem hasPhase_mono {p q : Part} (h : p.dies ≤ q.dies) (ph : Fin 56) : p.hasPhase ph = true → q.hasPhase ph = true := by
  simp only [Part.hasPhase, decide_eq_true_eq]; omega

theorem hasItem_mono {p q : Part} (h : p.dies ≤ q.dies) (i : Fin 46) : p.hasItem i = true → q.hasItem i = true := by
  simp only [Part.hasItem, Bool.or_eq_true, decide_eq_true_eq]; omega

theorem hasEngine_mono {p q : Part} (h : p.dies ≤ q.dies) (e : Fin 18) : p.hasEngine e = true → q.hasEngine e = true := by
  simp only [Part.hasEngine, decide_eq_true_eq]; omega

theorem le_mono {p q : Part} (h : p.dies ≤ q.dies) (n : Nat) : decide (n ≤ p.dies) = true → decide (n ≤ q.dies) = true := by
  simp only [decide_eq_true_eq]; omega

/-- A conjunct that names no part is kept. -/
theorem and_mono {a b : Bool} (c : Bool) (h : a = true → b = true) : (a && c) = true → (b && c) = true := by
  cases a <;> cases b <;> simp_all

/-- Both conjuncts grow. -/
theorem and_mono₂ {a b c d : Bool} (h : a = true → b = true) (k : c = true → d = true) : (a && c) = true → (b && d) = true := by
  cases a <;> cases b <;> simp_all

theorem lockstepMismatch (word : Nat) : Statement (.lockstepMismatch word) := fun _ _ _ h => h
theorem sysClockCheck (kHz : Nat) : Statement (.sysClockCheck kHz) := fun _ _ _ h => h
theorem rsysClockCheck (k : Fin 7) (kHz : Nat) : Statement (.rsysClockCheck k kHz) := fun _ _ hq => hasDie_mono hq k
theorem crystalStartTimeout : Statement .crystalStartTimeout := fun _ _ _ h => h
theorem canPllLockLoss : Statement .canPllLockLoss := fun _ _ _ h => h
theorem canClockGood : Statement .canClockGood := fun _ _ _ h => h
theorem hamperAccess (reqs : List HamperReq) (ecc : EccFind) : Statement (.hamperAccess reqs ecc) := fun _ _ _ h => h
theorem backgroundScrub (ecc : EccFind) : Statement (.backgroundScrub ecc) := fun _ _ _ h => h
theorem linkFrameBad (k : Fin 7) (recv : LinkEndSel) (body crc : Nat) : Statement (.linkFrameBad k recv body crc) :=
    fun _ _ hq => and_mono _ (and_mono _ (hasDie_mono hq k))
theorem linkNak (k : Fin 7) (recv : LinkEndSel) (seq : Nat) : Statement (.linkNak k recv seq) :=
    fun _ _ hq => and_mono _ (hasDie_mono hq k)
theorem linkIdle (k : Fin 7) (recv : LinkEndSel) (ack : Nat) : Statement (.linkIdle k recv ack) :=
    fun _ _ hq => and_mono _ (hasDie_mono hq k)
theorem linkAckTimeout (k : Fin 7) (sender : LinkEndSel) : Statement (.linkAckTimeout k sender) :=
    fun _ _ hq => hasDie_mono hq k
theorem linkCommand (k : Fin 7) (seq ack : Nat) (c : RailCmd) : Statement (.linkCommand k seq ack c) :=
    fun _ _ hq => and_mono₂ (and_mono _ (and_mono _ (hasDie_mono hq k))) (hasRail_mono hq c.rail)
theorem linkEvent (k : Fin 7) (seq ack : Nat) (source cause : Nat) : Statement (.linkEvent k seq ack source cause) :=
    fun _ _ hq => and_mono _ (and_mono _ (and_mono _ (and_mono _ (hasDie_mono hq k))))
theorem linkObjWrite (k : Fin 7) (seq ack tag : Nat) (obj sub value : Nat) : Statement (.linkObjWrite k seq ack tag obj sub value) :=
    fun _ _ hq => and_mono _ (and_mono _ (and_mono _ (and_mono _ (and_mono _ (and_mono _ (hasDie_mono hq k))))))
theorem linkObjRead (k : Fin 7) (seq ack tag : Nat) (obj sub : Nat) : Statement (.linkObjRead k seq ack tag obj sub) :=
    fun _ _ hq => and_mono _ (and_mono _ (and_mono _ (and_mono _ (and_mono _ (hasDie_mono hq k)))))
theorem linkObjData (k : Fin 7) (seq ack tag : Nat) (obj sub value : Nat) : Statement (.linkObjData k seq ack tag obj sub value) :=
    fun _ _ hq => and_mono _ (and_mono _ (and_mono _ (and_mono _ (and_mono _ (and_mono _ (hasDie_mono hq k))))))
theorem linkTelemetry (k : Fin 7) (seq ack : Nat) (offset data : Nat) : Statement (.linkTelemetry k seq ack offset data) :=
    fun _ _ hq => and_mono _ (and_mono _ (and_mono _ (and_mono _ (hasDie_mono hq k))))
theorem linkDown (k : Fin 7) : Statement (.linkDown k) := fun _ _ hq => hasDie_mono hq k
theorem linkRetrained (k : Fin 7) : Statement (.linkRetrained k) := fun _ _ hq => hasDie_mono hq k
theorem demandLaneFail (g : Fin 4) (k : Fin 7) : Statement (.demandLaneFail g k) := fun _ _ hq => hasDie_mono hq k
theorem laneParityError (g : Fin 4) (k : Fin 7) : Statement (.laneParityError g k) := fun _ _ hq => hasDie_mono hq k
theorem packageFaultLineAssert : Statement .packageFaultLineAssert := fun _ _ _ h => h
theorem stageFault (k : Fin 7) : Statement (.stageFault k) := fun _ _ hq => hasDie_mono hq k
theorem disableBoundaryReached (f : DisableFn) : Statement (.disableBoundaryReached f) :=
    fun _ _ hq => by cases f <;> first | exact fun h => h | exact hasRail_mono hq _
theorem strapSample (a b c : BitVec 5) : Statement (.strapSample a b c) := fun _ _ _ h => h
theorem vdrLow (k : Fin 7) : Statement (.vdrLow k) := fun _ _ hq => hasDie_mono hq k
theorem vdrRestored (k : Fin 7) : Statement (.vdrRestored k) := fun _ _ hq => hasDie_mono hq k
theorem vauxPowerOnReset : Statement .vauxPowerOnReset := fun _ _ _ h => h
theorem powerOnResetRelease : Statement .powerOnResetRelease := fun _ _ _ h => h
theorem hamperSelfTestEnd (weak : Vector Nat 8) (failed : Nat) : Statement (.hamperSelfTestEnd weak failed) := fun _ _ _ h => h
theorem objectDictionaryReady (units : Nat) : Statement (.objectDictionaryReady units) := fun _ _ _ h => h
theorem pwrStateReqRun (p : Port) : Statement (.pwrStateReqRun p) := fun _ _ _ h => h
theorem pwrStateReqDoze (p : Port) : Statement (.pwrStateReqDoze p) := fun _ _ _ h => h
theorem pwrStateReqPark (p : Port) : Statement (.pwrStateReqPark p) := fun _ _ _ h => h
theorem dozeEntry : Statement .dozeEntry := fun _ _ _ h => h
theorem sysStop : Statement .sysStop := fun _ _ _ h => h
theorem wake (sources : Nat) : Statement (.wake sources) := fun _ _ _ h => h
theorem wakeTimerExpire : Statement .wakeTimerExpire := fun _ _ _ h => h
theorem oldChartWakeLatch (source : Fin 12) : Statement (.oldChartWakeLatch source) := fun _ _ _ h => h
theorem resetPinRecognised : Statement .resetPinRecognised := fun _ _ _ h => h
theorem resetPinRise : Statement .resetPinRise := fun _ _ _ h => h
theorem resetCmd (p : Port) (value : Nat) : Statement (.resetCmd p value) := fun _ _ _ h => h
theorem resetEnd : Statement .resetEnd := fun _ _ _ h => h
theorem skReadoptionDeadline (r : Fin 28) : Statement (.skReadoptionDeadline r) := fun _ _ hq => hasRail_mono hq r
theorem skHardwareTimeout (k : Fin 7) : Statement (.skHardwareTimeout k) := fun _ _ hq => hasDie_mono hq k
theorem zinWindowEnter (n : Fin 4) : Statement (.zinWindowEnter n) := fun _ _ _ h => h
theorem zinWindowExit (n : Fin 4) : Statement (.zinWindowExit n) := fun _ _ _ h => h
theorem zbusWindowEnter : Statement .zbusWindowEnter := fun _ _ _ h => h
theorem zbusWindowExit : Statement .zbusWindowExit := fun _ _ _ h => h
theorem insertionDelayExpire (c : Chan) (nearBus : Bool) : Statement (.insertionDelayExpire c nearBus) := fun _ _ _ h => h
theorem retryTimerExpire (c : Chan) (nearBus : Bool) : Statement (.retryTimerExpire c nearBus) := fun _ _ _ h => h
theorem inrushComplete (c : Chan) : Statement (.inrushComplete c) := fun _ _ _ h => h
theorem limitEnter (c : Chan) (sense : Nat) : Statement (.limitEnter c sense) := fun _ _ _ h => h
theorem limitRelease (c : Chan) : Statement (.limitRelease c) := fun _ _ _ h => h
theorem limitTimerExpire (c : Chan) : Statement (.limitTimerExpire c) := fun _ _ _ h => h
theorem fastTrip (c : Chan) (sense : Nat) : Statement (.fastTrip c sense) := fun _ _ _ h => h
theorem absoluteTrip (c : Chan) : Statement (.absoluteTrip c) := fun _ _ _ h => h
theorem reverseDetected (n : Fin 4) : Statement (.reverseDetected n) := fun _ _ _ h => h
theorem forwardDetected (n : Fin 4) : Statement (.forwardDetected n) := fun _ _ _ h => h
theorem zinEnSet (p : Port) (n : Fin 4) : Statement (.zinEnSet p n) := fun _ _ _ h => h
theorem zinEnClear (p : Port) (n : Fin 4) : Statement (.zinEnClear p n) := fun _ _ _ h => h
theorem zinClear (p : Port) (n : Fin 4) (value : Nat) : Statement (.zinClear p n value) := fun _ _ _ h => h
theorem foClear (p : Port) (n : Fin 8) (value : Nat) : Statement (.foClear p n value) := fun _ _ _ h => h
theorem normalOperationTimer (c : Chan) : Statement (.normalOperationTimer c) := fun _ _ _ h => h
theorem coldStartQualify (n : Fin 4) : Statement (.coldStartQualify n) := fun _ _ _ h => h
theorem coldStartLimitTimeout (n : Fin 4) : Statement (.coldStartLimitTimeout n) := fun _ _ _ h => h
theorem coldStartBandExit (n : Fin 4) : Statement (.coldStartBandExit n) := fun _ _ _ h => h
theorem foGateOff (n : Fin 8) : Statement (.foGateOff n) := fun _ _ _ h => h
theorem presenceLost (n : Fin 8) : Statement (.presenceLost n) := fun _ _ _ h => h
theorem presenceDetected (n : Fin 8) : Statement (.presenceDetected n) := fun _ _ _ h => h
theorem pfwThreshold : Statement .pfwThreshold := fun _ _ _ h => h
theorem pfwSlopeSample (code : Nat) : Statement (.pfwSlopeSample code) := fun _ _ _ h => h
theorem pfwRelease : Statement .pfwRelease := fun _ _ _ h => h
theorem loopCommit (p : Port) (r : Fin 28) (value : Nat) : Statement (.loopCommit p r value) := fun _ _ _ h => h
theorem rotationEpoch (r : Fin 28) (m : List SnsMeas) : Statement (.rotationEpoch r m) :=
    fun _ _ hq => and_mono _ (hasRail_mono hq r)
theorem balanceUpdate (r : Fin 28) : Statement (.balanceUpdate r) := fun _ _ hq => hasRail_mono hq r
theorem balanceAverageTimeout (g : Fin 4) (k : Fin 7) : Statement (.balanceAverageTimeout g k) := fun _ _ hq => hasDie_mono hq k
theorem gangChangeRequest (g : Fin 4) (change : GangChange) : Statement (.gangChangeRequest g change) :=
    fun _ _ hq => by cases change <;> first | exact fun h => h | exact hasPhase_mono hq _
theorem gangChangeAck (g : Fin 4) (k : Fin 7) : Statement (.gangChangeAck g k) := fun _ _ hq => hasDie_mono hq k
theorem gangAckTimeout (g : Fin 4) : Statement (.gangAckTimeout g) := fun _ _ _ h => h
theorem followerEpochStrobe (g : Fin 4) (k : Fin 7) (ns : Nat) : Statement (.followerEpochStrobe g k ns) :=
    fun _ _ hq => hasDie_mono hq k
theorem followerReaddStrobe (g : Fin 4) (k : Fin 7) (ns : Nat) : Statement (.followerReaddStrobe g k ns) :=
    fun _ _ hq => hasDie_mono hq k
theorem syncStrobeLoss (g : Fin 4) (k : Fin 7) : Statement (.syncStrobeLoss g k) := fun _ _ hq => hasDie_mono hq k
theorem followerHoldEnd (g : Fin 4) (k : Fin 7) : Statement (.followerHoldEnd g k) := fun _ _ hq => hasDie_mono hq k
theorem railVsetWrite (p : Port) (r : Fin 28) (mv : Nat) : Statement (.railVsetWrite p r mv) := fun _ _ _ h => h
theorem vsetWindowWrite (h : Fin 2) (j : Fin 8) (mv : Nat) : Statement (.vsetWindowWrite h j mv) := fun _ _ _ h => h
theorem slewTargetReached (r : Fin 28) : Statement (.slewTargetReached r) := fun _ _ hq => hasRail_mono hq r
theorem transitionQualified (r : Fin 28) : Statement (.transitionQualified r) := fun _ _ hq => hasRail_mono hq r
theorem stepAlarmAssert (r : Fin 28) : Statement (.stepAlarmAssert r) := fun _ _ hq => hasRail_mono hq r
theorem stepAlarmRelease (r : Fin 28) : Statement (.stepAlarmRelease r) := fun _ _ hq => hasRail_mono hq r
theorem stepTmaxExpire (r : Fin 28) : Statement (.stepTmaxExpire r) := fun _ _ hq => hasRail_mono hq r
theorem shedDwellExpire (r : Fin 28) : Statement (.shedDwellExpire r) := fun _ _ hq => hasRail_mono hq r
theorem shedStart (r : Fin 28) (m : List SnsMeas) : Statement (.shedStart r m) := fun _ _ hq => and_mono _ (hasRail_mono hq r)
theorem shedComplete (r : Fin 28) (m : List SnsMeas) : Statement (.shedComplete r m) :=
    fun _ _ hq => and_mono _ (hasRail_mono hq r)
theorem addThreshold (r : Fin 28) (mA : Nat) : Statement (.addThreshold r mA) := fun _ _ hq => hasRail_mono hq r
theorem readdEpoch (r : Fin 28) (m : List SnsMeas) : Statement (.readdEpoch r m) := fun _ _ hq => and_mono _ (hasRail_mono hq r)
theorem shedHoldoffExpire (r : Fin 28) : Statement (.shedHoldoffExpire r) := fun _ _ hq => hasRail_mono hq r
theorem phmDisable (p : Port) (r : Fin 28) : Statement (.phmDisable p r) := fun _ _ _ h => h
theorem hintPinEdge (h : Fin 2) : Statement (.hintPinEdge h) := fun _ _ _ h => h
theorem fcWindowWrite (h : Fin 2) (j : Fin 8) (value : Nat) : Statement (.fcWindowWrite h j value) := fun _ _ _ h => h
theorem fcReqWrite (p : Port) (r : Fin 28) (value : Nat) : Statement (.fcReqWrite p r value) := fun _ _ _ h => h
theorem forecastDeadline (r : Fin 28) : Statement (.forecastDeadline r) := fun _ _ hq => hasRail_mono hq r
theorem forecastInhibitEnd (r : Fin 28) : Statement (.forecastInhibitEnd r) := fun _ _ hq => hasRail_mono hq r
theorem trimPeriod (r : Fin 28) : Statement (.trimPeriod r) := fun _ _ hq => hasRail_mono hq r
theorem trimFreeze (r : Fin 28) : Statement (.trimFreeze r) := fun _ _ hq => hasRail_mono hq r
theorem trimDisable (p : Port) (r : Fin 28) : Statement (.trimDisable p r) := fun _ _ _ h => h
theorem stepAlarmDisable (p : Port) (r : Fin 28) : Statement (.stepAlarmDisable p r) := fun _ _ _ h => h
theorem ovAbsTrip (r : Fin 28) (vsense : Nat) : Statement (.ovAbsTrip r vsense) := fun _ _ hq => hasRail_mono hq r
theorem ovTrackingTrip (r : Fin 28) (vsense : Nat) : Statement (.ovTrackingTrip r vsense) := fun _ _ hq => hasRail_mono hq r
theorem pgWindowChange (r : Fin 28) (vsense : Nat) : Statement (.pgWindowChange r vsense) := fun _ _ hq => hasRail_mono hq r
theorem uvTimerExpire (r : Fin 28) : Statement (.uvTimerExpire r) := fun _ _ hq => hasRail_mono hq r
theorem ocCondition (r : Fin 28) (k : Fin 7) (mA : Int) : Statement (.ocCondition r k mA) :=
    fun _ _ hq => and_mono₂ (hasRail_mono hq r) (hasDie_mono hq k)
theorem ocTimerExpire (r : Fin 28) : Statement (.ocTimerExpire r) := fun _ _ hq => hasRail_mono hq r
theorem valleyLimit (ph : Fin 56) (mA : Nat) : Statement (.valleyLimit ph mA) := fun _ _ hq => hasPhase_mono hq ph
theorem pgQualified (r : Fin 28) : Statement (.pgQualified r) := fun _ _ hq => hasRail_mono hq r
theorem pgHoldEnd (r : Fin 28) : Statement (.pgHoldEnd r) := fun _ _ hq => hasRail_mono hq r
theorem railFclr (p : Port) (r : Fin 28) (value : Nat) : Statement (.railFclr p r value) := fun _ _ _ h => h
theorem groupUpCmd (p : Port) (g : Fin 8) : Statement (.groupUpCmd p g) := fun _ _ _ h => h
theorem groupDownCmd (p : Port) (g : Fin 8) : Statement (.groupDownCmd p g) := fun _ _ _ h => h
theorem groupInputQualified (g : Fin 8) : Statement (.groupInputQualified g) := fun _ _ _ h => h
theorem groupInputLost (g : Fin 8) : Statement (.groupInputLost g) := fun _ _ _ h => h
theorem stepDelayEnd (g : Fin 8) : Statement (.stepDelayEnd g) := fun _ _ _ h => h
theorem itemQualified (i : Fin 46) : Statement (.itemQualified i) := fun _ _ hq => hasItem_mono hq i
theorem itemPgFall (i : Fin 46) : Statement (.itemPgFall i) := fun _ _ hq => hasItem_mono hq i
theorem stepTimeout (g : Fin 8) (retried : Option (Fin 46)) : Statement (.stepTimeout g retried) := fun _ _ _ h => h
theorem itemOff (i : Fin 46) : Statement (.itemOff i) := fun _ _ hq => hasItem_mono hq i
theorem shutdownStepTimeout (g : Fin 8) : Statement (.shutdownStepTimeout g) := fun _ _ _ h => h
theorem minOffEnd (g : Fin 8) : Statement (.minOffEnd g) := fun _ _ _ h => h
theorem itemRetryDelayEnd (i : Fin 46) : Statement (.itemRetryDelayEnd i) := fun _ _ hq => hasItem_mono hq i
theorem itemNormalTimer (i : Fin 46) : Statement (.itemNormalTimer i) := fun _ _ hq => hasItem_mono hq i
theorem enPinFall (r : Fin 28) : Statement (.enPinFall r) := fun _ _ hq => hasRail_mono hq r
theorem enPinRise (r : Fin 28) : Statement (.enPinRise r) := fun _ _ hq => hasRail_mono hq r
theorem regCurrentLimitFault (n : Fin 10) : Statement (.regCurrentLimitFault n) := fun _ _ _ h => h
theorem buckOverVoltage (n : Fin 6) : Statement (.buckOverVoltage n) := fun _ _ _ h => h
theorem regPgChange (n : Fin 10) (inWindow : Bool) : Statement (.regPgChange n inWindow) := fun _ _ _ h => h
theorem regPgLostTimeout (n : Fin 10) : Statement (.regPgLostTimeout n) := fun _ _ _ h => h
theorem rstoConditionsEnd (n : Fin 4) : Statement (.rstoConditionsEnd n) := fun _ _ _ h => h
theorem rstoStretchEnd (n : Fin 4) : Statement (.rstoStretchEnd n) := fun _ _ _ h => h
theorem rstoForce (p : Port) (n : Fin 4) (value : Nat) : Statement (.rstoForce p n value) := fun _ _ _ h => h
theorem rstoPulseEnd (n : Fin 4) : Statement (.rstoPulseEnd n) := fun _ _ _ h => h
theorem serviceQualified : Statement .serviceQualified := fun _ _ _ h => h
theorem serviceWindowExit : Statement .serviceWindowExit := fun _ _ _ h => h
theorem srcAnncWrite (p : Port) (n : Fin 4) (value : Nat) : Statement (.srcAnncWrite p n value) := fun _ _ _ h => h
theorem srcAnncTimeout (n : Fin 4) : Statement (.srcAnncTimeout n) := fun _ _ _ h => h
theorem sourceTypeChange : Statement .sourceTypeChange := fun _ _ _ h => h
theorem chargerControlCycle (m : ChargeMeas) : Statement (.chargerControlCycle m) := fun _ _ _ h => h
theorem lbusGoodRise : Statement .lbusGoodRise := fun _ _ _ h => h
theorem lbusGoodFall : Statement .lbusGoodFall := fun _ _ _ h => h
theorem chgEnSet (p : Port) : Statement (.chgEnSet p) := fun _ _ _ h => h
theorem chgEnClear (p : Port) : Statement (.chgEnClear p) := fun _ _ _ h => h
theorem chargeStartConditions (temp : Int) (vpkp : Nat) : Statement (.chargeStartConditions temp vpkp) := fun _ _ _ h => h
theorem chgHbDelayEnd : Statement .chgHbDelayEnd := fun _ _ _ h => h
theorem prechargeDone : Statement .prechargeDone := fun _ _ _ h => h
theorem prechargeTimeout : Statement .prechargeTimeout := fun _ _ _ h => h
theorem chargeTerminationSample (v : Nat) (temp : Int) (currents : List Nat) : Statement (.chargeTerminationSample v temp currents) :=
    fun _ _ _ h => h
theorem chargeBackstop (v : Nat) (temp : Int) (swOc : Bool) : Statement (.chargeBackstop v temp swOc) := fun _ _ _ h => h
theorem packRemoval (sign : RemovalSign) : Statement (.packRemoval sign) := fun _ _ _ h => h
theorem chgFaultRead (p : Port) : Statement (.chgFaultRead p) := fun _ _ _ h => h
theorem sourceLost (zbus : Nat) : Statement (.sourceLost zbus) := fun _ _ _ h => h
theorem handOverMakeDone : Statement .handOverMakeDone := fun _ _ _ h => h
theorem handOverBreakDone (t : Nat) : Statement (.handOverBreakDone t) := fun _ _ _ h => h
theorem handBackStart (zbus : Nat) : Statement (.handBackStart zbus) := fun _ _ _ h => h
theorem handBackComplete : Statement .handBackComplete := fun _ _ _ h => h
theorem gaugeEstimate (vpkp : Nat) (ppI : Int) (temp : Int) : Statement (.gaugeEstimate vpkp ppI temp) := fun _ _ _ h => h
theorem restQualified : Statement .restQualified := fun _ _ _ h => h
theorem gaugeStart (vpkp : Nat) (closed : Bool) : Statement (.gaugeStart vpkp closed) := fun _ _ _ h => h
theorem learnFullWaitLapse : Statement .learnFullWaitLapse := fun _ _ _ h => h
theorem ggNewpack (p : Port) (value : Nat) : Statement (.ggNewpack p value) := fun _ _ _ h => h
theorem outingStartCmd (p : Port) : Statement (.outingStartCmd p) := fun _ _ _ h => h
theorem outingEndCmd (p : Port) : Statement (.outingEndCmd p) := fun _ _ _ h => h
theorem outingTimeout : Statement .outingTimeout := fun _ _ _ h => h
theorem ggAlmTablesWrite (p : Port) (bytes : List Byte) : Statement (.ggAlmTablesWrite p bytes) := fun _ _ _ h => h
theorem writeBackTimer : Statement .writeBackTimer := fun _ _ _ h => h
theorem almanacWriteBackDone (ok : Bool) : Statement (.almanacWriteBackDone ok) := fun _ _ _ h => h
theorem cfgSave (p : Port) (value : Nat) : Statement (.cfgSave p value) := fun _ _ _ h => h
theorem configCopyWritten (ok : Bool) : Statement (.configCopyWritten ok) := fun _ _ _ h => h
theorem hcImageWrite (p : Port) (bytes : List Byte) : Statement (.hcImageWrite p bytes) := fun _ _ _ h => h
theorem hcLock (p : Port) (value : Nat) : Statement (.hcLock p value) := fun _ _ _ h => h
theorem journalAppend : Statement .journalAppend := fun _ _ _ h => h
theorem holdUpEntry (hucap : Nat) : Statement (.holdUpEntry hucap) := fun _ _ _ h => h
theorem holdUpSaveEnd (vauxHigh : Bool) : Statement (.holdUpSaveEnd vauxHigh) := fun _ _ _ h => h
theorem hucapPowerOnReset (step : Fin 7) : Statement (.hucapPowerOnReset step) := fun _ _ _ h => h
theorem tamper : Statement .tamper := fun _ _ _ h => h
theorem hkConversionEnd (ch : Fin 48) (slice : Fin 5) (raw vref : Nat) : Statement (.hkConversionEnd ch slice raw vref) :=
    fun _ _ _ h => h
theorem hkSlowRound (raws : List (Fin 5 × Nat)) (vref : Nat) : Statement (.hkSlowRound raws vref) := fun _ _ _ h => h
theorem hkScanDisable (p : Port) : Statement (.hkScanDisable p) := fun _ _ _ h => h
theorem hkCalCmd (p : Port) (value : Nat) : Statement (.hkCalCmd p value) := fun _ _ _ h => h
theorem selfCalibrationDone (gain : Vector Nat 5) (ofs : Vector Int 5) : Statement (.selfCalibrationDone gain ofs) :=
    fun _ _ _ h => h
theorem backgroundCalibration (slice : Fin 5) (gain : Nat) (ofs : Int) : Statement (.backgroundCalibration slice gain ofs) :=
    fun _ _ _ h => h
theorem hkRefSelWrite (p : Port) (value : Nat) : Statement (.hkRefSelWrite p value) := fun _ _ _ h => h
theorem refSettlingEnd : Statement .refSettlingEnd := fun _ _ _ h => h
theorem roSample (die : Fin 8) (temps : List Int) : Statement (.roSample die temps) := fun _ _ hq => le_mono hq _
theorem thermalComparator : Statement .thermalComparator := fun _ _ _ h => h
theorem throttleEvaluation : Statement .throttleEvaluation := fun _ _ _ h => h
theorem throttleDisable (p : Port) : Statement (.throttleDisable p) := fun _ _ _ h => h
theorem wdEnable (p : Port) (value : Nat) : Statement (.wdEnable p value) := fun _ _ _ h => h
theorem wdWindowClose : Statement .wdWindowClose := fun _ _ _ h => h
theorem wdAnswer (p : Port) (n : Fin 2) (token tick : Nat) : Statement (.wdAnswer p n token tick) := fun _ _ _ h => h
theorem wdCheckin (p : Port) (n : Fin 2) (task : Nat) : Statement (.wdCheckin p n task) := fun _ _ _ h => h
theorem wdCycleEnd : Statement .wdCycleEnd := fun _ _ _ h => h
theorem engineService (e : Fin 18) : Statement (.engineService e) := fun _ _ hq => hasEngine_mono hq e
theorem engineWatchdogExpire (e : Fin 18) : Statement (.engineWatchdogExpire e) := fun _ _ hq => hasEngine_mono hq e
theorem engineSuspensionEnd : Statement .engineSuspensionEnd := fun _ _ _ h => h
theorem logbookEntry (code : FaultCode) (die src detail : Nat) : Statement (.logbookEntry code die src detail) :=
    fun _ _ hq => and_mono _ (and_mono _ (le_mono hq _))
theorem logFclr (p : Port) (value : Nat) : Statement (.logFclr p value) := fun _ _ _ h => h
theorem twReadAddress (n : Fin 2) (len : Nat) : Statement (.twReadAddress n len) := fun _ _ _ h => h
theorem twWritePointer (n : Fin 2) (ptr : Byte) : Statement (.twWritePointer n ptr) := fun _ _ _ h => h
theorem registerWrite (n : Fin 2) (offset : Nat) (bytes : List Byte) (pec : Nat) : Statement (.registerWrite n offset bytes pec) :=
    fun _ _ _ h => h
theorem claim (n : Fin 2) : Statement (.claim n) := fun _ _ _ h => h
theorem complete (n : Fin 2) (src : Nat) : Statement (.complete n src) := fun _ _ _ h => h
theorem twErrRead (n : Fin 2) : Statement (.twErrRead n) := fun _ _ _ h => h
theorem tunCmdRead (n : Fin 2) : Statement (.tunCmdRead n) := fun _ _ _ h => h
theorem tunCmdWrite (n : Fin 2) (last : Bool) : Statement (.tunCmdWrite n last) := fun _ _ _ h => h
theorem tunnelDone (n : Fin 2) : Statement (.tunnelDone n) := fun _ _ _ h => h
theorem twBusIdle (n : Fin 2) : Statement (.twBusIdle n) := fun _ _ _ h => h
theorem twStartInTransfer (n : Fin 2) : Statement (.twStartInTransfer n) := fun _ _ _ h => h
theorem twNotify (n : Fin 2) : Statement (.twNotify n) := fun _ _ _ h => h
theorem twNotifyRepeat (n : Fin 2) : Statement (.twNotifyRepeat n) := fun _ _ _ h => h
theorem twNotifyNack (n : Fin 2) : Statement (.twNotifyNack n) := fun _ _ _ h => h
theorem twArbitrationLost (n : Fin 2) : Statement (.twArbitrationLost n) := fun _ _ _ h => h
theorem twControllerBusError (n : Fin 2) : Statement (.twControllerBusError n) := fun _ _ _ h => h
theorem twLineStuck (n : Fin 2) (sda : Bool) : Statement (.twLineStuck n sda) := fun _ _ _ h => h
theorem twWedged (n : Fin 2) : Statement (.twWedged n) := fun _ _ _ h => h
theorem eventSourceEdge (slot : Fin 128) : Statement (.eventSourceEdge slot) := fun _ _ _ h => h
theorem eventLevelChange (slot : Fin 128) (holds : Bool) : Statement (.eventLevelChange slot holds) := fun _ _ _ h => h
theorem evcRouteWrite (p : Port) (slot : Fin 128) (value : Nat) : Statement (.evcRouteWrite p slot value) := fun _ _ _ h => h
theorem evcGdisWrite (p : Port) (value : Nat) : Statement (.evcGdisWrite p value) := fun _ _ _ h => h
theorem canPortStart (n : Fin 4) : Statement (.canPortStart n) := fun _ _ _ h => h
theorem canEnClear (p : Port) (n : Fin 4) : Statement (.canEnClear p n) := fun _ _ _ h => h
theorem canBusOff (n : Fin 4) : Statement (.canBusOff n) := fun _ _ _ h => h
theorem canBoffRec (p : Port) (n : Fin 4) (value : Nat) : Statement (.canBoffRec p n value) := fun _ _ _ h => h
theorem canRecoveryDone (n : Fin 4) : Statement (.canRecoveryDone n) := fun _ _ _ h => h
theorem read (n : Fin 4) (tag idx sub : Nat) : Statement (.read n tag idx sub) := fun _ _ _ h => h
theorem write (n : Fin 4) (tag idx sub : Nat) (bytes : List Byte) : Statement (.write n tag idx sub bytes) := fun _ _ _ h => h
theorem blockWriteInit (n : Fin 4) (tag idx sub total : Nat) : Statement (.blockWriteInit n tag idx sub total) :=
    fun _ _ _ h => h
theorem segment (n : Fin 4) (tag seq flags : Nat) (bytes : List Byte) : Statement (.segment n tag seq flags bytes) :=
    fun _ _ _ h => h
theorem blockReadInit (n : Fin 4) (tag idx sub : Nat) : Statement (.blockReadInit n tag idx sub) := fun _ _ _ h => h
theorem blockRequest (n : Fin 4) (tag block : Nat) : Statement (.blockRequest n tag block) := fun _ _ _ h => h
theorem malformed (n : Fin 4) (classical : Bool) (bytes : List Byte) : Statement (.malformed n classical bytes) :=
    fun _ _ _ h => h
theorem transferTimeout (n : Fin 4) : Statement (.transferTimeout n) := fun _ _ _ h => h
theorem xbearTimeout : Statement .xbearTimeout := fun _ _ _ h => h
theorem heartbeat (n : Fin 4) : Statement (.heartbeat n) := fun _ _ _ h => h
theorem peerHeartbeat (n : Fin 4) (classical : Bool) : Statement (.peerHeartbeat n classical) := fun _ _ _ h => h
theorem peerHeartbeatTimeout (n : Fin 4) : Statement (.peerHeartbeatTimeout n) := fun _ _ _ h => h
theorem reportPeriod (r : Fin 64) : Statement (.reportPeriod r) := fun _ _ _ h => h
theorem reportChangeSample (r : Fin 64) : Statement (.reportChangeSample r) := fun _ _ _ h => h
theorem rptModeWrite (p : Port) (r : Fin 64) (value : Nat) : Statement (.rptModeWrite p r value) := fun _ _ _ h => h
theorem updateHeaderCheck (p : Port) (bytes : List Byte) : Statement (.updateHeaderCheck p bytes) := fun _ _ _ h => h
theorem bankWipeDone : Statement .bankWipeDone := fun _ _ _ h => h
theorem bankBlockWrite : Statement .bankBlockWrite := fun _ _ _ h => h
theorem updateVerify : Statement .updateVerify := fun _ _ _ h => h
theorem updActivate (p : Port) : Statement (.updActivate p) := fun _ _ _ h => h
theorem updConfirm (p : Port) : Statement (.updConfirm p) := fun _ _ _ h => h
theorem updAbandon (p : Port) : Statement (.updAbandon p) := fun _ _ _ h => h
theorem activationPauseEnd : Statement .activationPauseEnd := fun _ _ _ h => h
theorem activationTimeout (e : Fin 18) : Statement (.activationTimeout e) := fun _ _ hq => hasEngine_mono hq e
theorem trialEnd : Statement .trialEnd := fun _ _ _ h => h
theorem lcAdvance (p : Port) (value : Nat) : Statement (.lcAdvance p value) := fun _ _ _ h => h
theorem odDirStep (p : Port) (value : Nat) : Statement (.odDirStep p value) := fun _ _ _ h => h
theorem objectWrite (p : Port) (idx sub : Nat) (bytes : List Byte) : Statement (.objectWrite p idx sub bytes) :=
    fun _ _ _ h => h
theorem packLost : Statement .packLost := fun _ _ _ h => h
theorem stageFaultRelease (k : Fin 7) : Statement (.stageFaultRelease k) := fun _ _ hq => hasDie_mono hq k
theorem tamperRelease : Statement .tamperRelease := fun _ _ _ h => h
theorem canErrorStateChange (n : Fin 4) (tec rec : Nat) : Statement (.canErrorStateChange n tec rec) := fun _ _ _ h => h
theorem periodBoundary (r : Fin 28) (m : List SnsMeas) : Statement (.periodBoundary r m) :=
    fun _ _ hq => and_mono _ (hasRail_mono hq r)
theorem objectDictionaryAnswering : Statement .objectDictionaryAnswering := fun _ _ _ h => h
theorem homeChartWritten (ok : Bool) : Statement (.homeChartWritten ok) := fun _ _ _ h => h
theorem serviceReverseTurnOff : Statement .serviceReverseTurnOff := fun _ _ _ h => h
theorem serviceDiodeConducts : Statement .serviceDiodeConducts := fun _ _ _ h => h

end Sys2Proof.Laws.Parts
end

