-- ==== Sys2Proof/Laws/State.lean ====
section
/-! SUPPORT. What each basic update of the state changes and what it leaves, field by field, as rewrite rules; the updates of
parts of parts as these; the laws of numbered elements and of the map of settings. -/

namespace Sys2Proof

/-! ### Numbered elements -/

@[simp] theorem vset_getElem {α : Type} {n : Nat} (v : Vector α n) (i : Fin n) (x : α) (k : Nat) (h : k < n) :
    (vset v i x)[k] = if i.val = k then x else v[k] := by
  simp [vset, Vector.getElem_set]

@[simp] theorem vmod_getElem {α : Type} {n : Nat} (v : Vector α n) (i : Fin n) (f : α → α) (k : Nat) (h : k < n) :
    (vmod v i f)[k] = if i.val = k then f v[k] else v[k] := by
  by_cases e : i.val = k
  · subst e; simp [vmod]
  · simp [vmod, e]

@[simp] theorem vmod_vmod {α : Type} {n : Nat} (v : Vector α n) (i : Fin n) (f g : α → α) : vmod (vmod v i f) i g = vmod v i (fun x => g (f x)) := by
  apply Vector.ext; intro k h; by_cases e : i.val = k <;> simp [e]

@[simp] theorem vmod_same {α : Type} {n : Nat} (v : Vector α n) (i : Fin n) : vmod v i (fun x => x) = v := by
  apply Vector.ext; intro k h; by_cases e : i.val = k <;> simp

theorem vmod_comm {α : Type} {n : Nat} (v : Vector α n) (i j : Fin n) (f g : α → α) (h : i ≠ j) :
    vmod (vmod v i f) j g = vmod (vmod v j g) i f := by
  have h' : i.val ≠ j.val := fun e => h (Fin.ext e)
  apply Vector.ext; intro k hk
  by_cases e : i.val = k
  · subst e; simp [Ne.symm h']
  · simp [e]

theorem fin_some {n i : Nat} {k : Fin n} : fin? n i = some k ↔ k.val = i := by
  unfold fin?; split
  · constructor
    · rintro ⟨⟩; rfl
    · rintro rfl; rfl
  · constructor
    · rintro ⟨⟩
    · rintro rfl; exact absurd k.isLt (by assumption)

@[simp] theorem fin_val {n : Nat} (k : Fin n) : fin? n k.val = some k := fin_some.mpr rfl

end Sys2Proof

namespace Sys2Proof.Machine

/-! ### The map of settings -/

@[simp] theorem mapGet_mapPut_same (k v : Nat) (l : List (Nat × Nat)) : mapGet k (mapPut k v l) = some v := by
  induction l with
  | nil => simp [mapPut, mapGet]
  | cons a l ih =>
    obtain ⟨a, w⟩ := a
    unfold mapPut; split
    · simp [mapGet]
    · split
      · simp [mapGet]
      · next h => simp [mapGet, Ne.symm h, ih]

theorem mapGet_mapPut_other {k j v : Nat} (h : j ≠ k) (l : List (Nat × Nat)) : mapGet j (mapPut k v l) = mapGet j l := by
  induction l with
  | nil => simp [mapPut, mapGet, Ne.symm h]
  | cons a l ih =>
    obtain ⟨a, w⟩ := a
    unfold mapPut; split
    · simp [mapGet, Ne.symm h]
    · split
      · next h1 => subst h1; simp [mapGet, Ne.symm h]
      · simp [mapGet, ih]

theorem okey_div (i : Nat) {u : Nat} (h : u < 256) : okey i u / 256 = i := by unfold okey; omega
theorem okey_mod (i : Nat) {u : Nat} (h : u < 256) : okey i u % 256 = u := by unfold okey; omega
theorem okey_inj {i j u v : Nat} (hu : u < 256) (hv : v < 256) : okey i u = okey j v ↔ i = j ∧ u = v := by unfold okey; omega

/-! ### Basic updates -/

@[simp] theorem modBoot_boot (f : BootState → BootState) (s : State) : (modBoot f s).boot = f s.boot := rfl
@[simp] theorem modBoot_frame (f : BootState → BootState) (s : State) :
    (modBoot f s).part = s.part ∧ (modBoot f s).settings = s.settings ∧ (modBoot f s).mram = s.mram ∧ (modBoot f s).nv = s.nv ∧
    (modBoot f s).clk = s.clk ∧ (modBoot f s).hamper = s.hamper ∧ (modBoot f s).links = s.links ∧
    (modBoot f s).straps = s.straps ∧ (modBoot f s).sk = s.sk ∧ (modBoot f s).pwr = s.pwr ∧ (modBoot f s).zin = s.zin ∧
    (modBoot f s).fo = s.fo ∧ (modBoot f s).zbus = s.zbus ∧ (modBoot f s).rails = s.rails ∧ (modBoot f s).phases = s.phases ∧
    (modBoot f s).gangs = s.gangs ∧ (modBoot f s).dies = s.dies ∧ (modBoot f s).items = s.items ∧
    (modBoot f s).groups = s.groups ∧ (modBoot f s).regs = s.regs ∧ (modBoot f s).rsto = s.rsto ∧ (modBoot f s).pp = s.pp ∧
    (modBoot f s).chg = s.chg ∧ (modBoot f s).gauge = s.gauge ∧ (modBoot f s).hk = s.hk ∧ (modBoot f s).therm = s.therm ∧
    (modBoot f s).wd = s.wd ∧ (modBoot f s).ewd = s.ewd ∧ (modBoot f s).log = s.log ∧ (modBoot f s).faultLine = s.faultLine ∧
    (modBoot f s).safeN = s.safeN ∧ (modBoot f s).fab = s.fab ∧ (modBoot f s).evc = s.evc ∧ (modBoot f s).tw = s.tw ∧
    (modBoot f s).can = s.can ∧ (modBoot f s).roles = s.roles ∧ (modBoot f s).reports = s.reports ∧ (modBoot f s).xb = s.xb ∧
    (modBoot f s).netLast = s.netLast ∧ (modBoot f s).dirSel = s.dirSel ∧ (modBoot f s).update = s.update ∧
    (modBoot f s).skipCnt = s.skipCnt ∧ (modBoot f s).hintAt = s.hintAt ∧ (modBoot f s).ack = s.ack ∧
    (modBoot f s).devTime = s.devTime ∧ (modBoot f s).aonAcc = s.aonAcc ∧ (modBoot f s).freeCtr = s.freeCtr ∧
    (modBoot f s).pending = s.pending := by and_intros <;> rfl

@[simp] theorem modPwr_pwr (f : PwrCtl → PwrCtl) (s : State) : (modPwr f s).pwr = f s.pwr := rfl
@[simp] theorem modPwr_frame (f : PwrCtl → PwrCtl) (s : State) :
    (modPwr f s).part = s.part ∧ (modPwr f s).settings = s.settings ∧ (modPwr f s).mram = s.mram ∧ (modPwr f s).nv = s.nv ∧
    (modPwr f s).clk = s.clk ∧ (modPwr f s).hamper = s.hamper ∧ (modPwr f s).links = s.links ∧ (modPwr f s).straps = s.straps ∧
    (modPwr f s).boot = s.boot ∧ (modPwr f s).sk = s.sk ∧ (modPwr f s).zin = s.zin ∧ (modPwr f s).fo = s.fo ∧
    (modPwr f s).zbus = s.zbus ∧ (modPwr f s).rails = s.rails ∧ (modPwr f s).phases = s.phases ∧ (modPwr f s).gangs = s.gangs ∧
    (modPwr f s).dies = s.dies ∧ (modPwr f s).items = s.items ∧ (modPwr f s).groups = s.groups ∧ (modPwr f s).regs = s.regs ∧
    (modPwr f s).rsto = s.rsto ∧ (modPwr f s).pp = s.pp ∧ (modPwr f s).chg = s.chg ∧ (modPwr f s).gauge = s.gauge ∧
    (modPwr f s).hk = s.hk ∧ (modPwr f s).therm = s.therm ∧ (modPwr f s).wd = s.wd ∧ (modPwr f s).ewd = s.ewd ∧
    (modPwr f s).log = s.log ∧ (modPwr f s).faultLine = s.faultLine ∧ (modPwr f s).safeN = s.safeN ∧ (modPwr f s).fab = s.fab ∧
    (modPwr f s).evc = s.evc ∧ (modPwr f s).tw = s.tw ∧ (modPwr f s).can = s.can ∧ (modPwr f s).roles = s.roles ∧
    (modPwr f s).reports = s.reports ∧ (modPwr f s).xb = s.xb ∧ (modPwr f s).netLast = s.netLast ∧
    (modPwr f s).dirSel = s.dirSel ∧ (modPwr f s).update = s.update ∧ (modPwr f s).skipCnt = s.skipCnt ∧
    (modPwr f s).hintAt = s.hintAt ∧ (modPwr f s).ack = s.ack ∧ (modPwr f s).devTime = s.devTime ∧
    (modPwr f s).aonAcc = s.aonAcc ∧ (modPwr f s).freeCtr = s.freeCtr ∧ (modPwr f s).pending = s.pending := by and_intros <;> rfl

@[simp] theorem modSk_sk (f : SkState → SkState) (s : State) : (modSk f s).sk = f s.sk := rfl
@[simp] theorem modSk_frame (f : SkState → SkState) (s : State) :
    (modSk f s).part = s.part ∧ (modSk f s).settings = s.settings ∧ (modSk f s).mram = s.mram ∧ (modSk f s).nv = s.nv ∧
    (modSk f s).clk = s.clk ∧ (modSk f s).hamper = s.hamper ∧ (modSk f s).links = s.links ∧ (modSk f s).straps = s.straps ∧
    (modSk f s).boot = s.boot ∧ (modSk f s).pwr = s.pwr ∧ (modSk f s).zin = s.zin ∧ (modSk f s).fo = s.fo ∧
    (modSk f s).zbus = s.zbus ∧ (modSk f s).rails = s.rails ∧ (modSk f s).phases = s.phases ∧ (modSk f s).gangs = s.gangs ∧
    (modSk f s).dies = s.dies ∧ (modSk f s).items = s.items ∧ (modSk f s).groups = s.groups ∧ (modSk f s).regs = s.regs ∧
    (modSk f s).rsto = s.rsto ∧ (modSk f s).pp = s.pp ∧ (modSk f s).chg = s.chg ∧ (modSk f s).gauge = s.gauge ∧
    (modSk f s).hk = s.hk ∧ (modSk f s).therm = s.therm ∧ (modSk f s).wd = s.wd ∧ (modSk f s).ewd = s.ewd ∧
    (modSk f s).log = s.log ∧ (modSk f s).faultLine = s.faultLine ∧ (modSk f s).safeN = s.safeN ∧ (modSk f s).fab = s.fab ∧
    (modSk f s).evc = s.evc ∧ (modSk f s).tw = s.tw ∧ (modSk f s).can = s.can ∧ (modSk f s).roles = s.roles ∧
    (modSk f s).reports = s.reports ∧ (modSk f s).xb = s.xb ∧ (modSk f s).netLast = s.netLast ∧ (modSk f s).dirSel = s.dirSel ∧
    (modSk f s).update = s.update ∧ (modSk f s).skipCnt = s.skipCnt ∧ (modSk f s).hintAt = s.hintAt ∧ (modSk f s).ack = s.ack ∧
    (modSk f s).devTime = s.devTime ∧ (modSk f s).aonAcc = s.aonAcc ∧ (modSk f s).freeCtr = s.freeCtr ∧
    (modSk f s).pending = s.pending := by and_intros <;> rfl

@[simp] theorem modClk_clk (f : ClockState → ClockState) (s : State) : (modClk f s).clk = f s.clk := rfl
@[simp] theorem modClk_frame (f : ClockState → ClockState) (s : State) :
    (modClk f s).part = s.part ∧ (modClk f s).settings = s.settings ∧ (modClk f s).mram = s.mram ∧ (modClk f s).nv = s.nv ∧
    (modClk f s).hamper = s.hamper ∧ (modClk f s).links = s.links ∧ (modClk f s).straps = s.straps ∧
    (modClk f s).boot = s.boot ∧ (modClk f s).sk = s.sk ∧ (modClk f s).pwr = s.pwr ∧ (modClk f s).zin = s.zin ∧
    (modClk f s).fo = s.fo ∧ (modClk f s).zbus = s.zbus ∧ (modClk f s).rails = s.rails ∧ (modClk f s).phases = s.phases ∧
    (modClk f s).gangs = s.gangs ∧ (modClk f s).dies = s.dies ∧ (modClk f s).items = s.items ∧ (modClk f s).groups = s.groups ∧
    (modClk f s).regs = s.regs ∧ (modClk f s).rsto = s.rsto ∧ (modClk f s).pp = s.pp ∧ (modClk f s).chg = s.chg ∧
    (modClk f s).gauge = s.gauge ∧ (modClk f s).hk = s.hk ∧ (modClk f s).therm = s.therm ∧ (modClk f s).wd = s.wd ∧
    (modClk f s).ewd = s.ewd ∧ (modClk f s).log = s.log ∧ (modClk f s).faultLine = s.faultLine ∧ (modClk f s).safeN = s.safeN ∧
    (modClk f s).fab = s.fab ∧ (modClk f s).evc = s.evc ∧ (modClk f s).tw = s.tw ∧ (modClk f s).can = s.can ∧
    (modClk f s).roles = s.roles ∧ (modClk f s).reports = s.reports ∧ (modClk f s).xb = s.xb ∧
    (modClk f s).netLast = s.netLast ∧ (modClk f s).dirSel = s.dirSel ∧ (modClk f s).update = s.update ∧
    (modClk f s).skipCnt = s.skipCnt ∧ (modClk f s).hintAt = s.hintAt ∧ (modClk f s).ack = s.ack ∧
    (modClk f s).devTime = s.devTime ∧ (modClk f s).aonAcc = s.aonAcc ∧ (modClk f s).freeCtr = s.freeCtr ∧
    (modClk f s).pending = s.pending := by and_intros <;> rfl

@[simp] theorem modHamper_hamper (f : HamperState → HamperState) (s : State) : (modHamper f s).hamper = f s.hamper := rfl
@[simp] theorem modHamper_frame (f : HamperState → HamperState) (s : State) :
    (modHamper f s).part = s.part ∧ (modHamper f s).settings = s.settings ∧ (modHamper f s).mram = s.mram ∧
    (modHamper f s).nv = s.nv ∧ (modHamper f s).clk = s.clk ∧ (modHamper f s).links = s.links ∧
    (modHamper f s).straps = s.straps ∧ (modHamper f s).boot = s.boot ∧ (modHamper f s).sk = s.sk ∧
    (modHamper f s).pwr = s.pwr ∧ (modHamper f s).zin = s.zin ∧ (modHamper f s).fo = s.fo ∧ (modHamper f s).zbus = s.zbus ∧
    (modHamper f s).rails = s.rails ∧ (modHamper f s).phases = s.phases ∧ (modHamper f s).gangs = s.gangs ∧
    (modHamper f s).dies = s.dies ∧ (modHamper f s).items = s.items ∧ (modHamper f s).groups = s.groups ∧
    (modHamper f s).regs = s.regs ∧ (modHamper f s).rsto = s.rsto ∧ (modHamper f s).pp = s.pp ∧ (modHamper f s).chg = s.chg ∧
    (modHamper f s).gauge = s.gauge ∧ (modHamper f s).hk = s.hk ∧ (modHamper f s).therm = s.therm ∧ (modHamper f s).wd = s.wd ∧
    (modHamper f s).ewd = s.ewd ∧ (modHamper f s).log = s.log ∧ (modHamper f s).faultLine = s.faultLine ∧
    (modHamper f s).safeN = s.safeN ∧ (modHamper f s).fab = s.fab ∧ (modHamper f s).evc = s.evc ∧ (modHamper f s).tw = s.tw ∧
    (modHamper f s).can = s.can ∧ (modHamper f s).roles = s.roles ∧ (modHamper f s).reports = s.reports ∧
    (modHamper f s).xb = s.xb ∧ (modHamper f s).netLast = s.netLast ∧ (modHamper f s).dirSel = s.dirSel ∧
    (modHamper f s).update = s.update ∧ (modHamper f s).skipCnt = s.skipCnt ∧ (modHamper f s).hintAt = s.hintAt ∧
    (modHamper f s).ack = s.ack ∧ (modHamper f s).devTime = s.devTime ∧ (modHamper f s).aonAcc = s.aonAcc ∧
    (modHamper f s).freeCtr = s.freeCtr ∧ (modHamper f s).pending = s.pending := by and_intros <;> rfl

@[simp] theorem modHk_hk (f : HkState → HkState) (s : State) : (modHk f s).hk = f s.hk := rfl
@[simp] theorem modHk_frame (f : HkState → HkState) (s : State) :
    (modHk f s).part = s.part ∧ (modHk f s).settings = s.settings ∧ (modHk f s).mram = s.mram ∧ (modHk f s).nv = s.nv ∧
    (modHk f s).clk = s.clk ∧ (modHk f s).hamper = s.hamper ∧ (modHk f s).links = s.links ∧ (modHk f s).straps = s.straps ∧
    (modHk f s).boot = s.boot ∧ (modHk f s).sk = s.sk ∧ (modHk f s).pwr = s.pwr ∧ (modHk f s).zin = s.zin ∧
    (modHk f s).fo = s.fo ∧ (modHk f s).zbus = s.zbus ∧ (modHk f s).rails = s.rails ∧ (modHk f s).phases = s.phases ∧
    (modHk f s).gangs = s.gangs ∧ (modHk f s).dies = s.dies ∧ (modHk f s).items = s.items ∧ (modHk f s).groups = s.groups ∧
    (modHk f s).regs = s.regs ∧ (modHk f s).rsto = s.rsto ∧ (modHk f s).pp = s.pp ∧ (modHk f s).chg = s.chg ∧
    (modHk f s).gauge = s.gauge ∧ (modHk f s).therm = s.therm ∧ (modHk f s).wd = s.wd ∧ (modHk f s).ewd = s.ewd ∧
    (modHk f s).log = s.log ∧ (modHk f s).faultLine = s.faultLine ∧ (modHk f s).safeN = s.safeN ∧ (modHk f s).fab = s.fab ∧
    (modHk f s).evc = s.evc ∧ (modHk f s).tw = s.tw ∧ (modHk f s).can = s.can ∧ (modHk f s).roles = s.roles ∧
    (modHk f s).reports = s.reports ∧ (modHk f s).xb = s.xb ∧ (modHk f s).netLast = s.netLast ∧ (modHk f s).dirSel = s.dirSel ∧
    (modHk f s).update = s.update ∧ (modHk f s).skipCnt = s.skipCnt ∧ (modHk f s).hintAt = s.hintAt ∧ (modHk f s).ack = s.ack ∧
    (modHk f s).devTime = s.devTime ∧ (modHk f s).aonAcc = s.aonAcc ∧ (modHk f s).freeCtr = s.freeCtr ∧
    (modHk f s).pending = s.pending := by and_intros <;> rfl

@[simp] theorem modTherm_therm (f : ThermState → ThermState) (s : State) : (modTherm f s).therm = f s.therm := rfl
@[simp] theorem modTherm_frame (f : ThermState → ThermState) (s : State) :
    (modTherm f s).part = s.part ∧ (modTherm f s).settings = s.settings ∧ (modTherm f s).mram = s.mram ∧
    (modTherm f s).nv = s.nv ∧ (modTherm f s).clk = s.clk ∧ (modTherm f s).hamper = s.hamper ∧ (modTherm f s).links = s.links ∧
    (modTherm f s).straps = s.straps ∧ (modTherm f s).boot = s.boot ∧ (modTherm f s).sk = s.sk ∧ (modTherm f s).pwr = s.pwr ∧
    (modTherm f s).zin = s.zin ∧ (modTherm f s).fo = s.fo ∧ (modTherm f s).zbus = s.zbus ∧ (modTherm f s).rails = s.rails ∧
    (modTherm f s).phases = s.phases ∧ (modTherm f s).gangs = s.gangs ∧ (modTherm f s).dies = s.dies ∧
    (modTherm f s).items = s.items ∧ (modTherm f s).groups = s.groups ∧ (modTherm f s).regs = s.regs ∧
    (modTherm f s).rsto = s.rsto ∧ (modTherm f s).pp = s.pp ∧ (modTherm f s).chg = s.chg ∧ (modTherm f s).gauge = s.gauge ∧
    (modTherm f s).hk = s.hk ∧ (modTherm f s).wd = s.wd ∧ (modTherm f s).ewd = s.ewd ∧ (modTherm f s).log = s.log ∧
    (modTherm f s).faultLine = s.faultLine ∧ (modTherm f s).safeN = s.safeN ∧ (modTherm f s).fab = s.fab ∧
    (modTherm f s).evc = s.evc ∧ (modTherm f s).tw = s.tw ∧ (modTherm f s).can = s.can ∧ (modTherm f s).roles = s.roles ∧
    (modTherm f s).reports = s.reports ∧ (modTherm f s).xb = s.xb ∧ (modTherm f s).netLast = s.netLast ∧
    (modTherm f s).dirSel = s.dirSel ∧ (modTherm f s).update = s.update ∧ (modTherm f s).skipCnt = s.skipCnt ∧
    (modTherm f s).hintAt = s.hintAt ∧ (modTherm f s).ack = s.ack ∧ (modTherm f s).devTime = s.devTime ∧
    (modTherm f s).aonAcc = s.aonAcc ∧ (modTherm f s).freeCtr = s.freeCtr ∧ (modTherm f s).pending = s.pending := by and_intros <;> rfl

@[simp] theorem modPp_pp (f : PathState → PathState) (s : State) : (modPp f s).pp = f s.pp := rfl
@[simp] theorem modPp_frame (f : PathState → PathState) (s : State) :
    (modPp f s).part = s.part ∧ (modPp f s).settings = s.settings ∧ (modPp f s).mram = s.mram ∧ (modPp f s).nv = s.nv ∧
    (modPp f s).clk = s.clk ∧ (modPp f s).hamper = s.hamper ∧ (modPp f s).links = s.links ∧ (modPp f s).straps = s.straps ∧
    (modPp f s).boot = s.boot ∧ (modPp f s).sk = s.sk ∧ (modPp f s).pwr = s.pwr ∧ (modPp f s).zin = s.zin ∧
    (modPp f s).fo = s.fo ∧ (modPp f s).zbus = s.zbus ∧ (modPp f s).rails = s.rails ∧ (modPp f s).phases = s.phases ∧
    (modPp f s).gangs = s.gangs ∧ (modPp f s).dies = s.dies ∧ (modPp f s).items = s.items ∧ (modPp f s).groups = s.groups ∧
    (modPp f s).regs = s.regs ∧ (modPp f s).rsto = s.rsto ∧ (modPp f s).chg = s.chg ∧ (modPp f s).gauge = s.gauge ∧
    (modPp f s).hk = s.hk ∧ (modPp f s).therm = s.therm ∧ (modPp f s).wd = s.wd ∧ (modPp f s).ewd = s.ewd ∧
    (modPp f s).log = s.log ∧ (modPp f s).faultLine = s.faultLine ∧ (modPp f s).safeN = s.safeN ∧ (modPp f s).fab = s.fab ∧
    (modPp f s).evc = s.evc ∧ (modPp f s).tw = s.tw ∧ (modPp f s).can = s.can ∧ (modPp f s).roles = s.roles ∧
    (modPp f s).reports = s.reports ∧ (modPp f s).xb = s.xb ∧ (modPp f s).netLast = s.netLast ∧ (modPp f s).dirSel = s.dirSel ∧
    (modPp f s).update = s.update ∧ (modPp f s).skipCnt = s.skipCnt ∧ (modPp f s).hintAt = s.hintAt ∧ (modPp f s).ack = s.ack ∧
    (modPp f s).devTime = s.devTime ∧ (modPp f s).aonAcc = s.aonAcc ∧ (modPp f s).freeCtr = s.freeCtr ∧
    (modPp f s).pending = s.pending := by and_intros <;> rfl

@[simp] theorem modChg_chg (f : ChargerState → ChargerState) (s : State) : (modChg f s).chg = f s.chg := rfl
@[simp] theorem modChg_frame (f : ChargerState → ChargerState) (s : State) :
    (modChg f s).part = s.part ∧ (modChg f s).settings = s.settings ∧ (modChg f s).mram = s.mram ∧ (modChg f s).nv = s.nv ∧
    (modChg f s).clk = s.clk ∧ (modChg f s).hamper = s.hamper ∧ (modChg f s).links = s.links ∧ (modChg f s).straps = s.straps ∧
    (modChg f s).boot = s.boot ∧ (modChg f s).sk = s.sk ∧ (modChg f s).pwr = s.pwr ∧ (modChg f s).zin = s.zin ∧
    (modChg f s).fo = s.fo ∧ (modChg f s).zbus = s.zbus ∧ (modChg f s).rails = s.rails ∧ (modChg f s).phases = s.phases ∧
    (modChg f s).gangs = s.gangs ∧ (modChg f s).dies = s.dies ∧ (modChg f s).items = s.items ∧ (modChg f s).groups = s.groups ∧
    (modChg f s).regs = s.regs ∧ (modChg f s).rsto = s.rsto ∧ (modChg f s).pp = s.pp ∧ (modChg f s).gauge = s.gauge ∧
    (modChg f s).hk = s.hk ∧ (modChg f s).therm = s.therm ∧ (modChg f s).wd = s.wd ∧ (modChg f s).ewd = s.ewd ∧
    (modChg f s).log = s.log ∧ (modChg f s).faultLine = s.faultLine ∧ (modChg f s).safeN = s.safeN ∧ (modChg f s).fab = s.fab ∧
    (modChg f s).evc = s.evc ∧ (modChg f s).tw = s.tw ∧ (modChg f s).can = s.can ∧ (modChg f s).roles = s.roles ∧
    (modChg f s).reports = s.reports ∧ (modChg f s).xb = s.xb ∧ (modChg f s).netLast = s.netLast ∧
    (modChg f s).dirSel = s.dirSel ∧ (modChg f s).update = s.update ∧ (modChg f s).skipCnt = s.skipCnt ∧
    (modChg f s).hintAt = s.hintAt ∧ (modChg f s).ack = s.ack ∧ (modChg f s).devTime = s.devTime ∧
    (modChg f s).aonAcc = s.aonAcc ∧ (modChg f s).freeCtr = s.freeCtr ∧ (modChg f s).pending = s.pending := by and_intros <;> rfl

@[simp] theorem modGg_gauge (f : GaugeState → GaugeState) (s : State) : (modGg f s).gauge = f s.gauge := rfl
@[simp] theorem modGg_frame (f : GaugeState → GaugeState) (s : State) :
    (modGg f s).part = s.part ∧ (modGg f s).settings = s.settings ∧ (modGg f s).mram = s.mram ∧ (modGg f s).nv = s.nv ∧
    (modGg f s).clk = s.clk ∧ (modGg f s).hamper = s.hamper ∧ (modGg f s).links = s.links ∧ (modGg f s).straps = s.straps ∧
    (modGg f s).boot = s.boot ∧ (modGg f s).sk = s.sk ∧ (modGg f s).pwr = s.pwr ∧ (modGg f s).zin = s.zin ∧
    (modGg f s).fo = s.fo ∧ (modGg f s).zbus = s.zbus ∧ (modGg f s).rails = s.rails ∧ (modGg f s).phases = s.phases ∧
    (modGg f s).gangs = s.gangs ∧ (modGg f s).dies = s.dies ∧ (modGg f s).items = s.items ∧ (modGg f s).groups = s.groups ∧
    (modGg f s).regs = s.regs ∧ (modGg f s).rsto = s.rsto ∧ (modGg f s).pp = s.pp ∧ (modGg f s).chg = s.chg ∧
    (modGg f s).hk = s.hk ∧ (modGg f s).therm = s.therm ∧ (modGg f s).wd = s.wd ∧ (modGg f s).ewd = s.ewd ∧
    (modGg f s).log = s.log ∧ (modGg f s).faultLine = s.faultLine ∧ (modGg f s).safeN = s.safeN ∧ (modGg f s).fab = s.fab ∧
    (modGg f s).evc = s.evc ∧ (modGg f s).tw = s.tw ∧ (modGg f s).can = s.can ∧ (modGg f s).roles = s.roles ∧
    (modGg f s).reports = s.reports ∧ (modGg f s).xb = s.xb ∧ (modGg f s).netLast = s.netLast ∧ (modGg f s).dirSel = s.dirSel ∧
    (modGg f s).update = s.update ∧ (modGg f s).skipCnt = s.skipCnt ∧ (modGg f s).hintAt = s.hintAt ∧ (modGg f s).ack = s.ack ∧
    (modGg f s).devTime = s.devTime ∧ (modGg f s).aonAcc = s.aonAcc ∧ (modGg f s).freeCtr = s.freeCtr ∧
    (modGg f s).pending = s.pending := by and_intros <;> rfl

@[simp] theorem modNv_nv (f : StoreState → StoreState) (s : State) : (modNv f s).nv = f s.nv := rfl
@[simp] theorem modNv_frame (f : StoreState → StoreState) (s : State) :
    (modNv f s).part = s.part ∧ (modNv f s).settings = s.settings ∧ (modNv f s).mram = s.mram ∧ (modNv f s).clk = s.clk ∧
    (modNv f s).hamper = s.hamper ∧ (modNv f s).links = s.links ∧ (modNv f s).straps = s.straps ∧ (modNv f s).boot = s.boot ∧
    (modNv f s).sk = s.sk ∧ (modNv f s).pwr = s.pwr ∧ (modNv f s).zin = s.zin ∧ (modNv f s).fo = s.fo ∧
    (modNv f s).zbus = s.zbus ∧ (modNv f s).rails = s.rails ∧ (modNv f s).phases = s.phases ∧ (modNv f s).gangs = s.gangs ∧
    (modNv f s).dies = s.dies ∧ (modNv f s).items = s.items ∧ (modNv f s).groups = s.groups ∧ (modNv f s).regs = s.regs ∧
    (modNv f s).rsto = s.rsto ∧ (modNv f s).pp = s.pp ∧ (modNv f s).chg = s.chg ∧ (modNv f s).gauge = s.gauge ∧
    (modNv f s).hk = s.hk ∧ (modNv f s).therm = s.therm ∧ (modNv f s).wd = s.wd ∧ (modNv f s).ewd = s.ewd ∧
    (modNv f s).log = s.log ∧ (modNv f s).faultLine = s.faultLine ∧ (modNv f s).safeN = s.safeN ∧ (modNv f s).fab = s.fab ∧
    (modNv f s).evc = s.evc ∧ (modNv f s).tw = s.tw ∧ (modNv f s).can = s.can ∧ (modNv f s).roles = s.roles ∧
    (modNv f s).reports = s.reports ∧ (modNv f s).xb = s.xb ∧ (modNv f s).netLast = s.netLast ∧ (modNv f s).dirSel = s.dirSel ∧
    (modNv f s).update = s.update ∧ (modNv f s).skipCnt = s.skipCnt ∧ (modNv f s).hintAt = s.hintAt ∧ (modNv f s).ack = s.ack ∧
    (modNv f s).devTime = s.devTime ∧ (modNv f s).aonAcc = s.aonAcc ∧ (modNv f s).freeCtr = s.freeCtr ∧
    (modNv f s).pending = s.pending := by and_intros <;> rfl

@[simp] theorem modUpd_update (f : UpdState → UpdState) (s : State) : (modUpd f s).update = f s.update := rfl
@[simp] theorem modUpd_frame (f : UpdState → UpdState) (s : State) :
    (modUpd f s).part = s.part ∧ (modUpd f s).settings = s.settings ∧ (modUpd f s).mram = s.mram ∧ (modUpd f s).nv = s.nv ∧
    (modUpd f s).clk = s.clk ∧ (modUpd f s).hamper = s.hamper ∧ (modUpd f s).links = s.links ∧ (modUpd f s).straps = s.straps ∧
    (modUpd f s).boot = s.boot ∧ (modUpd f s).sk = s.sk ∧ (modUpd f s).pwr = s.pwr ∧ (modUpd f s).zin = s.zin ∧
    (modUpd f s).fo = s.fo ∧ (modUpd f s).zbus = s.zbus ∧ (modUpd f s).rails = s.rails ∧ (modUpd f s).phases = s.phases ∧
    (modUpd f s).gangs = s.gangs ∧ (modUpd f s).dies = s.dies ∧ (modUpd f s).items = s.items ∧ (modUpd f s).groups = s.groups ∧
    (modUpd f s).regs = s.regs ∧ (modUpd f s).rsto = s.rsto ∧ (modUpd f s).pp = s.pp ∧ (modUpd f s).chg = s.chg ∧
    (modUpd f s).gauge = s.gauge ∧ (modUpd f s).hk = s.hk ∧ (modUpd f s).therm = s.therm ∧ (modUpd f s).wd = s.wd ∧
    (modUpd f s).ewd = s.ewd ∧ (modUpd f s).log = s.log ∧ (modUpd f s).faultLine = s.faultLine ∧ (modUpd f s).safeN = s.safeN ∧
    (modUpd f s).fab = s.fab ∧ (modUpd f s).evc = s.evc ∧ (modUpd f s).tw = s.tw ∧ (modUpd f s).can = s.can ∧
    (modUpd f s).roles = s.roles ∧ (modUpd f s).reports = s.reports ∧ (modUpd f s).xb = s.xb ∧
    (modUpd f s).netLast = s.netLast ∧ (modUpd f s).dirSel = s.dirSel ∧ (modUpd f s).skipCnt = s.skipCnt ∧
    (modUpd f s).hintAt = s.hintAt ∧ (modUpd f s).ack = s.ack ∧ (modUpd f s).devTime = s.devTime ∧
    (modUpd f s).aonAcc = s.aonAcc ∧ (modUpd f s).freeCtr = s.freeCtr ∧ (modUpd f s).pending = s.pending := by and_intros <;> rfl

@[simp] theorem modWd_wd (f : WdState → WdState) (s : State) : (modWd f s).wd = f s.wd := rfl
@[simp] theorem modWd_frame (f : WdState → WdState) (s : State) :
    (modWd f s).part = s.part ∧ (modWd f s).settings = s.settings ∧ (modWd f s).mram = s.mram ∧ (modWd f s).nv = s.nv ∧
    (modWd f s).clk = s.clk ∧ (modWd f s).hamper = s.hamper ∧ (modWd f s).links = s.links ∧ (modWd f s).straps = s.straps ∧
    (modWd f s).boot = s.boot ∧ (modWd f s).sk = s.sk ∧ (modWd f s).pwr = s.pwr ∧ (modWd f s).zin = s.zin ∧
    (modWd f s).fo = s.fo ∧ (modWd f s).zbus = s.zbus ∧ (modWd f s).rails = s.rails ∧ (modWd f s).phases = s.phases ∧
    (modWd f s).gangs = s.gangs ∧ (modWd f s).dies = s.dies ∧ (modWd f s).items = s.items ∧ (modWd f s).groups = s.groups ∧
    (modWd f s).regs = s.regs ∧ (modWd f s).rsto = s.rsto ∧ (modWd f s).pp = s.pp ∧ (modWd f s).chg = s.chg ∧
    (modWd f s).gauge = s.gauge ∧ (modWd f s).hk = s.hk ∧ (modWd f s).therm = s.therm ∧ (modWd f s).ewd = s.ewd ∧
    (modWd f s).log = s.log ∧ (modWd f s).faultLine = s.faultLine ∧ (modWd f s).safeN = s.safeN ∧ (modWd f s).fab = s.fab ∧
    (modWd f s).evc = s.evc ∧ (modWd f s).tw = s.tw ∧ (modWd f s).can = s.can ∧ (modWd f s).roles = s.roles ∧
    (modWd f s).reports = s.reports ∧ (modWd f s).xb = s.xb ∧ (modWd f s).netLast = s.netLast ∧ (modWd f s).dirSel = s.dirSel ∧
    (modWd f s).update = s.update ∧ (modWd f s).skipCnt = s.skipCnt ∧ (modWd f s).hintAt = s.hintAt ∧ (modWd f s).ack = s.ack ∧
    (modWd f s).devTime = s.devTime ∧ (modWd f s).aonAcc = s.aonAcc ∧ (modWd f s).freeCtr = s.freeCtr ∧
    (modWd f s).pending = s.pending := by and_intros <;> rfl

@[simp] theorem modXb_xb (f : XbState → XbState) (s : State) : (modXb f s).xb = f s.xb := rfl
@[simp] theorem modXb_frame (f : XbState → XbState) (s : State) :
    (modXb f s).part = s.part ∧ (modXb f s).settings = s.settings ∧ (modXb f s).mram = s.mram ∧ (modXb f s).nv = s.nv ∧
    (modXb f s).clk = s.clk ∧ (modXb f s).hamper = s.hamper ∧ (modXb f s).links = s.links ∧ (modXb f s).straps = s.straps ∧
    (modXb f s).boot = s.boot ∧ (modXb f s).sk = s.sk ∧ (modXb f s).pwr = s.pwr ∧ (modXb f s).zin = s.zin ∧
    (modXb f s).fo = s.fo ∧ (modXb f s).zbus = s.zbus ∧ (modXb f s).rails = s.rails ∧ (modXb f s).phases = s.phases ∧
    (modXb f s).gangs = s.gangs ∧ (modXb f s).dies = s.dies ∧ (modXb f s).items = s.items ∧ (modXb f s).groups = s.groups ∧
    (modXb f s).regs = s.regs ∧ (modXb f s).rsto = s.rsto ∧ (modXb f s).pp = s.pp ∧ (modXb f s).chg = s.chg ∧
    (modXb f s).gauge = s.gauge ∧ (modXb f s).hk = s.hk ∧ (modXb f s).therm = s.therm ∧ (modXb f s).wd = s.wd ∧
    (modXb f s).ewd = s.ewd ∧ (modXb f s).log = s.log ∧ (modXb f s).faultLine = s.faultLine ∧ (modXb f s).safeN = s.safeN ∧
    (modXb f s).fab = s.fab ∧ (modXb f s).evc = s.evc ∧ (modXb f s).tw = s.tw ∧ (modXb f s).can = s.can ∧
    (modXb f s).roles = s.roles ∧ (modXb f s).reports = s.reports ∧ (modXb f s).netLast = s.netLast ∧
    (modXb f s).dirSel = s.dirSel ∧ (modXb f s).update = s.update ∧ (modXb f s).skipCnt = s.skipCnt ∧
    (modXb f s).hintAt = s.hintAt ∧ (modXb f s).ack = s.ack ∧ (modXb f s).devTime = s.devTime ∧ (modXb f s).aonAcc = s.aonAcc ∧
    (modXb f s).freeCtr = s.freeCtr ∧ (modXb f s).pending = s.pending := by and_intros <;> rfl

@[simp] theorem modRail_rails (i : Fin 28) (f : RailState → RailState) (s : State) : (modRail i f s).rails = vmod s.rails i f := rfl
@[simp] theorem modRail_frame (i : Fin 28) (f : RailState → RailState) (s : State) :
    (modRail i f s).part = s.part ∧ (modRail i f s).settings = s.settings ∧ (modRail i f s).mram = s.mram ∧
    (modRail i f s).nv = s.nv ∧ (modRail i f s).clk = s.clk ∧ (modRail i f s).hamper = s.hamper ∧
    (modRail i f s).links = s.links ∧ (modRail i f s).straps = s.straps ∧ (modRail i f s).boot = s.boot ∧
    (modRail i f s).sk = s.sk ∧ (modRail i f s).pwr = s.pwr ∧ (modRail i f s).zin = s.zin ∧ (modRail i f s).fo = s.fo ∧
    (modRail i f s).zbus = s.zbus ∧ (modRail i f s).phases = s.phases ∧ (modRail i f s).gangs = s.gangs ∧
    (modRail i f s).dies = s.dies ∧ (modRail i f s).items = s.items ∧ (modRail i f s).groups = s.groups ∧
    (modRail i f s).regs = s.regs ∧ (modRail i f s).rsto = s.rsto ∧ (modRail i f s).pp = s.pp ∧ (modRail i f s).chg = s.chg ∧
    (modRail i f s).gauge = s.gauge ∧ (modRail i f s).hk = s.hk ∧ (modRail i f s).therm = s.therm ∧ (modRail i f s).wd = s.wd ∧
    (modRail i f s).ewd = s.ewd ∧ (modRail i f s).log = s.log ∧ (modRail i f s).faultLine = s.faultLine ∧
    (modRail i f s).safeN = s.safeN ∧ (modRail i f s).fab = s.fab ∧ (modRail i f s).evc = s.evc ∧ (modRail i f s).tw = s.tw ∧
    (modRail i f s).can = s.can ∧ (modRail i f s).roles = s.roles ∧ (modRail i f s).reports = s.reports ∧
    (modRail i f s).xb = s.xb ∧ (modRail i f s).netLast = s.netLast ∧ (modRail i f s).dirSel = s.dirSel ∧
    (modRail i f s).update = s.update ∧ (modRail i f s).skipCnt = s.skipCnt ∧ (modRail i f s).hintAt = s.hintAt ∧
    (modRail i f s).ack = s.ack ∧ (modRail i f s).devTime = s.devTime ∧ (modRail i f s).aonAcc = s.aonAcc ∧
    (modRail i f s).freeCtr = s.freeCtr ∧ (modRail i f s).pending = s.pending := by and_intros <;> rfl

@[simp] theorem modPhase_phases (i : Fin 56) (f : PhaseState → PhaseState) (s : State) : (modPhase i f s).phases = vmod s.phases i f := rfl
@[simp] theorem modPhase_frame (i : Fin 56) (f : PhaseState → PhaseState) (s : State) :
    (modPhase i f s).part = s.part ∧ (modPhase i f s).settings = s.settings ∧ (modPhase i f s).mram = s.mram ∧
    (modPhase i f s).nv = s.nv ∧ (modPhase i f s).clk = s.clk ∧ (modPhase i f s).hamper = s.hamper ∧
    (modPhase i f s).links = s.links ∧ (modPhase i f s).straps = s.straps ∧ (modPhase i f s).boot = s.boot ∧
    (modPhase i f s).sk = s.sk ∧ (modPhase i f s).pwr = s.pwr ∧ (modPhase i f s).zin = s.zin ∧ (modPhase i f s).fo = s.fo ∧
    (modPhase i f s).zbus = s.zbus ∧ (modPhase i f s).rails = s.rails ∧ (modPhase i f s).gangs = s.gangs ∧
    (modPhase i f s).dies = s.dies ∧ (modPhase i f s).items = s.items ∧ (modPhase i f s).groups = s.groups ∧
    (modPhase i f s).regs = s.regs ∧ (modPhase i f s).rsto = s.rsto ∧ (modPhase i f s).pp = s.pp ∧
    (modPhase i f s).chg = s.chg ∧ (modPhase i f s).gauge = s.gauge ∧ (modPhase i f s).hk = s.hk ∧
    (modPhase i f s).therm = s.therm ∧ (modPhase i f s).wd = s.wd ∧ (modPhase i f s).ewd = s.ewd ∧
    (modPhase i f s).log = s.log ∧ (modPhase i f s).faultLine = s.faultLine ∧ (modPhase i f s).safeN = s.safeN ∧
    (modPhase i f s).fab = s.fab ∧ (modPhase i f s).evc = s.evc ∧ (modPhase i f s).tw = s.tw ∧ (modPhase i f s).can = s.can ∧
    (modPhase i f s).roles = s.roles ∧ (modPhase i f s).reports = s.reports ∧ (modPhase i f s).xb = s.xb ∧
    (modPhase i f s).netLast = s.netLast ∧ (modPhase i f s).dirSel = s.dirSel ∧ (modPhase i f s).update = s.update ∧
    (modPhase i f s).skipCnt = s.skipCnt ∧ (modPhase i f s).hintAt = s.hintAt ∧ (modPhase i f s).ack = s.ack ∧
    (modPhase i f s).devTime = s.devTime ∧ (modPhase i f s).aonAcc = s.aonAcc ∧ (modPhase i f s).freeCtr = s.freeCtr ∧
    (modPhase i f s).pending = s.pending := by and_intros <;> rfl

@[simp] theorem modGang_gangs (i : Fin 4) (f : GangState → GangState) (s : State) : (modGang i f s).gangs = vmod s.gangs i f := rfl
@[simp] theorem modGang_frame (i : Fin 4) (f : GangState → GangState) (s : State) :
    (modGang i f s).part = s.part ∧ (modGang i f s).settings = s.settings ∧ (modGang i f s).mram = s.mram ∧
    (modGang i f s).nv = s.nv ∧ (modGang i f s).clk = s.clk ∧ (modGang i f s).hamper = s.hamper ∧
    (modGang i f s).links = s.links ∧ (modGang i f s).straps = s.straps ∧ (modGang i f s).boot = s.boot ∧
    (modGang i f s).sk = s.sk ∧ (modGang i f s).pwr = s.pwr ∧ (modGang i f s).zin = s.zin ∧ (modGang i f s).fo = s.fo ∧
    (modGang i f s).zbus = s.zbus ∧ (modGang i f s).rails = s.rails ∧ (modGang i f s).phases = s.phases ∧
    (modGang i f s).dies = s.dies ∧ (modGang i f s).items = s.items ∧ (modGang i f s).groups = s.groups ∧
    (modGang i f s).regs = s.regs ∧ (modGang i f s).rsto = s.rsto ∧ (modGang i f s).pp = s.pp ∧ (modGang i f s).chg = s.chg ∧
    (modGang i f s).gauge = s.gauge ∧ (modGang i f s).hk = s.hk ∧ (modGang i f s).therm = s.therm ∧ (modGang i f s).wd = s.wd ∧
    (modGang i f s).ewd = s.ewd ∧ (modGang i f s).log = s.log ∧ (modGang i f s).faultLine = s.faultLine ∧
    (modGang i f s).safeN = s.safeN ∧ (modGang i f s).fab = s.fab ∧ (modGang i f s).evc = s.evc ∧ (modGang i f s).tw = s.tw ∧
    (modGang i f s).can = s.can ∧ (modGang i f s).roles = s.roles ∧ (modGang i f s).reports = s.reports ∧
    (modGang i f s).xb = s.xb ∧ (modGang i f s).netLast = s.netLast ∧ (modGang i f s).dirSel = s.dirSel ∧
    (modGang i f s).update = s.update ∧ (modGang i f s).skipCnt = s.skipCnt ∧ (modGang i f s).hintAt = s.hintAt ∧
    (modGang i f s).ack = s.ack ∧ (modGang i f s).devTime = s.devTime ∧ (modGang i f s).aonAcc = s.aonAcc ∧
    (modGang i f s).freeCtr = s.freeCtr ∧ (modGang i f s).pending = s.pending := by and_intros <;> rfl

@[simp] theorem modDie_dies (i : Fin 7) (f : DieState → DieState) (s : State) : (modDie i f s).dies = vmod s.dies i f := rfl
@[simp] theorem modDie_frame (i : Fin 7) (f : DieState → DieState) (s : State) :
    (modDie i f s).part = s.part ∧ (modDie i f s).settings = s.settings ∧ (modDie i f s).mram = s.mram ∧
    (modDie i f s).nv = s.nv ∧ (modDie i f s).clk = s.clk ∧ (modDie i f s).hamper = s.hamper ∧ (modDie i f s).links = s.links ∧
    (modDie i f s).straps = s.straps ∧ (modDie i f s).boot = s.boot ∧ (modDie i f s).sk = s.sk ∧ (modDie i f s).pwr = s.pwr ∧
    (modDie i f s).zin = s.zin ∧ (modDie i f s).fo = s.fo ∧ (modDie i f s).zbus = s.zbus ∧ (modDie i f s).rails = s.rails ∧
    (modDie i f s).phases = s.phases ∧ (modDie i f s).gangs = s.gangs ∧ (modDie i f s).items = s.items ∧
    (modDie i f s).groups = s.groups ∧ (modDie i f s).regs = s.regs ∧ (modDie i f s).rsto = s.rsto ∧ (modDie i f s).pp = s.pp ∧
    (modDie i f s).chg = s.chg ∧ (modDie i f s).gauge = s.gauge ∧ (modDie i f s).hk = s.hk ∧ (modDie i f s).therm = s.therm ∧
    (modDie i f s).wd = s.wd ∧ (modDie i f s).ewd = s.ewd ∧ (modDie i f s).log = s.log ∧
    (modDie i f s).faultLine = s.faultLine ∧ (modDie i f s).safeN = s.safeN ∧ (modDie i f s).fab = s.fab ∧
    (modDie i f s).evc = s.evc ∧ (modDie i f s).tw = s.tw ∧ (modDie i f s).can = s.can ∧ (modDie i f s).roles = s.roles ∧
    (modDie i f s).reports = s.reports ∧ (modDie i f s).xb = s.xb ∧ (modDie i f s).netLast = s.netLast ∧
    (modDie i f s).dirSel = s.dirSel ∧ (modDie i f s).update = s.update ∧ (modDie i f s).skipCnt = s.skipCnt ∧
    (modDie i f s).hintAt = s.hintAt ∧ (modDie i f s).ack = s.ack ∧ (modDie i f s).devTime = s.devTime ∧
    (modDie i f s).aonAcc = s.aonAcc ∧ (modDie i f s).freeCtr = s.freeCtr ∧ (modDie i f s).pending = s.pending := by and_intros <;> rfl

@[simp] theorem modLink_links (i : Fin 7) (f : LinkState → LinkState) (s : State) : (modLink i f s).links = vmod s.links i f := rfl
@[simp] theorem modLink_frame (i : Fin 7) (f : LinkState → LinkState) (s : State) :
    (modLink i f s).part = s.part ∧ (modLink i f s).settings = s.settings ∧ (modLink i f s).mram = s.mram ∧
    (modLink i f s).nv = s.nv ∧ (modLink i f s).clk = s.clk ∧ (modLink i f s).hamper = s.hamper ∧
    (modLink i f s).straps = s.straps ∧ (modLink i f s).boot = s.boot ∧ (modLink i f s).sk = s.sk ∧
    (modLink i f s).pwr = s.pwr ∧ (modLink i f s).zin = s.zin ∧ (modLink i f s).fo = s.fo ∧ (modLink i f s).zbus = s.zbus ∧
    (modLink i f s).rails = s.rails ∧ (modLink i f s).phases = s.phases ∧ (modLink i f s).gangs = s.gangs ∧
    (modLink i f s).dies = s.dies ∧ (modLink i f s).items = s.items ∧ (modLink i f s).groups = s.groups ∧
    (modLink i f s).regs = s.regs ∧ (modLink i f s).rsto = s.rsto ∧ (modLink i f s).pp = s.pp ∧ (modLink i f s).chg = s.chg ∧
    (modLink i f s).gauge = s.gauge ∧ (modLink i f s).hk = s.hk ∧ (modLink i f s).therm = s.therm ∧ (modLink i f s).wd = s.wd ∧
    (modLink i f s).ewd = s.ewd ∧ (modLink i f s).log = s.log ∧ (modLink i f s).faultLine = s.faultLine ∧
    (modLink i f s).safeN = s.safeN ∧ (modLink i f s).fab = s.fab ∧ (modLink i f s).evc = s.evc ∧ (modLink i f s).tw = s.tw ∧
    (modLink i f s).can = s.can ∧ (modLink i f s).roles = s.roles ∧ (modLink i f s).reports = s.reports ∧
    (modLink i f s).xb = s.xb ∧ (modLink i f s).netLast = s.netLast ∧ (modLink i f s).dirSel = s.dirSel ∧
    (modLink i f s).update = s.update ∧ (modLink i f s).skipCnt = s.skipCnt ∧ (modLink i f s).hintAt = s.hintAt ∧
    (modLink i f s).ack = s.ack ∧ (modLink i f s).devTime = s.devTime ∧ (modLink i f s).aonAcc = s.aonAcc ∧
    (modLink i f s).freeCtr = s.freeCtr ∧ (modLink i f s).pending = s.pending := by and_intros <;> rfl

@[simp] theorem modZin_zin (i : Fin 4) (f : ZinChan → ZinChan) (s : State) : (modZin i f s).zin = vmod s.zin i f := rfl
@[simp] theorem modZin_frame (i : Fin 4) (f : ZinChan → ZinChan) (s : State) :
    (modZin i f s).part = s.part ∧ (modZin i f s).settings = s.settings ∧ (modZin i f s).mram = s.mram ∧
    (modZin i f s).nv = s.nv ∧ (modZin i f s).clk = s.clk ∧ (modZin i f s).hamper = s.hamper ∧ (modZin i f s).links = s.links ∧
    (modZin i f s).straps = s.straps ∧ (modZin i f s).boot = s.boot ∧ (modZin i f s).sk = s.sk ∧ (modZin i f s).pwr = s.pwr ∧
    (modZin i f s).fo = s.fo ∧ (modZin i f s).zbus = s.zbus ∧ (modZin i f s).rails = s.rails ∧
    (modZin i f s).phases = s.phases ∧ (modZin i f s).gangs = s.gangs ∧ (modZin i f s).dies = s.dies ∧
    (modZin i f s).items = s.items ∧ (modZin i f s).groups = s.groups ∧ (modZin i f s).regs = s.regs ∧
    (modZin i f s).rsto = s.rsto ∧ (modZin i f s).pp = s.pp ∧ (modZin i f s).chg = s.chg ∧ (modZin i f s).gauge = s.gauge ∧
    (modZin i f s).hk = s.hk ∧ (modZin i f s).therm = s.therm ∧ (modZin i f s).wd = s.wd ∧ (modZin i f s).ewd = s.ewd ∧
    (modZin i f s).log = s.log ∧ (modZin i f s).faultLine = s.faultLine ∧ (modZin i f s).safeN = s.safeN ∧
    (modZin i f s).fab = s.fab ∧ (modZin i f s).evc = s.evc ∧ (modZin i f s).tw = s.tw ∧ (modZin i f s).can = s.can ∧
    (modZin i f s).roles = s.roles ∧ (modZin i f s).reports = s.reports ∧ (modZin i f s).xb = s.xb ∧
    (modZin i f s).netLast = s.netLast ∧ (modZin i f s).dirSel = s.dirSel ∧ (modZin i f s).update = s.update ∧
    (modZin i f s).skipCnt = s.skipCnt ∧ (modZin i f s).hintAt = s.hintAt ∧ (modZin i f s).ack = s.ack ∧
    (modZin i f s).devTime = s.devTime ∧ (modZin i f s).aonAcc = s.aonAcc ∧ (modZin i f s).freeCtr = s.freeCtr ∧
    (modZin i f s).pending = s.pending := by and_intros <;> rfl

@[simp] theorem modFo_fo (i : Fin 8) (f : FoChan → FoChan) (s : State) : (modFo i f s).fo = vmod s.fo i f := rfl
@[simp] theorem modFo_frame (i : Fin 8) (f : FoChan → FoChan) (s : State) :
    (modFo i f s).part = s.part ∧ (modFo i f s).settings = s.settings ∧ (modFo i f s).mram = s.mram ∧ (modFo i f s).nv = s.nv ∧
    (modFo i f s).clk = s.clk ∧ (modFo i f s).hamper = s.hamper ∧ (modFo i f s).links = s.links ∧
    (modFo i f s).straps = s.straps ∧ (modFo i f s).boot = s.boot ∧ (modFo i f s).sk = s.sk ∧ (modFo i f s).pwr = s.pwr ∧
    (modFo i f s).zin = s.zin ∧ (modFo i f s).zbus = s.zbus ∧ (modFo i f s).rails = s.rails ∧ (modFo i f s).phases = s.phases ∧
    (modFo i f s).gangs = s.gangs ∧ (modFo i f s).dies = s.dies ∧ (modFo i f s).items = s.items ∧
    (modFo i f s).groups = s.groups ∧ (modFo i f s).regs = s.regs ∧ (modFo i f s).rsto = s.rsto ∧ (modFo i f s).pp = s.pp ∧
    (modFo i f s).chg = s.chg ∧ (modFo i f s).gauge = s.gauge ∧ (modFo i f s).hk = s.hk ∧ (modFo i f s).therm = s.therm ∧
    (modFo i f s).wd = s.wd ∧ (modFo i f s).ewd = s.ewd ∧ (modFo i f s).log = s.log ∧ (modFo i f s).faultLine = s.faultLine ∧
    (modFo i f s).safeN = s.safeN ∧ (modFo i f s).fab = s.fab ∧ (modFo i f s).evc = s.evc ∧ (modFo i f s).tw = s.tw ∧
    (modFo i f s).can = s.can ∧ (modFo i f s).roles = s.roles ∧ (modFo i f s).reports = s.reports ∧ (modFo i f s).xb = s.xb ∧
    (modFo i f s).netLast = s.netLast ∧ (modFo i f s).dirSel = s.dirSel ∧ (modFo i f s).update = s.update ∧
    (modFo i f s).skipCnt = s.skipCnt ∧ (modFo i f s).hintAt = s.hintAt ∧ (modFo i f s).ack = s.ack ∧
    (modFo i f s).devTime = s.devTime ∧ (modFo i f s).aonAcc = s.aonAcc ∧ (modFo i f s).freeCtr = s.freeCtr ∧
    (modFo i f s).pending = s.pending := by and_intros <;> rfl

@[simp] theorem modItem_items (i : Fin 46) (f : ItemState → ItemState) (s : State) : (modItem i f s).items = vmod s.items i f := rfl
@[simp] theorem modItem_frame (i : Fin 46) (f : ItemState → ItemState) (s : State) :
    (modItem i f s).part = s.part ∧ (modItem i f s).settings = s.settings ∧ (modItem i f s).mram = s.mram ∧
    (modItem i f s).nv = s.nv ∧ (modItem i f s).clk = s.clk ∧ (modItem i f s).hamper = s.hamper ∧
    (modItem i f s).links = s.links ∧ (modItem i f s).straps = s.straps ∧ (modItem i f s).boot = s.boot ∧
    (modItem i f s).sk = s.sk ∧ (modItem i f s).pwr = s.pwr ∧ (modItem i f s).zin = s.zin ∧ (modItem i f s).fo = s.fo ∧
    (modItem i f s).zbus = s.zbus ∧ (modItem i f s).rails = s.rails ∧ (modItem i f s).phases = s.phases ∧
    (modItem i f s).gangs = s.gangs ∧ (modItem i f s).dies = s.dies ∧ (modItem i f s).groups = s.groups ∧
    (modItem i f s).regs = s.regs ∧ (modItem i f s).rsto = s.rsto ∧ (modItem i f s).pp = s.pp ∧ (modItem i f s).chg = s.chg ∧
    (modItem i f s).gauge = s.gauge ∧ (modItem i f s).hk = s.hk ∧ (modItem i f s).therm = s.therm ∧ (modItem i f s).wd = s.wd ∧
    (modItem i f s).ewd = s.ewd ∧ (modItem i f s).log = s.log ∧ (modItem i f s).faultLine = s.faultLine ∧
    (modItem i f s).safeN = s.safeN ∧ (modItem i f s).fab = s.fab ∧ (modItem i f s).evc = s.evc ∧ (modItem i f s).tw = s.tw ∧
    (modItem i f s).can = s.can ∧ (modItem i f s).roles = s.roles ∧ (modItem i f s).reports = s.reports ∧
    (modItem i f s).xb = s.xb ∧ (modItem i f s).netLast = s.netLast ∧ (modItem i f s).dirSel = s.dirSel ∧
    (modItem i f s).update = s.update ∧ (modItem i f s).skipCnt = s.skipCnt ∧ (modItem i f s).hintAt = s.hintAt ∧
    (modItem i f s).ack = s.ack ∧ (modItem i f s).devTime = s.devTime ∧ (modItem i f s).aonAcc = s.aonAcc ∧
    (modItem i f s).freeCtr = s.freeCtr ∧ (modItem i f s).pending = s.pending := by and_intros <;> rfl

@[simp] theorem modGroup_groups (i : Fin 8) (f : GroupState → GroupState) (s : State) : (modGroup i f s).groups = vmod s.groups i f := rfl
@[simp] theorem modGroup_frame (i : Fin 8) (f : GroupState → GroupState) (s : State) :
    (modGroup i f s).part = s.part ∧ (modGroup i f s).settings = s.settings ∧ (modGroup i f s).mram = s.mram ∧
    (modGroup i f s).nv = s.nv ∧ (modGroup i f s).clk = s.clk ∧ (modGroup i f s).hamper = s.hamper ∧
    (modGroup i f s).links = s.links ∧ (modGroup i f s).straps = s.straps ∧ (modGroup i f s).boot = s.boot ∧
    (modGroup i f s).sk = s.sk ∧ (modGroup i f s).pwr = s.pwr ∧ (modGroup i f s).zin = s.zin ∧ (modGroup i f s).fo = s.fo ∧
    (modGroup i f s).zbus = s.zbus ∧ (modGroup i f s).rails = s.rails ∧ (modGroup i f s).phases = s.phases ∧
    (modGroup i f s).gangs = s.gangs ∧ (modGroup i f s).dies = s.dies ∧ (modGroup i f s).items = s.items ∧
    (modGroup i f s).regs = s.regs ∧ (modGroup i f s).rsto = s.rsto ∧ (modGroup i f s).pp = s.pp ∧
    (modGroup i f s).chg = s.chg ∧ (modGroup i f s).gauge = s.gauge ∧ (modGroup i f s).hk = s.hk ∧
    (modGroup i f s).therm = s.therm ∧ (modGroup i f s).wd = s.wd ∧ (modGroup i f s).ewd = s.ewd ∧
    (modGroup i f s).log = s.log ∧ (modGroup i f s).faultLine = s.faultLine ∧ (modGroup i f s).safeN = s.safeN ∧
    (modGroup i f s).fab = s.fab ∧ (modGroup i f s).evc = s.evc ∧ (modGroup i f s).tw = s.tw ∧ (modGroup i f s).can = s.can ∧
    (modGroup i f s).roles = s.roles ∧ (modGroup i f s).reports = s.reports ∧ (modGroup i f s).xb = s.xb ∧
    (modGroup i f s).netLast = s.netLast ∧ (modGroup i f s).dirSel = s.dirSel ∧ (modGroup i f s).update = s.update ∧
    (modGroup i f s).skipCnt = s.skipCnt ∧ (modGroup i f s).hintAt = s.hintAt ∧ (modGroup i f s).ack = s.ack ∧
    (modGroup i f s).devTime = s.devTime ∧ (modGroup i f s).aonAcc = s.aonAcc ∧ (modGroup i f s).freeCtr = s.freeCtr ∧
    (modGroup i f s).pending = s.pending := by and_intros <;> rfl

@[simp] theorem modReg_regs (i : Fin 10) (f : RegState → RegState) (s : State) : (modReg i f s).regs = vmod s.regs i f := rfl
@[simp] theorem modReg_frame (i : Fin 10) (f : RegState → RegState) (s : State) :
    (modReg i f s).part = s.part ∧ (modReg i f s).settings = s.settings ∧ (modReg i f s).mram = s.mram ∧
    (modReg i f s).nv = s.nv ∧ (modReg i f s).clk = s.clk ∧ (modReg i f s).hamper = s.hamper ∧ (modReg i f s).links = s.links ∧
    (modReg i f s).straps = s.straps ∧ (modReg i f s).boot = s.boot ∧ (modReg i f s).sk = s.sk ∧ (modReg i f s).pwr = s.pwr ∧
    (modReg i f s).zin = s.zin ∧ (modReg i f s).fo = s.fo ∧ (modReg i f s).zbus = s.zbus ∧ (modReg i f s).rails = s.rails ∧
    (modReg i f s).phases = s.phases ∧ (modReg i f s).gangs = s.gangs ∧ (modReg i f s).dies = s.dies ∧
    (modReg i f s).items = s.items ∧ (modReg i f s).groups = s.groups ∧ (modReg i f s).rsto = s.rsto ∧
    (modReg i f s).pp = s.pp ∧ (modReg i f s).chg = s.chg ∧ (modReg i f s).gauge = s.gauge ∧ (modReg i f s).hk = s.hk ∧
    (modReg i f s).therm = s.therm ∧ (modReg i f s).wd = s.wd ∧ (modReg i f s).ewd = s.ewd ∧ (modReg i f s).log = s.log ∧
    (modReg i f s).faultLine = s.faultLine ∧ (modReg i f s).safeN = s.safeN ∧ (modReg i f s).fab = s.fab ∧
    (modReg i f s).evc = s.evc ∧ (modReg i f s).tw = s.tw ∧ (modReg i f s).can = s.can ∧ (modReg i f s).roles = s.roles ∧
    (modReg i f s).reports = s.reports ∧ (modReg i f s).xb = s.xb ∧ (modReg i f s).netLast = s.netLast ∧
    (modReg i f s).dirSel = s.dirSel ∧ (modReg i f s).update = s.update ∧ (modReg i f s).skipCnt = s.skipCnt ∧
    (modReg i f s).hintAt = s.hintAt ∧ (modReg i f s).ack = s.ack ∧ (modReg i f s).devTime = s.devTime ∧
    (modReg i f s).aonAcc = s.aonAcc ∧ (modReg i f s).freeCtr = s.freeCtr ∧ (modReg i f s).pending = s.pending := by and_intros <;> rfl

@[simp] theorem modRsto_rsto (i : Fin 4) (f : RstoState → RstoState) (s : State) : (modRsto i f s).rsto = vmod s.rsto i f := rfl
@[simp] theorem modRsto_frame (i : Fin 4) (f : RstoState → RstoState) (s : State) :
    (modRsto i f s).part = s.part ∧ (modRsto i f s).settings = s.settings ∧ (modRsto i f s).mram = s.mram ∧
    (modRsto i f s).nv = s.nv ∧ (modRsto i f s).clk = s.clk ∧ (modRsto i f s).hamper = s.hamper ∧
    (modRsto i f s).links = s.links ∧ (modRsto i f s).straps = s.straps ∧ (modRsto i f s).boot = s.boot ∧
    (modRsto i f s).sk = s.sk ∧ (modRsto i f s).pwr = s.pwr ∧ (modRsto i f s).zin = s.zin ∧ (modRsto i f s).fo = s.fo ∧
    (modRsto i f s).zbus = s.zbus ∧ (modRsto i f s).rails = s.rails ∧ (modRsto i f s).phases = s.phases ∧
    (modRsto i f s).gangs = s.gangs ∧ (modRsto i f s).dies = s.dies ∧ (modRsto i f s).items = s.items ∧
    (modRsto i f s).groups = s.groups ∧ (modRsto i f s).regs = s.regs ∧ (modRsto i f s).pp = s.pp ∧
    (modRsto i f s).chg = s.chg ∧ (modRsto i f s).gauge = s.gauge ∧ (modRsto i f s).hk = s.hk ∧
    (modRsto i f s).therm = s.therm ∧ (modRsto i f s).wd = s.wd ∧ (modRsto i f s).ewd = s.ewd ∧ (modRsto i f s).log = s.log ∧
    (modRsto i f s).faultLine = s.faultLine ∧ (modRsto i f s).safeN = s.safeN ∧ (modRsto i f s).fab = s.fab ∧
    (modRsto i f s).evc = s.evc ∧ (modRsto i f s).tw = s.tw ∧ (modRsto i f s).can = s.can ∧ (modRsto i f s).roles = s.roles ∧
    (modRsto i f s).reports = s.reports ∧ (modRsto i f s).xb = s.xb ∧ (modRsto i f s).netLast = s.netLast ∧
    (modRsto i f s).dirSel = s.dirSel ∧ (modRsto i f s).update = s.update ∧ (modRsto i f s).skipCnt = s.skipCnt ∧
    (modRsto i f s).hintAt = s.hintAt ∧ (modRsto i f s).ack = s.ack ∧ (modRsto i f s).devTime = s.devTime ∧
    (modRsto i f s).aonAcc = s.aonAcc ∧ (modRsto i f s).freeCtr = s.freeCtr ∧ (modRsto i f s).pending = s.pending := by and_intros <;> rfl

@[simp] theorem modTw_tw (i : Fin 2) (f : TwPort → TwPort) (s : State) : (modTw i f s).tw = vmod s.tw i f := rfl
@[simp] theorem modTw_frame (i : Fin 2) (f : TwPort → TwPort) (s : State) :
    (modTw i f s).part = s.part ∧ (modTw i f s).settings = s.settings ∧ (modTw i f s).mram = s.mram ∧ (modTw i f s).nv = s.nv ∧
    (modTw i f s).clk = s.clk ∧ (modTw i f s).hamper = s.hamper ∧ (modTw i f s).links = s.links ∧
    (modTw i f s).straps = s.straps ∧ (modTw i f s).boot = s.boot ∧ (modTw i f s).sk = s.sk ∧ (modTw i f s).pwr = s.pwr ∧
    (modTw i f s).zin = s.zin ∧ (modTw i f s).fo = s.fo ∧ (modTw i f s).zbus = s.zbus ∧ (modTw i f s).rails = s.rails ∧
    (modTw i f s).phases = s.phases ∧ (modTw i f s).gangs = s.gangs ∧ (modTw i f s).dies = s.dies ∧
    (modTw i f s).items = s.items ∧ (modTw i f s).groups = s.groups ∧ (modTw i f s).regs = s.regs ∧
    (modTw i f s).rsto = s.rsto ∧ (modTw i f s).pp = s.pp ∧ (modTw i f s).chg = s.chg ∧ (modTw i f s).gauge = s.gauge ∧
    (modTw i f s).hk = s.hk ∧ (modTw i f s).therm = s.therm ∧ (modTw i f s).wd = s.wd ∧ (modTw i f s).ewd = s.ewd ∧
    (modTw i f s).log = s.log ∧ (modTw i f s).faultLine = s.faultLine ∧ (modTw i f s).safeN = s.safeN ∧
    (modTw i f s).fab = s.fab ∧ (modTw i f s).evc = s.evc ∧ (modTw i f s).can = s.can ∧ (modTw i f s).roles = s.roles ∧
    (modTw i f s).reports = s.reports ∧ (modTw i f s).xb = s.xb ∧ (modTw i f s).netLast = s.netLast ∧
    (modTw i f s).dirSel = s.dirSel ∧ (modTw i f s).update = s.update ∧ (modTw i f s).skipCnt = s.skipCnt ∧
    (modTw i f s).hintAt = s.hintAt ∧ (modTw i f s).ack = s.ack ∧ (modTw i f s).devTime = s.devTime ∧
    (modTw i f s).aonAcc = s.aonAcc ∧ (modTw i f s).freeCtr = s.freeCtr ∧ (modTw i f s).pending = s.pending := by and_intros <;> rfl

@[simp] theorem modCan_can (i : Fin 4) (f : CanPort → CanPort) (s : State) : (modCan i f s).can = vmod s.can i f := rfl
@[simp] theorem modCan_frame (i : Fin 4) (f : CanPort → CanPort) (s : State) :
    (modCan i f s).part = s.part ∧ (modCan i f s).settings = s.settings ∧ (modCan i f s).mram = s.mram ∧
    (modCan i f s).nv = s.nv ∧ (modCan i f s).clk = s.clk ∧ (modCan i f s).hamper = s.hamper ∧ (modCan i f s).links = s.links ∧
    (modCan i f s).straps = s.straps ∧ (modCan i f s).boot = s.boot ∧ (modCan i f s).sk = s.sk ∧ (modCan i f s).pwr = s.pwr ∧
    (modCan i f s).zin = s.zin ∧ (modCan i f s).fo = s.fo ∧ (modCan i f s).zbus = s.zbus ∧ (modCan i f s).rails = s.rails ∧
    (modCan i f s).phases = s.phases ∧ (modCan i f s).gangs = s.gangs ∧ (modCan i f s).dies = s.dies ∧
    (modCan i f s).items = s.items ∧ (modCan i f s).groups = s.groups ∧ (modCan i f s).regs = s.regs ∧
    (modCan i f s).rsto = s.rsto ∧ (modCan i f s).pp = s.pp ∧ (modCan i f s).chg = s.chg ∧ (modCan i f s).gauge = s.gauge ∧
    (modCan i f s).hk = s.hk ∧ (modCan i f s).therm = s.therm ∧ (modCan i f s).wd = s.wd ∧ (modCan i f s).ewd = s.ewd ∧
    (modCan i f s).log = s.log ∧ (modCan i f s).faultLine = s.faultLine ∧ (modCan i f s).safeN = s.safeN ∧
    (modCan i f s).fab = s.fab ∧ (modCan i f s).evc = s.evc ∧ (modCan i f s).tw = s.tw ∧ (modCan i f s).roles = s.roles ∧
    (modCan i f s).reports = s.reports ∧ (modCan i f s).xb = s.xb ∧ (modCan i f s).netLast = s.netLast ∧
    (modCan i f s).dirSel = s.dirSel ∧ (modCan i f s).update = s.update ∧ (modCan i f s).skipCnt = s.skipCnt ∧
    (modCan i f s).hintAt = s.hintAt ∧ (modCan i f s).ack = s.ack ∧ (modCan i f s).devTime = s.devTime ∧
    (modCan i f s).aonAcc = s.aonAcc ∧ (modCan i f s).freeCtr = s.freeCtr ∧ (modCan i f s).pending = s.pending := by and_intros <;> rfl

@[simp] theorem modSlot_mram (i : Fin 2) (f : GaugeSlot → GaugeSlot) (s : State) : (modSlot i f s).mram = { s.mram with slots := vmod s.mram.slots i f } := rfl
@[simp] theorem modSlot_frame (i : Fin 2) (f : GaugeSlot → GaugeSlot) (s : State) :
    (modSlot i f s).part = s.part ∧ (modSlot i f s).settings = s.settings ∧ (modSlot i f s).nv = s.nv ∧
    (modSlot i f s).clk = s.clk ∧ (modSlot i f s).hamper = s.hamper ∧ (modSlot i f s).links = s.links ∧
    (modSlot i f s).straps = s.straps ∧ (modSlot i f s).boot = s.boot ∧ (modSlot i f s).sk = s.sk ∧
    (modSlot i f s).pwr = s.pwr ∧ (modSlot i f s).zin = s.zin ∧ (modSlot i f s).fo = s.fo ∧ (modSlot i f s).zbus = s.zbus ∧
    (modSlot i f s).rails = s.rails ∧ (modSlot i f s).phases = s.phases ∧ (modSlot i f s).gangs = s.gangs ∧
    (modSlot i f s).dies = s.dies ∧ (modSlot i f s).items = s.items ∧ (modSlot i f s).groups = s.groups ∧
    (modSlot i f s).regs = s.regs ∧ (modSlot i f s).rsto = s.rsto ∧ (modSlot i f s).pp = s.pp ∧ (modSlot i f s).chg = s.chg ∧
    (modSlot i f s).gauge = s.gauge ∧ (modSlot i f s).hk = s.hk ∧ (modSlot i f s).therm = s.therm ∧ (modSlot i f s).wd = s.wd ∧
    (modSlot i f s).ewd = s.ewd ∧ (modSlot i f s).log = s.log ∧ (modSlot i f s).faultLine = s.faultLine ∧
    (modSlot i f s).safeN = s.safeN ∧ (modSlot i f s).fab = s.fab ∧ (modSlot i f s).evc = s.evc ∧ (modSlot i f s).tw = s.tw ∧
    (modSlot i f s).can = s.can ∧ (modSlot i f s).roles = s.roles ∧ (modSlot i f s).reports = s.reports ∧
    (modSlot i f s).xb = s.xb ∧ (modSlot i f s).netLast = s.netLast ∧ (modSlot i f s).dirSel = s.dirSel ∧
    (modSlot i f s).update = s.update ∧ (modSlot i f s).skipCnt = s.skipCnt ∧ (modSlot i f s).hintAt = s.hintAt ∧
    (modSlot i f s).ack = s.ack ∧ (modSlot i f s).devTime = s.devTime ∧ (modSlot i f s).aonAcc = s.aonAcc ∧
    (modSlot i f s).freeCtr = s.freeCtr ∧ (modSlot i f s).pending = s.pending := by and_intros <;> rfl

@[simp] theorem modFix_mram (i : Fin 2) (f : LfSlot → LfSlot) (s : State) : (modFix i f s).mram = { s.mram with lf := vmod s.mram.lf i f } := rfl
@[simp] theorem modFix_frame (i : Fin 2) (f : LfSlot → LfSlot) (s : State) :
    (modFix i f s).part = s.part ∧ (modFix i f s).settings = s.settings ∧ (modFix i f s).nv = s.nv ∧
    (modFix i f s).clk = s.clk ∧ (modFix i f s).hamper = s.hamper ∧ (modFix i f s).links = s.links ∧
    (modFix i f s).straps = s.straps ∧ (modFix i f s).boot = s.boot ∧ (modFix i f s).sk = s.sk ∧ (modFix i f s).pwr = s.pwr ∧
    (modFix i f s).zin = s.zin ∧ (modFix i f s).fo = s.fo ∧ (modFix i f s).zbus = s.zbus ∧ (modFix i f s).rails = s.rails ∧
    (modFix i f s).phases = s.phases ∧ (modFix i f s).gangs = s.gangs ∧ (modFix i f s).dies = s.dies ∧
    (modFix i f s).items = s.items ∧ (modFix i f s).groups = s.groups ∧ (modFix i f s).regs = s.regs ∧
    (modFix i f s).rsto = s.rsto ∧ (modFix i f s).pp = s.pp ∧ (modFix i f s).chg = s.chg ∧ (modFix i f s).gauge = s.gauge ∧
    (modFix i f s).hk = s.hk ∧ (modFix i f s).therm = s.therm ∧ (modFix i f s).wd = s.wd ∧ (modFix i f s).ewd = s.ewd ∧
    (modFix i f s).log = s.log ∧ (modFix i f s).faultLine = s.faultLine ∧ (modFix i f s).safeN = s.safeN ∧
    (modFix i f s).fab = s.fab ∧ (modFix i f s).evc = s.evc ∧ (modFix i f s).tw = s.tw ∧ (modFix i f s).can = s.can ∧
    (modFix i f s).roles = s.roles ∧ (modFix i f s).reports = s.reports ∧ (modFix i f s).xb = s.xb ∧
    (modFix i f s).netLast = s.netLast ∧ (modFix i f s).dirSel = s.dirSel ∧ (modFix i f s).update = s.update ∧
    (modFix i f s).skipCnt = s.skipCnt ∧ (modFix i f s).hintAt = s.hintAt ∧ (modFix i f s).ack = s.ack ∧
    (modFix i f s).devTime = s.devTime ∧ (modFix i f s).aonAcc = s.aonAcc ∧ (modFix i f s).freeCtr = s.freeCtr ∧
    (modFix i f s).pending = s.pending := by and_intros <;> rfl

@[simp] theorem modCopy_mram (i : Fin 3) (f : CfgCopy → CfgCopy) (s : State) : (modCopy i f s).mram = { s.mram with cfg := vmod s.mram.cfg i f } := rfl
@[simp] theorem modCopy_frame (i : Fin 3) (f : CfgCopy → CfgCopy) (s : State) :
    (modCopy i f s).part = s.part ∧ (modCopy i f s).settings = s.settings ∧ (modCopy i f s).nv = s.nv ∧
    (modCopy i f s).clk = s.clk ∧ (modCopy i f s).hamper = s.hamper ∧ (modCopy i f s).links = s.links ∧
    (modCopy i f s).straps = s.straps ∧ (modCopy i f s).boot = s.boot ∧ (modCopy i f s).sk = s.sk ∧
    (modCopy i f s).pwr = s.pwr ∧ (modCopy i f s).zin = s.zin ∧ (modCopy i f s).fo = s.fo ∧ (modCopy i f s).zbus = s.zbus ∧
    (modCopy i f s).rails = s.rails ∧ (modCopy i f s).phases = s.phases ∧ (modCopy i f s).gangs = s.gangs ∧
    (modCopy i f s).dies = s.dies ∧ (modCopy i f s).items = s.items ∧ (modCopy i f s).groups = s.groups ∧
    (modCopy i f s).regs = s.regs ∧ (modCopy i f s).rsto = s.rsto ∧ (modCopy i f s).pp = s.pp ∧ (modCopy i f s).chg = s.chg ∧
    (modCopy i f s).gauge = s.gauge ∧ (modCopy i f s).hk = s.hk ∧ (modCopy i f s).therm = s.therm ∧ (modCopy i f s).wd = s.wd ∧
    (modCopy i f s).ewd = s.ewd ∧ (modCopy i f s).log = s.log ∧ (modCopy i f s).faultLine = s.faultLine ∧
    (modCopy i f s).safeN = s.safeN ∧ (modCopy i f s).fab = s.fab ∧ (modCopy i f s).evc = s.evc ∧ (modCopy i f s).tw = s.tw ∧
    (modCopy i f s).can = s.can ∧ (modCopy i f s).roles = s.roles ∧ (modCopy i f s).reports = s.reports ∧
    (modCopy i f s).xb = s.xb ∧ (modCopy i f s).netLast = s.netLast ∧ (modCopy i f s).dirSel = s.dirSel ∧
    (modCopy i f s).update = s.update ∧ (modCopy i f s).skipCnt = s.skipCnt ∧ (modCopy i f s).hintAt = s.hintAt ∧
    (modCopy i f s).ack = s.ack ∧ (modCopy i f s).devTime = s.devTime ∧ (modCopy i f s).aonAcc = s.aonAcc ∧
    (modCopy i f s).freeCtr = s.freeCtr ∧ (modCopy i f s).pending = s.pending := by and_intros <;> rfl

@[simp] theorem modBank_mram (i : Fin 2) (f : Bank → Bank) (s : State) : (modBank i f s).mram = { s.mram with banks := vmod s.mram.banks i f } := rfl
@[simp] theorem modBank_frame (i : Fin 2) (f : Bank → Bank) (s : State) :
    (modBank i f s).part = s.part ∧ (modBank i f s).settings = s.settings ∧ (modBank i f s).nv = s.nv ∧
    (modBank i f s).clk = s.clk ∧ (modBank i f s).hamper = s.hamper ∧ (modBank i f s).links = s.links ∧
    (modBank i f s).straps = s.straps ∧ (modBank i f s).boot = s.boot ∧ (modBank i f s).sk = s.sk ∧
    (modBank i f s).pwr = s.pwr ∧ (modBank i f s).zin = s.zin ∧ (modBank i f s).fo = s.fo ∧ (modBank i f s).zbus = s.zbus ∧
    (modBank i f s).rails = s.rails ∧ (modBank i f s).phases = s.phases ∧ (modBank i f s).gangs = s.gangs ∧
    (modBank i f s).dies = s.dies ∧ (modBank i f s).items = s.items ∧ (modBank i f s).groups = s.groups ∧
    (modBank i f s).regs = s.regs ∧ (modBank i f s).rsto = s.rsto ∧ (modBank i f s).pp = s.pp ∧ (modBank i f s).chg = s.chg ∧
    (modBank i f s).gauge = s.gauge ∧ (modBank i f s).hk = s.hk ∧ (modBank i f s).therm = s.therm ∧ (modBank i f s).wd = s.wd ∧
    (modBank i f s).ewd = s.ewd ∧ (modBank i f s).log = s.log ∧ (modBank i f s).faultLine = s.faultLine ∧
    (modBank i f s).safeN = s.safeN ∧ (modBank i f s).fab = s.fab ∧ (modBank i f s).evc = s.evc ∧ (modBank i f s).tw = s.tw ∧
    (modBank i f s).can = s.can ∧ (modBank i f s).roles = s.roles ∧ (modBank i f s).reports = s.reports ∧
    (modBank i f s).xb = s.xb ∧ (modBank i f s).netLast = s.netLast ∧ (modBank i f s).dirSel = s.dirSel ∧
    (modBank i f s).update = s.update ∧ (modBank i f s).skipCnt = s.skipCnt ∧ (modBank i f s).hintAt = s.hintAt ∧
    (modBank i f s).ack = s.ack ∧ (modBank i f s).devTime = s.devTime ∧ (modBank i f s).aonAcc = s.aonAcc ∧
    (modBank i f s).freeCtr = s.freeCtr ∧ (modBank i f s).pending = s.pending := by and_intros <;> rfl

@[simp] theorem modHc_mram (f : HomeChart → HomeChart) (s : State) : (modHc f s).mram = { s.mram with hc := f s.mram.hc } := rfl
@[simp] theorem modHc_frame (f : HomeChart → HomeChart) (s : State) :
    (modHc f s).part = s.part ∧ (modHc f s).settings = s.settings ∧ (modHc f s).nv = s.nv ∧ (modHc f s).clk = s.clk ∧
    (modHc f s).hamper = s.hamper ∧ (modHc f s).links = s.links ∧ (modHc f s).straps = s.straps ∧ (modHc f s).boot = s.boot ∧
    (modHc f s).sk = s.sk ∧ (modHc f s).pwr = s.pwr ∧ (modHc f s).zin = s.zin ∧ (modHc f s).fo = s.fo ∧
    (modHc f s).zbus = s.zbus ∧ (modHc f s).rails = s.rails ∧ (modHc f s).phases = s.phases ∧ (modHc f s).gangs = s.gangs ∧
    (modHc f s).dies = s.dies ∧ (modHc f s).items = s.items ∧ (modHc f s).groups = s.groups ∧ (modHc f s).regs = s.regs ∧
    (modHc f s).rsto = s.rsto ∧ (modHc f s).pp = s.pp ∧ (modHc f s).chg = s.chg ∧ (modHc f s).gauge = s.gauge ∧
    (modHc f s).hk = s.hk ∧ (modHc f s).therm = s.therm ∧ (modHc f s).wd = s.wd ∧ (modHc f s).ewd = s.ewd ∧
    (modHc f s).log = s.log ∧ (modHc f s).faultLine = s.faultLine ∧ (modHc f s).safeN = s.safeN ∧ (modHc f s).fab = s.fab ∧
    (modHc f s).evc = s.evc ∧ (modHc f s).tw = s.tw ∧ (modHc f s).can = s.can ∧ (modHc f s).roles = s.roles ∧
    (modHc f s).reports = s.reports ∧ (modHc f s).xb = s.xb ∧ (modHc f s).netLast = s.netLast ∧ (modHc f s).dirSel = s.dirSel ∧
    (modHc f s).update = s.update ∧ (modHc f s).skipCnt = s.skipCnt ∧ (modHc f s).hintAt = s.hintAt ∧ (modHc f s).ack = s.ack ∧
    (modHc f s).devTime = s.devTime ∧ (modHc f s).aonAcc = s.aonAcc ∧ (modHc f s).freeCtr = s.freeCtr ∧
    (modHc f s).pending = s.pending := by and_intros <;> rfl

@[simp] theorem setAck_ack (a : Ack) (s : State) : (setAck a s).ack = a := rfl
@[simp] theorem setAck_frame (a : Ack) (s : State) :
    (setAck a s).part = s.part ∧ (setAck a s).settings = s.settings ∧ (setAck a s).mram = s.mram ∧ (setAck a s).nv = s.nv ∧
    (setAck a s).clk = s.clk ∧ (setAck a s).hamper = s.hamper ∧ (setAck a s).links = s.links ∧ (setAck a s).straps = s.straps ∧
    (setAck a s).boot = s.boot ∧ (setAck a s).sk = s.sk ∧ (setAck a s).pwr = s.pwr ∧ (setAck a s).zin = s.zin ∧
    (setAck a s).fo = s.fo ∧ (setAck a s).zbus = s.zbus ∧ (setAck a s).rails = s.rails ∧ (setAck a s).phases = s.phases ∧
    (setAck a s).gangs = s.gangs ∧ (setAck a s).dies = s.dies ∧ (setAck a s).items = s.items ∧ (setAck a s).groups = s.groups ∧
    (setAck a s).regs = s.regs ∧ (setAck a s).rsto = s.rsto ∧ (setAck a s).pp = s.pp ∧ (setAck a s).chg = s.chg ∧
    (setAck a s).gauge = s.gauge ∧ (setAck a s).hk = s.hk ∧ (setAck a s).therm = s.therm ∧ (setAck a s).wd = s.wd ∧
    (setAck a s).ewd = s.ewd ∧ (setAck a s).log = s.log ∧ (setAck a s).faultLine = s.faultLine ∧ (setAck a s).safeN = s.safeN ∧
    (setAck a s).fab = s.fab ∧ (setAck a s).evc = s.evc ∧ (setAck a s).tw = s.tw ∧ (setAck a s).can = s.can ∧
    (setAck a s).roles = s.roles ∧ (setAck a s).reports = s.reports ∧ (setAck a s).xb = s.xb ∧
    (setAck a s).netLast = s.netLast ∧ (setAck a s).dirSel = s.dirSel ∧ (setAck a s).update = s.update ∧
    (setAck a s).skipCnt = s.skipCnt ∧ (setAck a s).hintAt = s.hintAt ∧ (setAck a s).devTime = s.devTime ∧
    (setAck a s).aonAcc = s.aonAcc ∧ (setAck a s).freeCtr = s.freeCtr ∧ (setAck a s).pending = s.pending := by and_intros <;> rfl

@[simp] theorem useFree_freeCtr (s : State) : (useFree s).freeCtr = s.freeCtr + 1 := rfl
@[simp] theorem useFree_frame (s : State) :
    (useFree s).part = s.part ∧ (useFree s).settings = s.settings ∧ (useFree s).mram = s.mram ∧ (useFree s).nv = s.nv ∧
    (useFree s).clk = s.clk ∧ (useFree s).hamper = s.hamper ∧ (useFree s).links = s.links ∧ (useFree s).straps = s.straps ∧
    (useFree s).boot = s.boot ∧ (useFree s).sk = s.sk ∧ (useFree s).pwr = s.pwr ∧ (useFree s).zin = s.zin ∧
    (useFree s).fo = s.fo ∧ (useFree s).zbus = s.zbus ∧ (useFree s).rails = s.rails ∧ (useFree s).phases = s.phases ∧
    (useFree s).gangs = s.gangs ∧ (useFree s).dies = s.dies ∧ (useFree s).items = s.items ∧ (useFree s).groups = s.groups ∧
    (useFree s).regs = s.regs ∧ (useFree s).rsto = s.rsto ∧ (useFree s).pp = s.pp ∧ (useFree s).chg = s.chg ∧
    (useFree s).gauge = s.gauge ∧ (useFree s).hk = s.hk ∧ (useFree s).therm = s.therm ∧ (useFree s).wd = s.wd ∧
    (useFree s).ewd = s.ewd ∧ (useFree s).log = s.log ∧ (useFree s).faultLine = s.faultLine ∧ (useFree s).safeN = s.safeN ∧
    (useFree s).fab = s.fab ∧ (useFree s).evc = s.evc ∧ (useFree s).tw = s.tw ∧ (useFree s).can = s.can ∧
    (useFree s).roles = s.roles ∧ (useFree s).reports = s.reports ∧ (useFree s).xb = s.xb ∧ (useFree s).netLast = s.netLast ∧
    (useFree s).dirSel = s.dirSel ∧ (useFree s).update = s.update ∧ (useFree s).skipCnt = s.skipCnt ∧
    (useFree s).hintAt = s.hintAt ∧ (useFree s).ack = s.ack ∧ (useFree s).devTime = s.devTime ∧ (useFree s).aonAcc = s.aonAcc ∧
    (useFree s).pending = s.pending := by and_intros <;> rfl

@[simp] theorem store_settings (k v : Nat) (s : State) : (s.store k v).settings = mapPut k v s.settings := rfl
@[simp] theorem store_frame (k v : Nat) (s : State) :
    (s.store k v).part = s.part ∧ (s.store k v).mram = s.mram ∧ (s.store k v).nv = s.nv ∧ (s.store k v).clk = s.clk ∧
    (s.store k v).hamper = s.hamper ∧ (s.store k v).links = s.links ∧ (s.store k v).straps = s.straps ∧
    (s.store k v).boot = s.boot ∧ (s.store k v).sk = s.sk ∧ (s.store k v).pwr = s.pwr ∧ (s.store k v).zin = s.zin ∧
    (s.store k v).fo = s.fo ∧ (s.store k v).zbus = s.zbus ∧ (s.store k v).rails = s.rails ∧ (s.store k v).phases = s.phases ∧
    (s.store k v).gangs = s.gangs ∧ (s.store k v).dies = s.dies ∧ (s.store k v).items = s.items ∧
    (s.store k v).groups = s.groups ∧ (s.store k v).regs = s.regs ∧ (s.store k v).rsto = s.rsto ∧ (s.store k v).pp = s.pp ∧
    (s.store k v).chg = s.chg ∧ (s.store k v).gauge = s.gauge ∧ (s.store k v).hk = s.hk ∧ (s.store k v).therm = s.therm ∧
    (s.store k v).wd = s.wd ∧ (s.store k v).ewd = s.ewd ∧ (s.store k v).log = s.log ∧ (s.store k v).faultLine = s.faultLine ∧
    (s.store k v).safeN = s.safeN ∧ (s.store k v).fab = s.fab ∧ (s.store k v).evc = s.evc ∧ (s.store k v).tw = s.tw ∧
    (s.store k v).can = s.can ∧ (s.store k v).roles = s.roles ∧ (s.store k v).reports = s.reports ∧ (s.store k v).xb = s.xb ∧
    (s.store k v).netLast = s.netLast ∧ (s.store k v).dirSel = s.dirSel ∧ (s.store k v).update = s.update ∧
    (s.store k v).skipCnt = s.skipCnt ∧ (s.store k v).hintAt = s.hintAt ∧ (s.store k v).ack = s.ack ∧
    (s.store k v).devTime = s.devTime ∧ (s.store k v).aonAcc = s.aonAcc ∧ (s.store k v).freeCtr = s.freeCtr ∧
    (s.store k v).pending = s.pending := by and_intros <;> rfl

@[simp] theorem wrSet_tw (i : Fin 2) (w : WrResult) (ofs : Nat) (s : State) : (wrSet i w ofs s).tw = vmod s.tw i fun t => { t with wrResult := w, wrOffset := ofs } := rfl
@[simp] theorem wrSet_frame (i : Fin 2) (w : WrResult) (ofs : Nat) (s : State) :
    (wrSet i w ofs s).part = s.part ∧ (wrSet i w ofs s).settings = s.settings ∧ (wrSet i w ofs s).mram = s.mram ∧
    (wrSet i w ofs s).nv = s.nv ∧ (wrSet i w ofs s).clk = s.clk ∧ (wrSet i w ofs s).hamper = s.hamper ∧
    (wrSet i w ofs s).links = s.links ∧ (wrSet i w ofs s).straps = s.straps ∧ (wrSet i w ofs s).boot = s.boot ∧
    (wrSet i w ofs s).sk = s.sk ∧ (wrSet i w ofs s).pwr = s.pwr ∧ (wrSet i w ofs s).zin = s.zin ∧ (wrSet i w ofs s).fo = s.fo ∧
    (wrSet i w ofs s).zbus = s.zbus ∧ (wrSet i w ofs s).rails = s.rails ∧ (wrSet i w ofs s).phases = s.phases ∧
    (wrSet i w ofs s).gangs = s.gangs ∧ (wrSet i w ofs s).dies = s.dies ∧ (wrSet i w ofs s).items = s.items ∧
    (wrSet i w ofs s).groups = s.groups ∧ (wrSet i w ofs s).regs = s.regs ∧ (wrSet i w ofs s).rsto = s.rsto ∧
    (wrSet i w ofs s).pp = s.pp ∧ (wrSet i w ofs s).chg = s.chg ∧ (wrSet i w ofs s).gauge = s.gauge ∧
    (wrSet i w ofs s).hk = s.hk ∧ (wrSet i w ofs s).therm = s.therm ∧ (wrSet i w ofs s).wd = s.wd ∧
    (wrSet i w ofs s).ewd = s.ewd ∧ (wrSet i w ofs s).log = s.log ∧ (wrSet i w ofs s).faultLine = s.faultLine ∧
    (wrSet i w ofs s).safeN = s.safeN ∧ (wrSet i w ofs s).fab = s.fab ∧ (wrSet i w ofs s).evc = s.evc ∧
    (wrSet i w ofs s).can = s.can ∧ (wrSet i w ofs s).roles = s.roles ∧ (wrSet i w ofs s).reports = s.reports ∧
    (wrSet i w ofs s).xb = s.xb ∧ (wrSet i w ofs s).netLast = s.netLast ∧ (wrSet i w ofs s).dirSel = s.dirSel ∧
    (wrSet i w ofs s).update = s.update ∧ (wrSet i w ofs s).skipCnt = s.skipCnt ∧ (wrSet i w ofs s).hintAt = s.hintAt ∧
    (wrSet i w ofs s).ack = s.ack ∧ (wrSet i w ofs s).devTime = s.devTime ∧ (wrSet i w ofs s).aonAcc = s.aonAcc ∧
    (wrSet i w ofs s).freeCtr = s.freeCtr ∧ (wrSet i w ofs s).pending = s.pending := by and_intros <;> rfl

/-! ### Updates of parts of parts -/

@[simp] theorem modLoop_eq (i : Fin 28) (f : LoopState → LoopState) (s : State) : modLoop i f s = modRail i (fun x => { x with loop := f x.loop }) s := rfl
@[simp] theorem modDyn_eq (i : Fin 28) (f : DynState → DynState) (s : State) : modDyn i f s = modRail i (fun x => { x with dyn := f x.dyn }) s := rfl
@[simp] theorem modFc_eq (i : Fin 28) (f : FcTrim → FcTrim) (s : State) : modFc i f s = modRail i (fun x => { x with fc := f x.fc }) s := rfl
@[simp] theorem modProt_eq (i : Fin 28) (f : ProtState → ProtState) (s : State) : modProt i f s = modRail i (fun x => { x with prot := f x.prot }) s := rfl
@[simp] theorem modTun_eq (i : Fin 2) (f : Tunnel → Tunnel) (s : State) : modTun i f s = modTw i (fun x => { x with tun := f x.tun }) s := rfl
@[simp] theorem modAlm_eq (f : Almanac → Almanac) (s : State) : modAlm f s = modGg (fun g => { g with alm := f g.alm }) s := rfl
@[simp] theorem modHost_eq (h : Fin 2) (f : WdHost → WdHost) (s : State) : modHost h f s = modWd (fun w => { w with hosts := vmod w.hosts h f }) s := rfl
@[simp] theorem modDieT_eq (d : Fin 8) (f : DieTherm → DieTherm) (s : State) : modDieT d f s = modTherm (fun t => { t with die := vmod t.die d f }) s := rfl
@[simp] theorem setTransfer_eq (n : Fin 4) (t : Transfer) (s : State) : setTransfer n t s = modCan n (fun c => { c with transfer := t }) s := rfl
@[simp] theorem modEnd_helm (k : Fin 7) (f : LinkEnd → LinkEnd) (s : State) : modEnd k .atHelm f s = modLink k (fun l => { l with helm := f l.helm }) s := rfl
@[simp] theorem modEnd_rail (k : Fin 7) (f : LinkEnd → LinkEnd) (s : State) : modEnd k .atRail f s = modLink k (fun l => { l with rail := f l.rail }) s := rfl

end Sys2Proof.Machine
end

