-- ==== Sys2Proof/Tests/Slice0.lean ====
section
/-! SUPPORT. Named tests: ill-formed commands that `Instr.wf` refuses, the manual's own examples, and for every statement with
hypotheses states and operands that meet them, clause by clause. -/

namespace Sys2Proof.Tests

set_option Elab.async false

open Sys2Proof Sys2Proof.Machine

/-- A part in RUN after boot: clocks, links and dies well, the master on CAN port 0. -/
def rdy : State := { State.reset with
  boot.phase := .ready, boot.odAnswering := true, boot.step8 := true, pwr.state := .run, log.ready := true, nv.keyLoaded := true
  clk := ⟨true, true, true, true, true, Vector.replicate 7 true, 0⟩
  links := Vector.replicate 7 { LinkState.init with phase := .up, retrained := true }
  dies := Vector.replicate 7 { DieState.init with vdrOk := true }
  can := Vector.replicate 4 { CanPort.init with inForce := [0, 2, 63, 16, 16, 1, 31, 8, 8, 0, 32] }
  roles := #v[0, 3, 3, 3, 0, 3], ewd.running := true }

/-- Helpers that take a result apart. -/
def noRow : ObjRow := ⟨0, 0, 0, 0, .u8, .ro, 0, 0⟩
def okRow (x : Except AbortCode ObjRow) : ObjRow := match x with | .ok r => r | .error _ => noRow
def errOf (x : Except AbortCode ObjRow) : AbortCode := match x with | .ok _ => .malformed | .error c => c
def bytesOf (a : Ack) : List Byte := match a with | .value b => b | _ => []
def nx (r : Res) : State := match r with | .next t => t | _ => rdy

def fr0 : LinkFrame := ⟨0, 0, 0, .idle, 0⟩
def rec0 : LogRec := ⟨1, 0, 0, 1, 0, false, 0, 0, 0, 0⟩

/-- Rail 0 on phases 0 and 1, enabled, in step 0 of group 0. -/
def run0 : State := { rdy with
  settings := [(okey 0x2500 1, 0), (okey 0x2600 1, 0), (okey 0x3400 1, 0), (okey 0x3401 1, 0)]
  rails := vmod rdy.rails 0 fun x => { x with enabled := true }
  phases := vmod (vmod rdy.phases 0 fun x => { x with run := .active }) 1 fun x => { x with run := .active } }

/-- Group 0 formed over dies 1 to 3, one phase of rail 0 on each of dies 1 and 2. -/
def gang0 : State := { rdy with
  settings := [(okey 0x3400 1, 0), (okey 0x3408 1, 0)]
  gangs := vmod rdy.gangs 0 fun x => { x with phase := .formed, dies := 3 }
  rails := vmod rdy.rails 0 fun x => { x with enabled := true } }

/-- Fused output 3 in a state with a retry count. -/
def foAt (p : FoPhase) (n : Nat) : State :=
  { rdy with fo := vmod rdy.fo 3 fun x => { x with phase := p, present := true, commanded := true, retryCnt := n, retryTimer := true } }

/-- CAN ports 0 and 2 run, of roles MASTER and ZONE. -/
def canRun : State := { rdy with
  roles := #v[0, 3, 1, 3, 0, 3]
  can := vmod (vmod rdy.can 0 fun c => { c with phase := .errorActive }) 2 fun c => { c with phase := .errorActive } }

/-- The zone bus has dipped: slot 4 pends for host 0, port 0 at address 0x65. -/
def dipped : State := { rdy with
  settings := [(okey 0x2C10 5, 1)], straps.twa := 5, evc.pend := 0x10, evc.level := 0x10, evc.alert := #v[true, false] }

/-- The table of R235's example on rail 0: 0 W, 200 W, 500 W, 900 W at 9.0 V, 10.0 V, 11.5 V, 12.5 V. -/
def trimExample : List (Nat × Nat) := [(okey 0x3100 0x25, 9000), (okey 0x3100 0x26, 10000), (okey 0x3100 0x27, 11500), (okey 0x3100 0x28, 12500)]

/-! ### Ill-formed commands -/

theorem test_wf_refuses_absent_parts :
    (Instr.rsysClockCheck 1 0).wf .qmn2402 = false ∧ (Instr.linkFrameBad 3 .atHelm 0 0).wf .qmn2404 = false ∧
    (Instr.demandLaneFail 0 3).wf .qmn2404 = false ∧ (Instr.gangChangeAck 0 6).wf .qmn2404 = false ∧
    (Instr.disableBoundaryReached (.busTrim 4)).wf .qmn2402 = false ∧ (Instr.slewTargetReached 12).wf .qmn2404 = false ∧
    (Instr.gangChangeRequest 0 (.shed 8)).wf .qmn2402 = false ∧ (Instr.valleyLimit 24 0).wf .qmn2404 = false ∧
    (Instr.itemPgFall 4).wf .qmn2402 = false ∧ (Instr.itemPgFall 28).wf .qmn2402 = true ∧
    (Instr.roSample 2 []).wf .qmn2402 = false ∧ (Instr.engineService 6).wf .qmn2402 = false ∧
    (Instr.logbookEntry .tamper 8 0 0).wf .qmn2408 = false ∧ (Instr.linkCommand 0 0 0 (.enable 4)).wf .qmn2402 = false := by
  decide

theorem test_wf_refuses_link_fields :
    (Instr.linkNak 0 .atHelm 8).wf .qmn2408 = false ∧ (Instr.linkFrameBad 0 .atHelm (2 ^ 64) 0).wf .qmn2408 = false ∧
    (Instr.linkFrameBad 0 .atHelm 0 65536).wf .qmn2408 = false ∧ (Instr.linkIdle 0 .atRail 8).wf .qmn2408 = false ∧
    (Instr.linkCommand 0 8 0 (.enable 0)).wf .qmn2408 = false ∧ (Instr.linkCommand 0 0 8 (.enable 0)).wf .qmn2408 = false ∧
    (Instr.linkEvent 0 8 0 0 0).wf .qmn2408 = false ∧ (Instr.linkEvent 0 0 8 0 0).wf .qmn2408 = false ∧
    (Instr.linkEvent 0 0 0 8 0).wf .qmn2408 = false ∧ (Instr.linkEvent 0 0 0 0 (2 ^ 40)).wf .qmn2408 = false ∧
    (Instr.linkObjWrite 0 8 0 0 0 0 0).wf .qmn2408 = false ∧ (Instr.linkObjWrite 0 0 8 0 0 0 0).wf .qmn2408 = false ∧
    (Instr.linkObjWrite 0 0 0 64 0 0 0).wf .qmn2408 = false ∧ (Instr.linkObjWrite 0 0 0 0 256 0 0).wf .qmn2408 = false ∧
    (Instr.linkObjWrite 0 0 0 0 0 256 0).wf .qmn2408 = false ∧ (Instr.linkObjWrite 0 0 0 0 0 0 (2 ^ 32)).wf .qmn2408 = false ∧
    (Instr.linkObjRead 0 0 0 64 0 0).wf .qmn2408 = false ∧
    (Instr.linkObjData 0 0 0 64 0 0 0).wf .qmn2408 = false ∧ (Instr.linkObjData 0 0 0 0 0 0 (2 ^ 32)).wf .qmn2408 = false ∧
    (Instr.linkTelemetry 0 0 0 4096 0).wf .qmn2408 = false ∧ (Instr.linkTelemetry 0 0 0 0 (2 ^ 32)).wf .qmn2408 = false := by
  decide

theorem test_wf_refuses_wide_values :
    (Instr.hamperAccess [⟨.logbook, 0, true, 2 ^ 64⟩] .clean).wf .qmn2408 = false ∧
    (Instr.wake (2 ^ 14)).wf .qmn2408 = false ∧ (Instr.resetCmd 0 (2 ^ 32)).wf .qmn2408 = false ∧
    (Instr.zinClear 0 0 256).wf .qmn2408 = false ∧ (Instr.pfwSlopeSample 4096).wf .qmn2408 = false ∧
    (Instr.railVsetWrite 0 0 65536).wf .qmn2408 = false ∧ (Instr.fcWindowWrite 0 0 (2 ^ 24)).wf .qmn2408 = false ∧
    (Instr.hkConversionEnd 0 0 4096 0).wf .qmn2408 = false ∧ (Instr.hkSlowRound [(0, 4096)] 0).wf .qmn2408 = false ∧
    (Instr.periodBoundary 0 [⟨65536, []⟩]).wf .qmn2408 = false ∧ (Instr.logbookEntry .tamper 0 65536 0).wf .qmn2408 = false ∧
    (Instr.logbookEntry .tamper 0 0 (2 ^ 32)).wf .qmn2408 = false := by
  decide

theorem test_wf_refuses_port_fields :
    (Instr.wdAnswer 4 0 65536 0).wf .qmn2408 = false ∧ (Instr.wdAnswer 4 0 0 65536).wf .qmn2408 = false ∧
    (Instr.wdCheckin 4 0 256).wf .qmn2408 = false ∧ (Instr.registerWrite 0 256 [] 0).wf .qmn2408 = false ∧
    (Instr.registerWrite 0 0 (List.replicate 257 0) 0).wf .qmn2408 = false ∧ (Instr.registerWrite 0 0 [] 256).wf .qmn2408 = false ∧ (Instr.complete 0 256).wf .qmn2408 = false ∧
    (Instr.read 0 256 0 0).wf .qmn2408 = false ∧ (Instr.read 0 0 65536 0).wf .qmn2408 = false ∧
    (Instr.read 0 0 0 256).wf .qmn2408 = false ∧ (Instr.write 0 0 0 0 (List.replicate 57 0)).wf .qmn2408 = false ∧
    (Instr.blockWriteInit 0 0 0 0 (2 ^ 32)).wf .qmn2408 = false ∧ (Instr.segment 0 0 256 0 []).wf .qmn2408 = false ∧
    (Instr.segment 0 0 0 0 (List.replicate 61 0)).wf .qmn2408 = false ∧ (Instr.blockRequest 0 0 65536).wf .qmn2408 = false ∧
    (Instr.malformed 0 false (List.replicate 65 0)).wf .qmn2408 = false ∧ (Instr.objectWrite 0 65536 0 []).wf .qmn2408 = false := by
  decide +kernel

/-! ### The manual's own examples, one operation or one step each -/

/-- Local phase 5 and local loop 2 of die 4 are phase 29 and rail 14; rail 22 is local loop 2 of die 6 (R9, R561). -/
theorem test_global_numbers :
    phaseDie 29 = 3 ∧ railDie 14 = 3 ∧ railLoop 14 = 2 ∧ railDie 22 = 5 ∧ railLoop 22 = 2 ∧
    railPresent { rdy with part := .qmn2404 } 14 = false := by decide +kernel

/-- `RAIL_FSW` = 600 gives 1333 native ticks (R163). -/
theorem test_period_of_600_kHz : periodTicks { rdy with settings := [(okey 0x3000 3, 600)] } 0 = 1333 := by decide +kernel

/-- A stride of 11 on nine phases is 2 in force, and of 6 on four phases is 1 (R171). -/
theorem test_strides : effStride 9 11 = 2 ∧ effStride 4 6 = 1 := by decide +kernel

/-- 10 mV/µs at a divider of 1 is 1.28 units a sample, and 1 mV/µs at a divider of 10 is 0.0128 units (R205). -/
theorem test_slew_increments : slewInc 100 4096 = 128 * 65536 / 100 ∧ slewInc 10 40960 = 128 * 65536 / 10000 := by decide +kernel

/-- 12.0 V over a divider of 10 is 1.200 V at the pins (R196). -/
theorem test_pin_target : pinTarget 12000 40960 = 1200 * 32 * 65536 / 5 := by decide +kernel

/-- The example table of R235 gives 11.65 V at 560 W. -/
theorem test_trim_table : trimTable { rdy with settings := trimExample } 0 560000000 = 11650000 := by decide +kernel

/-- Eight samples of a fall of 26.7 V/ms give the slope −26.7 V/ms in codes of 75 mV: −28 codes is −26.25 V/ms (R144). -/
theorem test_pfw_slope :
    (nx (exec (.pfwSlopeSample 612) { rdy with zbus := { rdy.zbus with hist := [615, 619, 622, 626, 629, 633, 636, 640] } })).zbus.slope
      = -52500 := by decide +kernel

/-- The question 0x4C21 under the key 0x0F3A has the token 0x93BF, and the next question is 0x9210 (R432, R433). -/
theorem test_token : wdToken 0x4C21 0x0F3A = 0x93BF ∧ lfsrNext 0x4C21 = 0x9210 := by decide +kernel

/-- A fused output with `FO_RETRY_MAX` = 3: a trip takes the count to 1 and waits, the fourth locks (R130, R134). -/
theorem test_fused_output_trips :
    ((nx (exec (.fastTrip (.fo 3) 200000000) (foAt .on 0))).fo[3].phase, (nx (exec (.fastTrip (.fo 3) 200000000) (foAt .on 0))).fo[3].retryCnt) = (.retryWait, 1) ∧
    ((nx (exec (.fastTrip (.fo 3) 200000000) (foAt .on 3))).fo[3].phase, (nx (exec (.fastTrip (.fo 3) 200000000) (foAt .on 3))).fo[3].retryCnt) = (.locked, 4) := by
  decide +kernel

/-- Pulled out in RETRY_WAIT it is ABSENT and t_retry keeps running (R133). -/
theorem test_fused_output_pulled :
    ((nx (exec (.presenceLost 3) (foAt .retryWait 1))).fo[3].phase, (nx (exec (.presenceLost 3) (foAt .retryWait 1))).fo[3].retryTimer) = (.absent, true) := by
  decide +kernel

/-- `RESET_N` low is reset cause 0x03 (R102, R120). -/
theorem test_reset_pin_cause :
    ((nx (exec .resetPinRecognised rdy)).boot.phase, (nx (exec .resetPinRecognised rdy)).boot.curCause) = (.inReset, 3) := by
  decide +kernel

/-- Indices between the listed ones do not exist (R550). -/
theorem test_no_object : errOf (checkRead rdy 0 0x2109 1) = .noObject ∧ errOf (checkRead rdy 0 0x2A14 1) = .noObject := by
  decide +kernel

/-- The descriptors of `RAIL_VSET`, `WD_KEY_0` and `WD_ANSWER_0` (R560). -/
theorem test_descriptors :
    dirDesc .qmn2408 0x3100 1 = 0xB03 ∧ dirSize .qmn2408 0x3100 1 = 2 ∧ dirDesc .qmn2408 0x2A10 8 = 0xA03 ∧
    dirDesc .qmn2408 0x2A11 3 = 0x40203 := by decide +kernel

/-- A response of 10 bytes travels in 12 data bytes (R509). -/
theorem test_response_length : fdLen 10 = 12 := by decide

/-- The first bearing of the example is held and answered PENDING: 82 1C 06 21 01 02 00 00 (R523). -/
theorem test_first_bearing :
    ((nx (exec (.write 0 0x1C 0x2106 1 [1]) canRun)).can[0].txQueue.map (·.data)) = [[0x82, 0x1C, 0x06, 0x21, 0x01, 0x02, 0, 0]] ∧
    (nx (exec (.write 0 0x1C 0x2106 1 [1]) canRun)).xb.pend = [⟨0x2106, 1, 0, 0x1C, [1]⟩] := by decide +kernel

/-- The second applies the value; both ports hear DONE and `XB_LAST` reads 0x21060109 (R523). -/
theorem test_second_bearing :
    let t := nx (exec (.write 2 0x40 0x2106 1 [1]) { canRun with xb.pend := [⟨0x2106, 1, 0, 0x1C, [1]⟩] })
    (t.xb.last, t.xb.pend, t.settings) = (0x21060109, [], [(okey 0x2106 1, 1)]) ∧
    (t.can[2].txQueue ++ t.can[0].txQueue).map (·.data) =
      [[0x82, 0x40, 0x06, 0x21, 0x01, 0, 0, 0], [0x82, 0x1C, 0x06, 0x21, 0x01, 0, 0, 0]] := by decide +kernel

/-- The notification of slot 4 from address 0x65 to host address 0x08 is 0xCA, 0x04, 0x01 (R478). -/
theorem test_notification :
    (nx (exec (.twNotify 0) { dipped with tw := vmod dipped.tw 0 fun x => { x with due := true } })).tw[0].notified = [0x10, 0xCA, 0x04, 0x01] := by
  decide +kernel

/-- The claim of slot 4 answers 0x04 with flags 0x02 and `ALERT_0` falls; a fall in service is WITHDRAWN, 0x03 (R487, R490, R492). -/
theorem test_claim_and_withdrawal :
    let t := nx (exec (.claim 0) dipped)
    (t.tw[0].claimed, claimFlags t 0, t.evc.alert[0]) = (some 4, 2, false) ∧ claimFlags (eventLevel 4 false t) 0 = 3 := by decide +kernel

/-- Completing slot 4 with its condition gone leaves nothing pending (R491). -/
theorem test_complete :
    let t := nx (exec (.complete 0 4) { rdy with evc.inserv := 0x10, evc.wdrawn := 0x10 })
    (t.evc.pend, t.evc.inserv, t.evc.alert[0]) = (0, 0, false) := by decide +kernel

/-- A voltage below the present one turns V_SP around and counts the turn (R204). -/
theorem test_turn :
    let s := { rdy with rails := vmod rdy.rails 14 fun x => { x with enabled := true, dyn.vsp := pinTarget 830 4096, dyn.target := pinTarget 900 4096, dyn.moving := true, dyn.transition := true, dyn.src := 1, dyn.turnCnt := 0 } }
    ((nx (exec (.railVsetWrite 0 14 800) s)).rails[14].dyn.target, (nx (exec (.railVsetWrite 0 14 800) s)).rails[14].dyn.turnCnt) =
      (pinTarget 800 4096, 1) := by decide +kernel

/-- The digest of the three bytes "abc" in FIPS 180-4, and twice the base point of P-256. -/
theorem test_digest_and_curve :
    sha256 [0x61, 0x62, 0x63] = [0xba, 0x78, 0x16, 0xbf, 0x8f, 0x01, 0xcf, 0xea, 0x41, 0x41, 0x40, 0xde, 0x5d, 0xae, 0x22, 0x23,
      0xb0, 0x03, 0x61, 0xa3, 0x96, 0x17, 0x7a, 0x9c, 0xb4, 0x10, 0xff, 0x61, 0xf2, 0x00, 0x15, 0xad] ∧
    ecAdd (some ecG) (some ecG) = some (0x7CF27B188D034F7E8A52380304B51AC3C08969E277F21B35A60B48FC47669978,
      0x07775510DB8ED040293D9AC69F7430DBBA7DADE63CE982299E04B79D227873D1) := by decide +kernel

/-- A command that the queue gives is run with the rest of the queue behind it. -/
theorem test_step_runs_the_front :
    (nx (step { rdy with pending := [.twNotifyRepeat 0, .resetPinRecognised] })).pending = [.resetPinRecognised] := by decide +kernel

/-! ### The states that the statements speak of -/

/-- A header that passes every check but the signature's, whose key is not the manual's, on a part of die revisions 0 (R530). -/
def image : List Byte :=
  [73, 77, 65, 71, 1, 0, 1, 0, 7, 0, 0, 81] ++ List.replicate 16 0 ++ [1, 0, 0, 0, 8, 0, 0, 0, 8, 0, 0, 0, 16, 0, 0, 0] ++
    List.replicate 208 0 ++ [36, 11, 47, 60]

theorem test_witness_image (h1 : Config.helmRev = 0) (h2 : Config.railRev = 0) (h3 : signatureOk image = true) :
    imageRefusal rdy image = none := by
  have e1 : imgFormatOk image = true := by decide +kernel
  have e2 : imgTypeOk rdy image = true := by
    have : fieldAt image 8 4 = 0x51000007 := by decide +kernel
    have : rdy.part = .qmn2408 := rfl
    simp_all [imgTypeOk, hwType, Part.dies]
  have e3 : imgUnitOk rdy image = true := by
    have : fieldAt image 12 4 = 0 := by decide +kernel
    have : rdy.mram.lc = 0 := rfl
    simp_all [imgUnitOk]
  have e4 : imgSizeOk image = true := by decide +kernel
  have e5 : imgSecVersionOk rdy image = true := by decide +kernel
  have e6 : (rdy.nv.keyLoaded && !rdy.nv.wiped) = true := by decide +kernel
  simp [imageRefusal, e1, e2, e3, e4, e5, e6, h3]

/-- Every premise inside `Obligations.ZoneAndBusWindows` is met by some state. -/
theorem test_witness_ZoneAndBusWindows :
    (∃ (s : State) (n : Fin 4), s.zin[n].timersStopped = false ∧ s.zin[n].phase = .waitIn) ∧
    (∃ (s : State) (n : Fin 4), s.zin[n].timersStopped = false ∧ s.zin[n].phase ∈ [.qualify, .retryWait, .inrush, .on, .block, .limit]) ∧
    (∃ (s : State) (m : Fin 8), poweredOutputs s = true ∧ s.fo[m].phase = .waitBus ∧ s.fo[m].qualified = false) ∧
    (∃ (s : State) (m : Fin 8), poweredOutputs s = true ∧ s.fo[m].phase ∈ [.qualify, .retryWait, .turnOn, .on, .limit]) ∧
    (∃ s : State, poweredOutputs s = false) :=
  ⟨⟨{ rdy with zin := vmod rdy.zin 3 fun x => { x with phase := .waitIn, timersStopped := false } }, 3, by decide +kernel⟩,
   ⟨{ rdy with zin := vmod rdy.zin 0 fun x => { x with phase := .limit, timersStopped := false } }, 0, by decide +kernel⟩,
   ⟨{ rdy with fo := vmod rdy.fo 7 fun x => { x with phase := .waitBus } }, 7, by decide +kernel⟩,
   ⟨{ rdy with fo := vmod rdy.fo 0 fun x => { x with phase := .qualify } }, 0, by decide +kernel⟩,
   ⟨{ rdy with boot.phase := .inReset }, by decide +kernel⟩⟩
/-- Every clause of `Obligations.ClockMonitors` has a state and operands that meet its hypotheses. -/
theorem test_witness_ClockMonitors :
    (∃ (s : State), sysRuns s = true ∧ s.boot.phase = .ready) ∧
    (∃ (s : State) (kHz : Nat), sysRuns s = true ∧ s.boot.phase = .ready ∧ (kHz < 94000 ∨ 106000 < kHz)) ∧
    (∃ (s : State) (kHz : Nat), sysRuns s = true ∧ 94000 ≤ kHz ∧ kHz ≤ 106000) ∧
    (∃ (s : State) (k : Fin 7), sysRuns s = true ∧ diePresent s k = false) ∧
    (∃ (s : State) (k : Fin 7) (kHz : Nat), sysRuns s = true ∧ diePresent s k = true ∧ 97000 ≤ kHz ∧ kHz ≤ 103000) ∧
    (∃ (s : State) (k : Fin 7) (kHz : Nat), sysRuns s = true ∧ diePresent s k = true ∧ (kHz < 97000 ∨ 103000 < kHz) ∧ s.dies[k].rsysBad = false ∧
      s.logAReset = false) ∧
    (∃ (s : State), sysRuns s = true) :=
  ⟨⟨{ rdy with boot.phase := .ready }, by decide +kernel⟩,
   ⟨{ rdy with boot.phase := .ready }, 93999, by decide +kernel⟩,
   ⟨rdy, 106000, by decide +kernel⟩,
   ⟨{ rdy with part := .qmn2402 }, 1, by decide +kernel⟩,
   ⟨rdy, 0, 103000, by decide +kernel⟩,
   ⟨{ rdy with dies := vmod rdy.dies 0 fun x => { x with rsysBad := false }, settings := [(0x2a2005, 0)] }, 0, 96999, by decide +kernel⟩,
   ⟨rdy, by decide +kernel⟩⟩

/-- Every clause of `Obligations.HamperCycle` has a state and operands that meet its hypotheses. -/
theorem test_witness_HamperCycle :
    (∃ (s : State), sysRuns s = false ∧ s.boot.phase ≠ .holdUp) ∧
    (∃ (s : State) (reqs : List HamperReq), sysRuns s = true ∧ granted s reqs = none) ∧
    (∃ (s : State) (reqs : List HamperReq) (q : _), sysRuns s = true ∧ granted s reqs = some q) ∧
    (∃ (s : State), sysRuns s = true) :=
  ⟨⟨{ rdy with pwr.state := .park }, by decide +kernel⟩,
   ⟨rdy, [], by decide +kernel⟩,
   ⟨rdy, [⟨.linkHub 6, 0x7FFF8, true, 1⟩], ⟨.linkHub 6, 0x7FFF8, true, 1⟩, by decide +kernel⟩,
   ⟨rdy, by decide +kernel⟩⟩

/-- Every clause of `Obligations.LinkReceive` has a state and operands that meet its hypotheses. -/
theorem test_witness_LinkReceive :
    (∃ (s : State) (k : Fin 7), diePresent s k = false) ∧
    (∃ (s : State) (k : Fin 7) (body : Nat) (crc : Nat), diePresent s k = true ∧ sysRuns s = true ∧ s.links[k].phase = .up ∧
      (crc % 65536 ≠ crc16 0xFFFF (beBytes 8 (body % 2 ^ 64)) ∨ 8 ≤ body / 2 ^ 60 % 16)) ∧
    (∃ (s : State) (k : Fin 7) (body : Nat) (crc : Nat), diePresent s k = true ∧ sysRuns s = true ∧ s.links[k].phase = .up ∧
      crc % 65536 = crc16 0xFFFF (beBytes 8 (body % 2 ^ 64)) ∧ body / 2 ^ 60 % 16 < 8) ∧
    (∃ (s : State) (k : Fin 7), diePresent s k = true ∧ sysRuns s = true ∧ s.links[k].phase = .up) ∧
    (∃ (s : State) (k : Fin 7) (seq : Nat), diePresent s k = true ∧ sysRuns s = true ∧ s.links[k].phase = .up ∧ s.links[k].rail.expected = seq % 8 ∧
      s.links[k].helm.waiting = []) ∧
    (∃ (s : State) (k : Fin 7) (seq : Nat), diePresent s k = true ∧ sysRuns s = true ∧ s.links[k].phase = .up ∧ s.links[k].rail.expected = seq % 8 ∧
      endClear s.links[k] .atHelm = true ∧ nakWaits s.links[k].helm = true) ∧
    (∃ (s : State) (k : Fin 7) (seq : Nat), diePresent s k = true ∧ sysRuns s = true ∧ s.links[k].phase = .up ∧ s.links[k].rail.expected ≠ seq % 8) ∧
    (∃ (s : State) (k : Fin 7) (seq : Nat), diePresent s k = true ∧ sysRuns s = true ∧ s.links[k].phase = .up ∧ s.links[k].rail.expected = seq % 8 ∧
      s.links[k].helm.waiting = []) ∧
    (∃ (s : State) (k : Fin 7) (seq : Nat), diePresent s k = true ∧ sysRuns s = true ∧ s.links[k].phase = .up ∧ s.links[k].helm.expected = seq % 8 ∧
      s.links[k].rail.waiting = []) ∧
    (∃ (s : State) (k : Fin 7) (seq : Nat), diePresent s k = true ∧ sysRuns s = true ∧ s.links[k].phase = .up ∧ s.links[k].helm.expected = seq % 8 ∧
      s.links[k].rail.waiting = [] ∧ Canonical s) ∧
    (∃ (s : State) (k : Fin 7) (seq : Nat), diePresent s k = true ∧ sysRuns s = true ∧ s.links[k].phase = .up ∧ s.links[k].helm.expected = seq % 8 ∧
      endClear s.links[k] .atRail = true ∧ nakWaits s.links[k].rail = true) ∧
    (∃ (s : State) (k : Fin 7) (seq : Nat), diePresent s k = true ∧ sysRuns s = true ∧ s.links[k].phase = .up ∧ s.links[k].helm.expected ≠ seq % 8 ∧
      s.links[k].rail.waiting = []) :=
  ⟨⟨{ rdy with part := .qmn2402 }, 1, by decide +kernel⟩,
   ⟨{ rdy with links := vmod rdy.links 0 fun x => { x with phase := .up } }, 0, 2 ^ 63, 0, by decide +kernel⟩,
   ⟨{ rdy with links := vmod rdy.links 0 fun x => { x with phase := .up } }, 0, 0, crc16 0xFFFF (beBytes 8 0), by decide +kernel⟩,
   ⟨{ rdy with links := vmod rdy.links 0 fun x => { x with phase := .up } }, 0, by decide +kernel⟩,
   ⟨{ rdy with links := vmod rdy.links 0 fun x => { x with phase := .up, rail.expected := 0 % 8, helm.waiting := [] } }, 0, 0, by decide +kernel⟩,
   ⟨{ rdy with links := vmod rdy.links 0 fun x => { x with phase := .up, rail.expected := 0 % 8, helm.waiting := [⟨0, 0, 0, .nak 0, 0⟩] } }, 0, 0, by decide +kernel⟩,
   ⟨{ rdy with links := vmod rdy.links 0 fun x => { x with phase := .up } }, 0, 7, by decide +kernel⟩,
   ⟨{ rdy with links := vmod rdy.links 0 fun x => { x with phase := .up, rail.expected := 0 % 8, helm.waiting := [] } }, 0, 0, by decide +kernel⟩,
   ⟨{ rdy with links := vmod rdy.links 0 fun x => { x with phase := .up, helm.expected := 0 % 8, rail.waiting := [] } }, 0, 0, by decide +kernel⟩,
   ⟨{ rdy with links := vmod rdy.links 0 fun x => { x with phase := .up, helm.expected := 0 % 8, rail.waiting := [] } }, 0, 0, by and_intros <;> first | decide +kernel | rfl | exact Or.inl (by decide +kernel) | simp⟩,
   ⟨{ rdy with links := vmod rdy.links 0 fun x => { x with phase := .up, helm.expected := 0 % 8, rail.waiting := [⟨0, 0, 0, .nak 0, 0⟩] } }, 0, 0, by decide +kernel⟩,
   ⟨{ rdy with links := vmod rdy.links 0 fun x => { x with phase := .up, rail.waiting := [] } }, 0, 1, by decide +kernel⟩⟩

/-- Every clause of `Obligations.LinkRecovery` has a state and operands that meet its hypotheses. -/
theorem test_witness_LinkRecovery :
    (∃ (s : State) (k : Fin 7) (seq : Nat), diePresent s k = true ∧ sysRuns s = true ∧ s.links[k].phase = .up ∧ s.links[k].rail.expected = seq % 8 ∧
      helmFree s k = true) ∧
    (∃ (s : State) (k : Fin 7) (seq : Nat), diePresent s k = true ∧ sysRuns s = true ∧ s.links[k].phase = .up ∧ s.links[k].rail.expected = seq % 8 ∧
      endClear s.links[k] .atHelm = false) ∧
    (∃ (s : State) (k : Fin 7) (seq : Nat), diePresent s k = true ∧ sysRuns s = true ∧ s.links[k].phase = .up ∧ s.links[k].rail.expected ≠ seq % 8) ∧
    (∃ (s : State) (k : Fin 7) (seq : Nat), diePresent s k = true ∧ sysRuns s = true ∧ s.links[k].phase = .up ∧ s.links[k].helm.expected = seq % 8 ∧
      railFree s k = true) ∧
    (∃ (s : State) (k : Fin 7) (seq : Nat), diePresent s k = true ∧ sysRuns s = true ∧ s.links[k].phase = .up ∧ s.links[k].helm.expected = seq % 8 ∧
      endClear s.links[k] .atRail = false) ∧
    (∃ (s : State) (k : Fin 7) (e : LinkEndSel) (seq : Nat), diePresent s k = true ∧ sysRuns s = true ∧ s.links[k].phase = .up ∧
      (linkEnd s.links[k] (otherEnd e)).waiting = [] ∧ (∀ f ∈ (linkEnd s.links[k] e).unacked, f.seq ≠ seq % 8)) ∧
    (∃ (s : State) (k : Fin 7) (e : LinkEndSel) (f : _) (l : List LinkFrame), diePresent s k = true ∧ sysRuns s = true ∧ s.links[k].phase = .up ∧
      (linkEnd s.links[k] e).unacked = f :: l ∧ f.seq < 8 ∧ f.failed = 0 ∧ (linkEnd s.links[k] (otherEnd e)).waiting = []) ∧
    (∃ (s : State) (k : Fin 7) (e : LinkEndSel) (f : _) (l : List LinkFrame) (q : _), diePresent s k = true ∧ sysRuns s = true ∧ s.links[k].phase = .up ∧
      (linkEnd s.links[k] e).unacked = f :: l ∧ f.seq < 8 ∧ f.failed = 0 ∧ ((linkEnd s.links[k] (otherEnd e)).waiting = [⟨0, 0, 0, .nak q, 0⟩])) ∧
    (∃ (s : State) (k : Fin 7) (e : LinkEndSel), diePresent s k = true ∧ sysRuns s = true ∧ s.links[k].phase = .up ∧ (linkEnd s.links[k] e).unacked = []) ∧
    (∃ (s : State) (k : Fin 7) (e : LinkEndSel) (f : _) (l : _), diePresent s k = true ∧ sysRuns s = true ∧ s.links[k].phase = .up ∧
      (linkEnd s.links[k] e).unacked = f :: l ∧ f.failed = 0) ∧
    (∃ (s : State) (k : Fin 7), diePresent s k = true ∧ sysRuns s = true ∧ s.links[k].phase = .up) ∧
    (∃ (s : State) (k : Fin 7), diePresent s k = true ∧ sysRuns s = true ∧ s.links[k].phase ≠ .up) :=
  ⟨⟨{ rdy with links := vmod rdy.links 0 fun x => { x with phase := .up, rail.expected := 0 % 8 } }, 0, 0, by decide +kernel⟩,
   ⟨{ rdy with links := vmod rdy.links 0 fun x => { x with phase := .up, rail.expected := 0 % 8, helm.nextSeq := 1 } }, 0, 0, by decide +kernel⟩,
   ⟨{ rdy with links := vmod rdy.links 0 fun x => { x with phase := .up } }, 0, 7, by decide +kernel⟩,
   ⟨{ rdy with links := vmod rdy.links 0 fun x => { x with phase := .up, helm.expected := 0 % 8 } }, 0, 0, by decide +kernel⟩,
   ⟨{ rdy with links := vmod rdy.links 0 fun x => { x with phase := .up, helm.expected := 0 % 8, rail.nextSeq := 1 } }, 0, 0, by decide +kernel⟩,
   ⟨{ rdy with links := vmod rdy.links 0 fun x => { x with phase := .up } }, 0, .atHelm, 0, by decide +kernel⟩,
   ⟨{ rdy with links := vmod rdy.links 0 fun x => { x with phase := .up, helm.unacked := [fr0] } }, 0, .atHelm, fr0, [], by decide +kernel⟩,
   ⟨{ rdy with links := vmod rdy.links 0 fun x => { x with phase := .up, helm.unacked := [fr0], rail.waiting := [⟨0, 0, 0, .nak 0, 0⟩] } }, 0, .atHelm, fr0, [], 0, by decide +kernel⟩,
   ⟨{ rdy with links := vmod rdy.links 0 fun x => { x with phase := .up } }, 0, .atHelm, by decide +kernel⟩,
   ⟨{ rdy with links := vmod rdy.links 0 fun x => { x with phase := .up, helm.unacked := [fr0] } }, 0, .atHelm, fr0, [], by decide +kernel⟩,
   ⟨{ rdy with links := vmod rdy.links 0 fun x => { x with phase := .up } }, 0, by decide +kernel⟩,
   ⟨{ rdy with links := vmod rdy.links 0 fun x => { x with phase := .down } }, 0, by decide +kernel⟩⟩

/-- Every clause of `Obligations.GroupLanesAndPins` has a state and operands that meet its hypotheses. -/
theorem test_witness_GroupLanesAndPins :
    (∃ (s : State) (k : Fin 7), diePresent s k = false) ∧
    (∃ (s : State) (g : Fin 4) (k : Fin 7), diePresent s k = true ∧ gangStands s g = true ∧ (gangDies s g).contains k = true ∧
      s.dies[k].holding = false ∧ s.dies[k].held = false) ∧
    (∃ (s : State) (k : Fin 7), diePresent s k = true ∧ (s.dies[k].holding = true ∨ s.dies[k].held = true)) ∧
    (∃ (s : State) (g : Fin 4) (k : Fin 7), diePresent s k = true ∧ gangStands s g = true ∧ (gangDies s g).contains k = true) ∧
    (∃ (s : State), sysRuns s = true ∧ s.update.pause = true) ∧
    (∃ (s : State), sysRuns s = true ∧ s.update.pause = false) ∧
    (∃ (s : State), sysRuns s = true ∧ s.update.pause = false ∧ (∀ g : Fin 8, s.groups[g].phase = .off ∨ s.groups[g].phase = .faulted)) ∧
    (∃ (s : State), sysRuns s = false) ∧
    (∃ (s : State) (k : Fin 7), diePresent s k = true ∧ (s.pwr.state ≠ .run ∨ s.boot.phase = .holdUp)) ∧
    (∃ (s : State) (k : Fin 7), diePresent s k = true ∧ s.pwr.state = .run ∧ s.boot.phase ≠ .holdUp ∧ s.dies[k].stf = false ∧ s.logAReset = false) ∧
    (∃ (s : State) (k : Fin 7), diePresent s k = true) ∧
    (∃ (s : State) (k : Fin 7), diePresent s k = true ∧ s.dies[k].vdrOk = true) ∧
    (∃ (s : State) (k : Fin 7), diePresent s k = true ∧ s.dies[k].vdrOk = false) ∧
    (∃ (s : State), s.hk.disabling = false) ∧
    (∃ (s : State), s.hk.disabling = true) ∧
    (∃ (s : State) (r : _), railPresent s r = false) ∧
    (∃ (s : State) (r : _), railPresent s r = true ∧ (s.rails[r].fc.trimDisabling = false ∨ s.rails[r].prot.ovLatch = true)) ∧
    (∃ (s : State) (r : _), railPresent s r = true ∧ s.rails[r].fc.trimDisabling = true ∧ s.rails[r].prot.ovLatch = false) ∧
    (∃ (s : State) (n : Fin 8), s.fo[n].phase = .disabling ∧ s.fo[n].onHeld = false) ∧
    (∃ (s : State) (n : Fin 4), s.zin[n].phase = .disabling ∧ s.zin[n].enHeld = false) ∧
    (∃ (s : State), s.chg.phase = .disabling ∧ s.chg.enHeld = false) ∧
    (∃ (s : State) (n : Fin 4), s.can[n].disabling = true ∧ s.can[n].enHeld = false) ∧
    (∃ (s : State) (r : _), railPresent s r = true ∧ (∀ ph ∈ railPhases s r, s.phases[ph].trim = 0)) ∧
    (∃ (s : State) (r : Fin 28), railPresent s r = true ∧ (∃ ph ∈ railPhases s r, s.phases[ph].trim ≠ 0)) ∧
    (∃ (s : State) (r : _), railPresent s r = true ∧ s.rails[r].disabling = false) ∧
    (∃ (s : State) (r : _), railPresent s r = true ∧ s.rails[r].disabling = true ∧ s.rails[r].enabled = true ∧ s.rails[r].enHeld = false) ∧
    (∃ (s : State) (g : Fin 8), s.groups[g].disabling = false) :=
  ⟨⟨{ rdy with part := .qmn2402 }, 1, by decide +kernel⟩,
   ⟨{ rdy with gangs := vmod rdy.gangs 0 fun x => { x with phase := .formed, dies := 3 }, dies := vmod rdy.dies 0 fun x => { x with holding := false, held := false } }, 0, 0, by decide +kernel⟩,
   ⟨{ rdy with dies := vmod rdy.dies 0 fun x => { x with holding := true } }, 0, by decide +kernel⟩,
   ⟨{ rdy with gangs := vmod rdy.gangs 0 fun x => { x with phase := .formed, dies := 3 } }, 0, 0, by decide +kernel⟩,
   ⟨{ rdy with update.pause := true }, by decide +kernel⟩,
   ⟨{ rdy with update.pause := false }, by decide +kernel⟩,
   ⟨{ rdy with update.pause := false }, by decide +kernel⟩,
   ⟨{ rdy with pwr.state := .park }, by decide +kernel⟩,
   ⟨{ rdy with pwr.state := .doze }, 0, by decide +kernel⟩,
   ⟨{ rdy with pwr.state := .run, dies := vmod rdy.dies 0 fun x => { x with stf := false }, settings := [(0x2a2005, 0)] }, 0, by decide +kernel⟩,
   ⟨rdy, 0, by decide +kernel⟩,
   ⟨{ rdy with dies := vmod rdy.dies 0 fun x => { x with vdrOk := true } }, 0, by decide +kernel⟩,
   ⟨{ rdy with dies := vmod rdy.dies 0 fun x => { x with vdrOk := false } }, 0, by decide +kernel⟩,
   ⟨{ rdy with hk.disabling := false }, by decide +kernel⟩,
   ⟨{ rdy with hk.disabling := true }, by decide +kernel⟩,
   ⟨{ rdy with part := .qmn2402 }, 4, by decide +kernel⟩,
   ⟨{ rdy with rails := vmod rdy.rails 0 fun x => { x with fc.trimDisabling := false } }, 0, by decide +kernel⟩,
   ⟨{ rdy with rails := vmod rdy.rails 0 fun x => { x with fc.trimDisabling := true, prot.ovLatch := false } }, 0, by decide +kernel⟩,
   ⟨{ rdy with fo := vmod rdy.fo 0 fun x => { x with phase := .disabling, onHeld := false } }, 0, by decide +kernel⟩,
   ⟨{ rdy with zin := vmod rdy.zin 0 fun x => { x with phase := .disabling, enHeld := false } }, 0, by decide +kernel⟩,
   ⟨{ rdy with chg.phase := .disabling, chg.enHeld := false }, by decide +kernel⟩,
   ⟨{ rdy with can := vmod rdy.can 0 fun x => { x with disabling := true, enHeld := false } }, 0, by decide +kernel⟩,
   ⟨rdy, 0, by decide +kernel⟩,
   ⟨{ run0 with phases := vmod run0.phases 0 fun x => { x with trim := 5 } }, 0, by decide +kernel⟩,
   ⟨{ rdy with rails := vmod rdy.rails 0 fun x => { x with disabling := false } }, 0, by decide +kernel⟩,
   ⟨{ rdy with rails := vmod rdy.rails 0 fun x => { x with disabling := true, enabled := true, enHeld := false } }, 0, by decide +kernel⟩,
   ⟨{ rdy with groups := vmod rdy.groups 0 fun x => { x with disabling := false } }, 0, by decide +kernel⟩⟩

/-- Every clause of `Obligations.BootSteps` has a state and operands that meet its hypotheses. -/
theorem test_witness_BootSteps :
    (∃ (s : State), s.boot.phase = .holdUp) ∧
    (∃ (s : State), s.boot.phase ≠ .holdUp) ∧
    (∃ (s : State), s.boot.phase ≠ .porHeld) ∧
    (∃ (s : State), s.boot.phase = .porHeld ∧ s.boot.resetNInSave = false) ∧
    (∃ (s : State), s.boot.phase = .porHeld ∧ s.boot.resetNInSave = true) ∧
    (∃ (s : State), s.boot.phase ≠ .strapWait) ∧
    (∃ (s : State), s.boot.phase = .strapWait) ∧
    (∃ (s : State), s.boot.phase ≠ .selfTest) ∧
    (∃ (s : State) (f : Nat), s.boot.phase = .selfTest ∧ f % 256 ≠ 0 ∧ s.boot.attempts = 0) ∧
    (∃ (s : State) (f : Nat), s.boot.phase = .selfTest ∧ f % 256 ≠ 0 ∧ s.boot.attempts ≠ 0) ∧
    (∃ (s : State) (k : Fin 2) (f : Nat), s.boot.phase = .selfTest ∧ f % 256 = 0 ∧ bankState s.mram.banks[k] = .active ∧ s.mram.errs = []) ∧
    (∃ (s : State) (f : Nat), s.boot.phase = .selfTest ∧ f % 256 = 0 ∧ s.mram.errs = [] ∧ (∀ k : Fin 2, bankState s.mram.banks[k] ≠ .active ∧
      bankState s.mram.banks[k] ≠ .previous)) ∧
    (∃ (s : State), s.boot.phase ≠ .starting) ∧
    (∃ (s : State), s.boot.phase = .starting) ∧
    (∃ (s : State), s.boot.phase = .starting ∧ s.therm.latch = true ∧ (∀ k : Fin 7, s.links[k].phase = .up ∧ s.dies[k].stf = false)) ∧
    (∃ (s : State), s.boot.phase = .starting ∧ s.therm.latch = false ∧ s.sk.left = [] ∧ (∀ k : Fin 7, s.links[k].phase = .up ∧ s.dies[k].stf = false ∧
      s.dies[k].vdrOk = true) ∧ (∀ r : Fin 28, s.rails[r].prot.vdrDue = false)) ∧
    (∃ (s : State), s.boot.phase = .ready ∧ (s.pwr.state = .run ∨ s.pwr.state = .doze)) ∧
    (∃ (s : State), (s.boot.phase ≠ .ready ∨ s.pwr.state = .park ∨ s.pwr.state = .off)) :=
  ⟨⟨{ rdy with boot.phase := .holdUp }, by decide +kernel⟩,
   ⟨rdy, by decide +kernel⟩,
   ⟨rdy, by decide +kernel⟩,
   ⟨{ rdy with boot.phase := .porHeld, boot.resetNInSave := false }, by decide +kernel⟩,
   ⟨{ rdy with boot.phase := .porHeld, boot.resetNInSave := true }, by decide +kernel⟩,
   ⟨rdy, by decide +kernel⟩,
   ⟨{ rdy with boot.phase := .strapWait }, by decide +kernel⟩,
   ⟨rdy, by decide +kernel⟩,
   ⟨{ rdy with boot.phase := .selfTest, boot.attempts := 0 }, 1, by decide +kernel⟩,
   ⟨{ rdy with boot.phase := .selfTest, boot.attempts := 1 }, 255, by decide +kernel⟩,
   ⟨{ rdy with boot.phase := .selfTest, mram.errs := [] }, 0, 0, by decide +kernel⟩,
   ⟨{ rdy with boot.phase := .selfTest, mram.errs := [], mram.banks := Vector.replicate 2 ⟨.empty, [], []⟩ }, 0, by decide +kernel⟩,
   ⟨rdy, by decide +kernel⟩,
   ⟨{ rdy with boot.phase := .starting }, by decide +kernel⟩,
   ⟨{ rdy with boot.phase := .starting, therm.latch := true }, by decide +kernel⟩,
   ⟨{ rdy with boot.phase := .starting, therm.latch := false, sk.left := [] }, by decide +kernel⟩,
   ⟨{ rdy with boot.phase := .ready, pwr.state := .run }, by decide +kernel⟩,
   ⟨{ rdy with boot.phase := .starting }, by decide +kernel⟩⟩

/-- Every clause of `Obligations.PowerStates` has a state and operands that meet its hypotheses. -/
theorem test_witness_PowerStates :
    (∃ (s : State) (p : Port) (row : _), answering s = true ∧ checkWrite s p 0x2108 0x02 = .ok row) ∧
    (∃ (s : State) (p : Port) (row : _), answering s = true ∧ checkWrite s p 0x2108 0x02 = .ok row ∧ s.pwr.parkEntry = false ∧ s.pwr.state ≠ .doze) ∧
    (∃ (s : State) (p : Port) (row : _), answering s = true ∧ checkWrite s p 0x2108 0x02 = .ok row ∧ s.pwr.parkEntry = false) ∧
    (∃ (s : State) (p : Port) (row : _), answering s = true ∧ checkWrite s p 0x2108 0x02 = .ok row ∧ s.pwr.parkEntry = true) ∧
    (∃ (s : State) (p : Port) (row : _), answering s = true ∧ checkWrite s p 0x2108 0x02 = .ok row ∧ s.pwr.parkEntry = false ∧ s.pwr.state = .doze) ∧
    (∃ (s : State), s.boot.phase = .ready ∧ s.pwr.state = .run ∧ s.pwr.req = .doze ∧ anyRailOn s = false) ∧
    (∃ (s : State), anyRailOn s = true) ∧
    (∃ (s : State), (s.pwr.parkEntry = false ∨ mayPark s = false)) ∧
    (∃ (s : State), s.pwr.parkEntry = true ∧ mayPark s = true) :=
  ⟨⟨rdy, 0, okRow (checkWrite rdy 0 0x2108 0x02), by decide +kernel⟩,
   ⟨{ rdy with pwr.parkEntry := false }, 0, okRow (checkWrite ({ rdy with pwr.parkEntry := false }) 0 0x2108 0x02), by decide +kernel⟩,
   ⟨{ rdy with pwr.parkEntry := false }, 0, okRow (checkWrite ({ rdy with pwr.parkEntry := false }) 0 0x2108 0x02), by decide +kernel⟩,
   ⟨{ rdy with pwr.parkEntry := true }, 0, okRow (checkWrite ({ rdy with pwr.parkEntry := true }) 0 0x2108 0x02), by decide +kernel⟩,
   ⟨{ rdy with pwr.parkEntry := false, pwr.state := .doze }, 0, okRow (checkWrite ({ rdy with pwr.parkEntry := false, pwr.state := .doze }) 0 0x2108 0x02), by decide +kernel⟩,
   ⟨{ rdy with boot.phase := .ready, pwr.state := .run, pwr.req := .doze }, by decide +kernel⟩,
   ⟨run0, by decide +kernel⟩,
   ⟨{ rdy with pwr.parkEntry := false }, by decide +kernel⟩,
   ⟨{ rdy with pwr.parkEntry := true }, by decide +kernel⟩⟩

/-- Every clause of `Obligations.WakeFromPark` has a state and operands that meet its hypotheses. -/
theorem test_witness_WakeFromPark :
    (∃ (s : State) (m : Nat) (b : _), s.pwr.state = .park ∧ s.pwr.parkEntry = false ∧ s.pwr.oldChart = false ∧ b < 14 ∧ m.testBit b = true ∧
      (b = 13 ∨ s.wakeMask.testBit b = true)) ∧
    (∃ (s : State) (m : Nat), s.pwr.state = .park ∧ s.pwr.parkEntry = false ∧ s.pwr.fired = 0 ∧ (∀ b, b < 14 → m.testBit b = true → b ≠ 13 ∧
      s.wakeMask.testBit b = false)) ∧
    (∃ (s : State), s.pwr.state = .park ∧ s.pwr.parkEntry = false ∧ s.pwr.wakeTimerOn = false) ∧
    (∃ (s : State), s.pwr.state = .park ∧ s.pwr.parkEntry = false ∧ s.pwr.wakeTimerOn = true ∧ s.wakeMask.testBit 10 = true) ∧
    (∃ (s : State), s.pwr.state = .park ∧ s.pwr.parkEntry = false ∧ s.pwr.oldChart = false) ∧
    (∃ (s : State) (b : Fin 12), s.pwr.state = .park ∧ s.pwr.parkEntry = false ∧ s.pwr.oldChart = true ∧ b.val < 8 ∧ s.wakeMask.testBit b = true) ∧
    (∃ (s : State) (b : Fin 12), s.pwr.state = .park ∧ s.pwr.parkEntry = false ∧ s.pwr.oldChart = true ∧ b.val < 8 ∧ s.wakeMask.testBit b = false ∧
      s.pwr.fired.testBit b = false) :=
  ⟨⟨{ rdy with pwr.state := .park, pwr.parkEntry := false, pwr.oldChart := false }, 0x2000, 13, by decide +kernel⟩,
   ⟨{ rdy with pwr.state := .park, pwr.parkEntry := false, pwr.fired := 0 }, 0, by decide +kernel⟩,
   ⟨{ rdy with pwr.state := .park, pwr.parkEntry := false, pwr.wakeTimerOn := false }, by decide +kernel⟩,
   ⟨{ rdy with pwr.state := .park, pwr.parkEntry := false, pwr.wakeTimerOn := true }, by decide +kernel⟩,
   ⟨{ rdy with pwr.state := .park, pwr.parkEntry := false, pwr.oldChart := false }, by decide +kernel⟩,
   ⟨{ rdy with pwr.state := .park, pwr.parkEntry := false, pwr.oldChart := true }, 0, by decide +kernel⟩,
   ⟨{ rdy with pwr.state := .park, pwr.parkEntry := false, pwr.oldChart := true, pwr.fired := 0, settings := [(0x210804, 0)] }, 7, by decide +kernel⟩⟩

/-- Every clause of `Obligations.FullReset` has a state and operands that meet its hypotheses. -/
theorem test_witness_FullReset :
    (∃ (s : State), s.boot.phase = .porHeld) ∧
    (∃ (s : State), s.boot.phase = .ready) ∧
    (∃ (s : State), s.boot.phase = .inReset) ∧
    (∃ (s : State), s.boot.phase = .holdUp) ∧
    (∃ (s : State) (p : Port) (row : _), answering s = true ∧ checkWrite s p 0x2105 0x01 = .ok row) ∧
    (∃ (s : State) (p : Port) (row : _) (v : Nat), answering s = true ∧ checkWrite s p 0x2105 0x01 = .ok row ∧ v ≠ 0xA5C3) ∧
    (∃ (s : State), s.boot.phase ≠ .inReset) ∧
    (∃ (s : State), (s.boot.phase ≠ .inReset ∨ s.boot.flushDone = false)) ∧
    (∃ (s : State), s.boot.phase = .inReset ∧ s.boot.flushDone = true) ∧
    (∃ (s : State) (r : Fin 28), railPresent s r = false) ∧
    (∃ (s : State) (r : Fin 28), railPresent s r = true ∧ (s.rails[r].stationKept = false ∨ s.sk.due[r] = true)) ∧
    (∃ (s : State) (r : Fin 28), railPresent s r = true ∧ s.rails[r].stationKept = true ∧ s.sk.due[r] = false) ∧
    (∃ (s : State) (k : Fin 7), diePresent s k = false) ∧
    (∃ (s : State) (k : Fin 7), diePresent s k = true ∧ (∀ r : Fin 28, s.rails[r].stationKept = false)) ∧
    (∃ (s : State) (r : Fin 28) (k : Fin 7), diePresent s k = true ∧ s.rails[r].stationKept = true ∧ (railDies s r).contains k = true) :=
  ⟨⟨{ rdy with boot.phase := .porHeld }, by decide +kernel⟩,
   ⟨{ rdy with boot.phase := .ready }, by decide +kernel⟩,
   ⟨{ rdy with boot.phase := .inReset }, by decide +kernel⟩,
   ⟨{ rdy with boot.phase := .holdUp }, by decide +kernel⟩,
   ⟨rdy, 0, okRow (checkWrite rdy 0 0x2105 0x01), by decide +kernel⟩,
   ⟨rdy, 0, okRow (checkWrite rdy 0 0x2105 0x01), 0, by decide +kernel⟩,
   ⟨rdy, by decide +kernel⟩,
   ⟨rdy, by decide +kernel⟩,
   ⟨{ rdy with boot.phase := .inReset, boot.flushDone := true }, by decide +kernel⟩,
   ⟨{ rdy with part := .qmn2402 }, 4, by decide +kernel⟩,
   ⟨{ rdy with rails := vmod rdy.rails 0 fun x => { x with stationKept := false } }, 0, by decide +kernel⟩,
   ⟨{ rdy with rails := vmod rdy.rails 0 fun x => { x with stationKept := true }, sk.due := vset rdy.sk.due 0 false }, 0, by decide +kernel⟩,
   ⟨{ rdy with part := .qmn2402 }, 1, by decide +kernel⟩,
   ⟨rdy, 0, by decide +kernel⟩,
   ⟨{ rdy with rails := vmod rdy.rails 0 fun x => { x with stationKept := true } }, 0, 0, by decide +kernel⟩⟩

/-- Every clause of `Obligations.ChannelTurnOn` has a state and operands that meet its hypotheses. -/
theorem test_witness_ChannelTurnOn :
    (∃ (s : State) (n : Fin 4), s.zin[n].insRunning = false) ∧
    (∃ (s : State) (n : Fin 4), s.zin[n].insRunning = true) ∧
    (∃ (s : State) (n : Fin 8), s.fo[n].insRunning = false) ∧
    (∃ (s : State) (n : Fin 8), s.fo[n].insRunning = true) ∧
    (∃ (s : State) (n : Fin 4), (s.zin[n].retryTimer = false ∨ s.zin[n].timersStopped = true)) ∧
    (∃ (s : State) (n : Fin 4), s.zin[n].retryTimer = true ∧ s.zin[n].timersStopped = false) ∧
    (∃ (s : State) (n : Fin 8), s.fo[n].retryTimer = false) ∧
    (∃ (s : State) (n : Fin 8), s.fo[n].retryTimer = true) ∧
    (∃ (s : State) (n : Fin 4), s.zin[n].phase ≠ .inrush) ∧
    (∃ (s : State) (n : Fin 4), s.zin[n].phase = .inrush) ∧
    (∃ (s : State) (n : Fin 8), s.fo[n].phase ≠ .turnOn) ∧
    (∃ (s : State) (n : Fin 8), s.fo[n].phase = .turnOn) :=
  ⟨⟨{ rdy with zin := vmod rdy.zin 0 fun x => { x with insRunning := false } }, 0, by decide +kernel⟩,
   ⟨{ rdy with zin := vmod rdy.zin 0 fun x => { x with insRunning := true } }, 0, by decide +kernel⟩,
   ⟨{ rdy with fo := vmod rdy.fo 0 fun x => { x with insRunning := false } }, 0, by decide +kernel⟩,
   ⟨{ rdy with fo := vmod rdy.fo 0 fun x => { x with insRunning := true } }, 0, by decide +kernel⟩,
   ⟨{ rdy with zin := vmod rdy.zin 0 fun x => { x with retryTimer := false } }, 0, by decide +kernel⟩,
   ⟨{ rdy with zin := vmod rdy.zin 0 fun x => { x with retryTimer := true, timersStopped := false } }, 0, by decide +kernel⟩,
   ⟨{ rdy with fo := vmod rdy.fo 0 fun x => { x with retryTimer := false } }, 0, by decide +kernel⟩,
   ⟨{ rdy with fo := vmod rdy.fo 0 fun x => { x with retryTimer := true } }, 0, by decide +kernel⟩,
   ⟨rdy, 0, by decide +kernel⟩,
   ⟨{ rdy with zin := vmod rdy.zin 0 fun x => { x with phase := .inrush } }, 0, by decide +kernel⟩,
   ⟨rdy, 0, by decide +kernel⟩,
   ⟨{ rdy with fo := vmod rdy.fo 0 fun x => { x with phase := .turnOn } }, 0, by decide +kernel⟩⟩

/-- Every clause of `Obligations.ChannelLimitAndColdStart` has a state and operands that meet its hypotheses. -/
theorem test_witness_ChannelLimitAndColdStart :
    (∃ (s : State) (n : _), s.zin[n].phase ≠ .inrush ∧ 10000000 ≤ s.zinIlim n * s.zinRsense n / 50000 * 50000 ∧
      s.zinIlim n * s.zinRsense n / 50000 * 50000 ≤ 50000000) ∧
    (∃ (s : State) (n : _), s.zin[n].phase = .inrush ∧ 2000000 ≤ s.zinIinr n * s.zinRsense n ∧
      s.zinIinr n * s.zinRsense n ≤ s.zinIlim n * s.zinRsense n / 50000 * 50000) ∧
    (∃ (s : State) (n : _), s.fo[n].phase ≠ .turnOn ∧ 10000000 ≤ s.foIlim n * s.foRsense n / 50000 * 50000 ∧
      s.foIlim n * s.foRsense n / 50000 * 50000 ≤ 50000000) ∧
    (∃ (s : State) (n : _), s.fo[n].phase = .turnOn ∧ 2000000 ≤ s.foIinr n * s.foRsense n ∧
      s.foIinr n * s.foRsense n ≤ s.foIlim n * s.foRsense n / 50000 * 50000) ∧
    (∃ (s : State) (c : Chan) (v : Nat), v < activeLimit s c) ∧
    (∃ (s : State) (n : Fin 4), s.zin[n].timersStopped = true) ∧
    (∃ (s : State) (n : Fin 4) (v : Nat), activeLimit s (.zin n) ≤ v ∧ s.zin[n].timersStopped = false ∧ s.zin[n].phase = .on) ∧
    (∃ (s : State) (n : Fin 4) (v : Nat), activeLimit s (.zin n) ≤ v ∧ s.zin[n].timersStopped = false ∧
      (s.zin[n].phase = .inrush ∨ s.zin[n].phase = .limit)) ∧
    (∃ (s : State) (n : Fin 4), (s.zin[n].phase ∉ [.on, .inrush, .limit])) ∧
    (∃ (s : State) (n : Fin 8) (v : Nat), activeLimit s (.fo n) ≤ v ∧ s.fo[n].phase = .on) ∧
    (∃ (s : State) (n : Fin 8) (v : Nat), activeLimit s (.fo n) ≤ v ∧ (s.fo[n].phase = .turnOn ∨ s.fo[n].phase = .limit ∨ s.fo[n].phase = .disabling)) ∧
    (∃ (s : State) (n : Fin 8), (s.fo[n].phase ∉ [.on, .turnOn, .limit, .disabling])) ∧
    (∃ (s : State) (n : Fin 4), s.zin[n].phase = .limit) ∧
    (∃ (s : State) (n : Fin 4), s.zin[n].phase = .inrush) ∧
    (∃ (s : State) (n : Fin 4), s.zin[n].phase ≠ .limit ∧ s.zin[n].phase ≠ .inrush) ∧
    (∃ (s : State) (n : Fin 8), s.fo[n].phase = .limit) ∧
    (∃ (s : State) (n : Fin 8), (s.fo[n].phase = .turnOn ∨ s.fo[n].phase = .disabling)) ∧
    (∃ (s : State) (n : Fin 8), (s.fo[n].phase ∉ [.limit, .turnOn, .disabling])) ∧
    (∃ (s : State) (n : Fin 4), s.zin[n].coldStart = false ∧ s.zin[n].phase = .on) ∧
    (∃ (s : State) (n : Fin 4), s.zin[n].coldStart = false ∧ s.zin[n].phase ≠ .on) ∧
    (∃ (s : State) (n : Fin 4), s.zin[n].coldStart = true) ∧
    (∃ (s : State) (n : Fin 4), s.zin[n].coldStart = false ∧ s.zin[n].phase = .block) ∧
    (∃ (s : State) (n : Fin 4), s.zin[n].coldStart = false ∧ s.zin[n].phase ≠ .block) :=
  ⟨⟨rdy, 0, by decide +kernel⟩,
   ⟨{ rdy with zin := vmod rdy.zin 0 fun x => { x with phase := .inrush } }, 0, by decide +kernel⟩,
   ⟨rdy, 0, by decide +kernel⟩,
   ⟨{ rdy with fo := vmod rdy.fo 0 fun x => { x with phase := .turnOn } }, 0, by decide +kernel⟩,
   ⟨rdy, .fo 0, 0, by decide +kernel⟩,
   ⟨{ rdy with zin := vmod rdy.zin 0 fun x => { x with timersStopped := true } }, 0, by decide +kernel⟩,
   ⟨{ rdy with zin := vmod rdy.zin 0 fun x => { x with timersStopped := false, phase := .on } }, 0, 1000000000, by decide +kernel⟩,
   ⟨{ rdy with zin := vmod rdy.zin 0 fun x => { x with timersStopped := false, phase := .inrush } }, 0, 1000000000, by decide +kernel⟩,
   ⟨rdy, 0, by decide +kernel⟩,
   ⟨{ rdy with fo := vmod rdy.fo 0 fun x => { x with phase := .on } }, 0, 1000000000, by decide +kernel⟩,
   ⟨{ rdy with fo := vmod rdy.fo 0 fun x => { x with phase := .turnOn } }, 0, 1000000000, by decide +kernel⟩,
   ⟨rdy, 0, by decide +kernel⟩,
   ⟨{ rdy with zin := vmod rdy.zin 0 fun x => { x with phase := .limit } }, 0, by decide +kernel⟩,
   ⟨{ rdy with zin := vmod rdy.zin 0 fun x => { x with phase := .inrush } }, 0, by decide +kernel⟩,
   ⟨rdy, 0, by decide +kernel⟩,
   ⟨{ rdy with fo := vmod rdy.fo 0 fun x => { x with phase := .limit } }, 0, by decide +kernel⟩,
   ⟨{ rdy with fo := vmod rdy.fo 0 fun x => { x with phase := .turnOn } }, 0, by decide +kernel⟩,
   ⟨rdy, 0, by decide +kernel⟩,
   ⟨{ rdy with zin := vmod rdy.zin 0 fun x => { x with coldStart := false, phase := .on } }, 0, by decide +kernel⟩,
   ⟨{ rdy with zin := vmod rdy.zin 0 fun x => { x with coldStart := false } }, 0, by decide +kernel⟩,
   ⟨{ rdy with zin := vmod rdy.zin 0 fun x => { x with coldStart := true } }, 0, by decide +kernel⟩,
   ⟨{ rdy with zin := vmod rdy.zin 0 fun x => { x with coldStart := false, phase := .block } }, 0, by decide +kernel⟩,
   ⟨{ rdy with zin := vmod rdy.zin 0 fun x => { x with coldStart := false } }, 0, by decide +kernel⟩⟩

/-- Every clause of `Obligations.ChannelTrips` has a state and operands that meet its hypotheses. -/
theorem test_witness_ChannelTrips :
    (∃ (s : State) (n : Fin 4) (c : Instr) (b : Nat) (v : Nat), s.zin[n].phase.gateOn = true ∧ ((c = .fastTrip (.zin n) v ∧ 2 * vLim s (.zin n) < v ∧
      b = 0) ∨ (c = .limitTimerExpire (.zin n) ∧ b = 1 ∧ s.zin[n].limTimer = true) ∨ (c = .absoluteTrip (.zin n) ∧ b = 2 ∧
      s.zin[n].coldStart = false))) ∧
    (∃ (s : State) (c : Chan) (v : Nat), v ≤ 2 * vLim s c) ∧
    (∃ (s : State) (n : Fin 4), s.zin[n].phase.gateOn = false) ∧
    (∃ (s : State) (n : Fin 4), s.zin[n].limTimer = false) ∧
    (∃ (s : State) (n : Fin 8), s.fo[n].limTimer = false) ∧
    (∃ (s : State) (n : Fin 8), s.fo[n].phase.gateOn = false) ∧
    (∃ (s : State) (n : Fin 8) (c : Instr) (b : Nat) (v : Nat), s.fo[n].phase.gateOn = true ∧ ((c = .fastTrip (.fo n) v ∧ 2 * vLim s (.fo n) < v ∧
      b = 0) ∨ (c = .limitTimerExpire (.fo n) ∧ b = 1 ∧ s.fo[n].limTimer = true) ∨ (c = .absoluteTrip (.fo n) ∧ b = 2)) ∧
      min 8 (s.fo[n].retryCnt + 1) ≤ s.foRetryMax n) ∧
    (∃ (s : State) (n : Fin 8) (c : Instr) (b : Nat) (v : Nat), s.fo[n].phase.gateOn = true ∧ ((c = .fastTrip (.fo n) v ∧ 2 * vLim s (.fo n) < v ∧
      b = 0) ∨ (c = .limitTimerExpire (.fo n) ∧ b = 1 ∧ s.fo[n].limTimer = true) ∨ (c = .absoluteTrip (.fo n) ∧ b = 2)) ∧
      s.foRetryMax n < min 8 (s.fo[n].retryCnt + 1)) ∧
    (∃ (s : State) (n : Fin 4), s.zin[n].coldStart = true) :=
  ⟨⟨{ rdy with zin := vmod rdy.zin 3 fun x => { x with phase := .on, limTimer := true } }, 3, .limitTimerExpire (.zin 3), 1, 0, by decide +kernel⟩,
   ⟨rdy, .fo 0, 0, by decide +kernel⟩,
   ⟨{ rdy with zin := vmod rdy.zin 0 fun x => { x with phase := .off } }, 0, by decide +kernel⟩,
   ⟨{ rdy with zin := vmod rdy.zin 0 fun x => { x with limTimer := false } }, 0, by decide +kernel⟩,
   ⟨{ rdy with fo := vmod rdy.fo 0 fun x => { x with limTimer := false } }, 0, by decide +kernel⟩,
   ⟨{ rdy with fo := vmod rdy.fo 0 fun x => { x with phase := .off } }, 0, by decide +kernel⟩,
   ⟨{ rdy with fo := vmod rdy.fo 7 fun x => { x with phase := .on, limTimer := true } }, 7, .limitTimerExpire (.fo 7), 1, 0, by decide +kernel⟩,
   ⟨{ rdy with fo := vmod rdy.fo 0 fun x => { x with phase := .on, retryCnt := 7 } }, 0, .absoluteTrip (.fo 0), 2, 0, by decide +kernel⟩,
   ⟨{ rdy with zin := vmod rdy.zin 0 fun x => { x with coldStart := true } }, 0, by decide +kernel⟩⟩

/-- Every clause of `Obligations.ChannelCommandsAndPresence` has a state and operands that meet its hypotheses. -/
theorem test_witness_ChannelCommandsAndPresence :
    (∃ (s : State) (p : Port) (row : ObjRow) (n : Fin 4), answering s = true ∧ checkWrite s p (0x2210 + n) 0x01 = .ok row) ∧
    (∃ (s : State) (p : Port) (row : ObjRow) (n : Fin 4) (v : Nat), answering s = true ∧ checkWrite s p (0x2210 + n) 0x10 = .ok row ∧ v ≠ 1) ∧
    (∃ (s : State) (p : Port) (row : ObjRow) (n : Fin 4) (v : Nat), answering s = true ∧ checkWrite s p (0x2210 + n) 0x10 = .ok row ∧ v = 1 ∧
      s.zin[n].phase = .limit) ∧
    (∃ (s : State) (p : Port) (row : ObjRow) (n : Fin 4) (v : Nat), answering s = true ∧ checkWrite s p (0x2210 + n) 0x10 = .ok row ∧ v = 1 ∧
      s.zin[n].phase ≠ .limit) ∧
    (∃ (s : State) (p : Port) (row : ObjRow) (n : Fin 8) (v : Nat), answering s = true ∧ checkWrite s p (0x2220 + n) 0x0B = .ok row ∧ v ≠ 1) ∧
    (∃ (s : State) (p : Port) (row : ObjRow) (n : Fin 8) (v : Nat), answering s = true ∧ checkWrite s p (0x2220 + n) 0x0B = .ok row ∧ v = 1 ∧
      s.fo[n].phase = .limit) ∧
    (∃ (s : State) (p : Port) (row : ObjRow) (n : Fin 8) (v : Nat), answering s = true ∧ checkWrite s p (0x2220 + n) 0x0B = .ok row ∧ v = 1 ∧
      s.fo[n].phase ≠ .limit) ∧
    (∃ (s : State) (n : Fin 8), s.fo[n].phase ≠ .disabling) ∧
    (∃ (s : State) (n : Fin 8), s.fo[n].phase = .disabling ∧ s.fo[n].onHeld = false) :=
  ⟨⟨rdy, 0, okRow (checkWrite rdy 0 (0x2210 + 0) 0x01), 0, by decide +kernel⟩,
   ⟨rdy, 0, okRow (checkWrite rdy 0 (0x2210 + 0) 0x10), 0, 0, by decide +kernel⟩,
   ⟨{ rdy with zin := vmod rdy.zin 0 fun x => { x with phase := .limit } }, 0, okRow (checkWrite ({ rdy with zin := vmod rdy.zin 0 fun x => { x with phase := .limit } }) 0 (0x2210 + 0) 0x10), 0, 1, by decide +kernel⟩,
   ⟨rdy, 0, okRow (checkWrite rdy 0 (0x2210 + 0) 0x10), 0, 1, by decide +kernel⟩,
   ⟨rdy, 0, okRow (checkWrite rdy 0 (0x2220 + 0) 0x0B), 0, 0, by decide +kernel⟩,
   ⟨{ rdy with fo := vmod rdy.fo 0 fun x => { x with phase := .limit } }, 0, okRow (checkWrite ({ rdy with fo := vmod rdy.fo 0 fun x => { x with phase := .limit } }) 0 (0x2220 + 0) 0x0B), 0, 1, by decide +kernel⟩,
   ⟨rdy, 0, okRow (checkWrite rdy 0 (0x2220 + 0) 0x0B), 0, 1, by decide +kernel⟩,
   ⟨rdy, 0, by decide +kernel⟩,
   ⟨{ rdy with fo := vmod rdy.fo 0 fun x => { x with phase := .disabling, onHeld := false } }, 0, by decide +kernel⟩⟩

/-- Every clause of `Obligations.EarlyPowerFail` has a state and operands that meet its hypotheses. -/
theorem test_witness_EarlyPowerFail :
    (∃ (s : State), poweredOutputs s = false) ∧
    (∃ (s : State), poweredOutputs s = true) ∧
    (∃ (s : State), s.zbus.pfwClear = false) ∧
    (∃ (s : State), s.zbus.pfwClear = true ∧ drawingFromPack s = true) ∧
    (∃ (s : State), s.zbus.pfwClear = true ∧ drawingFromPack s = false) :=
  ⟨⟨{ rdy with boot.phase := .starting }, by decide +kernel⟩,
   ⟨rdy, by decide +kernel⟩,
   ⟨{ rdy with zbus.pfwClear := false }, by decide +kernel⟩,
   ⟨{ rdy with zbus.pfwClear := true, pp.drawing := true }, by decide +kernel⟩,
   ⟨{ rdy with zbus.pfwClear := true }, by decide +kernel⟩⟩

/-- Every clause of `Obligations.LoopAndRotation` has a state and operands that meet its hypotheses. -/
theorem test_witness_LoopAndRotation :
    (∃ (s : State) (r : Fin 28) (p : Port) (row : _), answering s = true ∧ checkWrite s p (0x3000 + r) 0x09 = .ok row) ∧
    (∃ (s : State) (r : Fin 28) (p : Port) (row : _) (v : Nat), answering s = true ∧ checkWrite s p (0x3000 + r) 0x09 = .ok row ∧ v ≠ 1) ∧
    (∃ (s : State) (r : Fin 28), railPresent s r = false) ∧
    (∃ (s : State) (r : Fin 28), railPresent s r = true ∧ dieArmed s = false) ∧
    (∃ (s : State) (r : Fin 28), railPresent s r = true ∧ dieArmed s = true) ∧
    (∃ (s : State) (r : Fin 28), railPresent s r = true ∧ dieArmed s = true) ∧
    (∃ (s : State) (r : Fin 28) (v : _), railPresent s r = true ∧ dieArmed s = true ∧ s.rails[r].enabled = true ∧ s.rails[r].disabling = false ∧
      gangOfRail s r = none ∧ s.rails[r].prot.ovLatch = false ∧ s.rails[r].dyn.stepAlarm = false ∧ s.rails[r].pulsed = true ∧ s.loopRll r = 0 ∧
      trackOver s r (senseCode s r v) = false) ∧
    (∃ (s : State) (r : Fin 28), railPresent s r = true ∧ epochNext s r = false) ∧
    (∃ (s : State) (r : Fin 28), railPresent s r = true ∧ epochNext s r = true) ∧
    (∃ (s : State) (r : Fin 28), railPresent s r = true ∧ s.rails[r].enabled = true ∧ gangOfRail s r = none) ∧
    (∃ (s : State) (r : Fin 28), railPresent s r = true ∧ dieArmed s = true ∧ s.rails[r].enabled = true ∧ gangOfRail s r = none ∧
      s.rails[r].dyn.readdPend = false ∧ s.rails[r].dyn.shedDue = false ∧ leavingPhases s r = [] ∧ railN s r ≤ s.rails[r].loop.epochCnt + 1) ∧
    (∃ (s : State) (r : Fin 28), railPresent s r = true) :=
  ⟨⟨rdy, 0, 0, okRow (checkWrite rdy 0 (0x3000 + 0) 0x09), by decide +kernel⟩,
   ⟨rdy, 0, 0, okRow (checkWrite rdy 0 (0x3000 + 0) 0x09), 0, by decide +kernel⟩,
   ⟨{ rdy with part := .qmn2402 }, 4, by decide +kernel⟩,
   ⟨{ rdy with pwr.state := .doze }, 0, by decide +kernel⟩,
   ⟨rdy, 0, by decide +kernel⟩,
   ⟨rdy, 0, by decide +kernel⟩,
   ⟨{ rdy with rails := vmod rdy.rails 0 fun x => { x with enabled := true, disabling := false, prot.ovLatch := false, dyn.stepAlarm := false, pulsed := true }, settings := [(0x30000a, 0)] }, 0, 0, by decide +kernel⟩,
   ⟨rdy, 0, by decide +kernel⟩,
   ⟨{ run0 with rails := vmod run0.rails 0 fun x => { x with loop.epochCnt := 7, enabled := true } }, 0, by decide +kernel⟩,
   ⟨{ rdy with rails := vmod rdy.rails 0 fun x => { x with enabled := true } }, 0, by decide +kernel⟩,
   ⟨{ rdy with rails := vmod rdy.rails 0 fun x => { x with enabled := true, dyn.readdPend := false, dyn.shedDue := false } }, 0, by decide +kernel⟩,
   ⟨rdy, 0, by decide +kernel⟩⟩

/-- Every clause of `Obligations.StrideCoprime` has a state and operands that meet its hypotheses. -/
theorem test_witness_StrideCoprime :
    (∃ (n : Nat), n < 2) ∧
    (∃ (n : Nat), 2 ≤ n) ∧
    (∃ (n : Nat) (st : Nat) (d : _), 2 ≤ n ∧ effStride n st < d ∧ d ≤ (if st % n = 0 then 1 else st % n)) :=
  ⟨⟨1, by decide +kernel⟩,
   ⟨2, by decide +kernel⟩,
   ⟨12, 8, 8, by decide +kernel⟩⟩

/-- Every clause of `Obligations.GangHandshake` has a state and operands that meet its hypotheses. -/
theorem test_witness_GangHandshake :
    (∃ (s : State) (g : Fin 4), s.gangs[g].phase = .formed ∧ s.gangs[g].change = none) ∧
    (∃ (s : State) (g : Fin 4), (s.gangs[g].phase ≠ .formed ∨ s.gangs[g].change ≠ none)) ∧
    (∃ (s : State) (g : Fin 4), s.gangs[g].waiting = []) ∧
    (∃ (s : State) (g : Fin 4), s.gangs[g].waiting ≠ []) ∧
    (∃ (s : State) (k : Fin 7), diePresent s k = false) ∧
    (∃ (s : State) (g : Fin 4) (k : Fin 7), diePresent s k = true ∧ s.gangs[g].waiting.contains k = false) ∧
    (∃ (s : State) (g : Fin 4) (k : Fin 7), diePresent s k = true ∧ s.gangs[g].waiting.contains k = true) ∧
    (∃ (s : State) (k : Fin 7) (ns : Nat), diePresent s k = true ∧ ns < 20) ∧
    (∃ (s : State) (k : Fin 7) (ns : Nat), diePresent s k = true ∧ 40 ≤ ns) ∧
    (∃ (s : State) (g : Fin 4) (k : Fin 7) (ns : Nat), diePresent s k = true ∧ 20 ≤ ns ∧ ns < 40 ∧ (followers s g).contains k = true ∧
      gangStands s g = true ∧ s.dies[k].ownLead ≠ 0) ∧
    (∃ (s : State) (k : Fin 7) (ns : Nat), diePresent s k = true ∧ ns < 40 ∧ s.dies[k].ownLead = 0) ∧
    (∃ (s : State) (k : Fin 7) (ns : Nat), diePresent s k = true ∧ ns < 40) ∧
    (∃ (s : State) (g : Fin 4) (k : Fin 7) (ns : Nat), diePresent s k = true ∧ 40 ≤ ns ∧ (followers s g).contains k = true ∧ gangStands s g = true) ∧
    (∃ (s : State) (g : Fin 4) (k : Fin 7), diePresent s k = true ∧ (followers s g).contains k = true ∧ gangStands s g = true ∧
      s.dies[k].holding = false ∧ s.dies[k].held = false) ∧
    (∃ (s : State) (g : Fin 4) (k : Fin 7), diePresent s k = true ∧ s.dies[k].holding = true ∧ (gangDies s g).contains k = true ∧ s.logAReset = false) ∧
    (∃ (s : State) (g : Fin 4) (k : Fin 7), diePresent s k = true ∧ gangStands s g = true ∧ (gangDies s g).contains k = true) :=
  ⟨⟨{ rdy with gangs := vmod rdy.gangs 0 fun x => { x with phase := .formed, change := none } }, 0, by decide +kernel⟩,
   ⟨rdy, 0, by decide +kernel⟩,
   ⟨{ rdy with gangs := vmod rdy.gangs 0 fun x => { x with waiting := [] } }, 0, by decide +kernel⟩,
   ⟨{ rdy with gangs := vmod rdy.gangs 0 fun x => { x with waiting := [1] } }, 0, by decide +kernel⟩,
   ⟨{ rdy with part := .qmn2402 }, 1, by decide +kernel⟩,
   ⟨rdy, 0, 0, by decide +kernel⟩,
   ⟨{ rdy with gangs := vmod rdy.gangs 0 fun x => { x with waiting := [6] } }, 0, 6, by decide +kernel⟩,
   ⟨rdy, 0, 19, by decide +kernel⟩,
   ⟨rdy, 0, 40, by decide +kernel⟩,
   ⟨{ gang0 with gangs := vmod gang0.gangs 0 fun x => { x with phase := .formed, dies := 3 }, dies := vmod gang0.dies 1 fun x => { x with ownLead := 1 } }, 0, 1, 39, by decide +kernel⟩,
   ⟨{ rdy with dies := vmod rdy.dies 0 fun x => { x with ownLead := 0 } }, 0, 39, by decide +kernel⟩,
   ⟨rdy, 0, 39, by decide +kernel⟩,
   ⟨{ gang0 with gangs := vmod gang0.gangs 0 fun x => { x with phase := .formed, dies := 3 } }, 0, 2, 40, by decide +kernel⟩,
   ⟨{ gang0 with gangs := vmod gang0.gangs 0 fun x => { x with phase := .formed, dies := 3 }, dies := vmod gang0.dies 1 fun x => { x with holding := false, held := false } }, 0, 1, by decide +kernel⟩,
   ⟨{ gang0 with dies := vmod gang0.dies 0 fun x => { x with holding := true }, settings := (mapPut 0x2a2005 0 gang0.settings) }, 0, 0, by decide +kernel⟩,
   ⟨{ rdy with gangs := vmod rdy.gangs 0 fun x => { x with phase := .formed, dies := 3 } }, 0, 0, by decide +kernel⟩⟩

/-- Every clause of `Obligations.VoltageCommands` has a state and operands that meet its hypotheses. -/
theorem test_witness_VoltageCommands :
    (∃ (s : State) (r : Fin 28) (p : Port) (row : ObjRow), answering s = true ∧ checkWrite s p (0x3100 + r) 0x01 = .ok row ∧ trimHolds s r = true) ∧
    (∃ (s : State) (r : Fin 28) (p : Port) (row : ObjRow), answering s = true ∧ checkWrite s p (0x3100 + r) 0x01 = .ok row ∧ trimHolds s r = false ∧
      s.links[railDie r].phase ≠ .up) ∧
    (∃ (s : State) (r : Fin 28) (p : Port) (row : ObjRow), answering s = true ∧ checkWrite s p (0x3100 + r) 0x01 = .ok row ∧ trimHolds s r = false ∧
      s.links[railDie r].phase = .up ∧ helmFree s (railDie r) = true ∧ cmdBlocked s r = true) ∧
    (∃ (s : State) (r : Fin 28) (p : Port) (mv : Nat) (row : ObjRow), answering s = true ∧ checkWrite s p (0x3100 + r) 0x01 = .ok row ∧
      trimHolds s r = false ∧ s.links[railDie r].phase = .up ∧ helmFree s (railDie r) = true ∧ cmdBlocked s r = false ∧
      1920 * 65536 ≤ pinTarget mv (s.railDiv r) ∧ pinTarget mv (s.railDiv r) ≤ 11520 * 65536) ∧
    (∃ (s : State) (j : Fin 8), s.pwr.oldChart = true ∧ 4 ≤ j.val) ∧
    (∃ (s : State) (h : Fin 2), twAnswers s h = false) ∧
    (∃ (s : State) (h : Fin 2) (j : Fin 8), ¬(s.pwr.oldChart = true ∧ 4 ≤ j.val) ∧ twAnswers s h = true ∧ s.update.pause = true) ∧
    (∃ (s : State) (h : Fin 2) (j : Fin 8), ¬(s.pwr.oldChart = true ∧ 4 ≤ j.val) ∧ twAnswers s h = true ∧ s.update.pause = false ∧
      windowRailW s h j = none) ∧
    (∃ (s : State) (r : Fin 28) (h : Fin 2) (j : Fin 8), ¬(s.pwr.oldChart = true ∧ 4 ≤ j.val) ∧ twAnswers s h = true ∧ s.update.pause = false ∧
      windowRailW s h j = some r ∧ trimHolds s r = true) ∧
    (∃ (s : State) (r : Fin 28) (h : Fin 2) (j : Fin 8), ¬(s.pwr.oldChart = true ∧ 4 ≤ j.val) ∧ twAnswers s h = true ∧ s.update.pause = false ∧
      windowRailW s h j = some r ∧ trimHolds s r = false ∧ s.links[railDie r].phase ≠ .up) ∧
    (∃ (s : State) (r : Fin 28) (h : Fin 2) (j : Fin 8), ¬(s.pwr.oldChart = true ∧ 4 ≤ j.val) ∧ twAnswers s h = true ∧ s.update.pause = false ∧
      windowRailW s h j = some r ∧ trimHolds s r = false ∧ s.links[railDie r].phase = .up ∧ helmFree s (railDie r) = true) ∧
    (∃ (s : State) (r : Fin 28), railPresent s r = false) ∧
    (∃ (s : State) (r : Fin 28), railPresent s r = true ∧ s.rails[r].dyn.moving = false) ∧
    (∃ (s : State) (r : Fin 28), railPresent s r = true ∧ s.rails[r].dyn.moving = true) ∧
    (∃ (s : State) (r : Fin 28), railPresent s r = true ∧ s.rails[r].dyn.moving = true ∧ s.rails[r].prot.ovLatch = true) ∧
    (∃ (s : State) (r : Fin 28), railPresent s r = true ∧ s.rails[r].dyn.moving = true ∧ (∀ g : Fin 8, s.groups[g].phase ≠ .poweringUp) ∧
      (∀ q : Fin 28, s.rails[q].prot.vdrDue = false ∧ s.sk.due[q] = false) ∧ s.rails[r].prot.ovLatch = false ∧ s.rails[r].dyn.rampDown = false ∧
      s.rails[r].fc.trimDisabling = false) ∧
    (∃ (s : State) (r : Fin 28), railPresent s r = true ∧ s.rails[r].dyn.moving = true ∧ (∀ g : Fin 8, s.groups[g].phase ≠ .poweringUp) ∧
      (∀ q : Fin 28, s.rails[q].prot.vdrDue = false ∧ s.sk.due[q] = false) ∧ s.rails[r].prot.ovLatch = false ∧ s.rails[r].dyn.rampDown = false ∧
      s.rails[r].fc.trimDisabling = true) ∧
    (∃ (s : State) (r : Fin 28), railPresent s r = true ∧ s.rails[r].dyn.moving = true ∧ (∀ g : Fin 8, s.groups[g].phase ≠ .poweringUp) ∧
      (∀ q : Fin 28, s.rails[q].prot.vdrDue = false ∧ s.sk.due[q] = false) ∧ s.rails[r].prot.ovLatch = false ∧ s.rails[r].dyn.rampDown = true ∧
      s.rails[r].disabling = true ∧ s.rails[r].enHeld = false) ∧
    (∃ (s : State) (r : Fin 28), railPresent s r = true ∧ s.rails[r].dyn.transition = true ∧ s.rails[r].dyn.moving = false ∧
      s.rails[r].dyn.vsp = s.rails[r].dyn.target) ∧
    (∃ (s : State) (r : Fin 28), railPresent s r = true ∧ s.rails[r].dyn.transition = true ∧ s.rails[r].dyn.moving = false ∧
      s.rails[r].dyn.vsp = s.rails[r].dyn.target ∧ (∀ g : Fin 8, s.groups[g].phase ≠ .poweringUp)) ∧
    (∃ (s : State) (r : Fin 28), railPresent s r = true ∧
      (s.rails[r].dyn.transition = false ∨ s.rails[r].dyn.moving = true ∨ s.rails[r].dyn.vsp ≠ s.rails[r].dyn.target)) :=
  ⟨⟨{ run0 with settings := (mapPut 0x31001f 1 (mapPut 0x300001 1 run0.settings)) }, 0, 0, okRow (checkWrite ({ run0 with settings := (mapPut 0x31001f 1 (mapPut 0x300001 1 run0.settings)) }) 0 (0x3100 + 0) 0x01), by decide +kernel⟩,
   ⟨{ rdy with links := vmod rdy.links 0 fun x => { x with phase := .down } }, 0, 0, okRow (checkWrite ({ rdy with links := vmod rdy.links 0 fun x => { x with phase := .down } }) 0 (0x3100 + 0) 0x01), by decide +kernel⟩,
   ⟨{ rdy with links := vmod rdy.links 0 fun x => { x with phase := .up } }, 0, 0, okRow (checkWrite ({ rdy with links := vmod rdy.links 0 fun x => { x with phase := .up } }) 0 (0x3100 + 0) 0x01), by decide +kernel⟩,
   ⟨{ rdy with links := vmod rdy.links 0 fun x => { x with phase := .up }, rails := vmod rdy.rails 0 fun x => { x with enabled := true } }, 0, 0, 1000, okRow (checkWrite ({ rdy with links := vmod rdy.links 0 fun x => { x with phase := .up }, rails := vmod rdy.rails 0 fun x => { x with enabled := true } }) 0 (0x3100 + 0) 0x01), by decide +kernel⟩,
   ⟨{ rdy with pwr.oldChart := true }, 4, by decide +kernel⟩,
   ⟨{ rdy with tw := vmod rdy.tw 0 fun x => { x with wedged := true } }, 0, by decide +kernel⟩,
   ⟨{ rdy with update.pause := true }, 0, 0, by decide +kernel⟩,
   ⟨{ rdy with update.pause := false }, 0, 7, by decide +kernel⟩,
   ⟨{ run0 with update.pause := false, roles := vset run0.roles 4 0, settings := (mapPut 0x31001f 1 (mapPut 0x300001 1 (mapPut 0x2b1001 0 run0.settings))) }, 0, 0, 0, by decide +kernel⟩,
   ⟨{ rdy with update.pause := false, links := vmod rdy.links 0 fun x => { x with phase := .down }, roles := vset rdy.roles 4 0, settings := [(0x2b1001, 0)] }, 0, 0, 0, by decide +kernel⟩,
   ⟨{ rdy with update.pause := false, links := vmod rdy.links 0 fun x => { x with phase := .up }, roles := vset rdy.roles 4 0, settings := [(0x2b1001, 0)] }, 0, 0, 0, by decide +kernel⟩,
   ⟨{ rdy with part := .qmn2402 }, 4, by decide +kernel⟩,
   ⟨{ rdy with rails := vmod rdy.rails 0 fun x => { x with dyn.moving := false } }, 0, by decide +kernel⟩,
   ⟨{ rdy with rails := vmod rdy.rails 0 fun x => { x with dyn.moving := true } }, 0, by decide +kernel⟩,
   ⟨{ rdy with rails := vmod rdy.rails 0 fun x => { x with dyn.moving := true, prot.ovLatch := true } }, 0, by decide +kernel⟩,
   ⟨{ rdy with rails := vmod rdy.rails 0 fun x => { x with dyn.moving := true, prot.ovLatch := false, dyn.rampDown := false, fc.trimDisabling := false } }, 0, by decide +kernel⟩,
   ⟨{ rdy with rails := vmod rdy.rails 0 fun x => { x with dyn.moving := true, prot.ovLatch := false, dyn.rampDown := false, fc.trimDisabling := true } }, 0, by decide +kernel⟩,
   ⟨{ rdy with rails := vmod rdy.rails 0 fun x => { x with dyn.moving := true, prot.ovLatch := false, dyn.rampDown := true, disabling := true, enHeld := false } }, 0, by decide +kernel⟩,
   ⟨{ rdy with rails := vmod rdy.rails 0 fun x => { x with dyn.transition := true, dyn.moving := false, dyn.vsp := 5, dyn.target := 5 } }, 0, by decide +kernel⟩,
   ⟨{ rdy with rails := vmod rdy.rails 0 fun x => { x with dyn.transition := true, dyn.moving := false, dyn.vsp := 5, dyn.target := 5 } }, 0, by decide +kernel⟩,
   ⟨{ rdy with rails := vmod rdy.rails 0 fun x => { x with dyn.transition := false } }, 0, by decide +kernel⟩⟩

/-- Every clause of `Obligations.StepAlarm` has a state and operands that meet its hypotheses. -/
theorem test_witness_StepAlarm :
    (∃ (s : State) (r : Fin 28), railPresent s r = false) ∧
    (∃ (s : State) (r : Fin 28), railPresent s r = true ∧
      (s.rails[r].dyn.stepArmed = false ∨ s.stepEn r = false ∨ s.rails[r].dyn.stepDisabling = true ∨ s.rails[r].dyn.stepAlarm = true ∨ s.rails[r].dyn.stepBlocked = true)) ∧
    (∃ (s : State) (r : Fin 28), railPresent s r = true ∧ s.rails[r].dyn.stepArmed = true ∧ s.stepEn r = true ∧ s.rails[r].dyn.stepDisabling = false ∧
      s.rails[r].dyn.stepAlarm = false ∧ s.rails[r].dyn.stepBlocked = false) ∧
    (∃ (s : State) (r : Fin 28), railPresent s r = true) ∧
    (∃ (s : State) (r : Fin 28), railPresent s r = true ∧ s.rails[r].dyn.stepAlarm = false) ∧
    (∃ (s : State) (r : Fin 28), railPresent s r = true ∧ s.rails[r].dyn.stepAlarm = true) ∧
    (∃ (s : State) (r : Fin 28) (p : Port) (row : ObjRow), answering s = true ∧ checkWrite s p (0x3100 + r) 0x0A = .ok row) :=
  ⟨⟨{ rdy with part := .qmn2402 }, 4, by decide +kernel⟩,
   ⟨{ rdy with rails := vmod rdy.rails 0 fun x => { x with dyn.stepArmed := false } }, 0, by decide +kernel⟩,
   ⟨{ rdy with rails := vmod rdy.rails 0 fun x => { x with dyn.stepArmed := true, dyn.stepDisabling := false, dyn.stepAlarm := false, dyn.stepBlocked := false }, settings := [(0x31000a, 1)] }, 0, by decide +kernel⟩,
   ⟨rdy, 0, by decide +kernel⟩,
   ⟨{ rdy with rails := vmod rdy.rails 0 fun x => { x with dyn.stepAlarm := false } }, 0, by decide +kernel⟩,
   ⟨{ rdy with rails := vmod rdy.rails 0 fun x => { x with dyn.stepAlarm := true } }, 0, by decide +kernel⟩,
   ⟨rdy, 0, 0, okRow (checkWrite rdy 0 (0x3100 + 0) 0x0A), by decide +kernel⟩⟩

/-- Every clause of `Obligations.PhaseShedding` has a state and operands that meet its hypotheses. -/
theorem test_witness_PhaseShedding :
    (∃ (s : State) (r : Fin 28), railPresent s r = false) ∧
    (∃ (s : State) (r : Fin 28), railPresent s r = false) ∧
    (∃ (s : State) (r : Fin 28), railPresent s r = true ∧ (dwellHolds s r = false ∨ s.rails[r].dyn.shedDue = true)) ∧
    (∃ (s : State) (r : Fin 28), railPresent s r = true ∧ dwellHolds s r = true ∧ s.rails[r].dyn.shedDue = false ∧ gangOfRail s r = none) ∧
    (∃ (s : State) (r : Fin 28) (g : _), railPresent s r = true ∧ dwellHolds s r = true ∧ s.rails[r].dyn.shedDue = false ∧ gangOfRail s r = some g) ∧
    (∃ (s : State) (r : Fin 28), railPresent s r = true ∧ (dieArmed s = false ∨ shedNext s r = false)) ∧
    (∃ (s : State) (r : Fin 28), railPresent s r = true ∧ shedNext s r = true) ∧
    (∃ (s : State) (r : Fin 28), railPresent s r = true ∧ (dieArmed s = false ∨ ∀ ph ∈ leavingPhases s r, s.phases[ph].leaveCnt < 3)) ∧
    (∃ (s : State) (r : Fin 28) (ph : Fin 56), railPresent s r = true ∧ 3 ≤ s.phases[ph].leaveCnt ∧ (ph ∈ leavingPhases s r)) ∧
    (∃ (s : State) (r : Fin 28), railPresent s r = true ∧ (dieArmed s = false ∨ s.rails[r].dyn.readdPend = false)) ∧
    (∃ (s : State) (r : Fin 28), railPresent s r = true ∧ s.rails[r].dyn.readdPend = true) ∧
    (∃ (s : State) (r : Fin 28) (ph : Fin 56), railPresent s r = true ∧ dieArmed s = true ∧ s.rails[r].enabled = true ∧ gangOfRail s r = none ∧
      s.rails[r].dyn.readdPend = false ∧ s.rails[r].dyn.shedDue = true ∧ leavingPhases s r = [] ∧ (activePhases s r).getLast? = some ph) ∧
    (∃ (s : State) (r : Fin 28), railPresent s r = true ∧ dieArmed s = true ∧ s.rails[r].enabled = true ∧ gangOfRail s r = none ∧
      leavingPhases s r ≠ [] ∧ (∀ ph ∈ leavingPhases s r, 3 ≤ s.phases[ph].leaveCnt) ∧ s.rails[r].dyn.readdPend = false ∧
      s.rails[r].dyn.shedDue = false) ∧
    (∃ (s : State) (r : Fin 28), railPresent s r = true ∧ dieArmed s = true ∧ s.rails[r].enabled = true ∧ s.rails[r].dyn.readdPend = true) ∧
    (∃ (s : State) (r : Fin 28) (m : Nat), railPresent s r = true ∧ ¬(s.phmIAdd r * (activePhases s r).length < m ∧ anyNotActive s r = true ∧
      s.rails[r].stationKept = false)) ∧
    (∃ (s : State) (r : Fin 28) (m : Nat), railPresent s r = true ∧ s.phmIAdd r * (activePhases s r).length < m ∧ anyNotActive s r = true ∧
      s.rails[r].stationKept = false) ∧
    (∃ (s : State) (r : Fin 28), railPresent s r = true) ∧
    (∃ (s : State) (r : Fin 28) (p : Port) (row : ObjRow), answering s = true ∧ checkWrite s p (0x3100 + r) 0x0F = .ok row ∧
      (phmOn s r = false ∨ s.rails[r].enabled = false ∨ s.rails[r].stationKept = true)) ∧
    (∃ (s : State) (r : Fin 28) (p : Port) (row : ObjRow), answering s = true ∧ checkWrite s p (0x3100 + r) 0x0F = .ok row ∧ phmOn s r = true ∧
      s.rails[r].enabled = true ∧ s.rails[r].stationKept = false) :=
  ⟨⟨{ rdy with part := .qmn2402 }, 4, by decide +kernel⟩,
   ⟨{ rdy with part := .qmn2402 }, 4, by decide +kernel⟩,
   ⟨rdy, 0, by decide +kernel⟩,
   ⟨{ run0 with rails := vmod run0.rails 0 fun x => { x with dyn.shedDue := false, prot.pg := true }, phases := vmod run0.phases 0 fun x => { x with iAvg := -1 }, settings := (mapPut 0x31000f 1 run0.settings) }, 0, by decide +kernel⟩,
   ⟨{ gang0 with rails := vmod gang0.rails 0 fun x => { x with dyn.shedDue := false, prot.pg := true }, phases := vmod (vmod gang0.phases 0 fun x => { x with iAvg := -1, run := .active }) 8 fun x => { x with run := .active }, settings := (mapPut 0x31000f 1 gang0.settings) }, 0, 0, by decide +kernel⟩,
   ⟨rdy, 0, by decide +kernel⟩,
   ⟨{ run0 with rails := vmod run0.rails 0 fun x => { x with dyn.shedDue := true } }, 0, by decide +kernel⟩,
   ⟨rdy, 0, by decide +kernel⟩,
   ⟨{ run0 with phases := vmod run0.phases 1 fun x => { x with run := .leaving, leaveCnt := 3 } }, 0, 1, by decide +kernel⟩,
   ⟨rdy, 0, by decide +kernel⟩,
   ⟨{ rdy with rails := vmod rdy.rails 0 fun x => { x with dyn.readdPend := true } }, 0, by decide +kernel⟩,
   ⟨{ run0 with rails := vmod run0.rails 0 fun x => { x with enabled := true, dyn.readdPend := false, dyn.shedDue := true } }, 0, 1, by decide +kernel⟩,
   ⟨{ run0 with rails := vmod run0.rails 0 fun x => { x with enabled := true, dyn.readdPend := false, dyn.shedDue := false }, phases := vmod run0.phases 1 fun x => { x with run := .leaving, leaveCnt := 3 } }, 0, by decide +kernel⟩,
   ⟨{ rdy with rails := vmod rdy.rails 0 fun x => { x with enabled := true, dyn.readdPend := true } }, 0, by decide +kernel⟩,
   ⟨rdy, 0, 0, by decide +kernel⟩,
   ⟨{ run0 with rails := vmod run0.rails 0 fun x => { x with stationKept := false }, phases := vmod run0.phases 1 fun x => { x with run := .shed } }, 0, 20001, by decide +kernel⟩,
   ⟨rdy, 0, by decide +kernel⟩,
   ⟨rdy, 0, 0, okRow (checkWrite rdy 0 (0x3100 + 0) 0x0F), by decide +kernel⟩,
   ⟨{ rdy with rails := vmod rdy.rails 0 fun x => { x with enabled := true, stationKept := false }, settings := [(0x31000f, 1)] }, 0, 0, okRow (checkWrite ({ rdy with rails := vmod rdy.rails 0 fun x => { x with enabled := true, stationKept := false }, settings := [(0x31000f, 1)] }) 0 (0x3100 + 0) 0x0F), by decide +kernel⟩⟩

/-- Every clause of `Obligations.HintsAndBusTrim` has a state and operands that meet its hypotheses. -/
theorem test_witness_HintsAndBusTrim :
    (∃ (s : State) (r : Fin 28), railPresent s r = false) ∧
    (∃ (s : State) (h : Fin 2), (hintAgain h s = true ∨ ∀ q : Fin 28, railPresent s q = true → assigned s h q = true → s.fcPinEn q = false)) ∧
    (∃ (s : State), (∀ k : Fin 7, s.links[k].phase = .up → helmFree s k = true)) ∧
    (∃ (s : State) (r : Fin 28) (p : Port) (v : Nat) (row : ObjRow), answering s = true ∧ checkWrite s p (0x3100 + r) 0x1C = .ok row ∧
      s.links[railDie r].phase ≠ .up ∧ v < 2 ^ 23 ∧ 1 ≤ field v 22 16 ∧ field v 22 16 ≤ 100) ∧
    (∃ (s : State) (r : Fin 28) (p : Port) (row : ObjRow), answering s = true ∧ checkWrite s p (0x3100 + r) 0x1C = .ok row) ∧
    (∃ (s : State) (r : Fin 28) (p : Port) (row : ObjRow), answering s = true ∧ checkWrite s p (0x3100 + r) 0x1C = .ok row ∧
      s.links[railDie r].phase = .up ∧ helmFree s (railDie r) = true ∧ s.fcEn r = true ∧ s.rails[r].prot.pg = true ∧ s.rails[r].stationKept = false) ∧
    (∃ (s : State), s.pwr.oldChart = true) ∧
    (∃ (s : State) (h : Fin 2), twAnswers s h = false) ∧
    (∃ (s : State) (h : Fin 2), s.pwr.oldChart = false ∧ twAnswers s h = true ∧ s.update.pause = true) ∧
    (∃ (s : State) (h : Fin 2) (j : Fin 8), s.pwr.oldChart = false ∧ twAnswers s h = true ∧ s.update.pause = false ∧ windowRailW s h j = none) ∧
    (∃ (s : State) (r : Fin 28) (h : Fin 2) (j : Fin 8), s.pwr.oldChart = false ∧ twAnswers s h = true ∧ s.update.pause = false ∧
      windowRailW s h j = some r) ∧
    (∃ (s : State) (r : Fin 28), railPresent s r = true ∧ (∀ x ∈ s.rails[r].fc.hints, x.due = true)) ∧
    (∃ (s : State) (r : Fin 28), railPresent s r = true ∧ (∃ x ∈ s.rails[r].fc.hints, x.due = false) ∧ anyNotActive s r = false) ∧
    (∃ (s : State) (r : Fin 28), railPresent s r = true ∧ (∃ x ∈ s.rails[r].fc.hints, x.due = false) ∧ anyNotActive s r = true) ∧
    (∃ (s : State) (r : Fin 28), railPresent s r = true) ∧
    (∃ (s : State) (r : Fin 28), railPresent s r = true ∧
      (s.rails[r].fc.trimActive = false ∨ s.rails[r].fc.trimStopped = true ∨ s.rails[r].stationKept = true)) ∧
    (∃ (s : State) (r : Fin 28), railPresent s r = true ∧ s.rails[r].fc.trimActive = true ∧ s.rails[r].fc.trimStopped = false ∧
      s.rails[r].stationKept = false) ∧
    (∃ (s : State) (r : Fin 28) (p : Port) (row : ObjRow), answering s = true ∧ checkWrite s p (0x3100 + r) 0x1F = .ok row) :=
  ⟨⟨{ rdy with part := .qmn2402 }, 4, by decide +kernel⟩,
   ⟨rdy, 0, by decide +kernel⟩,
   ⟨rdy, by decide +kernel⟩,
   ⟨{ rdy with links := vmod rdy.links 0 fun x => { x with phase := .down } }, 0, 0, 100 * 2 ^ 16, okRow (checkWrite ({ rdy with links := vmod rdy.links 0 fun x => { x with phase := .down } }) 0 (0x3100 + 0) 0x1C), by decide +kernel⟩,
   ⟨rdy, 0, 0, okRow (checkWrite rdy 0 (0x3100 + 0) 0x1C), by decide +kernel⟩,
   ⟨{ rdy with links := vmod rdy.links 0 fun x => { x with phase := .up }, rails := vmod rdy.rails 0 fun x => { x with prot.pg := true, stationKept := false }, settings := [(0x310018, 1)] }, 0, 0, okRow (checkWrite ({ rdy with links := vmod rdy.links 0 fun x => { x with phase := .up }, rails := vmod rdy.rails 0 fun x => { x with prot.pg := true, stationKept := false }, settings := [(0x310018, 1)] }) 0 (0x3100 + 0) 0x1C), by decide +kernel⟩,
   ⟨{ rdy with pwr.oldChart := true }, by decide +kernel⟩,
   ⟨{ rdy with tw := vmod rdy.tw 0 fun x => { x with wedged := true } }, 0, by decide +kernel⟩,
   ⟨{ rdy with pwr.oldChart := false, update.pause := true }, 0, by decide +kernel⟩,
   ⟨{ rdy with pwr.oldChart := false, update.pause := false }, 0, 7, by decide +kernel⟩,
   ⟨{ rdy with pwr.oldChart := false, update.pause := false, roles := vset rdy.roles 4 0, settings := [(0x2b1001, 0)] }, 0, 0, 0, by decide +kernel⟩,
   ⟨rdy, 0, by decide +kernel⟩,
   ⟨{ run0 with rails := vmod run0.rails 0 fun x => { x with fc.hints := [⟨0, 1, false⟩] } }, 0, by decide +kernel⟩,
   ⟨{ run0 with rails := vmod run0.rails 0 fun x => { x with fc.hints := [⟨0, 1, false⟩] }, phases := vmod run0.phases 1 fun x => { x with run := .shed } }, 0, by decide +kernel⟩,
   ⟨rdy, 0, by decide +kernel⟩,
   ⟨{ rdy with rails := vmod rdy.rails 0 fun x => { x with fc.trimActive := false } }, 0, by decide +kernel⟩,
   ⟨{ rdy with rails := vmod rdy.rails 0 fun x => { x with fc.trimActive := true, fc.trimStopped := false, stationKept := false } }, 0, by decide +kernel⟩,
   ⟨rdy, 0, 0, okRow (checkWrite rdy 0 (0x3100 + 0) 0x1F), by decide +kernel⟩⟩

/-- Every clause of `Obligations.OverVoltageAndClear` has a state and operands that meet its hypotheses. -/
theorem test_witness_OverVoltageAndClear :
    (∃ (s : State) (r : Fin 28), railPresent s r = false) ∧
    (∃ (s : State) (r : Fin 28), railPresent s r = true ∧ (dieArmed s = false ∨ railPhases s r = [])) ∧
    (∃ (s : State) (r : Fin 28), railPresent s r = true ∧ (dieArmed s = false ∨ s.rails[r].enabled = false ∨ s.rails[r].pulsed = false)) ∧
    (∃ (s : State) (r : Fin 28) (v : Nat), railPresent s r = true ∧ dieArmed s = true ∧ railPhases s r ≠ [] ∧ v ≤ mvUnits s.rails[r].prot.ovAbs) ∧
    (∃ (s : State) (r : Fin 28) (v : Nat), railPresent s r = true ∧ dieArmed s = true ∧ s.rails[r].enabled = true ∧ s.rails[r].pulsed = true ∧
      trackOver s r (senseCode s r v) = false) ∧
    (∃ (s : State) (r : Fin 28) (v : Nat), railPresent s r = true ∧ dieArmed s = true ∧ railPhases s r ≠ [] ∧ mvUnits s.rails[r].prot.ovAbs < v ∧
      s.rails[r].prot.ovLatch = true) ∧
    (∃ (s : State) (r : Fin 28) (v : Nat), railPresent s r = true ∧ dieArmed s = true ∧ s.rails[r].enabled = true ∧ s.rails[r].pulsed = true ∧
      trackOver s r (senseCode s r v) = true ∧ s.rails[r].prot.ovLatch = true) ∧
    (∃ (s : State) (r : Fin 28) (v : Nat) (c : Instr) (b : Nat), railPresent s r = true ∧ dieArmed s = true ∧ s.rails[r].prot.ovLatch = false ∧
      ((c = .ovAbsTrip r v ∧ b = 0 ∧ railPhases s r ≠ [] ∧ mvUnits s.rails[r].prot.ovAbs < v) ∨ (c = .ovTrackingTrip r v ∧ b = 1 ∧
      s.rails[r].enabled = true ∧ s.rails[r].pulsed = true ∧ trackOver s r (senseCode s r v) = true)) ∧ gangOfRail s r = none ∧
      s.rails[r].stationKept = true ∧ s.boot.step8 = true) ∧
    (∃ (s : State) (r : Fin 28) (v : Nat) (c : Instr) (b : Nat), railPresent s r = true ∧ dieArmed s = true ∧ s.rails[r].prot.ovLatch = false ∧
      ((c = .ovAbsTrip r v ∧ b = 0 ∧ railPhases s r ≠ [] ∧ mvUnits s.rails[r].prot.ovAbs < v) ∨ (c = .ovTrackingTrip r v ∧ b = 1 ∧
      s.rails[r].enabled = true ∧ s.rails[r].pulsed = true ∧ trackOver s r (senseCode s r v) = true)) ∧ gangOfRail s r = none ∧
      s.rails[r].stationKept = true ∧ s.rails[r].disabling = false ∧ s.boot.step8 = false) ∧
    (∃ (s : State) (r : Fin 28) (v : Nat) (c : Instr) (b : Nat) (g : _), railPresent s r = true ∧ dieArmed s = true ∧ s.rails[r].prot.ovLatch = false ∧
      ((c = .ovAbsTrip r v ∧ b = 0 ∧ railPhases s r ≠ [] ∧ mvUnits s.rails[r].prot.ovAbs < v) ∨ (c = .ovTrackingTrip r v ∧ b = 1 ∧
      s.rails[r].enabled = true ∧ s.rails[r].pulsed = true ∧ trackOver s r (senseCode s r v) = true)) ∧ gangOfRail s r = some g ∧
      s.logAReset = false ∧ s.sk.left = []) ∧
    (∃ (s : State) (r : Fin 28) (v : Nat) (c : Instr) (b : Nat) (u : _), railPresent s r = true ∧ dieArmed s = true ∧ s.rails[r].prot.ovLatch = false ∧
      ((c = .ovAbsTrip r v ∧ b = 0 ∧ railPhases s r ≠ [] ∧ mvUnits s.rails[r].prot.ovAbs < v) ∨ (c = .ovTrackingTrip r v ∧ b = 1 ∧
      s.rails[r].enabled = true ∧ s.rails[r].pulsed = true ∧ trackOver s r (senseCode s r v) = true)) ∧ gangOfRail s r = none ∧
      s.rails[r].stationKept = false ∧ u = ovLatchSet r b { s with rails := vmod s.rails r fun x => { x with loop := { x.loop with vsense := v } } }) ∧
    (∃ (s : State) (r : Fin 28) (v : Nat) (c : Instr) (b : Nat) (u : _), railPresent s r = true ∧ dieArmed s = true ∧ s.rails[r].prot.ovLatch = false ∧
      ((c = .ovAbsTrip r v ∧ b = 0 ∧ railPhases s r ≠ [] ∧ mvUnits s.rails[r].prot.ovAbs < v) ∨ (c = .ovTrackingTrip r v ∧ b = 1 ∧
      s.rails[r].enabled = true ∧ s.rails[r].pulsed = true ∧ trackOver s r (senseCode s r v) = true)) ∧ gangOfRail s r = none ∧
      s.rails[r].stationKept = false ∧
      u = ovLatchSet r b { s with rails := vmod s.rails r fun x => { x with loop := { x.loop with vsense := v } } } ∧ s.rails[r].disabling = false) ∧
    (∃ (s : State) (r : Fin 28) (p : Port) (row : ObjRow) (v : Nat), answering s = true ∧ checkWrite s p (0x3200 + r) 0x0D = .ok row ∧ v ≠ 1) ∧
    (∃ (s : State) (r : Fin 28) (p : Port) (row : ObjRow), answering s = true ∧ checkWrite s p (0x3200 + r) 0x0D = .ok row ∧ fclrRefused s r = true) ∧
    (∃ (s : State) (r : Fin 28) (p : Port) (row : ObjRow), answering s = true ∧ checkWrite s p (0x3200 + r) 0x0D = .ok row ∧ fclrRefused s r = false) :=
  ⟨⟨{ rdy with part := .qmn2402 }, 4, by decide +kernel⟩,
   ⟨rdy, 0, by decide +kernel⟩,
   ⟨rdy, 0, by decide +kernel⟩,
   ⟨run0, 0, 0, by decide +kernel⟩,
   ⟨{ rdy with rails := vmod rdy.rails 0 fun x => { x with enabled := true, pulsed := true } }, 0, 0, by decide +kernel⟩,
   ⟨{ run0 with rails := vmod run0.rails 0 fun x => { x with prot.ovLatch := true } }, 0, 1000000, by decide +kernel⟩,
   ⟨{ run0 with rails := vmod run0.rails 0 fun x => { x with enabled := true, pulsed := true, prot.ovLatch := true } }, 0, 5000, by decide +kernel⟩,
   ⟨{ run0 with boot.step8 := true, sk.shadow := vset run0.sk.shadow 0 run0.settings, rails := vmod run0.rails 0 fun x => { x with prot.ovLatch := false, stationKept := true } }, 0, 1000000, .ovAbsTrip 0 1000000, 0, by decide +kernel⟩,
   ⟨{ run0 with boot.step8 := false, sk.shadow := vset run0.sk.shadow 0 run0.settings, rails := vmod run0.rails 0 fun x => { x with prot.ovLatch := false, stationKept := true, disabling := false } }, 0, 1000000, .ovAbsTrip 0 1000000, 0, by decide +kernel⟩,
   ⟨{ gang0 with sk.left := [], rails := vmod gang0.rails 0 fun x => { x with prot.ovLatch := false, pulsed := true, absorbed := false }, settings := (mapPut 0x2a2005 0 gang0.settings) }, 0, 5000, .ovTrackingTrip 0 5000, 1, 0, by and_intros <;> first | decide +kernel | rfl | exact Or.inl (by decide +kernel) | simp⟩,
   ⟨{ run0 with rails := vmod run0.rails 0 fun x => { x with prot.ovLatch := false, stationKept := false } }, 0, 1000000, .ovAbsTrip 0 1000000, 0, ovLatchSet 0 0 { ({ run0 with rails := vmod run0.rails 0 fun x => { x with prot.ovLatch := false, stationKept := false } }) with rails := vmod ({ run0 with rails := vmod run0.rails 0 fun x => { x with prot.ovLatch := false, stationKept := false } }).rails 0 fun x => { x with loop := { x.loop with vsense := 1000000 } } }, by and_intros <;> first | decide +kernel | rfl | exact Or.inl (by decide +kernel) | simp⟩,
   ⟨{ run0 with rails := vmod run0.rails 0 fun x => { x with prot.ovLatch := false, stationKept := false, disabling := false } }, 0, 1000000, .ovAbsTrip 0 1000000, 0, ovLatchSet 0 0 { ({ run0 with rails := vmod run0.rails 0 fun x => { x with prot.ovLatch := false, stationKept := false, disabling := false } }) with rails := vmod ({ run0 with rails := vmod run0.rails 0 fun x => { x with prot.ovLatch := false, stationKept := false, disabling := false } }).rails 0 fun x => { x with loop := { x.loop with vsense := 1000000 } } }, by and_intros <;> first | decide +kernel | rfl | exact Or.inl (by decide +kernel) | simp⟩,
   ⟨rdy, 0, 0, okRow (checkWrite rdy 0 (0x3200 + 0) 0x0D), 0, by decide +kernel⟩,
   ⟨{ rdy with rails := vmod rdy.rails 0 fun x => { x with prot.uvTimer := true } }, 0, 0, okRow (checkWrite ({ rdy with rails := vmod rdy.rails 0 fun x => { x with prot.uvTimer := true } }) 0 (0x3200 + 0) 0x0D), by decide +kernel⟩,
   ⟨rdy, 0, 0, okRow (checkWrite rdy 0 (0x3200 + 0) 0x0D), by decide +kernel⟩⟩

/-- Every clause of `Obligations.FaultTimersAndPowerGood` has a state and operands that meet its hypotheses. -/
theorem test_witness_FaultTimersAndPowerGood :
    (∃ (s : State) (r : Fin 28), railPresent s r = false) ∧
    (∃ (s : State) (r : Fin 28), railPresent s r = false) ∧
    (∃ (s : State) (r : Fin 28), railPresent s r = false) ∧
    (∃ (s : State) (r : Fin 28), railPresent s r = true ∧ dieArmed s = false) ∧
    (∃ (s : State) (r : Fin 28) (k : Fin 7), railPresent s r = true ∧ (railDies s r).contains k = false) ∧
    (∃ (s : State) (r : Fin 28), railPresent s r = true ∧ dieArmed s = true) ∧
    (∃ (s : State) (r : Fin 28) (m : Int) (i : Int), railPresent s r = true ∧ dieArmed s = true ∧ (railDies s r).contains (railDie r) = true ∧
      i = (if (gangOfRail s r).isSome = true ∧
      ((activePhases s r).filter fun ph => decide (phaseDie ph = railDie r)) ≠ [] then divHalfUpI (m * (activePhases s r).length) ((activePhases s r).filter fun ph => decide (phaseDie ph = railDie r)).length else m)) ∧
    (∃ (s : State) (r : Fin 28) (k : Fin 7), railPresent s r = true ∧ dieArmed s = true ∧ (railDies s r).contains k = true ∧ k ≠ railDie r) ∧
    (∃ (s : State) (r : Fin 28), railPresent s r = true ∧ s.rails[r].prot.uvTimer = false) ∧
    (∃ (s : State) (r : Fin 28), railPresent s r = true ∧ s.rails[r].prot.ocTimer = false) ∧
    (∃ (s : State) (r : Fin 28), railPresent s r = true ∧ s.rails[r].prot.uvTimer = true ∧ s.rails[r].prot.uvCond = false) ∧
    (∃ (s : State) (r : Fin 28), railPresent s r = true ∧ s.rails[r].prot.uvTimer = true ∧ s.rails[r].prot.uvCond = false ∧
      (∀ g : Fin 8, s.groups[g].phase ≠ .poweringUp)) ∧
    (∃ (s : State) (r : Fin 28), railPresent s r = true ∧ s.rails[r].prot.ocTimer = true ∧ ocHolds s r = false) ∧
    (∃ (s : State) (r : Fin 28), railPresent s r = true ∧ s.rails[r].prot.ocTimer = true ∧ ocHolds s r = false ∧
      (∀ g : Fin 8, s.groups[g].phase ≠ .poweringUp)) ∧
    (∃ (s : State) (r : Fin 28) (u : _), railPresent s r = true ∧ s.rails[r].prot.uvTimer = true ∧ s.rails[r].prot.uvCond = true ∧
      (u = latchFault r 2 { s with rails := vmod s.rails r fun x => { x with prot := { x.prot with uvTimer := false, noPg := true } } })) ∧
    (∃ (s : State) (r : Fin 28) (u : _), railPresent s r = true ∧ s.rails[r].prot.ocTimer = true ∧ ocHolds s r = true ∧
      (u = latchFault r 3 { s with rails := vmod s.rails r fun x => { x with prot := { x.prot with ocTimer := false, noPg := true } } })) ∧
    (∃ (s : State) (ph : Fin 56), diePresent s (phaseDie ph) = false) ∧
    (∃ (s : State) (ph : Fin 56), diePresent s (phaseDie ph) = true ∧ phaseRail s ph = none) ∧
    (∃ (s : State) (r : Fin 28) (ph : Fin 56) (mA : Nat), diePresent s (phaseDie ph) = true ∧ phaseRail s ph = some r ∧
      (s.rails[r].enabled = false ∨ s.phases[ph].run = .shed ∨ s.rails[r].dyn.stepAlarm = true ∨ mA ≤ valleyLimitOf s r)) ∧
    (∃ (s : State) (r : Fin 28) (ph : Fin 56) (mA : Nat), diePresent s (phaseDie ph) = true ∧ phaseRail s ph = some r ∧ s.rails[r].enabled = true ∧
      s.phases[ph].run ≠ .shed ∧ s.rails[r].dyn.stepAlarm = false ∧ valleyLimitOf s r < mA) ∧
    (∃ (s : State) (r : Fin 28), railPresent s r = true ∧
      (s.rails[r].enabled = false ∨ s.rails[r].disabling = true ∨ s.rails[r].dyn.softDone = false ∨ s.rails[r].prot.w = false)) ∧
    (∃ (s : State) (r : Fin 28) (u : _), railPresent s r = true ∧ s.rails[r].enabled = true ∧ s.rails[r].disabling = false ∧
      s.rails[r].dyn.softDone = true ∧ s.rails[r].prot.w = true ∧
      u = pgRefresh r { s with rails := vmod s.rails r fun x => { x with prot := { x.prot with qualified := true } } }) ∧
    (∃ (s : State) (r : Fin 28) (u : _), railPresent s r = true ∧ s.rails[r].enabled = true ∧ s.rails[r].disabling = false ∧
      s.rails[r].dyn.softDone = true ∧ s.rails[r].prot.w = true ∧
      u = pgRefresh r { s with rails := vmod s.rails r fun x => { x with prot := { x.prot with qualified := true } } } ∧ row2 s r = false ∧
      s.rails[r].prot.noPg = false ∧ s.rails[r].prot.uvTimer = false ∧ s.rails[r].prot.ocTimer = false) ∧
    (∃ (s : State) (r : Fin 28) (u : _), railPresent s r = true ∧ s.rails[r].enabled = true ∧ s.rails[r].disabling = false ∧
      s.rails[r].dyn.softDone = true ∧ s.rails[r].prot.w = true ∧
      u = pgRefresh r { s with rails := vmod s.rails r fun x => { x with prot := { x.prot with qualified := true } } } ∧ row2 s r = true) ∧
    (∃ (s : State) (r : Fin 28) (u : _), railPresent s r = true ∧ s.rails[r].enabled = true ∧ s.rails[r].disabling = false ∧
      s.rails[r].dyn.softDone = true ∧ s.rails[r].prot.w = true ∧
      u = pgRefresh r { s with rails := vmod s.rails r fun x => { x with prot := { x.prot with qualified := true } } } ∧
      (∀ g : Fin 8, s.groups[g].phase ≠ .poweringUp)) ∧
    (∃ (s : State) (r : Fin 28), railPresent s r = true) :=
  ⟨⟨{ rdy with part := .qmn2402 }, 4, by decide +kernel⟩,
   ⟨{ rdy with part := .qmn2402 }, 4, by decide +kernel⟩,
   ⟨{ rdy with part := .qmn2402 }, 4, by decide +kernel⟩,
   ⟨{ rdy with pwr.state := .doze }, 0, by decide +kernel⟩,
   ⟨rdy, 0, 1, by decide +kernel⟩,
   ⟨rdy, 0, by decide +kernel⟩,
   ⟨rdy, 0, 0, (if (gangOfRail rdy 0).isSome = true ∧ ((activePhases rdy 0).filter fun ph => decide (phaseDie ph = railDie 0)) ≠ [] then divHalfUpI (0 * (activePhases rdy 0).length) ((activePhases rdy 0).filter fun ph => decide (phaseDie ph = railDie 0)).length else 0), by decide +kernel⟩,
   ⟨gang0, 0, 1, by decide +kernel⟩,
   ⟨{ rdy with rails := vmod rdy.rails 0 fun x => { x with prot.uvTimer := false } }, 0, by decide +kernel⟩,
   ⟨{ rdy with rails := vmod rdy.rails 0 fun x => { x with prot.ocTimer := false } }, 0, by decide +kernel⟩,
   ⟨{ rdy with rails := vmod rdy.rails 0 fun x => { x with prot.uvTimer := true, prot.uvCond := false } }, 0, by decide +kernel⟩,
   ⟨{ rdy with rails := vmod rdy.rails 0 fun x => { x with prot.uvTimer := true, prot.uvCond := false } }, 0, by decide +kernel⟩,
   ⟨{ rdy with rails := vmod rdy.rails 0 fun x => { x with prot.ocTimer := true } }, 0, by decide +kernel⟩,
   ⟨{ rdy with rails := vmod rdy.rails 0 fun x => { x with prot.ocTimer := true } }, 0, by decide +kernel⟩,
   ⟨{ rdy with rails := vmod rdy.rails 0 fun x => { x with prot.uvTimer := true, prot.uvCond := true } }, 0, latchFault 0 2 { ({ rdy with rails := vmod rdy.rails 0 fun x => { x with prot.uvTimer := true, prot.uvCond := true } }) with rails := vmod ({ rdy with rails := vmod rdy.rails 0 fun x => { x with prot.uvTimer := true, prot.uvCond := true } }).rails 0 fun x => { x with prot := { x.prot with uvTimer := false, noPg := true } } }, by and_intros <;> first | decide +kernel | rfl | exact Or.inl (by decide +kernel) | simp⟩,
   ⟨{ rdy with rails := vmod rdy.rails 0 fun x => { x with prot.ocTimer := true, prot.ocCond := true } }, 0, latchFault 0 3 { ({ rdy with rails := vmod rdy.rails 0 fun x => { x with prot.ocTimer := true, prot.ocCond := true } }) with rails := vmod ({ rdy with rails := vmod rdy.rails 0 fun x => { x with prot.ocTimer := true, prot.ocCond := true } }).rails 0 fun x => { x with prot := { x.prot with ocTimer := false, noPg := true } } }, by and_intros <;> first | decide +kernel | rfl | exact Or.inl (by decide +kernel) | simp⟩,
   ⟨{ rdy with part := .qmn2402 }, 8, by decide +kernel⟩,
   ⟨rdy, 0, by decide +kernel⟩,
   ⟨{ run0 with rails := vmod run0.rails 0 fun x => { x with enabled := false } }, 0, 0, 0, by decide +kernel⟩,
   ⟨{ run0 with rails := vmod run0.rails 0 fun x => { x with enabled := true, dyn.stepAlarm := false } }, 0, 0, 10000000, by decide +kernel⟩,
   ⟨{ rdy with rails := vmod rdy.rails 0 fun x => { x with enabled := false } }, 0, by decide +kernel⟩,
   ⟨{ rdy with rails := vmod rdy.rails 0 fun x => { x with enabled := true, disabling := false, dyn.softDone := true, prot.w := true } }, 0, pgRefresh 0 { ({ rdy with rails := vmod rdy.rails 0 fun x => { x with enabled := true, disabling := false, dyn.softDone := true, prot.w := true } }) with rails := vmod ({ rdy with rails := vmod rdy.rails 0 fun x => { x with enabled := true, disabling := false, dyn.softDone := true, prot.w := true } }).rails 0 fun x => { x with prot := { x.prot with qualified := true } } }, by and_intros <;> first | decide +kernel | rfl | exact Or.inl (by decide +kernel) | simp⟩,
   ⟨{ rdy with rails := vmod rdy.rails 0 fun x => { x with enabled := true, disabling := false, dyn.softDone := true, prot.w := true, prot.noPg := false, prot.uvTimer := false, prot.ocTimer := false } }, 0, pgRefresh 0 { ({ rdy with rails := vmod rdy.rails 0 fun x => { x with enabled := true, disabling := false, dyn.softDone := true, prot.w := true, prot.noPg := false, prot.uvTimer := false, prot.ocTimer := false } }) with rails := vmod ({ rdy with rails := vmod rdy.rails 0 fun x => { x with enabled := true, disabling := false, dyn.softDone := true, prot.w := true, prot.noPg := false, prot.uvTimer := false, prot.ocTimer := false } }).rails 0 fun x => { x with prot := { x.prot with qualified := true } } }, by and_intros <;> first | decide +kernel | rfl | exact Or.inl (by decide +kernel) | simp⟩,
   ⟨{ rdy with faultLine := true, rails := vmod rdy.rails 0 fun x => { x with enabled := true, disabling := false, dyn.softDone := true, prot.w := true } }, 0, pgRefresh 0 { ({ rdy with faultLine := true, rails := vmod rdy.rails 0 fun x => { x with enabled := true, disabling := false, dyn.softDone := true, prot.w := true } }) with rails := vmod ({ rdy with faultLine := true, rails := vmod rdy.rails 0 fun x => { x with enabled := true, disabling := false, dyn.softDone := true, prot.w := true } }).rails 0 fun x => { x with prot := { x.prot with qualified := true } } }, by decide +kernel⟩,
   ⟨{ rdy with rails := vmod rdy.rails 0 fun x => { x with enabled := true, disabling := false, dyn.softDone := true, prot.w := true } }, 0, pgRefresh 0 { ({ rdy with rails := vmod rdy.rails 0 fun x => { x with enabled := true, disabling := false, dyn.softDone := true, prot.w := true } }) with rails := vmod ({ rdy with rails := vmod rdy.rails 0 fun x => { x with enabled := true, disabling := false, dyn.softDone := true, prot.w := true } }).rails 0 fun x => { x with prot := { x.prot with qualified := true } } }, by and_intros <;> first | decide +kernel | rfl | exact Or.inl (by decide +kernel) | simp⟩,
   ⟨rdy, 0, by decide +kernel⟩⟩

/-- Every clause of `Obligations.SequencerGroups` has a state and operands that meet its hypotheses. -/
theorem test_witness_SequencerGroups :
    (∃ (s : State) (g : Fin 8) (p : Port) (row : ObjRow), answering s = true ∧ checkWrite s p (0x2410 + g) 0x03 = .ok row ∧ upRefused s g = true) ∧
    (∃ (s : State) (g : Fin 8) (p : Port) (row : ObjRow), answering s = true ∧ checkWrite s p (0x2410 + g) 0x03 = .ok row ∧ upRefused s g = false ∧
      (s.groups[g].phase ∈ [.shuttingDown, .minOff])) ∧
    (∃ (s : State) (g : Fin 8) (p : Port) (row : ObjRow), answering s = true ∧ checkWrite s p (0x2410 + g) 0x03 = .ok row ∧ upRefused s g = false ∧
      (s.groups[g].phase ∈ [.off, .faulted]) ∧ (s.boot.step8 = false ∨ (s.groups[g].input = true ∧ s.groups[g].toffTimer = true))) ∧
    (∃ (s : State) (g : Fin 8) (p : Port) (row : ObjRow), answering s = true ∧ checkWrite s p (0x2410 + g) 0x03 = .ok row ∧ upRefused s g = false ∧
      (s.groups[g].phase ∈ [.off, .faulted]) ∧ s.boot.step8 = true ∧ s.groups[g].input = false) ∧
    (∃ (s : State) (g : Fin 8) (p : Port) (row : ObjRow), answering s = true ∧ checkWrite s p (0x2410 + g) 0x03 = .ok row ∧ upRefused s g = false ∧
      (s.groups[g].phase ∈ [.off, .faulted]) ∧ s.boot.step8 = true ∧ s.groups[g].input = true ∧ s.groups[g].toffTimer = false ∧
      (∀ k : Fin 7, s.dies[k].vdrOk = true) ∧ (∀ q : Fin 28, s.rails[q].prot.vdrDue = false)) ∧
    (∃ (s : State) (g : Fin 8) (p : Port) (row : ObjRow), answering s = true ∧ checkWrite s p (0x2410 + g) 0x03 = .ok row ∧ upRefused s g = false ∧
      (s.groups[g].phase ∈ [.waitInput, .poweringUp, .up, .parked])) ∧
    (∃ (s : State) (g : Fin 8) (p : Port) (row : ObjRow), answering s = true ∧ checkWrite s p (0x2410 + g) 0x03 = .ok row) ∧
    (∃ (s : State) (g : Fin 8), s.groups[g].phase ≠ .waitInput) ∧
    (∃ (s : State) (g : Fin 8), s.groups[g].phase = .waitInput ∧ (s.boot.step8 = false ∨ s.groups[g].toffTimer = true)) ∧
    (∃ (s : State) (g : Fin 8), s.groups[g].phase = .waitInput ∧ s.boot.step8 = true ∧ s.groups[g].toffTimer = false ∧
      (∀ k : Fin 7, s.dies[k].vdrOk = true) ∧ (∀ q : Fin 28, s.rails[q].prot.vdrDue = false)) ∧
    (∃ (s : State) (g : Fin 8), (s.groups[g].phase ∉ [.poweringUp, .up])) ∧
    (∃ (s : State) (g : Fin 8), (s.groups[g].phase ∈ [.poweringUp, .up])) ∧
    (∃ (s : State) (g : Fin 8), (s.groups[g].phase ≠ .poweringUp ∨ s.groups[g].delaying = false)) ∧
    (∃ (s : State) (g : Fin 8) (st : _), s.groups[g].phase = .poweringUp ∧ s.groups[g].delaying = true ∧ s.groups[g].step = some st ∧
      stepMayRun s st = false) ∧
    (∃ (s : State) (g : Fin 8) (st : _), s.groups[g].phase = .poweringUp ∧ s.groups[g].delaying = true ∧ s.groups[g].step = some st ∧
      stepMayRun s st = true) ∧
    (∃ (s : State) (g : Fin 8) (st : _), s.groups[g].phase = .poweringUp ∧ s.groups[g].delaying = true ∧ s.groups[g].step = some st ∧
      stepMayRun s st = true ∧ (∀ k : Fin 7, s.dies[k].vdrOk = true) ∧ (∀ q : Fin 28, s.rails[q].prot.vdrDue = false)) ∧
    (∃ (s : State) (g : Fin 8), (s.groups[g].phase ≠ .poweringUp ∨ s.groups[g].stepTimer = false)) ∧
    (∃ (s : State) (g : Fin 8) (st : _), s.groups[g].phase = .poweringUp ∧ s.groups[g].stepTimer = true ∧ s.groups[g].step = some st) ∧
    (∃ (s : State) (g : Fin 8), (s.groups[g].phase ≠ .shuttingDown ∨ s.groups[g].stepTimer = false)) ∧
    (∃ (s : State) (g : Fin 8) (st : _), s.groups[g].phase = .shuttingDown ∧ s.groups[g].stepTimer = true ∧ s.groups[g].step = some st) ∧
    (∃ (s : State) (g : Fin 8), s.groups[g].toffTimer = false) ∧
    (∃ (s : State) (g : Fin 8), s.groups[g].toffTimer = true ∧ s.groups[g].phase = .minOff ∧ s.groups[g].heldReset = none ∧ s.boot.step8 = true ∧
      (∀ k : Fin 7, s.dies[k].vdrOk = true) ∧ (∀ q : Fin 28, s.rails[q].prot.vdrDue = false)) ∧
    (∃ (s : State) (g : Fin 8), s.groups[g].toffTimer = true ∧ (s.groups[g].phase ∈ [.off, .waitInput]) ∧ s.groups[g].request = true ∧
      s.boot.step8 = true ∧ (∀ k : Fin 7, s.dies[k].vdrOk = true) ∧ (∀ q : Fin 28, s.rails[q].prot.vdrDue = false)) ∧
    (∃ (s : State) (g : Fin 8) (i : _), s.groups[g].toffTimer = true ∧ s.groups[g].phase = .minOff ∧ s.groups[g].heldReset = some i) ∧
    (∃ (s : State) (g : Fin 8), s.groups[g].toffTimer = true ∧ s.groups[g].phase ≠ .minOff ∧
      (s.groups[g].phase ∉ [.off, .waitInput] ∨ s.groups[g].request = false ∨ s.boot.step8 = false)) :=
  ⟨⟨{ run0 with rails := vmod run0.rails 0 fun x => { x with prot.ovLatch := true } }, 0, 0, okRow (checkWrite ({ run0 with rails := vmod run0.rails 0 fun x => { x with prot.ovLatch := true } }) 0 (0x2410 + 0) 0x03), by decide +kernel⟩,
   ⟨{ rdy with groups := vmod rdy.groups 0 fun x => { x with phase := .shuttingDown } }, 0, 0, okRow (checkWrite ({ rdy with groups := vmod rdy.groups 0 fun x => { x with phase := .shuttingDown } }) 0 (0x2410 + 0) 0x03), by decide +kernel⟩,
   ⟨{ rdy with boot.step8 := false, groups := vmod rdy.groups 0 fun x => { x with phase := .off } }, 0, 0, okRow (checkWrite ({ rdy with boot.step8 := false, groups := vmod rdy.groups 0 fun x => { x with phase := .off } }) 0 (0x2410 + 0) 0x03), by decide +kernel⟩,
   ⟨{ rdy with boot.step8 := true, groups := vmod rdy.groups 0 fun x => { x with phase := .off, input := false } }, 0, 0, okRow (checkWrite ({ rdy with boot.step8 := true, groups := vmod rdy.groups 0 fun x => { x with phase := .off, input := false } }) 0 (0x2410 + 0) 0x03), by decide +kernel⟩,
   ⟨{ rdy with boot.step8 := true, groups := vmod rdy.groups 0 fun x => { x with phase := .off, input := true, toffTimer := false } }, 0, 0, okRow (checkWrite ({ rdy with boot.step8 := true, groups := vmod rdy.groups 0 fun x => { x with phase := .off, input := true, toffTimer := false } }) 0 (0x2410 + 0) 0x03), by decide +kernel⟩,
   ⟨{ rdy with groups := vmod rdy.groups 0 fun x => { x with phase := .waitInput } }, 0, 0, okRow (checkWrite ({ rdy with groups := vmod rdy.groups 0 fun x => { x with phase := .waitInput } }) 0 (0x2410 + 0) 0x03), by decide +kernel⟩,
   ⟨rdy, 0, 0, okRow (checkWrite rdy 0 (0x2410 + 0) 0x03), by decide +kernel⟩,
   ⟨rdy, 0, by decide +kernel⟩,
   ⟨{ rdy with boot.step8 := false, groups := vmod rdy.groups 0 fun x => { x with phase := .waitInput } }, 0, by decide +kernel⟩,
   ⟨{ rdy with boot.step8 := true, groups := vmod rdy.groups 0 fun x => { x with phase := .waitInput, toffTimer := false } }, 0, by decide +kernel⟩,
   ⟨rdy, 0, by decide +kernel⟩,
   ⟨{ rdy with groups := vmod rdy.groups 0 fun x => { x with phase := .poweringUp } }, 0, by decide +kernel⟩,
   ⟨rdy, 0, by decide +kernel⟩,
   ⟨{ run0 with pwr.state := .doze, groups := vmod run0.groups 0 fun x => { x with phase := .poweringUp, delaying := true, step := some 0 } }, 0, 0, by decide +kernel⟩,
   ⟨{ rdy with groups := vmod rdy.groups 0 fun x => { x with phase := .poweringUp, delaying := true, step := some 0 } }, 0, 0, by decide +kernel⟩,
   ⟨{ rdy with groups := vmod rdy.groups 0 fun x => { x with phase := .poweringUp, delaying := true, step := some 0 } }, 0, 0, by decide +kernel⟩,
   ⟨rdy, 0, by decide +kernel⟩,
   ⟨{ rdy with groups := vmod rdy.groups 0 fun x => { x with phase := .poweringUp, stepTimer := true, step := some 0 } }, 0, 0, by decide +kernel⟩,
   ⟨rdy, 0, by decide +kernel⟩,
   ⟨{ rdy with groups := vmod rdy.groups 0 fun x => { x with phase := .shuttingDown, stepTimer := true, step := some 0 } }, 0, 0, by decide +kernel⟩,
   ⟨{ rdy with groups := vmod rdy.groups 0 fun x => { x with toffTimer := false } }, 0, by decide +kernel⟩,
   ⟨{ rdy with boot.step8 := true, groups := vmod rdy.groups 0 fun x => { x with toffTimer := true, phase := .minOff, heldReset := none } }, 0, by decide +kernel⟩,
   ⟨{ rdy with boot.step8 := true, groups := vmod rdy.groups 0 fun x => { x with toffTimer := true, phase := .off, request := true } }, 0, by decide +kernel⟩,
   ⟨{ rdy with groups := vmod rdy.groups 0 fun x => { x with toffTimer := true, phase := .minOff, heldReset := some 0 } }, 0, 0, by decide +kernel⟩,
   ⟨{ rdy with groups := vmod rdy.groups 0 fun x => { x with toffTimer := true } }, 0, by decide +kernel⟩⟩

/-- Every clause of `Obligations.SequencerItems` has a state and operands that meet its hypotheses. -/
theorem test_witness_SequencerItems :
    (∃ (s : State) (i : Fin 46), itemPresent s i = false) ∧
    (∃ (s : State) (r : Fin 28), railPresent s r = false) ∧
    (∃ (s : State) (i : Fin 46), itemPresent s i = true ∧ (s.items[i].phase ∉ [.starting, .qualifying] ∨ itemPg s i = false)) ∧
    (∃ (s : State) (i : Fin 46), itemPresent s i = true ∧ (s.items[i].phase ∈ [.starting, .qualifying]) ∧ itemPg s i = true) ∧
    (∃ (s : State) (i : Fin 46), itemPresent s i = true ∧ (s.items[i].phase ∈ [.starting, .qualifying]) ∧ itemPg s i = true ∧
      (∀ g : Fin 8, s.groups[g].phase ≠ .poweringUp)) ∧
    (∃ (s : State) (i : Fin 46) (g : _) (st : _), itemPresent s i = true ∧ itemGroup s i = some g ∧ itemStepOf s i = some st ∧
      s.groups[g].phase = .poweringUp ∧ s.groups[g].step = some st ∧ (s.items[i].phase ∈ [.starting, .qualifying, .up])) ∧
    (∃ (s : State) (i : Fin 46) (g : _) (st : _), itemPresent s i = true ∧ itemGroup s i = some g ∧ itemStepOf s i = some st ∧
      s.groups[g].phase = .poweringUp ∧ s.groups[g].step = some st ∧ s.items[i].phase = .enLow) ∧
    (∃ (s : State) (i : Fin 46), itemPresent s i = true ∧
      (s.items[i].phase ∉ [.starting, .qualifying, .up, .enLow] ∨ itemGroup s i = none ∨ (∃ g, itemGroup s i = some g ∧
      (s.groups[g].phase ≠ .poweringUp ∨ s.groups[g].step ≠ itemStepOf s i)))) ∧
    (∃ (s : State) (i : Fin 46), itemPresent s i = true ∧ (itemFunctionOff s i = false ∨ (s.items[i].phase ≠ .stopping ∧
      ∀ q : Fin 28, s.sk.due[q] = false))) ∧
    (∃ (s : State) (i : Fin 46), itemPresent s i = true ∧ itemFunctionOff s i = true ∧ s.items[i].phase ≠ .stopping) ∧
    (∃ (s : State) (i : Fin 46), itemPresent s i = true ∧ itemFunctionOff s i = true ∧ s.items[i].phase = .stopping ∧
      (∀ g, itemGroup s i = some g → s.groups[g].phase ≠ .shuttingDown) ∧ (∀ q : Fin 28, s.sk.due[q] = false)) ∧
    (∃ (s : State) (i : Fin 46) (g : _), itemPresent s i = true ∧ itemFunctionOff s i = true ∧ s.items[i].phase = .stopping ∧ itemGroup s i = some g ∧
      s.groups[g].phase = .shuttingDown) ∧
    (∃ (s : State) (i : Fin 46), itemPresent s i = true ∧ s.items[i].phase ≠ .retryWait) ∧
    (∃ (s : State) (n : _), s.items[regItem n].phase = .retryWait ∧ safeHeld s (regItem n) = false) ∧
    (∃ (s : State) (n : _), s.items[foItem n].phase = .retryWait ∧ safeHeld s (foItem n) = false) ∧
    (∃ (s : State) (i : Fin 46), s.items[i].phase = .retryWait ∧ safeHeld s i = true) ∧
    (∃ (s : State) (r : _), railPresent s r = true ∧ s.items[railItem r].phase = .retryWait ∧ (∃ k ∈ railDies s r, s.dies[k].vdrOk = false)) ∧
    (∃ (s : State) (r : _) (u : _), railPresent s r = true ∧ s.items[railItem r].phase = .retryWait ∧ (∀ k ∈ railDies s r, s.dies[k].vdrOk = true) ∧
      u = switchOn (railItem r) (clearFaultLatch r s)) ∧
    (∃ (s : State) (r : _) (u : _), railPresent s r = true ∧ s.items[railItem r].phase = .retryWait ∧ (∀ k ∈ railDies s r, s.dies[k].vdrOk = true) ∧
      u = switchOn (railItem r) (clearFaultLatch r s) ∧ (s.links[railDie r].phase = .up → s.links[railDie r].helm.waiting = [])) ∧
    (∃ (s : State) (r : Fin 28) (u : _) (j : Fin 28), railPresent s r = true ∧ s.items[railItem r].phase = .retryWait ∧
      (∀ k ∈ railDies s r, s.dies[k].vdrOk = true) ∧ u = switchOn (railItem r) (clearFaultLatch r s) ∧
      (s.links[railDie r].phase = .up → s.links[railDie r].helm.waiting = []) ∧ j ≠ r) ∧
    (∃ (s : State) (i : Fin 46), itemPresent s i = true) ∧
    (∃ (s : State) (r : Fin 28), railPresent s r = true ∧ (s.itemEnPin (railItem r) = false ∨ (s.rails[r].stationKept = false ∧
      (s.items[railItem r].cmdOn = false ∨ s.items[railItem r].phase ∉ [.starting, .qualifying, .up])))) ∧
    (∃ (s : State) (r : Fin 28), railPresent s r = true ∧ s.itemEnPin (railItem r) = true ∧ s.rails[r].stationKept = true ∧ s.rails[r].enHeld = false) ∧
    (∃ (s : State) (r : Fin 28), railPresent s r = true ∧ s.itemEnPin (railItem r) = true ∧ s.rails[r].stationKept = false ∧
      s.items[railItem r].cmdOn = true ∧ (s.items[railItem r].phase ∈ [.starting, .qualifying, .up]) ∧
      (s.links[railDie r].phase = .up → s.links[railDie r].helm.waiting = [])) ∧
    (∃ (s : State) (r : Fin 28), railPresent s r = true ∧ (s.items[railItem r].cmdOn = false ∨ s.items[railItem r].phase ≠ .enLow)) ∧
    (∃ (s : State) (r : Fin 28) (u : _), railPresent s r = true ∧ s.items[railItem r].cmdOn = true ∧ s.items[railItem r].phase = .enLow ∧
      u = switchOn (railItem r) { s with rails := vmod s.rails r fun x => { x with enPin := true } }) ∧
    (∃ (s : State) (r : _) (u : _), railPresent s r = true ∧ s.items[railItem r].cmdOn = true ∧ s.items[railItem r].phase = .enLow ∧
      u = switchOn (railItem r) { s with rails := vmod s.rails r fun x => { x with enPin := true } } ∧
      (s.links[railDie r].phase = .up → s.links[railDie r].helm.waiting = [])) ∧
    (∃ (s : State) (r : Fin 28) (u : _) (j : Fin 28), railPresent s r = true ∧ s.items[railItem r].cmdOn = true ∧ s.items[railItem r].phase = .enLow ∧
      u = switchOn (railItem r) { s with rails := vmod s.rails r fun x => { x with enPin := true } } ∧
      (s.links[railDie r].phase = .up → s.links[railDie r].helm.waiting = []) ∧ j ≠ r) :=
  ⟨⟨{ rdy with part := .qmn2402 }, 4, by decide +kernel⟩,
   ⟨{ rdy with part := .qmn2402 }, 4, by decide +kernel⟩,
   ⟨rdy, 0, by decide +kernel⟩,
   ⟨{ rdy with items := vmod rdy.items 0 fun x => { x with phase := .starting }, rails := vmod rdy.rails 0 fun x => { x with prot.pg := true } }, 0, by decide +kernel⟩,
   ⟨{ rdy with items := vmod rdy.items 0 fun x => { x with phase := .starting }, rails := vmod rdy.rails 0 fun x => { x with prot.pg := true } }, 0, by decide +kernel⟩,
   ⟨{ run0 with groups := vmod run0.groups 0 fun x => { x with phase := .poweringUp, step := some 0 }, items := vmod run0.items 0 fun x => { x with phase := .starting } }, 0, 0, 0, by decide +kernel⟩,
   ⟨{ run0 with groups := vmod run0.groups 0 fun x => { x with phase := .poweringUp, step := some 0 }, items := vmod run0.items 0 fun x => { x with phase := .enLow } }, 0, 0, 0, by decide +kernel⟩,
   ⟨rdy, 0, by decide +kernel⟩,
   ⟨rdy, 0, by decide +kernel⟩,
   ⟨rdy, 0, by decide +kernel⟩,
   ⟨{ rdy with items := vmod rdy.items 0 fun x => { x with phase := .stopping } }, 0, by decide +kernel⟩,
   ⟨{ run0 with items := vmod run0.items 0 fun x => { x with phase := .stopping }, groups := vmod run0.groups 0 fun x => { x with phase := .shuttingDown }, rails := vmod run0.rails 0 fun x => { x with enabled := false } }, 0, 0, by decide +kernel⟩,
   ⟨rdy, 0, by decide +kernel⟩,
   ⟨{ rdy with items := vmod rdy.items 28 fun x => { x with phase := .retryWait } }, 0, by decide +kernel⟩,
   ⟨{ rdy with items := vmod rdy.items 38 fun x => { x with phase := .retryWait } }, 0, by decide +kernel⟩,
   ⟨{ rdy with faultLine := true, items := vmod rdy.items 38 fun x => { x with phase := .retryWait }, settings := [(0x2a2006, 0)] }, 38, by decide +kernel⟩,
   ⟨{ rdy with items := vmod rdy.items 0 fun x => { x with phase := .retryWait }, dies := vmod rdy.dies 0 fun x => { x with vdrOk := false } }, 0, by decide +kernel⟩,
   ⟨{ rdy with items := vmod rdy.items 0 fun x => { x with phase := .retryWait } }, 0, switchOn (railItem 0) (clearFaultLatch 0 ({ rdy with items := vmod rdy.items 0 fun x => { x with phase := .retryWait } })), by and_intros <;> first | decide +kernel | rfl | exact Or.inl (by decide +kernel) | simp⟩,
   ⟨{ rdy with items := vmod rdy.items 0 fun x => { x with phase := .retryWait } }, 0, switchOn (railItem 0) (clearFaultLatch 0 ({ rdy with items := vmod rdy.items 0 fun x => { x with phase := .retryWait } })), by and_intros <;> first | decide +kernel | rfl | exact Or.inl (by decide +kernel) | simp⟩,
   ⟨{ rdy with items := vmod rdy.items 0 fun x => { x with phase := .retryWait } }, 0, switchOn (railItem 0) (clearFaultLatch 0 ({ rdy with items := vmod rdy.items 0 fun x => { x with phase := .retryWait } })), 1, by and_intros <;> first | decide +kernel | rfl | exact Or.inl (by decide +kernel) | simp⟩,
   ⟨rdy, 0, by decide +kernel⟩,
   ⟨rdy, 0, by decide +kernel⟩,
   ⟨{ run0 with sk.shadow := vset run0.sk.shadow 0 [(0x260007, 1)], rails := vmod run0.rails 0 fun x => { x with stationKept := true, enHeld := false }, settings := (mapPut 0x260007 1 run0.settings) }, 0, by decide +kernel⟩,
   ⟨{ rdy with rails := vmod rdy.rails 0 fun x => { x with stationKept := false }, items := vmod rdy.items 0 fun x => { x with cmdOn := true, phase := .starting }, settings := [(0x260007, 1)] }, 0, by decide +kernel⟩,
   ⟨{ rdy with items := vmod rdy.items 0 fun x => { x with cmdOn := false } }, 0, by decide +kernel⟩,
   ⟨{ rdy with items := vmod rdy.items 0 fun x => { x with cmdOn := true, phase := .enLow } }, 0, switchOn (railItem 0) { ({ rdy with items := vmod rdy.items 0 fun x => { x with cmdOn := true, phase := .enLow } }) with rails := vmod ({ rdy with items := vmod rdy.items 0 fun x => { x with cmdOn := true, phase := .enLow } }).rails 0 fun x => { x with enPin := true } }, by and_intros <;> first | decide +kernel | rfl | exact Or.inl (by decide +kernel) | simp⟩,
   ⟨{ rdy with items := vmod rdy.items 0 fun x => { x with cmdOn := true, phase := .enLow } }, 0, switchOn (railItem 0) { ({ rdy with items := vmod rdy.items 0 fun x => { x with cmdOn := true, phase := .enLow } }) with rails := vmod ({ rdy with items := vmod rdy.items 0 fun x => { x with cmdOn := true, phase := .enLow } }).rails 0 fun x => { x with enPin := true } }, by and_intros <;> first | decide +kernel | rfl | exact Or.inl (by decide +kernel) | simp⟩,
   ⟨{ rdy with items := vmod rdy.items 0 fun x => { x with cmdOn := true, phase := .enLow } }, 0, switchOn (railItem 0) { ({ rdy with items := vmod rdy.items 0 fun x => { x with cmdOn := true, phase := .enLow } }) with rails := vmod ({ rdy with items := vmod rdy.items 0 fun x => { x with cmdOn := true, phase := .enLow } }).rails 0 fun x => { x with enPin := true } }, 1, by and_intros <;> first | decide +kernel | rfl | exact Or.inl (by decide +kernel) | simp⟩⟩

/-- Every clause of `Obligations.RegulatorsAndResetOutputs` has a state and operands that meet its hypotheses. -/
theorem test_witness_RegulatorsAndResetOutputs :
    (∃ (s : State) (n : Fin 10), s.regs[n].on = false) ∧
    (∃ (s : State) (n : Fin 10), s.regs[n].on = true) ∧
    (∃ (s : State) (n : Fin 6) (m : Fin 10), m.val = n.val ∧ s.regs[m].on = false) ∧
    (∃ (s : State) (n : Fin 6) (m : Fin 10), m.val = n.val ∧ s.regs[m].on = true) ∧
    (∃ (s : State) (n : Fin 10) (b : Bool), (b = false ∨ s.regs[n].on = false)) ∧
    (∃ (s : State) (n : Fin 10), (s.regs[n].on = false ∨ s.regs[n].pgWin = true ∨ s.items[regItem n].phase ≠ .up)) ∧
    (∃ (s : State) (n : Fin 10), s.regs[n].on = true ∧ s.regs[n].pgWin = false ∧ s.items[regItem n].phase = .up) ∧
    (∃ (s : State) (n : Fin 4), (s.rsto[n].stretch = false ∨ rstoCond s n = true)) ∧
    (∃ (s : State) (n : Fin 4), s.rsto[n].stretch = true ∧ rstoCond s n = false) ∧
    (∃ (s : State) (p : Port) (n : Fin 4) (row : ObjRow), answering s = true ∧ checkWrite s p (0x2420 + n) 0x04 = .ok row) ∧
    (∃ (s : State) (n : Fin 4), s.rsto[n].forced = false) ∧
    (∃ (s : State) (n : Fin 4), s.rsto[n].forced = true) :=
  ⟨⟨{ rdy with regs := vmod rdy.regs 0 fun x => { x with on := false } }, 0, by decide +kernel⟩,
   ⟨{ rdy with regs := vmod rdy.regs 0 fun x => { x with on := true } }, 0, by decide +kernel⟩,
   ⟨{ rdy with regs := vmod rdy.regs 0 fun x => { x with on := false } }, 0, 0, by decide +kernel⟩,
   ⟨{ rdy with regs := vmod rdy.regs 0 fun x => { x with on := true } }, 0, 0, by decide +kernel⟩,
   ⟨rdy, 0, false ∨ rdy.regs[0].on = false, by decide +kernel⟩,
   ⟨{ rdy with regs := vmod rdy.regs 0 fun x => { x with on := false } }, 0, by decide +kernel⟩,
   ⟨{ rdy with regs := vmod rdy.regs 0 fun x => { x with on := true, pgWin := false }, items := vmod rdy.items 28 fun x => { x with phase := .up } }, 0, by decide +kernel⟩,
   ⟨{ rdy with rsto := vmod rdy.rsto 0 fun x => { x with stretch := false } }, 0, by decide +kernel⟩,
   ⟨{ rdy with rsto := vmod rdy.rsto 0 fun x => { x with stretch := true } }, 0, by decide +kernel⟩,
   ⟨rdy, 0, 0, okRow (checkWrite rdy 0 (0x2420 + 0) 0x04), by decide +kernel⟩,
   ⟨{ rdy with rsto := vmod rdy.rsto 0 fun x => { x with forced := false } }, 0, by decide +kernel⟩,
   ⟨{ rdy with rsto := vmod rdy.rsto 0 fun x => { x with forced := true } }, 0, by decide +kernel⟩⟩

/-- Every clause of `Obligations.SourceAndPowerPath` has a state and operands that meet its hypotheses. -/
theorem test_witness_SourceAndPowerPath :
    (∃ (s : State) (p : Port) (n : Fin 4) (row : ObjRow), answering s = true ∧ checkWrite s p 0x2703 (n + 1) = .ok row) ∧
    (∃ (s : State), s.gauge.outRunning = false) ∧
    (∃ (s : State), s.gauge.outRunning = true) ∧
    (∃ (s : State) (z : Nat), (hasSource s z = true ∨ s.pp.phase ∈ [.handingOver, .onPack] ∨ (s.pp.phase = .source ∧ s.pp.present = false))) ∧
    (∃ (s : State) (z : Nat), hasSource s z = false ∧ s.pp.phase = .source ∧ s.pp.present = true) ∧
    (∃ (s : State) (z : Nat), hasSource s z = false ∧ s.pp.phase = .handingBack) ∧
    (∃ (s : State) (z : Nat), hasSource s z = false ∧ s.pp.phase = .outing) ∧
    (∃ (s : State), (s.pp.phase ≠ .handingOver ∨ s.pp.made = true)) ∧
    (∃ (s : State), s.pp.phase = .handingOver ∧ s.pp.made = false) ∧
    (∃ (s : State), (s.pp.phase ≠ .handingOver ∨ s.pp.made = false)) ∧
    (∃ (s : State), s.pp.phase = .handingOver ∧ s.pp.made = true) ∧
    (∃ (s : State) (z : Nat), (s.pp.phase ≠ .onPack ∨ s.pwr.state = .park ∨ (s.pp.svcQual = false ∧
      (z < s.hoThr + s.hoHyst ∨ ∀ n : Fin 4, s.zin[n].phase ≠ .on)))) ∧
    (∃ (s : State) (z : Nat), s.pp.phase = .onPack ∧ s.pwr.state ≠ .park ∧ (s.pp.svcQual = true ∨ (s.hoThr + s.hoHyst ≤ z ∧
      ∃ n : Fin 4, s.zin[n].phase = .on))) ∧
    (∃ (s : State), s.pp.phase ≠ .handingBack) ∧
    (∃ (s : State), s.pp.phase = .handingBack) :=
  ⟨⟨rdy, 0, 0, okRow (checkWrite rdy 0 0x2703 (0 + 1)), by decide +kernel⟩,
   ⟨{ rdy with gauge.outRunning := false }, by decide +kernel⟩,
   ⟨{ rdy with gauge.outRunning := true }, by decide +kernel⟩,
   ⟨rdy, 0, by decide +kernel⟩,
   ⟨{ rdy with pp.phase := .source, pp.present := true }, 0, by decide +kernel⟩,
   ⟨{ rdy with pp.phase := .handingBack }, 0, by decide +kernel⟩,
   ⟨{ rdy with pp.phase := .outing }, 0, by decide +kernel⟩,
   ⟨rdy, by decide +kernel⟩,
   ⟨{ rdy with pp.phase := .handingOver, pp.made := false }, by decide +kernel⟩,
   ⟨rdy, by decide +kernel⟩,
   ⟨{ rdy with pp.phase := .handingOver, pp.made := true }, by decide +kernel⟩,
   ⟨rdy, 0, by decide +kernel⟩,
   ⟨{ rdy with pp.phase := .onPack, pp.svcQual := true }, 0, by decide +kernel⟩,
   ⟨rdy, by decide +kernel⟩,
   ⟨{ rdy with pp.phase := .handingBack }, by decide +kernel⟩⟩

/-- Every clause of `Obligations.ChargerControl` has a state and operands that meet its hypotheses. -/
theorem test_witness_ChargerControl :
    (∃ (s : State) (p : Port) (row : ObjRow), answering s = true ∧ checkWrite s p 0x2701 0x01 = .ok row) ∧
    (∃ (s : State) (v : Nat), (s.pp.present = false ∨ cellsOk s = false ∨ packVoltOk s v = true)) ∧
    (∃ (s : State) (v : Nat), s.pp.present = true ∧ cellsOk s = true ∧ packVoltOk s v = false) ∧
    (∃ (s : State), s.chg.phase ≠ .precharge) ∧
    (∃ (s : State), s.chg.phase = .precharge) :=
  ⟨⟨rdy, 0, okRow (checkWrite rdy 0 0x2701 0x01), by decide +kernel⟩,
   ⟨{ rdy with pp.present := false }, 0, by decide +kernel⟩,
   ⟨{ rdy with pp.present := true, settings := [(0x270201, 4)] }, 0, by decide +kernel⟩,
   ⟨rdy, by decide +kernel⟩,
   ⟨{ rdy with chg.phase := .precharge }, by decide +kernel⟩⟩

/-- Every clause of `Obligations.ChargerFaultsAndRemoval` has a state and operands that meet its hypotheses. -/
theorem test_witness_ChargerFaultsAndRemoval :
    (∃ (s : State) (v : Nat), (s.chg.phase ∉ [.fault, .fast]) ∧ (s.pp.present = false ∨ cellsOk s = false ∨ packVoltOk s v = true)) ∧
    (∃ (s : State) (v : Nat), (s.chg.phase ∉ [.fault, .fast]) ∧ (¬(s.pp.present = false ∨ cellsOk s = false ∨ packVoltOk s v = true))) ∧
    (∃ (s : State), s.chg.phase = .fault) ∧
    (∃ (s : State), s.chg.phase = .fast) ∧
    (∃ (s : State) (x : Int), s.chgTabs < x) ∧
    (∃ (s : State) (v : Nat), s.chgVcellMax * s.packCells < v) ∧
    (∃ (x : Int), 1200 < x) ∧
    (∃ (s : State) (v : Nat) (x : Int), x ≤ s.chgTabs ∧ x ≤ 1200 ∧ v ≤ s.chgVcellMax * s.packCells ∧ s.chg.fastTime < s.chgTsafe * 6000000) ∧
    (∃ (s : State) (sign : RemovalSign), (s.chg.phase.charging = false ∨ removalShows s sign = false)) ∧
    (∃ (s : State) (sign : RemovalSign), s.chg.phase.charging = true ∧ removalShows s sign = true) ∧
    (∃ (s : State), s.chg.phase.charging = true) ∧
    (∃ (s : State), s.chg.phase.charging = false) ∧
    (∃ (s : State) (p : Port) (row : ObjRow), answering s = true ∧ checkRead s p 0x2701 0x11 = .ok row) :=
  ⟨⟨{ rdy with pp.present := false }, 0, by decide +kernel⟩,
   ⟨{ rdy with pp.present := true, settings := [(0x270201, 4)] }, 60000, by decide +kernel⟩,
   ⟨{ rdy with chg.phase := .fault }, by decide +kernel⟩,
   ⟨{ rdy with chg.phase := .fast }, by decide +kernel⟩,
   ⟨rdy, 10000, by decide +kernel⟩,
   ⟨rdy, 1000000, by decide +kernel⟩,
   ⟨1201, by decide +kernel⟩,
   ⟨rdy, 0, 0, by decide +kernel⟩,
   ⟨{ rdy with chg.phase := .off }, .pktOpen, by decide +kernel⟩,
   ⟨{ rdy with chg.phase := .fast }, .pktOpen, by decide +kernel⟩,
   ⟨{ rdy with chg.phase := .fast }, by decide +kernel⟩,
   ⟨{ rdy with chg.phase := .off }, by decide +kernel⟩,
   ⟨rdy, 0, okRow (checkRead rdy 0 0x2701 0x11), by decide +kernel⟩⟩

/-- Every clause of `Obligations.GaugeEstimates` has a state and operands that meet its hypotheses. -/
theorem test_witness_GaugeEstimates :
    (∃ (s : State), (s.pwr.state ∈ [.park, .off])) ∧
    (∃ (s : State), (s.pwr.state ∉ [.park, .off]) ∧ (s.gauge.running = false ∨ s.pp.present = false ∨ cellsOk s = false)) ∧
    (∃ (s : State), s.gauge.running = true ∧ s.pp.present = true ∧ cellsOk s = true ∧ (s.pwr.state ∉ [.park, .off])) ∧
    (∃ (s : State), (s.gauge.running = false ∨ s.gauge.restSec = 0 ∨ s.gauge.restQual = true ∨ s.pwr.state ∉ [.run, .doze])) ∧
    (∃ (s : State), s.gauge.running = true ∧ 0 < s.gauge.restSec ∧ s.gauge.restQual = false ∧ (s.pwr.state ∈ [.run, .doze])) ∧
    (∃ (s : State) (v : Nat) (b : Bool), (b = false ∨ cellsOk s = false ∨ packVoltOk s v = false)) ∧
    (∃ (s : State) (v : Nat), cellsOk s = true ∧ packVoltOk s v = true) ∧
    (∃ (s : State), s.gauge.learn ≠ .full) ∧
    (∃ (s : State), s.gauge.learn = .full) :=
  ⟨⟨{ rdy with pwr.state := .park }, by decide +kernel⟩,
   ⟨{ rdy with gauge.running := false }, by decide +kernel⟩,
   ⟨{ rdy with gauge.running := true, pp.present := true, settings := [(0x270201, 4)] }, by decide +kernel⟩,
   ⟨{ rdy with gauge.running := false }, by decide +kernel⟩,
   ⟨{ rdy with gauge.running := true, gauge.restQual := false, pwr.state := .run, gauge.restSec := 1 }, by decide +kernel⟩,
   ⟨rdy, 0, false ∨ cellsOk rdy = false ∨ packVoltOk rdy 0 = false, by decide +kernel⟩,
   ⟨{ rdy with settings := [(0x270201, 4)] }, 5000, by decide +kernel⟩,
   ⟨rdy, by decide +kernel⟩,
   ⟨{ rdy with gauge.learn := .full }, by decide +kernel⟩⟩

/-- Every clause of `Obligations.OutingsAndAlmanac` has a state and operands that meet its hypotheses. -/
theorem test_witness_OutingsAndAlmanac :
    (∃ (s : State) (p : Port) (row : ObjRow) (v : Nat), answering s = true ∧ checkWrite s p 0x2711 0x0F = .ok row ∧ v ≠ 1) ∧
    (∃ (s : State) (p : Port) (row : ObjRow), answering s = true ∧ checkWrite s p 0x2711 0x0F = .ok row) ∧
    (∃ (s : State) (p : Port) (row : ObjRow), answering s = true ∧ checkWrite s p 0x2711 0x0B = .ok row ∧ outingMayStart s = false) ∧
    (∃ (s : State) (p : Port) (row : ObjRow), answering s = true ∧ checkWrite s p 0x2711 0x0B = .ok row ∧ outingMayStart s = true) ∧
    (∃ (s : State) (p : Port) (row : ObjRow), answering s = true ∧ checkWrite s p 0x2711 0x0B = .ok row ∧ s.gauge.outRunning = false) ∧
    (∃ (s : State) (p : Port) (row : ObjRow), answering s = true ∧ checkWrite s p 0x2711 0x0B = .ok row ∧ s.gauge.outRunning = true) ∧
    (∃ (s : State), s.gauge.outRunning = false) ∧
    (∃ (s : State), s.gauge.outRunning = true) ∧
    (∃ (s : State) (p : Port) (row : ObjRow) (b : List Byte), answering s = true ∧ checkWrite s p 0x2712 0x01 = .ok row ∧ b.length ≠ 1240) ∧
    (∃ (s : State) (p : Port) (row : ObjRow) (b : List Byte), answering s = true ∧ checkWrite s p 0x2712 0x01 = .ok row ∧ b.length = 1240) ∧
    (∃ (s : State), (s.pwr.state ∉ [.run, .doze])) ∧
    (∃ (s : State) (k : _), (s.pwr.state ∈ [.run, .doze]) ∧ s.nv.wb = .running k) ∧
    (∃ (s : State) (k : _), (s.pwr.state ∈ [.run, .doze]) ∧ s.nv.wb = .idle ∧ s.nv.slotUse = some k) ∧
    (∃ (s : State), (s.pwr.state ∈ [.run, .doze]) ∧ s.nv.wb = .idle ∧ s.nv.slotUse = none) ∧
    (∃ (s : State), (s.nv.wb = .idle ∨ journalWaits s = true)) ∧
    (∃ (s : State) (k : _), s.nv.wb = .running k ∧ s.nv.wbReq = false ∧ s.nv.ctrHeld = [] ∧ journalWaits s = false) ∧
    (∃ (s : State) (j : _), s.nv.slotUse = some j) :=
  ⟨⟨rdy, 0, okRow (checkWrite rdy 0 0x2711 0x0F), 0, by decide +kernel⟩,
   ⟨rdy, 0, okRow (checkWrite rdy 0 0x2711 0x0F), by decide +kernel⟩,
   ⟨rdy, 0, okRow (checkWrite rdy 0 0x2711 0x0B), by decide +kernel⟩,
   ⟨{ rdy with pp.phase := .source, pp.lbusGood := true, chg.phase := .trickle, gauge.learn := .full, pp.packT := 100, gauge.disagree := false, gauge.outRunning := false }, 0, okRow (checkWrite ({ rdy with pp.phase := .source, pp.lbusGood := true, chg.phase := .trickle, gauge.learn := .full, pp.packT := 100, gauge.disagree := false, gauge.outRunning := false }) 0 0x2711 0x0B), by decide +kernel⟩,
   ⟨{ rdy with gauge.outRunning := false }, 0, okRow (checkWrite ({ rdy with gauge.outRunning := false }) 0 0x2711 0x0B), by decide +kernel⟩,
   ⟨{ rdy with gauge.outRunning := true }, 0, okRow (checkWrite ({ rdy with gauge.outRunning := true }) 0 0x2711 0x0B), by decide +kernel⟩,
   ⟨{ rdy with gauge.outRunning := false }, by decide +kernel⟩,
   ⟨{ rdy with gauge.outRunning := true }, by decide +kernel⟩,
   ⟨rdy, 0, okRow (checkWrite rdy 0 0x2712 0x01), [], by decide +kernel⟩,
   ⟨rdy, 0, okRow (checkWrite rdy 0 0x2712 0x01), List.replicate 1240 0, by decide +kernel⟩,
   ⟨{ rdy with pwr.state := .park }, by decide +kernel⟩,
   ⟨{ rdy with pwr.state := .run, nv.wb := .running 0 }, 0, by decide +kernel⟩,
   ⟨{ rdy with pwr.state := .run, nv.wb := .idle, nv.slotUse := some 0 }, 0, by decide +kernel⟩,
   ⟨{ rdy with pwr.state := .run, nv.wb := .idle, nv.slotUse := none }, by decide +kernel⟩,
   ⟨{ rdy with nv.wb := .idle }, by decide +kernel⟩,
   ⟨{ rdy with nv.wb := .running 0, nv.wbReq := false, nv.ctrHeld := [] }, 0, by decide +kernel⟩,
   ⟨{ rdy with nv.slotUse := some 0 }, 0, by decide +kernel⟩⟩

/-- Every clause of `Obligations.ConfigurationAndHomeChart` has a state and operands that meet its hypotheses. -/
theorem test_witness_ConfigurationAndHomeChart :
    (∃ (s : State) (p : Port) (row : ObjRow), answering s = true ∧ checkWrite s p 0x2801 0x01 = .ok row ∧ saveRuns s = true) ∧
    (∃ (s : State) (p : Port) (row : ObjRow) (v : Nat), answering s = true ∧ checkWrite s p 0x2801 0x01 = .ok row ∧ v ≠ 0x5AFE ∧ saveRuns s = false) ∧
    (∃ (s : State) (p : Port) (row : ObjRow), answering s = true ∧ checkWrite s p 0x2801 0x01 = .ok row ∧ saveRuns s = false) ∧
    (∃ (s : State), (s.nv.saveCopy = none ∨ journalWaits s = true)) ∧
    (∃ (s : State) (k : Fin 3) (j : Fin 3), s.nv.saveCopy = some k ∧ s.nv.repairing = false ∧ journalWaits s = false ∧ j.val = k.val + 1) ∧
    (∃ (s : State), s.nv.saveCopy = some 2 ∧ s.nv.repairing = false ∧ journalWaits s = false) ∧
    (∃ (s : State) (k : Fin 3), s.nv.saveCopy = some k ∧ s.nv.repairing = false ∧ journalWaits s = false) ∧
    (∃ (s : State) (k : Fin 3), s.nv.saveCopy = some k ∧ s.nv.repairing = true ∧ s.boot.repairs = [] ∧ journalWaits s = false) ∧
    (∃ (s : State) (p : Port) (row : ObjRow) (b : List Byte), answering s = true ∧ checkWrite s p 0x2802 0x01 = .ok row ∧ 32696 < b.length) ∧
    (∃ (s : State) (p : Port) (row : ObjRow) (b : List Byte), answering s = true ∧ checkWrite s p 0x2802 0x01 = .ok row ∧ b.length ≤ 32696 ∧
      (s.mram.lc ∉ [1, 2] ∨ hcLocked s = true ∨ s.nv.hcWrite ≠ none)) ∧
    (∃ (s : State) (p : Port) (row : ObjRow) (b : List Byte), answering s = true ∧ checkWrite s p 0x2802 0x01 = .ok row ∧ b.length ≤ 32696 ∧
      (s.mram.lc ∈ [1, 2]) ∧ hcLocked s = false ∧ s.nv.hcWrite = none) ∧
    (∃ (s : State), (s.nv.hcWrite = none ∨ journalWaits s = true)) ∧
    (∃ (s : State) (b : List Byte), s.nv.hcWrite = some b ∧ journalWaits s = false ∧ hcLocked s = false) ∧
    (∃ (s : State) (ok : Bool) (b : List Byte), s.nv.hcWrite = some b ∧ journalWaits s = false ∧ (ok = false ∨ hcLocked s = true)) ∧
    (∃ (s : State) (p : Port) (row : ObjRow) (v : Nat), answering s = true ∧ checkWrite s p 0x2802 0x02 = .ok row ∧ (v ≠ 0x4C4F434B ∨ hcLocked s = true)) ∧
    (∃ (s : State) (p : Port) (row : ObjRow) (v : Nat), answering s = true ∧ checkWrite s p 0x2802 0x02 = .ok row ∧ v = 0x4C4F434B ∧ hcLocked s = false ∧
      (s.mram.lc ≠ 2 ∨ s.mram.hc.valid = false)) ∧
    (∃ (s : State) (p : Port) (row : ObjRow) (v : Nat), answering s = true ∧ checkWrite s p 0x2802 0x02 = .ok row ∧ v = 0x4C4F434B ∧ hcLocked s = false ∧
      s.mram.lc = 2 ∧ s.mram.hc.valid = true) ∧
    (∃ (s : State), sysRuns s = false) ∧
    (∃ (s : State), sysRuns s = true ∧ (s.nv.lfTail = [] ∨ s.boot.phase ≠ .ready) ∧ s.log.ring = []) ∧
    (∃ (s : State) (r : _) (l : List LogRec), sysRuns s = true ∧ (s.nv.lfTail = [] ∨ s.boot.phase ≠ .ready) ∧ s.log.ring = r :: l) ∧
    (∃ (s : State) (r : _) (l : List LogRec), sysRuns s = true ∧ s.boot.phase = .ready ∧ s.nv.lfTail = r :: l) ∧
    (∃ (s : State) (k : Fin 2) (a : CfgCopy) (b : CfgCopy) (d : CfgCopy) (f : Nat), s.boot.phase = .selfTest ∧ f % 256 = 0 ∧
      bankState s.mram.banks[k] = .active ∧ s.mram.errs = [] ∧ a = s.mram.cfg[(0 : Fin 3)] ∧ b = s.mram.cfg[(1 : Fin 3)] ∧
      d = s.mram.cfg[(2 : Fin 3)]) :=
  ⟨⟨{ rdy with nv.repairing := true }, 0, okRow (checkWrite ({ rdy with nv.repairing := true }) 0 0x2801 0x01), by decide +kernel⟩,
   ⟨rdy, 0, okRow (checkWrite rdy 0 0x2801 0x01), 0, by decide +kernel⟩,
   ⟨rdy, 0, okRow (checkWrite rdy 0 0x2801 0x01), by decide +kernel⟩,
   ⟨{ rdy with nv.saveCopy := none }, by decide +kernel⟩,
   ⟨{ rdy with nv.saveCopy := some 0, nv.repairing := false }, 0, 1, by decide +kernel⟩,
   ⟨{ rdy with nv.saveCopy := some 2, nv.repairing := false }, by decide +kernel⟩,
   ⟨{ rdy with nv.saveCopy := some 0, nv.repairing := false }, 0, by decide +kernel⟩,
   ⟨{ rdy with nv.saveCopy := some 0, nv.repairing := true, boot.repairs := [] }, 0, by decide +kernel⟩,
   ⟨rdy, 0, okRow (checkWrite rdy 0 0x2802 0x01), List.replicate 32697 0, by decide +kernel⟩,
   ⟨rdy, 0, okRow (checkWrite rdy 0 0x2802 0x01), [], by decide +kernel⟩,
   ⟨{ rdy with mram.lc := 1, nv.hcWrite := none }, 0, okRow (checkWrite ({ rdy with mram.lc := 1, nv.hcWrite := none }) 0 0x2802 0x01), [], by decide +kernel⟩,
   ⟨{ rdy with nv.hcWrite := none }, by decide +kernel⟩,
   ⟨{ rdy with nv.hcWrite := some [] }, [], by decide +kernel⟩,
   ⟨{ rdy with nv.hcWrite := some [] }, false, [], by decide +kernel⟩,
   ⟨rdy, 0, okRow (checkWrite rdy 0 0x2802 0x02), 0, by decide +kernel⟩,
   ⟨rdy, 0, okRow (checkWrite rdy 0 0x2802 0x02), 0x4C4F434B, by decide +kernel⟩,
   ⟨{ rdy with mram.lc := 2, mram.hc.valid := true }, 0, okRow (checkWrite ({ rdy with mram.lc := 2, mram.hc.valid := true }) 0 0x2802 0x02), 0x4C4F434B, by decide +kernel⟩,
   ⟨{ rdy with pwr.state := .park }, by decide +kernel⟩,
   ⟨{ rdy with nv.lfTail := [], log.ring := [] }, by decide +kernel⟩,
   ⟨{ rdy with nv.lfTail := [], log.ring := [rec0] }, rec0, [], by decide +kernel⟩,
   ⟨{ rdy with boot.phase := .ready, nv.lfTail := [rec0] }, rec0, [], by decide +kernel⟩,
   ⟨{ rdy with boot.phase := .selfTest, mram.errs := [] }, 0, ({ rdy with boot.phase := .selfTest, mram.errs := [] }).mram.cfg[(0 : Fin 3)], ({ rdy with boot.phase := .selfTest, mram.errs := [] }).mram.cfg[(1 : Fin 3)], ({ rdy with boot.phase := .selfTest, mram.errs := [] }).mram.cfg[(2 : Fin 3)], 0, by decide +kernel⟩⟩

/-- Every clause of `Obligations.HoldUpAndTamper` has a state and operands that meet its hypotheses. -/
theorem test_witness_HoldUpAndTamper :
    (∃ (s : State), (s.boot.phase ∈ [.porHeld, .holdUp])) ∧
    (∃ (s : State), (s.boot.phase ∉ [.porHeld, .holdUp])) ∧
    (∃ (s : State), s.boot.phase ≠ .holdUp) ∧
    (∃ (s : State), s.boot.phase ≠ .holdUp) ∧
    (∃ (s : State), s.boot.phase = .holdUp) ∧
    (∃ (s : State), s.boot.phase = .holdUp) ∧
    (∃ (s : State), s.nv.tamperLow = true) ∧
    (∃ (s : State), s.nv.tamperLow = false ∧ s.boot.phase = .porHeld) ∧
    (∃ (s : State), s.nv.tamperLow = false ∧ s.boot.phase ≠ .porHeld) :=
  ⟨⟨{ rdy with boot.phase := .porHeld }, by decide +kernel⟩,
   ⟨rdy, by decide +kernel⟩,
   ⟨rdy, by decide +kernel⟩,
   ⟨rdy, by decide +kernel⟩,
   ⟨{ rdy with boot.phase := .holdUp }, by decide +kernel⟩,
   ⟨{ rdy with boot.phase := .holdUp }, by decide +kernel⟩,
   ⟨{ rdy with nv.tamperLow := true }, by decide +kernel⟩,
   ⟨{ rdy with nv.tamperLow := false, boot.phase := .porHeld }, by decide +kernel⟩,
   ⟨{ rdy with nv.tamperLow := false }, by decide +kernel⟩⟩

/-- Every clause of `Obligations.Housekeeping` has a state and operands that meet its hypotheses. -/
theorem test_witness_Housekeeping :
    (∃ (s : State), (sysRuns s = false ∨ s.hk.calibrating = true)) ∧
    (∃ (s : State), sysRuns s = true ∧ s.hk.calibrating = false ∧ s.hk.disabling = true) ∧
    (∃ (s : State) (ch : Fin 48), sysRuns s = true ∧ s.hk.calibrating = false ∧ s.hk.disabling = false ∧
      (s.hkScanEn = false ∨ s.hk.mask.testBit ch = false ∨ ch.val ≠ s.hk.next)) ∧
    (∃ (s : State) (ch : Fin 48) (sl : Fin 5) (raw : Nat) (c : _), sysRuns s = true ∧ s.hk.calibrating = false ∧ s.hk.disabling = false ∧
      s.hkScanEn = true ∧ s.hk.mask.testBit ch = true ∧ ch.val = s.hk.next ∧ c = hkCorrect s sl (min 4095 raw)) ∧
    (∃ (s : State), (sysRuns s = false ∨ s.hk.calibrating = true)) ∧
    (∃ (s : State), sysRuns s = true ∧ s.hk.calibrating = false) ∧
    (∃ (s : State) (p : Port) (row : ObjRow), answering s = true ∧ checkWrite s p 0x2900 0x01 = .ok row) ∧
    (∃ (s : State) (p : Port) (row : ObjRow), answering s = true ∧ checkWrite s p 0x2900 0x05 = .ok row ∧ s.hk.calibrating = true) ∧
    (∃ (s : State) (p : Port) (row : ObjRow) (v : Nat), answering s = true ∧ checkWrite s p 0x2900 0x05 = .ok row ∧ v ≠ 1 ∧ s.hk.calibrating = false) ∧
    (∃ (s : State) (p : Port) (row : ObjRow), answering s = true ∧ checkWrite s p 0x2900 0x05 = .ok row ∧ s.hk.calibrating = false) ∧
    (∃ (s : State), s.hk.calibrating = false) ∧
    (∃ (s : State), s.hk.calibrating = true) ∧
    (∃ (s : State) (i : Fin 5), (sysRuns s = false ∨ s.hk.calibrating = true ∨ s.hk.background = false ∨ i.val ≠ (s.hk.spare.val + 1) % 5)) ∧
    (∃ (s : State) (i : Fin 5), sysRuns s = true ∧ s.hk.calibrating = false ∧ s.hk.background = true ∧ i.val = (s.hk.spare.val + 1) % 5) ∧
    (∃ (s : State) (p : Port) (row : ObjRow), answering s = true ∧ checkWrite s p 0x2900 0x03 = .ok row) :=
  ⟨⟨{ rdy with pwr.state := .park }, by decide +kernel⟩,
   ⟨{ rdy with hk.calibrating := false, hk.disabling := true }, by decide +kernel⟩,
   ⟨{ rdy with hk.calibrating := false, hk.disabling := false, settings := [(0x290001, 0)] }, 0, by decide +kernel⟩,
   ⟨{ rdy with hk.calibrating := false, hk.disabling := false, settings := [(0x290001, 1)] }, 0, 0, 0, hkCorrect ({ rdy with hk.calibrating := false, hk.disabling := false, settings := [(0x290001, 1)] }) 0 (min 4095 0), by decide +kernel⟩,
   ⟨{ rdy with pwr.state := .park }, by decide +kernel⟩,
   ⟨{ rdy with hk.calibrating := false }, by decide +kernel⟩,
   ⟨rdy, 0, okRow (checkWrite rdy 0 0x2900 0x01), by decide +kernel⟩,
   ⟨{ rdy with hk.calibrating := true }, 0, okRow (checkWrite ({ rdy with hk.calibrating := true }) 0 0x2900 0x05), by decide +kernel⟩,
   ⟨{ rdy with hk.calibrating := false }, 0, okRow (checkWrite ({ rdy with hk.calibrating := false }) 0 0x2900 0x05), 0, by decide +kernel⟩,
   ⟨{ rdy with hk.calibrating := false }, 0, okRow (checkWrite ({ rdy with hk.calibrating := false }) 0 0x2900 0x05), by decide +kernel⟩,
   ⟨{ rdy with hk.calibrating := false }, by decide +kernel⟩,
   ⟨{ rdy with hk.calibrating := true }, by decide +kernel⟩,
   ⟨{ rdy with pwr.state := .park }, 0, by decide +kernel⟩,
   ⟨{ rdy with hk.calibrating := false, hk.background := true }, 0, by decide +kernel⟩,
   ⟨rdy, 0, okRow (checkWrite rdy 0 0x2900 0x03), by decide +kernel⟩⟩

/-- Every clause of `Obligations.ThermalManagement` has a state and operands that meet its hypotheses. -/
theorem test_witness_ThermalManagement :
    (∃ (s : State) (d : Fin 8), thermDiePresent s d = false) ∧
    (∃ (s : State) (d : Fin 8), thermDiePresent s d = true ∧ dieSampled s d = false) ∧
    (∃ (s : State) (d : Fin 8), thermDiePresent s d = true ∧ dieSampled s d = true) ∧
    (∃ (s : State), (s.boot.phase = .porHeld ∨ s.pwr.state = .off ∨ s.therm.latch = true)) ∧
    (∃ (s : State), s.boot.phase = .holdUp ∧ s.pwr.state ≠ .off ∧ s.therm.latch = false) ∧
    (∃ (s : State), s.boot.phase ≠ .porHeld ∧ s.pwr.state ≠ .off ∧ s.therm.latch = false) ∧
    (∃ (s : State), (sysRuns s = false ∨ (s.thrEn = false ∧ s.therm.disabling = false) ∨ (s.therm.latch = true ∧ s.update.pause = true))) ∧
    (∃ (s : State), sysRuns s = true ∧ (s.thrEn = true ∨ s.therm.disabling = true) ∧ (s.therm.latch = false ∨ s.update.pause = false)) ∧
    (∃ (s : State), answering s = false) ∧
    (∃ (s : State) (p : Port) (c : AbortCode), answering s = true ∧ checkWrite s p 0x2910 1 = .error c) ∧
    (∃ (s : State) (p : Port) (row : ObjRow), answering s = true ∧ checkWrite s p 0x2910 1 = .ok row ∧ row.acc = .rwx ∧ lengthOk row 0x2910 1 1 = true ∧
      (∀ a ∈ s.xb.pend, ¬(a.idx = 0x2910 ∧ a.sub = 1)) ∧ s.xb.pend.length < 16) ∧
    (∃ (s : State) (p : Port) (row : ObjRow) (a : _), answering s = true ∧ checkWrite s p 0x2910 1 = .ok row ∧ row.acc = .rwx ∧
      lengthOk row 0x2910 1 1 = true ∧ s.xb.pend.find? (fun x => decide (x.idx = 0x2910 ∧ x.sub = 1)) = some a ∧ a.port ≠ p ∧ a.bytes = [0]) :=
  ⟨⟨{ rdy with part := .qmn2402 }, 2, by decide +kernel⟩,
   ⟨{ rdy with pwr.state := .doze }, 1, by decide +kernel⟩,
   ⟨rdy, 0, by decide +kernel⟩,
   ⟨{ rdy with boot.phase := .porHeld }, by decide +kernel⟩,
   ⟨{ rdy with boot.phase := .holdUp, therm.latch := false }, by decide +kernel⟩,
   ⟨{ rdy with therm.latch := false }, by decide +kernel⟩,
   ⟨{ rdy with pwr.state := .park }, by decide +kernel⟩,
   ⟨{ rdy with therm.latch := false, settings := [(0x291001, 1)] }, by decide +kernel⟩,
   ⟨{ rdy with boot.phase := .starting }, by decide +kernel⟩,
   ⟨rdy, 1, errOf (checkWrite rdy 1 0x2910 1), by decide +kernel⟩,
   ⟨rdy, 0, okRow (checkWrite rdy 0 0x2910 1), by decide +kernel⟩,
   ⟨{ rdy with xb.pend := [⟨0x2910, 1, 1, 0, [0]⟩] }, 0, okRow (checkWrite ({ rdy with xb.pend := [⟨0x2910, 1, 1, 0, [0]⟩] }) 0 0x2910 1), ⟨0x2910, 1, 1, 0, [0]⟩, by decide +kernel⟩⟩

/-- Every clause of `Obligations.StarSight` has a state and operands that meet its hypotheses. -/
theorem test_witness_StarSight :
    (∃ (s : State) (p : Port) (row : ObjRow), answering s = true ∧ checkWrite s p 0x2A10 0x01 = .ok row ∧ s.wd.locked = true) ∧
    (∃ (s : State) (p : Port) (row : ObjRow) (v : Nat), answering s = true ∧ checkWrite s p 0x2A10 0x01 = .ok row ∧ s.wd.locked = true ∧ v ≠ 0) ∧
    (∃ (s : State) (p : Port) (row : ObjRow), answering s = true ∧ checkWrite s p 0x2A10 0x01 = .ok row ∧ s.wd.locked = false) ∧
    (∃ (s : State), (s.wd.running = false ∨ wdFrozen s = true ∨ s.wd.abandoned = true)) ∧
    (∃ (s : State), (s.wd.running = false ∨ s.pwr.state = .park)) ∧
    (∃ (s : State), s.wd.running = true ∧ wdFrozen s = false ∧ s.wd.abandoned = false) ∧
    (∃ (s : State) (p : Port) (n : Fin 2) (ofs : Nat), twOf p = some n ∧ ofs = (if s.pwr.oldChart = true then 0x0A else 0x22) ∧ twAnswers s n = false) ∧
    (∃ (s : State) (p : Port) (n : Fin 2) (ofs : Nat), twOf p = some n ∧ ofs = (if s.pwr.oldChart = true then 0x0A else 0x22) ∧ twAnswers s n = true ∧
      s.update.pause = true) ∧
    (∃ (s : State) (p : Port) (n : Fin 2) (ofs : Nat), twOf p = some n ∧ ofs = (if s.pwr.oldChart = true then 0x0A else 0x22) ∧ twAnswers s n = true ∧
      s.update.pause = false ∧ (wdObliged s n = false ∨ wdFrozen s = true)) ∧
    (∃ (s : State) (p : Port) (n : Fin 2) (ofs : Nat), twOf p = some n ∧ ofs = (if s.pwr.oldChart = true then 0x0A else 0x22) ∧ twAnswers s n = true ∧
      s.update.pause = false ∧ wdFrozen s = false ∧ wdObliged s n = true ∧ s.wd.abandoned = false) ∧
    (∃ (s : State) (p : Port) (n : Fin 2) (ofs : Nat), twOf p = some n ∧ ofs = (if s.pwr.oldChart = true then 0x36 else 0x24) ∧ twAnswers s n = false) ∧
    (∃ (s : State) (p : Port) (n : Fin 2) (ofs : Nat), twOf p = some n ∧ ofs = (if s.pwr.oldChart = true then 0x36 else 0x24) ∧ twAnswers s n = true ∧
      s.update.pause = true) ∧
    (∃ (s : State) (p : Port) (n : Fin 2) (ofs : Nat), twOf p = some n ∧ ofs = (if s.pwr.oldChart = true then 0x36 else 0x24) ∧ twAnswers s n = true ∧
      s.update.pause = false ∧ (wdObliged s n = false ∨ wdFrozen s = true ∨ s.pwr.oldChart = true)) ∧
    (∃ (s : State) (p : Port) (n : Fin 2) (ofs : Nat) (k : Fin 16), twOf p = some n ∧ ofs = (if s.pwr.oldChart = true then 0x36 else 0x24) ∧
      twAnswers s n = true ∧ s.update.pause = false ∧ s.pwr.oldChart = false ∧ wdFrozen s = false ∧ wdObliged s n = true ∧ wdTaskOf s n k = true) ∧
    (∃ (s : State) (p : Port) (n : Fin 2) (ofs : Nat) (k : Nat), twOf p = some n ∧ ofs = (if s.pwr.oldChart = true then 0x36 else 0x24) ∧
      twAnswers s n = true ∧ s.update.pause = false ∧ s.pwr.oldChart = false ∧ wdFrozen s = false ∧ wdObliged s n = true ∧
      (∀ j : Fin 16, j.val = k → wdTaskOf s n j = false)) ∧
    (∃ (s : State), s.wd.running = true ∧ s.pwr.state ≠ .park ∧ s.wd.abandoned = false ∧ (∀ h : Fin 2, wdObliged s h = false)) ∧
    (∃ (s : State), s.wd.running = true ∧ s.pwr.state ≠ .park ∧ s.wd.abandoned = true) ∧
    (∃ (s : State), s.wd.running = true ∧ s.pwr.state ≠ .park ∧ s.wd.abandoned = false ∧ wdWindowsOk s = true ∧ (s.wdReact ≠ 2 ∨ s.update.pause = true)) ∧
    (∃ (s : State) (h : Fin 2) (fl : Nat), s.wd.running = true ∧ s.pwr.state ≠ .park ∧ s.wd.abandoned = false ∧ wdWindowsOk s = true ∧ s.wdReact = 2 ∧
      s.update.pause = false ∧ s.boot.phase = .ready ∧ wdObliged s h = true ∧ (∀ j : Fin 2, j ≠ h → wdObliged s j = false) ∧
      fl = (if s.wd.hosts[h].answered = true then s.wd.hosts[h].flags else setBit s.wd.hosts[h].flags 1) + 8 * bit ((allFin 16).any fun k => wdTaskOf s h k && decide (s.wd.checkins[k] = 0)) + 16 * bit ((allFin 16).any fun k => wdTaskOf s h k && decide (1 < s.wd.checkins[k])) ∧
      fl ≠ 0 ∧ s.wdFailMax ≤ s.wd.hosts[h].failCnt + 1) :=
  ⟨⟨{ rdy with wd.locked := true }, 0, okRow (checkWrite ({ rdy with wd.locked := true }) 0 0x2A10 0x01), by decide +kernel⟩,
   ⟨{ rdy with wd.locked := true }, 0, okRow (checkWrite ({ rdy with wd.locked := true }) 0 0x2A10 0x01), 1, by decide +kernel⟩,
   ⟨{ rdy with wd.locked := false }, 0, okRow (checkWrite ({ rdy with wd.locked := false }) 0 0x2A10 0x01), by decide +kernel⟩,
   ⟨{ rdy with wd.running := false }, by decide +kernel⟩,
   ⟨{ rdy with wd.running := false }, by decide +kernel⟩,
   ⟨{ rdy with wd.running := true, wd.abandoned := false }, by decide +kernel⟩,
   ⟨{ rdy with tw := vmod rdy.tw 0 fun x => { x with wedged := true } }, 4, 0, (if ({ rdy with tw := vmod rdy.tw 0 fun x => { x with wedged := true } }).pwr.oldChart = true then 0x0A else 0x22), by decide +kernel⟩,
   ⟨{ rdy with update.pause := true }, 4, 0, (if ({ rdy with update.pause := true }).pwr.oldChart = true then 0x0A else 0x22), by decide +kernel⟩,
   ⟨{ rdy with update.pause := false }, 4, 0, (if ({ rdy with update.pause := false }).pwr.oldChart = true then 0x0A else 0x22), by decide +kernel⟩,
   ⟨{ rdy with update.pause := false, wd.abandoned := false, wd.running := true, wd.hosts := vmod rdy.wd.hosts 0 fun x => { x with obliged := true }, tw := vmod rdy.tw 0 fun x => { x with wedged := false }, settings := [(0x2a100c, 255)] }, 4, 0, (if ({ rdy with update.pause := false, wd.abandoned := false, wd.running := true, wd.hosts := vmod rdy.wd.hosts 0 fun x => { x with obliged := true }, tw := vmod rdy.tw 0 fun x => { x with wedged := false }, settings := [(0x2a100c, 255)] }).pwr.oldChart = true then 0x0A else 0x22), by decide +kernel⟩,
   ⟨{ rdy with tw := vmod rdy.tw 0 fun x => { x with wedged := true } }, 4, 0, (if ({ rdy with tw := vmod rdy.tw 0 fun x => { x with wedged := true } }).pwr.oldChart = true then 0x36 else 0x24), by decide +kernel⟩,
   ⟨{ rdy with update.pause := true }, 4, 0, (if ({ rdy with update.pause := true }).pwr.oldChart = true then 0x36 else 0x24), by decide +kernel⟩,
   ⟨{ rdy with update.pause := false }, 4, 0, (if ({ rdy with update.pause := false }).pwr.oldChart = true then 0x36 else 0x24), by decide +kernel⟩,
   ⟨{ rdy with update.pause := false, pwr.oldChart := false, wd.running := true, wd.hosts := vmod rdy.wd.hosts 0 fun x => { x with obliged := true }, tw := vmod rdy.tw 0 fun x => { x with wedged := false }, settings := [(0x2a1002, 1), (0x2a100c, 255)] }, 4, 0, (if ({ rdy with update.pause := false, pwr.oldChart := false, wd.running := true, wd.hosts := vmod rdy.wd.hosts 0 fun x => { x with obliged := true }, tw := vmod rdy.tw 0 fun x => { x with wedged := false }, settings := [(0x2a1002, 1), (0x2a100c, 255)] }).pwr.oldChart = true then 0x36 else 0x24), 0, by decide +kernel⟩,
   ⟨{ rdy with update.pause := false, pwr.oldChart := false, wd.running := true, wd.hosts := vmod rdy.wd.hosts 0 fun x => { x with obliged := true }, tw := vmod rdy.tw 0 fun x => { x with wedged := false }, settings := [(0x2a100c, 255)] }, 4, 0, (if ({ rdy with update.pause := false, pwr.oldChart := false, wd.running := true, wd.hosts := vmod rdy.wd.hosts 0 fun x => { x with obliged := true }, tw := vmod rdy.tw 0 fun x => { x with wedged := false }, settings := [(0x2a100c, 255)] }).pwr.oldChart = true then 0x36 else 0x24), 16, by decide +kernel⟩,
   ⟨{ rdy with wd.running := true, wd.abandoned := false }, by decide +kernel⟩,
   ⟨{ rdy with wd.running := true, wd.abandoned := true }, by decide +kernel⟩,
   ⟨{ rdy with wd.running := true, wd.abandoned := false }, by decide +kernel⟩,
   ⟨{ rdy with wd.running := true, wd.abandoned := false, update.pause := false, boot.phase := .ready, wd.hosts := vmod rdy.wd.hosts 0 fun x => { x with obliged := true }, tw := vmod rdy.tw 0 fun x => { x with wedged := false }, settings := [(0x2a100a, 2), (0x2a100c, 255)] }, 0, 10, by decide +kernel⟩⟩

/-- Every clause of `Obligations.EngineWatchdogAndLogbook` has a state and operands that meet its hypotheses. -/
theorem test_witness_EngineWatchdogAndLogbook :
    (∃ (s : State) (e : Fin 18), enginePresent s e = false) ∧
    (∃ (s : State) (e : Fin 18), enginePresent s e = true ∧ (s.ewd.running = false ∨ engineLinkOut s e = true)) ∧
    (∃ (s : State) (e : Fin 18), enginePresent s e = true ∧ s.ewd.running = true ∧ engineLinkOut s e = false) ∧
    (∃ (s : State) (e : Fin 18), enginePresent s e = true ∧ (s.ewd.running = false ∨ ewdSuspended s e = true)) ∧
    (∃ (s : State) (e : Fin 18), enginePresent s e = true ∧ s.ewd.running = true ∧ ewdSuspended s e = false) ∧
    (∃ (s : State) (d : Nat), s.part.dies < d) ∧
    (∃ (s : State) (d : Nat), d ≤ s.part.dies ∧ sysRuns s = false) ∧
    (∃ (s : State) (c : FaultCode) (d : Nat), d ≤ s.part.dies ∧ sysRuns s = true ∧ c.cls = .a) ∧
    (∃ (s : State) (c : FaultCode) (d : Nat), d ≤ s.part.dies ∧ sysRuns s = true ∧ c.cls ≠ .a ∧ s.log.ready = false ∧ c ≠ .fabricErr) ∧
    (∃ (s : State) (c : FaultCode) (d : Nat), d ≤ s.part.dies ∧ sysRuns s = true ∧ c.cls ≠ .a ∧ s.log.ready = true) ∧
    (∃ (s : State) (p : Port) (row : ObjRow) (v : Nat), answering s = true ∧ checkWrite s p 0x2A20 0x04 = .ok row ∧ v ≠ 1) ∧
    (∃ (s : State) (p : Port) (row : ObjRow), answering s = true ∧ checkWrite s p 0x2A20 0x04 = .ok row ∧ s.log.since.any (persists s) = true) ∧
    (∃ (s : State) (p : Port) (row : ObjRow), answering s = true ∧ checkWrite s p 0x2A20 0x04 = .ok row ∧ s.log.since.any (persists s) = false) ∧
    (∃ (s : State) (p : Port) (row : ObjRow), answering s = true ∧ checkWrite s p 0x2A20 0x04 = .ok row ∧ s.log.since.any (persists s) = false ∧
      (∀ i : Fin 46, s.items[i].phase ≠ .waiting)) :=
  ⟨⟨{ rdy with part := .qmn2402 }, 6, by decide +kernel⟩,
   ⟨{ rdy with ewd.running := false }, 0, by decide +kernel⟩,
   ⟨{ rdy with ewd.running := true }, 0, by decide +kernel⟩,
   ⟨{ rdy with ewd.running := false }, 0, by decide +kernel⟩,
   ⟨{ rdy with ewd.running := true }, 0, by decide +kernel⟩,
   ⟨rdy, 8, by decide +kernel⟩,
   ⟨{ rdy with pwr.state := .park }, 0, by decide +kernel⟩,
   ⟨rdy, .thermalShutdown, 7, by decide +kernel⟩,
   ⟨{ rdy with log.ready := false }, .imageRefused, 0, by decide +kernel⟩,
   ⟨{ rdy with log.ready := true }, .tamper, 7, by decide +kernel⟩,
   ⟨rdy, 0, okRow (checkWrite rdy 0 0x2A20 0x04), 0, by decide +kernel⟩,
   ⟨{ rdy with nv.tamperLow := true, log.since := [⟨.tamper, 0, 0, 0⟩] }, 0, okRow (checkWrite ({ rdy with nv.tamperLow := true, log.since := [⟨.tamper, 0, 0, 0⟩] }) 0 0x2A20 0x04), by decide +kernel⟩,
   ⟨rdy, 0, okRow (checkWrite rdy 0 0x2A20 0x04), by decide +kernel⟩,
   ⟨rdy, 0, okRow (checkWrite rdy 0 0x2A20 0x04), by decide +kernel⟩⟩

/-- Every clause of `Obligations.TwoWireTransfers` has a state and operands that meet its hypotheses. -/
theorem test_witness_TwoWireTransfers :
    (∃ (s : State) (n : Fin 2), (poweredOutputs s = false ∨ s.pwr.state = .off ∨ s.tw[n].wedged = true ∨ (s.pwr.state = .park ∧
      s.wakeMask.testBit (8 + n) = false))) ∧
    (∃ (s : State) (n : Fin 2), (poweredOutputs s = false ∨ s.pwr.state = .off ∨ s.tw[n].wedged = true ∨ (s.pwr.state = .park ∧
      s.wakeMask.testBit (8 + n) = false))) ∧
    (∃ (s : State) (n : Fin 2), poweredOutputs s = true ∧ s.pwr.state = .park ∧ s.tw[n].wedged = false ∧ s.wakeMask.testBit (8 + n) = true) ∧
    (∃ (s : State) (n : Fin 2), poweredOutputs s = true ∧ s.pwr.state = .park ∧ s.tw[n].wedged = false ∧ s.wakeMask.testBit (8 + n) = true) ∧
    (∃ (s : State) (n : Fin 2), twAnswers s n = true ∧ s.pwr.parkEntry = false) ∧
    (∃ (s : State) (n : Fin 2), twAnswers s n = true ∧ s.pwr.parkEntry = false) ∧
    (∃ (s : State) (n : Fin 2), twAnswers s n = false) ∧
    (∃ (s : State) (n : Fin 2) (o : Nat) (bs : List Byte) (g : WinRow), regAt s (winPtr s o) = g ∧ twAnswers s n = true ∧ s.tw[n].pec = false ∧ bs ≠ [] ∧
      winPtr s o + bs.length ≤ g.first + g.size ∧ g.acc = .ro) ∧
    (∃ (s : State) (n : Fin 2) (o : Nat) (bs : List Byte) (g : WinRow), regAt s (winPtr s o) = g ∧ twAnswers s n = true ∧ s.tw[n].pec = false ∧ bs ≠ [] ∧
      winPtr s o + bs.length ≤ g.first + g.size ∧ (g.acc ∉ [.ro, .const]) ∧ g.reg.tunnel = true ∧ s.tw[n].tun.phase = .busy) ∧
    (∃ (s : State) (n : Fin 2) (o : Nat) (bs : List Byte) (g : WinRow), regAt s (winPtr s o) = g ∧ twAnswers s n = true ∧ s.tw[n].pec = false ∧ bs ≠ [] ∧
      winPtr s o + bs.length ≤ g.first + g.size ∧ (g.acc ∉ [.ro, .const]) ∧ (g.reg.tunnel = false ∨ s.tw[n].tun.phase ≠ .busy) ∧ g.reg ≠ .tdata ∧
      (winPtr s o ≠ g.first ∨ bs.length ≠ g.size)) ∧
    (∃ (s : State) (n : Fin 2) (o : Nat) (bs : List Byte) (g : WinRow), regAt s (winPtr s o) = g ∧ twAnswers s n = true ∧ s.tw[n].pec = false ∧ bs ≠ [] ∧
      winPtr s o + bs.length ≤ g.first + g.size ∧ (g.acc ∉ [.ro, .const]) ∧ (g.reg.tunnel = false ∨ s.tw[n].tun.phase ≠ .busy) ∧
      (g.reg = .tdata ∨ winPtr s o = g.first ∧ bs.length = g.size) ∧ s.update.pause = true) ∧
    (∃ (s : State) (n : Fin 2) (o : Nat) (bs : List Byte) (g : WinRow), regAt s (winPtr s o) = g ∧ twAnswers s n = true ∧ s.tw[n].pec = false ∧ bs ≠ [] ∧
      winPtr s o + bs.length ≤ g.first + g.size ∧ (g.acc ∉ [.ro, .const]) ∧ s.update.pause = false ∧ s.tw[n].tun.phase ≠ .busy ∧ g.reg = .tidx ∧
      winPtr s o = g.first ∧ bs.length = g.size) ∧
    (∃ (s : State) (n : Fin 2) (o : Nat) (g : WinRow), regAt s (winPtr s o) = g ∧ twAnswers s n = true ∧ s.tw[n].pec = true ∧ winPtr s o ≠ g.first) ∧
    (∃ (s : State) (n : Fin 2) (o : Nat) (bs : List Byte) (pec : Nat) (g : WinRow), regAt s (winPtr s o) = g ∧ twAnswers s n = true ∧
      s.tw[n].pec = true ∧ winPtr s o = g.first ∧ (bs.length < pecSize s n g ∨ (bs.length = pecSize s n g ∧ 256 ≤ pec))) ∧
    (∃ (s : State) (n : Fin 2) (o : Nat) (bs : List Byte) (pec : Nat) (g : WinRow), regAt s (winPtr s o) = g ∧ twAnswers s n = true ∧
      s.tw[n].pec = true ∧ winPtr s o = g.first ∧ pecSize s n g ≤ bs.length ∧ (bs.length = pecSize s n g → pec < 256) ∧
      pecRight s n (winPtr s o) (pecSize s n g) bs pec = false) ∧
    (∃ (s : State) (n : Fin 2) (o : Nat) (bs : List Byte) (pec : Nat) (g : WinRow), regAt s (winPtr s o) = g ∧ twAnswers s n = true ∧
      s.tw[n].pec = true ∧ winPtr s o = g.first ∧ pecSize s n g ≤ bs.length ∧ pecRight s n (winPtr s o) (pecSize s n g) bs pec = true) ∧
    (∃ (s : State) (n : Fin 2) (o : Nat) (bs : List Byte) (pec : Nat) (g : WinRow), regAt s (winPtr s o) = g ∧ twAnswers s n = true ∧
      s.tw[n].pec = true ∧ s.tw[n].transfer = false ∧ winPtr s o = g.first ∧ bs.length = pecSize s n g ∧ pec < 256 ∧
      (pec ≠ crc8 ([addrByte s n false, BitVec.ofNat 8 (winPtr s o)] ++ bs))) ∧
    (∃ (s : State) (n : Fin 2), twAnswers s n = false) ∧
    (∃ (s : State) (n : Fin 2) (b : Byte), twAnswers s n = true ∧ s.tw[n].snapshot[regFirst s .twerr]? = some b) ∧
    (∃ (s : State) (n : Fin 2), twAnswers s n = true ∧ s.tw[n].snapshot[regFirst s .twerr]? = none) :=
  ⟨⟨{ rdy with boot.phase := .starting }, 0, by decide +kernel⟩,
   ⟨{ rdy with boot.phase := .starting }, 0, by decide +kernel⟩,
   ⟨{ rdy with pwr.state := .park, tw := vmod rdy.tw 0 fun x => { x with wedged := false } }, 0, by decide +kernel⟩,
   ⟨{ rdy with pwr.state := .park, tw := vmod rdy.tw 0 fun x => { x with wedged := false } }, 0, by decide +kernel⟩,
   ⟨{ rdy with pwr.parkEntry := false }, 0, by decide +kernel⟩,
   ⟨{ rdy with pwr.parkEntry := false }, 0, by decide +kernel⟩,
   ⟨{ rdy with tw := vmod rdy.tw 0 fun x => { x with wedged := true } }, 0, by decide +kernel⟩,
   ⟨{ rdy with tw := vmod rdy.tw 0 fun x => { x with pec := false } }, 0, 0x10, [0], regAt ({ rdy with tw := vmod rdy.tw 0 fun x => { x with pec := false } }) 0x10, by decide +kernel⟩,
   ⟨{ rdy with tw := vmod rdy.tw 0 fun x => { x with pec := false, tun.phase := .busy } }, 0, 0x80, [0, 0], regAt ({ rdy with tw := vmod rdy.tw 0 fun x => { x with pec := false, tun.phase := .busy } }) 0x80, by decide +kernel⟩,
   ⟨{ rdy with tw := vmod rdy.tw 0 fun x => { x with pec := false } }, 0, 0x22, [0], regAt ({ rdy with tw := vmod rdy.tw 0 fun x => { x with pec := false } }) 0x22, by decide +kernel⟩,
   ⟨{ rdy with update.pause := true, tw := vmod rdy.tw 0 fun x => { x with pec := false } }, 0, 0x22, [0, 0], regAt ({ rdy with update.pause := true, tw := vmod rdy.tw 0 fun x => { x with pec := false } }) 0x22, by decide +kernel⟩,
   ⟨{ rdy with update.pause := false, tw := vmod rdy.tw 0 fun x => { x with pec := false } }, 0, 0x80, [0, 0], regAt ({ rdy with update.pause := false, tw := vmod rdy.tw 0 fun x => { x with pec := false } }) 0x80, by decide +kernel⟩,
   ⟨{ rdy with tw := vmod rdy.tw 0 fun x => { x with pec := true } }, 0, 0x23, regAt ({ rdy with tw := vmod rdy.tw 0 fun x => { x with pec := true } }) 0x23, by decide +kernel⟩,
   ⟨{ rdy with tw := vmod rdy.tw 0 fun x => { x with pec := true } }, 0, 0x22, [0], 0, regAt ({ rdy with tw := vmod rdy.tw 0 fun x => { x with pec := true } }) 0x22, by decide +kernel⟩,
   ⟨{ rdy with tw := vmod rdy.tw 0 fun x => { x with pec := true } }, 0, 0x22, [0, 0], (crc8 ([addrByte rdy 0 false, 0x22] ++ [0, 0]) + 1) % 256, regAt ({ rdy with tw := vmod rdy.tw 0 fun x => { x with pec := true } }) 0x22, by decide +kernel⟩,
   ⟨{ rdy with tw := vmod rdy.tw 0 fun x => { x with pec := true } }, 0, 0x22, [0, 0], crc8 ([addrByte ({ rdy with tw := vmod rdy.tw 0 fun x => { x with pec := true } }) 0 false, 0x22] ++ [0, 0]), regAt ({ rdy with tw := vmod rdy.tw 0 fun x => { x with pec := true } }) 0x22, by decide +kernel⟩,
   ⟨{ rdy with tw := vmod rdy.tw 0 fun x => { x with pec := true, transfer := false } }, 0, 0x22, [0, 0], (crc8 ([addrByte rdy 0 false, 0x22] ++ [0, 0]) + 1) % 256, regAt ({ rdy with tw := vmod rdy.tw 0 fun x => { x with pec := true, transfer := false } }) 0x22, by decide +kernel⟩,
   ⟨{ rdy with tw := vmod rdy.tw 0 fun x => { x with wedged := true } }, 0, by decide +kernel⟩,
   ⟨{ rdy with tw := vmod rdy.tw 0 fun x => { x with snapshot := List.replicate 256 0 } }, 0, 0, by decide +kernel⟩,
   ⟨rdy, 0, by decide +kernel⟩⟩

/-- Every clause of `Obligations.NotificationsAndBusErrors` has a state and operands that meet its hypotheses. -/
theorem test_witness_NotificationsAndBusErrors :
    (∃ (s : State) (n : Fin 2), twController s n = false) ∧
    (∃ (s : State) (n : Fin 2), s.tw[n].due = false) ∧
    (∃ (s : State) (n : Fin 2), twController s n = true ∧ s.tw[n].due = true ∧ s.evc.alert[n] = true ∧ s.tw[n].transfer = false) ∧
    (∃ (s : State) (n : Fin 2), (s.evc.alert[n] = false ∨ s.tw[n].transfer = true)) ∧
    (∃ (s : State) (n : Fin 2), twController s n = true ∧ s.evc.alert[n] = true ∧ s.tw[n].sinceRise = false ∧ s.twNotifyRep n ≠ 0) ∧
    (∃ (s : State) (n : Fin 2), (s.evc.alert[n] = false ∨ s.tw[n].sinceRise = true ∨ s.twNotifyRep n = 0)) ∧
    (∃ (s : State) (n : Fin 2), twController s n = true ∧ s.tw[n].due = true) ∧
    (∃ (s : State), answering s = false) ∧
    (∃ (s : State), answering s = true) ∧
    (∃ (s : State) (n : Fin 2), (answering s = false ∨ s.tw[n].wedged = true)) ∧
    (∃ (s : State) (n : Fin 2), answering s = true ∧ s.tw[n].wedged = false) :=
  ⟨⟨{ rdy with boot.phase := .starting, boot.odAnswering := false }, 0, by decide +kernel⟩,
   ⟨{ rdy with tw := vmod rdy.tw 0 fun x => { x with due := false } }, 0, by decide +kernel⟩,
   ⟨{ rdy with tw := vmod rdy.tw 0 fun x => { x with due := true, transfer := false }, evc.alert := vset rdy.evc.alert 0 true, settings := [(0x2b0005, 1), (0x2b1005, 1)] }, 0, by decide +kernel⟩,
   ⟨{ rdy with evc.alert := vset rdy.evc.alert 0 false }, 0, by decide +kernel⟩,
   ⟨{ rdy with evc.alert := vset rdy.evc.alert 0 true, tw := vmod rdy.tw 0 fun x => { x with sinceRise := false }, settings := [(0x2b0005, 1), (0x2b1005, 1)] }, 0, by decide +kernel⟩,
   ⟨{ rdy with evc.alert := vset rdy.evc.alert 0 false }, 0, by decide +kernel⟩,
   ⟨{ rdy with tw := vmod rdy.tw 0 fun x => { x with due := true }, settings := [(0x2b0005, 1), (0x2b1005, 1)] }, 0, by decide +kernel⟩,
   ⟨{ rdy with boot.phase := .starting }, by decide +kernel⟩,
   ⟨rdy, by decide +kernel⟩,
   ⟨{ rdy with boot.phase := .starting }, 0, by decide +kernel⟩,
   ⟨{ rdy with tw := vmod rdy.tw 0 fun x => { x with wedged := false } }, 0, by decide +kernel⟩⟩

/-- Every clause of `Obligations.DictionaryTunnel` has a state and operands that meet its hypotheses. -/
theorem test_witness_DictionaryTunnel :
    (∃ (s : State) (n : Fin 2), twAnswers s n = false) ∧
    (∃ (s : State) (n : Fin 2), twAnswers s n = false) ∧
    (∃ (s : State) (n : Fin 2), twAnswers s n = true ∧ tunBusy s n = true) ∧
    (∃ (s : State) (n : Fin 2), twAnswers s n = true ∧ tunBusy s n = true) ∧
    (∃ (s : State) (n : Fin 2), twAnswers s n = true ∧ tunBusy s n = false ∧ s.roles[portOfTw n] = 3) ∧
    (∃ (s : State) (n : Fin 2), twAnswers s n = true ∧ tunBusy s n = false) ∧
    (∃ (s : State) (n : Fin 2), twAnswers s n = true ∧ tunBusy s n = false ∧ s.roles[portOfTw n] ≠ 3) ∧
    (∃ (s : State) (n : Fin 2) (e : _), twAnswers s n = true ∧ tunBusy s n = false ∧
      checkRead s (portOfTw n) s.tw[n].tun.index s.tw[n].tun.sub = .error e) ∧
    (∃ (s : State) (n : Fin 2) (row : ObjRow) (b : List Byte) (u : State), twAnswers s n = true ∧ tunBusy s n = false ∧
      checkRead s (portOfTw n) s.tw[n].tun.index s.tw[n].tun.sub = .ok row ∧ row.typ ≠ .domain ∧ s.tw[n].tun.offset = 0 ∧
      (readObject (portOfTw n) row s.tw[n].tun.index s.tw[n].tun.sub s = (u, .value b))) ∧
    (∃ (s : State) (n : Fin 2) (e : AbortCode), twAnswers s n = true ∧ tunBusy s n = false ∧ s.roles[portOfTw n] ≠ 3 ∧
      checkWrite s (portOfTw n) s.tw[n].tun.index s.tw[n].tun.sub = .error e) ∧
    (∃ (s : State) (n : Fin 2) (row : ObjRow), twAnswers s n = true ∧ tunBusy s n = false ∧ s.roles[portOfTw n] ≠ 3 ∧
      checkWrite s (portOfTw n) s.tw[n].tun.index s.tw[n].tun.sub = .ok row ∧ row.typ ≠ .domain) ∧
    (∃ (s : State) (n : Fin 2) (row : ObjRow) (u : State) (a : Ack), twAnswers s n = true ∧ tunBusy s n = false ∧ s.roles[portOfTw n] ≠ 3 ∧
      checkWrite s (portOfTw n) s.tw[n].tun.index s.tw[n].tun.sub = .ok row ∧ row.typ ≠ .domain ∧
      (writeRequest (portOfTw n) 0 s.tw[n].tun.index s.tw[n].tun.sub (s.tw[n].tun.data.take (tunLen s n)) s = (u, a))) ∧
    (∃ (s : State) (n : Fin 2), (s.tw[n].tun.phase ≠ .busy ∨ s.tw[n].tun.outcome = .none ∨ s.tw[n].tun.outcome = .pending)) ∧
    (∃ (s : State) (n : Fin 2), s.tw[n].tun.phase = .busy ∧ s.tw[n].tun.outcome = .done) ∧
    (∃ (s : State) (n : Fin 2) (b : _), s.tw[n].tun.phase = .busy ∧ s.tw[n].tun.outcome = .value b) ∧
    (∃ (s : State) (n : Fin 2) (c : _), s.tw[n].tun.phase = .busy ∧ s.tw[n].tun.outcome = .abort c) :=
  ⟨⟨{ rdy with tw := vmod rdy.tw 0 fun x => { x with wedged := true } }, 0, by decide +kernel⟩,
   ⟨{ rdy with tw := vmod rdy.tw 0 fun x => { x with wedged := true } }, 0, by decide +kernel⟩,
   ⟨{ rdy with tw := vmod rdy.tw 0 fun x => { x with tun.phase := .busy } }, 0, by decide +kernel⟩,
   ⟨{ rdy with tw := vmod rdy.tw 0 fun x => { x with tun.phase := .busy } }, 0, by decide +kernel⟩,
   ⟨{ rdy with roles := vset rdy.roles 4 3 }, 0, by decide +kernel⟩,
   ⟨rdy, 0, by decide +kernel⟩,
   ⟨rdy, 0, by decide +kernel⟩,
   ⟨rdy, 0, errOf (checkRead rdy (portOfTw 0) rdy.tw[0].tun.index rdy.tw[0].tun.sub), by decide +kernel⟩,
   ⟨({ rdy with tw := vmod rdy.tw 0 fun x => { x with tun.index := 0x2104, tun.sub := 1 } } : State), 0, okRow (checkRead ({ rdy with tw := vmod rdy.tw 0 fun x => { x with tun.index := 0x2104, tun.sub := 1 } } : State) 4 0x2104 1), bytesOf (readObject 4 (okRow (checkRead ({ rdy with tw := vmod rdy.tw 0 fun x => { x with tun.index := 0x2104, tun.sub := 1 } } : State) 4 0x2104 1)) 0x2104 1 ({ rdy with tw := vmod rdy.tw 0 fun x => { x with tun.index := 0x2104, tun.sub := 1 } } : State)).2, (readObject 4 (okRow (checkRead ({ rdy with tw := vmod rdy.tw 0 fun x => { x with tun.index := 0x2104, tun.sub := 1 } } : State) 4 0x2104 1)) 0x2104 1 ({ rdy with tw := vmod rdy.tw 0 fun x => { x with tun.index := 0x2104, tun.sub := 1 } } : State)).1, by decide +kernel⟩,
   ⟨rdy, 0, errOf (checkWrite rdy (portOfTw 0) rdy.tw[0].tun.index rdy.tw[0].tun.sub), by decide +kernel⟩,
   ⟨({ rdy with roles := Vector.replicate 6 0, tw := vmod rdy.tw 0 fun x => { x with tun.index := 0x2B00, tun.sub := 2, tun.len := 2, tun.data := [0, 0] } } : State), 0, okRow (checkWrite ({ rdy with roles := Vector.replicate 6 0, tw := vmod rdy.tw 0 fun x => { x with tun.index := 0x2B00, tun.sub := 2, tun.len := 2, tun.data := [0, 0] } } : State) 4 0x2B00 2), by decide +kernel⟩,
   ⟨({ rdy with roles := Vector.replicate 6 0, tw := vmod rdy.tw 0 fun x => { x with tun.index := 0x2B00, tun.sub := 2, tun.len := 2, tun.data := [0, 0] } } : State), 0, okRow (checkWrite ({ rdy with roles := Vector.replicate 6 0, tw := vmod rdy.tw 0 fun x => { x with tun.index := 0x2B00, tun.sub := 2, tun.len := 2, tun.data := [0, 0] } } : State) 4 0x2B00 2), ({ rdy with roles := Vector.replicate 6 0, tw := vmod rdy.tw 0 fun x => { x with tun.index := 0x2B00, tun.sub := 2, tun.len := 2, tun.data := [0, 0] } } : State), .abort .length, by decide +kernel⟩,
   ⟨rdy, 0, by decide +kernel⟩,
   ⟨{ rdy with tw := vmod rdy.tw 0 fun x => { x with tun.phase := .busy, tun.outcome := .done } }, 0, by decide +kernel⟩,
   ⟨{ rdy with tw := vmod rdy.tw 0 fun x => { x with tun.phase := .busy, tun.outcome := .value [0] } }, 0, [0], by decide +kernel⟩,
   ⟨{ rdy with tw := vmod rdy.tw 0 fun x => { x with tun.phase := .busy, tun.outcome := .abort .busy } }, 0, .busy, by decide +kernel⟩⟩

/-- Every clause of `Obligations.EventController` has a state and operands that meet its hypotheses. -/
theorem test_witness_EventController :
    (∃ (s : State) (i : Fin 128), (slotLevel i = true ∨ s.pwr.state = .park ∨ slotListed s.part i = false ∨ slotRouted s i = false)) ∧
    (∃ (s : State) (i : Fin 128), slotLevel i = false ∧ s.pwr.state ≠ .park ∧ slotListed s.part i = true ∧ slotRouted s i = true ∧
      s.evc.pend.testBit i = true) ∧
    (∃ (s : State) (i : Fin 128), slotLevel i = false ∧ s.pwr.state ≠ .park ∧ slotListed s.part i = true ∧ slotRouted s i = true ∧
      s.evc.pend.testBit i = false) ∧
    (∃ (s : State) (i : Fin 128), (slotLevel i = false ∨ s.pwr.state = .park ∨ slotListed s.part i = false)) ∧
    (∃ (s : State) (i : Fin 128), slotLevel i = true ∧ s.pwr.state ≠ .park ∧ slotListed s.part i = true) ∧
    (∃ (s : State) (n : Fin 2), twAnswers s n = false) ∧
    (∃ (s : State) (n : Fin 2), twAnswers s n = true ∧ 128 ≤ claimSource s n) ∧
    (∃ (s : State) (n : Fin 2) (i : Fin 128), twAnswers s n = true ∧ claimSource s n = i.val ∧ s.evc.inserv.testBit i = true) ∧
    (∃ (s : State) (n : Fin 2) (i : Fin 128), twAnswers s n = true ∧ claimSource s n = i.val ∧ s.evc.inserv.testBit i = false) ∧
    (∃ (s : State) (n : Fin 2), twAnswers s n = false) ∧
    (∃ (s : State) (n : Fin 2), twAnswers s n = true ∧ s.update.pause = true) ∧
    (∃ (s : State) (n : Fin 2) (x : Nat), twAnswers s n = true ∧ s.update.pause = false ∧
      (s.evc.inserv.testBit (x % 256) = false ∨ s.evc.host1.testBit (x % 256) ≠ decide (n = 1))) ∧
    (∃ (s : State) (n : Fin 2) (x : Nat), twAnswers s n = true ∧ s.update.pause = false ∧ s.evc.inserv.testBit (x % 256) = true ∧
      s.evc.host1.testBit (x % 256) = decide (n = 1)) ∧
    (∃ (s : State) (p : Port) (i : Fin 128) (row : ObjRow), answering s = true ∧ checkWrite s p 0x2C10 (i + 1) = .ok row) ∧
    (∃ (s : State) (p : Port) (row : ObjRow), answering s = true ∧ checkWrite s p 0x2C00 0x01 = .ok row) :=
  ⟨⟨rdy, 0, by decide +kernel⟩,
   ⟨{ rdy with evc.pend := 1, settings := [(0x2c1001, 1)] }, 0, by decide +kernel⟩,
   ⟨{ rdy with evc.pend := 0, settings := [(0x2c1041, 1)] }, 64, by decide +kernel⟩,
   ⟨rdy, 0, by decide +kernel⟩,
   ⟨rdy, 4, by decide +kernel⟩,
   ⟨{ rdy with tw := vmod rdy.tw 0 fun x => { x with wedged := true } }, 0, by decide +kernel⟩,
   ⟨rdy, 0, by decide +kernel⟩,
   ⟨{ rdy with evc.pend := 1, evc.inserv := 1, tw := vmod rdy.tw 0 fun x => { x with snapshot := List.replicate 256 0 }, settings := [(0x2c1001, 1)] }, 0, 0, by decide +kernel⟩,
   ⟨{ rdy with evc.pend := 1, tw := vmod rdy.tw 0 fun x => { x with snapshot := List.replicate 256 0 }, settings := [(0x2c1001, 1)] }, 0, 0, by decide +kernel⟩,
   ⟨{ rdy with tw := vmod rdy.tw 0 fun x => { x with wedged := true } }, 0, by decide +kernel⟩,
   ⟨{ rdy with update.pause := true }, 0, by decide +kernel⟩,
   ⟨{ rdy with update.pause := false }, 0, 0, by decide +kernel⟩,
   ⟨{ rdy with update.pause := false, evc.inserv := 2 ^ 127, evc.host1 := 0 }, 0, 127, by decide +kernel⟩,
   ⟨rdy, 0, 0, okRow (checkWrite rdy 0 0x2C10 (0 + 1)), by decide +kernel⟩,
   ⟨rdy, 0, okRow (checkWrite rdy 0 0x2C00 0x01), by decide +kernel⟩⟩

/-- Every clause of `Obligations.CanPorts` has a state and operands that meet its hypotheses. -/
theorem test_witness_CanPorts :
    (∃ (s : State) (n : Fin 4), s.can[n].phase = .starting ∧ canMonitor s n = false) ∧
    (∃ (s : State) (n : Fin 4), s.can[n].phase = .starting ∧ canMonitor s n = true) ∧
    (∃ (s : State) (n : Fin 4), s.can[n].phase ≠ .starting ∧ s.can[n].phase.stopped = false) ∧
    (∃ (s : State) (n : Fin 4), s.can[n].phase.stopped = true ∧ s.can[n].disabling = false ∧ canShouldRun s n = true) ∧
    (∃ (s : State) (n : Fin 4), s.can[n].phase.stopped = true ∧ (s.can[n].disabling = true ∨ canShouldRun s n = false)) ∧
    (∃ (s : State) (n : Fin 4) (p : Port) (row : ObjRow), answering s = true ∧ checkWrite s p (0x2D00 + n) 0x01 = .ok row ∧ p = portOfCan n) ∧
    (∃ (s : State) (n : Fin 4) (p : Port) (row : ObjRow), answering s = true ∧ checkWrite s p (0x2D00 + n) 0x01 = .ok row ∧ p ≠ portOfCan n) ∧
    (∃ (s : State) (n : Fin 4), canSends s n = false) ∧
    (∃ (s : State) (n : Fin 4), canSends s n = false) ∧
    (∃ (s : State) (n : Fin 4), canSends s n = true) ∧
    (∃ (s : State) (n : Fin 4), canSends s n = true) ∧
    (∃ (s : State) (n : Fin 4) (p : Port) (row : ObjRow) (v : Nat), answering s = true ∧ checkWrite s p (0x2D00 + n) 0x18 = .ok row ∧ v ≠ 1) ∧
    (∃ (s : State) (n : Fin 4) (p : Port) (row : ObjRow), answering s = true ∧ checkWrite s p (0x2D00 + n) 0x18 = .ok row ∧ p = portOfCan n) ∧
    (∃ (s : State) (n : Fin 4) (p : Port) (row : ObjRow), answering s = true ∧ checkWrite s p (0x2D00 + n) 0x18 = .ok row ∧ p ≠ portOfCan n) ∧
    (∃ (s : State) (n : Fin 4), s.can[n].phase ≠ .recovering) ∧
    (∃ (s : State) (n : Fin 4), s.can[n].phase = .recovering) ∧
    (∃ (s : State) (n : Fin 4), (canSends s n = false ∨ s.hbPeriod n = 0 ∨ s.update.pause = true)) ∧
    (∃ (s : State) (n : Fin 4), canSends s n = true ∧ s.hbPeriod n ≠ 0 ∧ s.update.pause = false) ∧
    (∃ (s : State) (n : Fin 4), ((canSends s n = false ∧ s.can[n].phase ≠ .monitoring) ∨ s.peerHbId n = 0xFFFF)) ∧
    (∃ (s : State) (n : Fin 4), (canSends s n = true ∨ s.can[n].phase = .monitoring) ∧ s.peerHbId n ≠ 0xFFFF) ∧
    (∃ (s : State) (n : Fin 4), canSends s n = false ∧ s.can[n].phase ≠ .monitoring) ∧
    (∃ (s : State) (n : Fin 4) (k : Bool) (bs : List Byte), (canSends s n = true ∨ s.can[n].phase = .monitoring) ∧ (k = true ∨ bs.length < 2)) ∧
    (∃ (s : State) (n : Fin 4) (bs : List Byte), canSends s n = true ∧ reqFirst s n = true ∧ netFree s = true ∧ s.can[n].disabling = false ∧
      2 ≤ bs.length ∧ (bs.length < 8 ∨ fieldAt bs 0 1 ∉ [0x01, 0x02, 0x11, 0x12, 0x13, 0x14])) ∧
    (∃ (bs : List Byte), 2 ≤ bs.length) ∧
    (∃ (tag : Nat) (i : Nat) (u : Nat), tag < 256 ∧ i < 65536 ∧ u < 256) :=
  ⟨⟨{ rdy with can := vmod rdy.can 0 fun x => { x with phase := .starting } }, 0, by decide +kernel⟩,
   ⟨{ rdy with can := vmod rdy.can 0 fun x => { x with phase := .starting, inForce := [1] } }, 0, by decide +kernel⟩,
   ⟨{ rdy with can := vmod rdy.can 0 fun x => { x with phase := .errorActive } }, 0, by decide +kernel⟩,
   ⟨{ rdy with can := vmod rdy.can 0 fun x => { x with phase := .disabled, disabling := false }, settings := [(0x2d0001, 1)] }, 0, by decide +kernel⟩,
   ⟨{ rdy with can := vmod rdy.can 0 fun x => { x with phase := .disabled, disabling := true } }, 0, by decide +kernel⟩,
   ⟨rdy, 0, portOfCan 0, okRow (checkWrite rdy (portOfCan 0) (0x2D00 + 0) 0x01), by decide +kernel⟩,
   ⟨rdy, 1, 0, okRow (checkWrite rdy 0 (0x2D00 + 1) 0x01), by decide +kernel⟩,
   ⟨rdy, 0, by decide +kernel⟩,
   ⟨rdy, 0, by decide +kernel⟩,
   ⟨{ rdy with can := vmod rdy.can 0 fun x => { x with phase := .errorActive } }, 0, by decide +kernel⟩,
   ⟨{ rdy with can := vmod rdy.can 0 fun x => { x with phase := .errorActive } }, 0, by decide +kernel⟩,
   ⟨rdy, 0, 0, okRow (checkWrite rdy 0 (0x2D00 + 0) 0x18), 0, by decide +kernel⟩,
   ⟨rdy, 0, portOfCan 0, okRow (checkWrite rdy (portOfCan 0) (0x2D00 + 0) 0x18), by decide +kernel⟩,
   ⟨rdy, 1, 0, okRow (checkWrite rdy 0 (0x2D00 + 1) 0x18), by decide +kernel⟩,
   ⟨rdy, 0, by decide +kernel⟩,
   ⟨{ rdy with can := vmod rdy.can 0 fun x => { x with phase := .recovering } }, 0, by decide +kernel⟩,
   ⟨rdy, 0, by decide +kernel⟩,
   ⟨{ rdy with update.pause := false, can := vmod rdy.can 0 fun x => { x with phase := .errorActive } }, 0, by decide +kernel⟩,
   ⟨rdy, 0, by decide +kernel⟩,
   ⟨{ rdy with can := vmod rdy.can 0 fun x => { x with phase := .errorActive }, settings := [(0x2d1003, 0)] }, 0, by decide +kernel⟩,
   ⟨rdy, 0, by decide +kernel⟩,
   ⟨{ rdy with can := vmod rdy.can 0 fun x => { x with phase := .errorActive } }, 0, true, [], by decide +kernel⟩,
   ⟨{ rdy with can := vmod rdy.can 0 fun x => { x with phase := .errorActive, disabling := false } }, 0, [0, 0], by decide +kernel⟩,
   ⟨[0, 0], by decide +kernel⟩,
   ⟨255, 65535, 255, by decide +kernel⟩⟩

/-- Every clause of `Obligations.CanRequests` has a state and operands that meet its hypotheses. -/
theorem test_witness_CanRequests :
    (∃ (s : State) (n : Fin 4) (tag : Nat) (c : Instr) (i : Nat) (u : Nat) (x : Nat) (y : Nat) (bs : List Byte), (c ∈ [.read n tag i u, .write n tag i u bs, .blockWriteInit n tag i u x, .segment n tag x y bs, .blockReadInit n tag i u, .blockRequest n tag x]) ∧
      canSends s n = false) ∧
    (∃ (s : State) (n : Fin 4) (tag : Nat) (c : Instr) (q : NetReq) (i : Nat) (u : Nat) (x : Nat) (y : Nat) (bs : List Byte), ((c, q) ∈ [(.read n tag i u, .read tag i u), (.write n tag i u bs, .write tag i u bs), (.blockWriteInit n tag i u x, .blockWriteInit tag i u x), (.segment n tag x y bs, .segment tag x y bs), (.blockReadInit n tag i u, .blockReadInit tag i u), (.blockRequest n tag x, .blockRequest tag x)]) ∧
      canSends s n = true ∧ (reqFirst s n = false ∨ netFree s = false)) ∧
    (∃ (s : State) (n : Fin 4) (i : Nat) (u : Nat) (e : _), canSends s n = true ∧ reqFirst s n = true ∧ netFree s = true ∧
      checkRead s (portOfCan n) i u = .error e) ∧
    (∃ (s : State) (n : Fin 4) (i : Nat) (u : Nat) (row : _) (b : _) (t0 : _), canSends s n = true ∧ reqFirst s n = true ∧ netFree s = true ∧
      checkRead s (portOfCan n) i u = .ok row ∧ row.typ ≠ .domain ∧
      (readObject (portOfCan n) row i u ({ s with can := vmod s.can n fun c => { c with rxCnt := satAdd max32 c.rxCnt 1, reqCnt := satAdd max32 c.reqCnt 1 }, netLast := portOfCan n }) = (t0, .value b))) ∧
    (∃ (s : State) (n : Fin 4) (i : Nat) (u : Nat) (e : _), canSends s n = true ∧ reqFirst s n = true ∧ netFree s = true ∧
      checkWrite s (portOfCan n) i u = .error e) ∧
    (∃ (s : State) (n : Fin 4) (i : Nat) (u : Nat) (bs : List Byte) (row : _), canSends s n = true ∧ reqFirst s n = true ∧ netFree s = true ∧
      checkWrite s (portOfCan n) i u = .ok row ∧ (bs.length = 0 ∨ 56 < bs.length ∨ lengthOk row i u bs.length = false)) ∧
    (∃ (s : State) (n : Fin 4) (i : Nat) (u : Nat) (bs : List Byte) (row : _), canSends s n = true ∧ reqFirst s n = true ∧ netFree s = true ∧
      checkWrite s (portOfCan n) i u = .ok row ∧ 1 ≤ bs.length ∧ bs.length ≤ 56 ∧ lengthOk row i u bs.length = true ∧ row.acc ≠ .rwx ∧ i / 256 = 0x2B) ∧
    (∃ (s : State) (n : Fin 4) (i : Nat) (u : Nat) (e : _), canSends s n = true ∧ reqFirst s n = true ∧ netFree s = true ∧ s.can[n].transfer = .none ∧
      checkWrite s (portOfCan n) i u = .error e) ∧
    (∃ (s : State) (n : Fin 4) (i : Nat) (u : Nat) (x : Nat) (row : _), canSends s n = true ∧ reqFirst s n = true ∧ netFree s = true ∧
      s.can[n].transfer = .none ∧ checkWrite s (portOfCan n) i u = .ok row ∧ isImage i u = false ∧ blockLengthOk row i u x = true) ∧
    (∃ (s : State) (n : Fin 4) (bs : List Byte), canSends s n = true ∧ reqFirst s n = true ∧ netFree s = true ∧ bs.length < 4) ∧
    (∃ (s : State) (n : Fin 4) (bs : List Byte), canSends s n = true ∧ reqFirst s n = true ∧ netFree s = true ∧ 4 ≤ bs.length ∧
      (s.can[n].transfer = .none ∨ ∃ tg i u b, s.can[n].transfer = .blockRead tg i u b) ∧ accessBusy s (portOfCan n) = false) ∧
    (∃ (s : State) (n : Fin 4) (tag : Nat) (bs : List Byte) (f : Nat) (i : _) (u : _) (total : _) (block : _) (want : _) (got : _), canSends s n = true ∧
      reqFirst s n = true ∧ netFree s = true ∧ 4 ≤ bs.length ∧ s.can[n].transfer = .blockWrite tag i u total block want false got ∧
      accessBusy s (portOfCan n) = false ∧ f % 4 = 0) ∧
    (∃ (s : State) (n : Fin 4) (tag : Nat) (bs : List Byte) (q : Nat) (f : Nat) (i : _) (u : _) (total : _) (block : _) (want : _) (sk : _) (got : _), canSends s n = true ∧
      reqFirst s n = true ∧ netFree s = true ∧ 4 ≤ bs.length ∧ s.can[n].transfer = .blockWrite tag i u total block want sk got ∧
      accessBusy s (portOfCan n) = false ∧ f % 4 ≠ 0 ∧ (sk = true ∨ q ≠ want)) ∧
    (∃ (s : State) (n : Fin 4) (i : Nat) (u : Nat) (b : _) (row : _) (t0 : _), canSends s n = true ∧ reqFirst s n = true ∧ netFree s = true ∧
      s.can[n].transfer = .none ∧ checkRead s (portOfCan n) i u = .ok row ∧
      (readObject (portOfCan n) row i u ({ s with can := vmod s.can n fun c => { c with rxCnt := satAdd max32 c.rxCnt 1, reqCnt := satAdd max32 c.reqCnt 1 }, netLast := portOfCan n }) = (t0, .value b))) ∧
    (∃ (s : State) (n : Fin 4) (tag : Nat), canSends s n = true ∧ reqFirst s n = true ∧ netFree s = true ∧
      (s.can[n].transfer = .none ∨ ∃ tg i u b, s.can[n].transfer = .blockRead tg i u b ∧ tg ≠ tag) ∧ accessBusy s (portOfCan n) = false) ∧
    (∃ (s : State) (n : Fin 4) (tag : Nat) (i : _) (u : _) (b : _), canSends s n = true ∧ reqFirst s n = true ∧ netFree s = true ∧
      s.can[n].transfer = .blockRead tag i u b ∧ accessBusy s (portOfCan n) = false) ∧
    (∃ (s : State) (n : Fin 4) (tag : Nat) (bs : List Byte) (q : Nat) (f : Nat) (i : _) (u : _) (total : _) (block : _) (got : List Byte) (whole : List Byte), canSends s n = true ∧
      reqFirst s n = true ∧ netFree s = true ∧ 4 ≤ bs.length ∧ s.can[n].transfer = .blockWrite tag i u total block q false got ∧
      accessBusy s (portOfCan n) = false ∧ f % 4 ≠ 0 ∧ whole = got ++ bs.take (min 60 (min total (4096 * (block + 1)) - got.length)) ∧
      f.testBit 1 = false ∧ whole.length = min total (4096 * (block + 1)) ∧ isImage i u = false) ∧
    (∃ (s : State) (n : Fin 4) (tag : Nat) (bs : List Byte) (q : Nat) (f : Nat) (i : _) (u : _) (total : _) (block : _) (got : List Byte) (whole : List Byte), canSends s n = true ∧
      reqFirst s n = true ∧ netFree s = true ∧ 4 ≤ bs.length ∧ s.can[n].transfer = .blockWrite tag i u total block q false got ∧
      accessBusy s (portOfCan n) = false ∧ f % 4 ≠ 0 ∧ whole = got ++ bs.take (min 60 (min total (4096 * (block + 1)) - got.length)) ∧
      f.testBit 1 = false ∧ whole.length ≠ min total (4096 * (block + 1))) ∧
    (∃ (s : State) (n : Fin 4) (tag : Nat) (bs : List Byte) (q : Nat) (f : Nat) (i : _) (u : _) (total : _) (block : _) (got : List Byte) (whole : List Byte), canSends s n = true ∧
      reqFirst s n = true ∧ netFree s = true ∧ 4 ≤ bs.length ∧ s.can[n].transfer = .blockWrite tag i u total block q false got ∧
      accessBusy s (portOfCan n) = false ∧ f % 4 ≠ 0 ∧ whole = got ++ bs.take (min 60 (min total (4096 * (block + 1)) - got.length)) ∧
      f.testBit 1 = true ∧ whole.length ≠ total ∧ isImage i u = false) ∧
    (∃ (s : State) (n : Fin 4) (tag : Nat) (bs : List Byte) (q : Nat) (f : Nat) (i : _) (u : _) (total : _) (block : _) (got : List Byte) (whole : List Byte) (t : _) (o : _), canSends s n = true ∧
      reqFirst s n = true ∧ netFree s = true ∧ 4 ≤ bs.length ∧ s.can[n].transfer = .blockWrite tag i u total block q false got ∧
      accessBusy s (portOfCan n) = false ∧ f % 4 ≠ 0 ∧ whole = got ++ bs.take (min 60 (min total (4096 * (block + 1)) - got.length)) ∧
      f.testBit 1 = true ∧ whole.length = total ∧ total ≤ 4096 * (block + 1) ∧ isImage i u = false ∧
      (writeRequest (portOfCan n) tag i u whole (setTransfer n .none ({ s with can := vmod s.can n fun c => { c with rxCnt := satAdd max32 c.rxCnt 1, reqCnt := satAdd max32 c.reqCnt 1 }, netLast := portOfCan n })) = (t, o))) ∧
    (∃ (s : State) (n : Fin 4) (tag : Nat) (bs : List Byte) (q : Nat) (f : Nat) (i : _) (u : _) (total : _) (block : _) (got : List Byte) (whole : List Byte), canSends s n = true ∧
      reqFirst s n = true ∧ netFree s = true ∧ 4 ≤ bs.length ∧ s.can[n].transfer = .blockWrite tag i u total block q false got ∧
      accessBusy s (portOfCan n) = false ∧ f % 4 ≠ 0 ∧ whole = got ++ bs.take (min 60 (min total (4096 * (block + 1)) - got.length)) ∧
      f.testBit 1 = false ∧ whole.length = min total (4096 * (block + 1)) ∧ isImage i u = true ∧ s.update.phase = .receiving) ∧
    (∃ (s : State) (n : Fin 4) (tag : Nat) (v : List Byte) (blk : List Byte) (x : Nat) (i : _) (u : _) (k : _), canSends s n = true ∧
      reqFirst s n = true ∧ netFree s = true ∧ s.can[n].transfer = .blockRead tag i u v ∧ accessBusy s (portOfCan n) = false ∧ x ≠ 0xFFFF ∧
      blk = (v.drop (4096 * x)).take 4096 ∧ k = max 1 ((blk.length + 59) / 60) ∧ x ≠ 0 ∧ v.length ≤ 4096 * x) ∧
    (∃ (s : State) (n : Fin 4) (tag : Nat) (v : List Byte) (blk : List Byte) (x : Nat) (i : _) (u : _) (k : _), canSends s n = true ∧
      reqFirst s n = true ∧ netFree s = true ∧ s.can[n].transfer = .blockRead tag i u v ∧ accessBusy s (portOfCan n) = false ∧ x ≠ 0xFFFF ∧
      blk = (v.drop (4096 * x)).take 4096 ∧ k = max 1 ((blk.length + 59) / 60) ∧ (x = 0 ∨ 4096 * x < v.length) ∧ s.can[n].disabling = false) ∧
    (∃ (s : State) (n : Fin 4) (tg : _) (i0 : _) (u0 : _) (v : List Byte) (i : Nat) (u : Nat) (e : _) (s2 : _), canSends s n = true ∧
      reqFirst s n = true ∧ netFree s = true ∧ s.can[n].transfer = .blockRead tg i0 u0 v ∧
      (s2 = respond n ⟨0x91, tg, i0, u0, []⟩ (.abort .transferReplaced) (setTransfer n .none ({ s with can := vmod s.can n fun c => { c with rxCnt := satAdd max32 c.rxCnt 1, reqCnt := satAdd max32 c.reqCnt 1 }, netLast := portOfCan n }))) ∧
      checkWrite s2 (portOfCan n) i u = .error e) ∧
    (∃ (s : State) (n : Fin 4) (tg : _) (i0 : _) (u0 : _) (v : List Byte) (i : Nat) (u : Nat) (e : _) (s2 : _), canSends s n = true ∧
      reqFirst s n = true ∧ netFree s = true ∧ s.can[n].transfer = .blockRead tg i0 u0 v ∧
      (s2 = respond n ⟨0x91, tg, i0, u0, []⟩ (.abort .transferReplaced) (setTransfer n .none ({ s with can := vmod s.can n fun c => { c with rxCnt := satAdd max32 c.rxCnt 1, reqCnt := satAdd max32 c.reqCnt 1 }, netLast := portOfCan n }))) ∧
      checkRead s2 (portOfCan n) i u = .error e) ∧
    (∃ (s : State) (n : Fin 4), s.can[n].transfer = .none) ∧
    (∃ (s : State) (n : Fin 4), s.can[n].transfer ≠ .none) ∧
    (∃ (s : State), answering s = false) ∧
    (∃ (s : State) (p : Port) (i : Nat) (u : Nat) (e : _), answering s = true ∧ checkWrite s p i u = .error e) ∧
    (∃ (s : State) (p : Port) (i : Nat) (u : Nat) (bs : List Byte) (row : _), answering s = true ∧ checkWrite s p i u = .ok row ∧
      lengthOk row i u bs.length = false) ∧
    (∃ (s : State) (p : Port) (i : Nat) (u : Nat) (bs : List Byte) (row : _), answering s = true ∧ checkWrite s p i u = .ok row ∧
      lengthOk row i u bs.length = true ∧ row.acc ≠ .rwx) ∧
    (∃ (s : State) (p : Port) (i : Nat) (u : Nat) (bs : List Byte) (row : _), answering s = true ∧ checkWrite s p i u = .ok row ∧
      lengthOk row i u bs.length = true ∧ row.acc ≠ .rwx ∧ i / 256 = 0x2B) :=
  ⟨⟨rdy, 0, 0, .read 0 0 0 0, 0, 0, 0, 0, [], by decide +kernel⟩,
   ⟨{ rdy with can := vmod rdy.can 0 fun x => { x with phase := .errorActive, rxQueue := [.read 0 0 0] } }, 0, 0, .read 0 0 0 0, .read 0 0 0, 0, 0, 0, 0, [], by decide +kernel⟩,
   ⟨{ rdy with can := vmod rdy.can 0 fun x => { x with phase := .errorActive } }, 0, 0, 0, errOf (checkRead ({ rdy with can := vmod rdy.can 0 fun x => { x with phase := .errorActive } }) (portOfCan 0) 0 0), by decide +kernel⟩,
   ⟨({ rdy with can := vmod rdy.can 0 fun x => { x with phase := .errorActive } } : State), 0, 0x2104, 1, okRow (checkRead ({ rdy with can := vmod rdy.can 0 fun x => { x with phase := .errorActive } } : State) 0 0x2104 1), bytesOf (readObject 0 (okRow (checkRead ({ rdy with can := vmod rdy.can 0 fun x => { x with phase := .errorActive } } : State) 0 0x2104 1)) 0x2104 1 ({ rdy with can := vmod rdy.can 0 fun x => { x with phase := .errorActive, rxCnt := 1, reqCnt := 1 }, netLast := portOfCan 0 } : State)).2, (readObject 0 (okRow (checkRead ({ rdy with can := vmod rdy.can 0 fun x => { x with phase := .errorActive } } : State) 0 0x2104 1)) 0x2104 1 ({ rdy with can := vmod rdy.can 0 fun x => { x with phase := .errorActive, rxCnt := 1, reqCnt := 1 }, netLast := portOfCan 0 } : State)).1, by decide +kernel⟩,
   ⟨{ rdy with can := vmod rdy.can 0 fun x => { x with phase := .errorActive } }, 0, 0, 0, errOf (checkWrite ({ rdy with can := vmod rdy.can 0 fun x => { x with phase := .errorActive } }) (portOfCan 0) 0 0), by decide +kernel⟩,
   ⟨{ rdy with can := vmod rdy.can 0 fun x => { x with phase := .errorActive } }, 0, 0x3100, 1, [], okRow (checkWrite ({ rdy with can := vmod rdy.can 0 fun x => { x with phase := .errorActive } }) (portOfCan 0) 0x3100 1), by decide +kernel⟩,
   ⟨{ rdy with can := vmod rdy.can 0 fun x => { x with phase := .errorActive } }, 0, 0x2B00, 2, [0], okRow (checkWrite ({ rdy with can := vmod rdy.can 0 fun x => { x with phase := .errorActive } }) (portOfCan 0) 0x2B00 2), by decide +kernel⟩,
   ⟨{ rdy with can := vmod rdy.can 0 fun x => { x with phase := .errorActive, transfer := .none } }, 0, 0, 0, errOf (checkWrite ({ rdy with can := vmod rdy.can 0 fun x => { x with phase := .errorActive, transfer := .none } }) (portOfCan 0) 0 0), by decide +kernel⟩,
   ⟨{ rdy with can := vmod rdy.can 0 fun x => { x with phase := .errorActive, transfer := .none } }, 0, 0x2802, 1, 32696, okRow (checkWrite ({ rdy with can := vmod rdy.can 0 fun x => { x with phase := .errorActive, transfer := .none } }) (portOfCan 0) 0x2802 1), by decide +kernel⟩,
   ⟨{ rdy with can := vmod rdy.can 0 fun x => { x with phase := .errorActive } }, 0, [], by decide +kernel⟩,
   ⟨{ rdy with can := vmod rdy.can 0 fun x => { x with phase := .errorActive, transfer := .none } }, 0, [0, 0, 0, 0], by and_intros <;> first | decide +kernel | rfl | exact Or.inl (by decide +kernel) | simp⟩,
   ⟨{ rdy with can := vmod rdy.can 0 fun x => { x with phase := .errorActive, transfer := .blockWrite 0 0 0 1 0 0 false [] } }, 0, 0, [0, 0, 0, 0], 4, 0, 0, 1, 0, 0, [], by decide +kernel⟩,
   ⟨{ rdy with can := vmod rdy.can 0 fun x => { x with phase := .errorActive, transfer := .blockWrite 0 0 0 1 0 0 false [] } }, 0, 0, [0, 0, 0, 0], 1, 1, 0, 0, 1, 0, 0, false, [], by decide +kernel⟩,
   ⟨({ rdy with can := vmod rdy.can 0 fun x => { x with phase := .errorActive } } : State), 0, 0x2104, 1, bytesOf (readObject 0 (okRow (checkRead ({ rdy with can := vmod rdy.can 0 fun x => { x with phase := .errorActive } } : State) 0 0x2104 1)) 0x2104 1 ({ rdy with can := vmod rdy.can 0 fun x => { x with phase := .errorActive, rxCnt := 1, reqCnt := 1 }, netLast := portOfCan 0 } : State)).2, okRow (checkRead ({ rdy with can := vmod rdy.can 0 fun x => { x with phase := .errorActive } } : State) 0 0x2104 1), (readObject 0 (okRow (checkRead ({ rdy with can := vmod rdy.can 0 fun x => { x with phase := .errorActive } } : State) 0 0x2104 1)) 0x2104 1 ({ rdy with can := vmod rdy.can 0 fun x => { x with phase := .errorActive, rxCnt := 1, reqCnt := 1 }, netLast := portOfCan 0 } : State)).1, by decide +kernel⟩,
   ⟨{ rdy with can := vmod rdy.can 0 fun x => { x with phase := .errorActive, transfer := .none } }, 0, 0, by and_intros <;> first | decide +kernel | rfl | exact Or.inl (by decide +kernel) | simp⟩,
   ⟨{ rdy with can := vmod rdy.can 0 fun x => { x with phase := .errorActive, transfer := .blockRead 0 0 0 [] } }, 0, 0, 0, 0, [], by decide +kernel⟩,
   ⟨{ rdy with can := vmod rdy.can 0 fun x => { x with phase := .errorActive, transfer := .blockWrite 0 0x2B00 2 4 0 0 false [] } }, 0, 0, [0, 0, 0, 0], 0, 1, 0x2B00, 2, 4, 0, [], [0, 0, 0, 0], by decide +kernel⟩,
   ⟨{ rdy with can := vmod rdy.can 0 fun x => { x with phase := .errorActive, transfer := .blockWrite 0 0x2B00 2 8 0 0 false [] } }, 0, 0, [0, 0, 0, 0], 0, 1, 0x2B00, 2, 8, 0, [], [0, 0, 0, 0], by decide +kernel⟩,
   ⟨{ rdy with can := vmod rdy.can 0 fun x => { x with phase := .errorActive, transfer := .blockWrite 0 0x2B00 2 8 0 0 false [] } }, 0, 0, [0, 0, 0, 0], 0, 3, 0x2B00, 2, 8, 0, [], [0, 0, 0, 0], by decide +kernel⟩,
   ⟨({ rdy with can := vmod rdy.can 0 fun x => { x with phase := .errorActive, transfer := .blockWrite 0 0x2B00 2 4 0 0 false [] } } : State), 0, 0, [0, 0, 0, 0], 0, 3, 0x2B00, 2, 4, 0, [], [0, 0, 0, 0], (writeRequest (portOfCan 0) 0 0x2B00 2 [0, 0, 0, 0] ({ rdy with can := vmod rdy.can 0 fun x => { x with phase := .errorActive, transfer := .none, rxCnt := 1, reqCnt := 1 }, netLast := portOfCan 0 } : State)).1, (writeRequest (portOfCan 0) 0 0x2B00 2 [0, 0, 0, 0] ({ rdy with can := vmod rdy.can 0 fun x => { x with phase := .errorActive, transfer := .none, rxCnt := 1, reqCnt := 1 }, netLast := portOfCan 0 } : State)).2, by decide +kernel⟩,
   ⟨{ rdy with update.phase := .receiving, can := vmod rdy.can 0 fun x => { x with phase := .errorActive, transfer := .blockWrite 0 0x2E00 2 4 0 0 false [] } }, 0, 0, [0, 0, 0, 0], 0, 1, 0x2E00, 2, 4, 0, [], [0, 0, 0, 0], by decide +kernel⟩,
   ⟨{ rdy with can := vmod rdy.can 0 fun x => { x with phase := .errorActive, transfer := .blockRead 0 0 0 [] } }, 0, 0, [], [], 1, 0, 0, 1, by decide +kernel⟩,
   ⟨{ rdy with can := vmod rdy.can 0 fun x => { x with phase := .errorActive, transfer := .blockRead 0 0 0 [], disabling := false } }, 0, 0, [], [], 0, 0, 0, 1, by decide +kernel⟩,
   ⟨({ rdy with can := vmod rdy.can 0 fun x => { x with phase := .errorActive, transfer := .blockRead 0 0 0 [] } } : State), 0, 0, 0, 0, [], 0, 0, .noObject, respond 0 ⟨0x91, 0, 0, 0, []⟩ (.abort .transferReplaced) (setTransfer 0 .none ({ rdy with can := vmod rdy.can 0 fun x => { x with phase := .errorActive, transfer := .none, rxCnt := 1, reqCnt := 1 }, netLast := portOfCan 0 } : State)), by decide +kernel⟩,
   ⟨({ rdy with can := vmod rdy.can 0 fun x => { x with phase := .errorActive, transfer := .blockRead 0 0 0 [] } } : State), 0, 0, 0, 0, [], 0, 0, .noObject, respond 0 ⟨0x91, 0, 0, 0, []⟩ (.abort .transferReplaced) (setTransfer 0 .none ({ rdy with can := vmod rdy.can 0 fun x => { x with phase := .errorActive, transfer := .none, rxCnt := 1, reqCnt := 1 }, netLast := portOfCan 0 } : State)), by decide +kernel⟩,
   ⟨{ rdy with can := vmod rdy.can 0 fun x => { x with transfer := .none } }, 0, by decide +kernel⟩,
   ⟨{ rdy with can := vmod rdy.can 0 fun x => { x with transfer := .blockRead 0 0 0 [] } }, 0, by decide +kernel⟩,
   ⟨{ rdy with boot.phase := .starting }, by decide +kernel⟩,
   ⟨rdy, 0, 0, 0, errOf (checkWrite rdy 0 0 0), by decide +kernel⟩,
   ⟨rdy, 0, 0x3100, 1, [], okRow (checkWrite rdy 0 0x3100 1), by decide +kernel⟩,
   ⟨rdy, 0, 0x3100, 1, [0, 0], okRow (checkWrite rdy 0 0x3100 1), by decide +kernel⟩,
   ⟨rdy, 0, 0x2B00, 2, [0], okRow (checkWrite rdy 0 0x2B00 2), by decide +kernel⟩⟩

/-- Every clause of `Obligations.CrossBearingReportsDirectory` has a state and operands that meet its hypotheses. -/
theorem test_witness_CrossBearingReportsDirectory :
    (∃ (s : State), s.xb.pend = []) ∧
    (∃ (s : State) (b : _) (l : _), s.xb.pend = b :: l) ∧
    (∃ (s : State) (r : Fin 64), (rptRuns s r = false ∨ s.rptMode r ∉ [1, 3])) ∧
    (∃ (s : State) (r : Fin 64), (rptRuns s r = false ∨ s.rptMode r ∉ [2, 3] ∨ inhibitOver s r = false ∨ rptValues s r = s.reports[r].last)) ∧
    (∃ (s : State) (r : Fin 64) (c : Instr) (ch : Bool), rptRuns s r = true ∧ ((c = .reportPeriod r ∧ ch = false ∧
      s.rptMode r ∈ [1, 3]) ∨ (c = .reportChangeSample r ∧ ch = true ∧ s.rptMode r ∈ [2, 3] ∧ inhibitOver s r = true ∧
      rptValues s r ≠ s.reports[r].last))) ∧
    (∃ (s : State) (p : Port) (r : Fin 64) (v : Nat) (row : ObjRow), answering s = true ∧ checkWrite s p (0x2D40 + r) 0x01 = .ok row ∧ v % 256 ≠ 0 ∧
      mappingOk s r = false) ∧
    (∃ (s : State) (p : Port) (r : Fin 64) (v : Nat) (row : ObjRow), answering s = true ∧ checkWrite s p (0x2D40 + r) 0x01 = .ok row ∧ v % 256 ≠ 0 ∧
      mappingOk s r = true) ∧
    (∃ (s : State) (p : Port) (r : Fin 64) (v : Nat) (row : ObjRow), answering s = true ∧ checkWrite s p (0x2D40 + r) 0x01 = .ok row ∧ v % 256 = 0) ∧
    (∃ (s : State) (p : Port) (row : ObjRow) (v : Nat), answering s = true ∧ checkWrite s p 0x2001 5 = .ok row ∧ v ≠ 1) ∧
    (∃ (s : State) (p : Port) (row : ObjRow), answering s = true ∧ checkWrite s p 0x2001 5 = .ok row) :=
  ⟨⟨{ rdy with xb.pend := [] }, by decide +kernel⟩,
   ⟨{ rdy with xb.pend := [⟨0x2910, 1, 1, 0, [0]⟩] }, ⟨0x2910, 1, 1, 0, [0]⟩, [], by decide +kernel⟩,
   ⟨rdy, 0, by decide +kernel⟩,
   ⟨rdy, 0, by decide +kernel⟩,
   ⟨{ rdy with can := vmod rdy.can 3 fun x => { x with phase := .errorActive }, settings := [(0x2d7f01, 1)] }, 63, .reportPeriod 63, false, by decide +kernel⟩,
   ⟨{ rdy with settings := [(0x2d4004, 1)] }, 0, 0, 1, okRow (checkWrite ({ rdy with settings := [(0x2d4004, 1)] }) 0 (0x2D40 + 0) 0x01), by decide +kernel⟩,
   ⟨{ rdy with settings := [(0x2d4004, 1), (0x2d4005, 0x21040100)] }, 0, 0, 1, okRow (checkWrite ({ rdy with settings := [(0x2d4004, 1), (0x2d4005, 0x21040100)] }) 0 (0x2D40 + 0) 0x01), by decide +kernel⟩,
   ⟨rdy, 0, 0, 0, okRow (checkWrite rdy 0 (0x2D40 + 0) 0x01), by decide +kernel⟩,
   ⟨rdy, 0, okRow (checkWrite rdy 0 0x2001 5), 0, by decide +kernel⟩,
   ⟨rdy, 0, okRow (checkWrite rdy 0 0x2001 5), by decide +kernel⟩⟩

/-- Every clause of `Obligations.FirmwareUpdate` has a state and operands that meet its hypotheses. -/
theorem test_witness_FirmwareUpdate :
    (∃ (s : State) (p : Port) (h : List Byte) (row : ObjRow), answering s = true ∧ checkWrite s p 0x2E00 0x01 = .ok row ∧
      (h.length ≠ 256 ∨ (twOf p).isSome = true)) ∧
    (∃ (s : State) (p : Port) (h : List Byte) (row : ObjRow), answering s = true ∧ checkWrite s p 0x2E00 0x01 = .ok row ∧ h.length = 256 ∧
      twOf p = none ∧ (s.update.phase ∈ [.trial, .activating] ∨ (updRuns s.update.phase = true ∧ s.update.port ≠ p))) ∧
    (∃ (s : State) (p : Port) (h : List Byte) (row : ObjRow), answering s = true ∧ checkWrite s p 0x2E00 0x01 = .ok row ∧ h.length = 256 ∧
      twOf p = none ∧ (s.update.phase ∈ [.idle, .staged] ∨ updRuns s.update.phase = true ∧ s.update.port = p)) ∧
    (∃ (s : State), s.update.phase ≠ .wiping) ∧
    (∃ (s : State), s.update.phase = .wiping ∧ bankWaits s = true) ∧
    (∃ (s : State), s.update.phase = .wiping ∧ bankWaits s = false) ∧
    (∃ (s : State), (s.update.phase ≠ .receiving ∨ s.update.got.length ≤ s.update.written ∨ bankWaits s = true)) ∧
    (∃ (s : State), s.update.phase = .receiving ∧ s.update.written < s.update.got.length ∧ bankWaits s = false) ∧
    (∃ (s : State), (s.update.phase ≠ .receiving ∨ s.update.written ≠ payloadSize s.update.header)) ∧
    (∃ (s : State), s.update.phase = .receiving ∧ s.update.written = payloadSize s.update.header) ∧
    (∃ (s : State) (p : Port) (row : ObjRow), answering s = true ∧ checkWrite s p 0x2E00 0x03 = .ok row ∧ activateAllowed s = false) ∧
    (∃ (s : State) (p : Port) (row : ObjRow), answering s = true ∧ checkWrite s p 0x2E00 0x03 = .ok row ∧ activateAllowed s = true) ∧
    (∃ (s : State) (p : Port) (row : ObjRow), answering s = true ∧ checkWrite s p 0x2E00 0x03 = .ok row ∧ s.update.phase ≠ .trial) ∧
    (∃ (s : State) (p : Port) (row : ObjRow), answering s = true ∧ checkWrite s p 0x2E00 0x03 = .ok row ∧ s.update.phase = .trial) ∧
    (∃ (s : State) (p : Port) (row : ObjRow), answering s = true ∧ checkWrite s p 0x2E00 0x03 = .ok row ∧ (s.update.phase ∈ [.idle, .activating])) ∧
    (∃ (s : State) (p : Port) (row : ObjRow), answering s = true ∧ checkWrite s p 0x2E00 0x03 = .ok row ∧
      (s.update.phase ∈ [.wiping, .receiving, .staged])) ∧
    (∃ (s : State), s.update.phase ≠ .activating) ∧
    (∃ (s : State), s.update.phase = .activating) ∧
    (∃ (s : State) (e : Fin 18), enginePresent s e = false) ∧
    (∃ (s : State) (e : Fin 18), enginePresent s e = true ∧ s.update.phase ≠ .activating) ∧
    (∃ (s : State) (e : Fin 18), enginePresent s e = true ∧ s.update.phase = .activating ∧ s.boot.phase = .ready) ∧
    (∃ (s : State), s.update.phase ≠ .trial) ∧
    (∃ (s : State), s.update.phase = .trial) :=
  ⟨⟨rdy, 0, [], okRow (checkWrite rdy 0 0x2E00 0x01), by decide +kernel⟩,
   ⟨{ rdy with update.phase := .trial }, 0, List.replicate 256 0, okRow (checkWrite ({ rdy with update.phase := .trial }) 0 0x2E00 0x01), by decide +kernel⟩,
   ⟨{ rdy with update.phase := .idle }, 0, List.replicate 256 0, okRow (checkWrite ({ rdy with update.phase := .idle }) 0 0x2E00 0x01), by decide +kernel⟩,
   ⟨rdy, by decide +kernel⟩,
   ⟨{ rdy with update.phase := .wiping, nv.saveCopy := some 0 }, by decide +kernel⟩,
   ⟨{ rdy with update.phase := .wiping }, by decide +kernel⟩,
   ⟨{ rdy with nv.saveCopy := some 0 }, by decide +kernel⟩,
   ⟨{ rdy with update.phase := .receiving, update.got := [0] }, by decide +kernel⟩,
   ⟨rdy, by decide +kernel⟩,
   ⟨{ rdy with update.phase := .receiving, update.written := 0, update.header := List.replicate 256 0 }, by decide +kernel⟩,
   ⟨rdy, 0, okRow (checkWrite rdy 0 0x2E00 0x03), by decide +kernel⟩,
   ⟨{ rdy with update.phase := .staged }, 0, okRow (checkWrite ({ rdy with update.phase := .staged }) 0 0x2E00 0x03), by decide +kernel⟩,
   ⟨rdy, 0, okRow (checkWrite rdy 0 0x2E00 0x03), by decide +kernel⟩,
   ⟨{ rdy with update.phase := .trial }, 0, okRow (checkWrite ({ rdy with update.phase := .trial }) 0 0x2E00 0x03), by decide +kernel⟩,
   ⟨{ rdy with update.phase := .idle }, 0, okRow (checkWrite ({ rdy with update.phase := .idle }) 0 0x2E00 0x03), by decide +kernel⟩,
   ⟨{ rdy with update.phase := .wiping }, 0, okRow (checkWrite ({ rdy with update.phase := .wiping }) 0 0x2E00 0x03), by decide +kernel⟩,
   ⟨rdy, by decide +kernel⟩,
   ⟨{ rdy with update.phase := .activating }, by decide +kernel⟩,
   ⟨{ rdy with part := .qmn2402 }, 6, by decide +kernel⟩,
   ⟨rdy, 0, by decide +kernel⟩,
   ⟨{ rdy with update.phase := .activating, boot.phase := .ready }, 0, by decide +kernel⟩,
   ⟨rdy, by decide +kernel⟩,
   ⟨{ rdy with update.phase := .trial }, by decide +kernel⟩⟩

/-- Every clause of `Obligations.LifeCycleAdvance` has a state and operands that meet its hypotheses. -/
theorem test_witness_LifeCycleAdvance :
    (∃ (s : State) (p : Port) (v : Nat) (row : ObjRow), answering s = true ∧ checkWrite s p 0x2E10 0x02 = .ok row ∧
      (4 ≤ s.mram.lc ∨ v ≠ 0x4C430000 + s.mram.lc + 1 ∨ s.update.phase = .trial)) ∧
    (∃ (s : State) (p : Port) (v : Nat) (row : ObjRow), answering s = true ∧ checkWrite s p 0x2E10 0x02 = .ok row ∧ s.mram.lc < 4 ∧
      v = 0x4C430000 + s.mram.lc + 1 ∧ s.update.phase ≠ .trial) :=
  ⟨⟨rdy, 0, 0, okRow (checkWrite rdy 0 0x2E10 0x02), by decide +kernel⟩,
   ⟨rdy, 0, 0x4C430000 + rdy.mram.lc + 1, okRow (checkWrite rdy 0 0x2E10 0x02), by decide +kernel⟩⟩

/-- Every clause of `Obligations.StepRunsFront` has a state and operands that meet its hypotheses. -/
theorem test_witness_StepRunsFront :
    ∃ (s : State) (c : Instr) (l : List Instr), s.pending = c :: l :=
  ⟨{ rdy with pending := [.trialEnd] }, .trialEnd, [], by decide +kernel⟩

/-- Every clause of `Obligations.EmptyQueueTicks` has a state and operands that meet its hypotheses. -/
theorem test_witness_EmptyQueueTicks :
    (∃ (s : State), s.pending = [] ∧ s.boot.phase = .porHeld) ∧
    (∃ (s : State), s.pending = [] ∧ s.boot.phase ≠ .porHeld) ∧
    (∃ (s : State), s.pending = [] ∧ s.boot.phase ≠ .porHeld ∧ (∀ k : Fin 7, s.links[k].helm.waiting = [] ∧ s.links[k].rail.waiting = [] ∧
      s.links[k].reads = []) ∧ (∀ n : Fin 4, s.can[n].disabling = false) ∧ (∀ n : Fin 4, s.can[n].rxQueue = [])) ∧
    (∃ (s : State) (n : Fin 4) (q : NetReq) (l : List NetReq) (s0 : State) (t0 : State), s.pending = [] ∧ s.boot.phase ≠ .porHeld ∧ sysRuns s = true ∧
      (∀ j : Fin 4, s.can[j].disabling = false) ∧ (∀ j : Fin 4, j ≠ n → s.can[j].rxQueue = []) ∧ canTimingOk s n = true ∧ netReady s n = true ∧
      s.can[n].rxQueue = q :: l ∧ s0 = { s with can := vmod s.can n fun c => { c with rxQueue := [] } } ∧ step s0 = .next t0) :=
  ⟨⟨{ rdy with pending := [], boot.phase := .porHeld }, by decide +kernel⟩,
   ⟨{ rdy with pending := [] }, by decide +kernel⟩,
   ⟨{ rdy with pending := [] }, by decide +kernel⟩,
   ⟨({ rdy with can := vmod rdy.can 0 fun x => { x with phase := .errorActive, rxQueue := [.read 0 0 0] } } : State), 0, .read 0 0 0, [], ({ rdy with can := vmod rdy.can 0 fun x => { x with phase := .errorActive, rxQueue := [] } } : State), nx (step ({ rdy with can := vmod rdy.can 0 fun x => { x with phase := .errorActive, rxQueue := [] } } : State)), by and_intros <;> first | decide +kernel | rfl | exact Or.inl (by decide +kernel) | simp⟩⟩

/-- Every clause of `Obligations.StepsGoOnward` has a state and operands that meet its hypotheses. -/
theorem test_witness_StepsGoOnward :
    (∃ (s : State) (t : State), step s = .next t) ∧
    (∃ (s : State) (t : State), step s = .next t ∧ s.mram.lc ≤ 4) :=
  ⟨⟨rdy, nx (step rdy), by and_intros <;> first | decide +kernel | rfl | exact Or.inl (by decide +kernel) | simp⟩,
   ⟨rdy, nx (step rdy), by and_intros <;> first | decide +kernel | rfl | exact Or.inl (by decide +kernel) | simp⟩⟩

/-- Every clause of `Obligations.LifeCycleByObjectWritesOnly` has a state and operands that meet its hypotheses. -/
theorem test_witness_LifeCycleByObjectWritesOnly :
    ∃ (c : Instr) (s : State) (t : State), exec c s = .next t ∧ t.mram.lc ≠ s.mram.lc :=
  ⟨.lcAdvance 0 0x4C430001, rdy, nx (exec (.lcAdvance 0 0x4C430001) rdy), by and_intros <;> first | decide +kernel | rfl | exact Or.inl (by decide +kernel) | simp⟩

/-- Every clause of `Obligations.EveryCommandOfThePartCompletes` has a state and operands that meet its hypotheses. -/
theorem test_witness_EveryCommandOfThePartCompletes :
    ∃ (c : Instr) (s : State), c.wf s.part = true :=
  ⟨.thermalComparator, rdy, by decide +kernel⟩

/-- Every clause of `Obligations.AccessCheckOrder` has a state and operands that meet its hypotheses. -/
theorem test_witness_AccessCheckOrder :
    (∃ (s : State) (p : Port), (s.boot.odAnswering = false ∨ s.update.pause = true ∨ ∃ n, twOf p = some n ∧ s.tw[n].tun.phase = .busy)) ∧
    (∃ (s : State) (p : Port) (i : Nat) (u : Nat), accessBusy s p = false ∧ objFind s.part i u = none) ∧
    (∃ (s : State) (p : Port) (i : Nat) (u : Nat) (row : _), accessBusy s p = false ∧ objFind s.part i u = some row ∧ (row.acc ∈ [.ro, .const])) ∧
    (∃ (s : State) (p : Port) (i : Nat) (u : Nat) (row : _), accessBusy s p = false ∧ objFind s.part i u = some row ∧ row.acc = .wo) ∧
    (∃ (s : State) (p : Port) (i : Nat) (u : Nat) (row : _), accessBusy s p = false ∧ objFind s.part i u = some row ∧ (row.acc ∉ [.ro, .const]) ∧
      (roleMayWrite s p row.acc i u = false ∨ portBindOk p i u = false)) ∧
    (∃ (s : State) (p : Port) (i : Nat) (u : Nat) (row : _), accessBusy s p = false ∧ objFind s.part i u = some row ∧ (row.acc ∉ [.ro, .const]) ∧
      roleMayWrite s p row.acc i u = true ∧ portBindOk p i u = true) ∧
    (∃ (s : State) (p : Port) (i : Nat) (u : Nat) (row : _), accessBusy s p = false ∧ objFind s.part i u = some row ∧ row.acc ≠ .wo ∧
      (linkBusy s i u = false ∨ ∀ k, objDie i = some k → s.devTime < s.links[k].downAt + 200)) ∧
    (∃ (s : State) (p : Port) (i : Nat) (u : Nat) (row : _) (k : _), accessBusy s p = false ∧ objFind s.part i u = some row ∧ row.acc ≠ .wo ∧
      objDie i = some k ∧ u ≠ 0 ∧ s.links[k].phase ≠ .up ∧ s.links[k].downAt + 200 ≤ s.devTime) ∧
    (∃ (s : State) (p : Port) (i : Nat) (u : Nat) (row : _) (k : _), accessBusy s p = false ∧ objFind s.part i u = some row ∧ row.acc ≠ .wo ∧
      objDie i = some k ∧ u ≠ 0 ∧ s.links[k].phase ≠ .up) ∧
    (∃ (s : State) (i : Nat) (k : Fin 7), objDie i = some k ∧ s.part.dies ≤ k.val) :=
  ⟨⟨{ rdy with boot.odAnswering := false }, 0, by decide +kernel⟩,
   ⟨rdy, 0, 0, 0, by decide +kernel⟩,
   ⟨rdy, 0, 0x2104, 1, (objFind rdy.part 0x2104 1).getD noRow, by decide +kernel⟩,
   ⟨rdy, 0, 0x2105, 1, (objFind rdy.part 0x2105 1).getD noRow, by decide +kernel⟩,
   ⟨rdy, 1, 0x3100, 1, (objFind rdy.part 0x3100 1).getD noRow, by decide +kernel⟩,
   ⟨rdy, 0, 0x3100, 1, (objFind rdy.part 0x3100 1).getD noRow, by decide +kernel⟩,
   ⟨rdy, 0, 0x3000, 1, (objFind rdy.part 0x3000 1).getD noRow, by decide +kernel⟩,
   ⟨{ rdy with devTime := 200, links := vmod rdy.links 0 fun x => { x with phase := .down, downAt := 0 } }, 0, 0x3000, 1, (objFind ({ rdy with devTime := 200, links := vmod rdy.links 0 fun x => { x with phase := .down, downAt := 0 } }).part 0x3000 1).getD noRow, 0, by decide +kernel⟩,
   ⟨{ rdy with links := vmod rdy.links 0 fun x => { x with phase := .down } }, 0, 0x3000, 1, (objFind ({ rdy with links := vmod rdy.links 0 fun x => { x with phase := .down } }).part 0x3000 1).getD noRow, 0, by decide +kernel⟩,
   ⟨{ rdy with part := .qmn2402 }, 0x3004, 1, by decide +kernel⟩⟩

/-- Every clause of `Obligations.RefusedAccessesChangeNothing` has a state and operands that meet its hypotheses. -/
theorem test_witness_RefusedAccessesChangeNothing :
    (∃ (s : State) (p : Port) (n : Fin 4) (m : Fin 8) (r : Fin 28) (q : Fin 64) (e : Fin 128) (v : Nat) (i : Nat) (u : Nat) (bs : List Byte) (c : Instr) (idx : Nat) (sub : Nat), ((c, idx, sub) ∈ [ (.pwrStateReqRun p, 0x2108, 2), (.pwrStateReqDoze p, 0x2108, 2), (.pwrStateReqPark p, 0x2108, 2), (.resetCmd p v, 0x2105, 1), (.zinEnSet p n, 0x2210 + n.val, 1), (.zinEnClear p n, 0x2210 + n.val, 1), (.zinClear p n v, 0x2210 + n.val, 0x10), (.foClear p m v, 0x2220 + m.val, 0x0B), (.loopCommit p r v, 0x3000 + r.val, 9), (.railVsetWrite p r v, 0x3100 + r.val, 1), (.phmDisable p r, 0x3100 + r.val, 0x0F), (.fcReqWrite p r v, 0x3100 + r.val, 0x1C), (.trimDisable p r, 0x3100 + r.val, 0x1F), (.stepAlarmDisable p r, 0x3100 + r.val, 0x0A), (.railFclr p r v, 0x3200 + r.val, 0x0D), (.groupUpCmd p m, 0x2410 + m.val, 3), (.groupDownCmd p m, 0x2410 + m.val, 3), (.rstoForce p n v, 0x2420 + n.val, 4), (.srcAnncWrite p n v, 0x2703, n.val + 1), (.chgEnSet p, 0x2701, 1), (.chgEnClear p, 0x2701, 1), (.ggNewpack p v, 0x2711, 0x0F), (.outingStartCmd p, 0x2711, 0x0B), (.outingEndCmd p, 0x2711, 0x0B), (.ggAlmTablesWrite p bs, 0x2712, 1), (.cfgSave p v, 0x2801, 1), (.hcImageWrite p bs, 0x2802, 1), (.hcLock p v, 0x2802, 2), (.hkScanDisable p, 0x2900, 1), (.hkCalCmd p v, 0x2900, 5), (.hkRefSelWrite p v, 0x2900, 3), (.throttleDisable p, 0x2910, 1), (.wdEnable p v, 0x2A10, 1), (.logFclr p v, 0x2A20, 4), (.evcRouteWrite p e v, 0x2C10, e.val + 1), (.evcGdisWrite p v, 0x2C00, 1), (.canEnClear p n, 0x2D00 + n.val, 1), (.canBoffRec p n v, 0x2D00 + n.val, 0x18), (.rptModeWrite p q v, 0x2D40 + q.val, 1), (.updateHeaderCheck p bs, 0x2E00, 1), (.updActivate p, 0x2E00, 3), (.updConfirm p, 0x2E00, 3), (.updAbandon p, 0x2E00, 3), (.lcAdvance p v, 0x2E10, 2), (.odDirStep p v, 0x2001, 5), (.objectWrite p i u bs, i, u)]) ∧
      answering s = false) ∧
    (∃ (s : State) (p : Port) (n : Fin 4) (m : Fin 8) (r : Fin 28) (q : Fin 64) (e : Fin 128) (v : Nat) (i : Nat) (u : Nat) (bs : List Byte) (c : Instr) (idx : Nat) (sub : Nat) (x : _), ((c, idx, sub) ∈ [ (.pwrStateReqRun p, 0x2108, 2), (.pwrStateReqDoze p, 0x2108, 2), (.pwrStateReqPark p, 0x2108, 2), (.resetCmd p v, 0x2105, 1), (.zinEnSet p n, 0x2210 + n.val, 1), (.zinEnClear p n, 0x2210 + n.val, 1), (.zinClear p n v, 0x2210 + n.val, 0x10), (.foClear p m v, 0x2220 + m.val, 0x0B), (.loopCommit p r v, 0x3000 + r.val, 9), (.railVsetWrite p r v, 0x3100 + r.val, 1), (.phmDisable p r, 0x3100 + r.val, 0x0F), (.fcReqWrite p r v, 0x3100 + r.val, 0x1C), (.trimDisable p r, 0x3100 + r.val, 0x1F), (.stepAlarmDisable p r, 0x3100 + r.val, 0x0A), (.railFclr p r v, 0x3200 + r.val, 0x0D), (.groupUpCmd p m, 0x2410 + m.val, 3), (.groupDownCmd p m, 0x2410 + m.val, 3), (.rstoForce p n v, 0x2420 + n.val, 4), (.srcAnncWrite p n v, 0x2703, n.val + 1), (.chgEnSet p, 0x2701, 1), (.chgEnClear p, 0x2701, 1), (.ggNewpack p v, 0x2711, 0x0F), (.outingStartCmd p, 0x2711, 0x0B), (.outingEndCmd p, 0x2711, 0x0B), (.ggAlmTablesWrite p bs, 0x2712, 1), (.cfgSave p v, 0x2801, 1), (.hcImageWrite p bs, 0x2802, 1), (.hcLock p v, 0x2802, 2), (.hkScanDisable p, 0x2900, 1), (.hkCalCmd p v, 0x2900, 5), (.hkRefSelWrite p v, 0x2900, 3), (.throttleDisable p, 0x2910, 1), (.wdEnable p v, 0x2A10, 1), (.logFclr p v, 0x2A20, 4), (.evcRouteWrite p e v, 0x2C10, e.val + 1), (.evcGdisWrite p v, 0x2C00, 1), (.canEnClear p n, 0x2D00 + n.val, 1), (.canBoffRec p n v, 0x2D00 + n.val, 0x18), (.rptModeWrite p q v, 0x2D40 + q.val, 1), (.updateHeaderCheck p bs, 0x2E00, 1), (.updActivate p, 0x2E00, 3), (.updConfirm p, 0x2E00, 3), (.updAbandon p, 0x2E00, 3), (.lcAdvance p v, 0x2E10, 2), (.odDirStep p v, 0x2001, 5), (.objectWrite p i u bs, i, u)]) ∧
      answering s = true ∧ checkWrite s p idx sub = .error x) ∧
    (∃ (s : State) (p : Port) (n : Fin 4) (m : Fin 8) (r : Fin 28) (q : Fin 64) (e : Fin 128) (v : Nat) (i : Nat) (u : Nat) (bs : List Byte) (c : Instr) (idx : Nat) (sub : Nat) (x : _), ((c, idx, sub) ∈ [ (.pwrStateReqRun p, 0x2108, 2), (.pwrStateReqDoze p, 0x2108, 2), (.pwrStateReqPark p, 0x2108, 2), (.resetCmd p v, 0x2105, 1), (.zinEnSet p n, 0x2210 + n.val, 1), (.zinEnClear p n, 0x2210 + n.val, 1), (.zinClear p n v, 0x2210 + n.val, 0x10), (.foClear p m v, 0x2220 + m.val, 0x0B), (.loopCommit p r v, 0x3000 + r.val, 9), (.railVsetWrite p r v, 0x3100 + r.val, 1), (.phmDisable p r, 0x3100 + r.val, 0x0F), (.fcReqWrite p r v, 0x3100 + r.val, 0x1C), (.trimDisable p r, 0x3100 + r.val, 0x1F), (.stepAlarmDisable p r, 0x3100 + r.val, 0x0A), (.railFclr p r v, 0x3200 + r.val, 0x0D), (.groupUpCmd p m, 0x2410 + m.val, 3), (.groupDownCmd p m, 0x2410 + m.val, 3), (.rstoForce p n v, 0x2420 + n.val, 4), (.srcAnncWrite p n v, 0x2703, n.val + 1), (.chgEnSet p, 0x2701, 1), (.chgEnClear p, 0x2701, 1), (.ggNewpack p v, 0x2711, 0x0F), (.outingStartCmd p, 0x2711, 0x0B), (.outingEndCmd p, 0x2711, 0x0B), (.ggAlmTablesWrite p bs, 0x2712, 1), (.cfgSave p v, 0x2801, 1), (.hcImageWrite p bs, 0x2802, 1), (.hcLock p v, 0x2802, 2), (.hkScanDisable p, 0x2900, 1), (.hkCalCmd p v, 0x2900, 5), (.hkRefSelWrite p v, 0x2900, 3), (.throttleDisable p, 0x2910, 1), (.wdEnable p v, 0x2A10, 1), (.logFclr p v, 0x2A20, 4), (.evcRouteWrite p e v, 0x2C10, e.val + 1), (.evcGdisWrite p v, 0x2C00, 1), (.canEnClear p n, 0x2D00 + n.val, 1), (.canBoffRec p n v, 0x2D00 + n.val, 0x18), (.rptModeWrite p q v, 0x2D40 + q.val, 1), (.updateHeaderCheck p bs, 0x2E00, 1), (.updActivate p, 0x2E00, 3), (.updConfirm p, 0x2E00, 3), (.updAbandon p, 0x2E00, 3), (.lcAdvance p v, 0x2E10, 2), (.odDirStep p v, 0x2001, 5), (.objectWrite p i u bs, i, u)]) ∧
      answering s = true ∧ checkRead s p 0x2701 0x11 = .error x) :=
  ⟨⟨{ rdy with boot.phase := .starting }, 1, 0, 0, 0, 0, 0, 0, 0x2B00, 2, [], .objectWrite 1 0x2B00 2 [], 0x2B00, 2, by decide +kernel⟩,
   ⟨rdy, 1, 0, 0, 0, 0, 0, 0, 0x2B00, 2, [], .objectWrite 1 0x2B00 2 [], 0x2B00, 2, .role, by decide +kernel⟩,
   ⟨{ rdy with update.pause := true }, 1, 0, 0, 0, 0, 0, 0, 0x2B00, 2, [], .objectWrite 1 0x2B00 2 [], 0x2B00, 2, .busy, by decide +kernel⟩⟩

/-- Every clause of `Obligations.NewerSequence` has a state and operands that meet its hypotheses. -/
theorem test_witness_NewerSequence :
    ∃ (a : Nat) (b : Nat), a < 2 ^ 32 ∧ b < 2 ^ 32 :=
  ⟨0, 0, by decide +kernel⟩

/-- Every clause of `Obligations.GlobalNumbers` has a state and operands that meet its hypotheses. -/
theorem test_witness_GlobalNumbers :
    (∃ (k : Fin 7) (j : Fin 7), j.val = k.val) ∧
    (∃ (k : Fin 7) (j : Fin 7), j.val = k.val) :=
  ⟨⟨0, 0, by decide +kernel⟩,
   ⟨0, 0, by decide +kernel⟩⟩

/-- Every clause of `Obligations.SameTargetChangesNothing` has a state and operands that meet its hypotheses. -/
theorem test_witness_SameTargetChangesNothing :
    (∃ (s : State) (r : Fin 28) (mv : Nat), cmdBlocked s r = false ∧ s.rails[r].dyn.src ≠ 0 ∧ s.rails[r].dyn.target = railTarget s r mv) ∧
    (∃ (s : State) (r : Fin 28) (mv : Nat) (p : Port) (row : ObjRow), cmdBlocked s r = false ∧ s.rails[r].dyn.src ≠ 0 ∧
      s.rails[r].dyn.target = railTarget s r mv ∧ answering s = true ∧ checkWrite s p (0x3100 + r) 0x01 = .ok row ∧ trimHolds s r = false ∧
      s.links[railDie r].phase = .up ∧ s.links[railDie r].helm.waiting = []) :=
  ⟨⟨({ rdy with rails := vmod rdy.rails 0 fun x => { x with enabled := true, dyn.src := 1, dyn.target := railTarget rdy 0 1000 } } : State), 0, 1000, by decide +kernel⟩,
   ⟨({ rdy with rails := vmod rdy.rails 0 fun x => { x with enabled := true, dyn.src := 1, dyn.target := railTarget rdy 0 1000 } } : State), 0, 1000, 0, okRow (checkWrite ({ rdy with rails := vmod rdy.rails 0 fun x => { x with enabled := true, dyn.src := 1, dyn.target := railTarget rdy 0 1000 } } : State) 0 0x3100 1), by decide +kernel⟩⟩

/-- Every clause of `Obligations.MissedDeadlineResets` has a state and operands that meet its hypotheses. -/
theorem test_witness_MissedDeadlineResets :
    ∃ (s : State) (e : Fin 18), e ≠ 1 ∧ enginePresent s e = true ∧ s.ewd.running = true ∧ ewdSuspended s e = false ∧
      (s.boot.phase ∈ [.strapWait, .selfTest, .starting, .ready]) :=
  ⟨{ rdy with ewd.running := true, boot.phase := .strapWait }, 0, by decide +kernel⟩

/-- Every clause of `Obligations.ResponsesArePadded` has a state and operands that meet its hypotheses. -/
theorem test_witness_ResponsesArePadded :
    ∃ (s : State) (n : Fin 4) (w : PendResp) (a : Ack) (d : List Byte) (res : Nat), canSends s n = true ∧ s.can[n].disabling = false ∧ d.length ≤ 56 ∧
      ((a = .done ∧ d = w.data ∧ res = 0) ∨ (a = .value d ∧ res = 0) ∨ (a = .pending ∧ d = [] ∧ res = 2) ∨ (∃ c : AbortCode, a = .abort c ∧
      d = leBytes 4 c.num ∧ res = 1)) :=
  ⟨{ rdy with can := vmod rdy.can 0 fun x => { x with phase := .errorActive, disabling := false } }, 0, ⟨0x81, 0, 0, 0, []⟩, .pending, [], 2, by and_intros <;> first | decide +kernel | rfl | exact Or.inl (by decide +kernel) | simp⟩
end Sys2Proof.Tests
end

namespace Sys2Proof.Proofs

open Sys2Proof.Machine Sys2Proof.Laws

/-! ### What a step keeps: the commands that write it, and the legal life-cycle states (R542) -/

/-- The commands that can write what `kept` reads: those that can end in a write of the dictionary, and those that write the
Hamper's bytes, the fuses or the lock word. -/
def writesKept : Instr → Bool
  | .hamperAccess _ _ | .linkTelemetry _ _ _ _ _ | .vauxPowerOnReset | .hamperSelfTestEnd _ _ | .hcLock _ _ | .holdUpSaveEnd _
  | .hucapPowerOnReset _ | .tamper | .throttleDisable _ | .registerWrite _ _ _ _ | .tunCmdWrite _ _ | .read _ _ _ _
  | .write _ _ _ _ _ | .blockWriteInit _ _ _ _ _ | .segment _ _ _ _ _ | .blockReadInit _ _ _ _ | .blockRequest _ _ _
  | .malformed _ _ _ | .lcAdvance _ _ | .objectWrite _ _ _ _ => true
  | _ => false

theorem exec_keeps (c : Instr) (s : State) (h : writesKept c = false) : Keeps (exec c s) s :=
  match c, h with
  | .lockstepMismatch word, _ => execLockstepMismatch_kept word s
  | .sysClockCheck kHz, _ => execSysClockCheck_kept kHz s
  | .rsysClockCheck k kHz, _ => execRsysClockCheck_kept k kHz s
  | .crystalStartTimeout, _ => execCrystalStartTimeout_kept s
  | .canPllLockLoss, _ => execCanPllLockLoss_kept s
  | .canClockGood, _ => execCanClockGood_kept s
  | .backgroundScrub ecc, _ => execBackgroundScrub_kept ecc s
  | .linkFrameBad k recv body crc, _ => execLinkFrameBad_kept k recv body crc s
  | .linkNak k recv seq, _ => execLinkNak_kept k recv seq s
  | .linkIdle k recv ack, _ => execLinkIdle_kept k recv ack s
  | .linkAckTimeout k sender, _ => execLinkAckTimeout_kept k sender s
  | .linkCommand k seq ack c, _ => execLinkCommand_kept k seq ack c s
  | .linkEvent k seq ack source cause, _ => execLinkEvent_kept k seq ack source cause s
  | .linkObjWrite k seq ack tag obj sub value, _ => execLinkObjWrite_kept k seq ack tag obj sub value s
  | .linkObjRead k seq ack tag obj sub, _ => execLinkObjRead_kept k seq ack tag obj sub s
  | .linkObjData k seq ack tag obj sub value, _ => execLinkObjData_kept k seq ack tag obj sub value s
  | .linkDown k, _ => execLinkDown_kept k s
  | .linkRetrained k, _ => execLinkRetrained_kept k s
  | .demandLaneFail g k, _ => execDemandLaneFail_kept g k s
  | .laneParityError g k, _ => execLaneParityError_kept g k s
  | .packageFaultLineAssert, _ => execPackageFaultLineAssert_kept s
  | .stageFault k, _ => execStageFault_kept k s
  | .disableBoundaryReached f, _ => execDisableBoundaryReached_kept f s
  | .strapSample a b c, _ => execStrapSample_kept a b c s
  | .vdrLow k, _ => execVdrLow_kept k s
  | .vdrRestored k, _ => execVdrRestored_kept k s
  | .powerOnResetRelease, _ => execPowerOnResetRelease_kept s
  | .objectDictionaryReady units, _ => execObjectDictionaryReady_kept units s
  | .pwrStateReqRun p, _ => execPwrStateReqRun_kept p s
  | .pwrStateReqDoze p, _ => execPwrStateReqDoze_kept p s
  | .pwrStateReqPark p, _ => execPwrStateReqPark_kept p s
  | .dozeEntry, _ => execDozeEntry_kept s
  | .sysStop, _ => execSysStop_kept s
  | .wake sources, _ => execWake_kept sources s
  | .wakeTimerExpire, _ => execWakeTimerExpire_kept s
  | .oldChartWakeLatch source, _ => execOldChartWakeLatch_kept source s
  | .resetPinRecognised, _ => execResetPinRecognised_kept s
  | .resetPinRise, _ => execResetPinRise_kept s
  | .resetCmd p value, _ => execResetCmd_kept p value s
  | .resetEnd, _ => execResetEnd_kept s
  | .skReadoptionDeadline r, _ => execSkReadoptionDeadline_kept r s
  | .skHardwareTimeout k, _ => execSkHardwareTimeout_kept k s
  | .zinWindowEnter n, _ => execZinWindowEnter_kept n s
  | .zinWindowExit n, _ => execZinWindowExit_kept n s
  | .zbusWindowEnter, _ => execZbusWindowEnter_kept s
  | .zbusWindowExit, _ => execZbusWindowExit_kept s
  | .insertionDelayExpire c nearBus, _ => execInsertionDelayExpire_kept c nearBus s
  | .retryTimerExpire c nearBus, _ => execRetryTimerExpire_kept c nearBus s
  | .inrushComplete c, _ => execInrushComplete_kept c s
  | .limitEnter c sense, _ => execLimitEnter_kept c sense s
  | .limitRelease c, _ => execLimitRelease_kept c s
  | .limitTimerExpire c, _ => execLimitTimerExpire_kept c s
  | .fastTrip c sense, _ => execFastTrip_kept c sense s
  | .absoluteTrip c, _ => execAbsoluteTrip_kept c s
  | .reverseDetected n, _ => execReverseDetected_kept n s
  | .forwardDetected n, _ => execForwardDetected_kept n s
  | .zinEnSet p n, _ => execZinEnSet_kept p n s
  | .zinEnClear p n, _ => execZinEnClear_kept p n s
  | .zinClear p n value, _ => execZinClear_kept p n value s
  | .foClear p n value, _ => execFoClear_kept p n value s
  | .normalOperationTimer c, _ => execNormalOperationTimer_kept c s
  | .coldStartQualify n, _ => execColdStartQualify_kept n s
  | .coldStartLimitTimeout n, _ => execColdStartLimitTimeout_kept n s
  | .coldStartBandExit n, _ => execColdStartBandExit_kept n s
  | .foGateOff n, _ => execFoGateOff_kept n s
  | .presenceLost n, _ => execPresenceLost_kept n s
  | .presenceDetected n, _ => execPresenceDetected_kept n s
  | .pfwThreshold, _ => execPfwThreshold_kept s
  | .pfwSlopeSample code, _ => execPfwSlopeSample_kept code s
  | .pfwRelease, _ => execPfwRelease_kept s
  | .loopCommit p r value, _ => execLoopCommit_kept p r value s
  | .rotationEpoch r m, _ => execRotationEpoch_kept r m s
  | .balanceUpdate r, _ => execBalanceUpdate_kept r s
  | .balanceAverageTimeout g k, _ => execBalanceAverageTimeout_kept g k s
  | .gangChangeRequest g change, _ => execGangChangeRequest_kept g change s
  | .gangChangeAck g k, _ => execGangChangeAck_kept g k s
  | .gangAckTimeout g, _ => execGangAckTimeout_kept g s
  | .followerEpochStrobe g k ns, _ => execFollowerEpochStrobe_kept g k ns s
  | .followerReaddStrobe g k ns, _ => execFollowerReaddStrobe_kept g k ns s
  | .syncStrobeLoss g k, _ => execSyncStrobeLoss_kept g k s
  | .followerHoldEnd g k, _ => execFollowerHoldEnd_kept g k s
  | .railVsetWrite p r mv, _ => execRailVsetWrite_kept p r mv s
  | .vsetWindowWrite h j mv, _ => execVsetWindowWrite_kept h j mv s
  | .slewTargetReached r, _ => execSlewTargetReached_kept r s
  | .transitionQualified r, _ => execTransitionQualified_kept r s
  | .stepAlarmAssert r, _ => execStepAlarmAssert_kept r s
  | .stepAlarmRelease r, _ => execStepAlarmRelease_kept r s
  | .stepTmaxExpire r, _ => execStepTmaxExpire_kept r s
  | .shedDwellExpire r, _ => execShedDwellExpire_kept r s
  | .shedStart r m, _ => execShedStart_kept r m s
  | .shedComplete r m, _ => execShedComplete_kept r m s
  | .addThreshold r mA, _ => execAddThreshold_kept r mA s
  | .readdEpoch r m, _ => execReaddEpoch_kept r m s
  | .shedHoldoffExpire r, _ => execShedHoldoffExpire_kept r s
  | .phmDisable p r, _ => execPhmDisable_kept p r s
  | .hintPinEdge h, _ => execHintPinEdge_kept h s
  | .fcWindowWrite h j value, _ => execFcWindowWrite_kept h j value s
  | .fcReqWrite p r value, _ => execFcReqWrite_kept p r value s
  | .forecastDeadline r, _ => execForecastDeadline_kept r s
  | .forecastInhibitEnd r, _ => execForecastInhibitEnd_kept r s
  | .trimPeriod r, _ => execTrimPeriod_kept r s
  | .trimFreeze r, _ => execTrimFreeze_kept r s
  | .trimDisable p r, _ => execTrimDisable_kept p r s
  | .stepAlarmDisable p r, _ => execStepAlarmDisable_kept p r s
  | .ovAbsTrip r vsense, _ => execOvAbsTrip_kept r vsense s
  | .ovTrackingTrip r vsense, _ => execOvTrackingTrip_kept r vsense s
  | .pgWindowChange r vsense, _ => execPgWindowChange_kept r vsense s
  | .uvTimerExpire r, _ => execUvTimerExpire_kept r s
  | .ocCondition r k mA, _ => execOcCondition_kept r k mA s
  | .ocTimerExpire r, _ => execOcTimerExpire_kept r s
  | .valleyLimit ph mA, _ => execValleyLimit_kept ph mA s
  | .pgQualified r, _ => execPgQualified_kept r s
  | .pgHoldEnd r, _ => execPgHoldEnd_kept r s
  | .railFclr p r value, _ => execRailFclr_kept p r value s
  | .groupUpCmd p g, _ => execGroupUpCmd_kept p g s
  | .groupDownCmd p g, _ => execGroupDownCmd_kept p g s
  | .groupInputQualified g, _ => execGroupInputQualified_kept g s
  | .groupInputLost g, _ => execGroupInputLost_kept g s
  | .stepDelayEnd g, _ => execStepDelayEnd_kept g s
  | .itemQualified i0, _ => execItemQualified_kept i0 s
  | .itemPgFall i0, _ => execItemPgFall_kept i0 s
  | .stepTimeout g retried, _ => execStepTimeout_kept g retried s
  | .itemOff i0, _ => execItemOff_kept i0 s
  | .shutdownStepTimeout g, _ => execShutdownStepTimeout_kept g s
  | .minOffEnd g, _ => execMinOffEnd_kept g s
  | .itemRetryDelayEnd i0, _ => execItemRetryDelayEnd_kept i0 s
  | .itemNormalTimer i0, _ => execItemNormalTimer_kept i0 s
  | .enPinFall r, _ => execEnPinFall_kept r s
  | .enPinRise r, _ => execEnPinRise_kept r s
  | .regCurrentLimitFault n, _ => execRegCurrentLimitFault_kept n s
  | .buckOverVoltage n, _ => execBuckOverVoltage_kept n s
  | .regPgChange n inWindow, _ => execRegPgChange_kept n inWindow s
  | .regPgLostTimeout n, _ => execRegPgLostTimeout_kept n s
  | .rstoConditionsEnd n, _ => execRstoConditionsEnd_kept n s
  | .rstoStretchEnd n, _ => execRstoStretchEnd_kept n s
  | .rstoForce p n value, _ => execRstoForce_kept p n value s
  | .rstoPulseEnd n, _ => execRstoPulseEnd_kept n s
  | .serviceQualified, _ => execServiceQualified_kept s
  | .serviceWindowExit, _ => execServiceWindowExit_kept s
  | .srcAnncWrite p n value, _ => execSrcAnncWrite_kept p n value s
  | .srcAnncTimeout n, _ => execSrcAnncTimeout_kept n s
  | .sourceTypeChange, _ => execSourceTypeChange_kept s
  | .chargerControlCycle m, _ => execChargerControlCycle_kept m s
  | .lbusGoodRise, _ => execLbusGoodRise_kept s
  | .lbusGoodFall, _ => execLbusGoodFall_kept s
  | .chgEnSet p, _ => execChgEnSet_kept p s
  | .chgEnClear p, _ => execChgEnClear_kept p s
  | .chargeStartConditions temp vpkp, _ => execChargeStartConditions_kept temp vpkp s
  | .chgHbDelayEnd, _ => execChgHbDelayEnd_kept s
  | .prechargeDone, _ => execPrechargeDone_kept s
  | .prechargeTimeout, _ => execPrechargeTimeout_kept s
  | .chargeTerminationSample v temp currents, _ => execChargeTerminationSample_kept v temp currents s
  | .chargeBackstop v temp swOc, _ => execChargeBackstop_kept v temp swOc s
  | .packRemoval sign, _ => execPackRemoval_kept sign s
  | .chgFaultRead p, _ => execChgFaultRead_kept p s
  | .sourceLost zbus, _ => execSourceLost_kept zbus s
  | .handOverMakeDone, _ => execHandOverMakeDone_kept s
  | .handOverBreakDone t, _ => execHandOverBreakDone_kept t s
  | .handBackStart zbus, _ => execHandBackStart_kept zbus s
  | .handBackComplete, _ => execHandBackComplete_kept s
  | .gaugeEstimate vpkp ppI temp, _ => execGaugeEstimate_kept vpkp ppI temp s
  | .restQualified, _ => execRestQualified_kept s
  | .gaugeStart vpkp closed, _ => execGaugeStart_kept vpkp closed s
  | .learnFullWaitLapse, _ => execLearnFullWaitLapse_kept s
  | .ggNewpack p value, _ => execGgNewpack_kept p value s
  | .outingStartCmd p, _ => execOutingStartCmd_kept p s
  | .outingEndCmd p, _ => execOutingEndCmd_kept p s
  | .outingTimeout, _ => execOutingTimeout_kept s
  | .ggAlmTablesWrite p bytes, _ => execGgAlmTablesWrite_kept p bytes s
  | .writeBackTimer, _ => execWriteBackTimer_kept s
  | .almanacWriteBackDone ok, _ => execAlmanacWriteBackDone_kept ok s
  | .cfgSave p value, _ => execCfgSave_kept p value s
  | .configCopyWritten ok, _ => execConfigCopyWritten_kept ok s
  | .hcImageWrite p bytes, _ => execHcImageWrite_kept p bytes s
  | .journalAppend, _ => execJournalAppend_kept s
  | .holdUpEntry hucap, _ => execHoldUpEntry_kept hucap s
  | .hkConversionEnd ch slice raw vref, _ => execHkConversionEnd_kept ch slice raw vref s
  | .hkSlowRound raws vref, _ => execHkSlowRound_kept raws vref s
  | .hkScanDisable p, _ => execHkScanDisable_kept p s
  | .hkCalCmd p value, _ => execHkCalCmd_kept p value s
  | .selfCalibrationDone gain ofs, _ => execSelfCalibrationDone_kept gain ofs s
  | .backgroundCalibration slice gain ofs, _ => execBackgroundCalibration_kept slice gain ofs s
  | .hkRefSelWrite p value, _ => execHkRefSelWrite_kept p value s
  | .refSettlingEnd, _ => execRefSettlingEnd_kept s
  | .roSample die temps, _ => execRoSample_kept die temps s
  | .thermalComparator, _ => execThermalComparator_kept s
  | .throttleEvaluation, _ => execThrottleEvaluation_kept s
  | .wdEnable p value, _ => execWdEnable_kept p value s
  | .wdWindowClose, _ => execWdWindowClose_kept s
  | .wdAnswer p n token tick, _ => execWdAnswer_kept p n token tick s
  | .wdCheckin p n task, _ => execWdCheckin_kept p n task s
  | .wdCycleEnd, _ => execWdCycleEnd_kept s
  | .engineService e, _ => execEngineService_kept e s
  | .engineWatchdogExpire e, _ => execEngineWatchdogExpire_kept e s
  | .engineSuspensionEnd, _ => execEngineSuspensionEnd_kept s
  | .logbookEntry code die src detail, _ => execLogbookEntry_kept code die src detail s
  | .logFclr p value, _ => execLogFclr_kept p value s
  | .twReadAddress n len, _ => execTwReadAddress_kept n len s
  | .twWritePointer n ptr, _ => execTwWritePointer_kept n ptr s
  | .claim n, _ => execClaim_kept n s
  | .complete n src, _ => execComplete_kept n src s
  | .twErrRead n, _ => execTwErrRead_kept n s
  | .tunCmdRead n, _ => execTunCmdRead_kept n s
  | .tunnelDone n, _ => execTunnelDone_kept n s
  | .twBusIdle n, _ => execTwBusIdle_kept n s
  | .twStartInTransfer n, _ => execTwStartInTransfer_kept n s
  | .twNotify n, _ => execTwNotify_kept n s
  | .twNotifyRepeat n, _ => execTwNotifyRepeat_kept n s
  | .twNotifyNack n, _ => execTwNotifyNack_kept n s
  | .twArbitrationLost n, _ => execTwArbitrationLost_kept n s
  | .twControllerBusError n, _ => execTwControllerBusError_kept n s
  | .twLineStuck n sda, _ => execTwLineStuck_kept n sda s
  | .twWedged n, _ => execTwWedged_kept n s
  | .eventSourceEdge slot, _ => execEventSourceEdge_kept slot s
  | .eventLevelChange slot holds, _ => execEventLevelChange_kept slot holds s
  | .evcRouteWrite p slot value, _ => execEvcRouteWrite_kept p slot value s
  | .evcGdisWrite p value, _ => execEvcGdisWrite_kept p value s
  | .canPortStart n, _ => execCanPortStart_kept n s
  | .canEnClear p n, _ => execCanEnClear_kept p n s
  | .canBusOff n, _ => execCanBusOff_kept n s
  | .canBoffRec p n value, _ => execCanBoffRec_kept p n value s
  | .canRecoveryDone n, _ => execCanRecoveryDone_kept n s
  | .transferTimeout n, _ => execTransferTimeout_kept n s
  | .xbearTimeout, _ => execXbearTimeout_kept s
  | .heartbeat n, _ => execHeartbeat_kept n s
  | .peerHeartbeat n classical, _ => execPeerHeartbeat_kept n classical s
  | .peerHeartbeatTimeout n, _ => execPeerHeartbeatTimeout_kept n s
  | .reportPeriod r, _ => execReportPeriod_kept r s
  | .reportChangeSample r, _ => execReportChangeSample_kept r s
  | .rptModeWrite p r value, _ => execRptModeWrite_kept p r value s
  | .updateHeaderCheck p bytes, _ => execUpdateHeaderCheck_kept p bytes s
  | .bankWipeDone, _ => execBankWipeDone_kept s
  | .bankBlockWrite, _ => execBankBlockWrite_kept s
  | .updateVerify, _ => execUpdateVerify_kept s
  | .updActivate p, _ => execUpdActivate_kept p s
  | .updConfirm p, _ => execUpdConfirm_kept p s
  | .updAbandon p, _ => execUpdAbandon_kept p s
  | .activationPauseEnd, _ => execActivationPauseEnd_kept s
  | .activationTimeout e, _ => execActivationTimeout_kept e s
  | .trialEnd, _ => execTrialEnd_kept s
  | .odDirStep p value, _ => execOdDirStep_kept p value s
  | .packLost, _ => execPackLost_kept s
  | .stageFaultRelease k, _ => execStageFaultRelease_kept k s
  | .tamperRelease, _ => execTamperRelease_kept s
  | .canErrorStateChange n tec rec, _ => execCanErrorStateChange_kept n tec rec s
  | .periodBoundary r m, _ => execPeriodBoundary_kept r m s
  | .objectDictionaryAnswering, _ => execObjectDictionaryAnswering_kept s
  | .homeChartWritten ok, _ => execHomeChartWritten_kept ok s
  | .serviceReverseTurnOff, _ => execServiceReverseTurnOff_kept s
  | .serviceDiodeConducts, _ => execServiceDiodeConducts_kept s

theorem grows_of_keeps {b : Kept} {r : Res} {s : State} (hk : Keeps r s) (h : Grown b (kept s)) : Grows b r := by
  cases r with
  | next t => rw [keeps_next] at hk; rw [grows_next, hk]; exact h
  | fault _ => trivial
  | refused _ => trivial

theorem exec_grows (b : Kept) (c : Instr) (s : State) (h : Grown b (kept s)) : Grows b (exec c s) := by
  cases hc : writesKept c with
  | false => exact grows_of_keeps (exec_keeps c s hc) h
  | true =>
    match c, hc with
    | .hamperAccess reqs ecc, _ => exact execHamperAccess_grown b reqs ecc s h
    | .linkTelemetry k seq ack offset data, _ => exact execLinkTelemetry_grown b k seq ack offset data s h
    | .vauxPowerOnReset, _ => exact execVauxPowerOnReset_grown b s h
    | .hamperSelfTestEnd weak failed, _ => exact execHamperSelfTestEnd_grown b weak failed s h
    | .hcLock p value, _ => exact execHcLock_grown b p value s h
    | .holdUpSaveEnd vauxHigh, _ => exact execHoldUpSaveEnd_grown b vauxHigh s h
    | .hucapPowerOnReset step, _ => exact execHucapPowerOnReset_grown b step s h
    | .tamper, _ => exact execTamper_grown b s h
    | .throttleDisable p, _ => exact execThrottleDisable_grown b p s h
    | .registerWrite n offset bytes pec, _ => exact execRegisterWrite_grown b n offset bytes pec s h
    | .tunCmdWrite n last, _ => exact execTunCmdWrite_grown b n last s h
    | .read n tag idx sub, _ => exact execRead_grown b n tag idx sub s h
    | .write n tag idx sub bytes, _ => exact execWrite_grown b n tag idx sub bytes s h
    | .blockWriteInit n tag idx sub total, _ => exact execBlockWriteInit_grown b n tag idx sub total s h
    | .segment n tag seq flags bytes, _ => exact execSegment_grown b n tag seq flags bytes s h
    | .blockReadInit n tag idx sub, _ => exact execBlockReadInit_grown b n tag idx sub s h
    | .blockRequest n tag block, _ => exact execBlockRequest_grown b n tag block s h
    | .malformed n classical bytes, _ => exact execMalformed_grown b n classical bytes s h
    | .lcAdvance p value, _ => exact execLcAdvance_grown b p value s h
    | .objectWrite p idx sub bytes, _ => exact execObjectWrite_grown b p idx sub bytes s h

/-! ### Legal life-cycle states (R542) -/

/-- A legal life-cycle state. -/
def LcLegal (k : Kept) : Prop := k.lc ≤ 4

/-- A meaning that answers a next state answers one of a legal life-cycle state. -/
def Legal (r : Res) : Prop := match r with | .next t => LcLegal (kept t) | .fault _ => True | .refused _ => True
@[simp] theorem legal_next (t : State) : Legal (.next t) = LcLegal (kept t) := rfl
@[simp] theorem legal_fault (f : Fault) : Legal (.fault f) = True := rfl
@[simp] theorem legal_refused (f : Refusal) : Legal (.refused f) = True := rfl

theorem legal_of_keeps {r : Res} {s : State} (hk : Keeps r s) (h : LcLegal (kept s)) : Legal r := by
  cases r with
  | next t => rw [keeps_next] at hk; rw [legal_next, hk]; exact h
  | fault _ => trivial
  | refused _ => trivial

theorem legal_foldl {α : Type} (g : State → α → State) (h : ∀ a x, LcLegal (kept a) → LcLegal (kept (g a x))) (l : List α) (s : State)
    (hs : LcLegal (kept s)) : LcLegal (kept (l.foldl g s)) := by
  induction l generalizing s with
  | nil => exact hs
  | cons x l ih => exact ih _ (h _ _ hs)

theorem directWrite_legal (p : Port) (key : Nat) (s : State) (f : State → State × Ack)
    (h : ∀ s, LcLegal (kept s) → LcLegal (kept (f s).1)) (hs : LcLegal (kept s)) : LcLegal (kept (directWrite p key s f)) := by
  unfold directWrite; (repeat' split) <;> simp [h, hs]

/-! The Hamper's bytes, the lock word and the power-on reset leave the life-cycle state. -/

@[simp] theorem secureWipe_legal (x : Bool) (s : State) (h : LcLegal (kept s)) : LcLegal (kept (secureWipe x s)) := h
@[simp] theorem lockHomeChart_legal (s : State) (h : LcLegal (kept s)) : LcLegal (kept (lockHomeChart s)) := h
@[simp] theorem modHamper_legal (f : HamperState → HamperState) (s : State) (h : LcLegal (kept s)) : LcLegal (kept (modHamper f s)) := h
@[simp] theorem powerOnReset_legal (s : State) (h : LcLegal (kept s)) : LcLegal (kept (powerOnReset s)) := h
theorem mirrorWord_legal (k : Fin 7) (offset data : Nat) (s : State) (h : LcLegal (kept s)) : LcLegal (kept (mirrorWord k offset data s)) := h

@[simp] theorem hamperZeroed_legal (s : State) (h : LcLegal (kept s)) : LcLegal (kept (hamperZeroed s)) := by
  unfold hamperZeroed; rw [modNv_kept]; exact h

@[simp] theorem hamperGrant_legal (q : HamperReq) (ecc : EccFind) (s : State) (h : LcLegal (kept s)) : LcLegal (kept (hamperGrant q ecc s)) := by
  unfold hamperGrant; dsimp only
  (repeat' split) <;> simp [h]

theorem execHamperAccess_legal (reqs : List HamperReq) (ecc : EccFind) (s : State) (h : LcLegal (kept s)) :
    Legal (execHamperAccess reqs ecc s) := by
  unfold execHamperAccess; (repeat' split) <;> simp [h]

theorem execHamperSelfTestEnd_legal (weak : Vector Nat 8) (failed : Nat) (s : State) (h : LcLegal (kept s)) :
    Legal (execHamperSelfTestEnd weak failed s) := by
  have h₁ : LcLegal (kept (hamperZeroed (weakWords weak s))) := hamperZeroed_legal _ (by simpa using h)
  unfold execHamperSelfTestEnd; dsimp only
  split
  · exact h
  · split
    · rw [legal_next, kept_ite]; split <;> simpa using h₁
    · have hb := selectBank_kept (mramScan (keyLoad (hamperZeroed (weakWords weak s))))
      simp only [mramScan_kept, keyLoad_kept] at hb
      split <;> (next s2 he => rw [he] at hb; simpa [hb] using h₁)

theorem telemetryPump_legal (k : Fin 7) (s : State) (h : LcLegal (kept s)) : LcLegal (kept (telemetryPump k s)) := by
  unfold telemetryPump
  split
  · exact h
  · refine legal_foldl _ (fun a x ha => ?_) _ _ (by simpa using h)
    split
    · exact mirrorWord_legal _ _ _ _ (by simpa using ha)
    · simpa using ha

theorem execLinkTelemetry_legal (k : Fin 7) (seq ack offset data : Nat) (s : State) (h : LcLegal (kept s)) :
    Legal (execLinkTelemetry k seq ack offset data s) := by
  unfold execLinkTelemetry onLink
  split
  · trivial
  · rw [legal_next, kept_ite]; dsimp only
    split
    · refine telemetryPump_legal _ _ ?_
      split
      · exact mirrorWord_legal _ _ _ _ (by simpa using h)
      · simpa using h
    · exact h

@[simp] theorem hcLockOp_legal (value : Nat) (s : State) (h : LcLegal (kept s)) : LcLegal (kept (hcLockOp value s).1) := by
  unfold hcLockOp; (repeat' split) <;> simp [h]

theorem execHcLock_legal (p : Port) (value : Nat) (s : State) (h : LcLegal (kept s)) : Legal (execHcLock p value s) :=
  directWrite_legal _ _ _ _ (fun _ => hcLockOp_legal _ _) h

theorem execHoldUpSaveEnd_legal (vauxHigh : Bool) (s : State) (h : LcLegal (kept s)) : Legal (execHoldUpSaveEnd vauxHigh s) := by
  unfold execHoldUpSaveEnd; (repeat' split) <;> simp [h]

theorem execHucapPowerOnReset_legal (step : Fin 7) (s : State) (h : LcLegal (kept s)) : Legal (execHucapPowerOnReset step s) := by
  unfold execHucapPowerOnReset; (repeat' split) <;> simp [h]

theorem execTamper_legal (s : State) (h : LcLegal (kept s)) : Legal (execTamper s) := by
  unfold execTamper; (repeat' split) <;> simp [h]

theorem execVauxPowerOnReset_legal (s : State) (h : LcLegal (kept s)) : Legal (execVauxPowerOnReset s) := by
  unfold execVauxPowerOnReset; (repeat' split) <;> simp [h]

/-! A write of the fuses goes one step on, from a state below the last (R542); the dictionary's writes reach it. -/

@[simp] theorem lcAdvanceOp_legal (value : Nat) (s : State) (h : LcLegal (kept s)) : LcLegal (kept (lcAdvanceOp value s).1) := by
  unfold lcAdvanceOp
  split
  · exact h
  · next hv => rw [not_or] at hv; exact Nat.succ_le_of_lt (Nat.lt_of_not_le hv.1)

theorem execLcAdvance_legal (p : Port) (value : Nat) (s : State) (h : LcLegal (kept s)) : Legal (execLcAdvance p value s) :=
  directWrite_legal _ _ _ _ (fun _ => lcAdvanceOp_legal _ _) h

theorem onFin_legal (n i : Nat) (s : State) (f : Fin n → State × Ack) (h : ∀ k, LcLegal (kept (f k).1)) (hs : LcLegal (kept s)) :
    LcLegal (kept (onFin n i s f).1) := by
  unfold onFin; split <;> simp [h, hs]

theorem ownHost_legal (p : Port) (idx sub v : Nat) (s : State) (h : LcLegal (kept s)) : LcLegal (kept (ownHost p idx sub v s).1) := by
  unfold ownHost
  (repeat' first | split | ((with_reducible refine onFin_legal _ _ _ _ ?_ h); intro _; try dsimp only)) <;> simp [h]

theorem ownStore_legal (idx sub v : Nat) (s : State) (h : LcLegal (kept s)) : LcLegal (kept (ownStore idx sub v s).1) := by
  unfold ownStore; split <;> simp [h]

@[simp] theorem ownerWrite_legal (p : Port) (idx sub : Nat) (bytes : List Byte) (s : State) (h : LcLegal (kept s)) :
    LcLegal (kept (ownerWrite p idx sub bytes s).1) := by
  unfold ownerWrite; dsimp only
  (repeat' split) <;> simp [h, ownHost_legal, ownStore_legal]

@[simp] theorem bearing_legal (b : Bearing) (s : State) (h : LcLegal (kept s)) : LcLegal (kept (bearing b s).1) := by
  unfold bearing; dsimp only
  (repeat' split) <;> simp [h]

@[simp] theorem writeRequest_legal (p : Port) (tag idx sub : Nat) (bytes : List Byte) (s : State) (h : LcLegal (kept s)) :
    LcLegal (kept (writeRequest p tag idx sub bytes s).1) := by
  unfold writeRequest; (repeat' split) <;> simp [h]

@[simp] theorem portWrite_legal (p : Port) (idx sub : Nat) (bytes : List Byte) (s : State) (h : LcLegal (kept s)) :
    LcLegal (kept (portWrite p idx sub bytes s)) := by
  unfold portWrite; (repeat' split) <;> simp [h]

theorem execObjectWrite_legal (p : Port) (idx sub : Nat) (bytes : List Byte) (s : State) (h : LcLegal (kept s)) :
    Legal (execObjectWrite p idx sub bytes s) := by
  unfold execObjectWrite; simp [h]

theorem execThrottleDisable_legal (p : Port) (s : State) (h : LcLegal (kept s)) : Legal (execThrottleDisable p s) := by
  unfold execThrottleDisable; simp [h]

/-! The Register Window and its tunnel. -/

@[simp] theorem tunWriteOut_legal (n : Fin 2) (last : Bool) (s : State) (h : LcLegal (kept s)) :
    LcLegal (kept (tunWriteOut n last s).1) := by
  unfold tunWriteOut
  extract_lets t p d drop
  have hd : ∀ s, kept (drop s) = kept s := fun s => modTun_kept _ _ _
  (repeat' split) <;> simp [hd, h]

@[simp] theorem tunWrite_legal (n : Fin 2) (last : Bool) (s : State) (h : LcLegal (kept s)) : LcLegal (kept (tunWrite n last s).1) := by
  unfold tunWrite; (repeat' split) <;> simp [h]

theorem execTunCmdWrite_legal (n : Fin 2) (last : Bool) (s : State) (h : LcLegal (kept s)) : Legal (execTunCmdWrite n last s) := by
  unfold execTunCmdWrite windowWrite
  split <;> simp [h]

@[simp] theorem regEffect_legal (n : Fin 2) (g : WinReg) (v : Nat) (s : State) (h : LcLegal (kept s)) :
    LcLegal (kept (regEffect n g v s).1) := by
  unfold regEffect; (repeat' split) <;> simp [h]

@[simp] theorem regBytes_legal (n : Fin 2) (g : WinRow) (ofs : Nat) (bytes : List Byte) (s : State) (h : LcLegal (kept s)) :
    LcLegal (kept (regBytes n g ofs bytes s)) := by
  unfold regBytes; (repeat' split) <;> simp [h]

theorem writeBytes_legal (p : Fin 2) (n o : Nat) (l : List Byte) (s : State) (h : LcLegal (kept s)) :
    LcLegal (kept (writeBytes p n o l s)) := by
  induction n generalizing o l s with
  | zero => exact h
  | succ n ih =>
    cases l with
    | nil => exact h
    | cons a l => exact ih _ _ _ (regBytes_legal _ _ _ _ _ h)

theorem pecWrite_legal (n : Fin 2) (ofs : Nat) (bytes : List Byte) (pec : Nat) (s : State) (h : LcLegal (kept s)) :
    LcLegal (kept (pecWrite n ofs bytes pec s)) := by
  unfold pecWrite; dsimp only
  (repeat' split) <;> simp [h]

theorem execRegisterWrite_legal (n : Fin 2) (offset : Nat) (bytes : List Byte) (pec : Nat) (s : State) (h : LcLegal (kept s)) :
    Legal (execRegisterWrite n offset bytes pec s) := by
  unfold execRegisterWrite
  split
  · exact h
  · dsimp only
    rw [legal_next, modTw_kept]
    split
    · exact pecWrite_legal _ _ _ _ _ h
    · exact writeBytes_legal _ _ _ _ _ h

/-! The requests of the CAN ports. -/

@[simp] theorem writeExpedited_legal (p : Port) (tag idx sub : Nat) (bytes : List Byte) (s : State) (h : LcLegal (kept s)) :
    LcLegal (kept (writeExpedited p tag idx sub bytes s).1) := by
  unfold writeExpedited; (repeat' split) <;> simp [h]

@[simp] theorem serveWrite_legal (n : Fin 4) (tag idx sub : Nat) (bytes : List Byte) (s : State) (h : LcLegal (kept s)) :
    LcLegal (kept (serveWrite n tag idx sub bytes s)) := by
  unfold serveWrite; simp [h]

@[simp] theorem blockWritten_legal (p : Port) (tag idx sub : Nat) (got : List Byte) (s : State) (h : LcLegal (kept s)) :
    LcLegal (kept (blockWritten p tag idx sub got s).1) := by
  unfold blockWritten; simp [h]

@[simp] theorem blockEnd_legal (n : Fin 4) (tag idx sub total block next : Nat) (last : Bool) (got : List Byte) (s : State)
    (h : LcLegal (kept s)) : LcLegal (kept (blockEnd n tag idx sub total block next last got s)) := by
  unfold blockEnd; dsimp only; (repeat' split) <;> simp [h]

@[simp] theorem serveSegment_legal (n : Fin 4) (tag seq flags : Nat) (bytes : List Byte) (s : State) (h : LcLegal (kept s)) :
    LcLegal (kept (serveSegment n tag seq flags bytes s)) := by
  unfold serveSegment; dsimp only; (repeat' split) <;> simp [h]

@[simp] theorem serveReq_legal (n : Fin 4) (q : NetReq) (s : State) (h : LcLegal (kept s)) : LcLegal (kept (serveReq n q s)) := by
  unfold serveReq; (repeat' split) <;> simp [h]

@[simp] theorem served_legal (n : Fin 4) (q : NetReq) (s : State) (h : LcLegal (kept s)) : LcLegal (kept (served n q s)) := by
  unfold served; dsimp only
  (repeat' split) <;> simp [h]

@[simp] theorem netServe_legal (s : State) (h : LcLegal (kept s)) : LcLegal (kept (netServe s)) := by
  unfold netServe; (repeat' split) <;> simp [h]

theorem execRead_legal (n : Fin 4) (tag idx sub : Nat) (s : State) (h : LcLegal (kept s)) : Legal (execRead n tag idx sub s) :=
  served_legal _ _ _ h
theorem execWrite_legal (n : Fin 4) (tag idx sub : Nat) (bytes : List Byte) (s : State) (h : LcLegal (kept s)) :
    Legal (execWrite n tag idx sub bytes s) := served_legal _ _ _ h
theorem execBlockWriteInit_legal (n : Fin 4) (tag idx sub total : Nat) (s : State) (h : LcLegal (kept s)) :
    Legal (execBlockWriteInit n tag idx sub total s) := served_legal _ _ _ h
theorem execSegment_legal (n : Fin 4) (tag seq flags : Nat) (bytes : List Byte) (s : State) (h : LcLegal (kept s)) :
    Legal (execSegment n tag seq flags bytes s) := served_legal _ _ _ h
theorem execBlockReadInit_legal (n : Fin 4) (tag idx sub : Nat) (s : State) (h : LcLegal (kept s)) :
    Legal (execBlockReadInit n tag idx sub s) := served_legal _ _ _ h
theorem execBlockRequest_legal (n : Fin 4) (tag block : Nat) (s : State) (h : LcLegal (kept s)) :
    Legal (execBlockRequest n tag block s) := served_legal _ _ _ h
theorem execMalformed_legal (n : Fin 4) (classical : Bool) (bytes : List Byte) (s : State) (h : LcLegal (kept s)) :
    Legal (execMalformed n classical bytes s) := by
  unfold execMalformed; (repeat' split) <;> simp [h]

theorem exec_legal (c : Instr) (s : State) (h : LcLegal (kept s)) : Legal (exec c s) := by
  cases hc : writesKept c with
  | false => exact legal_of_keeps (exec_keeps c s hc) h
  | true =>
    match c, hc with
    | .hamperAccess reqs ecc, _ => exact execHamperAccess_legal reqs ecc s h
    | .linkTelemetry k seq ack offset data, _ => exact execLinkTelemetry_legal k seq ack offset data s h
    | .vauxPowerOnReset, _ => exact execVauxPowerOnReset_legal s h
    | .hamperSelfTestEnd weak failed, _ => exact execHamperSelfTestEnd_legal weak failed s h
    | .hcLock p value, _ => exact execHcLock_legal p value s h
    | .holdUpSaveEnd vauxHigh, _ => exact execHoldUpSaveEnd_legal vauxHigh s h
    | .hucapPowerOnReset step, _ => exact execHucapPowerOnReset_legal step s h
    | .tamper, _ => exact execTamper_legal s h
    | .throttleDisable p, _ => exact execThrottleDisable_legal p s h
    | .registerWrite n offset bytes pec, _ => exact execRegisterWrite_legal n offset bytes pec s h
    | .tunCmdWrite n last, _ => exact execTunCmdWrite_legal n last s h
    | .read n tag idx sub, _ => exact execRead_legal n tag idx sub s h
    | .write n tag idx sub bytes, _ => exact execWrite_legal n tag idx sub bytes s h
    | .blockWriteInit n tag idx sub total, _ => exact execBlockWriteInit_legal n tag idx sub total s h
    | .segment n tag seq flags bytes, _ => exact execSegment_legal n tag seq flags bytes s h
    | .blockReadInit n tag idx sub, _ => exact execBlockReadInit_legal n tag idx sub s h
    | .blockRequest n tag block, _ => exact execBlockRequest_legal n tag block s h
    | .malformed n classical bytes, _ => exact execMalformed_legal n classical bytes s h
    | .lcAdvance p value, _ => exact execLcAdvance_legal p value s h
    | .objectWrite p idx sub bytes, _ => exact execObjectWrite_legal p idx sub bytes s h

theorem linkOut_legal (k : Fin 7) (s : State) (h : LcLegal (kept s)) : LcLegal (kept (linkOut k s)) := by
  unfold linkOut; dsimp only
  split
  · rw [idleOut_kept, idleOut_kept]
    exact telemetryPump_legal _ _ (by simpa using h)
  · exact h

theorem tick_legal (s : State) (h : LcLegal (kept s)) : LcLegal (kept (tick s)) := by
  have h₁ : LcLegal (kept ((allFin 4).foldl (fun a n => canFrameOut n a) (tickClocks s))) := by
    rw [kept_foldl _ (by simp), tickClocks_kept]; exact h
  unfold tick; dsimp only
  split
  · exact h
  · split
    · exact netServe_legal _ (legal_foldl _ (fun a k ha => by rw [readsLate_kept]; exact linkOut_legal _ _ ha) _ _ h₁)
    · exact h₁

/-! ### The step -/

/-- The command at the front leaves the queue before it runs. -/
theorem kept_pending (s : State) (l : List Instr) : kept { s with pending := l } = { kept s with pending := l } := rfl

theorem step_grown {s t : State} (h : step s = .next t) : Grown { kept s with pending := s.pending.tail } (kept t) := by
  unfold step at h
  split at h
  · next hp =>
    cases h
    refine tick_grown _ _ ?_
    rw [hp, List.tail_nil, ← hp]
    exact .rfl _
  · next c l hp =>
    have hg := exec_grows _ c _ (.rfl (kept { s with pending := l }))
    rw [h, grows_next, kept_pending] at hg
    rwa [hp, List.tail_cons]

theorem step_legal {s t : State} (h : step s = .next t) (hs : LcLegal (kept s)) : LcLegal (kept t) := by
  unfold step at h
  split at h
  · cases h; exact tick_legal s hs
  · next c l _ =>
    have hl := exec_legal c { s with pending := l } hs
    rwa [h] at hl

/-- Settles O51: every command and every tick grows what `kept` reads (`step_grown`), and leaves a legal life-cycle state
(`step_legal`). -/
theorem stepsGoOnward : Obligations.StepsGoOnward := by
  intro s t h
  obtain ⟨hpart, hpending, hmem, hlc, hlo, hhi⟩ := step_grown h
  exact ⟨⟨hpart, hlc, fun hk => ⟨hlo hk.1, hhi hk.2⟩, hmem⟩, step_legal h, hpending⟩

end Sys2Proof.Proofs

namespace Sys2Proof.Proofs

open Sys2Proof.Machine Sys2Proof.Laws

/-! ### Numbers and the order of the access checks -/

/-- Settles O57: the numbers are read back by division. -/
theorem globalNumbers : Obligations.GlobalNumbers := by
  intro k j hj
  refine ⟨fun l => ⟨?_, Fin.ext ?_, ?_⟩, fun p h => ⟨?_, Fin.ext ?_⟩⟩
  · simp only [dieRail]; omega
  · simp only [railDie, dieRail]; omega
  · simp only [railLoop, dieRail]; omega
  · simp [diePhases, h, hj]
  · simp only [phaseDie]; omega

/-- The model's three conditions of BUSY. -/
theorem accessBusy_iff (s : State) (p : Port) : accessBusy s p = true ↔
    s.boot.odAnswering = false ∨ s.update.pause = true ∨ ∃ n, twOf p = some n ∧ s.tw[n].tun.phase = .busy := by
  unfold accessBusy
  cases twOf p <;> simp [or_assoc]

theorem checkWrite_busy {s : State} {p : Port} (h : accessBusy s p = true) (i u : Nat) : checkWrite s p i u = .error .busy := by
  simp [checkWrite, h]

theorem checkRead_busy {s : State} {p : Port} (h : accessBusy s p = true) (i u : Nat) : checkRead s p i u = .error .busy := by
  simp [checkRead, h]

/-- What a write of an object that exists meets (R515). -/
theorem checkWrite_row {s : State} {p : Port} {i u : Nat} {row : ObjRow} (h : accessBusy s p = false)
    (hr : objFind s.part i u = some row) : checkWrite s p i u =
      if row.acc = .ro ∨ row.acc = .const then .error .readOnly
      else if roleMayWrite s p row.acc i u && portBindOk p i u then .ok row else .error .role := by
  simp [checkWrite, h, hr]

/-- What a read of an object that exists meets (R515). -/
theorem checkRead_row {s : State} {p : Port} {i u : Nat} {row : ObjRow} (h : accessBusy s p = false)
    (hr : objFind s.part i u = some row) : checkRead s p i u =
      if row.acc = .wo then .error .writeOnly else if readLate s i u then .error .busy else .ok row := by
  simp [checkRead, h, hr]

/-- The link of the object's die is not UP. -/
theorem linkBusy_of_die {s : State} {i u : Nat} {k : Fin 7} (hk : objDie i = some k) (hu : u ≠ 0) (hl : s.links[k].phase ≠ .up) :
    linkBusy s i u = true := by
  simp_all [linkBusy]

/-- A read is late where its link is not UP and t_LTRN is over (R562). -/
theorem readLate_iff (s : State) (i u : Nat) : readLate s i u = true ↔
    linkBusy s i u = true ∧ ∃ k, objDie i = some k ∧ s.links[k].downAt + 200 ≤ s.devTime := by
  unfold readLate linkBusy linkLate
  cases objDie i <;> simp +contextual

theorem objDie_lt {i : Nat} {k : Fin 7} (h : objDie i = some k) :
    (i / 256 = 0x30 ∨ i / 256 = 0x31 ∨ i / 256 = 0x32) ∧ i % 256 / 4 = k.val ∨ i / 256 = 0x34 ∧ i % 256 / 8 = k.val ∨
      i / 256 = 0x38 ∧ i % 256 - 1 = k.val := by
  unfold objDie at h
  split at h
  · next hi => exact .inl ⟨.inl hi, (fin_some.mp h).symm⟩
  · next hi => exact .inl ⟨.inr (.inl hi), (fin_some.mp h).symm⟩
  · next hi => exact .inl ⟨.inr (.inr hi), (fin_some.mp h).symm⟩
  · next hi => exact .inr (.inl ⟨hi, (fin_some.mp h).symm⟩)
  · next hi => exact .inr (.inr ⟨hi, (fin_some.mp h).symm⟩)
  · cases h

theorem dies_pos (p : Part) : 1 ≤ p.dies := by cases p <;> decide

/-- No object of a die that the part does not have is in the part (R5). -/
theorem inPart_false_of_absent {p : Part} {i : Nat} {k : Fin 7} (hk : objDie i = some k) (hp : p.dies ≤ k.val) (u : Nat) :
    inPart p i u = false := by
  have hd := dies_pos p
  obtain ⟨hi | hi | hi, hv⟩ | ⟨hi, hv⟩ | ⟨hi, hv⟩ := objDie_lt hk <;>
    simp only [inPart, hi] <;>
    rw [if_neg (by omega), if_neg (by omega), if_neg (by omega), if_neg (by omega)] <;>
    simp only [decide_eq_false_iff_not] <;> omega

theorem objFind_none_of_absent {p : Part} {i : Nat} {k : Fin 7} (hk : objDie i = some k) (hp : p.dies ≤ k.val) (u : Nat) :
    objFind p i u = none := by
  have hin := inPart_false_of_absent hk hp
  have hmax : maxSub p i = 0 := by
    unfold maxSub
    rw [List.flatMap_eq_nil_iff.mpr fun r _ => by simp [hin], List.foldl_nil]
  simp [objFind, objRow, hmax, hin]

/-- Settles O54: the equations of the two checks, with the three lemmas on what they ask. -/
theorem accessCheckOrder : Obligations.AccessCheckOrder := by
  intro s p i u
  refine ⟨fun h => ?_, fun hb hn => ?_, fun row hb hr => ⟨?_, ?_, ?_, ?_, ?_, ?_⟩, fun k hk hp => objFind_none_of_absent hk hp u⟩
  · have hb := (accessBusy_iff s p).mpr h
    exact ⟨checkWrite_busy hb i u, checkRead_busy hb i u⟩
  · simp [checkWrite, checkRead, hb, hn]
  · intro ha; rw [checkWrite_row hb hr]; simp_all
  · intro ha; rw [checkRead_row hb hr]; simp [ha]
  · intro ha hrole; rw [checkWrite_row hb hr]; rcases hrole with h | h <;> simp_all
  · intro ha h1 h2; rw [checkWrite_row hb hr]; simp_all
  · intro ha hl
    have hlate : readLate s i u = false := by
      rw [← Bool.not_eq_true, readLate_iff]
      rintro ⟨hbusy, k, hk, hd⟩
      rcases hl with h | h
      · rw [h] at hbusy; cases hbusy
      · exact absurd (h k hk) (by omega)
    rw [checkRead_row hb hr, if_neg ha, hlate]; simp
  · intro k ha hk hu hl
    have hbusy := linkBusy_of_die hk hu hl
    refine ⟨fun hd => ?_, ?_⟩
    · rw [checkRead_row hb hr, if_neg ha, if_pos ((readLate_iff s i u).mpr ⟨hbusy, k, hk, hd⟩)]
    · simp [readObject, hbusy, overLink, hu, hk, modLink]

end Sys2Proof.Proofs

namespace Sys2Proof.Proofs

open Sys2Proof.Machine Sys2Proof.Laws

/-! ### Every command of the part answers a next state -/

/-- The part has what a command names (R5). -/
def presentIn (s : State) : Instr → Bool
  | .rsysClockCheck k _ | .linkFrameBad k _ _ _ | .linkNak k _ _ | .linkIdle k _ _ | .linkAckTimeout k _ | .linkCommand k _ _ _
  | .linkEvent k _ _ _ _ | .linkObjWrite k _ _ _ _ _ _ | .linkObjRead k _ _ _ _ _ | .linkObjData k _ _ _ _ _ _
  | .linkTelemetry k _ _ _ _ | .linkDown k | .linkRetrained k | .demandLaneFail _ k | .laneParityError _ k | .stageFault k
  | .vdrLow k | .vdrRestored k | .skHardwareTimeout k | .balanceAverageTimeout _ k | .gangChangeAck _ k | .followerEpochStrobe _ k _
  | .followerReaddStrobe _ k _ | .syncStrobeLoss _ k | .followerHoldEnd _ k | .stageFaultRelease k => diePresent s k
  | .skReadoptionDeadline r | .rotationEpoch r _ | .balanceUpdate r | .slewTargetReached r | .transitionQualified r
  | .stepAlarmAssert r | .stepAlarmRelease r | .stepTmaxExpire r | .shedDwellExpire r | .shedStart r _ | .shedComplete r _
  | .addThreshold r _ | .readdEpoch r _ | .shedHoldoffExpire r | .forecastDeadline r | .forecastInhibitEnd r | .trimPeriod r
  | .trimFreeze r | .ovAbsTrip r _ | .ovTrackingTrip r _ | .pgWindowChange r _ | .uvTimerExpire r | .ocCondition r _ _
  | .ocTimerExpire r | .pgQualified r | .pgHoldEnd r | .enPinFall r | .enPinRise r | .periodBoundary r _ => railPresent s r
  | .itemQualified i0 | .itemPgFall i0 | .itemOff i0 | .itemRetryDelayEnd i0 | .itemNormalTimer i0 => itemPresent s i0
  | .engineService e | .engineWatchdogExpire e | .activationTimeout e => enginePresent s e
  | .valleyLimit ph _ => diePresent s (phaseDie ph)
  | .roSample die _ => thermDiePresent s die
  | .logbookEntry _ die _ _ => decide (die ≤ s.part.dies)
  | .disableBoundaryReached f => match f with | .rail r | .balance r | .busTrim r => railPresent s r | _ => true
  | _ => true

/-- A meaning answers a next state where `ok`, and stops for what the part lacks where not. -/
def Completes (ok : Bool) (r : Res) : Prop := match r with | .next _ => ok = true | .fault .absentInPart => ok = false | .refused _ => False

theorem completes_next (t : State) : Completes true (.next t) := rfl

theorem completes_ite {ok : Bool} {c : Prop} [Decidable c] {a b : Res} (ha : Completes ok a) (hb : Completes ok b) :
    Completes ok (if c then a else b) := by
  split
  · exact ha
  · exact hb

theorem completes_guard {p : Bool} {r : Res} (h : Completes true r) : Completes p (if !p then .fault .absentInPart else r) := by
  cases p
  · exact rfl
  · exact h

theorem completes_cases {ok : Bool} {r : Res} (h : Completes ok r) : (ok = true ∧ ∃ t, r = .next t) ∨ (ok = false ∧ r = .fault .absentInPart) := by
  cases r with
  | next t => exact .inl ⟨h, t, rfl⟩
  | fault f => cases f; exact .inr ⟨h, rfl⟩
  | refused f => exact h.elim

theorem execLogbookEntry_completes (code : FaultCode) (die src detail : Nat) (s : State) :
    Completes (decide (die ≤ s.part.dies)) (execLogbookEntry code die src detail s) := by
  unfold execLogbookEntry
  split
  · exact decide_eq_false (by omega)
  · split <;> exact decide_eq_true (by omega)

theorem execDisableBoundaryReached_completes (f : DisableFn) (s : State) :
    Completes (presentIn s (.disableBoundaryReached f)) (execDisableBoundaryReached f s) := by
  have onRail (r : Fin 28) (t : State) : Completes (railPresent s r) (if railPresent s r then .next t else .fault .absentInPart) := by
    cases railPresent s r <;> rfl
  cases f with
  | rail r => exact onRail r _
  | balance r => exact onRail r _
  | busTrim r => exact onRail r _
  | _ => rfl

/-- A command stops the machine exactly where it names what the part lacks. -/
theorem exec_completes (c : Instr) (s : State) : Completes (presentIn s c) (exec c s) := by
  cases c
  case logbookEntry code die src detail => exact execLogbookEntry_completes code die src detail s
  case disableBoundaryReached f => exact execDisableBoundaryReached_completes f s
  case linkFrameBad | linkNak | linkIdle | linkAckTimeout | linkCommand | linkEvent | linkObjWrite | linkObjRead | linkObjData
    | linkTelemetry | linkDown | rotationEpoch | shedStart | shedComplete | readdEpoch | periodBoundary =>
    exact completes_guard rfl
  case rsysClockCheck | linkRetrained | demandLaneFail | laneParityError | stageFault | vdrLow | vdrRestored | skReadoptionDeadline
    | skHardwareTimeout | balanceUpdate | balanceAverageTimeout | gangChangeAck | followerEpochStrobe | followerReaddStrobe
    | syncStrobeLoss | followerHoldEnd | slewTargetReached | transitionQualified | stepAlarmAssert | stepAlarmRelease
    | stepTmaxExpire | shedDwellExpire | addThreshold | shedHoldoffExpire | forecastDeadline | forecastInhibitEnd | trimPeriod
    | trimFreeze | ovAbsTrip | ovTrackingTrip | pgWindowChange | uvTimerExpire | ocCondition | ocTimerExpire | valleyLimit
    | pgQualified | pgHoldEnd | itemQualified | itemPgFall | itemOff | itemRetryDelayEnd | itemNormalTimer | enPinFall | enPinRise
    | roSample | engineService | engineWatchdogExpire | activationTimeout | stageFaultRelease =>
    refine completes_guard ?_
    repeat' with_reducible first | exact completes_next _ | refine completes_ite ?_ ?_ | extract_lets | split
  case hamperAccess | backgroundScrub | strapSample | powerOnResetRelease | hamperSelfTestEnd | objectDictionaryReady | sysStop
    | wake | wakeTimerExpire | oldChartWakeLatch | resetPinRise | resetEnd | zinWindowEnter | zinWindowExit | zbusWindowEnter
    | zbusWindowExit | insertionDelayExpire | retryTimerExpire | inrushComplete | limitEnter | limitRelease | limitTimerExpire
    | absoluteTrip | normalOperationTimer | presenceLost | presenceDetected | pfwSlopeSample | pfwRelease | gangAckTimeout
    | hintPinEdge | groupInputQualified | groupInputLost | stepDelayEnd | stepTimeout | shutdownStepTimeout | buckOverVoltage
    | regPgChange | regPgLostTimeout | rstoStretchEnd | rstoPulseEnd | chargerControlCycle | chargeStartConditions
    | chargeTerminationSample | chargeBackstop | packRemoval | sourceLost | handOverBreakDone | handBackStart | handBackComplete
    | gaugeEstimate | restQualified | gaugeStart | almanacWriteBackDone | configCopyWritten | journalAppend | holdUpEntry
    | holdUpSaveEnd | hucapPowerOnReset | tamper | hkConversionEnd | hkSlowRound | backgroundCalibration | throttleEvaluation
    | wdWindowClose | wdCycleEnd | twReadAddress | twWritePointer | registerWrite | claim | twErrRead | tunnelDone | canPortStart
    | canBusOff | malformed | xbearTimeout | bankWipeDone | bankBlockWrite | updateVerify | activationPauseEnd | packLost
    | canErrorStateChange | homeChartWritten =>
    dsimp only [exec]; change Completes true _
    delta execHamperAccess execBackgroundScrub execStrapSample execPowerOnResetRelease execHamperSelfTestEnd
      execObjectDictionaryReady execSysStop execWake execWakeTimerExpire execOldChartWakeLatch execResetPinRise execResetEnd
      execZinWindowEnter execZinWindowExit execZbusWindowEnter execZbusWindowExit execInsertionDelayExpire execRetryTimerExpire
      execInrushComplete execLimitEnter execLimitRelease execLimitTimerExpire execAbsoluteTrip execNormalOperationTimer
      execPresenceLost execPresenceDetected execPfwSlopeSample execPfwRelease execGangAckTimeout execHintPinEdge
      execGroupInputQualified execGroupInputLost execStepDelayEnd execStepTimeout execShutdownStepTimeout execBuckOverVoltage
      execRegPgChange execRegPgLostTimeout execRstoStretchEnd execRstoPulseEnd execChargerControlCycle execChargeStartConditions
      execChargeTerminationSample execChargeBackstop execPackRemoval execSourceLost execHandOverBreakDone execHandBackStart
      execHandBackComplete execGaugeEstimate execRestQualified execGaugeStart execAlmanacWriteBackDone execConfigCopyWritten
      execJournalAppend execHoldUpEntry execHoldUpSaveEnd execHucapPowerOnReset execTamper execHkConversionEnd execHkSlowRound
      execBackgroundCalibration execThrottleEvaluation execWdWindowClose execWdCycleEnd execTwReadAddress execTwWritePointer
      execRegisterWrite execClaim execTwErrRead execTunnelDone execCanPortStart execCanBusOff execMalformed execXbearTimeout
      execBankWipeDone execBankBlockWrite execUpdateVerify execActivationPauseEnd execPackLost execCanErrorStateChange
      execHomeChartWritten
    repeat' with_reducible first | exact completes_next _ | refine completes_ite ?_ ?_ | extract_lets | split
  all_goals exact completes_next _

theorem itemPresent_of_hasItem {s : State} {i : Fin 46} (h : s.part.hasItem i = true) : itemPresent s i = true := by
  unfold itemPresent itemKind
  simp only [Part.hasItem, Bool.or_eq_true, decide_eq_true_eq] at h
  split
  · next r hr =>
    split at hr
    · cases hr; simp only [railPresent, decide_eq_true_eq]; omega
    · split at hr <;> cases hr
  · rfl

/-- The die of a phase that the part has (R9). -/
theorem diePresent_of_hasPhase {s : State} {ph : Fin 56} (h : s.part.hasPhase ph = true) : diePresent s (phaseDie ph) = true := by
  have hph : ph.val < 8 * s.part.dies := of_decide_eq_true h
  exact decide_eq_true (show ph.val / 8 < s.part.dies by omega)

/-- Of several conditions on a command the first is on what it names. -/
theorem wf_left {a b : Bool} (h : (a && b) = true) : a = true := (Bool.and_eq_true_iff.mp h).1

/-- A well-formed command names only what the part has. -/
theorem presentIn_of_wf {c : Instr} {s : State} (h : c.wf s.part = true) : presentIn s c = true := by
  cases c
  case disableBoundaryReached f => cases f <;> exact h
  case valleyLimit ph mA => exact diePresent_of_hasPhase h
  case itemQualified | itemPgFall | itemOff | itemRetryDelayEnd | itemNormalTimer => exact itemPresent_of_hasItem h
  case rsysClockCheck | linkAckTimeout | linkDown | linkRetrained | demandLaneFail | laneParityError | stageFault | vdrLow
    | vdrRestored | skReadoptionDeadline | skHardwareTimeout | balanceUpdate | balanceAverageTimeout | gangChangeAck
    | followerEpochStrobe | followerReaddStrobe | syncStrobeLoss | followerHoldEnd | slewTargetReached | transitionQualified
    | stepAlarmAssert | stepAlarmRelease | stepTmaxExpire | shedDwellExpire | addThreshold | shedHoldoffExpire | forecastDeadline
    | forecastInhibitEnd | trimPeriod | trimFreeze | ovAbsTrip | ovTrackingTrip | pgWindowChange | uvTimerExpire | ocTimerExpire
    | pgQualified | pgHoldEnd | enPinFall | enPinRise | roSample | engineService | engineWatchdogExpire | activationTimeout
    | stageFaultRelease => exact h
  case linkNak | linkIdle | rotationEpoch | shedStart | shedComplete | readdEpoch | ocCondition | periodBoundary => exact wf_left h
  case linkFrameBad | logbookEntry => exact wf_left (wf_left h)
  case linkCommand => exact wf_left (wf_left (wf_left h))
  case linkEvent | linkTelemetry => exact wf_left (wf_left (wf_left (wf_left h)))
  case linkObjRead => exact wf_left (wf_left (wf_left (wf_left (wf_left h))))
  case linkObjWrite | linkObjData => exact wf_left (wf_left (wf_left (wf_left (wf_left (wf_left h)))))
  all_goals rfl

/-- Settles O53: a command stops exactly where it names what the part lacks (`exec_completes`), and a well-formed one does not. -/
theorem everyCommandOfThePartCompletes : Obligations.EveryCommandOfThePartCompletes := by
  intro c s
  obtain ⟨hp, ht⟩ | ⟨hp, hf⟩ := completes_cases (exec_completes c s)
  · exact ⟨fun _ => ht, .inl ht⟩
  · exact ⟨fun h => absurd (presentIn_of_wf h) (by simp [hp]), .inr hf⟩

end Sys2Proof.Proofs

namespace Sys2Proof.Proofs

open Sys2Proof.Machine Sys2Proof.Laws

/-! ### Numbered elements, updated one or several at a time -/

theorem val_ne {n : Nat} {i j : Fin n} (h : j ≠ i) : i.val ≠ j.val := fun e => h (Fin.ext e.symm)

theorem vmod_get {α : Type} {n : Nat} (v : Vector α n) (i : Fin n) (f : α → α) : (vmod v i f)[i] = f v[i] := by
  simp

theorem vmod_get_ne {α : Type} {n : Nat} {i j : Fin n} (h : j ≠ i) (v : Vector α n) (f : α → α) : (vmod v i f)[j] = v[j] := by
  simp [val_ne h]

theorem vmod_congr {α : Type} {n : Nat} {v : Vector α n} {i : Fin n} {f g : α → α} (h : f v[i] = g v[i]) : vmod v i f = vmod v i g := by
  unfold vmod; rw [h]

/-- What an update keeps of its element it keeps of every element. -/
theorem vmod_get_keeps {α β : Type} {n : Nat} (g : α → β) {f : α → α} (hf : ∀ x, g (f x) = g x) (v : Vector α n) (i j : Fin n) :
    g (vmod v i f)[j] = g v[j] := by
  by_cases e : j = i
  · subst e; rw [vmod_get, hf]
  · rw [vmod_get_ne e]

/-- Updating several elements in turn. -/
def vmods {α : Type} {n : Nat} (v : Vector α n) (l : List (Fin n)) (f : α → α) : Vector α n := l.foldl (fun v i => vmod v i f) v

@[simp] theorem vmods_nil {α : Type} {n : Nat} (v : Vector α n) (f : α → α) : vmods v [] f = v := rfl

theorem vmods_cons {α : Type} {n : Nat} (v : Vector α n) (i : Fin n) (l : List (Fin n)) (f : α → α) :
    vmods v (i :: l) f = vmods (vmod v i f) l f := rfl

theorem vmods_get_not_mem {α : Type} {n : Nat} {l : List (Fin n)} {j : Fin n} (h : j ∉ l) (f : α → α) (v : Vector α n) :
    (vmods v l f)[j] = v[j] := by
  induction l generalizing v with
  | nil => rfl
  | cons i l ih =>
    rw [List.mem_cons, not_or] at h
    rw [vmods_cons, ih h.2, vmod_get_ne h.1]

/-- An update that is the same done twice is done once on each element listed. -/
theorem vmods_get_mem {α : Type} {n : Nat} {l : List (Fin n)} {j : Fin n} (h : j ∈ l) {f : α → α} (hf : ∀ x, f (f x) = f x)
    (v : Vector α n) : (vmods v l f)[j] = f v[j] := by
  induction l generalizing v with
  | nil => cases h
  | cons i l ih =>
    rw [vmods_cons]
    by_cases hj : j ∈ l
    · rw [ih hj]
      by_cases e : j = i
      · subst e; rw [vmod_get, hf]
      · rw [vmod_get_ne e]
    · have e : j = i := (List.mem_cons.mp h).resolve_right hj
      subst e
      rw [vmods_get_not_mem hj, vmod_get]

/-- What an update keeps of an element it keeps of every element. -/
theorem vmods_get_keeps {α β : Type} {n : Nat} (g : α → β) {f : α → α} (hf : ∀ x, g (f x) = g x) (l : List (Fin n)) (j : Fin n)
    (v : Vector α n) : g (vmods v l f)[j] = g v[j] := by
  induction l generalizing v with
  | nil => rfl
  | cons i l ih =>
    rw [vmods_cons, ih, vmod_get_keeps g hf]

theorem modPhases_eq (l : List (Fin 56)) (f : PhaseState → PhaseState) (s : State) :
    l.foldl (fun a ph => modPhase ph f a) s = { s with phases := vmods s.phases l f } := by
  induction l generalizing s with
  | nil => rfl
  | cons i l ih => rw [List.foldl_cons, ih]; rfl

/-! ### Frames -/

/-- What leaves all but some fields leaves all but more of them. -/
theorem rest_mono {F G : List Fld} (hFG : F ⊆ G) {s t : State} (h : rest F t = rest F s) : rest G t = rest G s := by
  have e {f : Fld} {α : Type} {a b c : α} (k : f ∉ F → a = b) : (if f ∈ G then c else a) = if f ∈ G then c else b := by
    split
    · rfl
    · next hf => exact k fun hm => hf (hFG hm)
  exact State.mk.injEq .. |>.mpr ⟨e (rest_part h), e (rest_settings h), e (rest_mram h), e (rest_nv h), e (rest_clk h), e (rest_hamper h), e (rest_links h),
    e (rest_straps h), e (rest_boot h), e (rest_sk h), e (rest_pwr h), e (rest_zin h), e (rest_fo h), e (rest_zbus h),
    e (rest_rails h), e (rest_phases h), e (rest_gangs h), e (rest_dies h), e (rest_items h), e (rest_groups h), e (rest_regs h),
    e (rest_rsto h), e (rest_pp h), e (rest_chg h), e (rest_gauge h), e (rest_hk h), e (rest_therm h), e (rest_wd h),
    e (rest_ewd h), e (rest_log h), e (rest_faultLine h), e (rest_safeN h), e (rest_fab h), e (rest_evc h), e (rest_tw h),
    e (rest_can h), e (rest_roles h), e (rest_reports h), e (rest_xb h), e (rest_netLast h), e (rest_dirSel h),
    e (rest_update h), e (rest_skipCnt h), e (rest_hintAt h), e (rest_ack h), e (rest_devTime h), e (rest_aonAcc h),
    e (rest_freeCtr h), e (rest_pending h)⟩

/-! ### Accepted writes -/

/-- A write that passes the checks goes to the object's owner (R515). -/
theorem directWrite_ok {p : Port} {i u : Nat} {s : State} {row : ObjRow} (hu : u < 256) (ha : answering s = true)
    (hw : checkWrite s p i u = .ok row) (f : State → State × Ack) : directWrite p (okey i u) s f = setAck (f s).2 (f s).1 := by
  unfold directWrite
  rw [okey_div i hu, okey_mod i hu, hw, ha]; rfl

end Sys2Proof.Proofs

namespace Sys2Proof.Proofs

open Sys2Proof.Machine Sys2Proof.Laws

/-! ### What the settings and the membership of phases read -/

/-- Two states agree on what the settings in force and the membership of phases read. -/
structure SameCfg (s t : State) : Prop where
  settings : t.settings = s.settings
  shadow : t.sk.shadow = s.sk.shadow
  freeCtr : t.freeCtr = s.freeCtr
  first : ∀ g : Fin 4, t.gangs[g].first = s.gangs[g].first
  dies : ∀ g : Fin 4, t.gangs[g].dies = s.gangs[g].dies
  phase : ∀ g : Fin 4, t.gangs[g].phase = s.gangs[g].phase
  kept : ∀ r : Fin 28, t.rails[r].stationKept = s.rails[r].stationKept

namespace SameCfg

variable {s t : State} (h : SameCfg s t)
include h

theorem trans {u : State} (k : SameCfg t u) : SameCfg s u :=
  ⟨k.settings.trans h.settings, k.shadow.trans h.shadow, k.freeCtr.trans h.freeCtr, fun g => (k.first g).trans (h.first g),
    fun g => (k.dies g).trans (h.dies g), fun g => (k.phase g).trans (h.phase g), fun r => (k.kept r).trans (h.kept r)⟩

theorem keptOnDie (k : Nat) : Machine.keptOnDie t k = Machine.keptOnDie s k := by
  simp only [Machine.keptOnDie, h.kept, h.first, h.dies]

theorem shadowRail (key : Nat) : Machine.shadowRail t key = Machine.shadowRail s key := by
  simp only [Machine.shadowRail, h.kept, h.keptOnDie]

theorem setRaw (key d : Nat) : t.setRaw key d = s.setRaw key d := by
  simp only [State.setRaw, h.shadowRail, h.shadow, h.settings]

theorem setRange (key d lo hi : Nat) : t.setRange key d lo hi = s.setRange key d lo hi := by
  simp only [State.setRange, h.setRaw, h.freeCtr]

theorem setSent (key d lo hi z : Nat) : t.setSent key d lo hi z = s.setSent key d lo hi z := by
  simp only [State.setSent, h.setRaw, h.freeCtr]

theorem setFlag (key : Nat) (d : Bool) : t.setFlag key d = s.setFlag key d := by
  simp only [State.setFlag, h.setRaw, h.freeCtr]

theorem gangStands (g : Fin 4) : Machine.gangStands t g = Machine.gangStands s g := by
  simp only [Machine.gangStands, h.phase]

theorem gangDies (g : Fin 4) : Machine.gangDies t g = Machine.gangDies s g := by
  simp only [Machine.gangDies, h.first, h.dies]

theorem gangOfRail (r : Fin 28) : Machine.gangOfRail t r = Machine.gangOfRail s r := by
  simp only [Machine.gangOfRail, h.gangStands, h.first]

theorem gangOfDie (k : Fin 7) : Machine.gangOfDie t k = Machine.gangOfDie s k := by
  simp only [Machine.gangOfDie, h.gangStands, h.gangDies]

theorem isFollower (k : Fin 7) : Machine.isFollower t k = Machine.isFollower s k := by
  simp only [Machine.isFollower, h.gangOfDie, h.first]

theorem phLoop (ph : Fin 56) : t.phLoop ph = s.phLoop ph := h.setSent _ _ _ _ _

/-- The phases of a rail also depend on whether its loop is in use (R155, R176). -/
theorem railPhases {r : Fin 28} (ha : t.rails[r].absorbed = s.rails[r].absorbed) (ho : t.rails[r].heldOff = s.rails[r].heldOff) :
    Machine.railPhases t r = Machine.railPhases s r := by
  simp only [Machine.railPhases, ha, ho, h.gangOfRail, h.gangDies, h.phLoop]

end SameCfg

theorem sameCfg_of_rest {F : List Fld} {s t : State} (h : rest F t = rest F s) (h1 : Fld.settings ∉ F) (h2 : Fld.sk ∉ F)
    (h3 : Fld.freeCtr ∉ F) (h4 : Fld.gangs ∉ F) (hk : ∀ r : Fin 28, t.rails[r].stationKept = s.rails[r].stationKept) : SameCfg s t := by
  have hg := rest_gangs h h4
  exact ⟨rest_settings h h1, by rw [rest_sk h h2], rest_freeCtr h h3, fun g => by rw [hg], fun g => by rw [hg], fun g => by rw [hg], hk⟩

/-- An update of a rail that keeps what membership reads of it. -/
def KeepsMember (f : RailState → RailState) : Prop :=
  ∀ x, (f x).stationKept = x.stationKept ∧ (f x).absorbed = x.absorbed ∧ (f x).heldOff = x.heldOff

/-- Such an update of one rail, and any of the phases, leaves the settings in force. -/
theorem sameCfg_of_keeps {f : RailState → RailState} (hf : KeepsMember f) (r : Fin 28) (ps : Vector PhaseState 56) (s : State) :
    SameCfg s { s with rails := vmod s.rails r f, phases := ps } :=
  ⟨rfl, rfl, rfl, fun _ => rfl, fun _ => rfl, fun _ => rfl, fun j => vmod_get_keeps RailState.stationKept (fun x => (hf x).1) _ _ j⟩

theorem railPhases_of_keeps {f : RailState → RailState} (hf : KeepsMember f) (r q : Fin 28) (ps : Vector PhaseState 56) (s : State) :
    railPhases { s with rails := vmod s.rails r f, phases := ps } q = railPhases s q :=
  (sameCfg_of_keeps hf r ps s).railPhases (vmod_get_keeps RailState.absorbed (fun x => (hf x).2.1) _ _ q)
    (vmod_get_keeps RailState.heldOff (fun x => (hf x).2.2) _ _ q)

theorem keepsMember_dyn (f : DynState → DynState) : KeepsMember fun x => { x with dyn := f x.dyn } := fun _ => ⟨rfl, rfl, rfl⟩

theorem modDyn_phases (r : Fin 28) (f : DynState → DynState) (s : State) : (modDyn r f s).phases = s.phases := rfl

theorem railPhases_modDyn (r q : Fin 28) (f : DynState → DynState) (s : State) : railPhases (modDyn r f s) q = railPhases s q :=
  railPhases_of_keeps (keepsMember_dyn f) r q s.phases s

/-- The states of LEAVING and running phases come from the rail's phases. -/
theorem mem_railPhases_of_leaving {s : State} {r : Fin 28} {ph : Fin 56} (h : ph ∈ leavingPhases s r) : ph ∈ railPhases s r :=
  List.mem_of_mem_filter h

theorem mem_railPhases_of_running {s : State} {r : Fin 28} {ph : Fin 56} (h : ph ∈ runningPhases s r) : ph ∈ railPhases s r :=
  List.mem_of_mem_filter h

end Sys2Proof.Proofs

namespace Sys2Proof.Proofs

open Sys2Proof.Machine Sys2Proof.Laws

/-! ### The step alarm (R210 to R214, R220, R224, R237) -/

/-! What a re-add event and the forced pulses write. -/

/-- The LEAVING phases that a re-add event returns at once (R220). -/
def readdKeep (r : Fin 28) (stepAlarm : Bool) (s : State) : List (Fin 56) :=
  (leavingPhases s r).filter fun ph => stepAlarm || !isFollower s (phaseDie ph)

/-- What a re-add event writes in the rail. -/
def readdRail (r : Fin 28) (stepAlarm : Bool) (s : State) (x : RailState) : RailState :=
  { x with dyn := { x.dyn with
      shedDue := false, readdPend := true, dwellRun := false
      keepCnt := satAdd max32 x.dyn.keepCnt ((readdKeep r stepAlarm s).length + bit (s.rails[r].dyn.shedDue && !shedAsked s r)) } }

theorem readdEvent_eq (r : Fin 28) (b : Bool) (s : State) : readdEvent r b s =
    { s with
      rails := vmod s.rails r (readdRail r b s)
      phases := vmods s.phases (readdKeep r b s) fun p => { p with run := .active, leaveCnt := 0 } } := by
  unfold readdEvent phaseBack
  dsimp only
  rw [modPhases_eq]; rfl

theorem forcedHigh_eq (r : Fin 28) (s : State) : forcedHigh r s =
    { s with
      rails := vmod s.rails r fun x => { x with pulsed := true }
      phases := vmods s.phases (runningPhases s r) fun p => { p with pulsed := true } } := by
  unfold forcedHigh
  rw [modPhases_eq]; rfl

/-- An assertion and its count (R210). -/
def stepCounted (d : DynState) : DynState := { d with stepAlarm := true, stepCnt := satAdd max32 d.stepCnt 1 }

/-- The hold-off starts (R224). -/
def heldOffDyn (d : DynState) : DynState := { d with holdoff := true }

/-- The rail and its phases after an assertion (R210 to R214). -/
def stepAsserted (r : Fin 28) (s : State) : State :=
  let s1 := forcedHigh r (modDyn r stepCounted s)
  if s.rails[r].stationKept then s1 else modDyn r heldOffDyn (readdEvent r true s1)

theorem execStepAlarmAssert_armed {s : State} {r : Fin 28} (hp : railPresent s r = true) (harm : s.rails[r].dyn.stepArmed = true)
    (hon : stepOn s r = true) (hal : s.rails[r].dyn.stepAlarm = false) (hbl : s.rails[r].dyn.stepBlocked = false) :
    ∃ t, exec (.stepAlarmAssert r) s = .next t ∧ t.rails = (stepAsserted r s).rails ∧ t.phases = (stepAsserted r s).phases := by
  refine ⟨dieEvent (railDie r) 4 (match gangOfRail s r with
    | some g => modGang g (fun x => { x with stepLine := true }) (stepAsserted r s)
    | none => stepAsserted r s), ?_, ?_, ?_⟩
  · show execStepAlarmAssert r s = _
    unfold execStepAlarmAssert
    simp only [hp, harm, hon, hal, hbl]
    rfl
  · rw [rest_rails (dieEvent_rest (F := [.links, .evc, .tw]) (by decide) (by decide) (by decide) _ _ _) (by decide)]
    cases gangOfRail s r <;> rfl
  · rw [rest_phases (dieEvent_rest (F := [.links, .evc, .tw]) (by decide) (by decide) (by decide) _ _ _) (by decide)]
    cases gangOfRail s r <;> rfl

/-- On a station-kept rail the alarm only drives its phases (R114). -/
theorem stepAsserted_kept {r : Fin 28} {s : State} (h : s.rails[r].stationKept = true) :
    stepAsserted r s = forcedHigh r (modDyn r stepCounted s) :=
  if_pos h

/-- On any other rail it is a re-add event and starts the hold-off (R214, R220, R224). -/
theorem stepAsserted_free {r : Fin 28} {s : State} (h : s.rails[r].stationKept = false) :
    stepAsserted r s = modDyn r heldOffDyn (readdEvent r true
      (forcedHigh r (modDyn r stepCounted s))) :=
  if_neg (by rw [h]; exact Bool.false_ne_true)

/-- Every other rail stands. -/
theorem stepAsserted_rails_other {r j : Fin 28} (h : j ≠ r) (s : State) : (stepAsserted r s).rails[j] = s.rails[j] := by
  cases hk : s.rails[r].stationKept
  · simp only [stepAsserted_free hk, forcedHigh_eq, readdEvent_eq, modDyn_eq, modRail, vmod_get_ne h]
  · simp only [stepAsserted_kept hk, forcedHigh_eq, modDyn_eq, modRail, vmod_get_ne h]

/-- The rail of a counted assertion, its pulses forced. -/
def stepForced (x : RailState) : RailState := { x with pulsed := true, dyn := stepCounted x.dyn }

theorem forcedHigh_rail (r : Fin 28) (s : State) : (forcedHigh r (modDyn r stepCounted s)).rails[r] = stepForced s.rails[r] := by
  simp only [forcedHigh_eq, modDyn_eq, modRail, vmod_get]; rfl

theorem stepAsserted_rail_kept {r : Fin 28} {s : State} (h : s.rails[r].stationKept = true) :
    (stepAsserted r s).rails[r] = stepForced s.rails[r] := by
  rw [stepAsserted_kept h, forcedHigh_rail]

theorem stepAsserted_rail_free {r : Fin 28} {s : State} (h : s.rails[r].stationKept = false) : ∃ n, (stepAsserted r s).rails[r] =
    { stepForced s.rails[r] with
      dyn := { stepCounted s.rails[r].dyn with
        holdoff := true, shedDue := false, readdPend := true, dwellRun := false, keepCnt := n } } := by
  rw [stepAsserted_free h, modDyn_eq, modRail, vmod_get, readdEvent_eq, vmod_get, readdRail, forcedHigh_rail]
  exact ⟨_, rfl⟩

/-- What every assertion leaves and sets in the rail. -/
theorem stepAsserted_rail (r : Fin 28) (s : State) :
    (stepAsserted r s).rails[r].dyn.stepAlarm = true ∧
    (stepAsserted r s).rails[r].dyn.stepCnt = satAdd max32 s.rails[r].dyn.stepCnt 1 ∧ (stepAsserted r s).rails[r].pulsed = true ∧
    (stepAsserted r s).rails[r].dyn.vsp = s.rails[r].dyn.vsp ∧ (stepAsserted r s).rails[r].prot = s.rails[r].prot := by
  cases hk : s.rails[r].stationKept
  · obtain ⟨n, h⟩ := stepAsserted_rail_free hk
    rw [h]; exact ⟨rfl, rfl, rfl, rfl, rfl⟩
  · rw [stepAsserted_rail_kept hk]; exact ⟨rfl, rfl, rfl, rfl, rfl⟩

theorem railPhases_forcedHigh (r : Fin 28) (s : State) : railPhases (forcedHigh r s) r = railPhases s r := by
  rw [forcedHigh_eq]
  refine railPhases_of_keeps ?_ r r _ s
  exact fun _ => ⟨rfl, rfl, rfl⟩

theorem runningPhases_modDyn (r : Fin 28) (f : DynState → DynState) (s : State) : runningPhases (modDyn r f s) r = runningPhases s r := by
  unfold runningPhases; rw [railPhases_modDyn]; rfl

/-- A LEAVING phase that a re-add event returns is one of the rail's. -/
theorem mem_railPhases_of_readdKeep {r : Fin 28} {b : Bool} {s : State} {ph : Fin 56} (h : ph ∈ readdKeep r b s) : ph ∈ railPhases s r :=
  mem_railPhases_of_leaving (List.mem_of_mem_filter h)

theorem forcedHigh_phases_other {r : Fin 28} {ph : Fin 56} {s : State} (h : ph ∉ railPhases s r) :
    (forcedHigh r s).phases[ph] = s.phases[ph] := by
  rw [forcedHigh_eq]; exact vmods_get_not_mem (fun hm => h (mem_railPhases_of_running hm)) _ _

theorem forcedHigh_phases_pulsed {r : Fin 28} {ph : Fin 56} {s : State} (h : ph ∈ runningPhases s r) :
    (forcedHigh r s).phases[ph].pulsed = true := by
  rw [forcedHigh_eq]
  dsimp only
  rw [vmods_get_mem h]
  exact fun _ => rfl

/-- Forced pulses leave what runs. -/
theorem forcedHigh_phases_run (r : Fin 28) (s : State) (ph : Fin 56) : (forcedHigh r s).phases[ph].run = s.phases[ph].run := by
  rw [forcedHigh_eq]
  refine vmods_get_keeps PhaseState.run ?_ _ _ _
  exact fun _ => rfl

theorem readdEvent_phases_other {r : Fin 28} {ph : Fin 56} {s : State} (h : ph ∉ railPhases s r) (b : Bool) :
    (readdEvent r b s).phases[ph] = s.phases[ph] := by
  rw [readdEvent_eq]; exact vmods_get_not_mem (fun hm => h (mem_railPhases_of_readdKeep hm)) _ _

theorem readdEvent_phases_pulsed (r : Fin 28) (b : Bool) (s : State) (ph : Fin 56) :
    (readdEvent r b s).phases[ph].pulsed = s.phases[ph].pulsed := by
  rw [readdEvent_eq]
  refine vmods_get_keeps PhaseState.pulsed ?_ _ _ _
  exact fun _ => rfl

theorem stepAsserted_phases_other {r : Fin 28} {ph : Fin 56} {s : State} (h : ph ∉ railPhases s r) :
    (stepAsserted r s).phases[ph] = s.phases[ph] := by
  have h₁ : ph ∉ railPhases (modDyn r stepCounted s) r := by rwa [railPhases_modDyn]
  cases hk : s.rails[r].stationKept
  · rw [stepAsserted_free hk, modDyn_phases, readdEvent_phases_other (by rwa [railPhases_forcedHigh]), forcedHigh_phases_other h₁,
      modDyn_phases]
  · rw [stepAsserted_kept hk, forcedHigh_phases_other h₁, modDyn_phases]

/-- The running phases are driven high, and the re-add event leaves them so. -/
theorem stepAsserted_phases_pulsed {r : Fin 28} {ph : Fin 56} {s : State} (h : ph ∈ runningPhases s r) :
    (stepAsserted r s).phases[ph].pulsed = true := by
  have h₁ : ph ∈ runningPhases (modDyn r stepCounted s) r := by rwa [runningPhases_modDyn]
  cases hk : s.rails[r].stationKept
  · rw [stepAsserted_free hk, modDyn_phases, readdEvent_phases_pulsed]
    exact forcedHigh_phases_pulsed h₁
  · rw [stepAsserted_kept hk]
    exact forcedHigh_phases_pulsed h₁

/-- On a station-kept rail no phase starts or stops. -/
theorem stepAsserted_phases_run {r : Fin 28} {s : State} (h : s.rails[r].stationKept = true) (ph : Fin 56) :
    (stepAsserted r s).phases[ph].run = s.phases[ph].run := by
  rw [stepAsserted_kept h, forcedHigh_phases_run, modDyn_phases]

/-! Release and time-out. -/

/-- What a release writes in the rail. -/
def stepReleased (x : RailState) : RailState :=
  { x with dyn := { x.dyn with stepAlarm := false, stepDisabling := x.dyn.stepDisabling && !x.dyn.stepBndry, stepBndry := false } }

/-- A release ends a block (R211). -/
def unblocked (x : RailState) : RailState := { x with dyn := { x.dyn with stepBlocked := false } }

theorem stepRelease_rails (r : Fin 28) (s : State) : (stepRelease r s).rails = vmod s.rails r stepReleased := by
  unfold stepRelease; dsimp only
  cases gangOfRail s r <;> rfl

theorem execStepAlarmRelease_next {s : State} {r : Fin 28} (hp : railPresent s r = true) : ∃ t, exec (.stepAlarmRelease r) s = .next t ∧
    t.rails = vmod s.rails r (fun x => unblocked (if s.rails[r].dyn.stepAlarm then stepReleased x else x)) ∧
    t = { s with rails := t.rails, gangs := t.gangs } := by
  have hrest := execStepAlarmRelease_rest (F := [.rails, .gangs]) (by decide) (by decide) r s
  rw [show exec (.stepAlarmRelease r) s = execStepAlarmRelease r s from rfl]
  rw [execStepAlarmRelease, hp, if_neg (by decide)] at hrest ⊢
  refine ⟨_, rfl, ?_, rest_patch hrest⟩
  cases s.rails[r].dyn.stepAlarm
  · rfl
  · rw [if_pos rfl, modDyn_eq, modRail_rails, stepRelease_rails, vmod_vmod]; rfl

/-- A time-out blocks the alarm and is counted (R211). -/
def timedOut (x : RailState) : RailState := { x with dyn := { x.dyn with stepBlocked := true, tmaxCnt := satAdd max32 x.dyn.tmaxCnt 1 } }

theorem execStepTmaxExpire_next {s : State} {r : Fin 28} (hp : railPresent s r = true) (hal : s.rails[r].dyn.stepAlarm = true) :
    ∃ t, exec (.stepTmaxExpire r) s = .next t ∧ t.rails = vmod s.rails r (fun x => timedOut (stepReleased x)) ∧
      t = { s with rails := t.rails, gangs := t.gangs } := by
  have hrest := execStepTmaxExpire_rest (F := [.rails, .gangs]) (by decide) (by decide) r s
  rw [show exec (.stepTmaxExpire r) s = execStepTmaxExpire r s from rfl]
  rw [execStepTmaxExpire, hp, hal, if_neg (by decide), if_neg (by decide)] at hrest ⊢
  refine ⟨_, rfl, ?_, rest_patch hrest⟩
  rw [modDyn_eq, modRail_rails, stepRelease_rails, vmod_vmod]; rfl

/-- A clear of `STEP_EN` stores 0 and starts the disable where the alarm is on (R237). -/
theorem stepDisableOp_eq (r : Fin 28) (s : State) : stepDisableOp r s =
    if stepOn s r = true ∧ s.rails[r].enabled = true then
      modDyn r (fun d => { d with stepDisabling := true, stepBndry := false }) (s.store (okey (0x3100 + r) 0x0A) 0)
    else s.store (okey (0x3100 + r) 0x0A) 0 := by
  simp only [stepDisableOp, Bool.and_eq_true]

/-- Settles O20: the assertion is `stepAsserted` with its event, release and time-out are `stepReleased`. -/
theorem stepAlarm : Obligations.StepAlarm := by
  intro s r
  refine ⟨fun h => ?_, fun hp h => ?_, fun hp harm hen hdis hal hbl => ?_, fun hp => ?_, fun hp hal => ?_, fun hp hal => ?_,
    fun p row ha hw => ?_⟩
  · simp only [exec, execStepAlarmAssert, execStepAlarmRelease, execStepTmaxExpire, h]; exact ⟨rfl, rfl, rfl⟩
  · show execStepAlarmAssert r s = _
    unfold execStepAlarmAssert
    rw [hp, if_neg (by decide)]
    dsimp only
    rw [if_pos]
    rcases h with h | h | h | h | h <;> simp only [stepOn, h] <;> simp
  · obtain ⟨t, ht, hr, hph⟩ := execStepAlarmAssert_armed hp harm (by rw [stepOn, hen, hdis]; rfl) hal hbl
    have hrest : rest [.links, .rails, .phases, .gangs, .evc, .tw] t = rest [.links, .rails, .phases, .gangs, .evc, .tw] s := by
      have := execStepAlarmAssert_rest (F := [.links, .rails, .phases, .gangs, .evc, .tw]) (by decide) (by decide) (by decide)
        (by decide) (by decide) (by decide) r s
      rwa [show execStepAlarmAssert r s = _ from ht] at this
    obtain ⟨h1, h2, h3, h4, h5⟩ := stepAsserted_rail r s
    refine ⟨t, ht, ?_⟩
    simp only [hr, hph]
    refine ⟨h1, h2, fun hk => ?_, fun hk => ?_, h3, fun ph => stepAsserted_phases_pulsed, fun ph => stepAsserted_phases_other,
      h4, h5, fun j hj => stepAsserted_rails_other hj s, ?_⟩
    · obtain ⟨n, h⟩ := stepAsserted_rail_free hk
      rw [h]; exact ⟨rfl, rfl, rfl⟩
    · rw [stepAsserted_rail_kept hk]; exact ⟨rfl, rfl, stepAsserted_phases_run hk⟩
    · rw [← hr, ← hph]; exact rest_patch hrest
  · obtain ⟨t, ht, hr, hframe⟩ := execStepAlarmRelease_next hp
    have hother : ∀ j : Fin 28, j ≠ r → t.rails[j] = s.rails[j] := fun j hj => by rw [hr, vmod_get_ne hj]
    refine ⟨t, ht, ?_⟩
    rw [show t.rails[r] = _ by rw [hr, vmod_get]]
    cases h : s.rails[r].dyn.stepAlarm
    · exact ⟨h, rfl, rfl, rfl, rfl, hother, hframe⟩
    · exact ⟨rfl, rfl, rfl, rfl, rfl, hother, hframe⟩
  · show execStepTmaxExpire r s = _
    rw [execStepTmaxExpire, hp, hal, if_neg (by decide)]; rfl
  · obtain ⟨t, ht, hr, hframe⟩ := execStepTmaxExpire_next hp hal
    refine ⟨t, ht, ?_, ?_, ?_, ?_, fun j hj => by rw [hr, vmod_get_ne hj], hframe⟩ <;> (rw [hr, vmod_get]; rfl)
  · show Host.Outcome.next (directWrite p (okey (0x3100 + r) 0x0A) s _) = _
    rw [directWrite_ok (by decide) ha hw, stepDisableOp_eq]
    simp only [stepOn, Bool.and_eq_true, Bool.not_eq_true', and_assoc]
    split <;> rfl

end Sys2Proof.Proofs

namespace Sys2Proof.Proofs

open Sys2Proof.Machine Sys2Proof.Laws

/-! ### A period without samples (R164 to R171)

What stands through the slots, the end of the period and the advance of L. -/

/-- From `s` to `t` rail `r` ran: its loop, its pulses and the pulse state of its own phases may have changed, and its dies' L. -/
structure RailRan (r : Fin 28) (s t : State) : Prop where
  rest : rest [.rails, .phases, .dies] t = rest [.rails, .phases, .dies] s
  others : ∀ j, j ≠ r → t.rails[j] = s.rails[j]
  rail : ∃ b l, t.rails[r] = { s.rails[r] with pulsed := b, loop := l }
  phases : ∀ ph, ph ∉ railPhases s r → t.phases[ph] = s.phases[ph]
  run : ∀ ph : Fin 56, t.phases[ph].run = s.phases[ph].run
  left : ∀ ph : Fin 56, s.phases[ph].run = .leaving → s.phases[ph].leaveCnt ≤ t.phases[ph].leaveCnt

namespace RailRan

theorem refl (r : Fin 28) (s : State) : RailRan r s s :=
  ⟨rfl, fun _ _ => rfl, ⟨_, _, rfl⟩, fun _ _ => rfl, fun _ => rfl, fun _ _ => Nat.le_refl _⟩

variable {r : Fin 28} {s t u : State} (h : RailRan r s t)
include h

theorem sameCfg : SameCfg s t := by
  refine sameCfg_of_rest h.rest (by decide) (by decide) (by decide) (by decide) fun j => ?_
  by_cases e : j = r
  · obtain ⟨b, l, hr⟩ := h.rail
    rw [e, hr]
  · rw [h.others j e]

theorem railPhases : Machine.railPhases t r = Machine.railPhases s r := by
  obtain ⟨b, l, hr⟩ := h.rail
  exact h.sameCfg.railPhases (by rw [hr]) (by rw [hr])

theorem activePhases : Machine.activePhases t r = Machine.activePhases s r := by
  simp only [Machine.activePhases, h.railPhases, h.run]

theorem leavingPhases : Machine.leavingPhases t r = Machine.leavingPhases s r := by
  simp only [Machine.leavingPhases, h.railPhases, h.run]

theorem runningPhases : Machine.runningPhases t r = Machine.runningPhases s r := by
  simp only [Machine.runningPhases, h.railPhases, h.run]

theorem dyn : t.rails[r].dyn = s.rails[r].dyn := by obtain ⟨b, l, hr⟩ := h.rail; rw [hr]
theorem enabled : t.rails[r].enabled = s.rails[r].enabled := by obtain ⟨b, l, hr⟩ := h.rail; rw [hr]
theorem stationKept : t.rails[r].stationKept = s.rails[r].stationKept := by obtain ⟨b, l, hr⟩ := h.rail; rw [hr]

theorem trans (k : RailRan r t u) : RailRan r s u := by
  refine ⟨k.rest.trans h.rest, fun j e => (k.others j e).trans (h.others j e), ?_, fun ph e => ?_, fun ph => (k.run ph).trans (h.run ph),
    fun ph e => (h.left ph e).trans (k.left ph ((h.run ph).trans e))⟩
  · obtain ⟨b, l, hr⟩ := h.rail
    obtain ⟨b', l', hr'⟩ := k.rail
    exact ⟨b', l', by rw [hr', hr]⟩
  · rw [k.phases ph (by rwa [h.railPhases]), h.phases ph e]

end RailRan

theorem railRan_modPhase {r : Fin 28} {s : State} {ph : Fin 56} (hm : ph ∈ railPhases s r) {f : PhaseState → PhaseState}
    (hf : ∀ p, (f p).run = p.run ∧ (f p).leaveCnt = p.leaveCnt) : RailRan r s (modPhase ph f s) :=
  ⟨rest_with_phases (by decide) s _, fun _ _ => rfl, ⟨_, _, rfl⟩, fun q hq => vmod_get_ne (fun e : q = ph => hq (e ▸ hm)) _ _,
    fun q => vmod_get_keeps PhaseState.run (fun p => (hf p).1) _ _ q,
    fun q _ => (vmod_get_keeps PhaseState.leaveCnt (fun p => (hf p).2) s.phases ph q).ge⟩

theorem railRan_pulsed (r : Fin 28) (s : State) : RailRan r s (modRail r (fun x => { x with pulsed := true }) s) :=
  ⟨rest_with_rails (by decide) s _, fun _ e => vmod_get_ne e _ _, ⟨_, _, vmod_get _ _ _⟩, fun _ _ => rfl, fun _ => rfl, fun _ _ => Nat.le_refl _⟩

theorem railRan_modLoop (r : Fin 28) (f : LoopState → LoopState) (s : State) : RailRan r s (modLoop r f s) :=
  ⟨rest_with_rails (by decide) s _, fun _ e => vmod_get_ne e _ _, ⟨_, _, vmod_get _ _ _⟩, fun _ _ => rfl, fun _ => rfl, fun _ _ => Nat.le_refl _⟩

theorem railRan_modDie (r : Fin 28) (k : Fin 7) (f : DieState → DieState) (s : State) : RailRan r s (modDie k f s) :=
  ⟨rest_with_dies (by decide) s _, fun _ _ => rfl, ⟨_, _, rfl⟩, fun _ _ => rfl, fun _ => rfl, fun _ _ => Nat.le_refl _⟩

theorem railRan_foldl {α : Type} {r : Fin 28} (g : State → α → State) (l : List α) {s : State}
    (h : ∀ t x, RailRan r s t → x ∈ l → RailRan r t (g t x)) : RailRan r s (l.foldl g s) := by
  suffices ∀ t, RailRan r s t → RailRan r s (l.foldl g t) from this s (.refl r s)
  induction l with
  | nil => exact fun _ ht => ht
  | cons x l ih =>
    intro t ht
    exact ih (fun t y ht hy => h t y ht (List.mem_cons_of_mem _ hy)) _ (ht.trans (h t x ht List.mem_cons_self))

theorem slotFire_ran {r : Fin 28} {ph : Fin 56} {s : State} (hm : ph ∈ railPhases s r) : RailRan r s (slotFire r ph s) := by
  unfold slotFire
  extract_lets p d out s1
  have h₁ : RailRan r s s1 := by
    refine railRan_modPhase hm ?_
    exact fun _ => ⟨rfl, rfl⟩
  split
  · exact .refl r s
  · split
    · exact h₁.trans (railRan_pulsed r s1)
    · exact h₁

/-- The slots of a period are of the rail's phases. -/
theorem mem_railPhases_of_slot {r : Fin 28} {s : State} {x : Nat × Fin 56} (h : x ∈ periodSlots s r) : x.2 ∈ railPhases s r := by
  unfold periodSlots at h
  rw [List.mem_filterMap] at h
  obtain ⟨i, -, hi⟩ := h
  rw [Option.map_eq_some_iff] at hi
  obtain ⟨ph, hp, rfl⟩ := hi
  exact mem_railPhases_of_running (List.mem_of_getElem? hp)

theorem mem_railPhases_of_phaseAt {r : Fin 28} {s : State} {n : Nat} {ph : Fin 56} (h : phaseAt s r n = some ph) : ph ∈ railPhases s r :=
  mem_railPhases_of_running (List.mem_of_getElem? h)

theorem takeCurrents_nil (r : Fin 28) (s : State) : takeCurrents r [] s = s := by
  have h : ∀ l : List (Fin 56 × Nat), l.foldl (fun a x => match imonMean [] x.2 with
      | none => a
      | some uv => modPhase x.1 (fun p =>
        let i := phaseCurrent p uv
        { p with iAvg := i, balSum := p.balSum + i, balNum := p.balNum + 1 }) a) s = s := by
    intro l
    induction l with
    | nil => rfl
    | cons x l ih => exact ih
  exact h _

/-- The count of the periods behind a LEAVING phase (R217), at the end of a period. -/
def leaveStep (p : PhaseState) : PhaseState := { p with withheld := false, leaveCnt := if p.run = .leaving then p.leaveCnt + 1 else 0 }

/-- The count of a LEAVING phase never falls, -/
theorem leaveCnt_le_vmods {v : Vector PhaseState 56} {ph : Fin 56} (h : v[ph].run = .leaving) (l : List (Fin 56)) :
    v[ph].leaveCnt ≤ (vmods v l leaveStep)[ph].leaveCnt := by
  induction l generalizing v with
  | nil => exact Nat.le_refl _
  | cons q l ih =>
    rw [vmods_cons]
    have hrun : (vmod v q leaveStep)[ph].run = .leaving := by rw [vmod_get_keeps PhaseState.run (f := leaveStep) (fun _ => rfl), h]
    refine Nat.le_trans ?_ (ih hrun)
    by_cases e : ph = q
    · subst e; rw [vmod_get, leaveStep, if_pos h]; exact Nat.le_succ _
    · rw [vmod_get_ne e]

/-- and grows where the phase is listed. -/
theorem leaveCnt_lt_vmods {v : Vector PhaseState 56} {ph : Fin 56} (h : v[ph].run = .leaving) {l : List (Fin 56)} (hm : ph ∈ l) :
    v[ph].leaveCnt < (vmods v l leaveStep)[ph].leaveCnt := by
  induction l generalizing v with
  | nil => cases hm
  | cons q l ih =>
    rw [vmods_cons]
    have hrun : (vmod v q leaveStep)[ph].run = .leaving := by rw [vmod_get_keeps PhaseState.run (f := leaveStep) (fun _ => rfl), h]
    by_cases e : ph = q
    · subst e
      refine Nat.lt_of_lt_of_le ?_ (leaveCnt_le_vmods hrun l)
      rw [vmod_get, leaveStep, if_pos h]; exact Nat.lt_succ_self _
    · have h₁ := ih hrun ((List.mem_cons.mp hm).resolve_left e)
      rwa [vmod_get_ne e] at h₁

/-- The slots of a period without samples. -/
def slotsRun (r : Fin 28) (s : State) : State :=
  let s1 := match s.rails[r].enabled, phaseAt s r s.rails[r].loop.lead with
    | true, some ph => modPhase ph (fun p => { p with leadCnt := satAdd max32 p.leadCnt 1 }) s
    | _, _ => s
  (if s.rails[r].enabled then periodSlots s r else []).foldl (fun a x => slotFire r x.2 a) s1

theorem slotsRun_ran (r : Fin 28) (s : State) : RailRan r s (slotsRun r s) := by
  unfold slotsRun
  extract_lets s1
  have h₁ : RailRan r s s1 := by
    unfold s1
    split
    · next ph _ hph =>
      refine railRan_modPhase (mem_railPhases_of_phaseAt hph) ?_
      exact fun _ => ⟨rfl, rfl⟩
    · exact .refl r s
  refine h₁.trans (railRan_foldl _ _ fun t x ht hx => slotFire_ran ?_)
  rw [ht.railPhases, h₁.railPhases]
  split at hx
  · exact mem_railPhases_of_slot hx
  · cases hx

theorem endPeriod_nil (r : Fin 28) (s : State) :
    endPeriod r [] s = { slotsRun r s with phases := vmods (slotsRun r s).phases (railPhases s r) leaveStep } := by
  have h : endPeriod r [] s = (railPhases (takeCurrents r [] (slotsRun r s)) r).foldl (fun a ph => modPhase ph leaveStep a)
      (takeCurrents r [] (slotsRun r s)) := rfl
  rw [h, takeCurrents_nil, (slotsRun_ran r s).railPhases, modPhases_eq]

/-- The state before the boundary acts: the slots, the counts of the LEAVING phases, and the advance of L. -/
def beforeBoundary (r : Fin 28) (s : State) : State := advanceLead r (endPeriod r [] s)

theorem advanceLead_ran (r : Fin 28) (s : State) : RailRan r s (advanceLead r s) := by
  unfold advanceLead
  extract_lets n l turn s1
  have h₁ : RailRan r s s1 := railRan_modLoop r _ s
  split
  · exact h₁.trans (railRan_foldl _ _ fun t k _ _ => railRan_modDie r k _ t)
  · exact h₁

theorem endPeriod_ran (r : Fin 28) (s : State) : RailRan r s (endPeriod r [] s) := by
  have h := slotsRun_ran r s
  refine h.trans ?_
  rw [endPeriod_nil]
  refine ⟨rest_with_phases (by decide) _ _, fun _ _ => rfl, ⟨_, _, rfl⟩, fun ph hn => ?_, fun ph => ?_,
    fun ph hl => leaveCnt_le_vmods hl _⟩
  · exact vmods_get_not_mem (by rwa [h.railPhases] at hn) _ _
  · exact vmods_get_keeps PhaseState.run (f := leaveStep) (fun _ => rfl) _ _ _

/-- A LEAVING phase has one more period behind it (R217). -/
theorem beforeBoundary_left {r : Fin 28} {s : State} {ph : Fin 56} (h : ph ∈ leavingPhases s r) :
    s.phases[ph].leaveCnt < (beforeBoundary r s).phases[ph].leaveCnt := by
  have hrun : s.phases[ph].run = .leaving := of_decide_eq_true (List.mem_filter.mp h).2
  have h₁ := slotsRun_ran r s
  have hrun₁ : (slotsRun r s).phases[ph].run = .leaving := (h₁.run ph).trans hrun
  refine Nat.lt_of_lt_of_le ?_ ((advanceLead_ran r (endPeriod r [] s)).left ph ?_)
  · rw [endPeriod_nil]
    exact Nat.lt_of_le_of_lt (h₁.left ph hrun) (leaveCnt_lt_vmods hrun₁ (mem_railPhases_of_leaving h))
  · exact ((endPeriod_ran r s).run ph).trans hrun

theorem beforeBoundary_ran (r : Fin 28) (s : State) : RailRan r s (beforeBoundary r s) :=
  (endPeriod_ran r s).trans (advanceLead_ran r _)

/-! ### The boundary (R171, R173, R216 to R223) -/

/-- From `s` to `t` a boundary ends: its epoch and its settings. -/
structure BoundaryEnded (r : Fin 28) (s t : State) : Prop where
  phases : t.phases = s.phases
  gangs : t.gangs = s.gangs
  others : ∀ j, j ≠ r → t.rails[j] = s.rails[j]
  dyn : ∃ a b c d, t.rails[r].dyn = { s.rails[r].dyn with stepThr := a, stepTmax := b, stepDisabling := c, stepBndry := d }
  lead : t.rails[r].loop.lead = s.rails[r].loop.lead ∨ t.rails[r].loop.lead = 0

theorem BoundaryEnded.trans {r : Fin 28} {s t u : State} (h : BoundaryEnded r s t) (k : BoundaryEnded r t u) : BoundaryEnded r s u := by
  refine ⟨k.phases.trans h.phases, k.gangs.trans h.gangs, fun j e => (k.others j e).trans (h.others j e), ?_, ?_⟩
  · obtain ⟨_, _, _, _, hd⟩ := h.dyn
    obtain ⟨a, b, c, d, kd⟩ := k.dyn
    exact ⟨a, b, c, d, by rw [kd, hd]⟩
  · rcases k.lead with e | e
    · rw [e]; exact h.lead
    · exact .inr e

/-- What an epoch writes in the loop (R173). -/
def epochLoop (n st : Nat) (en : Bool) (l : LoopState) : LoopState :=
  { l with lead := 0, epochCnt := 0, strideSet := st, rotOn := en, stride := effStride n st }

theorem epochWith_eq (r : Fin 28) (st : Nat) (en : Bool) (s : State) : epochWith r st en s = modLoop r (epochLoop (railN s r) st en) s := rfl

/-- An epoch only writes the loop's rotation, L to 0 (R173). -/
theorem epoch_eq (r : Fin 28) (s : State) : ∃ f : LoopState → LoopState, epoch r s = modLoop r f s ∧ ∀ l, (f l).lead = 0 := by
  unfold epoch
  split <;> exact ⟨_, epochWith_eq r _ _ s, fun _ => rfl⟩

theorem epoch_lead (r : Fin 28) (s : State) : (epoch r s).rails[r].loop.lead = 0 := by
  obtain ⟨f, h, hf⟩ := epoch_eq r s
  rw [h, modLoop_eq, modRail, vmod_get]; exact hf _

theorem epoch_dyn (r : Fin 28) (s : State) : (epoch r s).rails[r].dyn = s.rails[r].dyn := by
  obtain ⟨f, h, -⟩ := epoch_eq r s
  rw [h, modLoop_eq, modRail, vmod_get]

theorem epoch_ended (r : Fin 28) (s : State) : BoundaryEnded r s (epoch r s) := by
  refine ⟨?_, ?_, fun j e => ?_, ⟨_, _, _, _, epoch_dyn r s⟩, .inr (epoch_lead r s)⟩ <;> obtain ⟨f, h, -⟩ := epoch_eq r s <;> rw [h]
  · rfl
  · rfl
  · exact vmod_get_ne e _ _

theorem boundarySettings_ended (r : Fin 28) (s : State) : BoundaryEnded r s (boundarySettings r s) := by
  refine ⟨rfl, rfl, fun j e => vmod_get_ne e _ _, ?_, .inl ?_⟩ <;> rw [boundarySettings, modRail, vmod_get]
  exact ⟨_, _, _, _, rfl⟩

/-- The epoch that comes every N periods, and the settings. -/
def boundaryClose (r : Fin 28) (s : State) : State :=
  boundarySettings r (if railN s r ≤ s.rails[r].loop.epochCnt then epoch r s else s)

theorem boundaryClose_ended (r : Fin 28) (s : State) : BoundaryEnded r s (boundaryClose r s) := by
  unfold boundaryClose
  split
  · exact (epoch_ended r s).trans (boundarySettings_ended r _)
  · exact boundarySettings_ended r s

theorem boundaryOp_nil {r : Fin 28} {s : State} (he : s.rails[r].enabled = true) :
    boundaryOp r [] s = boundarySettings r (boundaryPhases r (beforeBoundary r s)) := by
  have h : (endPeriod r [] s).rails[r].enabled = true := (endPeriod_ran r s).enabled.trans he
  unfold boundaryOp beforeBoundary
  dsimp only
  rw [if_neg (by rw [h]; decide)]

theorem boundaryOp_nil_rest {r : Fin 28} {s : State} (he : s.rails[r].enabled = true) :
    rest [.rails, .phases, .gangs, .dies] (boundaryOp r [] s) = rest [.rails, .phases, .gangs, .dies] s := by
  rw [boundaryOp_nil he, boundarySettings_rest (by decide), boundaryPhases_rest (by decide) (by decide) (by decide) (by decide)]
  exact rest_mono (by decide) (beforeBoundary_ran r s).rest

theorem boundaryOp_nil_frame {r : Fin 28} {s : State} (he : s.rails[r].enabled = true) :
    boundaryOp r [] s = { s with
      rails := (boundaryOp r [] s).rails, phases := (boundaryOp r [] s).phases, gangs := (boundaryOp r [] s).gangs
      dies := (boundaryOp r [] s).dies } :=
  rest_patch (boundaryOp_nil_rest he)

theorem atBoundary_next {r : Fin 28} {m : List SnsMeas} {s : State} (hp : railPresent s r = true) (b : Bool) :
    atBoundary r b m s = .next (if dieArmed s && b then boundaryOp r m s else s) := by
  rw [atBoundary, hp]; rfl

/-- On a rail that is not ganged, with no re-add pending. -/
theorem boundaryOp_free {r : Fin 28} {s s1 : State} (he : s.rails[r].enabled = true) (hr : s.rails[r].dyn.readdPend = false)
    (h1 : (if leftPhases (beforeBoundary r s) r = [] then beforeBoundary r s
      else shedEnd r (leftPhases (beforeBoundary r s) r) (beforeBoundary r s)) = s1) (hg : gangOfRail s1 r = none) :
    boundaryOp r [] s = boundaryClose r (shedBegin r s1) := by
  rw [boundaryOp_nil he, boundaryPhases, (beforeBoundary_ran r s).dyn, hr, if_neg (by decide)]
  dsimp only
  rw [h1, hg]; rfl

/-- The LEAVING phases that have three periods behind them have left at the boundary (R217). -/
theorem leftPhases_beforeBoundary {r : Fin 28} {s : State} (h : ∀ ph ∈ leavingPhases s r, 3 ≤ s.phases[ph].leaveCnt) :
    leftPhases (beforeBoundary r s) r = leavingPhases s r := by
  rw [leftPhases, (beforeBoundary_ran r s).leavingPhases, List.filter_eq_self]
  exact fun ph hm => decide_eq_true (Nat.lt_of_le_of_lt (h ph hm) (beforeBoundary_left hm))

/-- The phase that starts to leave. -/
def phaseLeaves (p : PhaseState) : PhaseState := { p with run := .leaving, leaveCnt := 0 }

theorem shedBegin_due {r : Fin 28} {s : State} {ph : Fin 56} (hd : s.rails[r].dyn.shedDue = true) (ha : (activePhases s r).getLast? = some ph) :
    shedBegin r s = modDyn r (fun d => { d with shedDue := false }) (modPhase ph phaseLeaves s) := by
  rw [shedBegin, hd, ha]; rfl

theorem shedBegin_none {r : Fin 28} {s : State} (hd : s.rails[r].dyn.shedDue = false) : shedBegin r s = s := by
  rw [shedBegin, hd]

/-- A phase that has left (R217). -/
def phaseShed (p : PhaseState) : PhaseState := { p with run := .shed, leaveCnt := 0 }

/-- A phase that is kept or returns (R218, R222). -/
def phaseActive (p : PhaseState) : PhaseState := { p with run := .active, leaveCnt := 0 }

theorem phasesBack_eq (l : List (Fin 56)) (s : State) :
    l.foldl (fun a ph => phaseBack ph a) s = { s with phases := vmods s.phases l phaseActive } :=
  modPhases_eq l phaseActive s

/-- A shed that completes (R217). -/
theorem shedEnd_done {r : Fin 28} {s : State} (l : List (Fin 56)) (hr : s.rails[r].dyn.readdPend = false)
    (ha : s.rails[r].dyn.stepAlarm = false) (hh : s.rails[r].dyn.holdoff = false) (hk : s.rails[r].stationKept = false) :
    shedEnd r l s = epoch r (modDyn r (fun d => { d with shedCnt := satAdd max32 d.shedCnt 1, dwellRun := true })
      { s with phases := vmods s.phases l phaseShed }) := by
  rw [shedEnd, ← modPhases_eq]
  simp only [hr, ha, hh, hk]; rfl

/-- A shed that R218 forbids. -/
theorem shedEnd_keep {r : Fin 28} {s : State} (l : List (Fin 56))
    (h : s.rails[r].dyn.stepAlarm = true ∨ s.rails[r].dyn.holdoff = true ∨ s.rails[r].stationKept = true) :
    shedEnd r l s = modDyn r (fun d => { d with keepCnt := satAdd max32 d.keepCnt l.length })
      { s with phases := vmods s.phases l phaseActive } := by
  rw [← phasesBack_eq]
  unfold shedEnd
  dsimp only
  rw [if_neg]
  rcases h with h | h | h <;> rw [h] <;> simp

theorem shedEnd_gangs (r : Fin 28) (l : List (Fin 56)) (s : State) : (shedEnd r l s).gangs = s.gangs :=
  rest_gangs (shedEnd_rest (F := [.rails, .phases]) (by decide) (by decide) r l s) (by decide)

theorem gangOfRail_congr {s t : State} (h : t.gangs = s.gangs) (r : Fin 28) : gangOfRail t r = gangOfRail s r := by
  simp only [gangOfRail, gangStands, h]

theorem shedAsked_congr {s t : State} (h : t.gangs = s.gangs) (r : Fin 28) : shedAsked t r = shedAsked s r := by
  simp only [shedAsked, gangOfRail_congr h, h]

theorem RailRan.gangs {r : Fin 28} {s t : State} (h : RailRan r s t) : t.gangs = s.gangs := rest_gangs h.rest (by decide)

/-- The change under handshake is dropped on its group only. -/
theorem dropGangChange_gangs (g : Fin 4) (s : State) : (dropGangChange g s).gangs =
    vmod s.gangs g fun x => { x with change := none, waiting := [], epochDue := false } := by
  have h : ∀ (l : List (Fin 7)) (f : DieState → DieState) (t : State), (l.foldl (fun a k => modDie k f a) t).gangs = t.gangs := by
    intro l f
    induction l with
    | nil => exact fun _ => rfl
    | cons k l ih => exact fun t => ih _
  exact h _ _ _

/-! ### A shed, its completion and the re-add epoch -/

/-- A shed that is due starts at its boundary on a rail that is not ganged (R216). -/
theorem boundaryOp_shedStart {r : Fin 28} {s : State} {ph : Fin 56} (he : s.rails[r].enabled = true) (hg : gangOfRail s r = none)
    (hr : s.rails[r].dyn.readdPend = false) (hd : s.rails[r].dyn.shedDue = true) (hl : leavingPhases s r = [])
    (ha : (activePhases s r).getLast? = some ph) :
    boundaryOp r [] s = boundaryClose r (modDyn r (fun d => { d with shedDue := false }) (modPhase ph phaseLeaves (beforeBoundary r s))) := by
  have hran := beforeBoundary_ran r s
  have hleft : leftPhases (beforeBoundary r s) r = [] := by rw [leftPhases_beforeBoundary] <;> simp only [hl]; simp
  rw [boundaryOp_free he hr (if_pos hleft) ((gangOfRail_congr hran.gangs r).trans hg),
    shedBegin_due (by rw [hran.dyn, hd]) (by rw [hran.activePhases, ha])]

theorem modPhase_rails (ph : Fin 56) (f : PhaseState → PhaseState) (s : State) : (modPhase ph f s).rails = s.rails := rfl

theorem shedStart_next {r : Fin 28} {s : State} {ph : Fin 56} (he : s.rails[r].enabled = true) (hg : gangOfRail s r = none)
    (hr : s.rails[r].dyn.readdPend = false) (hd : s.rails[r].dyn.shedDue = true) (hl : leavingPhases s r = [])
    (ha : (activePhases s r).getLast? = some ph) :
    ∃ t, boundaryOp r [] s = t ∧ t.phases[ph].run = .leaving ∧ t.phases[ph].leaveCnt = 0 ∧
      t.rails[r].dyn.shedDue = false ∧ (∀ j : Fin 56, j ≠ ph → t.phases[j].run = s.phases[j].run) ∧
      (∀ j : Fin 28, j ≠ r → t.rails[j] = s.rails[j]) := by
  have hran := beforeBoundary_ran r s
  obtain ⟨t, ht, hend⟩ : ∃ t, boundaryOp r [] s = t ∧
      BoundaryEnded r (modDyn r (fun d => { d with shedDue := false }) (modPhase ph phaseLeaves (beforeBoundary r s))) t :=
    ⟨_, boundaryOp_shedStart he hg hr hd hl ha, boundaryClose_ended r _⟩
  obtain ⟨_, _, _, _, hdyn⟩ := hend.dyn
  have hph : t.phases = vmod (beforeBoundary r s).phases ph phaseLeaves := hend.phases
  refine ⟨t, ht, ?_⟩
  rw [hph, hdyn, modDyn_eq, modRail, vmod_get, vmod_get]
  refine ⟨rfl, rfl, rfl, fun j e => ?_, fun j e => ?_⟩
  · rw [vmod_get_ne e, hran.run]
  · rw [hend.others j e, modDyn_eq, modRail, vmod_get_ne e, modPhase_rails, hran.others j e]

/-- A shed that completes, or is kept (R217 to R219). -/
theorem boundaryOp_shedComplete {r : Fin 28} {s : State} (he : s.rails[r].enabled = true) (hg : gangOfRail s r = none)
    (hn : leavingPhases s r ≠ []) (hl : ∀ ph ∈ leavingPhases s r, 3 ≤ s.phases[ph].leaveCnt)
    (hr : s.rails[r].dyn.readdPend = false) (hd : s.rails[r].dyn.shedDue = false) :
    boundaryOp r [] s = boundaryClose r (shedEnd r (leavingPhases s r) (beforeBoundary r s)) := by
  have hran := beforeBoundary_ran r s
  have hleft := leftPhases_beforeBoundary hl
  have hdue : (shedEnd r (leavingPhases s r) (beforeBoundary r s)).rails[r].dyn.shedDue = false := by
    rw [← hd, ← hran.dyn]
    generalize beforeBoundary r s = u
    unfold shedEnd
    dsimp only
    split
    · rw [epoch_dyn, modPhases_eq, modDyn_eq, modRail, vmod_get]
    · rw [phasesBack_eq, modDyn_eq, modRail, vmod_get]
  rw [boundaryOp_free he hr (by rw [hleft, if_neg hn]) ?_, shedBegin_none hdue]
  rw [gangOfRail_congr (shedEnd_gangs r _ _), gangOfRail_congr hran.gangs, hg]

/-- The phases of a shed that completes are SHED, L is 0 and the shed is counted. -/
theorem shedComplete_done {r : Fin 28} {u : State} (l : List (Fin 56)) (hr : u.rails[r].dyn.readdPend = false)
    (ha : u.rails[r].dyn.stepAlarm = false) (hh : u.rails[r].dyn.holdoff = false) (hk : u.rails[r].stationKept = false) :
    let t := boundaryClose r (shedEnd r l u)
    t.phases = vmods u.phases l phaseShed ∧ t.rails[r].loop.lead = 0 ∧
      t.rails[r].dyn.shedCnt = satAdd max32 u.rails[r].dyn.shedCnt 1 ∧ t.rails[r].dyn.keepCnt = u.rails[r].dyn.keepCnt ∧
      ∀ j, j ≠ r → t.rails[j] = u.rails[j] := by
  intro t
  have hend : BoundaryEnded r _ t := boundaryClose_ended r _
  rw [shedEnd_done l hr ha hh hk] at hend
  have hep := epoch_ended r (modDyn r (fun d => { d with shedCnt := satAdd max32 d.shedCnt 1, dwellRun := true })
    { u with phases := vmods u.phases l phaseShed })
  have hlead : t.rails[r].loop.lead = 0 := hend.lead.elim (fun e => e.trans (epoch_lead r _)) id
  have hall := hep.trans hend
  obtain ⟨_, _, _, _, hdyn⟩ := hall.dyn
  rw [modDyn_eq, modRail, vmod_get] at hdyn
  refine ⟨hall.phases, hlead, by rw [hdyn], by rw [hdyn], fun j e => (hall.others j e).trans ?_⟩
  rw [modDyn_eq, modRail, vmod_get_ne e]

/-- The phases of a shed that R218 forbids are ACTIVE and counted as kept. -/
theorem shedComplete_keep {r : Fin 28} {u : State} (l : List (Fin 56))
    (h : u.rails[r].dyn.stepAlarm = true ∨ u.rails[r].dyn.holdoff = true ∨ u.rails[r].stationKept = true) :
    let t := boundaryClose r (shedEnd r l u)
    t.phases = vmods u.phases l phaseActive ∧ t.rails[r].dyn.shedCnt = u.rails[r].dyn.shedCnt ∧
      t.rails[r].dyn.keepCnt = satAdd max32 u.rails[r].dyn.keepCnt l.length ∧ ∀ j, j ≠ r → t.rails[j] = u.rails[j] := by
  intro t
  have hend : BoundaryEnded r _ t := boundaryClose_ended r _
  rw [shedEnd_keep l h] at hend
  obtain ⟨_, _, _, _, hdyn⟩ := hend.dyn
  rw [modDyn_eq, modRail, vmod_get] at hdyn
  refine ⟨hend.phases, by rw [hdyn], by rw [hdyn], fun j e => (hend.others j e).trans ?_⟩
  rw [modDyn_eq, modRail, vmod_get_ne e]

/-- The rail after a re-add epoch (R222, R225). -/
def readdDone (n : Nat) (d : DynState) : DynState :=
  { d with
    readdPend := false, shedDue := false, readdCnt := satAdd max32 d.readdCnt 1, phmDisabling := false
    keepCnt := satAdd max32 d.keepCnt n }

/-- The groups as a re-add epoch leaves them (R223). -/
def readdGangs (r : Fin 28) (s : State) : State :=
  match gangOfRail s r with | some g => dropGangChange g s | none => s

theorem readdGangs_rest (r : Fin 28) (s : State) : rest [.gangs, .dies] (readdGangs r s) = rest [.gangs, .dies] s := by
  unfold readdGangs
  split
  · exact dropGangChange_rest (by decide) (by decide) _ _
  · rfl

theorem readdGangs_change {r : Fin 28} {s : State} {g : Fin 4} (h : gangOfRail s r = some g) : (readdGangs r s).gangs[g].change = none := by
  rw [readdGangs, h]
  dsimp only
  rw [dropGangChange_gangs, vmod_get]

theorem readdEpochOp_eq (r : Fin 28) (s : State) : readdEpochOp r s =
    epoch r (modDyn r (readdDone ((leavingPhases s r).length + bit (shedAsked s r)))
      (readdGangs r { s with phases := vmods s.phases (railPhases s r) phaseActive })) := by
  have hg : gangOfRail { s with phases := vmods s.phases (railPhases s r) phaseActive } r = gangOfRail s r := gangOfRail_congr rfl r
  rw [readdGangs, hg, ← phasesBack_eq]; rfl

theorem boundaryOp_readd {r : Fin 28} {s : State} (he : s.rails[r].enabled = true) (hr : s.rails[r].dyn.readdPend = true) :
    boundaryOp r [] s = boundarySettings r (readdEpochOp r (beforeBoundary r s)) := by
  rw [boundaryOp_nil he, boundaryPhases, (beforeBoundary_ran r s).dyn, hr, if_pos rfl]

theorem readdBoundary (r : Fin 28) (u : State) :
    let t := boundarySettings r (readdEpochOp r u)
    t.phases = vmods u.phases (railPhases u r) phaseActive ∧ t.rails[r].loop.lead = 0 ∧
      (∃ a b c d, t.rails[r].dyn = { readdDone ((leavingPhases u r).length + bit (shedAsked u r)) u.rails[r].dyn with
        stepThr := a, stepTmax := b, stepDisabling := c, stepBndry := d }) ∧
      (∀ g, gangOfRail u r = some g → t.gangs[g].change = none) ∧ ∀ j, j ≠ r → t.rails[j] = u.rails[j] := by
  intro t
  have hend : BoundaryEnded r _ t := boundarySettings_ended r _
  rw [readdEpochOp_eq] at hend
  have hgr := readdGangs_rest r { u with phases := vmods u.phases (railPhases u r) phaseActive }
  have hall := (epoch_ended r _).trans hend
  refine ⟨?_, hend.lead.elim (fun e => e.trans (epoch_lead r _)) id, ?_, fun g hg => ?_, fun j e => ?_⟩
  · rw [hall.phases, modDyn_phases, rest_phases hgr (by decide)]
  · obtain ⟨a, b, c, d, hdyn⟩ := hall.dyn
    rw [modDyn_eq, modRail, vmod_get, rest_rails hgr (by decide)] at hdyn
    exact ⟨a, b, c, d, hdyn⟩
  · rw [hall.gangs]
    exact readdGangs_change (gangOfRail_congr (s := u) rfl r ▸ hg)
  · rw [hall.others j e, modDyn_eq, modRail, vmod_get_ne e, rest_rails hgr (by decide)]

/-! ### The end of the dwell, the re-add threshold and the disable -/

theorem shedDwellExpire_next {r : Fin 28} {s : State} (hp : railPresent s r = true) (hd : dwellHolds s r = true)
    (hn : s.rails[r].dyn.shedDue = false) : exec (.shedDwellExpire r) s =
      .next (match gangOfRail s r with
        | some g => gangSettings g (modDyn r (fun d => { d with shedDue := true, dwellRun := false }) s)
        | none => modDyn r (fun d => { d with shedDue := true, dwellRun := false }) s) := by
  show execShedDwellExpire r s = _
  rw [execShedDwellExpire, hp, hd, hn]; rfl

/-- A change that is asked is asked of its group only. -/
theorem gangRequest_eq (g : Fin 4) (c : GangChange) (s : State) : ∃ f : GangState → GangState, gangRequest g c s = { s with gangs := vmod s.gangs g f } ∨
    gangRequest g c s = s := by
  unfold gangRequest
  split
  · exact ⟨_, .inl rfl⟩
  · exact ⟨id, .inr rfl⟩

theorem gangRequest_other {g j : Fin 4} (h : j ≠ g) (c : GangChange) (s : State) : (gangRequest g c s).gangs[j] = s.gangs[j] := by
  obtain ⟨f, e | e⟩ := gangRequest_eq g c s <;> rw [e]
  rw [vmod_get_ne h]

theorem gangSettings_other {g j : Fin 4} (h : j ≠ g) (s : State) : (gangSettings g s).gangs[j] = s.gangs[j] := by
  unfold gangSettings
  split
  · rfl
  · split
    · exact gangRequest_other h _ s
    · split
      · exact gangRequest_other h _ s
      · split
        · exact gangRequest_other h _ s
        · split
          · exact gangRequest_other h _ s
          · rfl

/-- The rail of an add threshold (R220, R224). -/
theorem addThreshold_next {r : Fin 28} {m : Nat} {s : State} (hp : railPresent s r = true) : exec (.addThreshold r m) s =
    .next (if s.phmIAdd r * (activePhases s r).length < m ∧ anyNotActive s r = true ∧ s.rails[r].stationKept = false then
      modDyn r heldOffDyn (readdEvent r false (modLoop r (fun l => { l with iFilt := (m : Int) * 65536 }) s))
      else modLoop r (fun l => { l with iFilt := (m : Int) * 65536 }) s) := by
  show execAddThreshold r m s = _
  rw [execAddThreshold, hp, if_neg (by decide)]
  simp only [Bool.and_eq_true, decide_eq_true_eq, Bool.not_eq_true', and_assoc]
  split <;> rfl

theorem railMa_eq {r : Fin 28} {s : State} {m : Nat} (h : s.rails[r].loop.iFilt = (m : Int) * 65536) : railMa s r = m := by
  rw [railMa, h]; omega

/-- A clear of `PHM_EN` stores 0 and is a re-add event where phase management is on (R220, R237). -/
theorem phmDisableOp_eq (r : Fin 28) (s : State) : phmDisableOp r s =
    if phmOn s r = true ∧ s.rails[r].enabled = true ∧ s.rails[r].stationKept = false then
      modDyn r (fun d => { d with phmDisabling := true }) (readdEvent r false (s.store (okey (0x3100 + r) 0x0F) 0))
    else s.store (okey (0x3100 + r) 0x0F) 0 := by
  simp only [phmDisableOp, Bool.and_eq_true, Bool.not_eq_true', and_assoc]

/-! ### Phase shedding -/

theorem readdEvent_rail (r : Fin 28) (b : Bool) (s : State) : (readdEvent r b s).rails[r] = readdRail r b s s.rails[r] := by
  rw [readdEvent_eq, vmod_get]

theorem readdEvent_rails_other {r j : Fin 28} (h : j ≠ r) (b : Bool) (s : State) : (readdEvent r b s).rails[j] = s.rails[j] := by
  rw [readdEvent_eq, vmod_get_ne h]

/-- A boundary command acts exactly where it is due. -/
theorem atBoundary_none {r : Fin 28} {m : List SnsMeas} {s : State} {b : Bool} (hp : railPresent s r = true)
    (h : dieArmed s = false ∨ b = false) : atBoundary r b m s = .next s := by
  rw [atBoundary_next hp, if_neg]
  rcases h with h | h <;> simp [h]

theorem atBoundary_due {r : Fin 28} {m : List SnsMeas} {s : State} {b : Bool} (h : b = true) : atBoundary r b m s = execPeriodBoundary r m s := by
  rw [h]; rfl

theorem atBoundary_runs {r : Fin 28} {m : List SnsMeas} {s : State} {b : Bool} (hp : railPresent s r = true) (ha : dieArmed s = true)
    (h : b = true) : atBoundary r b m s = .next (boundaryOp r m s) := by
  rw [atBoundary_next hp, ha, h]; rfl

theorem anyLeft_true {s : State} {r : Fin 28} {ph : Fin 56} (hm : ph ∈ leavingPhases s r) (hl : 3 ≤ s.phases[ph].leaveCnt) :
    (leavingPhases s r).any (fun ph => decide (3 ≤ s.phases[ph].leaveCnt)) = true :=
  List.any_eq_true.mpr ⟨ph, hm, decide_eq_true hl⟩

theorem anyLeft_false {s : State} {r : Fin 28} (h : ∀ ph ∈ leavingPhases s r, s.phases[ph].leaveCnt < 3) :
    (leavingPhases s r).any (fun ph => decide (3 ≤ s.phases[ph].leaveCnt)) = false :=
  List.any_eq_false.mpr fun ph hm => by simpa using h ph hm

theorem shedComplete_next {r : Fin 28} {s : State} (he : s.rails[r].enabled = true) (hg : gangOfRail s r = none)
    (hn : leavingPhases s r ≠ []) (hl : ∀ ph ∈ leavingPhases s r, 3 ≤ s.phases[ph].leaveCnt)
    (hr : s.rails[r].dyn.readdPend = false) (hd : s.rails[r].dyn.shedDue = false) :
    ∃ t, boundaryOp r [] s = t ∧ (∀ ph, ph ∉ leavingPhases s r → t.phases[ph].run = s.phases[ph].run) ∧
      (s.rails[r].dyn.stepAlarm = false → s.rails[r].dyn.holdoff = false → s.rails[r].stationKept = false →
        (∀ ph ∈ leavingPhases s r, t.phases[ph].run = .shed) ∧ t.rails[r].loop.lead = 0 ∧
        t.rails[r].dyn.shedCnt = satAdd max32 s.rails[r].dyn.shedCnt 1 ∧ t.rails[r].dyn.keepCnt = s.rails[r].dyn.keepCnt) ∧
      ((s.rails[r].dyn.stepAlarm = true ∨ s.rails[r].dyn.holdoff = true ∨ s.rails[r].stationKept = true) →
        (∀ ph ∈ leavingPhases s r, t.phases[ph].run = .active) ∧ t.rails[r].dyn.shedCnt = s.rails[r].dyn.shedCnt ∧
        t.rails[r].dyn.keepCnt = satAdd max32 s.rails[r].dyn.keepCnt (leavingPhases s r).length) ∧
      (∀ j : Fin 28, j ≠ r → t.rails[j] = s.rails[j]) := by
  have hran := beforeBoundary_ran r s
  have hrail := hran.others
  rw [boundaryOp_shedComplete he hg hn hl hr hd, ← hran.stationKept, ← hran.dyn]
  have hr' : (beforeBoundary r s).rails[r].dyn.readdPend = false := by rw [hran.dyn, hr]
  have hrun := hran.run
  generalize leavingPhases s r = l at *
  generalize beforeBoundary r s = u at *
  by_cases h : u.rails[r].dyn.stepAlarm = true ∨ u.rails[r].dyn.holdoff = true ∨ u.rails[r].stationKept = true
  · obtain ⟨hp, h1, h2, h3⟩ := shedComplete_keep (r := r) l h
    refine ⟨_, rfl, ?_⟩
    rw [hp]
    refine ⟨fun ph hm => ?_, fun ha hh hk => ?_, fun _ => ⟨fun ph hm => ?_, h1, h2⟩, fun j e => (h3 j e).trans (hrail j e)⟩
    · rw [vmods_get_not_mem hm, hrun]
    · rw [ha, hh, hk] at h; simp at h
    · rw [vmods_get_mem hm (f := phaseActive) fun _ => rfl]; rfl
  · simp only [not_or, Bool.not_eq_true] at h
    obtain ⟨hp, h0, h1, h2, h3⟩ := shedComplete_done (r := r) l hr' h.1 h.2.1 h.2.2
    refine ⟨_, rfl, ?_⟩
    rw [hp]
    refine ⟨fun ph hm => ?_, fun ha hh hk => ⟨fun ph hm => ?_, h0, h1, h2⟩, fun h' => ?_, fun j e => (h3 j e).trans (hrail j e)⟩
    · rw [vmods_get_not_mem hm, hrun]
    · rw [vmods_get_mem hm (f := phaseShed) fun _ => rfl]; rfl
    · rw [h.1, h.2.1, h.2.2] at h'; simp at h'

theorem readdEpoch_next {r : Fin 28} {s : State} (he : s.rails[r].enabled = true) (hr : s.rails[r].dyn.readdPend = true) :
    ∃ t, boundaryOp r [] s = t ∧ (∀ ph ∈ railPhases s r, t.phases[ph].run = .active) ∧ (∀ ph, ph ∉ railPhases s r → t.phases[ph] = s.phases[ph]) ∧
      t.rails[r].dyn.readdPend = false ∧ t.rails[r].dyn.shedDue = false ∧ t.rails[r].loop.lead = 0 ∧
      t.rails[r].dyn.phmDisabling = false ∧ t.rails[r].dyn.readdCnt = satAdd max32 s.rails[r].dyn.readdCnt 1 ∧
      t.rails[r].dyn.keepCnt = satAdd max32 s.rails[r].dyn.keepCnt ((leavingPhases s r).length + bit (shedAsked s r)) ∧
      (∀ g, gangOfRail s r = some g → t.gangs[g].change = none) ∧
      (∀ j : Fin 28, j ≠ r → t.rails[j] = s.rails[j]) := by
  have hran := beforeBoundary_ran r s
  have hrail := hran.others
  have hph := hran.phases
  rw [boundaryOp_readd he hr, ← hran.dyn, ← hran.railPhases, ← hran.leavingPhases, ← gangOfRail_congr hran.gangs, ← shedAsked_congr hran.gangs]
  rw [← hran.railPhases] at hph
  generalize beforeBoundary r s = u at *
  obtain ⟨hp, hlead, ⟨_, _, _, _, hdyn⟩, hg, hoth⟩ := readdBoundary r u
  refine ⟨_, rfl, ?_⟩
  rw [hp, hdyn]
  refine ⟨fun ph hm => ?_, fun ph hm => ?_, rfl, rfl, hlead, rfl, rfl, rfl, hg, fun j e => (hoth j e).trans (hrail j e)⟩
  · rw [vmods_get_mem hm (f := phaseActive) fun _ => rfl]; rfl
  · rw [vmods_get_not_mem hm, hph ph hm]

theorem shedDwellExpire_gang {r : Fin 28} {s : State} {g : Fin 4} (hp : railPresent s r = true) (hd : dwellHolds s r = true)
    (hn : s.rails[r].dyn.shedDue = false) (hg : gangOfRail s r = some g) :
    ∃ t, exec (.shedDwellExpire r) s = .next t ∧ t.rails[r].dyn.shedDue = true ∧
      (∀ j : Fin 4, j ≠ g → t.gangs[j] = s.gangs[j]) ∧ t = { s with rails := t.rails, gangs := t.gangs } := by
  have hnext := shedDwellExpire_next hp hd hn
  have hrest := execShedDwellExpire_rest (F := [.rails, .gangs]) (by decide) (by decide) r s
  rw [hg] at hnext
  dsimp only at hnext
  obtain ⟨t, ht⟩ : ∃ t, t = gangSettings g (modDyn r (fun d => { d with shedDue := true, dwellRun := false }) s) := ⟨_, rfl⟩
  rw [← ht] at hnext
  rw [show execShedDwellExpire r s = _ from hnext] at hrest
  refine ⟨t, hnext, ?_, fun j e => ?_, rest_patch hrest⟩ <;> rw [ht]
  · rw [rest_rails (gangSettings_rest (F := [.gangs]) (by decide) g _) (by decide), modDyn_eq, modRail, vmod_get]
  · rw [gangSettings_other e]; rfl

theorem addThreshold_readd {r : Fin 28} {m : Nat} {s : State} (hp : railPresent s r = true)
    (h1 : s.phmIAdd r * (activePhases s r).length < m) (h2 : anyNotActive s r = true) (h3 : s.rails[r].stationKept = false) :
    ∃ t, exec (.addThreshold r m) s = .next t ∧ railMa t r = m ∧ t.rails[r].dyn.holdoff = true ∧ t.rails[r].dyn.readdPend = true ∧
      t.rails[r].dyn.shedDue = false ∧ (∀ j : Fin 28, j ≠ r → t.rails[j] = s.rails[j]) ∧
      t = { s with rails := t.rails, phases := t.phases } := by
  have hnext := addThreshold_next (m := m) hp
  rw [if_pos ⟨h1, h2, h3⟩, readdEvent_eq] at hnext
  refine ⟨_, hnext, railMa_eq ?_, ?_, ?_, ?_, fun j e => ?_, rfl⟩
  · rw [modDyn_eq, modRail, vmod_get, vmod_get, modLoop_eq, modRail, vmod_get]; rfl
  · rw [modDyn_eq, modRail, vmod_get]; rfl
  · rw [modDyn_eq, modRail, vmod_get, vmod_get]; rfl
  · rw [modDyn_eq, modRail, vmod_get, vmod_get]; rfl
  · rw [modDyn_eq, modRail, vmod_get_ne e, vmod_get_ne e, modLoop_eq, modRail, vmod_get_ne e]

/-- Settles O21: the boundary commands are the period's boundary, taken apart by what is due at it. -/
theorem phaseShedding : Obligations.PhaseShedding := by
  intro s r
  refine ⟨fun hp => ?absent, fun hp h => ?dwellNone, fun hp hd hn hg => ?dwellFree, fun g hp hd hn hg => ?dwellGang,
    fun hp m => ⟨atBoundary_none hp, atBoundary_due, fun h => atBoundary_none hp (h.imp_right anyLeft_false),
      fun ph hm hl => atBoundary_due (anyLeft_true hm hl), atBoundary_none hp, atBoundary_due⟩,
    fun ph hp ha he hg hr hd hl hlast => ?start, fun hp ha he hg hn hl hr hd => ?complete,
    fun hp ha he hr => ?readd, fun m hp h => ?addNone, fun m hp h1 h2 h3 => ?add, fun hp => ?holdoff, fun p row ha hw => ?disable⟩
  case absent =>
    simp only [exec, execShedDwellExpire, execShedStart, execShedComplete, execReaddEpoch, atBoundary, execAddThreshold,
      execShedHoldoffExpire, hp]
    exact ⟨rfl, fun _ => ⟨rfl, rfl, rfl⟩, fun _ => rfl, rfl⟩
  case dwellNone =>
    show execShedDwellExpire r s = _
    rw [execShedDwellExpire, hp, if_neg (by decide), if_pos]
    rcases h with h | h <;> rw [h] <;> simp
  case dwellFree => rw [shedDwellExpire_next hp hd hn, hg]; rfl
  case dwellGang => exact shedDwellExpire_gang hp hd hn hg
  case start =>
    have hframe := boundaryOp_nil_frame he
    obtain ⟨t, ht, h1, h2, h3, h4, h5⟩ := shedStart_next he hg hr hd hl hlast
    rw [ht] at hframe
    refine ⟨t, ht ▸ atBoundary_runs hp ha ?_, h1, h2, h3, h4, h5, hframe⟩
    rw [shedNext, hg, hd]
  case complete =>
    have hframe := boundaryOp_nil_frame he
    obtain ⟨ph, hm⟩ := List.exists_mem_of_ne_nil _ hn
    obtain ⟨t, ht, h1, h2, h3, h4⟩ := shedComplete_next he hg hn hl hr hd
    rw [ht] at hframe
    exact ⟨t, ht ▸ atBoundary_runs hp ha (anyLeft_true hm (hl ph hm)), h1, h2, h3, h4, hframe⟩
  case readd =>
    have hframe := boundaryOp_nil_frame he
    obtain ⟨t, ht, h1, h2, h3, h4, h5, h6, h7, h8, h9, h10⟩ := readdEpoch_next he hr
    rw [ht] at hframe
    exact ⟨t, ht ▸ atBoundary_runs hp ha hr, h1, h2, h3, h4, h5, h6, h7, h8, h9, h10, hframe⟩
  case addNone => rw [addThreshold_next hp, if_neg h]; rfl
  case add => exact addThreshold_readd hp h1 h2 h3
  case holdoff =>
    show execShedHoldoffExpire r s = _
    rw [execShedHoldoffExpire, hp]; rfl
  case disable =>
    have hok : exec (.phmDisable p r) s = .next (setAck .done (phmDisableOp r s)) := by
      show Host.Outcome.next (directWrite p (okey (0x3100 + r) 0x0F) s _) = _
      rw [directWrite_ok (by decide) ha hw]
    rw [hok, phmDisableOp_eq]
    refine ⟨fun h => ?_, fun h1 h2 h3 => ?_⟩
    · rw [if_neg]
      · rfl
      · rintro ⟨h1, h2, h3⟩
        rw [h1, h2, h3] at h; simp at h
    · rw [if_pos ⟨h1, h2, h3⟩, readdEvent_eq]
      refine ⟨_, rfl, rfl, rfl, ?_, ?_, fun j e => ?_, rfl⟩
      · rw [setAck, modDyn_eq, modRail, vmod_get]
      · rw [setAck, modDyn_eq, modRail, vmod_get, vmod_get]; rfl
      · rw [setAck, modDyn_eq, modRail, vmod_get_ne e, vmod_get_ne e]; rfl

end Sys2Proof.Proofs

namespace Sys2Proof.Proofs

open Sys2Proof.Machine Sys2Proof.Laws

/-! ### Settings that a write leaves -/

/-- A write of one setting leaves every other. -/
theorem setRaw_store_other {k j : Nat} (h : j ≠ k) (v d : Nat) (s : State) : (s.store k v).setRaw j d = s.setRaw j d := by
  show (mapGet j (match shadowRail s j with | some r => s.sk.shadow[r] | none => mapPut k v s.settings)).getD d = _
  unfold State.setRaw
  cases shadowRail s j with
  | some r => rfl
  | none => rw [mapGet_mapPut_other h]

theorem setRange_store_other {k j : Nat} (h : j ≠ k) (v d lo hi : Nat) (s : State) :
    (s.store k v).setRange j d lo hi = s.setRange j d lo hi := by
  unfold State.setRange
  rw [setRaw_store_other h]; rfl

/-- The divider of a rail's sense pins is not its set-point. -/
theorem railDiv_storeVset (r : Fin 28) (v : Nat) (s : State) : (s.store (okey (0x3100 + r) 0x01) v).railDiv r = s.railDiv r :=
  setRange_store_other (fun h => by have := ((okey_inj (by decide) (by decide)).mp h).2; omega) _ _ _ _ s

/-- A state with other links only. -/
theorem sameCfg_links (s : State) (L : Vector LinkState 7) : SameCfg s { s with links := L } :=
  ⟨rfl, rfl, rfl, fun _ => rfl, fun _ => rfl, fun _ => rfl, fun _ => rfl⟩

/-! ### Commands over the link (R199, R200) -/

/-- The frame of a command. -/
def cmdFrame (c : RailCmd) : LinkFrame := ⟨0, 0, 0, .command c, 0⟩

/-- The link at which it waits. -/
def cmdWaits (c : RailCmd) (l : LinkState) : LinkState := { l with helm := waitFrame (cmdFrame c) l.helm }

/-- The frames of an end that does not send stay. -/
theorem helmPump_down {k : Fin 7} {s : State} (h : s.links[k].phase ≠ .up) : helmPump k s = s := by
  rw [helmPump, endSends, decide_eq_false h]; rfl

/-- The link once the one frame that waits at the helm die's end has crossed it. -/
def crossed (f : LinkFrame) (l : LinkState) : LinkState :=
  { l with
    helm := frameOut f { l.helm with waiting := [] }
    rail := frameIn f { l.helm with waiting := [] } l.rail }

/-- The one frame of an end that sends reaches the rail die. -/
theorem helmPump_one {k : Fin 7} {s : State} {f : LinkFrame} (h : endSends s.links[k] .atHelm = true) (hw : s.links[k].helm.waiting = [f]) :
    helmPump k s = railTakes k f { s with links := vmod s.links k (crossed f) } := by
  rw [helmPump, h, hw]
  refine congrArg (railTakes k f) ?_
  unfold crossLink modEnd modLink
  dsimp only [otherEnd]
  rw [vmod_get, vmod_vmod, vmod_vmod]
  exact congrArg (fun v => { s with links := v }) (vmod_congr rfl)

/-- The end is free again. -/
theorem crossed_free {f : LinkFrame} (hn : numbered f.payload = true) (l : LinkState) : endFree (crossed f l) .atHelm = true := by
  simp only [endFree, endClear, linkEnd, otherEnd, crossed, frameOut, frameIn, hn, if_pos]
  simp

/-- While the link is not UP a command waits at the helm die. -/
theorem sendCmd_down {c : RailCmd} {s : State} (h : s.links[railDie c.rail].phase ≠ .up) :
    sendCmd c s = { s with links := vmod s.links (railDie c.rail) fun l => { l with helm := waitFrame (cmdFrame c) l.helm } } := by
  refine helmPump_down ?_
  show (vmod s.links (railDie c.rail) fun l => { l with helm := waitFrame (cmdFrame c) l.helm })[railDie c.rail].phase ≠ .up
  rwa [vmod_get]

/-- The link of a command that is applied at once. -/
def cmdCrossed (c : RailCmd) (l : LinkState) : LinkState := crossed (cmdFrame c) (cmdWaits c l)

/-- With the link UP and nothing before it, a command is applied in the same step. -/
theorem sendCmd_crosses {c : RailCmd} {s : State} (hu : s.links[railDie c.rail].phase = .up) (hf : helmFree s (railDie c.rail) = true) :
    sendCmd c s = applyRailCmd c { s with links := vmod s.links (railDie c.rail) (cmdCrossed c) } := by
  rw [helmFree, endFree, Bool.and_eq_true] at hf
  obtain ⟨hw, hc⟩ := hf
  have hwait : (waitFrame (cmdFrame c) s.links[railDie c.rail].helm).waiting = [cmdFrame c] := by
    rw [waitFrame, show s.links[railDie c.rail].helm.waiting = [] from List.isEmpty_iff.mp hw]; rfl
  have hsend : endSends { s.links[railDie c.rail] with helm := waitFrame (cmdFrame c) s.links[railDie c.rail].helm } .atHelm = true := by
    have hn : nakWaits (waitFrame (cmdFrame c) s.links[railDie c.rail].helm) = false := by rw [nakWaits, hwait]; rfl
    have hc' : endClear { s.links[railDie c.rail] with helm := waitFrame (cmdFrame c) s.links[railDie c.rail].helm } .atHelm = true := hc
    rw [endSends, hc', linkEnd, hn, decide_eq_true hu]; rfl
  have hpump := helmPump_one (k := railDie c.rail) (f := cmdFrame c)
    (s := modEnd (railDie c.rail) .atHelm (waitFrame (cmdFrame c)) s) (by rw [modEnd, modLink, vmod_get]; exact hsend)
    (by rw [modEnd, modLink, vmod_get]; exact hwait)
  refine hpump.trans ((if_pos rfl).trans ?_)
  rw [modEnd, modLink, vmod_vmod]; rfl

theorem sendCmd_up {c : RailCmd} {s : State} (hu : s.links[railDie c.rail].phase = .up) (hf : helmFree s (railDie c.rail) = true) :
    ∃ L, sendCmd c s = applyRailCmd c { s with links := L } := ⟨_, sendCmd_crosses hu hf⟩

/-! ### The sequencer with nothing due -/

/-- A group that does not power up has no step to look at. -/
theorem checkStep_idle {g : Fin 8} {s : State} (h : s.groups[g].phase ≠ .poweringUp) : checkStep g s = s := by
  rw [checkStep, decide_eq_false h]; rfl

theorem checkSteps_idle {s : State} (h : ∀ g : Fin 8, s.groups[g].phase ≠ .poweringUp) : checkSteps s = s := by
  have : ∀ l : List (Fin 8), l.foldl (fun a g => checkStep g a) s = s := by
    intro l
    induction l with
    | nil => rfl
    | cons g l ih => rw [List.foldl_cons, checkStep_idle (h g), ih]
  exact this _

/-- Declaring no fault changes nothing. -/
theorem itemFaults_nil (s : State) : itemFaults [] s = s := by
  unfold itemFaults
  dsimp only
  split
  · show { s with update := { s.update with heldB := s.update.heldB ++ [] } } = s
    rw [List.append_nil]
  · rfl

theorem vdrDeclared_none {s : State} (h : ∀ q : Fin 28, s.rails[q].prot.vdrDue = false) : vdrDeclared s = s := by
  have hl : (allFin 28).filter (fun r => s.rails[r].prot.vdrDue) = [] :=
    List.filter_eq_nil_iff.mpr fun q _ => by rw [h q]; decide
  unfold vdrDeclared
  rw [hl]
  exact itemFaults_nil s

theorem skGoDown_none {s : State} (h : ∀ q : Fin 28, s.sk.due[q] = false) : skGoDown s = s := by
  unfold skGoDown
  rw [List.filter_eq_nil_iff.mpr fun q _ => by rw [skDueOn, h q]; simp]; rfl

/-- With no group powering up, no `VDR` fault and no deadline due the sequencer does nothing. -/
theorem seqSettle_idle {s : State} (hg : ∀ g : Fin 8, s.groups[g].phase ≠ .poweringUp)
    (hv : ∀ q : Fin 28, s.rails[q].prot.vdrDue = false ∧ s.sk.due[q] = false) : seqSettle s = s := by
  rw [seqSettle, skGoDown_none fun q => (hv q).2, vdrDeclared_none fun q => (hv q).1, checkSteps_idle hg]

end Sys2Proof.Proofs

namespace Sys2Proof.Proofs

open Sys2Proof.Machine Sys2Proof.Laws

/-! ### Power-good and events of a rail -/

theorem modRail_modRail (r : Fin 28) (f g : RailState → RailState) (s : State) : modRail r g (modRail r f s) = modRail r (fun x => g (f x)) s := by
  rw [modRail, modRail_rails, vmod_vmod]; rfl

/-- A rail's event leaves the rails. -/
theorem railEvent_rails (r : Fin 28) (s : State) : (railEvent r s).rails = s.rails :=
  rest_rails (railEvent_rest (F := [.links, .evc, .tw]) (by decide) (by decide) (by decide) r s) (by decide)

/-- A rail whose power-good rises: the first time since enable it arms what waits for it (R210, R231, R241, R260). -/
def pgRisen (may : Bool) (x : RailState) : RailState :=
  { x with
    prot := { x.prot with pg := true, pgRose := true, hold := true, uvArmed := true }
    dyn := { x.dyn with stepArmed := true }
    fc := { x.fc with trimActive := x.fc.trimActive || (may && !x.fc.trimDisabling) } }

/-- A rail whose power-good falls (R263). -/
def pgFallen (x : RailState) : RailState :=
  { x with prot := { x.prot with
      pg := false, hold := false, qualified := false
      dropCnt := if x.prot.pgRose then satAdd max32 x.prot.dropCnt 1 else x.prot.dropCnt } }

/-- The rail after its power-good was decided. -/
def pgRail (r : Fin 28) (s : State) (x : RailState) : RailState :=
  if pgDecision s r = x.prot.pg then x else if pgDecision s r = true then pgRisen (trimMay s r) x else pgFallen x

theorem pgRefresh_rails (r : Fin 28) (s : State) : (pgRefresh r s).rails = vmod s.rails r (pgRail r s) := by
  unfold pgRefresh
  dsimp only
  split
  · next h => rw [vmod_congr (f := pgRail r s) (g := fun x => x) (if_pos h), vmod_same]
  · next h =>
    split
    · next h' =>
      rw [railEvent_rails, vmod_congr (f := pgRail r s) (g := pgRisen (trimMay s r)) ((if_neg h).trans (if_pos h'))]; rfl
    · next h' =>
      rw [railEvent_rails, vmod_congr (f := pgRail r s) (g := pgFallen) ((if_neg h).trans (if_neg h'))]; rfl

theorem pgRefresh_rail (r : Fin 28) (s : State) : (pgRefresh r s).rails[r] = pgRail r s s.rails[r] := by
  rw [pgRefresh_rails, vmod_get]

theorem pgRefresh_rails_other {r j : Fin 28} (h : j ≠ r) (s : State) : (pgRefresh r s).rails[j] = s.rails[j] := by
  rw [pgRefresh_rails, vmod_get_ne h]

/-- A decision of power-good writes the rail's power-good, the arming of its step alarm and under-voltage, and the start of bus trim. -/
theorem pgRail_eq (r : Fin 28) (s : State) (x : RailState) : ∃ p q h u d a t n, pgRail r s x =
    { x with
      prot := { x.prot with pg := p, pgRose := q, hold := h, uvArmed := u, qualified := d, dropCnt := n }
      dyn := { x.dyn with stepArmed := a }
      fc := { x.fc with trimActive := t } } := by
  unfold pgRail
  split
  · exact ⟨_, _, _, _, _, _, _, _, rfl⟩
  · split <;> exact ⟨_, _, _, _, _, _, _, _, rfl⟩

/-! ### The end of an off sequence (R155, R159, R270) -/

/-- What the end of an off sequence writes in the rail. -/
def railOff (x : RailState) : RailState :=
  { x with
    enabled := false, disabling := false, enHeld := false, pulsed := false,
    loop := { x.loop with u := 0, i := 0, laneE := 0, laneW := 0, lead := 0, stride := 0 },
    dyn := { x.dyn with
      moving := false, rampDown := false, stepArmed := false, stepAlarm := false,
      stepBlocked := false, shedDue := false, readdPend := false, dwellRun := false, holdoff := false,
      transition := x.dyn.transition && x.dyn.rampDown && decide (x.dyn.vsp = 0), vsp := 0, softDone := false, stepDisabling := false, phmDisabling := false },
    fc := { x.fc with hints := [], trimActive := false, trimFrozen := false, trimDisabling := false },
    prot := { x.prot with uvCond := false, uvArmed := false, qualified := false, hold := false },
    stationKept := false }

/-- A rail that is not enabled has no power-good. -/
theorem pgDecision_off {r : Fin 28} {s : State} (h : s.rails[r].enabled = false) : pgDecision s r = false := by
  rw [pgDecision, h]; rfl

/-- The rail once its off sequence has ended, its power-good decided. -/
def railOffPg (x : RailState) : RailState := if (railOff x).prot.pg = true then pgFallen (railOff x) else railOff x

/-- The end of an off sequence with no enable held writes its rail only; its link and events carry the change. -/
theorem railOffDone_spec {r : Fin 28} {s : State} (he : s.rails[r].enabled = true) (hh : s.rails[r].enHeld = false) :
    (railOffDone r s).rails = vmod s.rails r railOffPg ∧
      rest [.links, .rails, .evc, .tw] (railOffDone r s) = rest [.links, .rails, .evc, .tw] s := by
  obtain ⟨s1, hs1⟩ : ∃ s1, s1 = modRail r railOff s := ⟨_, rfl⟩
  have hrail : s1.rails = vmod s.rails r railOff := by rw [hs1]; rfl
  have hrest : rest [.links, .rails, .evc, .tw] s1 = rest [.links, .rails, .evc, .tw] s := by
    rw [hs1]; exact modRail_rest (by decide) _ _ _
  have hform : ∃ b : Bool, railOffDone r s = pgRefresh r (if b then railEvent r s1 else s1) := by
    refine ⟨s.rails[r].dyn.transition && !s1.rails[r].dyn.transition, ?_⟩
    rw [hs1, railOffDone, he, hh]; rfl
  obtain ⟨b, hb⟩ := hform
  have hev : (if b then railEvent r s1 else s1).rails = s1.rails := by
    cases b
    · rfl
    · exact railEvent_rails r s1
  have hevr : rest [.links, .rails, .evc, .tw] (if b then railEvent r s1 else s1) = rest [.links, .rails, .evc, .tw] s1 := by
    cases b
    · rfl
    · exact railEvent_rest (by decide) (by decide) (by decide) r s1
  refine ⟨?_, ?_⟩
  · rw [hb, pgRefresh_rails, hev, hrail, vmod_vmod]
    refine vmod_congr ?_
    have hoff : (if b then railEvent r s1 else s1).rails[r].enabled = false := by
      simp only [hev, hrail, vmod_get]; rfl
    rw [pgRail, pgDecision_off hoff, railOffPg]
    cases (railOff s.rails[r]).prot.pg <;> rfl
  · rw [hb, pgRefresh_rest (by decide) (by decide) (by decide) (by decide), hevr, hrest]

end Sys2Proof.Proofs

namespace Sys2Proof.Proofs

open Sys2Proof.Machine Sys2Proof.Laws

/-! ### Voltage commands (R196 to R208, R473) -/

/-- The rail that a command moves (R197, R204, R206). -/
def movedRail (mv target inc src : Nat) (x : RailState) : RailState :=
  { x with dyn := { x.dyn with
      target := target, inc := inc, vtgt := mv, src := src,
      moving := decide (x.dyn.vsp ≠ target),
      transition := x.dyn.transition || decide (x.dyn.vsp ≠ target),
      cmdCnt := satAdd max32 x.dyn.cmdCnt 1,
      turnCnt := if x.dyn.moving then satAdd max32 x.dyn.turnCnt 1 else x.dyn.turnCnt,
      held := false } }

theorem moveTo_eq (r : Fin 28) (mv target inc src : Nat) (s : State) : moveTo r mv target inc src s = { s with
    rails := if s.rails[r].dyn.src ≠ 0 ∧ s.rails[r].dyn.target = target then s.rails else vmod s.rails r (movedRail mv target inc src) } := by
  unfold moveTo
  dsimp only
  split <;> rfl

/-- A command that reaches its rail reads no more of the store than the divider, which a write of the set-point leaves. -/
theorem applyTarget_stored (r : Fin 28) (v mv slew src : Nat) (L : Vector LinkState 7) (s : State) :
    applyTarget r mv slew src { s.store (okey (0x3100 + r) 0x01) v with links := L } =
      { s.store (okey (0x3100 + r) 0x01) v with links := L, rails := (applyTarget r mv slew src s).rails } := by
  have hdiv : State.railDiv { s.store (okey (0x3100 + r) 0x01) v with links := L } r = s.railDiv r :=
    ((sameCfg_links _ L).setRange _ _ _ _).trans (railDiv_storeVset r v s)
  have htgt : railTarget { s.store (okey (0x3100 + r) 0x01) v with links := L } r mv = railTarget s r mv := by
    unfold railTarget; rw [hdiv]; rfl
  have hblk : cmdBlocked { s.store (okey (0x3100 + r) 0x01) v with links := L } r = cmdBlocked s r := rfl
  unfold applyTarget
  rw [hblk, htgt, hdiv]
  split
  · rfl
  · rw [moveTo_eq, moveTo_eq]; rfl

theorem vsetCommand_held {r : Fin 28} {s : State} (h : trimHolds s r = true) (mv src : Nat) : vsetCommand r mv src s = (s, .abort .state) :=
  if_pos h

theorem vsetCommand_free {r : Fin 28} {s : State} (h : trimHolds s r = false) (mv src : Nat) : vsetCommand r mv src s =
    (sendCmd (.setTarget r mv (s.railSlew r) src) (s.store (okey (0x3100 + r) 0x01) mv), .done) := by
  rw [vsetCommand, h]; rfl

theorem vsetCommand_down {r : Fin 28} {s : State} (h : trimHolds s r = false) (hl : s.links[railDie r].phase ≠ .up) (mv src : Nat) :
    vsetCommand r mv src s = ({ s with
      settings := mapPut (okey (0x3100 + r) 0x01) mv s.settings
      links := vmod s.links (railDie r) fun l => { l with helm := waitFrame (cmdFrame (.setTarget r mv (s.railSlew r) src)) l.helm } },
      .done) := by
  have hs := sendCmd_down (c := .setTarget r mv (s.railSlew r) src) (s := s.store (okey (0x3100 + r) 0x01) mv) hl
  rw [vsetCommand_free h, hs]; rfl

theorem vsetCommand_up {r : Fin 28} {s : State} (h : trimHolds s r = false) (hl : s.links[railDie r].phase = .up)
    (hf : helmFree s (railDie r) = true) (mv src : Nat) : ∃ L, vsetCommand r mv src s = ({ s with
      settings := mapPut (okey (0x3100 + r) 0x01) mv s.settings, links := L
      rails := (applyTarget r mv (s.railSlew r) src s).rails }, .done) := by
  obtain ⟨L, hL⟩ := sendCmd_up (c := .setTarget r mv (s.railSlew r) src) (s := s.store (okey (0x3100 + r) 0x01) mv) hl hf
  refine ⟨L, ?_⟩
  rw [vsetCommand_free h, hL]
  exact congrArg (·, Ack.done) (applyTarget_stored r mv mv (s.railSlew r) src L s)

theorem exec_railVsetWrite {s : State} {p : Port} {r : Fin 28} {row : ObjRow} (ha : answering s = true)
    (hw : checkWrite s p (0x3100 + r) 0x01 = .ok row) (mv : Nat) :
    exec (.railVsetWrite p r mv) s = .next (setAck (vsetCommand r mv 2 s).2 (vsetCommand r mv 2 s).1) := by
  show Host.Outcome.next (directWrite p (okey (0x3100 + r) 0x01) s _) = _
  rw [directWrite_ok (by decide) ha hw]

/-- A target in its stated range is what the pins get (R196). -/
theorem railTarget_inRange {r : Fin 28} {s : State} {mv : Nat} (h1 : 1920 * 65536 ≤ pinTarget mv (s.railDiv r))
    (h2 : pinTarget mv (s.railDiv r) ≤ 11520 * 65536) : railTarget s r mv = pinTarget mv (s.railDiv r) :=
  if_pos ⟨h1, h2⟩

theorem applyTarget_blocked {r : Fin 28} {s : State} (h : cmdBlocked s r = true) (mv slew src : Nat) :
    (applyTarget r mv slew src s).rails = vmod s.rails r fun x => { x with dyn := { x.dyn with held := true } } := by
  rw [applyTarget, h]; rfl

theorem applyTarget_moves {r : Fin 28} {s : State} (h : cmdBlocked s r = false) (mv slew src : Nat) :
    (applyTarget r mv slew src s).rails = if s.rails[r].dyn.src ≠ 0 ∧ s.rails[r].dyn.target = railTarget s r mv then s.rails
      else vmod s.rails r (movedRail mv (railTarget s r mv) (slewInc slew (s.railDiv r)) src) := by
  rw [applyTarget, h, if_neg (by decide), moveTo_eq]

/-! The window. -/

theorem exec_vsetWindowWrite {s : State} {h : Fin 2} {j : Fin 8} (ho : ¬(s.pwr.oldChart = true ∧ 4 ≤ j.val)) (ht : twAnswers s h = true)
    (mv : Nat) : exec (.vsetWindowWrite h j mv) s = .next (ptrPast h (regFirst s (.vset j) + (regAt s (regFirst s (.vset j))).size)
      (wrSet h (windowVset h j (mv % 65536) s).2 (regFirst s (.vset j)) (windowVset h j (mv % 65536) s).1)) := by
  show execVsetWindowWrite h j mv s = _
  rw [execVsetWindowWrite, if_neg (by simpa using ho), windowWrite, ht]; rfl

theorem windowVset_mapped {s : State} {h : Fin 2} {j : Fin 8} {r : Fin 28} (hp : s.update.pause = false) (hr : windowRailW s h j = some r)
    {mv : Nat} {t : State} {a : Ack} (hv : vsetCommand r mv (3 + h) s = (t, a)) :
    windowVset h j mv s = (t, if a = .done then .accepted else .state) := by
  rw [windowVset, hp, hr, if_neg (by decide)]
  dsimp only
  rw [hv]
  cases a <;> rfl

/-! The end of a slew. -/

/-- V_SP at its target (R197, R259). -/
def slewDone (x : RailState) : RailState :=
  { x with dyn := { x.dyn with vsp := x.dyn.target, moving := false, softDone := x.dyn.softDone || !x.dyn.rampDown } }

/-- The end of a bus trim disable, a held `TRIM_EN` taking effect (R44, R237). -/
def trimEnds (go : Bool) (x : RailState) : RailState :=
  { x with fc := { x.fc with trimDisabling := false, trimActive := x.fc.trimActive || go } }

/-- A held `TRIM_EN` takes effect on the rail. -/
def trimGoes (s : State) (r : Fin 28) : Bool := trimMay s r && s.rails[r].enabled && s.rails[r].prot.pgRose

theorem trimMay_congr {s : State} {f : RailState → RailState} (hf : KeepsMember f) {r : Fin 28}
    (ht : ∀ x, (f x).fc.trimStopped = x.fc.trimStopped) : trimMay (modRail r f s) r = trimMay s r := by
  have hcfg := sameCfg_of_keeps hf r s.phases s
  have h1 : (modRail r f s).trimEn r = s.trimEn r := hcfg.setFlag _ _
  have h2 : (modRail r f s).railMode r = s.railMode r := hcfg.setRange _ _ _ _
  have h3 : (modRail r f s).rails[r].fc.trimStopped = s.rails[r].fc.trimStopped := by rw [modRail, vmod_get, ht]
  rw [trimMay, trimMay, h1, h2, h3]

theorem slewReached_latched {r : Fin 28} {s : State} (h : s.rails[r].prot.ovLatch = true) : slewReached r s = s := if_pos h

theorem slewReached_plain {r : Fin 28} {s : State} (hl : s.rails[r].prot.ovLatch = false) (hd : s.rails[r].fc.trimDisabling = false) :
    slewReached r s = modRail r slewDone s := by
  rw [slewReached, hl, hd]; rfl

/-- The rail at the boundary of a bus trim disable. -/
def trimEnded (x : RailState) : RailState := { slewDone x with fc := { x.fc with trimDisabling := false } }

theorem slewReached_trim {r : Fin 28} {s : State} (hl : s.rails[r].prot.ovLatch = false) (hd : s.rails[r].fc.trimDisabling = true) :
    slewReached r s = modRail r (fun x => trimEnds (trimGoes s r) (slewDone x)) s := by
  have h : slewReached r s = trimStart r (modRail r trimEnded s) := by
    have h2 : modFc r (fun f => { f with trimDisabling := false }) (modDyn r (fun d => { d with
        vsp := d.target, moving := false, softDone := d.softDone || !d.rampDown }) s) = modRail r trimEnded s := by
      rw [modFc_eq, modDyn_eq, modRail_modRail]; rfl
    rw [slewReached, hl, hd]
    exact congrArg (trimStart r) h2
  have hmay : trimMay (modRail r trimEnded s) r = trimMay s r := trimMay_congr (f := trimEnded) (fun _ => ⟨rfl, rfl, rfl⟩) fun _ => rfl
  have hx : (modRail r trimEnded s).rails[r] = trimEnded s.rails[r] := vmod_get _ _ _
  have hgo : (trimMay s r && (trimEnded s.rails[r]).enabled && (trimEnded s.rails[r]).prot.pgRose && !(trimEnded s.rails[r]).fc.trimDisabling)
      = trimGoes s r := Bool.and_true _
  rw [h, trimStart, hmay, hx, hgo]
  cases trimGoes s r
  · have hf : trimEnded = fun x => trimEnds false (slewDone x) := funext fun x => by simp only [trimEnds, Bool.or_false]; rfl
    rw [if_neg (by decide), hf]
  · have hf : (fun x => { trimEnded x with fc := { (trimEnded x).fc with trimActive := true } }) = fun x => trimEnds true (slewDone x) :=
      funext fun x => by simp only [trimEnds, Bool.or_true]; rfl
    rw [if_pos rfl, modFc_eq, modRail_modRail]
    exact congrArg (modRail r · s) hf

/-- A slew that is no shutdown ramp leaves the off sequence. -/
theorem rampEnd_none {r : Fin 28} {s : State} (h : s.rails[r].dyn.rampDown = false) : rampEnd r s = s := by
  rw [rampEnd, h, Bool.and_false]; rfl

/-- Either way the end of a slew writes the rail's V_SP and bus trim only. -/
theorem slewReached_eq {r : Fin 28} {s : State} (hl : s.rails[r].prot.ovLatch = false) : ∃ f : FcTrim → FcTrim,
    slewReached r s = modRail r (fun x => { slewDone x with fc := f x.fc }) s := by
  cases hd : s.rails[r].fc.trimDisabling
  · exact ⟨id, slewReached_plain hl hd⟩
  · exact ⟨fun f => { f with trimDisabling := false, trimActive := f.trimActive || trimGoes s r }, slewReached_trim hl hd⟩

/-- An update of one rail that keeps the `VDR` faults due leaves the sequencer with nothing to do. -/
theorem seqSettle_modRail {r : Fin 28} {f : RailState → RailState} {s : State} (hf : ∀ x, (f x).prot.vdrDue = x.prot.vdrDue)
    (hg : ∀ g : Fin 8, s.groups[g].phase ≠ .poweringUp) (hv : ∀ q : Fin 28, s.rails[q].prot.vdrDue = false ∧ s.sk.due[q] = false) :
    seqSettle (modRail r f s) = modRail r f s :=
  seqSettle_idle hg fun q => ⟨(vmod_get_keeps (fun x : RailState => x.prot.vdrDue) hf s.rails r q).trans (hv q).1, (hv q).2⟩

theorem exec_slewTargetReached {r : Fin 28} {s : State} (hp : railPresent s r = true) (hm : s.rails[r].dyn.moving = true) :
    exec (.slewTargetReached r) s = .next (seqSettle (rampEnd r (slewReached r s))) := by
  show execSlewTargetReached r s = _
  rw [execSlewTargetReached, hp, hm]; rfl

theorem slewTargetReached_plain {r : Fin 28} {s : State} (hp : railPresent s r = true) (hm : s.rails[r].dyn.moving = true)
    (hg : ∀ g : Fin 8, s.groups[g].phase ≠ .poweringUp) (hv : ∀ q : Fin 28, s.rails[q].prot.vdrDue = false ∧ s.sk.due[q] = false)
    (hl : s.rails[r].prot.ovLatch = false) (hr : s.rails[r].dyn.rampDown = false) (hd : s.rails[r].fc.trimDisabling = false) :
    exec (.slewTargetReached r) s = .next { s with
      rails := vmod s.rails r fun x => { x with dyn := { x.dyn with vsp := x.dyn.target, moving := false, softDone := true } } } := by
  have hramp : (modRail r slewDone s).rails[r].dyn.rampDown = false := by rw [modRail, vmod_get]; exact hr
  rw [exec_slewTargetReached hp hm, slewReached_plain hl hd, rampEnd_none hramp, seqSettle_modRail (f := slewDone) (fun _ => rfl) hg hv]
  refine congrArg (fun v => Host.Outcome.next { s with rails := v }) (vmod_congr ?_)
  simp only [slewDone, hr, Bool.not_false, Bool.or_true]

theorem slewTargetReached_trim {r : Fin 28} {s : State} (hp : railPresent s r = true) (hm : s.rails[r].dyn.moving = true)
    (hg : ∀ g : Fin 8, s.groups[g].phase ≠ .poweringUp) (hv : ∀ q : Fin 28, s.rails[q].prot.vdrDue = false ∧ s.sk.due[q] = false)
    (hl : s.rails[r].prot.ovLatch = false) (hr : s.rails[r].dyn.rampDown = false) (hd : s.rails[r].fc.trimDisabling = true) :
    ∃ t, exec (.slewTargetReached r) s = .next t ∧
      t.rails[r].dyn = { s.rails[r].dyn with vsp := s.rails[r].dyn.target, moving := false, softDone := true } ∧
      t.rails[r].fc.trimDisabling = false ∧
      (t.rails[r].fc.trimActive = true ↔ s.rails[r].fc.trimActive = true ∨
        (trimMay s r = true ∧ s.rails[r].enabled = true ∧ s.rails[r].prot.pgRose = true)) ∧
      (∀ j : Fin 28, j ≠ r → t.rails[j] = s.rails[j]) ∧ t = { s with rails := t.rails } := by
  have hramp : (modRail r (fun x => trimEnds (trimGoes s r) (slewDone x)) s).rails[r].dyn.rampDown = false := by
    rw [modRail, vmod_get]; exact hr
  have hnext := exec_slewTargetReached hp hm
  rw [slewReached_trim hl hd, rampEnd_none hramp,
    seqSettle_modRail (f := fun x => trimEnds (trimGoes s r) (slewDone x)) (fun _ => rfl) hg hv] at hnext
  refine ⟨_, hnext, ?_, ?_, ?_, fun j e => ?_, rfl⟩
  · rw [modRail, vmod_get]
    simp only [trimEnds, slewDone, hr, Bool.not_false, Bool.or_true]
  · rw [modRail, vmod_get]; rfl
  · rw [modRail, vmod_get]
    simp only [trimEnds, slewDone, trimGoes, Bool.or_eq_true, Bool.and_eq_true, and_assoc]
  · rw [modRail, vmod_get_ne e]

/-- A shutdown ramp that has reached 0 V: the rail is off. -/
theorem railOffDone_ramp {r : Fin 28} {s : State} (hl : s.rails[r].prot.ovLatch = false) (hh : s.rails[r].enHeld = false) :
    ∃ t, railOffDone r (slewReached r s) = t ∧ t.rails[r].enabled = false ∧ t.rails[r].dyn.moving = false ∧
      t.rails[r].prot.vdrDue = s.rails[r].prot.vdrDue ∧ (∀ j : Fin 28, j ≠ r → t.rails[j] = s.rails[j]) ∧
      rest [.links, .rails, .evc, .tw] t = rest [.links, .rails, .evc, .tw] s := by
  obtain ⟨f, hf⟩ := slewReached_eq hl
  obtain ⟨u, hu⟩ : ∃ u, u = slewReached r s := ⟨_, rfl⟩
  have hrails : u.rails = vmod s.rails r fun x => { slewDone x with fc := f x.fc } := by rw [hu, hf]; rfl
  have hrest : rest [.links, .rails, .evc, .tw] u = rest [.links, .rails, .evc, .tw] s := by
    rw [hu, hf]; exact modRail_rest (by decide) _ _ _
  have hrail : u.rails[r] = { slewDone s.rails[r] with fc := f s.rails[r].fc } := by rw [hrails, vmod_get]
  have hother : ∀ j : Fin 28, j ≠ r → u.rails[j] = s.rails[j] := fun j e => by rw [hrails, vmod_get_ne e]
  rw [← hu]
  cases he : u.rails[r].enabled
  · refine ⟨u, ?_, he, by rw [hrail]; rfl, by rw [hrail]; rfl, hother, hrest⟩
    rw [railOffDone, he]; rfl
  · obtain ⟨h1, h2⟩ := railOffDone_spec he (by rw [hrail]; exact hh)
    refine ⟨_, rfl, ?_, ?_, ?_, fun j e => ?_, h2.trans hrest⟩
    · rw [h1, vmod_get, railOffPg]; split <;> rfl
    · rw [h1, vmod_get, railOffPg]; split <;> rfl
    · rw [h1, vmod_get, hrail, railOffPg]; split <;> rfl
    · rw [h1, vmod_get_ne e, hother j e]

theorem slewTargetReached_ramp {r : Fin 28} {s : State} (hp : railPresent s r = true) (hm : s.rails[r].dyn.moving = true)
    (hg : ∀ g : Fin 8, s.groups[g].phase ≠ .poweringUp) (hv : ∀ q : Fin 28, s.rails[q].prot.vdrDue = false ∧ s.sk.due[q] = false)
    (hl : s.rails[r].prot.ovLatch = false) (hr : s.rails[r].dyn.rampDown = true) (hdis : s.rails[r].disabling = true)
    (hh : s.rails[r].enHeld = false) :
    ∃ t, exec (.slewTargetReached r) s = .next t ∧ t.rails[r].enabled = false ∧ t.rails[r].dyn.moving = false ∧
      (∀ j : Fin 28, j ≠ r → t.rails[j] = s.rails[j]) ∧ t = { s with links := t.links, rails := t.rails, evc := t.evc, tw := t.tw } := by
  have hend : rampEnd r (slewReached r s) = seqSettle (railOffDone r (slewReached r s)) := by
    obtain ⟨f, hf⟩ := slewReached_eq hl
    have hx : (slewReached r s).rails[r] = { slewDone s.rails[r] with fc := f s.rails[r].fc } := by rw [hf, modRail, vmod_get]
    rw [rampEnd, hx]
    simp only [slewDone, hdis, hr]; rfl
  obtain ⟨t, ht, h1, h2, h3, h4, hrest⟩ := railOffDone_ramp (r := r) hl hh
  have hidle : seqSettle t = t := by
    refine seqSettle_idle (fun g => by rw [rest_groups hrest (by decide)]; exact hg g) fun q => ⟨?_, ?_⟩
    · by_cases e : q = r
      · rw [e, h3, (hv r).1]
      · rw [h4 q e, (hv q).1]
    · rw [rest_sk hrest (by decide), (hv q).2]
  refine ⟨t, ?_, h1, h2, h4, rest_patch hrest⟩
  rw [exec_slewTargetReached hp hm, hend, ht, hidle, hidle]

theorem railVsetWrite_blocked {p : Port} {r : Fin 28} {mv : Nat} {row : ObjRow} {s : State} (ha : answering s = true)
    (hw : checkWrite s p (0x3100 + r) 0x01 = .ok row) (ht : trimHolds s r = false) (hl : s.links[railDie r].phase = .up)
    (hf : helmFree s (railDie r) = true) (hb : cmdBlocked s r = true) :
    ∃ t, exec (.railVsetWrite p r mv) s = .next t ∧ t.ack = .done ∧ t.settings = mapPut (okey (0x3100 + r) 0x01) mv s.settings ∧
      t.rails = vmod s.rails r (fun x => { x with dyn := { x.dyn with held := true } }) ∧
      t = { s with settings := t.settings, links := t.links, rails := t.rails, ack := t.ack } := by
  have hnext := exec_railVsetWrite ha hw mv
  obtain ⟨L, hv⟩ := vsetCommand_up ht hl hf mv 2
  rw [hv] at hnext
  exact ⟨_, hnext, rfl, rfl, applyTarget_blocked hb _ _ _, rfl⟩

theorem railVsetWrite_moves {p : Port} {r : Fin 28} {mv : Nat} {row : ObjRow} {s : State} (ha : answering s = true)
    (hw : checkWrite s p (0x3100 + r) 0x01 = .ok row) (ht : trimHolds s r = false) (hl : s.links[railDie r].phase = .up)
    (hf : helmFree s (railDie r) = true) (hb : cmdBlocked s r = false) (h1 : 1920 * 65536 ≤ pinTarget mv (s.railDiv r))
    (h2 : pinTarget mv (s.railDiv r) ≤ 11520 * 65536) :
    ∃ t, exec (.railVsetWrite p r mv) s = .next t ∧ t.ack = .done ∧ t.settings = mapPut (okey (0x3100 + r) 0x01) mv s.settings ∧
      t.rails = (if s.rails[r].dyn.src ≠ 0 ∧ s.rails[r].dyn.target = pinTarget mv (s.railDiv r) then s.rails
        else vmod s.rails r (movedRail mv (pinTarget mv (s.railDiv r)) (slewInc (s.railSlew r) (s.railDiv r)) 2)) ∧
      t = { s with settings := t.settings, links := t.links, rails := t.rails, ack := t.ack } := by
  have hnext := exec_railVsetWrite ha hw mv
  obtain ⟨L, hv⟩ := vsetCommand_up ht hl hf mv 2
  rw [hv] at hnext
  refine ⟨_, hnext, rfl, rfl, ?_, rfl⟩
  rw [setAck, applyTarget_moves hb, railTarget_inRange h1 h2]

theorem windowWrite_accepted {s : State} {h : Fin 2} {j : Fin 8} {r : Fin 28} {mv : Nat} {u : State}
    (ho : ¬(s.pwr.oldChart = true ∧ 4 ≤ j.val)) (ht : twAnswers s h = true) (hp : s.update.pause = false)
    (hr : windowRailW s h j = some r) (hv : vsetCommand r (mv % 65536) (3 + h) s = (u, .done)) (htw : u.tw = s.tw) (hpw : u.pwr = s.pwr) :
    ∃ w, exec (.vsetWindowWrite h j mv) s = .next { u with tw := w } ∧ w[h].wrResult = .accepted ∧ w[h].wrOffset = regFirst s (.vset j) ∧
      w[h].pointer = (regFirst s (.vset j) + (regAt s (regFirst s (.vset j))).size) % (if s.pwr.oldChart = true then 128 else 256) := by
  have hnext := exec_vsetWindowWrite ho ht mv
  rw [windowVset_mapped hp hr hv] at hnext
  refine ⟨_, hnext, ?_⟩
  dsimp only
  rw [vmod_get, wrSet, vmod_get, htw, hpw]
  exact ⟨rfl, rfl, rfl⟩

theorem exec_transitionQualified {r : Fin 28} {s : State} (hp : railPresent s r = true) (ht : s.rails[r].dyn.transition = true)
    (hm : s.rails[r].dyn.moving = false) (he : s.rails[r].dyn.vsp = s.rails[r].dyn.target) :
    exec (.transitionQualified r) s = .next (checkSteps (railEvent r { s with
      rails := vmod s.rails r fun x => { x with dyn := { x.dyn with transition := false } } })) := by
  show execTransitionQualified r s = _
  rw [execTransitionQualified, hp, if_neg (by decide)]
  dsimp only
  rw [ht, hm, decide_eq_true he]; rfl

theorem transitionQualified_idle {r : Fin 28} {s : State} (hp : railPresent s r = true) (ht : s.rails[r].dyn.transition = true)
    (hm : s.rails[r].dyn.moving = false) (he : s.rails[r].dyn.vsp = s.rails[r].dyn.target)
    (hg : ∀ g : Fin 8, s.groups[g].phase ≠ .poweringUp) : ∃ t, exec (.transitionQualified r) s = .next t ∧
      t.rails = vmod s.rails r (fun x => { x with dyn := { x.dyn with transition := false } }) ∧
      t = { s with links := t.links, rails := t.rails, evc := t.evc, tw := t.tw } := by
  have hnext := exec_transitionQualified hp ht hm he
  have hrest := railEvent_rest (F := [.links, .evc, .tw]) (by decide) (by decide) (by decide) r { s with
      rails := vmod s.rails r fun x => { x with dyn := { x.dyn with transition := false } } }
  obtain ⟨t, hte⟩ : ∃ t, t = railEvent r { s with
      rails := vmod s.rails r fun x => { x with dyn := { x.dyn with transition := false } } } := ⟨_, rfl⟩
  rw [← hte] at hnext hrest
  have hgr := rest_groups hrest (by decide)
  rw [checkSteps_idle fun g => by rw [hgr]; exact hg g] at hnext
  refine ⟨t, hnext, rest_rails hrest (by decide), rest_patch (F := [.links, .rails, .evc, .tw]) ?_⟩
  exact (rest_mono (by decide) hrest).trans (rest_with_rails (by decide) s _)

/-- Settles O19: a command goes by its link, and what it does at the rail is `applyTarget`; the end of a slew by `slewReached`. -/
theorem voltageCommands : Obligations.VoltageCommands := by
  intro s r
  refine ⟨fun p mv row ha hw => ⟨fun h => ?held, fun ht hl => ?down, fun ht hl hf hb => railVsetWrite_blocked ha hw ht hl hf hb,
      fun ht hl hf hb h1 h2 => ?moves⟩,
    fun h j mv => ⟨fun ho => ?old, fun ht => ?silent, fun ho ht => ⟨fun hp => ?pause, fun hp hr => ?unmapped, fun hp hr ht' => ?windowHeld,
      fun hp hr ht' => ⟨fun hl => ?windowDown, fun hl hf => ?windowUp⟩⟩⟩,
    fun hp => ?absent, fun hp hm => ?still, fun hp hm => ⟨exec_slewTargetReached hp hm, slewReached_latched, fun hg hv hl =>
      ⟨fun h1 h2 => slewTargetReached_plain hp hm hg hv hl h1 h2, fun h1 h2 => slewTargetReached_trim hp hm hg hv hl h1 h2,
        fun h1 h2 h3 => slewTargetReached_ramp hp hm hg hv hl h1 h2 h3⟩⟩,
    fun hp ht hm he => ⟨exec_transitionQualified hp ht hm he, transitionQualified_idle hp ht hm he⟩, fun hp h => ?unqualified⟩
  case held => rw [exec_railVsetWrite ha hw, vsetCommand_held h]; rfl
  case down => rw [exec_railVsetWrite ha hw, vsetCommand_down ht hl]; rfl
  case moves =>
    obtain ⟨t, ht, h3, h4, h5, h6⟩ := railVsetWrite_moves (mv := mv) ha hw ht hl hf hb h1 h2
    refine ⟨t, ht, h3, h4, fun he hs => ?_, fun hn => ?_, ?_, ?_, ?_, fun j e => ?_, h6⟩
    · rw [h5, if_pos ⟨hs, he⟩]
    · rw [h5, if_neg fun h => hn h.2, vmod_get]
      exact ⟨rfl, rfl, rfl, rfl, rfl, rfl⟩
    · rw [h5]; split
      · rfl
      · rw [vmod_get]; rfl
    · rw [h5]; split
      · rfl
      · rw [vmod_get]; rfl
    · rw [h5]; split
      · rfl
      · rw [vmod_get]; rfl
    · rw [h5]; split
      · rfl
      · rw [vmod_get_ne e]
  case old =>
    show execVsetWindowWrite h j mv s = _
    rw [execVsetWindowWrite, if_pos (by simpa using ho)]
  case silent =>
    show execVsetWindowWrite h j mv s = _
    rw [execVsetWindowWrite, windowWrite, ht, if_pos (by decide : (!false) = true), ite_self]
  case pause => rw [exec_vsetWindowWrite ho ht, windowVset, hp]; rfl
  case unmapped => rw [exec_vsetWindowWrite ho ht, windowVset, hp, hr]; rfl
  case windowHeld => rw [exec_vsetWindowWrite ho ht, windowVset_mapped hp hr (vsetCommand_held ht' _ _)]; rfl
  case windowDown =>
    obtain ⟨w, hnext, h1, h2, h3⟩ := windowWrite_accepted (mv := mv) ho ht hp hr (vsetCommand_down ht' hl _ _) rfl rfl
    exact ⟨_, hnext, rfl, h1, h2, h3, rfl, rfl⟩
  case windowUp =>
    obtain ⟨L, hv⟩ := vsetCommand_up ht' hl hf (mv % 65536) (3 + h)
    obtain ⟨w, hnext, h1, h2, h3⟩ := windowWrite_accepted (mv := mv) ho ht hp hr hv rfl rfl
    exact ⟨_, hnext, rfl, h1, h2, h3, rfl, rfl⟩
  case absent =>
    simp only [exec, execSlewTargetReached, execTransitionQualified, hp]
    exact ⟨rfl, rfl⟩
  case still =>
    show execSlewTargetReached r s = _
    rw [execSlewTargetReached, hp, hm]; rfl
  case unqualified =>
    show execTransitionQualified r s = _
    rw [execTransitionQualified, hp, if_neg (by decide)]
    dsimp only
    rw [if_neg]
    rcases h with h | h | h
    · rw [h]; simp
    · rw [h]; simp
    · rw [decide_eq_false h]; simp

end Sys2Proof.Proofs

namespace Sys2Proof.Proofs

open Sys2Proof.Machine Sys2Proof.Laws

/-! ### Forecast hints (R226 to R230, R473) -/

/-- A hint that is counted (R228). -/
def fcCounted (x : RailState) : RailState := { x with fc := { x.fc with fcCnt := satAdd max32 x.fc.fcCnt 1 } }

/-- A hint that holds shedding off (R228). -/
def fcHinted (h : Hint) (x : RailState) : RailState :=
  { x with fc := { x.fc with hints := x.fc.hints ++ [h] }, dyn := { x.dyn with dwellRun := false } }

/-- The rail takes hints. -/
def takesHints (s : State) (r : Fin 28) : Bool := s.fcEn r && s.rails[r].prot.pg && !s.rails[r].stationKept

theorem hintAccept_none {r : Fin 28} {s : State} (h : takesHints s r = false) (ifc tfc : Nat) : hintAccept r ifc tfc s = s := by
  have hc : (!s.fcEn r || !s.rails[r].prot.pg || s.rails[r].stationKept) = !takesHints s r := by
    rw [takesHints, Bool.not_and, Bool.not_and, Bool.not_not]
  rw [hintAccept, hc, h]; rfl

theorem hintAccept_counted {r : Fin 28} {s : State} (h : takesHints s r = true) (hp : phmOn s r = false) (ifc tfc : Nat) :
    hintAccept r ifc tfc s = modRail r fcCounted s := by
  simp only [takesHints, Bool.and_eq_true, Bool.not_eq_true'] at h
  obtain ⟨⟨h1, h2⟩, h3⟩ := h
  rw [hintAccept, h1, h2, h3, hp]; rfl

/-- A hint under phase management: it may be a re-add event first (R221). -/
theorem hintAccept_hinted {r : Fin 28} {s : State} (h : takesHints s r = true) (hp : phmOn s r = true) (ifc tfc : Nat) :
    ∃ b : Bool, hintAccept r ifc tfc s = modRail r (fcHinted ⟨ifc, tfc, false⟩)
      (if b then readdEvent r false (modRail r fcCounted s) else modRail r fcCounted s) := by
  simp only [takesHints, Bool.and_eq_true, Bool.not_eq_true'] at h
  obtain ⟨⟨h1, h2⟩, h3⟩ := h
  refine ⟨s.phmIAdd r * (activePhases s r).length < ifc * 100 && anyNotActive s r, ?_⟩
  rw [hintAccept, h1, h2, h3, hp]; rfl

/-- What a hint keeps of its rail. -/
structure HintKept (x y : RailState) : Prop where
  enabled : y.enabled = x.enabled
  vsp : y.dyn.vsp = x.dyn.vsp
  target : y.dyn.target = x.dyn.target
  prot : y.prot = x.prot
  stationKept : y.stationKept = x.stationKept

theorem HintKept.refl (x : RailState) : HintKept x x := ⟨rfl, rfl, rfl, rfl, rfl⟩

theorem HintKept.trans {x y z : RailState} (h : HintKept x y) (k : HintKept y z) : HintKept x z :=
  ⟨k.enabled.trans h.enabled, k.vsp.trans h.vsp, k.target.trans h.target, k.prot.trans h.prot, k.stationKept.trans h.stationKept⟩

/-- The rail under phase management after a hint: what it keeps, its count and its hints. -/
theorem hintAccept_hinted_rail {r : Fin 28} {s : State} (h : takesHints s r = true) (hp : phmOn s r = true) (ifc tfc : Nat) :
    HintKept s.rails[r] (hintAccept r ifc tfc s).rails[r] ∧
      (hintAccept r ifc tfc s).rails[r].fc.fcCnt = satAdd max32 s.rails[r].fc.fcCnt 1 ∧
      (hintAccept r ifc tfc s).rails[r].fc.hints = s.rails[r].fc.hints ++ [⟨ifc, tfc, false⟩] := by
  obtain ⟨b, hb⟩ := hintAccept_hinted h hp ifc tfc
  rw [hb, modRail, vmod_get]
  cases b
  · rw [if_neg (by decide), modRail, vmod_get]
    exact ⟨⟨rfl, rfl, rfl, rfl, rfl⟩, rfl, rfl⟩
  · rw [if_pos rfl, readdEvent_rail, modRail, vmod_get]
    exact ⟨⟨rfl, rfl, rfl, rfl, rfl⟩, rfl, rfl⟩

theorem hintAccept_other {r j : Fin 28} (e : j ≠ r) (ifc tfc : Nat) (s : State) : (hintAccept r ifc tfc s).rails[j] = s.rails[j] := by
  cases h : takesHints s r
  · rw [hintAccept_none h]
  · cases hp : phmOn s r
    · rw [hintAccept_counted h hp, modRail, vmod_get_ne e]
    · obtain ⟨b, hb⟩ := hintAccept_hinted h hp ifc tfc
      rw [hb, modRail, vmod_get_ne e]
      cases b
      · rw [if_neg (by decide), modRail, vmod_get_ne e]
      · rw [if_pos rfl, readdEvent_rails_other e, modRail, vmod_get_ne e]

theorem hintAccept_rail (r : Fin 28) (ifc tfc : Nat) (s : State) : HintKept s.rails[r] (hintAccept r ifc tfc s).rails[r] ∧
    (takesHints s r = true → (hintAccept r ifc tfc s).rails[r].fc.fcCnt = satAdd max32 s.rails[r].fc.fcCnt 1) := by
  cases h : takesHints s r
  · rw [hintAccept_none h]
    exact ⟨.refl _, fun h => absurd h (by decide)⟩
  · cases hp : phmOn s r
    · rw [hintAccept_counted h hp, modRail, vmod_get]
      exact ⟨⟨rfl, rfl, rfl, rfl, rfl⟩, fun _ => rfl⟩
    · obtain ⟨h1, h2, -⟩ := hintAccept_hinted_rail h hp ifc tfc
      exact ⟨h1, fun _ => h2⟩

theorem takesHints_congr {s t : State} (h : SameCfg s t) {r : Fin 28} (hp : t.rails[r].prot = s.rails[r].prot) : takesHints t r = takesHints s r := by
  have hf : t.fcEn r = s.fcEn r := h.setFlag _ _
  rw [takesHints, takesHints, hf, hp, h.kept]

/-! Hints sent to several rails. -/

/-- What hints leave: the settings in force, the links' phases, and every free end of the helm die free. -/
structure Hinting (s t : State) : Prop where
  rest : rest [.links, .rails, .phases] t = rest [.links, .rails, .phases] s
  kept : ∀ q : Fin 28, HintKept s.rails[q] t.rails[q]
  phase : ∀ k : Fin 7, t.links[k].phase = s.links[k].phase
  free : ∀ k : Fin 7, s.links[k].phase = .up → helmFree t k = true

theorem Hinting.cfg {s t : State} (h : Hinting s t) : SameCfg s t :=
  sameCfg_of_rest h.rest (by decide) (by decide) (by decide) (by decide) fun q => (h.kept q).stationKept

/-- One hint more. -/
theorem hinting_send {s t : State} (h : Hinting s t) (r : Fin 28) (ifc tfc : Nat) :
    Hinting s (sendCmd (.hint r ifc tfc) t) ∧ (∀ j : Fin 28, j ≠ r → (sendCmd (.hint r ifc tfc) t).rails[j] = t.rails[j]) ∧
      (s.links[railDie r].phase = .up → takesHints s r = true →
        (sendCmd (.hint r ifc tfc) t).rails[r].fc.fcCnt = satAdd max32 t.rails[r].fc.fcCnt 1) := by
  by_cases hu : s.links[railDie r].phase = .up
  · have hup : t.links[railDie r].phase = .up := (h.phase _).trans hu
    rw [sendCmd_crosses (c := .hint r ifc tfc) hup (h.free _ hu)]
    obtain ⟨u, hudef⟩ : ∃ u, u = ({ t with links := vmod t.links (railDie r) (cmdCrossed (.hint r ifc tfc)) } : State) := ⟨_, rfl⟩
    have hrest : rest [.links] u = rest [.links] t := by rw [hudef]; exact rest_with_links (by decide) t _
    have hrails : u.rails = t.rails := rest_rails hrest (by decide)
    have hlinks : u.links = vmod t.links (railDie r) (cmdCrossed (.hint r ifc tfc)) := by rw [hudef]
    have hcfg : SameCfg t u := sameCfg_of_rest hrest (by decide) (by decide) (by decide) (by decide) fun q => by rw [hrails]
    have hacc := hintAccept_rest (F := [.rails, .phases]) (by decide) (by decide) r ifc tfc u
    have happ : applyRailCmd (.hint r ifc tfc) { t with links := vmod t.links (railDie r) (cmdCrossed (.hint r ifc tfc)) } =
        hintAccept r ifc tfc u := by rw [hudef]; rfl
    have halinks : (hintAccept r ifc tfc u).links = vmod t.links (railDie r) (cmdCrossed (.hint r ifc tfc)) :=
      (rest_links hacc (by decide)).trans hlinks
    show Hinting s (applyRailCmd (.hint r ifc tfc) _) ∧ _
    rw [show railDie (RailCmd.hint r ifc tfc).rail = railDie r from rfl, happ]
    obtain ⟨hkept, hcnt⟩ := hintAccept_rail r ifc tfc u
    rw [hrails] at hkept hcnt
    refine ⟨⟨?_, fun q => ?_, fun k => ?_, fun k hk => ?_⟩, fun j e => ?_, fun _ ht => hcnt ?_⟩
    · exact (rest_mono (by decide) hacc).trans ((rest_mono (by decide) hrest).trans h.rest)
    · by_cases e : q = r
      · rw [e]; exact (h.kept r).trans hkept
      · rw [hintAccept_other e, hrails]; exact h.kept q
    · rw [halinks]
      exact (vmod_get_keeps LinkState.phase (f := cmdCrossed (.hint r ifc tfc)) (fun _ => rfl) _ _ _).trans (h.phase k)
    · rw [helmFree, halinks]
      by_cases e : k = railDie r
      · rw [e, vmod_get]; exact crossed_free rfl _
      · rw [vmod_get_ne e]; exact h.free k hk
    · rw [hintAccept_other e, hrails]
    · rw [takesHints_congr (h.cfg.trans hcfg) (by rw [hrails, (h.kept r).prot]), ht]
  · have hd : t.links[railDie r].phase ≠ .up := by rw [h.phase]; exact hu
    rw [sendCmd_down (c := .hint r ifc tfc) hd]
    refine ⟨⟨?_, h.kept, fun k => ?_, fun k hk => ?_⟩, fun _ _ => rfl, fun h' => absurd h' hu⟩
    · exact (rest_with_links (by decide) t _).trans h.rest
    · exact (vmod_get_keeps LinkState.phase (f := cmdWaits (.hint r ifc tfc)) (fun _ => rfl) _ _ _).trans (h.phase k)
    · have e : k ≠ railDie r := fun e => hu (e ▸ hk)
      show endFree (vmod t.links (railDie r) _)[k] .atHelm = true
      rw [vmod_get_ne e]; exact h.free k hk

/-- The hint that rail `r` gets of its pin, where it takes one. -/
def pinHint (s : State) (h : Fin 2) (r : Fin 28) : Bool := railPresent s r && assigned s h r && s.fcPinEn r

def hintOne (s : State) (h : Fin 2) (a : State) (r : Fin 28) : State :=
  if pinHint s h r then sendCmd (.hint r (s.fcPinI r) (s.fcPinDelay r)) a else a

/-- Hints to several rails, each of which gets its own. -/
theorem hinting_foldl {s o : State} (h : Fin 2) {l : List (Fin 28)} (hl : l.Nodup) {t : State} (ht : Hinting s t) :
    Hinting s (l.foldl (hintOne o h) t) ∧ (∀ q, q ∉ l → (l.foldl (hintOne o h) t).rails[q] = t.rails[q]) ∧
      ∀ q ∈ l, pinHint o h q = true → s.links[railDie q].phase = .up → takesHints s q = true →
        (l.foldl (hintOne o h) t).rails[q].fc.fcCnt = satAdd max32 t.rails[q].fc.fcCnt 1 := by
  induction l generalizing t with
  | nil => exact ⟨ht, fun _ _ => rfl, fun _ hq => by cases hq⟩
  | cons r l ih =>
    rw [List.nodup_cons] at hl
    obtain ⟨hr, hl⟩ := hl
    have hstep : Hinting s (hintOne o h t r) ∧ (∀ j : Fin 28, j ≠ r → (hintOne o h t r).rails[j] = t.rails[j]) ∧
        (pinHint o h r = true → s.links[railDie r].phase = .up → takesHints s r = true →
          (hintOne o h t r).rails[r].fc.fcCnt = satAdd max32 t.rails[r].fc.fcCnt 1) := by
      unfold hintOne
      cases hp : pinHint o h r
      · exact ⟨ht, fun _ _ => rfl, fun h' => absurd h' (by decide)⟩
      · obtain ⟨h1, h2, h3⟩ := hinting_send ht r (o.fcPinI r) (o.fcPinDelay r)
        exact ⟨h1, h2, fun _ => h3⟩
    obtain ⟨h1, h2, h3⟩ := hstep
    obtain ⟨k1, k2, k3⟩ := ih hl h1
    refine ⟨k1, fun q hq => ?_, fun q hq hp hu hk => ?_⟩
    · rw [List.mem_cons, not_or] at hq
      exact (k2 q hq.2).trans (h2 q hq.1)
    · by_cases e : q = r
      · subst e
        rw [List.foldl_cons, k2 q hr]
        exact h3 hp hu hk
      · rw [List.foldl_cons, k3 q ((List.mem_cons.mp hq).resolve_left e) hp hu hk, h2 q e]

/-- The state of an edge recognised on a hint pin. -/
def pinEdge (h : Fin 2) (s : State) : State := { s with hintAt := vset s.hintAt h (some s.devTime) }

theorem exec_hintPinEdge (h : Fin 2) (s : State) :
    exec (.hintPinEdge h) s = .next (if hintAgain h s then pinEdge h s else (allFin 28).foldl (hintOne s h) (pinEdge h s)) := rfl

theorem hintOnes_none {s : State} {h : Fin 2} (hn : ∀ q, pinHint s h q = false) (l : List (Fin 28)) (t : State) : l.foldl (hintOne s h) t = t := by
  induction l generalizing t with
  | nil => rfl
  | cons q l ih => rw [List.foldl_cons, hintOne, hn q, if_neg (by decide), ih]

theorem hintAgain_iff (h : Fin 2) (s : State) : hintAgain h s = true ↔ ∃ d, s.hintAt[h] = some d ∧ s.devTime ≤ d + 1 := by
  unfold hintAgain
  cases s.hintAt[h] with
  | none => simp
  | some d => simp

theorem hintPinEdge_next {s : State} {h : Fin 2} (hfree : ∀ k : Fin 7, s.links[k].phase = .up → helmFree s k = true) :
    ∃ t, exec (.hintPinEdge h) s = .next t ∧ t.hintAt = vset s.hintAt h (some s.devTime) ∧
      (∀ q : Fin 28, HintKept s.rails[q] t.rails[q] ∧ (hintAgain h s = false → pinHint s h q = true → s.links[railDie q].phase = .up →
        takesHints s q = true → t.rails[q].fc.fcCnt = satAdd max32 s.rails[q].fc.fcCnt 1)) ∧
      t = { s with links := t.links, rails := t.rails, phases := t.phases, hintAt := t.hintAt } := by
  rw [exec_hintPinEdge]
  have hcfg : SameCfg s (pinEdge h s) := ⟨rfl, rfl, rfl, fun _ => rfl, fun _ => rfl, fun _ => rfl, fun _ => rfl⟩
  have htake : ∀ q, takesHints (pinEdge h s) q = takesHints s q := fun q => takesHints_congr hcfg rfl
  have hedge : rest [.links, .rails, .phases, .hintAt] (pinEdge h s) = rest [.links, .rails, .phases, .hintAt] s :=
    rest_with_hintAt (by decide) s _
  cases ha : hintAgain h s
  · obtain ⟨h1, -, h3⟩ := hinting_foldl (s := pinEdge h s) (o := s) h (List.nodup_finRange 28)
      (t := pinEdge h s) ⟨rfl, fun _ => .refl _, fun _ => rfl, hfree⟩
    refine ⟨_, rfl, rest_hintAt h1.rest (by decide), fun q => ⟨h1.kept q, fun _ hp hu hk => ?_⟩, rest_patch ((rest_mono (by decide) h1.rest).trans hedge)⟩
    exact h3 q (List.mem_finRange q) hp hu ((htake q).trans hk)
  · exact ⟨_, rfl, rfl, fun q => ⟨.refl _, fun h => absurd h (by decide)⟩, rest_patch hedge⟩

/-- A value of `FC_REQ` in its stated range (R240). -/
theorem fcFields_inRange {s : State} {key v : Nat} (h1 : v < 2 ^ 23) (h2 : 1 ≤ field v 22 16) (h3 : field v 22 16 ≤ 100) :
    fcFields s key v = (field v 15 0, field v 22 16) := by
  rw [fcFields, if_pos h1, if_pos ⟨h2, h3⟩]

theorem exec_fcReqWrite {s : State} {p : Port} {r : Fin 28} {row : ObjRow} (ha : answering s = true)
    (hw : checkWrite s p (0x3100 + r) 0x1C = .ok row) (v : Nat) : exec (.fcReqWrite p r v) s = .next { fcRequest r v s with ack := .done } := by
  show Host.Outcome.next (directWrite p (okey (0x3100 + r) 0x1C) s _) = _
  rw [directWrite_ok (by decide) ha hw]; rfl

theorem fcReqWrite_taken {s : State} {p : Port} {r : Fin 28} {row : ObjRow} {v : Nat} (ha : answering s = true)
    (hw : checkWrite s p (0x3100 + r) 0x1C = .ok row) (hu : s.links[railDie r].phase = .up) (hf : helmFree s (railDie r) = true)
    (ht : takesHints s r = true) : ∃ t, exec (.fcReqWrite p r v) s = .next t ∧ t.ack = .done ∧
      t.rails[r].fc.fcCnt = satAdd max32 s.rails[r].fc.fcCnt 1 ∧
      (phmOn s r = true → v < 2 ^ 23 → 1 ≤ field v 22 16 → field v 22 16 ≤ 100 →
        t.rails[r].fc.hints = s.rails[r].fc.hints ++ [⟨field v 15 0, field v 22 16, false⟩]) ∧
      (phmOn s r = false → t.rails[r].fc.hints = s.rails[r].fc.hints) ∧
      (∀ j : Fin 28, j ≠ r → t.rails[j] = s.rails[j]) ∧ t = { s with links := t.links, rails := t.rails, phases := t.phases, ack := t.ack } := by
  obtain ⟨f, hfd⟩ : ∃ f, f = fcFields s (okey (0x3100 + r) 0x1C) v := ⟨_, rfl⟩
  obtain ⟨L, hL⟩ := sendCmd_up (c := .hint r f.1 f.2) hu hf
  have hcfg := sameCfg_links s L
  have hreq : fcRequest r v s = hintAccept r f.1 f.2 { s with links := L } := by rw [fcRequest, ← hfd, hL]; rfl
  have ht' : takesHints { s with links := L } r = true := (takesHints_congr hcfg rfl).trans ht
  have hp' : phmOn { s with links := L } r = phmOn s r := by
    have : State.phmEn { s with links := L } r = s.phmEn r := hcfg.setFlag _ _
    rw [phmOn, phmOn, this]
  have hrest : rest [.links, .rails, .phases] (fcRequest r v s) = rest [.links, .rails, .phases] s := by
    rw [hreq, hintAccept_rest (by decide) (by decide)]
    exact rest_with_links (by decide) s L
  refine ⟨_, exec_fcReqWrite ha hw v, rfl, ?_, fun hp h1 h2 h3 => ?_, fun hp => ?_, fun j e => ?_, ?_⟩
  · show (fcRequest r v s).rails[r].fc.fcCnt = _
    rw [hreq]; exact (hintAccept_rail r f.1 f.2 _).2 ht'
  · show (fcRequest r v s).rails[r].fc.hints = _
    rw [hreq, (hintAccept_hinted_rail ht' (hp'.trans hp) _ _).2.2, hfd, fcFields_inRange h1 h2 h3]
  · show (fcRequest r v s).rails[r].fc.hints = _
    rw [hreq, hintAccept_counted ht' (hp'.trans hp), modRail, vmod_get]; rfl
  · show (fcRequest r v s).rails[j] = _
    rw [hreq, hintAccept_other e]
  · generalize fcRequest r v s = u at *
    exact rest_patch (F := [.links, .rails, .phases, .ack]) ((rest_with_ack (by decide) u _).trans (rest_mono (by decide) hrest))

/-! The window, the deadline and the inhibit. -/

theorem exec_fcWindowWrite {s : State} {h : Fin 2} {j : Fin 8} (ho : s.pwr.oldChart = false) (ht : twAnswers s h = true) (v : Nat) :
    exec (.fcWindowWrite h j v) s = .next (ptrPast h (regFirst s (.fc j) + (regAt s (regFirst s (.fc j))).size)
      (wrSet h (windowFc h j (v % 16777216) s).2 (regFirst s (.fc j)) (windowFc h j (v % 16777216) s).1)) := by
  show execFcWindowWrite h j v s = _
  rw [execFcWindowWrite, ho, windowWrite, ht]; rfl

theorem forecastDeadline_none {s : State} {r : Fin 28} (hp : railPresent s r = true) (h : ∀ x ∈ s.rails[r].fc.hints, x.due = true) :
    exec (.forecastDeadline r) s = .next s := by
  show execForecastDeadline r s = _
  rw [execForecastDeadline, hp, List.all_eq_true.mpr h]; rfl

theorem exec_forecastDeadline {s : State} {r : Fin 28} (hp : railPresent s r = true) (h : ∃ x ∈ s.rails[r].fc.hints, x.due = false) :
    exec (.forecastDeadline r) s = .next (
      let s1 := modFc r (fun f => { f with hints := markDue f.hints }) s
      let s2 := modFc r (fun f => { f with lateCnt := satAdd max32 f.lateCnt 1 }) s1
      if anyNotActive s r then logFault .fcLate (railDie r + 1) r s2.rails[r].fc.lateCnt s2 else s1) := by
  have hn : s.rails[r].fc.hints.all (fun h => h.due) = false := by
    obtain ⟨x, hx, hd⟩ := h
    rw [List.all_eq_false]
    exact ⟨x, hx, by rw [hd]; decide⟩
  show execForecastDeadline r s = _
  rw [execForecastDeadline, hp, hn]
  dsimp only
  cases anyNotActive s r <;> rfl

theorem forecastDeadline_late {s : State} {r : Fin 28} (hp : railPresent s r = true) (h : ∃ x ∈ s.rails[r].fc.hints, x.due = false)
    (ha : anyNotActive s r = true) : ∃ t, exec (.forecastDeadline r) s = .next t ∧ t.rails = vmod s.rails r (fun x => { x with
      fc := { x.fc with hints := markDue x.fc.hints, lateCnt := satAdd max32 x.fc.lateCnt 1 } }) ∧
      t = { s with nv := t.nv, rails := t.rails, log := t.log, evc := t.evc, tw := t.tw } := by
  have hrest := execForecastDeadline_rest (F := [.nv, .rails, .log, .evc, .tw]) (by decide) (by decide) (by decide) (by decide) (by decide) r s
  have hnext := exec_forecastDeadline hp h
  rw [ha, if_pos rfl] at hnext
  obtain ⟨t, ht⟩ : ∃ t, exec (.forecastDeadline r) s = .next t := ⟨_, hnext⟩
  rw [show execForecastDeadline r s = _ from ht] at hrest
  refine ⟨t, ht, ?_, rest_patch hrest⟩
  rw [hnext] at ht
  injection ht with ht
  rw [← ht, rest_rails (logFault_rest (F := [.nv, .log, .evc, .tw]) (by decide) (by decide) (by decide) (by decide) _ _ _ _ _) (by decide),
    modFc_eq, modFc_eq, modRail_modRail]; rfl

/-! ### Bus trim (R231 to R237) -/

/-- What a trim period records (R232, R234). -/
def trimSeen (p v : Nat) (holds wait : Bool) (x : RailState) : RailState :=
  { x with fc := { x.fc with pdep := p, vtgt := v, freezeSeen := holds, trimFrozen := holds || wait } }

/-- V_SP stops where it stands (R234). -/
def trimStopped (x : RailState) : RailState :=
  { x with
    fc := { x.fc with trimFrozen := true, freezeSeen := true }
    dyn := { x.dyn with moving := if x.dyn.src = 5 then false else x.dyn.moving } }

/-- After a freeze V_SP moves on from where it stood (R234). -/
def trimMoving (x : RailState) : RailState := { x with dyn := { x.dyn with moving := decide (x.dyn.vsp ≠ x.dyn.target) } }

/-- A new trim target on rail `r`. -/
theorem trimMove_rails (r : Fin 28) (pins : Nat) (s : State) : ∃ mv inc, (trimMove r pins s).rails =
    if cmdBlocked s r = true then s.rails
    else if s.rails[r].dyn.src ≠ 0 ∧ s.rails[r].dyn.target = pins then vmod s.rails r trimMoving
    else vmod s.rails r fun x => trimMoving (movedRail mv pins inc 5 x) := by
  refine ⟨pinsMv pins (s.railDiv r), trimInc s r, ?_⟩
  unfold trimMove
  split
  · rfl
  · rw [moveTo_eq, modDyn_eq, modRail]
    dsimp only
    split
    · rfl
    · rw [vmod_vmod]; rfl

/-- The state that a trim period has recorded. -/
def trimRecorded (r : Fin 28) (s : State) : State :=
  { s with
    rails := vmod s.rails r (trimSeen (min max16 (pDep s r / 1000000).toNat) (pinsMv (trimPins s r (pDep s r)) (s.railDiv r))
      (trimFreezeHolds s r) (s.rails[r].fc.trimFrozen && s.rails[r].fc.freezeSeen))
    freeCtr := if trimRising s r then s.freeCtr else s.freeCtr + 1 }

theorem exec_trimPeriod {s : State} {r : Fin 28} (hp : railPresent s r = true) (ha : s.rails[r].fc.trimActive = true)
    (hs : s.rails[r].fc.trimStopped = false) (hk : s.rails[r].stationKept = false) : exec (.trimPeriod r) s = .next (
      if trimFreezeHolds s r then trimStop r (trimRecorded r s)
      else if s.rails[r].fc.trimFrozen && s.rails[r].fc.freezeSeen then trimRecorded r s
      else trimMove r (trimPins s r (pDep s r)) (trimRecorded r s)) := by
  have hrec : trimRecorded r s = if trimRising s r then modFc r (fun f => { f with
        pdep := min max16 (pDep s r / 1000000).toNat, vtgt := pinsMv (trimPins s r (pDep s r)) (s.railDiv r)
        freezeSeen := trimFreezeHolds s r
        trimFrozen := trimFreezeHolds s r || s.rails[r].fc.trimFrozen && s.rails[r].fc.freezeSeen }) s
      else { modFc r (fun f => { f with
        pdep := min max16 (pDep s r / 1000000).toNat, vtgt := pinsMv (trimPins s r (pDep s r)) (s.railDiv r)
        freezeSeen := trimFreezeHolds s r
        trimFrozen := trimFreezeHolds s r || s.rails[r].fc.trimFrozen && s.rails[r].fc.freezeSeen }) s with
        freeCtr := s.freeCtr + 1 } := by
    unfold trimRecorded
    split <;> rfl
  show execTrimPeriod r s = _
  rw [execTrimPeriod, hp, ha, hs, hk, hrec]; rfl

theorem trimRecorded_rail (r : Fin 28) (s : State) : (trimRecorded r s).rails[r] = trimSeen (min max16 (pDep s r / 1000000).toNat)
    (pinsMv (trimPins s r (pDep s r)) (s.railDiv r)) (trimFreezeHolds s r) (s.rails[r].fc.trimFrozen && s.rails[r].fc.freezeSeen)
    s.rails[r] := vmod_get _ _ _

theorem trimRecorded_other {r j : Fin 28} (e : j ≠ r) (s : State) : (trimRecorded r s).rails[j] = s.rails[j] := vmod_get_ne e _ _

theorem cmdBlocked_trimRecorded (r : Fin 28) (s : State) : cmdBlocked (trimRecorded r s) r = cmdBlocked s r := by
  rw [cmdBlocked, trimRecorded_rail]; rfl

/-- No new command is given: V_SP frozen, or waiting for a period without a freeze, or the rail takes none. -/
def trimWaits (s : State) (r : Fin 28) : Bool := s.rails[r].fc.trimFrozen && s.rails[r].fc.freezeSeen || cmdBlocked s r

/-- What a trim period does to V_SP: it stops, stands or moves. -/
def trimActs (s : State) (r : Fin 28) (mv inc : Nat) (x : RailState) : RailState :=
  if trimFreezeHolds s r = true then trimStopped x
  else if trimWaits s r = true then x
  else if s.rails[r].dyn.src ≠ 0 ∧ s.rails[r].dyn.target = trimPins s r (pDep s r) then trimMoving x
  else trimMoving (movedRail mv (trimPins s r (pDep s r)) inc 5 x)

/-- The rails after a trim period. -/
theorem trimPeriod_rails {s : State} {r : Fin 28} (hp : railPresent s r = true) (ha : s.rails[r].fc.trimActive = true)
    (hs : s.rails[r].fc.trimStopped = false) (hk : s.rails[r].stationKept = false) : ∃ t mv inc, exec (.trimPeriod r) s = .next t ∧
      t.rails = vmod (trimRecorded r s).rails r (trimActs s r mv inc) ∧ rest [.rails] t = rest [.rails] (trimRecorded r s) := by
  have hnext := exec_trimPeriod hp ha hs hk
  have hx := trimRecorded_rail r s
  have hb := cmdBlocked_trimRecorded r s
  obtain ⟨u, hu⟩ : ∃ u, u = trimRecorded r s := ⟨_, rfl⟩
  rw [← hu] at hnext hx hb ⊢
  cases hh : trimFreezeHolds s r
  · rw [hh, if_neg (by decide)] at hnext
    obtain ⟨mv, inc, hmove⟩ := trimMove_rails r (trimPins s r (pDep s r)) u
    have hdyn : u.rails[r].dyn = s.rails[r].dyn := by rw [hx]; rfl
    rw [hb, hdyn] at hmove
    cases hw : s.rails[r].fc.trimFrozen && s.rails[r].fc.freezeSeen
    · rw [hw, if_neg (by decide)] at hnext
      refine ⟨_, mv, inc, hnext, ?_, trimMove_rest (by decide) _ _ _⟩
      rw [hmove]
      unfold trimActs trimWaits
      simp only [hh, hw, Bool.false_or, if_neg Bool.false_ne_true]
      split
      · rw [vmod_same]
      · split <;> rfl
    · rw [hw, if_pos rfl] at hnext
      refine ⟨_, mv, inc, hnext, ?_, rfl⟩
      unfold trimActs trimWaits
      simp only [hh, hw, Bool.true_or, if_neg Bool.false_ne_true, if_pos, vmod_same]
  · rw [hh, if_pos rfl] at hnext
    refine ⟨_, 0, 0, hnext, ?_, trimStop_rest (by decide) _ _⟩
    unfold trimActs
    simp only [hh, if_pos]; rfl

theorem trimActs_stopped {s : State} {r : Fin 28} (h : trimFreezeHolds s r = true) (mv inc : Nat) (x : RailState) :
    trimActs s r mv inc x = trimStopped x := if_pos h

/-- Without a freeze the record of trim stands. -/
theorem trimActs_fc {s : State} {r : Fin 28} (h : trimFreezeHolds s r = false) (mv inc : Nat) (x : RailState) :
    (trimActs s r mv inc x).fc = x.fc := by
  unfold trimActs
  simp only [h, if_neg Bool.false_ne_true]
  split
  · rfl
  · split <;> rfl

theorem trimActs_vsp (s : State) (r : Fin 28) (mv inc : Nat) (x : RailState) : (trimActs s r mv inc x).dyn.vsp = x.dyn.vsp := by
  unfold trimActs
  split
  · rfl
  · split
    · rfl
    · split <;> rfl

theorem trimActs_fcRecord (s : State) (r : Fin 28) (mv inc : Nat) (x : RailState) :
    (trimActs s r mv inc x).fc.pdep = x.fc.pdep ∧ (trimActs s r mv inc x).fc.vtgt = x.fc.vtgt := by
  cases h : trimFreezeHolds s r
  · rw [trimActs_fc h]; exact ⟨rfl, rfl⟩
  · rw [trimActs_stopped h]; exact ⟨rfl, rfl⟩

theorem trimActs_cmdCnt (s : State) (r : Fin 28) (mv inc : Nat) (x : RailState) : (trimActs s r mv inc x).dyn.cmdCnt =
    if trimFreezeHolds s r = true ∨ (s.rails[r].fc.trimFrozen = true ∧ s.rails[r].fc.freezeSeen = true) ∨ cmdBlocked s r = true ∨
      (s.rails[r].dyn.src ≠ 0 ∧ s.rails[r].dyn.target = trimPins s r (pDep s r)) then x.dyn.cmdCnt else satAdd max32 x.dyn.cmdCnt 1 := by
  have hw : trimWaits s r = true ↔ (s.rails[r].fc.trimFrozen = true ∧ s.rails[r].fc.freezeSeen = true) ∨ cmdBlocked s r = true := by
    rw [trimWaits, Bool.or_eq_true, Bool.and_eq_true]
  unfold trimActs
  split
  · next h => rw [if_pos (.inl h)]; rfl
  · next h =>
    split
    · next h' => rw [if_pos (.inr ((hw.mp h').elim .inl fun k => .inr (.inl k)))]
    · next h' =>
      split
      · next h'' => rw [if_pos (.inr (.inr (.inr h'')))]; rfl
      · next h'' =>
        rw [if_neg]; rfl
        rintro (k | k | k | k)
        · exact h k
        · exact h' (hw.mpr (.inl k))
        · exact h' (hw.mpr (.inr k))
        · exact h'' k

/-- What a trim period leaves in its rail (R232 to R234). -/
theorem trimPeriod_next {s : State} {r : Fin 28} (hp : railPresent s r = true) (ha : s.rails[r].fc.trimActive = true)
    (hs : s.rails[r].fc.trimStopped = false) (hk : s.rails[r].stationKept = false) : ∃ t, exec (.trimPeriod r) s = .next t ∧
      t.rails[r].fc.pdep = min max16 (pDep s r / 1000000).toNat ∧
      t.rails[r].fc.vtgt = pinsMv (trimPins s r (pDep s r)) (s.railDiv r) ∧
      t.rails[r].dyn.vsp = s.rails[r].dyn.vsp ∧ t.rails[r].dyn.cmdCnt = (if trimFreezeHolds s r = true ∨
        (s.rails[r].fc.trimFrozen = true ∧ s.rails[r].fc.freezeSeen = true) ∨ cmdBlocked s r = true ∨
        (s.rails[r].dyn.src ≠ 0 ∧ s.rails[r].dyn.target = trimPins s r (pDep s r)) then s.rails[r].dyn.cmdCnt
        else satAdd max32 s.rails[r].dyn.cmdCnt 1) ∧
      (trimFreezeHolds s r = true → t.rails[r].fc.trimFrozen = true ∧ t.rails[r].fc.freezeSeen = true ∧
        t.rails[r].dyn = { s.rails[r].dyn with moving := if s.rails[r].dyn.src = 5 then false else s.rails[r].dyn.moving }) ∧
      (trimFreezeHolds s r = false → t.rails[r].fc.freezeSeen = false ∧
        (t.rails[r].fc.trimFrozen = true ↔ s.rails[r].fc.trimFrozen = true ∧ s.rails[r].fc.freezeSeen = true)) ∧
      (trimRising s r = true → t.freeCtr = s.freeCtr) ∧
      (∀ j : Fin 28, j ≠ r → t.rails[j] = s.rails[j]) ∧ t = { s with rails := t.rails, freeCtr := t.freeCtr } := by
  obtain ⟨t, mv, inc, hnext, hrails, hrest⟩ := trimPeriod_rails hp ha hs hk
  have hframe := execTrimPeriod_rest (F := [.rails, .freeCtr]) (by decide) (by decide) r s
  rw [show execTrimPeriod r s = _ from hnext] at hframe
  have hrail : t.rails[r] = trimActs s r mv inc (trimRecorded r s).rails[r] := by rw [hrails, vmod_get]
  rw [trimRecorded_rail] at hrail
  refine ⟨t, hnext, ?_⟩
  rw [hrail]
  obtain ⟨h1, h2⟩ := trimActs_fcRecord s r mv inc (trimSeen (min max16 (pDep s r / 1000000).toNat)
    (pinsMv (trimPins s r (pDep s r)) (s.railDiv r)) (trimFreezeHolds s r) (s.rails[r].fc.trimFrozen && s.rails[r].fc.freezeSeen) s.rails[r])
  refine ⟨h1, h2, trimActs_vsp _ _ _ _ _, trimActs_cmdCnt _ _ _ _ _, fun h => ?_, fun h => ?_, fun h => ?_, fun j e => ?_, rest_patch hframe⟩
  · rw [trimActs_stopped h]; exact ⟨rfl, rfl, rfl⟩
  · rw [trimActs_fc h, trimSeen, h, Bool.false_or, Bool.and_eq_true]
    exact ⟨rfl, Iff.rfl⟩
  · rw [rest_freeCtr hrest (by decide), trimRecorded, h, if_pos rfl]
  · rw [hrails, vmod_get_ne e, trimRecorded_other e]

theorem trimDisable_next {s : State} {p : Port} {r : Fin 28} {row : ObjRow} (ha : answering s = true)
    (hw : checkWrite s p (0x3100 + r) 0x1F = .ok row) : exec (.trimDisable p r) s = .next { trimDisableOp r s with ack := .done } := by
  show Host.Outcome.next (directWrite p (okey (0x3100 + r) 0x1F) s _) = _
  rw [directWrite_ok (by decide) ha hw]; rfl

/-- The rail of a bus trim disable: V_SP slews to its set-point at the trim rate (R237). -/
def trimDisabled (s : State) (r : Fin 28) (x : RailState) : RailState :=
  { x with
    fc := { x.fc with trimActive := false, trimFrozen := false, trimDisabling := decide (x.dyn.vsp ≠ railTarget s r (s.railVset r)) }
    dyn := if cmdBlocked s r then x.dyn else { x.dyn with
      target := railTarget s r (s.railVset r), inc := trimInc s r, vtgt := s.railVset r
      moving := decide (x.dyn.vsp ≠ railTarget s r (s.railVset r))
      transition := x.dyn.transition || decide (x.dyn.vsp ≠ railTarget s r (s.railVset r)) } }

theorem trimDisableOp_eq (r : Fin 28) (s : State) : trimDisableOp r s =
    if s.rails[r].fc.trimActive = false ∨ s.rails[r].stationKept = true then s.store (okey (0x3100 + r) 0x1F) 0
    else { s.store (okey (0x3100 + r) 0x1F) 0 with rails := vmod s.rails r (trimDisabled s r) } := by
  simp only [trimDisableOp, Bool.or_eq_true, Bool.not_eq_true']
  split <;> rfl

/-- Settles O22: hints are `hintAccept` at the rail, sent one by one; a trim period is `trimActs` on what it recorded. -/
theorem hintsAndBusTrim : Obligations.HintsAndBusTrim := by
  intro s r
  refine ⟨fun hp => ?absent, fun h ha => ?noEdge, fun h => hintAgain_iff h s, fun h hf => ?edge, fun p v row ha hw hl h1 h2 h3 => ?waits,
    fun p v row ha hw => exec_fcReqWrite ha hw v, fun p v row ha hw hu hf h1 h2 h3 => fcReqWrite_taken ha hw hu hf ?takes,
    fun h j v => ⟨fun ho => ?old, fun ht => ?silent, fun ho ht hp => ?pause, fun ho ht hp hr => ?unmapped, fun ho ht hp hr => ?window⟩,
    forecastDeadline_none, fun hp h ha => ?deadline, forecastDeadline_late, fun hp => ?inhibit, fun hp h => ?noTrim, trimPeriod_next,
    fun hp => ?freeze, fun p row ha hw => ?disable⟩
  case absent =>
    simp only [exec, execForecastDeadline, execForecastInhibitEnd, execTrimPeriod, execTrimFreeze, hp]
    exact ⟨rfl, rfl, rfl, rfl⟩
  case noEdge =>
    rw [exec_hintPinEdge]
    rcases ha with ha | ha
    · rw [ha, if_pos rfl]; rfl
    · have hn : ∀ q, pinHint s h q = false := fun q => by
        rw [pinHint]
        cases h1 : railPresent s q
        · rfl
        · cases h2 : assigned s h q
          · rfl
          · exact ha q h1 h2
      rw [hintOnes_none hn, ite_self]; rfl
  case edge =>
    obtain ⟨t, ht, h1, h2, h3⟩ := hintPinEdge_next hf
    refine ⟨t, ht, h1, fun q => ?_, h3⟩
    obtain ⟨hk, hc⟩ := h2 q
    refine ⟨hk.enabled, hk.vsp, hk.target, hk.prot, fun ha hp has hpin hu he hpg hsk => hc ha ?_ hu ?_⟩
    · rw [pinHint, hp, has, hpin]; rfl
    · rw [takesHints, he, hpg, hsk]; rfl
  case waits =>
    rw [exec_fcReqWrite ha hw, fcRequest, fcFields_inRange h1 h2 h3, sendCmd_down (c := .hint r (field v 15 0) (field v 22 16)) hl]; rfl
  case takes => rw [takesHints, h1, h2, h3]; rfl
  case old =>
    show execFcWindowWrite h j v s = _
    rw [execFcWindowWrite, ho]; rfl
  case silent =>
    show execFcWindowWrite h j v s = _
    rw [execFcWindowWrite, windowWrite, ht, if_pos (by decide : (!false) = true), ite_self]
  case pause => rw [exec_fcWindowWrite ho ht, windowFc, hp]; rfl
  case unmapped => rw [exec_fcWindowWrite ho ht, windowFc, hp, hr]; rfl
  case window => rw [exec_fcWindowWrite ho ht, windowFc, hp, hr]; rfl
  case deadline => rw [exec_forecastDeadline hp h, ha]; rfl
  case inhibit =>
    show execForecastInhibitEnd r s = _
    rw [execForecastInhibitEnd, hp]; rfl
  case noTrim =>
    show execTrimPeriod r s = _
    rw [execTrimPeriod, hp, if_neg (by decide), if_pos]
    rcases h with h | h | h <;> rw [h] <;> simp
  case freeze =>
    show execTrimFreeze r s = _
    simp only [execTrimFreeze, hp, Bool.and_eq_true, Bool.not_eq_true']
    rfl
  case disable =>
    rw [trimDisable_next ha hw, trimDisableOp_eq]
    by_cases h : s.rails[r].fc.trimActive = false ∨ s.rails[r].stationKept = true
    · rw [if_pos h]
      refine ⟨_, rfl, rfl, rfl, fun _ => rfl, fun h1 h2 => ?_, fun _ _ => rfl, rfl⟩
      rw [h1, h2] at h; simp at h
    · rw [if_neg h]
      refine ⟨_, rfl, rfl, rfl, fun h' => absurd h' h, fun _ _ => ?_, fun j e => vmod_get_ne e _ _, rfl⟩
      dsimp only
      rw [vmod_get]
      refine ⟨rfl, rfl, ?_, ?_, fun hb => ?_⟩
      · rw [trimDisabled]; split <;> rfl
      · rw [trimDisabled, decide_eq_true_eq]
      · rw [trimDisabled, hb]; exact ⟨rfl, rfl⟩

end Sys2Proof.Proofs

namespace Sys2Proof.Proofs

open Sys2Proof.Machine Sys2Proof.Laws

/-! ### Over-voltage (R241 to R247, R257, R258, R265) -/

/-- Setting a bit that stands changes nothing. -/
theorem setBit_of_testBit {w i : Nat} (h : w.testBit i = true) : setBit w i = w := by
  refine Nat.eq_of_testBit_eq fun j => ?_
  rw [setBit, Nat.testBit_or, Nat.testBit_two_pow]
  by_cases e : i = j
  · rw [← e, h]; rfl
  · rw [decide_eq_false e, Bool.or_false]

theorem trackOver_iff (s : State) (r : Fin 28) (code : Nat) : trackOver s r code = true ↔ 512 * 5 + 32 * s.ovTrkOfs r ≤ 5 * code := by
  rw [trackOver, decide_eq_true_eq]; omega

/-- The sample that a comparison keeps. -/
def sensed (v : Nat) (x : RailState) : RailState := { x with loop := { x.loop with vsense := v } }

theorem exec_ovAbsTrip {s : State} {r : Fin 28} {v : Nat} (hp : railPresent s r = true) (ha : dieArmed s = true) (hph : railPhases s r ≠ []) :
    exec (.ovAbsTrip r v) s = .next (if mvUnits s.rails[r].prot.ovAbs < v then ovAgain r 0 (modRail r (sensed v) s) else modRail r (sensed v) s) := by
  show execOvAbsTrip r v s = _
  rw [execOvAbsTrip, hp, ha, List.isEmpty_eq_false_iff.mpr hph]; rfl

theorem exec_ovTrackingTrip {s : State} {r : Fin 28} {v : Nat} (hp : railPresent s r = true) (ha : trackArmed s r = true) :
    exec (.ovTrackingTrip r v) s = .next (if trackOver s r (senseCode s r v) then ovAgain r 1 (modRail r (sensed v) s)
      else modRail r (sensed v) s) := by
  show execOvTrackingTrip r v s = _
  rw [execOvTrackingTrip, hp, ha]; rfl

theorem trackArmed_true {s : State} {r : Fin 28} (ha : dieArmed s = true) (he : s.rails[r].enabled = true) (hp : s.rails[r].pulsed = true) :
    trackArmed s r = true := by
  rw [trackArmed, ha, he, hp]; rfl

/-- A comparison that trips again adds its bit, with the rail's event where it was clear. -/
theorem railFaultBit_spec (r : Fin 28) (b : Nat) (s : State) :
    (railFaultBit r b s).rails = vmod s.rails r (fun x => { x with prot := { x.prot with fault := setBit x.prot.fault b } }) ∧
      (s.rails[r].prot.fault.testBit b = true → railFaultBit r b s = s) ∧
      rest [.links, .rails, .evc, .tw] (railFaultBit r b s) = rest [.links, .rails, .evc, .tw] s := by
  cases h : s.rails[r].prot.fault.testBit b
  · have he : railFaultBit r b s = railEvent r (modProt r (fun p => { p with fault := setBit p.fault b }) s) :=
      if_neg (by rw [h]; decide)
    refine ⟨?_, fun h' => absurd h' (by decide), ?_⟩
    · rw [he, railEvent_rails]; rfl
    · rw [he, railEvent_rest (by decide) (by decide) (by decide)]
      exact modRail_rest (by decide) _ _ _
  · have he : railFaultBit r b s = s := if_pos h
    refine ⟨?_, fun _ => he, by rw [he]⟩
    rw [he, vmod_congr (g := fun x => x), vmod_same]
    rw [setBit_of_testBit h]

theorem ovAgain_latched {s : State} {r : Fin 28} {b v : Nat} (hl : s.rails[r].prot.ovLatch = true) :
    ∃ t, ovAgain r b (modRail r (sensed v) s) = t ∧ t.rails = vmod s.rails r (fun x => { x with
      loop := { x.loop with vsense := v }, prot := { x.prot with fault := setBit x.prot.fault b } }) ∧
      (s.rails[r].prot.fault.testBit b = true → t.evc = s.evc ∧ t.links = s.links) ∧
      t = { s with links := t.links, rails := t.rails, evc := t.evc, tw := t.tw } := by
  have hx : (modRail r (sensed v) s).rails[r] = sensed v s.rails[r] := vmod_get _ _ _
  have ha : ovAgain r b (modRail r (sensed v) s) = railFaultBit r b (modRail r (sensed v) s) := by
    rw [ovAgain, hx]; exact if_pos hl
  obtain ⟨h1, h2, h3⟩ := railFaultBit_spec r b (modRail r (sensed v) s)
  rw [hx] at h2
  refine ⟨_, ha, ?_, fun hb => ?_, rest_patch (h3.trans (modRail_rest (by decide) _ _ _))⟩
  · rw [h1, modRail_rails, vmod_vmod]; rfl
  · rw [h2 hb]; exact ⟨rfl, rfl⟩

/-! The latch. -/

/-- What an over-voltage trip writes in the rail (R244, R249). -/
def ovLatched (b : Nat) (x : RailState) : RailState :=
  { x with
    loop := { x.loop with u := 0, i := 0, laneE := 0, laneW := 0 },
    dyn := { x.dyn with moving := false },
    prot := { x.prot with
      ovLatch := true, ovTrips := satAdd max16 x.prot.ovTrips 1, uvTimer := false, ocTimer := false
      fault := if x.stationKept then setBit (setBit x.prot.fault b) 6 else setBit x.prot.fault b } }

/-- The latch with its event. -/
def ovTripped (r : Fin 28) (b : Nat) (s : State) : State :=
  railEvent r (stopTimers r (modRail r (fun x => { x with
    loop := { x.loop with u := 0, i := 0, laneE := 0, laneW := 0 },
    dyn := { x.dyn with moving := false },
    prot := { x.prot with
      ovLatch := true, ovTrips := satAdd max16 x.prot.ovTrips 1,
      fault := if x.stationKept then setBit (setBit x.prot.fault b) 6 else setBit x.prot.fault b } }) s))

theorem ovTripped_rails (r : Fin 28) (b : Nat) (s : State) : (ovTripped r b s).rails = vmod s.rails r (ovLatched b) := by
  rw [ovTripped, railEvent_rails, stopTimers, modProt_eq, modRail_modRail]; rfl

theorem ovTripped_rest (r : Fin 28) (b : Nat) (s : State) :
    rest [.links, .rails, .evc, .tw] (ovTripped r b s) = rest [.links, .rails, .evc, .tw] s := by
  rw [ovTripped, railEvent_rest (by decide) (by decide) (by decide), stopTimers, modProt_eq, modRail_modRail]
  exact modRail_rest (by decide) _ _ _

theorem ovLatchSet_eq (r : Fin 28) (b : Nat) (s : State) : ovLatchSet r b s =
    if s.rails[r].disabling then railOffDone r (ovTripped r b s) else pgRefresh r (ovTripped r b s) := rfl

/-- A rail under its latch has no power-good. -/
theorem pgDecision_latched {r : Fin 28} {s : State} (h : s.rails[r].prot.ovLatch = true) : pgDecision s r = false := by
  rw [pgDecision, row2, h]
  simp

/-- The rail of a trip outside an off sequence, its power-good gone. -/
theorem ovLatchSet_rails {r : Fin 28} {b : Nat} {s : State} (hd : s.rails[r].disabling = false) :
    (ovLatchSet r b s).rails = vmod s.rails r fun x => if (ovLatched b x).prot.pg = true then pgFallen (ovLatched b x) else ovLatched b x := by
  have hx : (ovTripped r b s).rails[r] = ovLatched b s.rails[r] := by rw [ovTripped_rails, vmod_get]
  rw [ovLatchSet_eq, hd, if_neg (by decide), pgRefresh_rails, ovTripped_rails, vmod_vmod]
  refine vmod_congr ?_
  rw [pgRail, pgDecision_latched (by rw [hx]; rfl)]
  cases (ovLatched b s.rails[r]).prot.pg <;> rfl

/-! What an enable and the end of an off sequence leave of the record of trips. -/

/-- The count of trips, and whether the rail is station-kept. -/
def tripRecord (s : State) (r : Fin 28) : Nat × Bool := (s.rails[r].prot.ovTrips, s.rails[r].stationKept)

theorem tripRecord_rails {s t : State} (h : t.rails = s.rails) (r : Fin 28) : tripRecord t r = tripRecord s r := by
  rw [tripRecord, tripRecord, h]

theorem tripRecord_modRail {r : Fin 28} {f : RailState → RailState} (hf : ∀ x, (f x).prot.ovTrips = x.prot.ovTrips ∧
    (f x).stationKept = x.stationKept) (s : State) : tripRecord (modRail r f s) r = tripRecord s r := by
  rw [tripRecord, tripRecord, modRail, vmod_get, (hf _).1, (hf _).2]

theorem tripRecord_pgRefresh (r : Fin 28) (s : State) : tripRecord (pgRefresh r s) r = tripRecord s r := by
  obtain ⟨_, _, _, _, _, _, _, _, h⟩ := pgRail_eq r s s.rails[r]
  rw [tripRecord, tripRecord, pgRefresh_rail, h]

theorem tripRecord_latchFault (r : Fin 28) (b : Nat) (s : State) : tripRecord (latchFault r b s) r = tripRecord s r := by
  rw [latchFault, tripRecord_pgRefresh, tripRecord_rails (railEvent_rails r _), stopTimers, modProt_eq, tripRecord_modRail, tripRecord_modRail]
  · exact fun _ => ⟨rfl, rfl⟩
  · exact fun _ => ⟨rfl, rfl⟩

theorem logFault_rails (c : FaultCode) (d n v : Nat) (s : State) : (logFault c d n v s).rails = s.rails :=
  rest_rails (logFault_rest (F := [.nv, .log, .evc, .tw]) (by decide) (by decide) (by decide) (by decide) c d n v s) (by decide)

theorem tripRecord_vdrAtEnable (r : Fin 28) (s : State) : tripRecord (vdrAtEnable r s) r = tripRecord s r := by
  unfold vdrAtEnable
  split
  · rw [tripRecord_rails (logFault_rails _ _ _ _ _), tripRecord_latchFault, modProt_eq, tripRecord_modRail]
    exact fun _ => ⟨rfl, rfl⟩
  · rfl

theorem tripRecord_railEnable (r : Fin 28) (s : State) : tripRecord (railEnable r s) r = tripRecord s r := by
  unfold railEnable
  extract_lets tgt lat s1 s2
  split
  · rfl
  · split
    · split
      · exact tripRecord_modRail (f := fun x => { x with enHeld := true }) (fun _ => ⟨rfl, rfl⟩) s
      · rfl
    · have h1 : s1.rails = s.rails := by
        have h := rest_rails (sendLane_rest (F := [.dies]) (by decide) r 0 s) (by decide)
        unfold s1
        rw [modPhases_eq]
        exact h
      have h2 : tripRecord s2 r = tripRecord s1 r := by
        refine tripRecord_modRail ?_ s1
        exact fun _ => ⟨rfl, rfl⟩
      have h3 : tripRecord (epochWith r (s.rotStride r) (s.rotEn r) s2) r = tripRecord s2 r := by
        rw [epochWith_eq, modLoop_eq]
        refine tripRecord_modRail ?_ s2
        exact fun _ => ⟨rfl, rfl⟩
      rw [tripRecord_vdrAtEnable, tripRecord_pgRefresh,
        tripRecord_rails (rest_rails (followersToZero_rest (F := [.dies]) (by decide) r _) (by decide)), h3, h2, tripRecord_rails h1]

/-- At the end of an off sequence the count of trips stands and the rail is not station-kept. -/
theorem tripRecord_railOffDone {r : Fin 28} {s : State} (hk : s.rails[r].stationKept = false) : tripRecord (railOffDone r s) r = tripRecord s r := by
  cases he : s.rails[r].enabled
  · rw [railOffDone, he]; rfl
  · unfold railOffDone
    extract_lets held s1 cleared s2
    have h1 : tripRecord s1 r = tripRecord s r := by
      rw [tripRecord, tripRecord, hk]
      unfold s1
      rw [modRail, vmod_get]
    have h2 : tripRecord s2 r = tripRecord s r := by
      unfold s2
      rw [tripRecord_pgRefresh, ← h1]
      cases cleared
      · rfl
      · exact tripRecord_rails (railEvent_rails r s1) r
    rw [he, if_neg (by decide)]
    cases held
    · exact h2
    · exact (tripRecord_railEnable r s2).trans h2

/-- Every trip is counted. -/
theorem tripRecord_ovLatchSet {r : Fin 28} {b : Nat} {s : State} (hk : s.rails[r].stationKept = false) :
    tripRecord (ovLatchSet r b s) r = (satAdd max16 s.rails[r].prot.ovTrips 1, false) := by
  have hx : (ovTripped r b s).rails[r] = ovLatched b s.rails[r] := by rw [ovTripped_rails, vmod_get]
  have h : tripRecord (ovTripped r b s) r = (satAdd max16 s.rails[r].prot.ovTrips 1, false) := by
    rw [tripRecord, hx, ← hk]; rfl
  rw [ovLatchSet_eq]
  split
  · rw [tripRecord_railOffDone (by rw [hx]; exact hk), h]
  · rw [tripRecord_pgRefresh, h]

/-! What follows a trip. -/

theorem skLeave_notKept {r : Fin 28} {s : State} (h : s.rails[r].stationKept = false) (why : Nat) (l : Bool) : skLeave r why l s = s := by
  rw [skLeave, h]; rfl

/-- A kept rail that leaves under its over-voltage latch (R115). -/
theorem skLeave_latched {r : Fin 28} {s : State} {why : Nat} (h : s.rails[r].stationKept = true) (hw : why ≤ 1) (l : Bool) :
    skLeave r why l s = { s with
      sk := { s.sk with left := s.sk.left ++ [⟨r.val, why, l⟩] }, rails := vmod s.rails r fun x => { x with stationKept := false } } := by
  rw [skLeave, h, if_neg (by decide)]
  dsimp only
  rw [if_pos hw]; rfl

theorem skSettle_before {s : State} (h : s.boot.step8 = false) : skSettle s = s := by rw [skSettle, h]; rfl

/-- From step 8 on no rail that left station-keeping is left to deal with. -/
theorem skSettle_left {s : State} (h : s.boot.step8 = true) : (skSettle s).sk.left = [] := by
  rw [skSettle, h]
  cases hl : s.sk.left with
  | nil => exact hl
  | cons x l =>
    show (skEndCheck true (skLeftAll s)).sk.left = []
    rw [rest_sk (skEndCheck_rest (F := [.evc, .tw]) (by decide) (by decide) true _) (by decide)]; rfl

theorem ovTrip_kept {r : Fin 28} {b : Nat} {s : State} (hg : gangOfRail s r = none) (hk : s.rails[r].stationKept = true) :
    ovTrip r b s = skSettle (skLeave r b false (ovLatchSet r b s)) := by
  rw [ovTrip, hg]
  exact if_pos hk

theorem ovTrip_free {r : Fin 28} {b : Nat} {s : State} (hg : gangOfRail s r = none) (hk : s.rails[r].stationKept = false) :
    ovTrip r b s = itemFault (railItem r) .overVoltage (logFault .railOv (railDie r + 1) r (ovLatchSet r b s).rails[r].prot.fault
      (ovLatchSet r b s)) := by
  have h : (ovLatchSet r b s).rails[r].stationKept = false := congrArg Prod.snd (tripRecord_ovLatchSet (b := b) hk)
  rw [ovTrip, hg]
  dsimp only
  rw [hk, skLeave_notKept h]; rfl

theorem ovTrip_gang {r : Fin 28} {b : Nat} {s : State} {g : Fin 4} (hg : gangOfRail s r = some g) :
    ovTrip r b s = skSettle (classATrip [r] .railOvGanged (railDie r + 1) r (skLeave r b (skLogs s) (ovLatchSet r b s)).rails[r].prot.fault s
      (skLeave r b (skLogs s) (ovLatchSet r b s))) := by
  rw [ovTrip, hg]

/-! A class A trip (R290, R453). -/

/-- What a class A fault without a full reset can write. -/
abbrev safeFields : List Fld :=
  [.nv, .links, .fo, .rails, .phases, .dies, .items, .groups, .regs, .rsto, .chg, .log, .evc, .tw, .update, .freeCtr]

/-- `LOG_A_RESET` reads the settings and nothing of the rails. -/
theorem logAReset_congr {s t : State} (hs : t.settings = s.settings) (hf : t.freeCtr = s.freeCtr) : t.logAReset = s.logAReset := by
  have hraw : ∀ u : State, u.setRaw (okey 0x2A20 0x05) (bit false) = (mapGet (okey 0x2A20 0x05) u.settings).getD (bit false) := fun _ => rfl
  rw [State.logAReset, State.logAReset, State.setFlag, State.setFlag, hraw, hraw, hs, hf]

/-- With no full reset to follow it, a ganged over-voltage trip ends in the shutdowns of R290. -/
theorem classAFollow_safe {s : State} (h : s.logAReset = false) (items : List (Fin 46)) :
    rest safeFields (classAFollow .railOvGanged items s) = rest safeFields s := by
  unfold classAFollow
  dsimp only
  split
  · exact rest_with_update (by decide) s _
  · rw [h, if_neg (by decide)]
    exact safeShutdowns_rest (by decide) (by decide) (by decide) (by decide) (by decide) (by decide) (by decide) (by decide) (by decide)
      (by decide) (by decide) (by decide) (by decide) (by decide) items s

/-- The package fault line and `SAFE_N` asserted. -/
def lineSet (s : State) : State := { s with faultLine := true, safeN := true }

/-- The package fault line asserts itself and `SAFE_N`, and puts the outputs into their safe states (R453). -/
theorem assertLine_rest_pins (die : Nat) (s : State) : rest [.links, .fo, .rails, .regs, .chg, .log, .evc, .tw] (assertLine die s) =
    rest [.links, .fo, .rails, .regs, .chg, .log, .evc, .tw] (lineSet s) := by
  unfold assertLine
  rw [pgRefreshAll_rest (by decide) (by decide) (by decide) (by decide), safeRailBits_rest (by decide) (by decide) (by decide) (by decide),
    safeOutputs_rest (by decide) (by decide) (by decide) (by decide) (by decide)]
  exact rest_with_log (by decide) (lineSet s) _

theorem classATrip_safe {s s0 : State} (h : s.logAReset = false) (rs : List (Fin 28)) (die src detail : Nat) :
    rest safeFields (classATrip rs .railOvGanged die src detail s0 s) = rest safeFields (lineSet s) := by
  have hline := assertLine_rest_pins die s
  have hlog := logFault_rest (F := [.nv, .log, .evc, .tw]) (by decide) (by decide) (by decide) (by decide) .railOvGanged die src detail
    (assertLine die s)
  have hset : (assertLine die s).settings = (lineSet s).settings := rest_settings hline (by decide)
  have hfree : (assertLine die s).freeCtr = (lineSet s).freeCtr := rest_freeCtr hline (by decide)
  have hreset : (assertLine die s).logAReset = false := (logAReset_congr hset hfree).trans h
  have hline' := rest_mono (G := safeFields) (by decide) hline
  unfold classATrip
  split
  · rw [classAFollow_safe hreset, hline']
  · rw [classA, classAFollow_safe, rest_mono (by decide) hlog, hline']
    rw [← hreset]
    exact logAReset_congr (rest_settings hlog (by decide)) (rest_freeCtr hlog (by decide))

/-- A kept rail that left by a class A trip: its group is shut down, no full reset follows (R115, R290). -/
theorem skLeft_classA {s : State} {r : Fin 28} {b : Nat} {l : Bool} (hb : b = 0 ∨ b = 1) {g : Fin 4} (hg : gangOfRail s r = some g) :
    rest (.sk :: safeFields) (skLeft ⟨r.val, b, l⟩ s) = rest (.sk :: safeFields) s := by
  unfold skLeft
  rw [fin_val]
  dsimp only
  generalize hs1 : ({ s with sk := { s.sk with down := vset s.sk.down r true } } : State) = s1
  have h1 : rest (.sk :: safeFields) s1 = rest (.sk :: safeFields) s := by rw [← hs1]; exact rest_with_sk (by decide) s _
  have hf : leftFault b = some .overVoltage := by rcases hb with rfl | rfl <;> rfl
  have hc : leftClassA s1 r b = true := by
    have : gangOfRail s1 r = some g := by rw [← hs1]; exact (gangOfRail_congr rfl r).trans hg
    rcases hb with rfl | rfl <;> rw [leftClassA, this] <;> rfl
  rw [hf]
  dsimp only
  rw [hc, if_pos rfl]
  have h2 : ∀ (o : Option FaultCode) (d : Nat), rest (.sk :: safeFields) (match l, o with
      | false, some code => logFault code (railDie r + 1) r d s1
      | _, _ => s1) = rest (.sk :: safeFields) s1 := by
    intro o d
    split
    · exact logFault_rest (by decide) (by decide) (by decide) (by decide) _ _ _ _ _
    · rfl
  split
  · rw [groupOff_rest (by decide) (by decide) (by decide) (by decide) (by decide) (by decide) (by decide) (by decide) (by decide)
      (by decide) (by decide) (by decide) (by decide) (by decide), setItemFault_rest (by decide)]
    exact (h2 _ _).trans h1
  · rw [setItemFault_rest (by decide)]
    exact (h2 _ _).trans h1

theorem skSettle_classA {s : State} {r : Fin 28} {b : Nat} {l : Bool} (hb : b = 0 ∨ b = 1) {g : Fin 4} (hg : gangOfRail s r = some g)
    (hl : s.sk.left = [] ∨ s.sk.left = [⟨r.val, b, l⟩]) : rest (.sk :: safeFields) (skSettle s) = rest (.sk :: safeFields) s := by
  cases h8 : s.boot.step8
  · rw [skSettle_before h8]
  · rcases hl with hl | hl
    · rw [skSettle, hl, h8]; rfl
    · have hall : skLeftAll s = { skLeft ⟨r.val, b, l⟩ s with sk := { (skLeft ⟨r.val, b, l⟩ s).sk with left := [] } } := by
        rw [skLeftAll, hl]
        dsimp only [List.foldl]
        rw [h8, if_pos rfl]
      rw [skSettle, hl, h8]
      show rest _ (skEndCheck true (skLeftAll s)) = _
      rw [skEndCheck_rest (by decide) (by decide), hall]
      exact (rest_with_sk (by decide) (skLeft ⟨r.val, b, l⟩ s) _).trans (skLeft_classA hb hg)

/-! The commands. -/

/-- A trip command of rail `r` whose sample `v` is over its threshold, with the bit it sets. -/
def TripCmd (s : State) (r : Fin 28) (v : Nat) (c : Instr) (b : Nat) : Prop :=
  (c = .ovAbsTrip r v ∧ b = 0 ∧ railPhases s r ≠ [] ∧ mvUnits s.rails[r].prot.ovAbs < v) ∨
    (c = .ovTrackingTrip r v ∧ b = 1 ∧ s.rails[r].enabled = true ∧ s.rails[r].pulsed = true ∧ trackOver s r (senseCode s r v) = true)

theorem exec_trip {s : State} {r : Fin 28} {v : Nat} {c : Instr} {b : Nat} (hp : railPresent s r = true) (ha : dieArmed s = true)
    (hl : s.rails[r].prot.ovLatch = false) (hc : TripCmd s r v c b) : exec c s = .next (ovTrip r b (modRail r (sensed v) s)) := by
  have hx : (modRail r (sensed v) s).rails[r] = sensed v s.rails[r] := vmod_get _ _ _
  have hagain : ovAgain r b (modRail r (sensed v) s) = ovTrip r b (modRail r (sensed v) s) := by
    rw [ovAgain, hx]; exact if_neg (by rw [sensed, hl]; decide)
  rcases hc with ⟨rfl, rfl, hph, hv⟩ | ⟨rfl, rfl, he, hpu, ht⟩
  · rw [exec_ovAbsTrip hp ha hph, if_pos hv, hagain]
  · rw [exec_ovTrackingTrip hp (trackArmed_true ha he hpu), ht, if_pos rfl, hagain]

theorem TripCmd.bit {s : State} {r : Fin 28} {v : Nat} {c : Instr} {b : Nat} (hc : TripCmd s r v c b) : b = 0 ∨ b = 1 := by
  rcases hc with ⟨-, h, -⟩ | ⟨-, h, -⟩
  · exact .inl h
  · exact .inr h

/-- What the latch and leaving station-keeping can write. -/
abbrev tripFields : List Fld := [.nv, .links, .sk, .rails, .phases, .dies, .log, .evc, .tw]

theorem ovLatchSet_rest_trip (r : Fin 28) (b : Nat) (s : State) : rest tripFields (ovLatchSet r b s) = rest tripFields s :=
  ovLatchSet_rest (by decide) (by decide) (by decide) (by decide) (by decide) (by decide) (by decide) (by decide) r b s

theorem skLeave_rest_trip (r : Fin 28) (why : Nat) (l : Bool) (s : State) : rest tripFields (skLeave r why l s) = rest tripFields s :=
  skLeave_rest (by decide) (by decide) (by decide) (by decide) (by decide) (by decide) (by decide) (by decide) (by decide) r why l s

theorem ovLatchSet_sk (r : Fin 28) (b : Nat) (s : State) : (ovLatchSet r b s).sk = s.sk :=
  rest_sk (ovLatchSet_rest (F := [.nv, .links, .rails, .phases, .dies, .log, .evc, .tw]) (by decide) (by decide) (by decide) (by decide)
    (by decide) (by decide) (by decide) (by decide) r b s) (by decide)

/-- The trip of a kept rail after step 8: nothing stays noted. -/
theorem ovTrip_kept_after {r : Fin 28} {b : Nat} {s : State} (hg : gangOfRail s r = none) (hk : s.rails[r].stationKept = true)
    (h8 : s.boot.step8 = true) : (ovTrip r b s).sk.left = [] := by
  rw [ovTrip_kept hg hk]
  refine skSettle_left ?_
  rw [rest_boot (skLeave_rest_trip _ _ _ _) (by decide), rest_boot (ovLatchSet_rest_trip _ _ _) (by decide), h8]

/-- The trip of a kept rail before step 8: it leaves station-keeping under its latch, its reaction noted. -/
theorem ovTrip_kept_before {r : Fin 28} {b : Nat} {s : State} (hb : b ≤ 1) (hg : gangOfRail s r = none) (hk : s.rails[r].stationKept = true)
    (hd : s.rails[r].disabling = false) (h8 : s.boot.step8 = false) :
    ∃ t, ovTrip r b s = t ∧ t.rails = vmod s.rails r (fun x =>
        { (if (ovLatched b x).prot.pg = true then pgFallen (ovLatched b x) else ovLatched b x) with stationKept := false }) ∧
      t.sk = { s.sk with left := s.sk.left ++ [⟨r.val, b, false⟩] } ∧
      rest [.sk, .links, .rails, .evc, .tw] t = rest [.sk, .links, .rails, .evc, .tw] s := by
  have hrails := ovLatchSet_rails (b := b) hd
  have hkept : (ovLatchSet r b s).rails[r].stationKept = true := by
    rw [hrails, vmod_get]
    split <;> exact hk
  have hrest : rest [.sk, .links, .rails, .evc, .tw] (ovLatchSet r b s) = rest [.sk, .links, .rails, .evc, .tw] s := by
    rw [ovLatchSet_eq, hd, if_neg (by decide), pgRefresh_rest (by decide) (by decide) (by decide) (by decide)]
    exact rest_mono (by decide) (ovTripped_rest r b s)
  refine ⟨_, ovTrip_kept hg hk, ?_⟩
  rw [skLeave_latched hkept hb, skSettle_before, ovLatchSet_sk, hrails, vmod_vmod]
  · refine ⟨rfl, rfl, ?_⟩
    refine Eq.trans ?_ hrest
    generalize ovLatchSet r b s = u
    exact (rest_with_sk (by decide) { u with rails := _ } _).trans (rest_with_rails (by decide) u _)
  · exact (congrArg BootState.step8 (rest_boot hrest (by decide))).trans h8

/-- The trip of a ganged rail that no full reset follows. -/
theorem ovTrip_gang_line {r : Fin 28} {b : Nat} {s : State} {g : Fin 4} (hb : b = 0 ∨ b = 1) (hg : gangOfRail s r = some g)
    (hreset : s.logAReset = false) (hleft : s.sk.left = []) : (ovTrip r b s).faultLine = true ∧ (ovTrip r b s).safeN = true := by
  rw [ovTrip_gang hg]
  obtain ⟨u, hu⟩ : ∃ u, u = skLeave r b (skLogs s) (ovLatchSet r b s) := ⟨_, rfl⟩
  have hrest : rest tripFields u = rest tripFields s := by rw [hu, skLeave_rest_trip, ovLatchSet_rest_trip]
  have hl : u.sk.left = [] ∨ u.sk.left = [⟨r.val, b, skLogs s⟩] := by
    rw [hu]
    cases hk : (ovLatchSet r b s).rails[r].stationKept
    · rw [skLeave_notKept hk, ovLatchSet_sk]; exact .inl hleft
    · rw [skLeave_latched hk (by omega)]
      refine .inr ?_
      dsimp only
      rw [ovLatchSet_sk, hleft]; rfl
  rw [← hu]
  have hnr : u.logAReset = false :=
    (logAReset_congr (rest_settings hrest (by decide)) (rest_freeCtr hrest (by decide))).trans hreset
  have htrip := classATrip_safe (s0 := s) hnr [r] (railDie r + 1) r u.rails[r].prot.fault
  obtain ⟨w, hw⟩ : ∃ w, w = classATrip [r] .railOvGanged (railDie r + 1) r u.rails[r].prot.fault s u := ⟨_, rfl⟩
  rw [← hw] at htrip ⊢
  have hgw : gangOfRail w r = some g := by
    have h1 : w.gangs = (lineSet u).gangs := rest_gangs htrip (by decide)
    have h2 : u.gangs = s.gangs := rest_gangs hrest (by decide)
    rw [gangOfRail_congr (h1.trans h2), hg]
  have hsk : w.sk = (lineSet u).sk := rest_sk htrip (by decide)
  have hset := skSettle_classA hb hgw (by rw [hsk]; exact hl)
  have hf : w.faultLine = (lineSet u).faultLine := rest_faultLine htrip (by decide)
  have hs : w.safeN = (lineSet u).safeN := rest_safeN htrip (by decide)
  exact ⟨(rest_faultLine hset (by decide)).trans hf, (rest_safeN hset (by decide)).trans hs⟩

/-! The fault clear. -/

/-- What a fault clear writes in the rail before it turns it off (R257). -/
def faultCleared (x : RailState) : RailState :=
  { x with
    enHeld := false
    prot := { x.prot with fault := 0, ovLatch := false, faultLatch := false, ignored := false, skLatched := false } }

/-- The rail after a fault clear. -/
structure FaultClear (r : Fin 28) (s t : State) : Prop where
  fault : t.rails[r].prot.fault = 0
  ovLatch : t.rails[r].prot.ovLatch = false
  faultLatch : t.rails[r].prot.faultLatch = false
  enabled : t.rails[r].enabled = false
  others : ∀ j : Fin 28, j ≠ r → t.rails[j] = s.rails[j]
  rest : rest [.links, .rails, .items, .evc, .tw] t = rest [.links, .rails, .items, .evc, .tw] s

theorem faultClear_off (r : Fin 28) (s : State) : FaultClear r s (railOffDone r (modRail r faultCleared s)) := by
  obtain ⟨u, hu⟩ : ∃ u, u = modRail r faultCleared s := ⟨_, rfl⟩
  have hx : u.rails[r] = faultCleared s.rails[r] := by rw [hu, modRail, vmod_get]
  have ho : ∀ j : Fin 28, j ≠ r → u.rails[j] = s.rails[j] := fun j e => by rw [hu, modRail, vmod_get_ne e]
  have hrest : rest [.links, .rails, .items, .evc, .tw] u = rest [.links, .rails, .items, .evc, .tw] s := by
    rw [hu]; exact modRail_rest (by decide) _ _ _
  rw [← hu]
  cases he : u.rails[r].enabled
  · rw [show railOffDone r u = u by rw [railOffDone, he]; rfl]
    exact ⟨by rw [hx]; rfl, by rw [hx]; rfl, by rw [hx]; rfl, he, ho, hrest⟩
  · obtain ⟨h1, h2⟩ := railOffDone_spec he (by rw [hx]; rfl)
    have hr : (railOffDone r u).rails[r] = railOffPg (faultCleared s.rails[r]) := by rw [h1, vmod_get, hx]
    refine ⟨?_, ?_, ?_, ?_, fun j e => by rw [h1, vmod_get_ne e, ho j e], (rest_mono (by decide) h2).trans hrest⟩ <;>
      (rw [hr, railOffPg]; split <;> rfl)

theorem FaultClear.items {r : Fin 28} {s t : State} (h : FaultClear r s t) (i : Fin 46) : FaultClear r s (itemForcedOff i t) := by
  have hrest := itemForcedOff_rest (F := [.items]) (by decide) i t
  have hrails := rest_rails hrest (by decide)
  obtain ⟨h1, h2, h3, h4, h5, h6⟩ := h
  exact ⟨by rw [hrails, h1], by rw [hrails, h2], by rw [hrails, h3], by rw [hrails, h4], fun j e => by rw [hrails, h5 j e],
    (rest_mono (by decide) hrest).trans h6⟩

theorem FaultClear.pg {r : Fin 28} {s t : State} (h : FaultClear r s t) : FaultClear r s (pgRefresh r t) := by
  obtain ⟨h1, h2, h3, h4, h5, h6⟩ := h
  obtain ⟨_, _, _, _, _, _, _, _, hr⟩ := pgRail_eq r t t.rails[r]
  rw [← pgRefresh_rail] at hr
  exact ⟨by rw [hr]; exact h1, by rw [hr]; exact h2, by rw [hr]; exact h3, by rw [hr]; exact h4,
    fun j e => (pgRefresh_rails_other e t).trans (h5 j e),
    (pgRefresh_rest (by decide) (by decide) (by decide) (by decide) r t).trans h6⟩

theorem fclrOp_done {s : State} {r : Fin 28} (h : fclrRefused s r = false) : ∃ t, fclrOp r s = (t, .done) ∧ FaultClear r s t := by
  refine ⟨_, ?_, ((faultClear_off r s).items (railItem r)).pg⟩
  rw [fclrOp, h]; rfl

theorem exec_railFclr {s : State} {p : Port} {r : Fin 28} {row : ObjRow} (ha : answering s = true)
    (hw : checkWrite s p (0x3200 + r) 0x0D = .ok row) (v : Nat) : exec (.railFclr p r v) s =
      .next (setAck (if v = 1 then fclrOp r s else (s, .done)).2 (if v = 1 then fclrOp r s else (s, .done)).1) := by
  show Host.Outcome.next (directWrite p (okey (0x3200 + r) 0x0D) s _) = _
  rw [directWrite_ok (by decide) ha hw]

theorem trip_keptBefore {s : State} {r : Fin 28} {v : Nat} {c : Instr} {b : Nat} (hp : railPresent s r = true) (ha : dieArmed s = true)
    (hl : s.rails[r].prot.ovLatch = false) (hc : TripCmd s r v c b) (hg : gangOfRail s r = none) (hk : s.rails[r].stationKept = true)
    (hd : s.rails[r].disabling = false) (h8 : s.boot.step8 = false) :
    ∃ t, exec c s = .next t ∧
      t.rails[r].prot.ovLatch = true ∧ t.rails[r].prot.ovTrips = satAdd max16 s.rails[r].prot.ovTrips 1 ∧
      t.rails[r].prot.fault = setBit (setBit s.rails[r].prot.fault b) 6 ∧ t.rails[r].loop.u = 0 ∧ t.rails[r].loop.i = 0 ∧
      t.rails[r].loop.vsense = v ∧ t.rails[r].dyn.moving = false ∧ t.rails[r].prot.uvTimer = false ∧
      t.rails[r].prot.ocTimer = false ∧ t.rails[r].stationKept = false ∧ t.rails[r].prot.pg = false ∧
      t.sk.left = s.sk.left ++ [⟨r.val, b, false⟩] ∧
      (∀ j : Fin 28, j ≠ r → t.rails[j] = s.rails[j]) ∧
      t = { s with sk := t.sk, links := t.links, rails := t.rails, evc := t.evc, tw := t.tw } := by
  have hx : (modRail r (sensed v) s).rails[r] = sensed v s.rails[r] := vmod_get _ _ _
  obtain ⟨t, ht, hrails, hsk, hrest⟩ := ovTrip_kept_before (r := r) (b := b) (s := modRail r (sensed v) s)
    (by have := TripCmd.bit hc; omega) ((gangOfRail_congr rfl r).trans hg) (by rw [hx]; exact hk) (by rw [hx]; exact hd) h8
  have hfault : (ovLatched b (sensed v s.rails[r])).prot.fault = setBit (setBit s.rails[r].prot.fault b) 6 := if_pos hk
  have hr : t.rails[r] = { (if (ovLatched b (sensed v s.rails[r])).prot.pg = true then pgFallen (ovLatched b (sensed v s.rails[r]))
      else ovLatched b (sensed v s.rails[r])) with stationKept := false } := by rw [hrails, vmod_get, hx]
  refine ⟨t, ht ▸ exec_trip hp ha hl hc, ?_⟩
  rw [hr]
  have hframe := rest_patch (hrest.trans (modRail_rest (by decide) _ _ _))
  have hoth : ∀ j : Fin 28, j ≠ r → t.rails[j] = s.rails[j] := fun j e => by
    rw [hrails, vmod_get_ne e, modRail, vmod_get_ne e]
  have hleft : t.sk.left = s.sk.left ++ [⟨r.val, b, false⟩] := by rw [hsk]; rfl
  split
  · exact ⟨rfl, rfl, hfault, rfl, rfl, rfl, rfl, rfl, rfl, rfl, rfl, hleft, hoth, hframe⟩
  · next hn => exact ⟨rfl, rfl, hfault, rfl, rfl, rfl, rfl, rfl, rfl, rfl, Bool.eq_false_iff.mpr hn, hleft, hoth, hframe⟩

/-- Settles O23: a trip is `ovTrip` on the kept sample, taken apart by gang, station-keeping and step 8. -/
theorem overVoltageAndClear : Obligations.OverVoltageAndClear := by
  intro s r
  refine ⟨fun hp v => ?absent, fun v hp h => ?absIdle, fun v hp h => ?trkIdle, fun v hp ha hph hv => ?absBelow,
    fun v hp ha he hpu ht => ?trkBelow, trackOver_iff s r, fun v hp ha hph hv hl => ?absAgain, fun v hp ha he hpu ht hl => ?trkAgain,
    fun v c b hp ha hl hc => ⟨fun hg hk h8 => ?keptAfter, fun hg hk hd h8 => ?keptBefore, fun g hg hn hleft => ?gang, fun hg hk u hu => ?free⟩,
    fun p row ha hw => ⟨fun v hv => ?other, fun h => ?refused, fun h => ?cleared⟩⟩
  case absent =>
    simp only [exec, execOvAbsTrip, execOvTrackingTrip, hp]
    exact ⟨rfl, rfl⟩
  case absIdle =>
    show execOvAbsTrip r v s = _
    rw [execOvAbsTrip, hp, if_neg (by decide), if_pos]
    rcases h with h | h <;> rw [h] <;> simp
  case trkIdle =>
    show execOvTrackingTrip r v s = _
    rw [execOvTrackingTrip, hp, if_neg (by decide), if_pos]
    rcases h with h | h | h <;> rw [trackArmed, h] <;> simp
  case absBelow => rw [exec_ovAbsTrip hp ha hph, if_neg (Nat.not_lt.mpr hv)]; rfl
  case trkBelow => rw [exec_ovTrackingTrip hp (trackArmed_true ha he hpu), ht]; rfl
  case absAgain =>
    obtain ⟨t, ht, h⟩ := ovAgain_latched (b := 0) (v := v) hl
    exact ⟨t, by rw [exec_ovAbsTrip hp ha hph, if_pos hv, ht], h⟩
  case trkAgain =>
    obtain ⟨t, ht', h⟩ := ovAgain_latched (b := 1) (v := v) hl
    exact ⟨t, by rw [exec_ovTrackingTrip hp (trackArmed_true ha he hpu), ht, if_pos rfl, ht'], h⟩
  case other => rw [exec_railFclr ha hw, if_neg hv]; rfl
  case refused => rw [exec_railFclr ha hw, if_pos rfl, fclrOp, h]; rfl
  case cleared =>
    obtain ⟨t, ht, h1, h2, h3, h4, h5, h6⟩ := fclrOp_done h
    refine ⟨setAck .done t, ?_, rfl, h1, h2, h3, h4, h5, ?_⟩
    · rw [exec_railFclr ha hw, if_pos rfl, ht]
    · exact rest_patch (F := [.links, .rails, .items, .evc, .tw, .ack])
        ((rest_with_ack (by decide) t _).trans (rest_mono (by decide) h6))
  case keptAfter =>
    have hx : (modRail r (sensed v) s).rails[r] = sensed v s.rails[r] := vmod_get _ _ _
    exact ⟨_, exec_trip hp ha hl hc, ovTrip_kept_after ((gangOfRail_congr rfl r).trans hg) (by rw [hx]; exact hk) h8⟩
  case keptBefore => exact trip_keptBefore hp ha hl hc hg hk hd h8
  case gang =>
    exact ⟨_, exec_trip hp ha hl hc, ovTrip_gang_line (TripCmd.bit hc) ((gangOfRail_congr rfl r).trans hg)
      ((logAReset_congr rfl rfl).trans hn) hleft⟩
  case free =>
    have hx : (modRail r (sensed v) s).rails[r] = sensed v s.rails[r] := vmod_get _ _ _
    have hk' : (modRail r (sensed v) s).rails[r].stationKept = false := by rw [hx]; exact hk
    have hu' : u = ovLatchSet r b (modRail r (sensed v) s) := hu
    rw [exec_trip hp ha hl hc, ovTrip_free (s := modRail r (sensed v) s) ((gangOfRail_congr rfl r).trans hg) hk', hu']
    refine ⟨?_, fun hd => ?_, rfl⟩
    · refine (congrArg Prod.fst (tripRecord_ovLatchSet (b := b) hk')).trans ?_
      rw [hx]; rfl
    · rw [ovLatchSet_rails (by rw [hx]; exact hd), vmod_get, hx]
      have hfault : (ovLatched b (sensed v s.rails[r])).prot.fault = setBit s.rails[r].prot.fault b :=
        if_neg (by rw [sensed, hk]; decide)
      split
      · exact ⟨rfl, hfault⟩
      · exact ⟨rfl, hfault⟩

end Sys2Proof.Proofs

namespace Sys2Proof.Proofs

open Sys2Proof.Machine Sys2Proof.Laws

/-! ### Fault timers and power-good (R248 to R253, R256, R259 to R262) -/

/-- What a decision on timers, power-good and an IGNORE latch keeps of the rail it is about: it may start timers, and it may drop
qualification. -/
structure Decided (x y : RailState) : Prop where
  loop : y.loop = x.loop
  enabled : y.enabled = x.enabled
  vsp : y.dyn.vsp = x.dyn.vsp
  fault : y.prot.fault = x.prot.fault
  w : y.prot.w = x.prot.w
  uvCond : y.prot.uvCond = x.prot.uvCond
  ocCond : y.prot.ocCond = x.prot.ocCond
  uvTimer : x.prot.uvTimer = true → y.prot.uvTimer = true
  ocTimer : x.prot.ocTimer = true → y.prot.ocTimer = true
  qualified : x.prot.qualified = false → y.prot.qualified = false

theorem Decided.refl (x : RailState) : Decided x x := ⟨rfl, rfl, rfl, rfl, rfl, rfl, rfl, id, id, id⟩

theorem Decided.trans {x y z : RailState} (h : Decided x y) (k : Decided y z) : Decided x z :=
  ⟨k.loop.trans h.loop, k.enabled.trans h.enabled, k.vsp.trans h.vsp, k.fault.trans h.fault, k.w.trans h.w, k.uvCond.trans h.uvCond,
    k.ocCond.trans h.ocCond, fun e => k.uvTimer (h.uvTimer e), fun e => k.ocTimer (h.ocTimer e), fun e => k.qualified (h.qualified e)⟩

/-- From `s` to `t` only decisions about rail `r` were taken. -/
structure DecidedOn (r : Fin 28) (s t : State) : Prop where
  rail : Decided s.rails[r] t.rails[r]
  others : ∀ j : Fin 28, j ≠ r → t.rails[j] = s.rails[j]
  rest : rest [.links, .rails, .evc, .tw] t = rest [.links, .rails, .evc, .tw] s

theorem DecidedOn.refl (r : Fin 28) (s : State) : DecidedOn r s s := ⟨.refl _, fun _ _ => rfl, rfl⟩

theorem DecidedOn.trans {r : Fin 28} {s t u : State} (h : DecidedOn r s t) (k : DecidedOn r t u) : DecidedOn r s u :=
  ⟨h.rail.trans k.rail, fun j e => (k.others j e).trans (h.others j e), k.rest.trans h.rest⟩

theorem decidedOn_modRail {r : Fin 28} {f : RailState → RailState} (s : State) (hf : Decided s.rails[r] (f s.rails[r])) :
    DecidedOn r s (modRail r f s) :=
  ⟨by rw [modRail, vmod_get]; exact hf, fun j e => vmod_get_ne e _ _, modRail_rest (by decide) r f s⟩

theorem pgRefresh_decided (r : Fin 28) (s : State) : DecidedOn r s (pgRefresh r s) := by
  refine ⟨?_, fun j e => pgRefresh_rails_other e s, pgRefresh_rest (by decide) (by decide) (by decide) (by decide) r s⟩
  rw [pgRefresh_rail, pgRail]
  split
  · exact .refl _
  · split
    · exact ⟨rfl, rfl, rfl, rfl, rfl, rfl, rfl, id, id, id⟩
    · exact ⟨rfl, rfl, rfl, rfl, rfl, rfl, rfl, id, id, fun _ => rfl⟩

theorem uvStart_decided (r : Fin 28) (s : State) : DecidedOn r s (uvStart r s) := by
  unfold uvStart
  dsimp only
  split
  · exact decidedOn_modRail s ⟨rfl, rfl, rfl, rfl, rfl, rfl, rfl, fun _ => rfl, id, id⟩
  · exact .refl r s

theorem ocStart_decided (r : Fin 28) (s : State) : DecidedOn r s (ocStart r s) := by
  unfold ocStart
  dsimp only
  split
  · exact decidedOn_modRail s ⟨rfl, rfl, rfl, rfl, rfl, rfl, rfl, id, fun _ => rfl, id⟩
  · exact .refl r s

theorem ignoreClear_decided (r : Fin 28) (s : State) : DecidedOn r s (ignoreClear r s) := by
  unfold ignoreClear
  dsimp only
  split
  · refine (decidedOn_modRail (r := r) (f := fun x => { x with prot := { x.prot with faultLatch := x.prot.skLatched, ignored := false } })
      s ?_).trans (pgRefresh_decided r _)
    exact ⟨rfl, rfl, rfl, rfl, rfl, rfl, rfl, id, id, id⟩
  · exact .refl r s

/-- The under-voltage timer runs once its condition holds on an armed rail with no latch (R249). -/
theorem uvStart_runs {r : Fin 28} {s : State} (hc : s.rails[r].prot.uvCond = true) (ha : s.rails[r].prot.uvArmed = true)
    (ho : s.rails[r].prot.ovLatch = false) (hf : s.rails[r].prot.faultLatch = false) : (uvStart r s).rails[r].prot.uvTimer = true := by
  unfold uvStart
  dsimp only
  rw [hc, ha, ho, hf]
  cases ht : s.rails[r].prot.uvTimer
  · rw [if_pos (by decide), modProt_eq, modRail, vmod_get]
  · exact ht

theorem ocStart_runs {r : Fin 28} {s : State} (hc : s.rails[r].prot.ocCond = true) (he : s.rails[r].enabled = true)
    (ho : s.rails[r].prot.ovLatch = false) (hf : s.rails[r].prot.faultLatch = false) : (ocStart r s).rails[r].prot.ocTimer = true := by
  have hh : ocHolds s r = true := by rw [ocHolds, hc, Bool.true_or]
  unfold ocStart
  dsimp only
  rw [hh, he, ho, hf]
  cases ht : s.rails[r].prot.ocTimer
  · rw [if_pos (by decide), modProt_eq, modRail, vmod_get]
  · exact ht

/-! A window sample. -/

/-- What a window sample records (R248, R259). -/
def windowed (s : State) (r : Fin 28) (v : Nat) (x : RailState) : RailState :=
  { x with
    loop := { x.loop with vsense := v }
    prot := { x.prot with
      w := windowFlag s r v, uvCond := belowWindow s r v && x.enabled, qualified := x.prot.qualified && windowFlag s r v } }

theorem exec_pgWindowChange {s : State} {r : Fin 28} {v : Nat} (hp : railPresent s r = true) (ha : dieArmed s = true) :
    exec (.pgWindowChange r v) s = .next (ignoreClear r (pgRefresh r (uvStart r (modRail r (windowed s r v) s)))) := by
  show execPgWindowChange r v s = _
  rw [execPgWindowChange, hp, ha]; rfl

theorem pgWindowChange_next {s : State} {r : Fin 28} {v : Nat} (hp : railPresent s r = true) (ha : dieArmed s = true) :
    ∃ t, exec (.pgWindowChange r v) s = .next t ∧
      t.rails[r].loop.vsense = v ∧ t.rails[r].prot.w = windowFlag s r v ∧
      t.rails[r].prot.uvCond = (belowWindow s r v && s.rails[r].enabled) ∧
      (windowFlag s r v = false → t.rails[r].prot.qualified = false) ∧
      (belowWindow s r v = true → s.rails[r].enabled = true → s.rails[r].prot.uvArmed = true → s.rails[r].prot.ovLatch = false →
        s.rails[r].prot.faultLatch = false → t.rails[r].prot.uvTimer = true) ∧
      t.rails[r].prot.fault = s.rails[r].prot.fault ∧ t.rails[r].enabled = s.rails[r].enabled ∧
      t.rails[r].dyn.vsp = s.rails[r].dyn.vsp ∧ (∀ j : Fin 28, j ≠ r → t.rails[j] = s.rails[j]) ∧
      t = { s with links := t.links, rails := t.rails, evc := t.evc, tw := t.tw } := by
  obtain ⟨u, hu⟩ : ∃ u, u = modRail r (windowed s r v) s := ⟨_, rfl⟩
  have hx : u.rails[r] = windowed s r v s.rails[r] := by rw [hu, modRail, vmod_get]
  have ho : ∀ j : Fin 28, j ≠ r → u.rails[j] = s.rails[j] := fun j e => by rw [hu, modRail, vmod_get_ne e]
  have hr : rest [.links, .rails, .evc, .tw] u = rest [.links, .rails, .evc, .tw] s := by rw [hu]; exact modRail_rest (by decide) _ _ _
  have htimer := (pgRefresh_decided r (uvStart r u)).trans (ignoreClear_decided r _)
  have hdec := (uvStart_decided r u).trans htimer
  have hnext := exec_pgWindowChange (v := v) hp ha
  rw [← hu] at hnext
  obtain ⟨t, ht⟩ : ∃ t, t = ignoreClear r (pgRefresh r (uvStart r u)) := ⟨_, rfl⟩
  rw [← ht] at hnext htimer hdec
  obtain ⟨⟨hloop, hen, hvsp, hfault, hw, huc, -, -, -, hq⟩, hoth, hrest⟩ := hdec
  rw [hx] at hloop hen hvsp hfault hw huc hq
  refine ⟨t, hnext, by rw [hloop]; rfl, hw, huc, fun h => hq ?_, fun h1 h2 h3 h4 h5 => htimer.rail.uvTimer (uvStart_runs ?_ ?_ ?_ ?_), hfault, hen, hvsp,
    fun j e => (hoth j e).trans (ho j e), rest_patch (hrest.trans hr)⟩
  · rw [windowed, h, Bool.and_false]
  · rw [hx, windowed, h1, h2]; rfl
  · rw [hx]; exact h3
  · rw [hx]; exact h4
  · rw [hx]; exact h5

/-! Over-current. -/

/-- `OC_TOT` in force reads the settings and the groups. -/
theorem ocLimitOf_congr {s t : State} (h : SameCfg s t) (hg : t.gangs = s.gangs) (r : Fin 28) : ocLimitOf t r = ocLimitOf s r := by
  have hset : t.ocTot r = s.ocTot r := h.setRange _ _ _ _
  rw [ocLimitOf, ocLimitOf, gangOfRail_congr hg, hg, hset]

/-- The filtered current of a sample (R161). -/
def currentKept (i : Int) (x : RailState) : RailState := { x with loop := { x.loop with iFilt := i * 65536 } }

/-- The condition that the lead die or the rail's own finds (R248). -/
def ocFound (s : State) (r : Fin 28) (i : Int) (x : RailState) : RailState :=
  { currentKept i x with prot := { x.prot with ocCond := decide (ocLimitOf s r < i) } }

theorem ocRefresh_current (r : Fin 28) (i : Int) (s : State) :
    ocRefresh r (modRail r (currentKept i) s) = modRail r (ocFound s r i) s := by
  have hx : (modRail r (currentKept i) s).rails[r] = currentKept i s.rails[r] := by rw [modRail, vmod_get]
  have hlim : ocLimitOf (modRail r (currentKept i) s) r = ocLimitOf s r :=
    ocLimitOf_congr (sameCfg_of_keeps (f := currentKept i) (fun _ => ⟨rfl, rfl, rfl⟩) r s.phases s) rfl r
  have hma : railMa (modRail r (currentKept i) s) r = i := by
    rw [railMa, hx]
    show i * 65536 / 65536 = i
    omega
  unfold ocRefresh
  dsimp only
  rw [hlim, hma, hx]
  split
  · next h =>
    refine congrArg (fun v => { s with rails := v }) (vmod_congr (f := currentKept i) (g := ocFound s r i) ?_)
    rw [ocFound, h]; rfl
  · rw [modProt_eq, modRail_modRail]; rfl

/-- The current that a die reports, on a ganged rail scaled to the rail (R253). -/
def scaledCurrent (s : State) (r : Fin 28) (k : Fin 7) (m : Int) : Int :=
  if (gangOfRail s r).isSome && decide (((activePhases s r).filter fun ph => decide (phaseDie ph = k)).length ≠ 0) then
    divHalfUpI (m * (activePhases s r).length) ((activePhases s r).filter fun ph => decide (phaseDie ph = k)).length
  else m

theorem scaledCurrent_eq (s : State) (r : Fin 28) (k : Fin 7) (m : Int) : scaledCurrent s r k m =
    if (gangOfRail s r).isSome = true ∧ ((activePhases s r).filter fun ph => decide (phaseDie ph = k)) ≠ [] then
      divHalfUpI (m * (activePhases s r).length) ((activePhases s r).filter fun ph => decide (phaseDie ph = k)).length
    else m := by
  simp only [scaledCurrent, Bool.and_eq_true, decide_eq_true_eq, ne_eq, List.length_eq_zero_iff]

/-- The crossing that a follower keeps, with its event where it is new (R253). -/
def followerOver (s : State) (r : Fin 28) (k : Fin 7) (i : Int) : State :=
  let s2 := modDie k (fun d => { d with ocOver := decide (ocLimitOf s r < i) }) s
  if decide (ocLimitOf s r < i) && !s.dies[k].ocOver then dieEvent k 0 s2 else s2

theorem exec_ocCondition {s : State} {r : Fin 28} {k : Fin 7} {m : Int} (hp : railPresent s r = true) (ha : dieArmed s = true)
    (hk : (railDies s r).contains k = true) : exec (.ocCondition r k m) s = .next (ignoreClear r (pgRefresh r (ocStart r
      (if k = railDie r then ocRefresh r (modRail r (currentKept (scaledCurrent s r k m)) s)
        else followerOver s r k (scaledCurrent s r k m))))) := by
  show execOcCondition r k m s = _
  rw [execOcCondition, hp, ha, hk]; rfl

theorem ocCondition_lead {s : State} {r : Fin 28} {m i : Int} (hp : railPresent s r = true) (ha : dieArmed s = true)
    (hk : (railDies s r).contains (railDie r) = true) (hi : i = scaledCurrent s r (railDie r) m) :
    ∃ t, exec (.ocCondition r (railDie r) m) s = .next t ∧ railMa t r = i ∧ (t.rails[r].prot.ocCond = true ↔ ocLimitOf s r < i) ∧
      (ocLimitOf s r < i → s.rails[r].enabled = true → s.rails[r].prot.ovLatch = false → s.rails[r].prot.faultLatch = false →
        t.rails[r].prot.ocTimer = true) ∧
      t.rails[r].prot.fault = s.rails[r].prot.fault ∧ t.rails[r].enabled = s.rails[r].enabled ∧
      t.rails[r].dyn.vsp = s.rails[r].dyn.vsp ∧ (∀ j : Fin 28, j ≠ r → t.rails[j] = s.rails[j]) ∧
      t = { s with links := t.links, rails := t.rails, evc := t.evc, tw := t.tw } := by
  obtain ⟨u, hu⟩ : ∃ u, u = modRail r (ocFound s r i) s := ⟨_, rfl⟩
  have hx : u.rails[r] = ocFound s r i s.rails[r] := by rw [hu, modRail, vmod_get]
  have ho : ∀ j : Fin 28, j ≠ r → u.rails[j] = s.rails[j] := fun j e => by rw [hu, modRail, vmod_get_ne e]
  have hr : rest [.links, .rails, .evc, .tw] u = rest [.links, .rails, .evc, .tw] s := by rw [hu]; exact modRail_rest (by decide) _ _ _
  have htimer := (pgRefresh_decided r (ocStart r u)).trans (ignoreClear_decided r _)
  have hdec := (ocStart_decided r u).trans htimer
  have hnext := exec_ocCondition (m := m) hp ha hk
  rw [if_pos rfl, ← hi, ocRefresh_current, ← hu] at hnext
  obtain ⟨t, ht⟩ : ∃ t, t = ignoreClear r (pgRefresh r (ocStart r u)) := ⟨_, rfl⟩
  rw [← ht] at hnext htimer hdec
  obtain ⟨⟨hloop, hen, hvsp, hfault, -, -, hoc, -, -, -⟩, hoth, hrest⟩ := hdec
  rw [hx] at hloop hen hvsp hfault hoc
  refine ⟨t, hnext, ?_, ?_, fun h1 h2 h3 h4 => htimer.rail.ocTimer (ocStart_runs ?_ ?_ ?_ ?_), hfault, hen, hvsp,
    fun j e => (hoth j e).trans (ho j e), rest_patch (hrest.trans hr)⟩
  · rw [railMa, hloop]
    show i * 65536 / 65536 = i
    omega
  · rw [hoc, ocFound, decide_eq_true_eq]
  · rw [hx, ocFound, decide_eq_true h1]
  · rw [hx]; exact h2
  · rw [hx]; exact h3
  · rw [hx]; exact h4

theorem followerOver_spec (s : State) (r : Fin 28) (k : Fin 7) (i : Int) :
    (followerOver s r k i).dies = vmod s.dies k (fun d => { d with ocOver := decide (ocLimitOf s r < i) }) ∧
      rest [.links, .dies, .evc, .tw] (followerOver s r k i) = rest [.links, .dies, .evc, .tw] s := by
  have hd := rest_with_dies (F := [.links, .dies, .evc, .tw]) (by decide) s (vmod s.dies k fun d => { d with ocOver := decide (ocLimitOf s r < i) })
  unfold followerOver
  dsimp only
  split
  · have hev := dieEvent_rest (F := [.links, .evc, .tw]) (by decide) (by decide) (by decide) k 0
      (modDie k (fun d => { d with ocOver := decide (ocLimitOf s r < i) }) s)
    exact ⟨rest_dies hev (by decide), (rest_mono (by decide) hev).trans hd⟩
  · exact ⟨rfl, hd⟩

theorem ocCondition_follower {s : State} {r : Fin 28} {k : Fin 7} {m : Int} (hp : railPresent s r = true) (ha : dieArmed s = true)
    (hk : (railDies s r).contains k = true) (hne : k ≠ railDie r) :
    ∃ t, exec (.ocCondition r k m) s = .next t ∧ railMa t r = railMa s r ∧
      (∀ n : Nat, n = ((activePhases s r).filter fun ph => decide (phaseDie ph = k)).length → 0 < n → (gangOfRail s r).isSome = true →
        (t.dies[k].ocOver = true ↔ ocLimitOf s r < divHalfUpI (m * (activePhases s r).length) n)) ∧
      t.rails[r].prot.fault = s.rails[r].prot.fault ∧ t.rails[r].enabled = s.rails[r].enabled ∧
      (∀ j : Fin 7, j ≠ k → t.dies[j] = s.dies[j]) ∧ (∀ j : Fin 28, j ≠ r → t.rails[j] = s.rails[j]) ∧
      t = { s with links := t.links, rails := t.rails, dies := t.dies, evc := t.evc, tw := t.tw } := by
  obtain ⟨hd, hr⟩ := followerOver_spec s r k (scaledCurrent s r k m)
  obtain ⟨u, hu⟩ : ∃ u, u = followerOver s r k (scaledCurrent s r k m) := ⟨_, rfl⟩
  have hdec := ((ocStart_decided r u).trans (pgRefresh_decided r (ocStart r u))).trans (ignoreClear_decided r _)
  have hnext := exec_ocCondition (m := m) hp ha hk
  rw [if_neg hne, ← hu] at hnext
  rw [← hu] at hd hr
  obtain ⟨t, ht⟩ : ∃ t, t = ignoreClear r (pgRefresh r (ocStart r u)) := ⟨_, rfl⟩
  rw [← ht] at hnext hdec
  obtain ⟨⟨hloop, hen, -, hfault, -⟩, hoth, hrest⟩ := hdec
  have hrails : u.rails = s.rails := rest_rails hr (by decide)
  have hdies : t.dies = u.dies := rest_dies hrest (by decide)
  rw [hrails] at hloop hen hfault hoth
  refine ⟨t, hnext, by rw [railMa, railMa, hloop], fun n hn h0 hg => ?_, hfault, hen, fun j e => ?_, hoth,
    rest_patch (F := [.links, .rails, .dies, .evc, .tw]) ((rest_mono (by decide) hrest).trans (rest_mono (by decide) hr))⟩
  · have hpos : ((activePhases s r).filter fun ph => decide (phaseDie ph = k)).length ≠ 0 := by omega
    have hsc : scaledCurrent s r k m = divHalfUpI (m * (activePhases s r).length) n := by
      rw [scaledCurrent, hg, decide_eq_true hpos, hn]; rfl
    rw [hdies, hd, vmod_get, decide_eq_true_eq, hsc]
  · rw [hdies, hd, vmod_get_ne e]

/-! The ends of the timers. -/

/-- What a fault latch writes in the rail (R249, R250). -/
def faultLatched (b : Nat) (x : RailState) : RailState :=
  { x with prot := { x.prot with
      faultLatch := true, fault := setBit x.prot.fault b, skLatched := x.prot.skLatched || x.stationKept, uvTimer := false, ocTimer := false } }

/-- A rail whose power-good is down. -/
def pgDown (x : RailState) : RailState := if x.prot.pg = true then pgFallen x else x

theorem pgDown_pg (x : RailState) : (pgDown x).prot.pg = false := by
  unfold pgDown
  split
  · rfl
  · next h => exact Bool.eq_false_iff.mpr h

/-- Row 2 of R261 leaves no power-good. -/
theorem pgDecision_row2 {r : Fin 28} {s : State} (h : row2 s r = true) : pgDecision s r = false := by
  rw [pgDecision, h]; simp

theorem pgRail_down {r : Fin 28} {s : State} (h : pgDecision s r = false) (x : RailState) : pgRail r s x = pgDown x := by
  rw [pgRail, pgDown, h]
  cases x.prot.pg <;> rfl

/-- A latched rail (R250): its power-good is down. -/
theorem latchFault_rail (r : Fin 28) (b : Nat) (s : State) : (latchFault r b s).rails[r] = pgDown (faultLatched b s.rails[r]) := by
  obtain ⟨u, hu⟩ : ∃ u, u = railEvent r (stopTimers r (modRail r (fun x => { x with prot := { x.prot with
    faultLatch := true, fault := setBit x.prot.fault b, skLatched := x.prot.skLatched || x.stationKept } }) s)) := ⟨_, rfl⟩
  have hx : u.rails[r] = faultLatched b s.rails[r] := by
    rw [hu, railEvent_rails, stopTimers, modProt_eq, modRail_modRail, modRail, vmod_get]; rfl
  have hl : latchFault r b s = pgRefresh r u := by rw [hu]; rfl
  have hrow : row2 u r = true := by rw [row2, hx, faultLatched, Bool.or_true, Bool.true_or]
  rw [hl, pgRefresh_rail, pgRail_down (pgDecision_row2 hrow), hx]

/-- A timer that ends with its condition standing (R249, R250, R262). -/
theorem timerFault_eq (r : Fin 28) (b : Nat) (code : FaultCode) (f : ItemFaultCode) (s : State) : timerFault r b code f s =
    if s.rails[r].stationKept = true then skSettle (skLeave r b false (latchFault r b (modRail r (fun x => { x with prot := { x.prot with noPg := true } }) s)))
    else itemFault (railItem r) f (logFault code (railDie r + 1) r (setBit s.rails[r].prot.fault b)
      (latchFault r b (modRail r (fun x => { x with prot := { x.prot with noPg := true } }) s))) := by
  have hf : (latchFault r b (modRail r (fun x => { x with prot := { x.prot with noPg := true } }) s)).rails[r].prot.fault =
      setBit s.rails[r].prot.fault b := by
    rw [latchFault_rail, modRail, vmod_get, pgDown]
    split <;> rfl
  rw [← hf]; rfl

/-- What every latch by a timer leaves. -/
theorem latchFault_timer {r : Fin 28} {b : Nat} {s : State} {f : RailState → RailState} (hf : (f s.rails[r]).prot.fault = s.rails[r].prot.fault) :
    let u := latchFault r b (modRail r f s)
    u.rails[r].prot.faultLatch = true ∧ u.rails[r].prot.fault = setBit s.rails[r].prot.fault b ∧
      u.rails[r].prot.uvTimer = false ∧ u.rails[r].prot.ocTimer = false ∧ u.rails[r].prot.pg = false := by
  intro u
  have hr : u.rails[r] = pgDown (faultLatched b (f s.rails[r])) := by
    show (latchFault r b (modRail r f s)).rails[r] = _
    rw [latchFault_rail, modRail, vmod_get]
  have hpg := pgDown_pg (faultLatched b (f s.rails[r]))
  have hfault : (faultLatched b (f s.rails[r])).prot.fault = setBit s.rails[r].prot.fault b := by rw [faultLatched, hf]
  rw [hr]
  refine ⟨?_, ?_, ?_, ?_, hpg⟩
  · unfold pgDown; split <;> rfl
  · unfold pgDown; split <;> exact hfault
  · unfold pgDown; split <;> rfl
  · unfold pgDown; split <;> rfl

/-- A timer stopped without a fault: only power-good is decided again, and the steps looked at. -/
theorem checkSteps_pgRefresh {r : Fin 28} {s : State} {f : RailState → RailState} (hg : ∀ g : Fin 8, s.groups[g].phase ≠ .poweringUp) :
    ∃ t, checkSteps (pgRefresh r (modRail r f s)) = t ∧ t.rails[r] = pgRail r (modRail r f s) (f s.rails[r]) ∧
      (∀ j : Fin 28, j ≠ r → t.rails[j] = s.rails[j]) ∧ t = { s with links := t.links, rails := t.rails, evc := t.evc, tw := t.tw } := by
  have hrest := (pgRefresh_rest (F := [.links, .rails, .evc, .tw]) (by decide) (by decide) (by decide) (by decide) r (modRail r f s)).trans
    (modRail_rest (by decide) r f s)
  refine ⟨pgRefresh r (modRail r f s), checkSteps_idle fun g => ?_, ?_, fun j e => ?_, rest_patch hrest⟩
  · rw [rest_groups hrest (by decide)]; exact hg g
  · rw [pgRefresh_rail, modRail, vmod_get]
  · rw [pgRefresh_rails_other e, modRail, vmod_get_ne e]

/-- No rise of power-good in this enable (R262). -/
def noRise (x : RailState) : RailState := { x with prot := { x.prot with noPg := true } }

theorem timerFault_stopped {r : Fin 28} {b : Nat} {code : FaultCode} {f : ItemFaultCode} {s : State} {g : RailState → RailState}
    (hg : ∀ x, (g x).stationKept = x.stationKept ∧ (g x).prot.fault = x.prot.fault) :
    timerFault r b code f (modRail r g s) =
      if s.rails[r].stationKept = true then skSettle (skLeave r b false (latchFault r b (modRail r (fun x => noRise (g x)) s)))
      else itemFault (railItem r) f (logFault code (railDie r + 1) r (setBit s.rails[r].prot.fault b)
        (latchFault r b (modRail r (fun x => noRise (g x)) s))) := by
  have hx : (modRail r g s).rails[r] = g s.rails[r] := by rw [modRail, vmod_get]
  have h := timerFault_eq r b code f (modRail r g s)
  rw [modRail_modRail, hx, (hg _).1, (hg _).2] at h
  exact h

def uvStopped (x : RailState) : RailState := { x with prot := { x.prot with uvTimer := false } }
def ocStopped (x : RailState) : RailState := { x with prot := { x.prot with ocTimer := false } }

theorem exec_uvTimerExpire {s : State} {r : Fin 28} (hp : railPresent s r = true) (ht : s.rails[r].prot.uvTimer = true) :
    exec (.uvTimerExpire r) s = .next (if s.rails[r].prot.uvCond then timerFault r 2 .railUv .underVoltage (modRail r uvStopped s)
      else checkSteps (pgRefresh r (modRail r uvStopped s))) := by
  show execUvTimerExpire r s = _
  rw [execUvTimerExpire, hp, ht]; rfl

theorem exec_ocTimerExpire {s : State} {r : Fin 28} (hp : railPresent s r = true) (ht : s.rails[r].prot.ocTimer = true) :
    exec (.ocTimerExpire r) s = .next (if ocHolds s r then timerFault r 3 .railOc .overCurrent (modRail r ocStopped s)
      else checkSteps (pgRefresh r (modRail r ocStopped s))) := by
  show execOcTimerExpire r s = _
  rw [execOcTimerExpire, hp, ht]; rfl

theorem pgRail_keeps (r : Fin 28) (s : State) (x : RailState) : (pgRail r s x).prot.uvTimer = x.prot.uvTimer ∧
    (pgRail r s x).prot.ocTimer = x.prot.ocTimer ∧ (pgRail r s x).prot.fault = x.prot.fault ∧
    (pgRail r s x).prot.faultLatch = x.prot.faultLatch ∧ (pgRail r s x).enabled = x.enabled := by
  obtain ⟨_, _, _, _, _, _, _, _, h⟩ := pgRail_eq r s x
  rw [h]; exact ⟨rfl, rfl, rfl, rfl, rfl⟩

/-! The valley limit (R251). -/

/-- A phase whose pulse is withheld is counted on its rail. -/
def valleyCounted (x : RailState) : RailState :=
  { x with prot := { x.prot with valleyCnt := satAdd max32 x.prot.valleyCnt 1, valleyLogged := true } }

def pulseWithheld (p : PhaseState) : PhaseState := { p with withheld := true }

theorem exec_valleyLimit {s : State} {r : Fin 28} {ph : Fin 56} {mA : Nat} (hp : diePresent s (phaseDie ph) = true)
    (hr : phaseRail s ph = some r) : exec (.valleyLimit ph mA) s =
      if s.rails[r].enabled = false ∨ s.phases[ph].run = .shed ∨ s.rails[r].dyn.stepAlarm = true ∨ mA ≤ valleyLimitOf s r then .next s
      else .next (
        let s1 := railFaultBit r 7 (modRail r valleyCounted (modPhase ph pulseWithheld s))
        if s.rails[r].prot.valleyLogged then s1 else logFault .valleyLimit (railDie r + 1) r s1.rails[r].prot.valleyCnt s1) := by
  show execValleyLimit ph mA s = _
  rw [execValleyLimit, hp, hr, if_neg (by decide)]
  simp only [Bool.or_eq_true, Bool.not_eq_true', decide_eq_true_eq, or_assoc]
  rfl

theorem valleyLimit_over {s : State} {r : Fin 28} {ph : Fin 56} {mA : Nat} (hp : diePresent s (phaseDie ph) = true)
    (hr : phaseRail s ph = some r) (he : s.rails[r].enabled = true) (hs : s.phases[ph].run ≠ .shed)
    (ha : s.rails[r].dyn.stepAlarm = false) (hv : valleyLimitOf s r < mA) :
    ∃ t, exec (.valleyLimit ph mA) s = .next t ∧ t.rails = vmod s.rails r (fun x => { x with prot := { x.prot with
      valleyCnt := satAdd max32 x.prot.valleyCnt 1, fault := setBit x.prot.fault 7, valleyLogged := true } }) ∧
      t.phases = vmod s.phases ph (fun p => { p with withheld := true }) ∧
      (s.rails[r].prot.valleyLogged = true → t.log = s.log ∧
        (s.rails[r].prot.fault.testBit 7 = true → t.evc = s.evc ∧ t.links = s.links)) ∧
      t = { s with nv := t.nv, links := t.links, rails := t.rails, phases := t.phases, log := t.log, evc := t.evc, tw := t.tw } := by
  have hnext := exec_valleyLimit (mA := mA) hp hr
  rw [if_neg] at hnext
  · obtain ⟨u, hu⟩ : ∃ u, u = modRail r valleyCounted (modPhase ph pulseWithheld s) := ⟨_, rfl⟩
    have hx : u.rails[r] = valleyCounted s.rails[r] := by rw [hu, modRail, vmod_get, modPhase_rails]
    have hurest : rest [.rails, .phases] u = rest [.rails, .phases] s := by
      rw [hu]; exact (modRail_rest (by decide) _ _ _).trans (modPhase_rest (by decide) _ _ _)
    have huph : u.phases = vmod s.phases ph pulseWithheld := by rw [hu]; rfl
    have hur : u.rails = vmod s.rails r valleyCounted := by rw [hu]; rfl
    obtain ⟨h1, h2, h3⟩ := railFaultBit_spec r 7 u
    rw [← hu] at hnext
    obtain ⟨w, hw⟩ : ∃ w, w = railFaultBit r 7 u := ⟨_, rfl⟩
    rw [← hw] at hnext h1 h2 h3
    have hwr : w.rails = vmod s.rails r (fun x => { x with prot := { x.prot with
        valleyCnt := satAdd max32 x.prot.valleyCnt 1, fault := setBit x.prot.fault 7, valleyLogged := true } }) := by
      rw [h1, hur, vmod_vmod]; rfl
    have hwp : w.phases = vmod s.phases ph pulseWithheld := (rest_phases h3 (by decide)).trans huph
    have hwrest : rest [.nv, .links, .rails, .phases, .log, .evc, .tw] w = rest [.nv, .links, .rails, .phases, .log, .evc, .tw] s :=
      (rest_mono (by decide) h3).trans (rest_mono (by decide) hurest)
    cases hlog : s.rails[r].prot.valleyLogged
    · have hl := logFault_rest (F := [.nv, .log, .evc, .tw]) (by decide) (by decide) (by decide) (by decide) .valleyLimit (railDie r + 1) r
        w.rails[r].prot.valleyCnt w
      rw [hlog] at hnext
      exact ⟨_, hnext, (rest_rails hl (by decide)).trans hwr, (rest_phases hl (by decide)).trans hwp, fun h => absurd h (by decide),
        rest_patch ((rest_mono (by decide) hl).trans hwrest)⟩
    · rw [hlog] at hnext
      refine ⟨w, hnext, hwr, hwp, fun _ => ⟨?_, fun hb => ?_⟩, rest_patch hwrest⟩
      · exact (rest_log h3 (by decide)).trans (rest_log hurest (by decide))
      · rw [h2 (by rw [hx]; exact hb)]
        exact ⟨rest_evc hurest (by decide), rest_links hurest (by decide)⟩
  · rintro (h | h | h | h)
    · rw [he] at h; cases h
    · exact hs h
    · rw [ha] at h; cases h
    · omega

/-! Qualification and the hold. -/

def pgQualifiedRail (x : RailState) : RailState := { x with prot := { x.prot with qualified := true } }
def pgHoldEnded (x : RailState) : RailState := { x with prot := { x.prot with hold := false } }

theorem exec_pgQualified {s : State} {r : Fin 28} (hp : railPresent s r = true) : exec (.pgQualified r) s =
    if s.rails[r].enabled = true ∧ s.rails[r].disabling = false ∧ s.rails[r].dyn.softDone = true ∧ s.rails[r].prot.w = true then
      .next (checkSteps (pgRefresh r (modRail r pgQualifiedRail s)))
    else .next s := by
  show execPgQualified r s = _
  rw [execPgQualified, hp, if_neg (by decide)]
  simp only [Bool.and_eq_true, Bool.not_eq_true', and_assoc]
  rfl

theorem exec_pgHoldEnd {s : State} {r : Fin 28} (hp : railPresent s r = true) :
    exec (.pgHoldEnd r) s = .next (pgRefresh r (modRail r pgHoldEnded s)) := by
  show execPgHoldEnd r s = _
  rw [execPgHoldEnd, hp]; rfl

/-- A qualified rail with no timer and no latch has its power-good. -/
theorem pgRail_qualified {r : Fin 28} {s : State} (he : s.rails[r].enabled = true) (hd : s.rails[r].disabling = false)
    (hr : row2 s r = false) (hn : s.rails[r].prot.noPg = false) (hu : s.rails[r].prot.uvTimer = false) (ho : s.rails[r].prot.ocTimer = false)
    (hq : s.rails[r].prot.qualified = true) : (pgRail r s s.rails[r]).prot.pg = true ∧ (pgRail r s s.rails[r]).prot.qualified = true := by
  have hdec : pgDecision s r = true := by
    rw [pgDecision, hr, he, hd, hn, hu, ho, hq]
    cases s.rails[r].prot.hold <;> rfl
  rw [pgRail, hdec]
  split
  · next h => exact ⟨h.symm, hq⟩
  · exact ⟨rfl, hq⟩

theorem pgHoldEnd_next {s : State} {r : Fin 28} (hp : railPresent s r = true) :
    ∃ t, exec (.pgHoldEnd r) s = .next t ∧ (s.rails[r].prot.pg = true → t.rails[r].prot.hold = false) ∧
      t.rails[r].prot.fault = s.rails[r].prot.fault ∧ t.rails[r].enabled = s.rails[r].enabled ∧
      (∀ j : Fin 28, j ≠ r → t.rails[j] = s.rails[j]) ∧ t = { s with links := t.links, rails := t.rails, evc := t.evc, tw := t.tw } := by
  have hx : (modRail r pgHoldEnded s).rails[r] = pgHoldEnded s.rails[r] := by rw [modRail, vmod_get]
  have hdec := pgRefresh_decided r (modRail r pgHoldEnded s)
  have hr := pgRefresh_rail r (modRail r pgHoldEnded s)
  rw [hx] at hr
  obtain ⟨t, ht⟩ : ∃ t, t = pgRefresh r (modRail r pgHoldEnded s) := ⟨_, rfl⟩
  have hnext := exec_pgHoldEnd hp
  rw [← ht] at hdec hr hnext
  obtain ⟨-, -, hfault, -, hen⟩ := pgRail_keeps r (modRail r pgHoldEnded s) (pgHoldEnded s.rails[r])
  refine ⟨t, hnext, fun hpg => ?_, by rw [hr]; exact hfault, by rw [hr]; exact hen, fun j e => ?_,
    rest_patch (hdec.rest.trans (modRail_rest (by decide) _ _ _))⟩
  · rw [hr, pgRail]
    split
    · rfl
    · next h =>
      split
      · next h' => exact absurd (h'.trans hpg.symm) h
      · rfl
  · rw [hdec.others j e, modRail, vmod_get_ne e]

/-- Settles O24: samples and timers decide about their rail alone (`DecidedOn`), a timer that ends with its condition latches. -/
theorem faultTimersAndPowerGood : Obligations.FaultTimersAndPowerGood := by
  intro s r
  refine ⟨fun hp => ?absent, fun v k m hp ha => ?unarmed, fun k m hp hk => ?foreign, fun v hp ha => pgWindowChange_next hp ha,
    fun m i hp ha hk hi => ocCondition_lead hp ha hk (hi.trans (scaledCurrent_eq s r (railDie r) m).symm),
    fun k m hp ha hk hne => ocCondition_follower hp ha hk hne, fun hp ht => ?uvIdle, fun hp ht => ?ocIdle,
    fun hp ht hc => ⟨?uvStops, fun hg => ?uvFrame⟩, fun hp ht hc => ⟨?ocStops, fun hg => ?ocFrame⟩,
    fun hp ht hc u hu => ?uvFault, fun hp ht hc u hu => ?ocFault, fun ph mA hp => ?noDie, fun ph mA hp hr => ?noRail,
    fun ph mA hp hr h => ?valleyNone, fun ph mA hp hr he hs ha hv => valleyLimit_over hp hr he hs ha hv, fun hp h => ?unqualified,
    fun hp h1 h2 h3 h4 u hu => ⟨?qualifies, fun hr hn huv hoc => ?rises, fun hr => ?row2, fun hg => ?qualFrame⟩, fun hp => pgHoldEnd_next hp⟩
  case absent =>
    simp only [exec, execPgWindowChange, execUvTimerExpire, execOcTimerExpire, execOcCondition, execPgQualified, execPgHoldEnd, hp]
    exact ⟨fun _ => rfl, rfl, rfl, fun _ _ => rfl, rfl, rfl⟩
  case unarmed =>
    simp only [exec, execPgWindowChange, execOcCondition, hp, ha]
    exact ⟨rfl, rfl⟩
  case foreign =>
    show execOcCondition r k m s = _
    rw [execOcCondition, hp, hk, Bool.not_false, Bool.or_true]; rfl
  case uvIdle =>
    show execUvTimerExpire r s = _
    rw [execUvTimerExpire, hp, ht]; rfl
  case ocIdle =>
    show execOcTimerExpire r s = _
    rw [execOcTimerExpire, hp, ht]; rfl
  case uvStops => rw [exec_uvTimerExpire hp ht, hc]; rfl
  case ocStops => rw [exec_ocTimerExpire hp ht, hc]; rfl
  case uvFrame =>
    obtain ⟨t, h1, h2, h3, h4⟩ := checkSteps_pgRefresh (r := r) (f := uvStopped) hg
    obtain ⟨k1, -, k3, k4, -⟩ := pgRail_keeps r (modRail r uvStopped s) (uvStopped s.rails[r])
    rw [exec_uvTimerExpire hp ht, hc]
    exact ⟨t, congrArg _ h1, by rw [h2]; exact k1, by rw [h2]; exact k3, by rw [h2]; exact k4, h3, h4⟩
  case ocFrame =>
    obtain ⟨t, h1, h2, h3, h4⟩ := checkSteps_pgRefresh (r := r) (f := ocStopped) hg
    obtain ⟨-, k2, k3, k4, -⟩ := pgRail_keeps r (modRail r ocStopped s) (ocStopped s.rails[r])
    rw [exec_ocTimerExpire hp ht, hc]
    exact ⟨t, congrArg _ h1, by rw [h2]; exact k2, by rw [h2]; exact k3, by rw [h2]; exact k4, h3, h4⟩
  case uvFault =>
    have hu' : u = latchFault r 2 (modRail r (fun x => noRise (uvStopped x)) s) := hu
    obtain ⟨k1, k2, k3, k4, k5⟩ := latchFault_timer (r := r) (b := 2) (s := s) (f := fun x => noRise (uvStopped x)) rfl
    rw [exec_uvTimerExpire hp ht, hc, if_pos rfl, timerFault_stopped (g := uvStopped) fun _ => ⟨rfl, rfl⟩, hu']
    exact ⟨k1, k2, k3, k4, k5, rfl⟩
  case ocFault =>
    have hu' : u = latchFault r 3 (modRail r (fun x => noRise (ocStopped x)) s) := hu
    obtain ⟨k1, k2, k3, k4, k5⟩ := latchFault_timer (r := r) (b := 3) (s := s) (f := fun x => noRise (ocStopped x)) rfl
    rw [exec_ocTimerExpire hp ht, hc, if_pos rfl, timerFault_stopped (g := ocStopped) fun _ => ⟨rfl, rfl⟩, hu']
    exact ⟨k1, k2, k3, k4, k5, rfl⟩
  case noDie =>
    show execValleyLimit ph mA s = _
    rw [execValleyLimit, hp]; rfl
  case noRail =>
    show execValleyLimit ph mA s = _
    rw [execValleyLimit, hp, hr]; rfl
  case valleyNone => rw [exec_valleyLimit hp hr, if_pos h]
  case unqualified =>
    rw [exec_pgQualified hp, if_neg]
    rintro ⟨h1, h2, h3, h4⟩
    rw [h1, h2, h3, h4] at h; simp at h
  case qualifies => rw [exec_pgQualified hp, if_pos ⟨h1, h2, h3, h4⟩, hu]; rfl
  case rises =>
    have hx : (modRail r pgQualifiedRail s).rails[r] = pgQualifiedRail s.rails[r] := by rw [modRail, vmod_get]
    have hu' : u = pgRefresh r (modRail r pgQualifiedRail s) := hu
    rw [hu', pgRefresh_rail]
    refine pgRail_qualified (s := modRail r pgQualifiedRail s) ?_ ?_ ?_ ?_ ?_ ?_ ?_
    · rw [hx]; exact h1
    · rw [hx]; exact h2
    · rw [row2, hx]; exact hr
    · rw [hx]; exact hn
    · rw [hx]; exact huv
    · rw [hx]; exact hoc
    · rw [hx]; rfl
  case row2 =>
    have hx : (modRail r pgQualifiedRail s).rails[r] = pgQualifiedRail s.rails[r] := by rw [modRail, vmod_get]
    have hu' : u = pgRefresh r (modRail r pgQualifiedRail s) := hu
    have hrow : Machine.row2 (modRail r pgQualifiedRail s) r = true := by rw [Machine.row2, hx]; exact hr
    rw [hu', pgRefresh_rail, pgRail_down (pgDecision_row2 hrow), pgDown_pg]
  case qualFrame =>
    have hu' : u = pgRefresh r (modRail r pgQualifiedRail s) := hu
    obtain ⟨t, k1, k2, k3, k4⟩ := checkSteps_pgRefresh (r := r) (f := pgQualifiedRail) hg
    refine ⟨t, ?_, ?_, k3, k4⟩
    · rw [exec_pgQualified hp, if_pos ⟨h1, h2, h3, h4⟩, k1]
    · rw [k2, hu', pgRefresh_rail, modRail, vmod_get]

end Sys2Proof.Proofs


namespace Sys2Proof.Proofs
open Sys2Proof.Machine Sys2Proof.Laws

/-! ### O26: the fall of the enable pin of a station-kept rail moves its item

The clause on a station-kept rail leaves the items out of what its step changes. From boot step 8 on, leaving station-keeping for a
fall of the enable pin is dealt with at once (`skLeft`), and an item that reads OFF goes to EN_LOW. -/

/-- After boot step 8 rail 0 is still station-kept and its item reads OFF, as every item does until its rail is re-adopted; its
enable pin is used, by its shadow settings. -/
def keptOff : State := { State.reset with
  boot.step8 := true
  sk.shadow := Vector.replicate 28 [(okey 0x2600 7, 1)]
  rails := vmod State.reset.rails 0 fun x => { x with enabled := true, stationKept := true }
  items := vmod State.reset.items 0 fun x => { x with phase := .off } }

theorem keptOff_meets : railPresent keptOff 0 = true ∧ keptOff.itemEnPin (railItem 0) = true ∧
    keptOff.rails[(0 : Fin 28)].stationKept = true ∧ keptOff.rails[(0 : Fin 28)].enHeld = false := by
  decide +kernel

theorem keptOff_item : keptOff.items[railItem 0].phase = .off := by decide +kernel

/-- What the fall of the enable pin leaves of `keptOff`. -/
def keptOffFallen : State := skSettle (skLeave 0 15 false (modRail 0 (fun x => { x with enPin := false }) keptOff))

theorem keptOffFallen_item : keptOffFallen.items[railItem 0].phase = .enLow := by decide +kernel

/-- The fall of the enable pin of a station-kept rail whose pin is used ends its station-keeping (R115, R271). -/
theorem enPinFall_kept {s : State} {r : Fin 28} (hr : railPresent s r = true) (hu : s.itemEnPin (railItem r) = true)
    (hk : s.rails[r].stationKept = true) : exec (.enPinFall r) s =
      .next (skSettle (skLeave r 15 false (modRail r (fun x => { x with enPin := false }) s))) := by
  show execEnPinFall r s = _
  simp only [execEnPinFall, hr, hu, hk, Bool.not_true, Bool.false_eq_true, if_false, if_true]

/-- Refutes O26: the enable pin of a rail still station-kept after boot step 8 falls, and its item goes from OFF to EN_LOW, which the
clause's frame leaves out. -/
theorem not_sequencerItems : ¬ Obligations.SequencerItems := by
  intro h
  obtain ⟨-, -, -, -, -, -, -, -, -, -, -, -, -, -, -, -, -, hkept, -⟩ := h keptOff
  obtain ⟨hr, hu, hk, hh⟩ := keptOff_meets
  obtain ⟨t, ht, -, -, -, -, -, hrest⟩ := hkept 0 hr hu hk hh
  have hfall : keptOffFallen = t := by
    rw [enPinFall_kept hr hu hk] at ht
    exact Host.Outcome.next.inj ht
  have hitem : t.items[railItem 0].phase = .off := by rw [hrest]; exact keptOff_item
  exact absurd (hitem.symm.trans (hfall ▸ keptOffFallen_item)) (by decide)

end Sys2Proof.Proofs

namespace Sys2Proof.Proofs

open Sys2Proof.Machine Sys2Proof.Laws

/-! ### Ring-oscillator samples, the thermal comparator and throttling (R413 to R426, R523) -/

/-! The class A path, and the full reset that follows a thermal shutdown. -/

/-- What a class A fault with what follows it can write. -/
abbrev classAFields : List Fld :=
  [.mram, .nv, .links, .boot, .sk, .pwr, .zin, .fo, .zbus, .rails, .phases, .gangs, .dies, .items, .groups, .regs, .rsto, .pp, .chg,
    .gauge, .log, .faultLine, .safeN, .evc, .tw, .can, .update, .freeCtr]

theorem classA_classAFields (code : FaultCode) (die src detail : Nat) (s : State) :
    rest classAFields (classA code die src detail s) = rest classAFields s :=
  classA_rest (by decide) (by decide) (by decide) (by decide) (by decide) (by decide) (by decide) (by decide) (by decide) (by decide)
    (by decide) (by decide) (by decide) (by decide) (by decide) (by decide) (by decide) (by decide) (by decide) (by decide) (by decide)
    (by decide) (by decide) (by decide) (by decide) (by decide) (by decide) (by decide) code die src detail s

/-- What stopping the functions of the part at reset start can write (R110). -/
abbrev stopAllFields : List Fld :=
  [.nv, .links, .zin, .fo, .zbus, .rails, .phases, .gangs, .dies, .items, .groups, .regs, .rsto, .pp, .chg, .log, .evc, .tw, .can]

theorem resetOutputs_rest (sk : Bool) (cause : Nat) (s : State) :
    rest stopAllFields (if sk = true then s else if cause = 9 then killFos s else resetFos s) = rest stopAllFields s := by
  split
  · rfl
  · split
    · exact killFos_rest (by decide) (by decide) (by decide) s
    · exact resetFos_rest (by decide) (by decide) (by decide) s

/-- The functions that a full reset stops (R110, R111, R113). -/
def resetStops (sk : Bool) (cause : Nat) (keep : Vector Bool 28) (s : State) : State :=
  bootFet (resetPins (resetCharger (resetRegs (resetZin (
    if sk = true then resetRails keep (resetGroups keep s)
    else if cause = 9 then killFos (resetRails keep (resetGroups keep s)) else resetFos (resetRails keep (resetGroups keep s)))))))

theorem resetStops_rest (sk : Bool) (cause : Nat) (keep : Vector Bool 28) (s : State) :
    rest stopAllFields (resetStops sk cause keep s) = rest stopAllFields s := by
  unfold resetStops
  rw [bootFet_rest (by decide), resetPins_rest (by decide) (by decide) (by decide) (by decide), resetCharger_rest (by decide),
    resetRegs_rest (by decide), resetZin_rest (by decide), resetOutputs_rest,
    resetRails_rest (by decide) (by decide) (by decide) (by decide) (by decide) (by decide) (by decide) (by decide) (by decide),
    resetGroups_rest (by decide) (by decide)]

/-- A full reset notes its cause and ends the update path, stops the functions and leaves its record (R105, R106, R541). -/
theorem resetStart_eq (cause sub : Nat) (s : State) : ∃ u, resetStart cause sub s = recordMask (ctrAppend ctrCause cause (abandonWrites u)) ∧
    u.boot.phase = .inReset ∧ u.boot.curCause = cause ∧ u.boot.curSub = sub ∧ u.update.phase = .idle ∧ u.update.pause = false ∧
    u.mram = s.mram := by
  have hlearn := (learnStop_rest (F := [.nv, .zin, .fo, .pp, .chg, .gauge, .log, .evc, .tw]) (by decide) (by decide) (by decide) (by decide) 8
    (resetPath cause (parkTripsLogged s))).trans ((resetPath_rest (by decide) (by decide) cause _).trans
      (parkTripsLogged_rest (by decide) (by decide) (by decide) (by decide) (by decide) (by decide) s))
  have hmram := rest_mram hlearn (by decide)
  unfold resetStart
  dsimp only
  refine ⟨resetStops _ cause _ _, rfl, ?_, ?_, ?_, ?_, ?_, ?_⟩
  · rw [rest_boot (resetStops_rest _ _ _ _) (by decide)]
  · rw [rest_boot (resetStops_rest _ _ _ _) (by decide)]
  · rw [rest_boot (resetStops_rest _ _ _ _) (by decide)]
  · rw [rest_update (resetStops_rest _ _ _ _) (by decide)]
  · rw [rest_update (resetStops_rest _ _ _ _) (by decide)]
  · rw [rest_mram (resetStops_rest _ _ _ _) (by decide)]
    exact hmram

/-- The record of a full reset is in the counters. -/
theorem resetRecord_rest (cause : Nat) (u : State) :
    rest [.mram, .nv, .freeCtr] (recordMask (ctrAppend ctrCause cause (abandonWrites u))) = rest [.mram, .nv, .freeCtr] u := by
  rw [recordMask_rest (by decide) (by decide) (by decide), ctrAppend_rest (by decide) (by decide) (by decide),
    abandonWrites_rest (by decide) (by decide) (by decide)]

theorem resetStart_boot (cause sub : Nat) (s : State) :
    (resetStart cause sub s).boot.phase = .inReset ∧ (resetStart cause sub s).boot.curCause = cause ∧
      (resetStart cause sub s).boot.curSub = sub := by
  obtain ⟨u, hu, hphase, hcause, hsub, -⟩ := resetStart_eq cause sub s
  rw [hu, rest_boot (resetRecord_rest cause u) (by decide)]
  exact ⟨hphase, hcause, hsub⟩

theorem startFullReset_ready {s : State} (h : s.boot.phase = .ready) (cause sub : Nat) :
    startFullReset cause sub s = resetStart cause sub s := by
  unfold startFullReset
  rw [h]
  exact if_neg (by simp)

/-- A class A fault leaves the boot state until what follows it (R453, R454). -/
theorem assertLine_logFault_boot (code : FaultCode) (die src detail : Nat) (s : State) :
    (logFault code die src detail (assertLine die s)).boot = s.boot :=
  (rest_boot (logFault_rest (F := [.nv, .log, .evc, .tw]) (by decide) (by decide) (by decide) (by decide) _ _ _ _ _) (by decide)).trans
    (rest_boot (assertLine_rest (F := [.links, .fo, .rails, .regs, .chg, .log, .faultLine, .safeN, .evc, .tw]) (by decide) (by decide)
      (by decide) (by decide) (by decide) (by decide) (by decide) (by decide) (by decide) (by decide) _ _) (by decide))

/-- THERMAL_SHUTDOWN with the boot done starts a full reset with cause 9, whatever `LOG_A_RESET` holds (R454). -/
theorem classA_thermalShutdown_ready {s : State} (h : s.boot.phase = .ready) (die src detail : Nat) :
    (classA .thermalShutdown die src detail s).boot.phase = .inReset ∧ (classA .thermalShutdown die src detail s).boot.curCause = 9 := by
  obtain ⟨u, hu⟩ : ∃ u, u = logFault .thermalShutdown die src detail (assertLine die s) := ⟨_, rfl⟩
  have hb : u.boot.phase = .ready := by rw [hu, assertLine_logFault_boot, h]
  have hstart : classA .thermalShutdown die src detail s = resetStart 9 0 u := by
    rw [classA, ← hu]
    exact startFullReset_ready hb 9 0
  obtain ⟨hphase, hcause, -⟩ := resetStart_boot 9 0 u
  rw [hstart]
  exact ⟨hphase, hcause⟩

/-! The latch. -/

/-- The latch with the path and the die that set it (R423). -/
def latched (path : Fin 3) (d : Fin 8) (t : ThermState) : ThermState :=
  { t with latch := true, path := setBit t.path path, latchDie := d.val }

theorem thermShutdown_latched {s : State} (h : s.therm.latch = true) (path : Fin 3) (d : Fin 8) : thermShutdown path d s = s :=
  if_pos h

theorem thermShutdown_holdUp {s : State} (h : s.therm.latch = false) (hb : s.boot.phase = .holdUp) (path : Fin 3) (d : Fin 8) :
    thermShutdown path d s = { s with therm := latched path d s.therm } := by
  rw [thermShutdown, if_neg (by rw [h]; decide)]
  exact if_pos hb

theorem thermShutdown_classA {s : State} (h : s.therm.latch = false) (hb : s.boot.phase ≠ .holdUp) (path : Fin 3) (d : Fin 8) :
    thermShutdown path d s = classA .thermalShutdown d d (2 ^ path.val) { s with therm := latched path d s.therm } := by
  rw [thermShutdown, if_neg (by rw [h]; decide)]
  exact if_neg hb

/-- A thermal shutdown writes the latch and, beside it, at most what a class A fault writes. -/
theorem thermShutdown_spec (path : Fin 3) (d : Fin 8) (s : State) :
    (thermShutdown path d s).therm = (if s.therm.latch = true then s.therm else latched path d s.therm) ∧
    rest (.therm :: classAFields) (thermShutdown path d s) = rest (.therm :: classAFields) s := by
  cases h : s.therm.latch
  · rw [if_neg (by decide)]
    by_cases hb : s.boot.phase = .holdUp
    · rw [thermShutdown_holdUp h hb]
      exact ⟨rfl, rest_with_therm (by decide) _ _⟩
    · rw [thermShutdown_classA h hb]
      have hc := classA_classAFields .thermalShutdown d d (2 ^ path.val) { s with therm := latched path d s.therm }
      exact ⟨rest_therm hc (by decide), (rest_mono (by decide) hc).trans (rest_with_therm (by decide) _ _)⟩
  · rw [thermShutdown_latched h, if_pos rfl]
    exact ⟨rfl, rfl⟩

theorem thermShutdown_latch (path : Fin 3) (d : Fin 8) (s : State) : (thermShutdown path d s).therm.latch = true := by
  rw [(thermShutdown_spec path d s).1]
  split
  · assumption
  · rfl

theorem thermShutdown_ro (path : Fin 3) (d : Fin 8) (s : State) : (thermShutdown path d s).therm.ro = s.therm.ro := by
  rw [(thermShutdown_spec path d s).1]
  split <;> rfl

theorem thermShutdown_ready {s : State} (h : s.therm.latch = false) (hb : s.boot.phase = .ready) (path : Fin 3) (d : Fin 8) :
    (thermShutdown path d s).boot.phase = .inReset ∧ (thermShutdown path d s).boot.curCause = 9 := by
  rw [thermShutdown_classA h (by rw [hb]; decide)]
  exact classA_thermalShutdown_ready (s := { s with therm := latched path d s.therm }) hb _ _ _

/-! The comparator (R423). -/

theorem execThermalComparator_none {s : State} (h : s.boot.phase = .porHeld ∨ s.pwr.state = .off ∨ s.therm.latch = true) :
    exec .thermalComparator s = .next s := by
  show execThermalComparator s = _
  unfold execThermalComparator
  by_cases hoff : s.boot.phase = .porHeld ∨ s.pwr.state = .off
  · rw [if_pos (by simpa using hoff)]
  · rw [if_neg (by simpa using hoff), thermShutdown_latched]
    rcases h with h | h | h
    · exact absurd (.inl h) hoff
    · exact absurd (.inr h) hoff
    · exact h

theorem execThermalComparator_acts {s : State} (hb : s.boot.phase ≠ .porHeld) (hp : s.pwr.state ≠ .off) :
    exec .thermalComparator s = .next (thermShutdown 1 0 s) := by
  show execThermalComparator s = _
  unfold execThermalComparator
  rw [if_neg (by simpa using ⟨hb, hp⟩)]

theorem execThermalComparator_trips {s : State} (hb : s.boot.phase ≠ .porHeld) (hp : s.pwr.state ≠ .off) (hl : s.therm.latch = false) :
    ∃ t, exec .thermalComparator s = .next t ∧
      t.therm = { s.therm with latch := true, path := setBit s.therm.path 1, latchDie := 0 } ∧
      (s.boot.phase = .ready → t.boot.phase = .inReset ∧ t.boot.curCause = 9) ∧
      t.part = s.part ∧ t.settings = s.settings ∧ t.hamper = s.hamper ∧ t.hk = s.hk ∧ t.wd = s.wd ∧
      t.pending = s.pending := by
  obtain ⟨htherm, hrest⟩ := thermShutdown_spec 1 0 s
  rw [if_neg (by rw [hl]; decide)] at htherm
  have hexec := execThermalComparator_acts hb hp
  obtain ⟨t, ht⟩ : ∃ t, t = thermShutdown 1 0 s := ⟨_, rfl⟩
  rw [← ht] at htherm hrest hexec
  refine ⟨t, hexec, htherm, fun hr => ?_, rest_part hrest (by decide), rest_settings hrest (by decide),
    rest_hamper hrest (by decide), rest_hk hrest (by decide), rest_wd hrest (by decide), rest_pending hrest (by decide)⟩
  rw [ht]
  exact thermShutdown_ready hl hr 1 0

/-! The samples (R413 to R415). -/

/-- A list paired with another names none of its elements twice. -/
theorem nodup_map_fst_zip {α β : Type} {l : List α} (h : l.Nodup) (m : List β) : ((l.zip m).map Prod.fst).Nodup := by
  induction l generalizing m with
  | nil => exact List.nodup_nil
  | cons a l ih =>
    cases m with
    | nil => exact List.nodup_nil
    | cons b m =>
      obtain ⟨ha, hl⟩ := List.nodup_cons.mp h
      refine List.nodup_cons.mpr ⟨fun hm => ?_, ih hl m⟩
      obtain ⟨x, hx, rfl⟩ := List.mem_map.mp hm
      exact ha (List.of_mem_zip hx).1

/-- One sensor takes its sample; its exclusion is logged (R414). -/
def roTake (d : Fin 8) (m2 : Int) (a : State) (x : Fin 34 × Int) : State :=
  let y := sensorStep (plausible m2 x.2) x.2 a.therm.ro[x.1]
  let a1 := modTherm (fun t => { t with ro := vset t.ro x.1 y }) a
  if y.excl && !a.therm.ro[x.1].excl then logFault .roImplausible d d x.1 a1 else a1

/-- The sensors of a die take their samples. -/
def roTaken (d : Fin 8) (l : List (Fin 34 × Int)) (s : State) : State := l.foldl (roTake d (median2 (l.map Prod.snd))) s

/-- The state of a sampled die after the comparison with T_SD (R423). -/
def roSampled (d : Fin 8) (l : List (Fin 34 × Int)) (s : State) : State :=
  if l.any fun x => plausible (median2 (l.map Prod.snd)) x.2 && decide (1650 ≤ x.2) then thermShutdown 0 d (dieTempUpdate d (roTaken d l s))
  else dieTempUpdate d (roTaken d l s)

theorem execRoSample_absent {s : State} {d : Fin 8} (h : thermDiePresent s d = false) (l : List Int) :
    exec (.roSample d l) s = .fault .absentInPart := by
  show execRoSample d l s = _
  rw [execRoSample, h]; rfl

theorem execRoSample_idle {s : State} {d : Fin 8} (h : thermDiePresent s d = true) (hs : dieSampled s d = false) (l : List Int) :
    exec (.roSample d l) s = .next s := by
  show execRoSample d l s = _
  rw [execRoSample, h, hs]; rfl

theorem execRoSample_sampled {s : State} {d : Fin 8} (h : thermDiePresent s d = true) (hs : dieSampled s d = true) (l : List Int) :
    exec (.roSample d l) s = .next (roSampled d ((dieSensors d).zip l) s) := by
  show execRoSample d l s = _
  rw [execRoSample, h, hs]; rfl

/-- Sampling writes the thermal state and the Logbook. -/
theorem roTake_spec (d : Fin 8) (m2 : Int) (a : State) (x : Fin 34 × Int) :
    (roTake d m2 a x).therm = { a.therm with ro := vset a.therm.ro x.1 (sensorStep (plausible m2 x.2) x.2 a.therm.ro[x.1]) } ∧
    rest [.nv, .therm, .log, .evc, .tw] (roTake d m2 a x) = rest [.nv, .therm, .log, .evc, .tw] a := by
  unfold roTake
  dsimp only
  split
  · have h := logFault_rest (F := [.nv, .log, .evc, .tw]) (by decide) (by decide) (by decide) (by decide) .roImplausible d d x.1
      (modTherm (fun t => { t with ro := vset t.ro x.1 (sensorStep (plausible m2 x.2) x.2 a.therm.ro[x.1]) }) a)
    exact ⟨rest_therm h (by decide), (rest_mono (by decide) h).trans (rest_with_therm (by decide) _ _)⟩
  · exact ⟨rfl, rest_with_therm (by decide) _ _⟩

theorem roTake_ro (d : Fin 8) (m2 : Int) (a : State) (x : Fin 34 × Int) (j : Fin 34) : (roTake d m2 a x).therm.ro[j] =
    if x.1 = j then sensorStep (plausible m2 x.2) x.2 a.therm.ro[j] else a.therm.ro[j] := by
  rw [(roTake_spec d m2 a x).1]
  by_cases e : x.1 = j
  · subst e; simp
  · simp [e, val_ne (Ne.symm e)]

/-- A sensor that no sample names stands. -/
theorem foldl_roTake_other {l : List (Fin 34 × Int)} {j : Fin 34} (h : j ∉ l.map Prod.fst) (d : Fin 8) (m2 : Int) (s : State) :
    (l.foldl (roTake d m2) s).therm.ro[j] = s.therm.ro[j] := by
  induction l generalizing s with
  | nil => rfl
  | cons x l ih =>
    rw [List.map_cons, List.mem_cons, not_or] at h
    rw [List.foldl_cons, ih h.2, roTake_ro, if_neg (Ne.symm h.1)]

/-- Each sensor named once takes its own sample. -/
theorem foldl_roTake_mem {l : List (Fin 34 × Int)} (hl : (l.map Prod.fst).Nodup) {i : Fin 34} {x : Int} (h : (i, x) ∈ l) (d : Fin 8)
    (m2 : Int) (s : State) : (l.foldl (roTake d m2) s).therm.ro[i] = sensorStep (plausible m2 x) x s.therm.ro[i] := by
  induction l generalizing s with
  | nil => cases h
  | cons y l ih =>
    obtain ⟨hy, hl⟩ := List.nodup_cons.mp hl
    rw [List.foldl_cons]
    rcases List.mem_cons.mp h with rfl | h
    · rw [foldl_roTake_other hy, roTake_ro, if_pos rfl]
    · have hne : y.1 ≠ i := fun e => hy (e ▸ List.mem_map_of_mem (f := Prod.fst) h)
      rw [ih hl h, roTake_ro, if_neg hne]

theorem roTaken_rest (d : Fin 8) (l : List (Fin 34 × Int)) (s : State) :
    rest [.nv, .therm, .log, .evc, .tw] (roTaken d l s) = rest [.nv, .therm, .log, .evc, .tw] s :=
  rest_foldl _ (fun a x => (roTake_spec d _ a x).2) l s

/-! What the die's temperature makes of the samples leaves the sensors (R415, R418). -/

theorem logFault_therm (code : FaultCode) (die src detail : Nat) (s : State) : (logFault code die src detail s).therm = s.therm :=
  rest_therm (logFault_rest (F := [.nv, .log, .evc, .tw]) (by decide) (by decide) (by decide) (by decide) _ _ _ _ _) (by decide)

theorem applyThrottle_therm (s : State) : (applyThrottle s).therm = s.therm :=
  rest_therm (applyThrottle_rest (F := [.rails, .gangs]) (by decide) (by decide) s) (by decide)

/-- A die's step `n` with its first rise (R422). -/
def stepped (n : Nat) (x : DieTherm) : DieTherm := { x with n := n, logged := x.logged || decide (x.n = 0) }

/-- A step that changes is counted. -/
theorem setStep_therm {d : Fin 8} {n : Nat} {s : State} (h : s.therm.die[d].n ≠ n) : (setStep d n s).therm =
    { s.therm with die := vmod s.therm.die d (stepped n), stepCnt := satAdd max32 s.therm.stepCnt 1 } := by
  have hedge (u : State) : (eventEdge 3 u).therm = u.therm :=
    rest_therm (eventEdge_rest (F := [.evc, .tw]) (by decide) (by decide) 3 u) (by decide)
  have hlevel (slot : Nat) (b : Bool) (u : State) : (eventLevel slot b u).therm = u.therm :=
    rest_therm (eventLevel_rest (F := [.evc, .tw]) (by decide) (by decide) slot b u) (by decide)
  have hlog (b : Bool) (u : State) : (if b = true then logFault .throttle d d n u else u).therm = u.therm := by
    split
    · exact logFault_therm _ _ _ _ _
    · rfl
  have hdie (u : State) : (if 0 < d.val then eventLevel (70 + 8 * (d.val - 1)) (decide (0 < n)) u else u).therm = u.therm := by
    split
    · exact hlevel _ _ _
    · rfl
  rw [setStep]
  dsimp only
  rw [if_neg h, hlog, hdie, hedge]
  rfl

theorem setStep_ro (d : Fin 8) (n : Nat) (s : State) : (setStep d n s).therm.ro = s.therm.ro := by
  by_cases h : s.therm.die[d].n = n
  · rw [show setStep d n s = s from if_pos h]
  · rw [setStep_therm h]

theorem fallbackUpdate_ro (d : Fin 8) (s : State) : (fallbackUpdate d s).therm.ro = s.therm.ro := by
  unfold fallbackUpdate
  cases fallbackTemp s d with
  | none =>
    dsimp only
    split
    · rfl
    · rw [applyThrottle_therm, setStep_ro, logFault_therm]; rfl
  | some t =>
    dsimp only
    split
    · rw [thermShutdown_ro]; rfl
    · rfl

theorem dieTempUpdate_ro (d : Fin 8) (s : State) : (dieTempUpdate d s).therm.ro = s.therm.ro := by
  unfold dieTempUpdate
  split
  · cases maxTemp ((includedSensors s d).map fun i => s.therm.ro[i].t) <;> rfl
  · split
    · rw [fallbackUpdate_ro, logFault_therm]; rfl
    · rfl

theorem dieTempUpdate_classA (d : Fin 8) (s : State) :
    rest (.therm :: classAFields) (dieTempUpdate d s) = rest (.therm :: classAFields) s :=
  dieTempUpdate_rest (by decide) (by decide) (by decide) (by decide) (by decide) (by decide) (by decide) (by decide) (by decide) (by decide)
    (by decide) (by decide) (by decide) (by decide) (by decide) (by decide) (by decide) (by decide) (by decide) (by decide) (by decide)
    (by decide) (by decide) (by decide) (by decide) (by decide) (by decide) (by decide) (by decide) d s

theorem roSampled_ro (d : Fin 8) (l : List (Fin 34 × Int)) (s : State) : (roSampled d l s).therm.ro = (roTaken d l s).therm.ro := by
  unfold roSampled
  split
  · rw [thermShutdown_ro, dieTempUpdate_ro]
  · rw [dieTempUpdate_ro]

theorem roSampled_rest (d : Fin 8) (l : List (Fin 34 × Int)) (s : State) :
    rest (.therm :: classAFields) (roSampled d l s) = rest (.therm :: classAFields) s := by
  have h := (dieTempUpdate_classA d (roTaken d l s)).trans (rest_mono (by decide) (roTaken_rest d l s))
  unfold roSampled
  split
  · exact (thermShutdown_spec _ _ _).2.trans h
  · exact h

/-- A plausible sample at T_SD sets the latch (R423). -/
theorem roSampled_latch {d : Fin 8} {l : List (Fin 34 × Int)} {x : Int} (hx : x ∈ l.map Prod.snd) (hsd : 1650 ≤ x)
    (hp : plausible (median2 (l.map Prod.snd)) x = true) (s : State) : (roSampled d l s).therm.latch = true := by
  obtain ⟨y, hy, rfl⟩ := List.mem_map.mp hx
  rw [roSampled, if_pos (List.any_eq_true.mpr ⟨y, hy, by simp [hp, hsd]⟩)]
  exact thermShutdown_latch _ _ _

theorem nodup_dieSensors (d : Fin 8) : (dieSensors d).Nodup := (List.nodup_finRange 34).filter _

theorem execRoSample_spec {s : State} {d : Fin 8} (h : thermDiePresent s d = true) (hs : dieSampled s d = true) (l : List Int) :
    ∃ t, exec (.roSample d l) s = .next t ∧
      (∀ i x, (i, x) ∈ (dieSensors d).zip l →
        t.therm.ro[i] = sensorStep (plausible (median2 (((dieSensors d).zip l).map Prod.snd)) x) x s.therm.ro[i]) ∧
      (∀ i, i ∉ dieSensors d → t.therm.ro[i] = s.therm.ro[i]) ∧
      ((∃ x, x ∈ ((dieSensors d).zip l).map Prod.snd ∧ 1650 ≤ x ∧
        plausible (median2 (((dieSensors d).zip l).map Prod.snd)) x = true) → t.therm.latch = true) ∧
      t.part = s.part ∧ t.settings = s.settings ∧ t.hamper = s.hamper ∧ t.hk = s.hk ∧ t.wd = s.wd ∧
      t.pending = s.pending := by
  obtain ⟨m, hm⟩ : ∃ m, m = (dieSensors d).zip l := ⟨_, rfl⟩
  have hnodup : (m.map Prod.fst).Nodup := hm ▸ nodup_map_fst_zip (nodup_dieSensors d) l
  have hexec := execRoSample_sampled h hs l
  have hro := roSampled_ro d m s
  have hrest := roSampled_rest d m s
  have hlatch : ∀ x ∈ m.map Prod.snd, 1650 ≤ x → plausible (median2 (m.map Prod.snd)) x = true → (roSampled d m s).therm.latch = true :=
    fun x hx hsd hp => roSampled_latch hx hsd hp s
  rw [← hm] at hexec ⊢
  obtain ⟨t, ht⟩ : ∃ t, t = roSampled d m s := ⟨_, rfl⟩
  rw [← ht] at hexec hro hrest hlatch
  refine ⟨t, hexec, fun i x hx => ?_, fun i hi => ?_, fun ⟨x, hx, hsd, hp⟩ => hlatch x hx hsd hp, rest_part hrest (by decide),
    rest_settings hrest (by decide), rest_hamper hrest (by decide), rest_hk hrest (by decide), rest_wd hrest (by decide),
    rest_pending hrest (by decide)⟩
  · rw [hro]
    exact foldl_roTake_mem hnodup hx d _ s
  · rw [hro]
    refine foldl_roTake_other (fun hi' => ?_) d _ s
    obtain ⟨y, hy, rfl⟩ := List.mem_map.mp hi'
    rw [hm] at hy
    exact hi (List.of_mem_zip hy).1

/-! Throttling (R419, R422, R426). -/

/-- A die that is present takes the next step by the state `s` in which the evaluation began. -/
def throttleDie (s a : State) (d : Fin 8) : State := if thermDiePresent a d then setStep d (nextStepOf s d) a else a

/-- The disable has ended once every step is 0 (R426). -/
def throttleEnded (s a : State) : State :=
  if s.therm.disabling && (allFin 8).all (fun d => decide (a.therm.die[d].n = 0)) then modTherm (fun t => { t with disabling := false }) a
  else a

theorem execThrottleEvaluation_none {s : State}
    (h : sysRuns s = false ∨ (s.thrEn = false ∧ s.therm.disabling = false) ∨ (s.therm.latch = true ∧ s.update.pause = true)) :
    exec .throttleEvaluation s = .next s := by
  show execThrottleEvaluation s = _
  have hc : (!sysRuns s || !(s.thrEn || s.therm.disabling) || (s.therm.latch && s.update.pause)) = true := by
    rcases h with h | ⟨h1, h2⟩ | ⟨h1, h2⟩
    · rw [h]; rfl
    · rw [h1, h2, Bool.or_false, Bool.not_false, Bool.or_true, Bool.true_or]
    · rw [h1, h2, Bool.and_true, Bool.or_true]
  rw [execThrottleEvaluation, hc]
  rfl

theorem execThrottleEvaluation_acts {s : State} (hs : sysRuns s = true) (hon : s.thrEn = true ∨ s.therm.disabling = true)
    (hl : s.therm.latch = false ∨ s.update.pause = false) :
    exec .throttleEvaluation s = .next (applyThrottle (throttleEnded s ((allFin 8).foldl (throttleDie s) s))) := by
  show execThrottleEvaluation s = _
  have hon' : (s.thrEn || s.therm.disabling) = true := Bool.or_eq_true _ _ |>.mpr hon
  have hl' : (s.therm.latch && s.update.pause) = false := Bool.and_eq_false_iff.mpr hl
  have hc : (!sysRuns s || !(s.thrEn || s.therm.disabling) || (s.therm.latch && s.update.pause)) = false := by
    rw [hs, hon', hl']; rfl
  unfold execThrottleEvaluation throttleEnded throttleDie
  exact if_neg (by rw [hc]; decide)

/-- What a throttle evaluation leaves while it takes its steps. -/
structure ThrottleKeeps (s t : State) : Prop where
  rest : rest [.nv, .therm, .log, .evc, .tw] t = rest [.nv, .therm, .log, .evc, .tw] s
  ro : t.therm.ro = s.therm.ro
  latch : t.therm.latch = s.therm.latch
  disabling : t.therm.disabling = s.therm.disabling
  temp : ∀ d : Fin 8, t.therm.die[d].t = s.therm.die[d].t

theorem ThrottleKeeps.refl (s : State) : ThrottleKeeps s s := ⟨rfl, rfl, rfl, rfl, fun _ => rfl⟩

theorem ThrottleKeeps.trans {s t u : State} (h : ThrottleKeeps s t) (k : ThrottleKeeps t u) : ThrottleKeeps s u :=
  ⟨k.rest.trans h.rest, k.ro.trans h.ro, k.latch.trans h.latch, k.disabling.trans h.disabling, fun d => (k.temp d).trans (h.temp d)⟩

theorem ThrottleKeeps.present {s t : State} (h : ThrottleKeeps s t) (d : Fin 8) : thermDiePresent t d = thermDiePresent s d := by
  unfold thermDiePresent
  rw [rest_part h.rest (by decide)]

/-- A step taken. -/
theorem setStep_n (d : Fin 8) (n : Nat) (s : State) : (setStep d n s).therm.die[d].n = n := by
  by_cases h : s.therm.die[d].n = n
  · rw [show setStep d n s = s from if_pos h, h]
  · rw [setStep_therm h]
    exact congrArg DieTherm.n (vmod_get _ _ _)

theorem setStep_other {d j : Fin 8} (hj : j ≠ d) (n : Nat) (s : State) : (setStep d n s).therm.die[j] = s.therm.die[j] := by
  by_cases h : s.therm.die[d].n = n
  · rw [show setStep d n s = s from if_pos h]
  · rw [setStep_therm h]
    exact vmod_get_ne hj _ _

theorem setStep_keeps (d : Fin 8) (n : Nat) (s : State) : ThrottleKeeps s (setStep d n s) := by
  by_cases h : s.therm.die[d].n = n
  · rw [show setStep d n s = s from if_pos h]
    exact .refl s
  · have hrest := setStep_rest (F := [.nv, .therm, .log, .evc, .tw]) (by decide) (by decide) (by decide) (by decide) (by decide) d n s
    have htherm := setStep_therm h
    obtain ⟨t, ht⟩ : ∃ t, t = setStep d n s := ⟨_, rfl⟩
    rw [← ht] at hrest htherm ⊢
    refine ⟨hrest, by rw [htherm], by rw [htherm], by rw [htherm], fun j => ?_⟩
    rw [htherm]
    exact vmod_get_keeps DieTherm.t (f := stepped n) (fun _ => rfl) _ _ _

theorem throttleDie_keeps (s a : State) (d : Fin 8) : ThrottleKeeps a (throttleDie s a d) := by
  unfold throttleDie
  split
  · exact setStep_keeps _ _ _
  · exact .refl a

theorem throttleDie_other {d j : Fin 8} (h : j ≠ d) (s a : State) : (throttleDie s a d).therm.die[j] = a.therm.die[j] := by
  unfold throttleDie
  split
  · exact setStep_other h _ _
  · rfl

theorem throttleDie_absent {d : Fin 8} {a : State} (h : thermDiePresent a d = false) (s : State) : throttleDie s a d = a :=
  if_neg (by rw [h]; decide)

theorem throttleDie_present {d : Fin 8} {a : State} (h : thermDiePresent a d = true) (s : State) :
    throttleDie s a d = setStep d (nextStepOf s d) a :=
  if_pos h

theorem throttleDies_keeps (s : State) (l : List (Fin 8)) (a : State) : ThrottleKeeps a (l.foldl (throttleDie s) a) := by
  induction l generalizing a with
  | nil => exact .refl a
  | cons d l ih => exact (throttleDie_keeps s a d).trans (ih _)

theorem throttleDies_other {l : List (Fin 8)} {j : Fin 8} (h : j ∉ l) (s a : State) :
    (l.foldl (throttleDie s) a).therm.die[j] = a.therm.die[j] := by
  induction l generalizing a with
  | nil => rfl
  | cons d l ih =>
    rw [List.mem_cons, not_or] at h
    rw [List.foldl_cons, ih h.2, throttleDie_other h.1]

/-- An absent die takes no step. -/
theorem throttleDies_absent {j : Fin 8} {a : State} (h : thermDiePresent a j = false) (s : State) (l : List (Fin 8)) :
    (l.foldl (throttleDie s) a).therm.die[j] = a.therm.die[j] := by
  induction l generalizing a with
  | nil => rfl
  | cons d l ih =>
    rw [List.foldl_cons, ih (((throttleDie_keeps s a d).present j).trans h)]
    by_cases hd : j = d
    · rw [throttleDie_absent (hd ▸ h)]
    · exact throttleDie_other hd s a

/-- Each die present takes its next step once. -/
theorem throttleDies_present {l : List (Fin 8)} (hl : l.Nodup) {j : Fin 8} (hj : j ∈ l) {a : State} (h : thermDiePresent a j = true)
    (s : State) : (l.foldl (throttleDie s) a).therm.die[j].n = nextStepOf s j := by
  induction l generalizing a with
  | nil => cases hj
  | cons d l ih =>
    obtain ⟨hd, hl⟩ := List.nodup_cons.mp hl
    rw [List.foldl_cons]
    rcases List.mem_cons.mp hj with rfl | hj
    · rw [throttleDies_other hd, throttleDie_present h, setStep_n]
    · exact ih hl hj (((throttleDie_keeps s a d).present j).trans h)

/-- The end of a disable leaves the dies, the sensors and the latch. -/
theorem throttleEnded_spec (s a : State) : (throttleEnded s a).therm.die = a.therm.die ∧ (throttleEnded s a).therm.ro = a.therm.ro ∧
    (throttleEnded s a).therm.latch = a.therm.latch ∧ rest [.therm] (throttleEnded s a) = rest [.therm] a := by
  unfold throttleEnded
  split
  · exact ⟨rfl, rfl, rfl, rest_with_therm (by decide) _ _⟩
  · exact ⟨rfl, rfl, rfl, rfl⟩

theorem execThrottleEvaluation_spec {s : State} (hs : sysRuns s = true) (hon : s.thrEn = true ∨ s.therm.disabling = true)
    (hl : s.therm.latch = false ∨ s.update.pause = false) : ∃ t,
      exec .throttleEvaluation s = .next t ∧
      (∀ d : Fin 8, thermDiePresent s d = true → t.therm.die[d].n = nextStepOf s d) ∧
      (∀ d : Fin 8, thermDiePresent s d = false → t.therm.die[d] = s.therm.die[d]) ∧
      (∀ d : Fin 8, t.therm.die[d].t = s.therm.die[d].t) ∧ t.therm.ro = s.therm.ro ∧ t.therm.latch = s.therm.latch ∧
      t = { s with nv := t.nv, rails := t.rails, gangs := t.gangs, therm := t.therm, log := t.log, evc := t.evc, tw := t.tw } := by
  have hexec := execThrottleEvaluation_acts hs hon hl
  have hkeeps := throttleDies_keeps s (allFin 8) s
  have hpresent (d : Fin 8) (h : thermDiePresent s d = true) := throttleDies_present (List.nodup_finRange 8) (List.mem_finRange d) h s
  have habsent (d : Fin 8) (h : thermDiePresent s d = false) := throttleDies_absent h s (allFin 8)
  obtain ⟨a, ha⟩ : ∃ a, a = (allFin 8).foldl (throttleDie s) s := ⟨_, rfl⟩
  rw [← ha] at hexec hkeeps hpresent habsent
  obtain ⟨hdie, hro, hlatch, hend⟩ := throttleEnded_spec s a
  obtain ⟨b, hb⟩ : ∃ b, b = throttleEnded s a := ⟨_, rfl⟩
  rw [← hb] at hexec hdie hro hlatch hend
  have htherm := applyThrottle_therm b
  have hrest := (applyThrottle_rest (F := [.nv, .rails, .gangs, .therm, .log, .evc, .tw]) (by decide) (by decide) b).trans
    ((rest_mono (by decide) hend).trans (rest_mono (by decide) hkeeps.rest))
  obtain ⟨t, ht⟩ : ∃ t, t = applyThrottle b := ⟨_, rfl⟩
  rw [← ht] at hexec htherm hrest
  refine ⟨t, hexec, fun d h => ?_, fun d h => ?_, fun d => ?_, ?_, ?_, rest_patch hrest⟩
  · rw [htherm, hdie, hpresent d h]
  · rw [htherm, hdie, habsent d h]
  · rw [htherm, hdie, hkeeps.temp d]
  · rw [htherm, hro, hkeeps.ro]
  · rw [htherm, hlatch, hkeeps.latch]

/-! A write of 0 to `THR_EN` under cross-bearing (R426, R523). -/

theorem portWrite_silent {s : State} (h : answering s = false) (p : Port) (idx sub : Nat) (bytes : List Byte) :
    portWrite p idx sub bytes s = { s with ack := .none } := by
  rw [portWrite, h]; rfl

theorem portWrite_refused {s : State} {p : Port} {idx sub : Nat} {c : AbortCode} (h : answering s = true)
    (hc : checkWrite s p idx sub = .error c) (bytes : List Byte) : portWrite p idx sub bytes s = { s with ack := .abort c } := by
  rw [portWrite, h, writeRequest, hc]; rfl

theorem portWrite_bearing {s : State} {p : Port} {idx sub : Nat} {row : ObjRow} {bytes : List Byte} (h : answering s = true)
    (hc : checkWrite s p idx sub = .ok row) (hx : row.acc = .rwx) (hl : lengthOk row idx sub bytes.length = true) :
    portWrite p idx sub bytes s = setAck (bearing ⟨idx, sub, p, 0, bytes⟩ s).2 (bearing ⟨idx, sub, p, 0, bytes⟩ s).1 := by
  have hw : writeRequest p 0 idx sub bytes s = bearing ⟨idx, sub, p, 0, bytes⟩ s := by
    rw [writeRequest, hc]
    dsimp only
    rw [if_neg (by rw [hl]; decide), if_pos hx]
  rw [portWrite, if_neg (by rw [h]; decide), hw]

/-- A first bearing waits (R523). -/
theorem bearing_first {s : State} {b : Bearing} (h : ∀ a ∈ s.xb.pend, ¬(a.idx = b.idx ∧ a.sub = b.sub)) (hl : s.xb.pend.length < 16) :
    ∃ t, bearing b s = (t, .pending) ∧ t.xb.pend = s.xb.pend ++ [b] ∧ rest [.xb, .evc, .tw] t = rest [.xb, .evc, .tw] s := by
  have hfind : s.xb.pend.find? (fun x => decide (x.idx = b.idx ∧ x.sub = b.sub)) = none :=
    List.find?_eq_none.mpr fun a ha => by rw [decide_eq_true_eq]; exact h a ha
  have hedge := eventEdge_rest (F := [.evc, .tw]) (by decide) (by decide) 44
    (modXb (fun x => { x with pend := x.pend ++ [b], last := xbWord b.idx b.sub b.port 7 0 }) s)
  refine ⟨_, ?_, by rw [rest_xb hedge (by decide)]; rfl, (rest_mono (by decide) hedge).trans (rest_with_xb (by decide) _ _)⟩
  rw [bearing, hfind]
  exact if_neg (Nat.not_le.mpr hl)

/-- The owner of `THR_EN` stores a 0. -/
theorem ownerWrite_thrEn (p : Port) (s : State) : ownerWrite p 0x2910 1 [0] s = (thrEnOp 0 s, .done) := rfl

/-- A 0 in `THR_EN` is stored and, with a step standing, starts the disable (R426). -/
theorem thrEnOp_zero (s : State) : (thrEnOp 0 s).settings = mapPut (okey 0x2910 1) 0 s.settings ∧
    ((∃ d : Fin 8, 0 < s.therm.die[d].n) → (thrEnOp 0 s).therm.disabling = true) ∧
    rest [.settings, .therm] (thrEnOp 0 s) = rest [.settings, .therm] s := by
  have hstore := rest_with_settings (F := [.settings, .therm]) (by decide) s (mapPut (okey 0x2910 1) 0 s.settings)
  cases h : (allFin 8).any (fun d => decide (0 < s.therm.die[d].n))
  · have e : thrEnOp 0 s = s.store (okey 0x2910 1) 0 := if_neg (by rw [h]; decide)
    rw [e]
    refine ⟨rfl, fun ⟨d, hd⟩ => ?_, hstore⟩
    have := List.any_eq_false.mp h d (List.mem_finRange d)
    exact absurd (decide_eq_true hd) this
  · have e : thrEnOp 0 s = modTherm (fun t => { t with disabling := true }) (s.store (okey 0x2910 1) 0) := if_pos (by rw [h]; decide)
    rw [e]
    exact ⟨rfl, fun _ => rfl, (rest_with_therm (by decide) _ _).trans hstore⟩

/-- A bearing taken out of those that wait, and a completed pair (R523). -/
def bearingTaken (a : Bearing) (x : XbState) : XbState := { x with pend := x.pend.erase a }
def pairDone (a : Bearing) (p : Port) (x : XbState) : XbState :=
  { x with doneCnt := satAdd max32 x.doneCnt 1, last := xbWord 0x2910 1 a.port p 1 }

/-- A second bearing of another port with the same value completes the write of 0 (R523). -/
theorem bearing_second {s : State} {p : Port} {a : Bearing} (hf : s.xb.pend.find? (fun x => decide (x.idx = 0x2910 ∧ x.sub = 1)) = some a)
    (hp : a.port ≠ p) (ha : a.bytes = [0]) : ∃ u, bearing ⟨0x2910, 1, p, 0, [0]⟩ s = (completeBearing a .done u, .done) ∧
      u.settings = mapPut (okey 0x2910 1) 0 s.settings ∧ u.xb.pend = s.xb.pend.erase a ∧
      u.xb.doneCnt = satAdd max32 s.xb.doneCnt 1 ∧ ((∃ d : Fin 8, 0 < s.therm.die[d].n) → u.therm.disabling = true) ∧
      rest [.settings, .therm, .xb] u = rest [.settings, .therm, .xb] s := by
  obtain ⟨hset, hdis, hrest⟩ := thrEnOp_zero (modXb (bearingTaken a) s)
  have hxb := rest_xb hrest (by decide)
  refine ⟨modXb (pairDone a p) (thrEnOp 0 (modXb (bearingTaken a) s)), ?_, hset, ?_, ?_, hdis, ?_⟩
  · rw [bearing, hf]
    dsimp only
    rw [if_neg hp, if_pos ha, ownerWrite_thrEn]
    rfl
  · exact congrArg XbState.pend hxb
  · show satAdd max32 (thrEnOp 0 (modXb (bearingTaken a) s)).xb.doneCnt 1 = _
    rw [hxb]; rfl
  · exact (rest_with_xb (by decide) _ _).trans ((rest_mono (by decide) hrest).trans (rest_with_xb (by decide) _ _))

theorem execThrottleDisable_first {s : State} {p : Port} {row : ObjRow} (h : answering s = true) (hc : checkWrite s p 0x2910 1 = .ok row)
    (hx : row.acc = .rwx) (hl : lengthOk row 0x2910 1 1 = true) (hn : ∀ a ∈ s.xb.pend, ¬(a.idx = 0x2910 ∧ a.sub = 1))
    (hlen : s.xb.pend.length < 16) : ∃ t, exec (.throttleDisable p) s = .next t ∧
      t.ack = .pending ∧ t.xb.pend = s.xb.pend ++ [⟨0x2910, 1, p, 0, [0]⟩] ∧
      t = { s with xb := t.xb, evc := t.evc, tw := t.tw, ack := t.ack } := by
  obtain ⟨u, hu, hpend, hrest⟩ := bearing_first (b := ⟨0x2910, 1, p, 0, [0]⟩) hn hlen
  have hexec : exec (.throttleDisable p) s = .next (setAck .pending u) := by
    show Host.Outcome.next (portWrite p 0x2910 1 [0] s) = _
    rw [portWrite_bearing (bytes := [0]) h hc hx hl, hu]
  exact ⟨setAck .pending u, hexec, rfl, hpend, rest_patch (F := [.xb, .evc, .tw, .ack]) ((rest_with_ack (by decide) u _).trans (rest_mono (by decide) hrest))⟩

theorem execThrottleDisable_second {s : State} {p : Port} {row : ObjRow} (h : answering s = true) (hc : checkWrite s p 0x2910 1 = .ok row)
    (hx : row.acc = .rwx) (hl : lengthOk row 0x2910 1 1 = true) {a : Bearing}
    (hf : s.xb.pend.find? (fun x => decide (x.idx = 0x2910 ∧ x.sub = 1)) = some a) (hp : a.port ≠ p) (ha : a.bytes = [0]) :
    ∃ t, exec (.throttleDisable p) s = .next t ∧ t.ack = .done ∧ t.settings = mapPut (okey 0x2910 1) 0 s.settings ∧
      t.xb.pend = s.xb.pend.erase a ∧ t.xb.doneCnt = satAdd max32 s.xb.doneCnt 1 ∧
      ((∃ d : Fin 8, 0 < s.therm.die[d].n) → t.therm.disabling = true) ∧
      t = { s with settings := t.settings, therm := t.therm, xb := t.xb, tw := t.tw, can := t.can, ack := t.ack } := by
  obtain ⟨u, hu, hset, hpend, hcnt, hdis, hrest⟩ := bearing_second hf hp ha
  have hexec : exec (.throttleDisable p) s = .next (setAck .done (completeBearing a .done u)) := by
    show Host.Outcome.next (portWrite p 0x2910 1 [0] s) = _
    rw [portWrite_bearing (bytes := [0]) h hc hx hl, hu]
  have hdone := completeBearing_rest (F := [.tw, .can]) (by decide) (by decide) a .done u
  obtain ⟨v, hv⟩ : ∃ v, v = completeBearing a .done u := ⟨_, rfl⟩
  rw [← hv] at hexec hdone
  refine ⟨setAck .done v, hexec, rfl, (rest_settings hdone (by decide)).trans hset, ?_, ?_, fun hd => ?_, rest_patch
    (F := [.settings, .therm, .xb, .tw, .can, .ack])
    ((rest_with_ack (by decide) v _).trans ((rest_mono (by decide) hdone).trans (rest_mono (by decide) hrest)))⟩
  · exact (congrArg XbState.pend (rest_xb hdone (by decide))).trans hpend
  · exact (congrArg XbState.doneCnt (rest_xb hdone (by decide))).trans hcnt
  · exact (congrArg ThermState.disabling (rest_therm hdone (by decide))).trans (hdis hd)

/-- Settles O36: a sample goes through its sensor, the die's temperature and the comparison with T_SD; each die takes one step; a pair of
bearings writes `THR_EN`. -/
theorem thermalManagement : Obligations.ThermalManagement := by
  unfold Obligations.ThermalManagement
  refine fun s => ⟨fun _ _ h => execRoSample_absent h _, fun _ _ h hs => execRoSample_idle h hs _,
    fun _ _ h hs => execRoSample_spec h hs _, execThermalComparator_none, fun hb hp hl => ?_, execThermalComparator_trips,
    execThrottleEvaluation_none, execThrottleEvaluation_spec, fun p h => ?_, fun p c h hc => ?_,
    fun p row h hc hx hl => ⟨execThrottleDisable_first h hc hx hl, fun _ => execThrottleDisable_second h hc hx hl⟩⟩
  · rw [execThermalComparator_acts (by rw [hb]; decide) hp, thermShutdown_holdUp hl hb]
    rfl
  · exact congrArg Host.Outcome.next (portWrite_silent h p 0x2910 1 [0])
  · exact congrArg Host.Outcome.next (portWrite_refused h hc [0])

end Sys2Proof.Proofs

namespace Sys2Proof.Proofs

open Sys2Proof.Machine Sys2Proof.Laws

/-! ### The engine watchdog and the Logbook (R381, R446 to R457) -/

theorem startFullReset_classAFields (cause sub : Nat) (s : State) :
    rest classAFields (startFullReset cause sub s) = rest classAFields s :=
  startFullReset_rest (by decide) (by decide) (by decide) (by decide) (by decide) (by decide) (by decide) (by decide) (by decide)
    (by decide) (by decide) (by decide) (by decide) (by decide) (by decide) (by decide) (by decide) (by decide) (by decide) (by decide)
    (by decide) (by decide) (by decide) (by decide) (by decide) (by decide) (by decide) (by decide) cause sub s

/-! Engine services and deadlines (R446 to R448). -/

theorem execEngineService_absent {s : State} {e : Fin 18} (h : enginePresent s e = false) :
    exec (.engineService e) s = .fault .absentInPart := by
  show execEngineService e s = _
  rw [execEngineService, h]; rfl

theorem execEngineService_idle {s : State} {e : Fin 18} (h : enginePresent s e = true)
    (hi : s.ewd.running = false ∨ engineLinkOut s e = true) : exec (.engineService e) s = .next s := by
  have hc : (s.ewd.running && !engineLinkOut s e) = false := by
    rcases hi with hi | hi
    · rw [hi]; rfl
    · rw [hi, Bool.not_true, Bool.and_false]
  show execEngineService e s = _
  rw [execEngineService, h, hc]; rfl

/-- The supervisor pair is serviced together, any other engine alone (R446). -/
theorem restartEngines_pair (e : Fin 18) (s : State) : restartEngines (enginePair e) s =
    { s with ewd := { s.ewd with since := if e.val < 2 then vset (vset s.ewd.since 0 0) 1 0 else vset s.ewd.since e 0 } } := by
  unfold restartEngines enginePair
  split <;> rfl

theorem execEngineService_serves {s : State} {e : Fin 18} (h : enginePresent s e = true) (hr : s.ewd.running = true)
    (hl : engineLinkOut s e = false) : exec (.engineService e) s = .next { s with
      ewd := { s.ewd with since := if e.val < 2 then vset (vset s.ewd.since 0 0) 1 0 else vset s.ewd.since e 0 } } := by
  rw [← restartEngines_pair]
  show execEngineService e s = _
  rw [execEngineService, h, hr, hl]; rfl

theorem execEngineWatchdogExpire_absent {s : State} {e : Fin 18} (h : enginePresent s e = false) :
    exec (.engineWatchdogExpire e) s = .fault .absentInPart := by
  show execEngineWatchdogExpire e s = _
  rw [execEngineWatchdogExpire, h]; rfl

theorem execEngineWatchdogExpire_idle {s : State} {e : Fin 18} (h : enginePresent s e = true)
    (hi : s.ewd.running = false ∨ ewdSuspended s e = true) : exec (.engineWatchdogExpire e) s = .next s := by
  have hc : (s.ewd.running && !ewdSuspended s e) = false := by
    rcases hi with hi | hi
    · rw [hi]; rfl
    · rw [hi, Bool.not_true, Bool.and_false]
  show execEngineWatchdogExpire e s = _
  rw [execEngineWatchdogExpire, h, hc]; rfl

theorem execEngineWatchdogExpire_resets {s : State} {e : Fin 18} (h : enginePresent s e = true) (hr : s.ewd.running = true)
    (hs : ewdSuspended s e = false) : exec (.engineWatchdogExpire e) s =
      .next (startFullReset 7 (engineNumber e) (logFault .engineWdt 0 (engineNumber e) 0 s)) := by
  show execEngineWatchdogExpire e s = _
  rw [execEngineWatchdogExpire, h, hr, hs]; rfl

theorem engineNumber_val (e : Fin 18) : (engineNumber e).val = if e.val < 2 then 0 else e.val := by
  unfold engineNumber
  split <;> rfl

/-- An expiry with the boot done is a full reset of cause 7 (R447). -/
theorem execEngineWatchdogExpire_spec {s : State} {e : Fin 18} (h : enginePresent s e = true) (hr : s.ewd.running = true)
    (hs : ewdSuspended s e = false) : ∃ t,
      exec (.engineWatchdogExpire e) s = .next t ∧ (s.boot.phase = .ready → t.boot.phase = .inReset ∧ t.boot.curCause = 7 ∧
        t.boot.curSub = if e.val < 2 then 0 else e.val) ∧ t.part = s.part ∧ t.settings = s.settings ∧ t.hamper = s.hamper ∧ t.clk = s.clk ∧
      t.wd = s.wd ∧ t.ewd = s.ewd ∧ t.pending = s.pending := by
  have hexec := execEngineWatchdogExpire_resets h hr hs
  have hlog := logFault_rest (F := [.nv, .log, .evc, .tw]) (by decide) (by decide) (by decide) (by decide) .engineWdt 0 (engineNumber e) 0 s
  obtain ⟨u, hu⟩ : ∃ u, u = logFault .engineWdt 0 (engineNumber e) 0 s := ⟨_, rfl⟩
  rw [← hu] at hexec hlog
  have hrest := (startFullReset_classAFields 7 (engineNumber e) u).trans (rest_mono (by decide) hlog)
  have hready : s.boot.phase = .ready → (startFullReset 7 (engineNumber e) u).boot.phase = .inReset ∧
      (startFullReset 7 (engineNumber e) u).boot.curCause = 7 ∧
      (startFullReset 7 (engineNumber e) u).boot.curSub = if e.val < 2 then 0 else e.val := fun hb => by
    rw [startFullReset_ready (by rw [rest_boot hlog (by decide)]; exact hb), ← engineNumber_val]
    exact resetStart_boot 7 _ u
  obtain ⟨t, ht⟩ : ∃ t, t = startFullReset 7 (engineNumber e) u := ⟨_, rfl⟩
  rw [← ht] at hexec hrest hready
  exact ⟨t, hexec, hready, rest_part hrest (by decide), rest_settings hrest (by decide), rest_hamper hrest (by decide),
    rest_clk hrest (by decide), rest_wd hrest (by decide), rest_ewd hrest (by decide), rest_pending hrest (by decide)⟩

/-! Logbook entries (R381, R449 to R451, R456). -/

theorem execLogbookEntry_absent {s : State} {d : Nat} (h : s.part.dies < d) (c : FaultCode) (i x : Nat) :
    exec (.logbookEntry c d i x) s = .fault .absentInPart :=
  if_pos h

theorem execLogbookEntry_stopped {s : State} {d : Nat} (h : d ≤ s.part.dies) (hs : sysRuns s = false) (c : FaultCode) (i x : Nat) :
    exec (.logbookEntry c d i x) s = .next s := by
  show execLogbookEntry c d i x s = _
  rw [execLogbookEntry, if_neg (Nat.not_lt.mpr h), hs]; rfl

theorem execLogbookEntry_a {s : State} {d : Nat} {c : FaultCode} (h : d ≤ s.part.dies) (hs : sysRuns s = true) (hc : c.cls = .a)
    (i x : Nat) : exec (.logbookEntry c d i x) s = .next (useFree (classA c d i x s)) := by
  show execLogbookEntry c d i x s = _
  rw [execLogbookEntry, if_neg (Nat.not_lt.mpr h), if_neg (by rw [hs]; decide), if_pos hc]

theorem execLogbookEntry_bc {s : State} {d : Nat} {c : FaultCode} (h : d ≤ s.part.dies) (hs : sysRuns s = true) (hc : c.cls ≠ .a)
    (i x : Nat) : exec (.logbookEntry c d i x) s = .next (useFree (logFault c d i x (fabReported c i x s))) := by
  show execLogbookEntry c d i x s = _
  rw [execLogbookEntry, if_neg (Nat.not_lt.mpr h), if_neg (by rw [hs]; decide), if_neg hc]

theorem fabReported_other {c : FaultCode} (h : c ≠ .fabricErr) (i x : Nat) (s : State) : fabReported c i x s = s := if_neg h

/-- A fault that comes before the sequence is known waits (R381). -/
theorem logFault_held {s : State} (h : s.log.ready = false) (c : FaultCode) (d i x : Nat) :
    logFault c d i x s = { s with log := { s.log with held := s.log.held ++ [⟨c, d, i, x⟩] } } := by
  rw [logFault, h]; rfl

/-- With the sequence known the Logbook after an entry is the ring's with the latches set (R450, R451). -/
theorem logFault_ready {s : State} (h : s.log.ready = true) (c : FaultCode) (d i x : Nat) :
    (logFault c d i x s).log = (logRing ⟨c, d, i, x⟩ { s with log := logLatch ⟨c, d, i, x⟩ s.log }).log ∧
    (logFault c d i x s).nv = (logRing ⟨c, d, i, x⟩ { s with log := logLatch ⟨c, d, i, x⟩ s.log }).nv := by
  have e : logFault c d i x s = logEntry ⟨c, d, i, x⟩ s := by rw [logFault, h]; rfl
  rw [e]
  unfold logEntry
  dsimp only
  split
  · have hedge := eventEdge_rest (F := [.evc, .tw]) (by decide) (by decide) 0 (logRing ⟨c, d, i, x⟩ { s with log := logLatch ⟨c, d, i, x⟩ s.log })
    exact ⟨rest_log hedge (by decide), rest_nv hedge (by decide)⟩
  · exact ⟨rfl, rfl⟩

/-- The entry of a fault (R380, R450). -/
def newEntry (f : HeldFault) (s : State) : LogRec :=
  { seq := s.log.nextSeq, time := s.devTime, boot := s.boot.bootCount % 65536, code := f.code.code, cls := f.code.cls.code,
    fromLf := false, die := f.die, src := f.src, detail := f.detail, rep := 1 }

theorem logRing_new {f : HeldFault} {s : State} (hlen : s.log.ring.length < 2048) (hn : ∀ r ∈ s.log.ring, r.sameAs f = false) :
    (logRing f s).log = { s.log with
      ring := s.log.ring ++ [newEntry f s], nextSeq := logNext s.log.nextSeq, entryCnt := satAdd max32 s.log.entryCnt 1 } ∧
    (logRing f s).nv = s.nv := by
  have hany : s.log.ring.any (fun r => r.sameAs f) = false := List.any_eq_false.mpr fun r hr => by rw [hn r hr]; decide
  have hfull : decide (2048 ≤ s.log.ring.length) = false := decide_eq_false (Nat.not_le.mpr hlen)
  unfold logRing
  rw [if_neg (by rw [hany]; decide), hfull]
  exact ⟨rfl, rfl⟩

/-- What no entry in the ring touches of the Logbook's latches. -/
theorem logRing_latches (f : HeldFault) (s : State) : (logRing f s).log.bLatched = s.log.bLatched ∧
    (logRing f s).log.cSeen = s.log.cSeen ∧ (logRing f s).log.aDies = s.log.aDies ∧ (logRing f s).log.aCode = s.log.aCode := by
  unfold logRing
  split <;> exact ⟨rfl, rfl, rfl, rfl⟩

/-- The latches of a fault that is not class A (R451, R457). -/
theorem logLatch_bc {f : HeldFault} (h : f.code.cls ≠ .a) (l : LogState) :
    (f.code.cls = .b → (logLatch f l).bLatched = true) ∧ (f.code.cls = .c → (logLatch f l).cSeen = true) ∧
    (logLatch f l).aDies = l.aDies ∧ (logLatch f l).aCode = l.aCode ∧ (logLatch f l).ring = l.ring ∧
    (logLatch f l).nextSeq = l.nextSeq ∧ (logLatch f l).entryCnt = l.entryCnt := by
  unfold logLatch
  cases hc : f.code.cls with
  | a => exact absurd hc h
  | b => exact ⟨fun _ => rfl, fun e => absurd e (by decide), rfl, rfl, rfl, rfl, rfl⟩
  | c => exact ⟨fun e => absurd e (by decide), fun _ => rfl, rfl, rfl, rfl, rfl, rfl⟩

theorem fabReported_rest_fab (c : FaultCode) (i x : Nat) (s : State) : rest [.fab] (fabReported c i x s) = rest [.fab] s :=
  fabReported_rest (by decide) c i x s

/-- A FABRIC_ERR behind the first is counted (R456). -/
theorem fabReported_later {s : State} (h : s.fab.valid = true) (i x : Nat) :
    (fabReported .fabricErr i x s).fab = { s.fab with cnt := satAdd max32 s.fab.cnt 1 } := by
  rw [fabReported, if_pos rfl, fabCapture, if_pos h]

/-- The first FABRIC_ERR is captured (R456). -/
theorem fabReported_captures {s : State} (h : s.fab.valid = false) (i x : Nat) :
    (fabReported .fabricErr i x s).fab.valid = true ∧ (fabReported .fabricErr i x s).fab.addr = x ∧
    (fabReported .fabricErr i x s).fab.master = i ∧ (fabReported .fabricErr i x s).fab.time = s.devTime := by
  rw [fabReported, if_pos rfl, fabCapture, if_neg (by rw [h]; decide)]
  exact ⟨rfl, rfl, rfl, rfl⟩

/-- What an entry makes of the Logbook (R380, R450, R451). -/
theorem logFault_entry {s : State} {c : FaultCode} (h : s.log.ready = true) (hc : c.cls ≠ .a) (d i x : Nat) :
    (c.cls = .b → (logFault c d i x s).log.bLatched = true) ∧ (c.cls = .c → (logFault c d i x s).log.cSeen = true) ∧
    (logFault c d i x s).log.aDies = s.log.aDies ∧ (logFault c d i x s).log.aCode = s.log.aCode ∧
    (s.log.ring.length < 2048 → (∀ r ∈ s.log.ring, r.sameAs ⟨c, d, i, x⟩ = false) →
      (logFault c d i x s).log.ring = s.log.ring ++ [newEntry ⟨c, d, i, x⟩ s] ∧
      (logFault c d i x s).log.nextSeq = logNext s.log.nextSeq ∧
      (logFault c d i x s).log.entryCnt = satAdd max32 s.log.entryCnt 1 ∧ (logFault c d i x s).nv = s.nv) := by
  obtain ⟨f, hf⟩ : ∃ f : HeldFault, f = ⟨c, d, i, x⟩ := ⟨_, rfl⟩
  have hcf : f.code = c := by rw [hf]
  obtain ⟨hb, hcs, had, hac, hring, hseq, hcnt⟩ := logLatch_bc (f := f) (by rw [hcf]; exact hc) s.log
  obtain ⟨hlog, hnv⟩ := logFault_ready h c d i x
  rw [← hf] at hlog hnv ⊢
  obtain ⟨gb, gc, gd, ga⟩ := logRing_latches f { s with log := logLatch f s.log }
  rw [hlog, hnv]
  rw [hcf] at hb hcs
  refine ⟨fun e => gb.trans (hb e), fun e => gc.trans (hcs e), gd.trans had, ga.trans hac, fun hlen hn => ?_⟩
  obtain ⟨hl, hv⟩ := logRing_new (f := f) (s := { s with log := logLatch f s.log }) (by rw [← hring] at hlen; exact hlen)
    (by rw [← hring] at hn; exact hn)
  rw [hl, hv]
  refine ⟨?_, congrArg logNext hseq, congrArg (satAdd max32 · 1) hcnt, rfl⟩
  show (logLatch f s.log).ring ++ [newEntry f { s with log := logLatch f s.log }] = s.log.ring ++ [newEntry f s]
  rw [hring, newEntry, newEntry]
  dsimp only
  rw [hseq]

theorem execLogbookEntry_spec {s : State} {d : Nat} {c : FaultCode} (h : d ≤ s.part.dies) (hs : sysRuns s = true) (hc : c.cls ≠ .a)
    (hr : s.log.ready = true) (i x : Nat) : ∃ t,
      exec (.logbookEntry c d i x) s = .next t ∧ (c.cls = .b → t.log.bLatched = true) ∧ (c.cls = .c → t.log.cSeen = true) ∧
      t.log.aDies = s.log.aDies ∧ t.log.aCode = s.log.aCode ∧
      (s.log.ring.length < 2048 → (∀ r ∈ s.log.ring, r.sameAs ⟨c, d, i, x⟩ = false) →
        t.log.ring = s.log.ring ++ [newEntry ⟨c, d, i, x⟩ s] ∧
        t.log.nextSeq = logNext s.log.nextSeq ∧ t.log.entryCnt = satAdd max32 s.log.entryCnt 1 ∧ t.nv = s.nv) ∧
      (c ≠ .fabricErr → t.fab = s.fab) ∧ (c = .fabricErr → s.fab.valid = true → t.fab = { s.fab with cnt := satAdd max32 s.fab.cnt 1 }) ∧
      (c = .fabricErr → s.fab.valid = false → t.fab.valid = true ∧ t.fab.addr = x ∧ t.fab.master = i ∧ t.fab.time = s.devTime) ∧
      t = { s with nv := t.nv, log := t.log, evc := t.evc, tw := t.tw, fab := t.fab, freeCtr := t.freeCtr } := by
  have hexec := execLogbookEntry_bc h hs hc i x
  have hfab := fabReported_rest_fab c i x s
  have hother (hne : c ≠ .fabricErr) : (fabReported c i x s).fab = s.fab := by rw [fabReported_other hne]
  have hlater (he : c = .fabricErr) (hv : s.fab.valid = true) :
      (fabReported c i x s).fab = { s.fab with cnt := satAdd max32 s.fab.cnt 1 } := by subst he; exact fabReported_later hv i x
  have hfirst (he : c = .fabricErr) (hv : s.fab.valid = false) : (fabReported c i x s).fab.valid = true ∧
      (fabReported c i x s).fab.addr = x ∧ (fabReported c i x s).fab.master = i ∧ (fabReported c i x s).fab.time = s.devTime := by
    subst he; exact fabReported_captures hv i x
  obtain ⟨v, hv⟩ : ∃ v, v = fabReported c i x s := ⟨_, rfl⟩
  rw [← hv] at hexec hfab hother hlater hfirst
  have hlogv := rest_log hfab (by decide)
  have hentry := logFault_entry (s := v) (by rw [hlogv]; exact hr) hc d i x
  have hrest := logFault_rest (F := [.nv, .log, .evc, .tw]) (by decide) (by decide) (by decide) (by decide) c d i x v
  obtain ⟨u, hu⟩ : ∃ u, u = logFault c d i x v := ⟨_, rfl⟩
  rw [← hu, hlogv, rest_nv hfab (by decide), show newEntry ⟨c, d, i, x⟩ v = newEntry ⟨c, d, i, x⟩ s by
    unfold newEntry; rw [hlogv, rest_boot hfab (by decide), rest_devTime hfab (by decide)]] at hentry
  rw [← hu] at hexec hrest
  obtain ⟨hb, hcs, had, hac, hring⟩ := hentry
  have hufab := rest_fab hrest (by decide)
  refine ⟨useFree u, hexec, hb, hcs, had, hac, hring, fun hne => hufab.trans (hother hne), fun he hv' => hufab.trans (hlater he hv'),
    fun he hv' => ?_, rest_patch (F := [.nv, .log, .evc, .tw, .fab, .freeCtr]) ((useFree_rest (by decide) u).trans
      ((rest_mono (by decide) hrest).trans (rest_mono (by decide) hfab)))⟩
  show u.fab.valid = true ∧ u.fab.addr = x ∧ u.fab.master = i ∧ u.fab.time = s.devTime
  rw [hufab]
  exact hfirst he hv'

theorem execLogbookEntry_held {s : State} {d : Nat} {c : FaultCode} (h : d ≤ s.part.dies) (hs : sysRuns s = true) (hc : c.cls ≠ .a)
    (hr : s.log.ready = false) (hf : c ≠ .fabricErr) (i x : Nat) : exec (.logbookEntry c d i x) s = .next { s with
      freeCtr := s.freeCtr + 1
      log := { s.log with held := s.log.held ++ [⟨c, d, i, x⟩] } } := by
  rw [execLogbookEntry_bc h hs hc, fabReported_other hf, logFault_held hr]
  rfl

/-! The latch clear (R457). -/

/-- The package fault line, the capture and the latches cleared (R457). -/
def latchesCleared (s : State) : State :=
  { s with
    faultLine := false
    fab := .init
    log := { s.log with aDies := 0, bLatched := false, aCode := 0, bCode := 0, since := [], refused := false } }

theorem logFclrOp_other {v : Nat} (h : v ≠ 1) (s : State) : logFclrOp v s = (s, .done) := if_pos h

theorem logFclrOp_refused {s : State} (h : s.log.since.any (persists s) = true) :
    logFclrOp 1 s = ({ s with log := { s.log with refused := true } }, .abort .state) := by
  rw [logFclrOp, if_neg (by decide), if_pos h]

theorem logFclrOp_clears {s : State} (h : s.log.since.any (persists s) = false) :
    logFclrOp 1 s = (runItems (pgRefreshAll (safeRefresh (latchesCleared s))), .done) := by
  rw [logFclrOp, if_neg (by decide), if_neg (by rw [h]; decide)]
  rfl

theorem execLogFclr_ok {s : State} {p : Port} {row : ObjRow} (ha : answering s = true) (hc : checkWrite s p 0x2A20 0x04 = .ok row)
    (v : Nat) : exec (.logFclr p v) s = .next (setAck (logFclrOp v s).2 (logFclrOp v s).1) :=
  congrArg Host.Outcome.next (directWrite_ok (by decide) ha hc (logFclrOp v))

theorem execLogFclr_clears {s : State} {p : Port} {row : ObjRow} (ha : answering s = true) (hc : checkWrite s p 0x2A20 0x04 = .ok row)
    (hp : s.log.since.any (persists s) = false) :
    exec (.logFclr p 1) s = .next (setAck .done (runItems (pgRefreshAll (safeRefresh (latchesCleared s))))) := by
  rw [execLogFclr_ok ha hc, logFclrOp_clears hp]

/-- With no item waiting none is switched on. -/
theorem runItems_idle {s : State} (h : ∀ i : Fin 46, s.items[i].phase ≠ .waiting) : runItems s = s := by
  unfold runItems
  induction allFin 46 with
  | nil => rfl
  | cons i l ih =>
    rw [List.foldl_cons, if_neg (by rw [decide_eq_false (h i), Bool.false_and]; decide)]
    exact ih

theorem execLogFclr_spec {s : State} {p : Port} {row : ObjRow} (ha : answering s = true) (hc : checkWrite s p 0x2A20 0x04 = .ok row)
    (hp : s.log.since.any (persists s) = false) (hi : ∀ i : Fin 46, s.items[i].phase ≠ .waiting) : ∃ t,
      exec (.logFclr p 1) s = .next t ∧ t.ack = .done ∧ t.faultLine = false ∧
      t.log = { s.log with aDies := 0, bLatched := false, aCode := 0, bCode := 0, since := [], refused := false } ∧
      t.fab = .init ∧ t = { s with
        links := t.links, rails := t.rails, log := t.log, faultLine := t.faultLine, safeN := t.safeN, fab := t.fab, evc := t.evc
        tw := t.tw, ack := t.ack } := by
  have hexec := execLogFclr_clears ha hc hp
  have hsafe := safeRefresh_rest (F := [.safeN]) (by decide) (latchesCleared s)
  have hpg := pgRefreshAll_rest (F := [.links, .rails, .evc, .tw]) (by decide) (by decide) (by decide) (by decide) (safeRefresh (latchesCleared s))
  have hclear : rest [.log, .faultLine, .fab] (latchesCleared s) = rest [.log, .faultLine, .fab] s := rfl
  have hlog : (latchesCleared s).log = { s.log with aDies := 0, bLatched := false, aCode := 0, bCode := 0, since := [], refused := false } := rfl
  have hfab : (latchesCleared s).fab = .init := rfl
  have hline : (latchesCleared s).faultLine = false := rfl
  obtain ⟨c, hcl⟩ : ∃ c, c = latchesCleared s := ⟨_, rfl⟩
  rw [← hcl] at hexec hsafe hpg hclear hlog hfab hline
  obtain ⟨u, hu⟩ : ∃ u, u = pgRefreshAll (safeRefresh c) := ⟨_, rfl⟩
  rw [← hu] at hexec hpg
  have hrest : rest [.links, .rails, .safeN, .evc, .tw] u = rest [.links, .rails, .safeN, .evc, .tw] c :=
    (rest_mono (by decide) hpg).trans (rest_mono (by decide) hsafe)
  have hall : rest [.links, .rails, .log, .faultLine, .safeN, .fab, .evc, .tw, .ack] u =
      rest [.links, .rails, .log, .faultLine, .safeN, .fab, .evc, .tw, .ack] s :=
    (rest_mono (by decide) hrest).trans (rest_mono (by decide) hclear)
  rw [runItems_idle (by rw [rest_items hall (by decide)]; exact hi)] at hexec
  exact ⟨setAck .done u, hexec, rfl, (rest_faultLine hrest (by decide)).trans hline, (rest_log hrest (by decide)).trans hlog,
    (rest_fab hrest (by decide)).trans hfab, rest_patch (F := [.links, .rails, .log, .faultLine, .safeN, .fab, .evc, .tw, .ack])
      ((rest_with_ack (by decide) u _).trans hall)⟩

/-- Settles O38: each command answers by the branches of its meaning, an entry through the ring and the latches, the clear through what it
leaves standing. -/
theorem engineWatchdogAndLogbook : Obligations.EngineWatchdogAndLogbook := by
  unfold Obligations.EngineWatchdogAndLogbook
  refine fun s => ⟨fun _ h => ⟨execEngineService_absent h, execEngineWatchdogExpire_absent h⟩, fun _ => execEngineService_idle,
    fun _ => execEngineService_serves, fun _ => execEngineWatchdogExpire_idle, fun _ => execEngineWatchdogExpire_spec, rfl,
    fun c _ i x h => execLogbookEntry_absent h c i x, fun c _ i x h hs => execLogbookEntry_stopped h hs c i x,
    fun _ _ i x h hs hc => execLogbookEntry_a h hs hc i x, fun _ _ i x h hs hc hr hf => execLogbookEntry_held h hs hc hr hf i x,
    fun _ _ i x h hs hc hr => execLogbookEntry_spec h hs hc hr i x, fun p row ha hc => ⟨fun v hv => ?_, fun hp => ?_, fun hp => ?_,
      execLogFclr_spec ha hc⟩⟩
  · rw [execLogFclr_ok ha hc, logFclrOp_other hv]
    rfl
  · rw [execLogFclr_ok ha hc, logFclrOp_refused hp]
    rfl
  · exact ⟨_, execLogFclr_clears ha hc hp, rfl, rfl⟩

end Sys2Proof.Proofs

namespace Sys2Proof.Proofs

open Sys2Proof.Machine Sys2Proof.Laws

/-! ### Firmware update (R529 to R541) -/

/-! The moves of the update path. -/

theorem updTo_update (ph : UpdPhase) (s : State) : (updTo ph s).update = { s.update with phase := ph } := by
  by_cases h : s.update.phase = ph
  · rw [show updTo ph s = s from if_pos h, ← h]
  · rw [show updTo ph s = eventEdge 35 (modUpd (fun u => { u with phase := ph }) s) from if_neg h,
      rest_update (eventEdge_rest (F := [.evc, .tw]) (by decide) (by decide) 35 _) (by decide)]
    rfl

theorem updTo_rest_update (ph : UpdPhase) (s : State) : rest [.evc, .tw, .update] (updTo ph s) = rest [.evc, .tw, .update] s :=
  updTo_rest (by decide) (by decide) (by decide) ph s

theorem otherSlot_ne (k : Fin 2) : k ≠ otherSlot k := by revert k; decide

/-- What ends an unfinished update (R536). -/
abbrev stopFields : List Fld := [.evc, .tw, .can, .update]

theorem updStop_rest_stop (s : State) : rest stopFields (updStop s) = rest stopFields s :=
  updStop_rest (by decide) (by decide) (by decide) (by decide) s

theorem imageAcksEnd_update (s : State) : (imageAcksEnd s).update = s.update :=
  rest_update (imageAcksEnd_rest (F := [.can]) (by decide) s) (by decide)

/-- The update path once an update has been stopped. -/
def updStopped (u : UpdState) : UpdState := { u with phase := .idle, header := [], got := [], written := 0 }

theorem updRuns_iff (u : UpdPhase) : updRuns u = true ↔ u = .wiping ∨ u = .receiving := by
  cases u <;> decide

theorem updStop_idle {s : State} (h : updRuns s.update.phase = false) : updStop s = s := by
  unfold updStop
  split
  · next hp => rw [hp] at h; exact absurd h (by decide)
  · next hp => rw [hp] at h; exact absurd h (by decide)
  · rfl

theorem updStop_runs {s : State} (h : updRuns s.update.phase = true) : (updStop s).update = updStopped s.update := by
  have hstop : (eventEdge 35 (imageAcksEnd { s with update := updStopped s.update })).update = updStopped s.update := by
    rw [rest_update (eventEdge_rest (F := [.evc, .tw]) (by decide) (by decide) 35 _) (by decide), imageAcksEnd_update]
  unfold updStop
  split
  · exact hstop
  · exact hstop
  · next hw hr => exact absurd ((updRuns_iff _).mp h) (not_or.mpr ⟨hw, hr⟩)

theorem updStop_sel (s : State) : (updStop s).update.sel = s.update.sel := by
  cases h : updRuns s.update.phase
  · rw [updStop_idle h]
  · rw [updStop_runs h]; rfl

/-! The header (R530, R533). -/

theorem headerOp_length {p : Port} {h : List Byte} (hl : h.length ≠ 256 ∨ (twOf p).isSome = true) (s : State) :
    headerOp p h s = (s, .abort .length) :=
  if_pos (by simpa using hl)

theorem headerOp_state {p : Port} {h : List Byte} {s : State} (hl : h.length = 256) (hp : twOf p = none)
    (hs : s.update.phase ∈ [.trial, .activating] ∨ (updRuns s.update.phase = true ∧ s.update.port ≠ p)) :
    headerOp p h s = (s, .abort .state) := by
  unfold headerOp
  rw [if_neg (by rw [hl, hp]; decide)]
  rcases hs with hs | ⟨hr, hne⟩
  · exact if_pos (by simpa using hs)
  · by_cases ht : (s.update.phase = .trial || s.update.phase = .activating) = true
    · exact if_pos ht
    · rw [if_neg ht, if_pos (by rw [hr, decide_eq_true hne]; rfl)]

/-- The port may send a header now (R536, R541). -/
def headerOpen (p : Port) (s : State) : Prop :=
  s.update.phase ∈ [.idle, .staged] ∨ updRuns s.update.phase = true ∧ s.update.port = p

theorem headerOpen_free {p : Port} {s : State} (hs : headerOpen p s) :
    (decide (s.update.phase = .trial) || decide (s.update.phase = .activating)) = false ∧
    (updRuns s.update.phase && decide (s.update.port ≠ p)) = false := by
  rcases hs with hs | ⟨hr, hs⟩
  · simp only [List.mem_cons, List.not_mem_nil, or_false] at hs
    rcases hs with hs | hs <;> rw [hs] <;> exact ⟨rfl, rfl⟩
  · rcases (updRuns_iff _).mp hr with hr | hr <;> rw [hr, hs] <;> simp

/-- The checks of R530 read nothing that the end of an update writes. -/
theorem imageRefusal_updStop (s : State) (h : List Byte) : imageRefusal (updStop s) h = imageRefusal s h := by
  have hrest := updStop_rest_stop s
  have hmram := rest_mram hrest (by decide)
  have hunit : imgUnitOk (updStop s) h = imgUnitOk s h := by unfold imgUnitOk; rw [hmram]
  have htype : imgTypeOk (updStop s) h = imgTypeOk s h := by unfold imgTypeOk; rw [rest_part hrest (by decide)]
  have hver : imgSecVersionOk (updStop s) h = imgSecVersionOk s h := by
    obtain ⟨t, ht⟩ : ∃ t, t = updStop s := ⟨_, rfl⟩
    have hsel := updStop_sel s
    rw [← ht] at hmram hsel ⊢
    unfold imgSecVersionOk
    rw [hmram]
    simp only [hsel]
  unfold imageRefusal
  rw [hunit, htype, hver, rest_nv hrest (by decide)]

theorem headerOp_refused {p : Port} {h : List Byte} {s : State} {n : Fin 9} (hl : h.length = 256) (hp : twOf p = none)
    (hs : headerOpen p s) (hi : imageRefusal s h = some n) : headerOp p h s =
      (logFault .imageRefused 0 p (AbortCode.image n).num (updRefuse n (updStop s)), .abort (.image n)) := by
  obtain ⟨hbusy, hport⟩ := headerOpen_free hs
  unfold headerOp
  rw [if_neg (by rw [hl, hp]; decide), if_neg (by rw [hbusy]; decide), if_neg (by rw [hport]; decide)]
  dsimp only
  rw [imageRefusal_updStop, hi]

theorem headerOp_accepted {p : Port} {h : List Byte} {s : State} (hl : h.length = 256) (hp : twOf p = none)
    (hs : headerOpen p s) (hi : imageRefusal s h = none) : headerOp p h s = (acceptHeader p h (updStop s), .done) := by
  obtain ⟨hbusy, hport⟩ := headerOpen_free hs
  unfold headerOp
  rw [if_neg (by rw [hl, hp]; decide), if_neg (by rw [hbusy]; decide), if_neg (by rw [hport]; decide)]
  dsimp only
  rw [imageRefusal_updStop, hi]

/-- A header refused ends the port's own update, keeps what is STAGED and changes no bank (R530, R536). -/
theorem headerOp_refused_spec {p : Port} {h : List Byte} {s : State} {n : Fin 9} (hl : h.length = 256) (hp : twOf p = none)
    (hs : headerOpen p s) (hi : imageRefusal s h = some n) : ∃ u, headerOp p h s = (u, .abort (.image n)) ∧
      u.update.refuse = n.val + 1 ∧ u.update.phase = (if s.update.phase = .staged then .staged else .idle) ∧
      rest [.nv, .log, .evc, .tw, .can, .update] u = rest [.nv, .log, .evc, .tw, .can, .update] s := by
  have hphase : (updStop s).update.phase = if s.update.phase = .staged then .staged else .idle := by
    rcases hs with hs | ⟨hr, -⟩
    · simp only [List.mem_cons, List.not_mem_nil, or_false] at hs
      rcases hs with hs | hs <;> rw [updStop_idle (by rw [hs]; rfl), hs] <;> rfl
    · rw [updStop_runs hr]
      rcases (updRuns_iff _).mp hr with hr | hr <;> rw [hr] <;> rfl
  have hstop := updStop_rest_stop s
  have hop := headerOp_refused hl hp hs hi
  obtain ⟨t, ht⟩ : ∃ t, t = updStop s := ⟨_, rfl⟩
  rw [← ht] at hphase hstop hop
  have hlog := logFault_rest (F := [.nv, .log, .evc, .tw]) (by decide) (by decide) (by decide) (by decide) .imageRefused 0 p
    (AbortCode.image n).num (updRefuse n t)
  have hupd := rest_update hlog (by decide)
  refine ⟨_, hop, congrArg UpdState.refuse hupd, (congrArg UpdState.phase hupd).trans hphase, ?_⟩
  exact (rest_mono (by decide) hlog).trans ((rest_with_update (by decide) t _).trans (rest_mono (by decide) hstop))

/-- The update path under a header accepted (R533). -/
def headerTaken (p : Port) (h : List Byte) (u : UpdState) : UpdState :=
  { u with header := h, port := p, got := [], written := 0, rxBlocks := 0, verified := true }

/-- A header accepted wipes the bank that does not run (R448, R533). -/
theorem acceptHeader_spec (p : Port) (h : List Byte) (s : State) :
    (acceptHeader p h s).update = { headerTaken p h s.update with phase := .wiping } ∧
    (acceptHeader p h s).mram.banks = vmod s.mram.banks (targetBank s) (fun _ => ⟨.writing, [], []⟩) ∧
    (acceptHeader p h s).ewd.wipeSusp = true ∧
    rest [.mram, .ewd, .evc, .tw, .update] (acceptHeader p h s) = rest [.mram, .ewd, .evc, .tw, .update] s := by
  have hrest := acceptHeader_rest (F := [.mram, .ewd, .evc, .tw, .update]) (by decide) (by decide) (by decide) (by decide) (by decide) p h s
  refine ⟨?_, ?_, ?_, hrest⟩
  · unfold acceptHeader
    rw [updTo_update]
    rfl
  · unfold acceptHeader
    rw [rest_mram (updTo_rest_update _ _) (by decide)]
    rfl
  · unfold acceptHeader
    rw [rest_ewd (updTo_rest_update _ _) (by decide)]

theorem headerOp_accepted_spec {p : Port} {h : List Byte} {s : State} (hl : h.length = 256) (hp : twOf p = none)
    (hs : headerOpen p s) (hi : imageRefusal s h = none) : ∃ u, headerOp p h s = (u, .done) ∧ u.update.phase = .wiping ∧
      u.update.header = h ∧ u.update.port = p ∧ u.mram.banks[targetBank s].phase = .writing ∧ u.mram.banks[targetBank s].payload = [] ∧
      u.mram.banks[s.update.sel] = s.mram.banks[s.update.sel] ∧ u.ewd.wipeSusp = true ∧
      rest [.mram, .ewd, .evc, .tw, .can, .update] u = rest [.mram, .ewd, .evc, .tw, .can, .update] s := by
  have hop := headerOp_accepted hl hp hs hi
  have hstop := updStop_rest_stop s
  have htarget : targetBank (updStop s) = targetBank s := congrArg otherSlot (updStop_sel s)
  obtain ⟨t, ht⟩ : ∃ t, t = updStop s := ⟨_, rfl⟩
  rw [← ht] at hop hstop htarget
  obtain ⟨hupd, hbanks, hewd, hrest⟩ := acceptHeader_spec p h t
  obtain ⟨u, hu⟩ : ∃ u, u = acceptHeader p h t := ⟨_, rfl⟩
  rw [← hu] at hop hupd hbanks hewd hrest
  rw [htarget, rest_mram hstop (by decide)] at hbanks
  refine ⟨u, hop, by rw [hupd], by rw [hupd]; rfl, by rw [hupd]; rfl, ?_, ?_, ?_, hewd,
    (rest_mono (by decide) hrest).trans (rest_mono (by decide) hstop)⟩
  · rw [hbanks]; exact congrArg Bank.phase (vmod_get _ _ _)
  · rw [hbanks]; exact congrArg Bank.payload (vmod_get _ _ _)
  · rw [hbanks]; exact vmod_get_ne (otherSlot_ne _) _ _

/-- An accepted write of `UPD_HEADER` goes to the header's checks (R515, R530). -/
theorem execUpdateHeaderCheck_ok {s : State} {p : Port} {row : ObjRow} (ha : answering s = true)
    (hc : checkWrite s p 0x2E00 0x01 = .ok row) (h : List Byte) :
    exec (.updateHeaderCheck p h) s = .next (setAck (headerOp p h s).2 (headerOp p h s).1) :=
  congrArg Host.Outcome.next (directWrite_ok (by decide) ha hc (headerOp p h))

theorem execUpdateHeaderCheck_spec {s : State} {p : Port} {row : ObjRow} (ha : answering s = true)
    (hc : checkWrite s p 0x2E00 0x01 = .ok row) {h : List Byte} (hl : h.length = 256) (hp : twOf p = none) (hs : headerOpen p s) : ∃ t,
      exec (.updateHeaderCheck p h) s = .next t ∧
      (∀ n, imageRefusal s h = some n → t.ack = .abort (.image n) ∧ t.update.refuse = n.val + 1 ∧
        t.update.phase = (if s.update.phase = .staged then .staged else .idle) ∧ t.mram = s.mram ∧
        t = { s with nv := t.nv, log := t.log, evc := t.evc, tw := t.tw, can := t.can, update := t.update, ack := t.ack }) ∧
      (imageRefusal s h = none → t.ack = .done ∧ t.update.phase = .wiping ∧ t.update.header = h ∧
        t.update.port = p ∧ t.mram.banks[targetBank s].phase = .writing ∧ t.mram.banks[targetBank s].payload = [] ∧
        t.mram.banks[s.update.sel] = s.mram.banks[s.update.sel] ∧ t.ewd.wipeSusp = true ∧
        t = { s with mram := t.mram, ewd := t.ewd, evc := t.evc, tw := t.tw, can := t.can, update := t.update, ack := t.ack }) := by
  have hexec := execUpdateHeaderCheck_ok ha hc h
  cases hi : imageRefusal s h with
  | some n =>
    obtain ⟨u, hu, hrefuse, hphase, hrest⟩ := headerOp_refused_spec hl hp hs hi
    have hmram := rest_mram hrest (by decide)
    rw [hu] at hexec
    refine ⟨_, hexec, fun m hm => ?_, fun hm => nomatch hm⟩
    obtain rfl : n = m := Option.some.inj hm
    exact ⟨rfl, hrefuse, hphase, hmram, rest_patch (F := [.nv, .log, .evc, .tw, .can, .update, .ack])
      ((rest_with_ack (by decide) u _).trans (rest_mono (by decide) hrest))⟩
  | none =>
    obtain ⟨u, hu, hphase, hheader, hport, hwriting, hpayload, hsel, hewd, hrest⟩ := headerOp_accepted_spec hl hp hs hi
    rw [hu] at hexec
    exact ⟨_, hexec, fun m hm => (nomatch hm), fun _ => ⟨rfl, hphase, hheader, hport, hwriting, hpayload, hsel, hewd,
      rest_patch (F := [.mram, .ewd, .evc, .tw, .can, .update, .ack]) ((rest_with_ack (by decide) u _).trans (rest_mono (by decide) hrest))⟩⟩

/-! The wipe and the blocks (R368, R448, R533, R534). -/

theorem execBankWipeDone_other {s : State} (h : s.update.phase ≠ .wiping) : exec .bankWipeDone s = exec .engineSuspensionEnd s :=
  congrArg Host.Outcome.next (if_pos h)

theorem execBankWipeDone_waits {s : State} (h : s.update.phase = .wiping) (hw : bankWaits s = true) : exec .bankWipeDone s = .next s := by
  show execBankWipeDone s = _
  rw [execBankWipeDone, h, hw]; rfl

theorem endWipeSuspension_spec (s : State) : (endWipeSuspension s).ewd.wipeSusp = false ∧
    rest [.ewd] (endWipeSuspension s) = rest [.ewd] s := by
  unfold endWipeSuspension
  split
  · exact ⟨rfl, rest_with_ewd (by decide) _ _⟩
  · next h => exact ⟨Bool.eq_false_iff.mpr h, rfl⟩

theorem execBankWipeDone_ends {s : State} (h : s.update.phase = .wiping) (hw : bankWaits s = false) : ∃ t,
    exec .bankWipeDone s = .next t ∧ t.update = { s.update with phase := .receiving } ∧
    t.ewd.wipeSusp = false ∧ t = { s with ewd := t.ewd, evc := t.evc, tw := t.tw, update := t.update } := by
  have hexec : exec .bankWipeDone s = .next (updTo .receiving (endWipeSuspension s)) := by
    show execBankWipeDone s = _
    rw [execBankWipeDone, h, hw]; rfl
  obtain ⟨hsusp, hend⟩ := endWipeSuspension_spec s
  obtain ⟨u, hu⟩ : ∃ u, u = endWipeSuspension s := ⟨_, rfl⟩
  rw [← hu] at hexec hsusp hend
  have hupd := updTo_update .receiving u
  have hrest := updTo_rest_update .receiving u
  obtain ⟨t, ht⟩ : ∃ t, t = updTo .receiving u := ⟨_, rfl⟩
  rw [← ht] at hexec hupd hrest
  refine ⟨t, hexec, by rw [hupd, rest_update hend (by decide)], by rw [rest_ewd hrest (by decide), hsusp],
    rest_patch (F := [.ewd, .evc, .tw, .update]) ((rest_mono (by decide) hrest).trans (rest_mono (by decide) hend))⟩

theorem execBankBlockWrite_none {s : State}
    (h : s.update.phase ≠ .receiving ∨ s.update.got.length ≤ s.update.written ∨ bankWaits s = true) : exec .bankBlockWrite s = .next s :=
  if_pos h

/-- A block goes to the bank and is counted (R534). -/
def blockTaken (blk : List Byte) (u : UpdState) : UpdState := { u with written := u.written + blk.length, rxBlocks := u.rxBlocks + 1 }

/-- The next buffer of an image, 4 KiB or what is left (R534). -/
def nextBlock (s : State) : List Byte := (s.update.got.drop s.update.written).take 4096

/-- The bank and the update path after the next buffer (R534). -/
def blockWritten (s : State) : State :=
  modBank (targetBank s) (fun b => { b with payload := b.payload ++ nextBlock s }) (modUpd (blockTaken (nextBlock s)) s)

theorem execBankBlockWrite_writes {s : State} (hp : s.update.phase = .receiving) (hg : s.update.written < s.update.got.length)
    (hw : bankWaits s = false) : ∃ t, exec .bankBlockWrite s = .next t ∧ rest [.can] t = rest [.can] (blockWritten s) := by
  have hc : ¬(s.update.phase ≠ .receiving ∨ s.update.got.length ≤ s.update.written ∨ bankWaits s = true) := by
    rw [hp, hw, not_or, not_or]
    exact ⟨not_not_intro rfl, Nat.not_le.mpr hg, by decide⟩
  show ∃ t, execBankBlockWrite s = .next t ∧ _
  unfold execBankBlockWrite
  dsimp only
  rw [if_neg hc]
  cases updCan s with
  | none => exact ⟨_, rfl, rfl⟩
  | some n =>
    refine ⟨_, rfl, ?_⟩
    split
    · rfl
    · exact answerBlock_rest (by decide) n .done _

theorem execBankBlockWrite_spec {s : State} (hp : s.update.phase = .receiving) (hg : s.update.written < s.update.got.length)
    (hw : bankWaits s = false) : ∃ t, exec .bankBlockWrite s = .next t ∧
      t.mram.banks[targetBank s].payload = s.mram.banks[targetBank s].payload ++ (s.update.got.drop s.update.written).take 4096 ∧
      t.mram.banks[s.update.sel] = s.mram.banks[s.update.sel] ∧
      t.update = { s.update with
        written := s.update.written + ((s.update.got.drop s.update.written).take 4096).length
        rxBlocks := s.update.rxBlocks + 1 } ∧ t = { s with mram := t.mram, update := t.update, can := t.can } := by
  obtain ⟨t, hexec, hrest⟩ := execBankBlockWrite_writes hp hg hw
  have hmram := rest_mram hrest (by decide)
  have hwritten : rest [.mram, .update, .can] (blockWritten s) = rest [.mram, .update, .can] s := rfl
  refine ⟨t, hexec, ?_, ?_, rest_update hrest (by decide), rest_patch (F := [.mram, .update, .can])
    ((rest_mono (by decide) hrest).trans hwritten)⟩
  · rw [hmram]; exact congrArg Bank.payload (vmod_get _ _ _)
  · rw [hmram]; exact vmod_get_ne (otherSlot_ne _) _ _

/-! Verification (R535). -/

theorem execUpdateVerify_none {s : State} (h : s.update.phase ≠ .receiving ∨ s.update.written ≠ payloadSize s.update.header) :
    exec .updateVerify s = .next s :=
  if_pos h

/-- The bank that passes, its rail section in every standby store, and the bank that fails (R535). -/
def verifiedBank (s : State) : State :=
  updTo .staged (modBank (targetBank s) (fun b => { b with phase := .staged, header := s.update.header })
    (loadStandby (s.mram.banks[targetBank s].payload.drop (helmSize s.update.header)) s))
def failedBank (s : State) : State :=
  updRefuse 8 (updTo .idle (modBank (targetBank s) (fun b => { b with phase := .failed }) s))

theorem execUpdateVerify_acts {s : State} (hp : s.update.phase = .receiving) (hw : s.update.written = payloadSize s.update.header) :
    ∃ t, exec .updateVerify s = .next t ∧ rest [.can] t = rest [.can]
      (if digestsMatch s.update.header s.mram.banks[targetBank s].payload = true then verifiedBank s else failedBank s) := by
  have hc : ¬(s.update.phase ≠ .receiving ∨ s.update.written ≠ payloadSize s.update.header) := by
    rw [not_or]
    exact ⟨not_not_intro hp, not_not_intro hw⟩
  show ∃ t, execUpdateVerify s = .next t ∧ _
  unfold execUpdateVerify
  dsimp only
  rw [if_neg hc]
  cases updCan s with
  | none => exact ⟨_, rfl, rfl⟩
  | some n => exact ⟨_, rfl, answerBlock_rest (by decide) n _ _⟩

theorem loadStandby_die (section_ : List Byte) (s : State) (k : Fin 7) : (loadStandby section_ s).dies[k] =
    if diePresent s k = true then { s.dies[k] with standby := section_ } else s.dies[k] := by
  simp [loadStandby]

/-- A bank that passes or fails keeps its payload. -/
def bankStaged (h : List Byte) (b : Bank) : Bank := { b with phase := .staged, header := h }
def bankFailed (b : Bank) : Bank := { b with phase := .failed }

theorem verifiedBank_spec (s : State) : (verifiedBank s).update.phase = .staged ∧
    (verifiedBank s).mram.banks = vmod s.mram.banks (targetBank s) (bankStaged s.update.header) ∧
    (verifiedBank s).dies = (loadStandby (s.mram.banks[targetBank s].payload.drop (helmSize s.update.header)) s).dies ∧
    rest [.mram, .dies, .update, .evc, .tw] (verifiedBank s) = rest [.mram, .dies, .update, .evc, .tw] s := by
  have hmove := updTo_rest_update .staged (modBank (targetBank s) (bankStaged s.update.header)
    (loadStandby (s.mram.banks[targetBank s].payload.drop (helmSize s.update.header)) s))
  have hphase := congrArg UpdState.phase (updTo_update .staged (modBank (targetBank s) (bankStaged s.update.header)
    (loadStandby (s.mram.banks[targetBank s].payload.drop (helmSize s.update.header)) s)))
  have hdies := rest_dies hmove (by decide)
  exact ⟨hphase, congrArg (fun m : Mram => m.banks) (rest_mram hmove (by decide)), hdies,
    (rest_mono (by decide) hmove).trans rfl⟩

theorem failedBank_spec (s : State) : (failedBank s).update.phase = .idle ∧ (failedBank s).update.refuse = 9 ∧
    (failedBank s).mram.banks = vmod s.mram.banks (targetBank s) bankFailed ∧
    rest [.mram, .update, .evc, .tw] (failedBank s) = rest [.mram, .update, .evc, .tw] s := by
  have hmove := updTo_rest_update .idle (modBank (targetBank s) bankFailed s)
  have hphase := congrArg UpdState.phase (updTo_update .idle (modBank (targetBank s) bankFailed s))
  exact ⟨hphase, rfl, congrArg (fun m : Mram => m.banks) (rest_mram hmove (by decide)),
    (rest_with_update (by decide) _ _).trans ((rest_mono (by decide) hmove).trans rfl)⟩

theorem execUpdateVerify_spec {s : State} (hp : s.update.phase = .receiving) (hw : s.update.written = payloadSize s.update.header) : ∃ t,
    exec .updateVerify s = .next t ∧
      (digestsMatch s.update.header s.mram.banks[targetBank s].payload = true → t.update.phase = .staged ∧
        t.mram.banks[targetBank s].phase = .staged ∧ t.mram.banks[targetBank s].header = s.update.header ∧
        ∀ k : Fin 7, t.dies[k] = if diePresent s k = true then { s.dies[k] with
          standby := s.mram.banks[targetBank s].payload.drop (helmSize s.update.header) } else s.dies[k]) ∧
      (digestsMatch s.update.header s.mram.banks[targetBank s].payload = false → t.update.phase = .idle ∧
        t.mram.banks[targetBank s].phase = .failed ∧ t.update.refuse = 9 ∧ t.dies = s.dies) ∧
      t.mram.banks[targetBank s].payload = s.mram.banks[targetBank s].payload ∧
      t.mram.banks[s.update.sel] = s.mram.banks[s.update.sel] ∧ t = { s with mram := t.mram, dies := t.dies, update := t.update, evc := t.evc, tw := t.tw, can := t.can } := by
  obtain ⟨t, hexec, hcan⟩ := execUpdateVerify_acts hp hw
  cases hd : digestsMatch s.update.header s.mram.banks[targetBank s].payload
  · rw [hd, if_neg (by decide)] at hcan
    obtain ⟨hphase, hrefuse, hbanks, hrest⟩ := failedBank_spec s
    obtain ⟨v, hv⟩ : ∃ v, v = failedBank s := ⟨_, rfl⟩
    rw [← hv] at hcan hphase hrefuse hbanks hrest
    have hupd := rest_update hcan (by decide)
    have hmram := (congrArg (fun m : Mram => m.banks) (rest_mram hcan (by decide))).trans hbanks
    refine ⟨t, hexec, fun e => (nomatch e), fun _ => ⟨by rw [hupd, hphase], ?_, by rw [hupd, hrefuse],
      (rest_dies hcan (by decide)).trans (rest_dies hrest (by decide))⟩, ?_, ?_,
      rest_patch (F := [.mram, .dies, .update, .evc, .tw, .can]) ((rest_mono (by decide) hcan).trans (rest_mono (by decide) hrest))⟩
    · rw [hmram]; exact congrArg Bank.phase (vmod_get _ _ _)
    · rw [hmram]; exact vmod_get_keeps Bank.payload (f := bankFailed) (fun _ => rfl) _ _ _
    · rw [hmram]; exact vmod_get_ne (otherSlot_ne _) _ _
  · rw [hd, if_pos rfl] at hcan
    obtain ⟨hphase, hbanks, hdies, hrest⟩ := verifiedBank_spec s
    obtain ⟨v, hv⟩ : ∃ v, v = verifiedBank s := ⟨_, rfl⟩
    rw [← hv] at hcan hphase hbanks hdies hrest
    have hupd := rest_update hcan (by decide)
    have hmram := (congrArg (fun m : Mram => m.banks) (rest_mram hcan (by decide))).trans hbanks
    refine ⟨t, hexec, fun _ => ⟨by rw [hupd, hphase], ?_, ?_, fun k => ?_⟩, fun e => (nomatch e), ?_, ?_,
      rest_patch (F := [.mram, .dies, .update, .evc, .tw, .can]) ((rest_mono (by decide) hcan).trans (rest_mono (by decide) hrest))⟩
    · rw [hmram]; exact congrArg Bank.phase (vmod_get _ _ _)
    · rw [hmram]; exact congrArg Bank.header (vmod_get _ _ _)
    · rw [rest_dies hcan (by decide), hdies, loadStandby_die]
    · rw [hmram]; exact vmod_get_keeps Bank.payload (f := bankStaged _) (fun _ => rfl) _ _ _
    · rw [hmram]; exact vmod_get_ne (otherSlot_ne _) _ _

/-! Activation, trial and abandon (R537 to R541). -/

theorem execUpdCmd_ok {s : State} {p : Port} {row : ObjRow} (ha : answering s = true) (hc : checkWrite s p 0x2E00 0x03 = .ok row)
    (v : Nat) : directWrite p (okey 0x2E00 0x03) s (updCmdOp v) = setAck (updCmdOp v s).2 (updCmdOp v s).1 :=
  directWrite_ok (by decide) ha hc (updCmdOp v)

theorem updCmdOp_activate (s : State) : updCmdOp 0xAC71 s = activateOp s := rfl
theorem updCmdOp_confirm (s : State) : updCmdOp 0xC0F1 s = confirmOp s := rfl
theorem updCmdOp_abandon (s : State) : updCmdOp 0xAB07 s = abandonOp s := rfl

/-- The windows show no bank of the MRAM. -/
theorem windowOf_modBank (k : Fin 2) (f : Bank → Bank) (s : State) (n : Fin 2) : windowOf (modBank k f s) n = windowOf s n := by
  have hreg : ∀ g, regValue (modBank k f s) n g = regValue s n g := fun g => by cases g <;> rfl
  unfold windowOf
  simp only [hreg]
  rfl

/-- What every step of a fold keeps, the fold keeps. -/
theorem foldl_keeps {α β : Type} (g : State → β) {f : State → α → State} (hf : ∀ a x, g (f a x) = g a) (l : List α) (s : State) :
    g (l.foldl f s) = g s := by
  induction l generalizing s with
  | nil => rfl
  | cons x l ih => rw [List.foldl_cons, ih, hf]

theorem evRefresh_frozen (s : State) (n : Fin 2) : (evRefresh s).tw[n].frozen = s.tw[n].frozen := by
  unfold evRefresh
  split
  · rfl
  · refine foldl_keeps (fun a => a.tw[n].frozen) (fun a h => ?_) _ _
    dsimp only
    split
    · rfl
    · refine vmod_get_keeps TwPort.frozen ?_ _ _ _
      exact fun _ => rfl

/-- An edge of an event source leaves what the windows were frozen at. -/
theorem eventEdge_frozen (slot : Nat) (s : State) (n : Fin 2) : (eventEdge slot s).tw[n].frozen = s.tw[n].frozen := by
  unfold eventEdge
  split
  · rfl
  · split
    · rfl
    · split
      · rfl
      · exact evRefresh_frozen _ _

theorem updTo_frozen (ph : UpdPhase) (s : State) (n : Fin 2) : (updTo ph s).tw[n].frozen = s.tw[n].frozen := by
  unfold updTo
  split
  · rfl
  · exact eventEdge_frozen _ _ _

theorem freezeWindows_frozen (s : State) (n : Fin 2) : (freezeWindows s).tw[n].frozen = windowOf s n := by
  simp [freezeWindows]

/-- The banks of an activation (R538). -/
def bankTrial (b : Bank) : Bank := { b with phase := .trial }
def bankPrevious (b : Bank) : Bank := { b with phase := .previous }
def bankActive (b : Bank) : Bank := { b with phase := .active }

/-- The two banks change places and the windows are held (R467, R538). -/
def activated (s : State) : State :=
  freezeWindows (modBank (targetBank s) bankTrial (modBank s.update.sel bankPrevious s))

theorem activateOp_refused {s : State} (h : activateAllowed s = false) : activateOp s = (s, .abort .state) := by
  rw [activateOp, h]; rfl

theorem activateOp_allowed {s : State} (h : activateAllowed s = true) :
    activateOp s = (updTo .activating (modUpd (fun u => { u with pause := true }) (activated s)), .done) := by
  rw [activateOp, h]; rfl

theorem activated_spec (s : State) : (activated s).mram.banks[targetBank s].phase = .trial ∧
    (activated s).mram.banks[s.update.sel].phase = .previous ∧ (∀ n : Fin 2, (activated s).tw[n].frozen = windowOf s n) ∧
    rest [.mram, .tw] (activated s) = rest [.mram, .tw] s := by
  refine ⟨?_, ?_, fun n => ?_, ?_⟩
  · exact congrArg Bank.phase (vmod_get _ _ _)
  · exact congrArg Bank.phase ((vmod_get_ne (otherSlot_ne _) _ _).trans (vmod_get _ _ _))
  · rw [activated, freezeWindows_frozen, windowOf_modBank, windowOf_modBank]
  · exact (freezeWindows_rest (by decide) _).trans rfl

theorem execUpdActivate_allowed {s : State} {p : Port} {row : ObjRow} (ha : answering s = true)
    (hc : checkWrite s p 0x2E00 0x03 = .ok row) (h : activateAllowed s = true) : ∃ t,
      exec (.updActivate p) s = .next t ∧ t.ack = .done ∧ t.update.phase = .activating ∧
        t.update.pause = true ∧ t.mram.banks[targetBank s].phase = .trial ∧ t.mram.banks[s.update.sel].phase = .previous ∧
        (∀ n : Fin 2, t.tw[n].frozen = windowOf s n) ∧ t = { s with mram := t.mram, update := t.update, evc := t.evc, tw := t.tw, ack := t.ack } := by
  have hexec : exec (.updActivate p) s = .next (setAck .done (updTo .activating (modUpd (fun u => { u with pause := true }) (activated s)))) := by
    show Host.Outcome.next (directWrite p (okey 0x2E00 0x03) s (updCmdOp 0xAC71)) = _
    rw [execUpdCmd_ok ha hc, updCmdOp_activate, activateOp_allowed h]
  obtain ⟨htrial, hprev, hfrozen, hact⟩ := activated_spec s
  obtain ⟨u, hu⟩ : ∃ u, u = activated s := ⟨_, rfl⟩
  rw [← hu] at hexec htrial hprev hfrozen hact
  have hupd := updTo_update .activating (modUpd (fun u => { u with pause := true }) u)
  have hrest := updTo_rest_update .activating (modUpd (fun u => { u with pause := true }) u)
  have hfrozen' (n : Fin 2) := (updTo_frozen .activating (modUpd (fun u => { u with pause := true }) u) n).trans (hfrozen n)
  have hall : rest [.mram, .update, .evc, .tw, .ack] (modUpd (fun u => { u with pause := true }) u) = rest [.mram, .update, .evc, .tw, .ack] s :=
    (rest_with_update (by decide) u _).trans (rest_mono (by decide) hact)
  obtain ⟨v, hv⟩ : ∃ v, v = updTo .activating (modUpd (fun u => { u with pause := true }) u) := ⟨_, rfl⟩
  rw [← hv] at hexec hupd hrest hfrozen'
  have hmram : v.mram = u.mram := rest_mram hrest (by decide)
  refine ⟨setAck .done v, hexec, rfl, congrArg UpdState.phase hupd, congrArg UpdState.pause hupd, ?_, ?_, hfrozen',
    rest_patch (F := [.mram, .update, .evc, .tw, .ack]) ((rest_with_ack (by decide) v _).trans ((rest_mono (by decide) hrest).trans hall))⟩
  · exact (congrArg (fun m : Mram => m.banks[targetBank s].phase) hmram).trans htrial
  · exact (congrArg (fun m : Mram => m.banks[s.update.sel].phase) hmram).trans hprev

/-- The trial ends well: its bank is ACTIVE (R541). -/
theorem confirmTrial_spec (s : State) : (confirmTrial s).update = { s.update with phase := .idle, trialLeft := 0 } ∧
    (confirmTrial s).mram = { s.mram with banks := vmod s.mram.banks s.update.sel bankActive } ∧
    rest [.mram, .update, .evc, .tw] (confirmTrial s) = rest [.mram, .update, .evc, .tw] s := by
  have hrest := updTo_rest_update .idle (modUpd (fun u => { u with trialLeft := 0 }) (modBank s.update.sel bankActive s))
  exact ⟨updTo_update .idle (modUpd (fun u => { u with trialLeft := 0 }) (modBank s.update.sel bankActive s)),
    rest_mram hrest (by decide), (rest_mono (by decide) hrest).trans rfl⟩

theorem confirmOp_trial {s : State} (h : s.update.phase = .trial) : confirmOp s = (confirmTrial s, .done) := if_pos h
theorem confirmOp_other {s : State} (h : s.update.phase ≠ .trial) : confirmOp s = (s, .abort .state) := if_neg h

theorem execUpdConfirm_trial {s : State} {p : Port} {row : ObjRow} (ha : answering s = true)
    (hc : checkWrite s p 0x2E00 0x03 = .ok row) (h : s.update.phase = .trial) : ∃ t, exec (.updConfirm p) s = .next t ∧ t.ack = .done ∧
        t.update = { s.update with phase := .idle, trialLeft := 0 } ∧
        t.mram = { s.mram with banks := vmod s.mram.banks s.update.sel fun b => { b with phase := .active } } ∧
        t = { s with mram := t.mram, update := t.update, evc := t.evc, tw := t.tw, ack := t.ack } := by
  have hexec : exec (.updConfirm p) s = .next (setAck .done (confirmTrial s)) := by
    show Host.Outcome.next (directWrite p (okey 0x2E00 0x03) s (updCmdOp 0xC0F1)) = _
    rw [execUpdCmd_ok ha hc, updCmdOp_confirm, confirmOp_trial h]
  obtain ⟨hupd, hmram, hrest⟩ := confirmTrial_spec s
  obtain ⟨u, hu⟩ : ∃ u, u = confirmTrial s := ⟨_, rfl⟩
  rw [← hu] at hexec hupd hmram hrest
  exact ⟨setAck .done u, hexec, rfl, hupd, hmram, rest_patch (F := [.mram, .update, .evc, .tw, .ack])
    ((rest_with_ack (by decide) u _).trans (rest_mono (by decide) hrest))⟩

/-! Abandon (R536, R541). -/

theorem abandonOp_runs {s : State} (h : updRuns s.update.phase = true) : abandonOp s = (updStop s, .done) := by
  unfold abandonOp
  rcases (updRuns_iff _).mp h with h | h <;> rw [h]

theorem abandonOp_staged {s : State} (h : s.update.phase = .staged) : abandonOp s = (updTo .idle s, .done) := by
  unfold abandonOp; rw [h]

theorem abandonOp_trial {s : State} (h : s.update.phase = .trial) : abandonOp s = (startFullReset 4 1 s, .done) := by
  unfold abandonOp; rw [h]

theorem abandonOp_refused {s : State} (h : s.update.phase ∈ [.idle, .activating]) : abandonOp s = (s, .abort .state) := by
  simp only [List.mem_cons, List.not_mem_nil, or_false] at h
  unfold abandonOp
  rcases h with h | h <;> rw [h]

theorem abandonOp_ends {s : State} (h : s.update.phase ∈ [.wiping, .receiving, .staged]) : ∃ u, abandonOp s = (u, .done) ∧
    u.update.phase = .idle ∧ rest stopFields u = rest stopFields s := by
  simp only [List.mem_cons, List.not_mem_nil, or_false] at h
  by_cases hr : updRuns s.update.phase = true
  · exact ⟨_, abandonOp_runs hr, congrArg UpdState.phase (updStop_runs hr), updStop_rest_stop s⟩
  · have hs : s.update.phase = .staged := by
      rcases h with h | h | h
      · exact absurd (by rw [h]; rfl) hr
      · exact absurd (by rw [h]; rfl) hr
      · exact h
    exact ⟨_, abandonOp_staged hs, congrArg UpdState.phase (updTo_update .idle s), rest_mono (by decide) (updTo_rest_update .idle s)⟩

theorem execUpdAbandon_ok {s : State} {p : Port} {row : ObjRow} (ha : answering s = true) (hc : checkWrite s p 0x2E00 0x03 = .ok row) :
    exec (.updAbandon p) s = .next (setAck (abandonOp s).2 (abandonOp s).1) := by
  rw [← updCmdOp_abandon]
  exact congrArg Host.Outcome.next (execUpdCmd_ok ha hc 0xAB07)

theorem execUpdAbandon_ends {s : State} {p : Port} {row : ObjRow} (ha : answering s = true)
    (hc : checkWrite s p 0x2E00 0x03 = .ok row) (h : s.update.phase ∈ [.wiping, .receiving, .staged]) : ∃ t,
      exec (.updAbandon p) s = .next t ∧ t.ack = .done ∧
        t.update.phase = .idle ∧ t = { s with update := t.update, evc := t.evc, tw := t.tw, can := t.can, ack := t.ack } := by
  have hexec := execUpdAbandon_ok ha hc
  obtain ⟨u, hu, hphase, hrest⟩ := abandonOp_ends h
  rw [hu] at hexec
  exact ⟨_, hexec, rfl, hphase, rest_patch (F := [.update, .evc, .tw, .can, .ack])
    ((rest_with_ack (by decide) u _).trans (rest_mono (by decide) hrest))⟩

/-! A full reset ends the update path and leaves the banks (R106, R541). -/

theorem areaFull_banks (s : State) : (areaFull s).mram.banks = s.mram.banks := by
  unfold areaFull
  split
  · split
    · rfl
    · rfl
  · rfl

theorem putCtrRec_banks (r : CtrRec) (s : State) : (putCtrRec r s).mram.banks = s.mram.banks := by
  unfold putCtrRec
  split
  · rfl
  · split
    · rfl
    · rw [areaFull_banks]; rfl

theorem ctrAppend_banks (id : Fin 12) (v : Nat) (s : State) : (ctrAppend id v s).mram.banks = s.mram.banks := by
  rw [ctrAppend, putCtrRec_banks]; rfl

theorem recordMask_banks (s : State) : (recordMask s).mram.banks = s.mram.banks := ctrAppend_banks _ _ _

theorem abandonWrites_banks (s : State) : (abandonWrites s).mram.banks = s.mram.banks :=
  foldl_keeps (fun a => a.mram.banks) (fun a r => putCtrRec_banks r a) _ _

theorem resetStart_update (cause sub : Nat) (s : State) : (resetStart cause sub s).update.phase = .idle ∧
    (resetStart cause sub s).update.pause = false ∧ (resetStart cause sub s).mram.banks = s.mram.banks := by
  obtain ⟨u, hu, -, -, -, hphase, hpause, hmram⟩ := resetStart_eq cause sub s
  have hupd := rest_update (resetRecord_rest cause u) (by decide)
  refine ⟨?_, ?_, ?_⟩
  · rw [hu, hupd, hphase]
  · rw [hu, hupd, hpause]
  · rw [hu, recordMask_banks, ctrAppend_banks, abandonWrites_banks, hmram]

/-- What a full reset that starts with the boot done leaves of the boot and the update path. -/
theorem startFullReset_spec {s : State} (h : s.boot.phase = .ready) (cause sub : Nat) :
    (startFullReset cause sub s).boot.phase = .inReset ∧ (startFullReset cause sub s).boot.curCause = cause ∧
    (startFullReset cause sub s).boot.curSub = sub ∧ (startFullReset cause sub s).update.phase = .idle ∧
    (startFullReset cause sub s).update.pause = false ∧ (startFullReset cause sub s).mram.banks = s.mram.banks := by
  rw [startFullReset_ready h]
  obtain ⟨hphase, hcause, hsub⟩ := resetStart_boot cause sub s
  exact ⟨hphase, hcause, hsub, resetStart_update cause sub s⟩

theorem ready_of_answering {s : State} (h : answering s = true) : s.boot.phase = .ready := by
  simp only [answering, poweredOutputs, Bool.and_eq_true, decide_eq_true_eq] at h
  exact h.1.1

theorem execUpdAbandon_trial {s : State} {p : Port} {row : ObjRow} (ha : answering s = true)
    (hc : checkWrite s p 0x2E00 0x03 = .ok row) (h : s.update.phase = .trial) : ∃ t, exec (.updAbandon p) s = .next t ∧ t.ack = .done ∧
      t.boot.phase = .inReset ∧ t.boot.curCause = 4 ∧ t.boot.curSub = 1 ∧ t.update.phase = .idle ∧ t.mram.banks = s.mram.banks := by
  have hexec := execUpdAbandon_ok ha hc
  rw [abandonOp_trial h] at hexec
  obtain ⟨hphase, hcause, hsub, hidle, -, hbanks⟩ := startFullReset_spec (ready_of_answering ha) 4 1
  obtain ⟨u, hu⟩ : ∃ u, u = startFullReset 4 1 s := ⟨_, rfl⟩
  rw [← hu] at hexec hphase hcause hsub hidle hbanks
  exact ⟨_, hexec, rfl, hphase, hcause, hsub, hidle, hbanks⟩

/-! The end of the pause, its time-out and the end of the trial (R538 to R541). -/

/-- The pause is over: the trial runs (R538, R541). -/
def trialStarted (s : State) : State :=
  updTo .trial (modUpd (fun u => { u with pause := false, sel := targetBank s, trialLeft := 60 }) (runStandby s))

theorem execActivationPauseEnd_other {s : State} (h : s.update.phase ≠ .activating) : exec .activationPauseEnd s = .next s := if_pos h

theorem execActivationPauseEnd_acts {s : State} (h : s.update.phase = .activating) :
    exec .activationPauseEnd s = .next (heldReactions (heldFaults (trialStarted s))) :=
  if_neg (not_not_intro h)

theorem trialStarted_spec (s : State) : (trialStarted s).update = { s.update with
      phase := .trial, pause := false, sel := targetBank s, trialLeft := 60 } ∧
    (trialStarted s).dies = s.dies.map (fun d => { d with code := d.standby }) ∧
    rest [.update, .evc, .tw, .dies] (trialStarted s) = rest [.update, .evc, .tw, .dies] s := by
  have hrest := updTo_rest_update .trial (modUpd (fun u => { u with pause := false, sel := targetBank s, trialLeft := 60 }) (runStandby s))
  exact ⟨updTo_update .trial (modUpd (fun u => { u with pause := false, sel := targetBank s, trialLeft := 60 }) (runStandby s)),
    rest_dies hrest (by decide), (rest_mono (by decide) hrest).trans rfl⟩

/-- With nothing held back nothing follows the pause (R539). -/
theorem heldFaults_none {t : State} (ha : t.update.heldA = []) (hb : t.update.heldB = []) : heldFaults t = t := by
  have hupd : modUpd (fun u => { u with heldA := [], heldB := [] }) t = t := by
    show { t with update := { t.update with heldA := [], heldB := [] } } = t
    rw [← ha, ← hb]
  unfold heldFaults
  dsimp only
  rw [ha, hb, List.foldl_nil, hupd]
  split <;> rfl

theorem heldReactions_none {t : State} (hw : t.wd.held = []) (hp : t.update.pause = false) : heldReactions t = t := by
  unfold heldReactions
  split
  · have hwd : { t with wd := { t.wd with held := [] } } = t := by rw [← hw]
    rw [hwd, hw, wdReactAll, hp]
    rfl
  · rfl

theorem execActivationPauseEnd_spec {s : State} (h : s.update.phase = .activating) : ∃ t, t.update = { s.update with
        phase := .trial, pause := false, sel := targetBank s, trialLeft := 60 } ∧
      t.dies = s.dies.map (fun d => { d with code := d.standby }) ∧ t = { s with update := t.update, evc := t.evc, tw := t.tw, dies := t.dies } ∧
      exec .activationPauseEnd s = .next (heldReactions (heldFaults t)) ∧
      (s.update.heldA = [] → s.update.heldB = [] → s.wd.held = [] → exec .activationPauseEnd s = .next t) := by
  have hexec := execActivationPauseEnd_acts h
  obtain ⟨hupd, hdies, hrest⟩ := trialStarted_spec s
  obtain ⟨t, ht⟩ : ∃ t, t = trialStarted s := ⟨_, rfl⟩
  rw [← ht] at hexec hupd hdies hrest
  refine ⟨t, hupd, hdies, rest_patch hrest, hexec, fun ha hb hw => ?_⟩
  rw [hexec, heldFaults_none (by rw [hupd]; exact ha) (by rw [hupd]; exact hb),
    heldReactions_none (by rw [rest_wd hrest (by decide)]; exact hw) (by rw [hupd])]

theorem execActivationTimeout_absent {s : State} {e : Fin 18} (h : enginePresent s e = false) :
    exec (.activationTimeout e) s = .fault .absentInPart := by
  show execActivationTimeout e s = _
  rw [execActivationTimeout, h]; rfl

theorem execActivationTimeout_other {s : State} {e : Fin 18} (h : enginePresent s e = true) (hp : s.update.phase ≠ .activating) :
    exec (.activationTimeout e) s = .next s := by
  show execActivationTimeout e s = _
  rw [execActivationTimeout, h, if_neg (by decide), if_neg hp]

theorem execActivationTimeout_resets {s : State} {e : Fin 18} (h : enginePresent s e = true) (hp : s.update.phase = .activating)
    (hb : s.boot.phase = .ready) : ∃ t, exec (.activationTimeout e) s = .next t ∧ t.boot.phase = .inReset ∧ t.boot.curCause = 7 ∧
      t.boot.curSub = e.val + 0x100 ∧ t.update.phase = .idle ∧ t.update.pause = false ∧ t.mram.banks = s.mram.banks := by
  refine ⟨startFullReset 7 (e.val + 0x100) s, ?_, startFullReset_spec hb 7 (e.val + 0x100)⟩
  show execActivationTimeout e s = _
  rw [execActivationTimeout, h, if_neg (by decide), if_pos hp]

theorem execTrialEnd_other {s : State} (h : s.update.phase ≠ .trial) : exec .trialEnd s = .next s :=
  congrArg Host.Outcome.next (if_neg h)

theorem execTrialEnd_spec {s : State} (h : s.update.phase = .trial) : ∃ t, exec .trialEnd s = .next t ∧
      t.update = { s.update with phase := .idle, trialLeft := 0 } ∧
      t.mram = { s.mram with banks := vmod s.mram.banks s.update.sel fun b => { b with phase := .active } } ∧
      t = { s with mram := t.mram, update := t.update, evc := t.evc, tw := t.tw } := by
  have hexec : exec .trialEnd s = .next (confirmTrial s) := congrArg Host.Outcome.next (if_pos h)
  obtain ⟨hupd, hmram, hrest⟩ := confirmTrial_spec s
  obtain ⟨t, ht⟩ : ∃ t, t = confirmTrial s := ⟨_, rfl⟩
  rw [← ht] at hexec hupd hmram hrest
  exact ⟨t, hexec, hupd, hmram, rest_patch hrest⟩

/-- Settles O46: each command of the update path acts by the state of the update and the bank that does not run. -/
theorem firmwareUpdate : Obligations.FirmwareUpdate := by
  unfold Obligations.FirmwareUpdate
  refine fun s => ⟨fun p h row ha hc => ⟨fun hl => ?_, fun hl hp hs => ?_, fun hl hp hs => execUpdateHeaderCheck_spec ha hc hl hp hs⟩,
    execBankWipeDone_other, execBankWipeDone_waits, execBankWipeDone_ends, execBankBlockWrite_none, execBankBlockWrite_spec,
    execUpdateVerify_none, execUpdateVerify_spec, fun p row ha hc => ⟨fun h => ?_, execUpdActivate_allowed ha hc, fun h => ?_,
      execUpdConfirm_trial ha hc, fun h => ?_, execUpdAbandon_ends ha hc, execUpdAbandon_trial ha hc⟩,
    execActivationPauseEnd_other, execActivationPauseEnd_spec, fun _ => execActivationTimeout_absent, fun _ => execActivationTimeout_other,
    fun _ => execActivationTimeout_resets, execTrialEnd_other, execTrialEnd_spec⟩
  · rw [execUpdateHeaderCheck_ok ha hc, headerOp_length hl]
    rfl
  · rw [execUpdateHeaderCheck_ok ha hc, headerOp_state hl hp hs]
    rfl
  · show Host.Outcome.next (directWrite p (okey 0x2E00 0x03) s (updCmdOp 0xAC71)) = _
    rw [execUpdCmd_ok ha hc, updCmdOp_activate, activateOp_refused h]
    rfl
  · show Host.Outcome.next (directWrite p (okey 0x2E00 0x03) s (updCmdOp 0xC0F1)) = _
    rw [execUpdCmd_ok ha hc, updCmdOp_confirm, confirmOp_other h]
    rfl
  · rw [execUpdAbandon_ok ha hc, abandonOp_refused h]
    rfl

end Sys2Proof.Proofs

namespace Sys2Proof.Proofs

open Sys2Proof.Machine Sys2Proof.Laws

/-! ### O5: a stage fault with a rail's trip still noted

The clause on the stage fault says that the package fault line is asserted after it, and only its last part asks that no rail that left
station-keeping be noted in `sk.left`. From boot step 8 on the step also deals with what is noted there (`skSettle`): a noted fault
whose item has the reaction SYSTEM_RESET starts a full reset, and reset start releases the line. -/

/-- The boot is done, item 0 in step 0 of group 0 has the reaction SYSTEM_RESET, and an under-voltage trip of rail 0 in station-keeping
is still noted, already logged. -/
def tripNoted : State := { State.reset with
  boot.phase := .ready
  boot.step8 := true
  pwr.state := .run
  settings := [(okey 0x2500 1, 0), (okey 0x2600 1, 0), (okey 0x2600 2, 3)]
  sk.left := [⟨0, 2, true⟩] }

theorem tripNoted_meets : diePresent tripNoted 0 = true ∧ tripNoted.pwr.state = .run ∧ tripNoted.boot.phase ≠ .holdUp ∧
    tripNoted.dies[(0 : Fin 7)].stf = false ∧ tripNoted.logAReset = false := by
  decide +kernel

/-- What the stage fault of die 1 leaves of `tripNoted`. -/
def tripNotedFaulted : State := stageFaultOp 0 (modDie 0 (fun d => { d with stf := true }) tripNoted)

theorem tripNotedFaulted_faultLine : tripNotedFaulted.faultLine = false := by decide +kernel

/-- A first stage fault of a die whose protection is armed (R254). -/
theorem execStageFault_armed {s : State} {k : Fin 7} (hk : diePresent s k = true) (hp : s.pwr.state = .run) (hb : s.boot.phase ≠ .holdUp)
    (hs : s.dies[k].stf = false) : exec (.stageFault k) s = .next (stageFaultOp k (modDie k (fun d => { d with stf := true }) s)) := by
  have harm : dieArmed s = true := by rw [dieArmed, decide_eq_true hp, decide_eq_true hb]; rfl
  show execStageFault k s = _
  rw [execStageFault, hk, harm, hs]; rfl

/-- Refutes O5: in `tripNoted` the stage fault of die 1 asserts the line, and the reset that the noted trip of rail 0 starts in the same
step releases it. -/
theorem not_groupLanesAndPins : ¬ Obligations.GroupLanesAndPins := by
  intro h
  obtain ⟨-, -, -, -, -, -, -, -, -, hstage, -⟩ := h tripNoted
  obtain ⟨hk, hp, hb, hs, hreset⟩ := tripNoted_meets
  obtain ⟨t, ht, -, hline, -⟩ := hstage 0 hk hp hb hs hreset
  have hfaulted : tripNotedFaulted = t := by
    rw [execStageFault_armed hk hp hb hs] at ht
    exact Host.Outcome.next.inj ht
  exact absurd (hline.symm.trans (hfaulted ▸ tripNotedFaulted_faultLine)) (by decide)

end Sys2Proof.Proofs

namespace Sys2Proof.Proofs

open Sys2Proof.Machine Sys2Proof.Laws

/-! ### O4: a read of LINK_STATUS that waits for its link

A read of `LINK_STATUS_k` clears the retrained flag (R46), and the reads that wait for a link complete when it comes up (R562). -/

/-- The boot is done and the link of die 1 trains; a tunnel READ of `LINK_STATUS_1`, without an outcome yet, stands among the reads that
wait for it. -/
def statusReadWaits : State := { State.reset with
  boot.phase := .ready
  boot.odAnswering := true
  pwr.state := .run
  links := vmod State.reset.links 0 fun l => { l with phase := .training, reads := [(4, 0x2101, 1)] }
  tw := vmod State.reset.tw 0 fun t => { t with tun.phase := .busy, tun.index := 0x2101, tun.sub := 1 } }

theorem statusReadWaits_meets : diePresent statusReadWaits 0 = true ∧ sysRuns statusReadWaits = true ∧
    statusReadWaits.links[(0 : Fin 7)].phase ≠ .up := by decide +kernel

/-- The flag of link `k` after a command that answers a next state. -/
def retrainedAfter (k : Fin 7) : Res → Option Bool
  | .next t => some t.links[k].retrained
  | _ => none

/-- The read clears the flag that the same command has set. -/
theorem linkRetrained_statusReadWaits : retrainedAfter 0 (exec (.linkRetrained 0) statusReadWaits) = some false := by decide +kernel

/-- Refutes O4: in `statusReadWaits` the read that LINK_RETRAINED completes clears the retrained flag of the link that came up. -/
theorem not_linkRecovery : ¬ Obligations.LinkRecovery := by
  intro h
  obtain ⟨hk, hs, hp⟩ := statusReadWaits_meets
  obtain ⟨-, hretrained⟩ := h statusReadWaits 0 hk hs
  obtain ⟨t, ht, -, hflag, -⟩ := hretrained hp
  have hafter := linkRetrained_statusReadWaits
  rw [ht] at hafter
  exact absurd (hflag.symm.trans (Option.some.inj hafter)) (by decide)

end Sys2Proof.Proofs

namespace Sys2Proof.Proofs

open Sys2Proof.Machine Sys2Proof.Laws

/-! ### O2: one cycle of the Hamper's wheel (R26 to R31, R456) -/

/-! The first-error capture (R456). -/

theorem fabCapture_first {s : State} (h : s.fab.valid = false) (a m t : Nat) :
    (fabCapture a m t s).fab.valid = true ∧ (fabCapture a m t s).fab.addr = a ∧ (fabCapture a m t s).fab.master = m := by
  rw [fabCapture, if_neg (by rw [h]; decide)]
  exact ⟨rfl, rfl, rfl⟩

theorem fabCapture_later {s : State} (h : s.fab.valid = true) (a m t : Nat) :
    (fabCapture a m t s).fab = { s.fab with cnt := satAdd max32 s.fab.cnt 1 } := by
  rw [fabCapture, if_pos h]

theorem fabCapture_hamper (a m t : Nat) (s : State) : (fabCapture a m t s).hamper = s.hamper :=
  rest_hamper (fabCapture_rest (F := [.fab]) (by decide) a m t s) (by decide)

/-- What a Logbook entry may change. -/
abbrev logFields : List Fld := [.nv, .log, .evc, .tw]

theorem logFault_rest_log (c : FaultCode) (d i x : Nat) (s : State) : rest logFields (logFault c d i x s) = rest logFields s :=
  logFault_rest (by decide) (by decide) (by decide) (by decide) c d i x s

theorem logFault_fab (c : FaultCode) (d i x : Nat) (s : State) : (logFault c d i x s).fab = s.fab :=
  rest_fab (logFault_rest_log c d i x s) (by decide)

theorem logFault_hamper (c : FaultCode) (d i x : Nat) (s : State) : (logFault c d i x s).hamper = s.hamper :=
  rest_hamper (logFault_rest_log c d i x s) (by decide)

/-! What an uncorrectable word does (R30). -/

/-- The fields an uncorrectable word reaches. -/
abbrev dedFields : List Fld := [.nv, .hamper, .log, .fab, .evc, .tw]

theorem hamperDed_rest_ded (m o : Nat) (s : State) : rest dedFields (hamperDed m o s) = rest dedFields s :=
  hamperDed_rest (by decide) (by decide) (by decide) (by decide) (by decide) (by decide) m o s

theorem hamperDed_hamper (m o : Nat) (s : State) :
    (hamperDed m o s).hamper = { s.hamper with dedCnt := satAdd max16 s.hamper.dedCnt 1 } := by
  rw [hamperDed, logFault_hamper, fabCapture_hamper]
  rfl

theorem hamperDed_first {s : State} (h : s.fab.valid = false) (m o : Nat) :
    (hamperDed m o s).fab.addr = o ∧ (hamperDed m o s).fab.master = m := by
  rw [hamperDed, logFault_fab]
  exact (fabCapture_first (s := modHamper (fun x => { x with dedCnt := satAdd max16 x.dedCnt 1 }) s) h o m 8).2

/-! The words of the memory (R25, R26). -/

/-- A partition lies inside the 512 KiB. -/
theorem offset_of_partitionOf {s : State} {a : Nat} (h : (partitionOf s a).isSome = true) : a < 0x80000 := by
  refine Nat.lt_of_not_le fun hle => ?_
  unfold partitionOf at h
  rw [if_neg (by omega), if_neg (by omega), if_neg (by omega), if_neg (by omega), if_neg (by omega), if_neg (by omega),
    if_neg (by omega)] at h
  exact absurd h (by decide)

theorem offset_of_accessAllowed {s : State} {q : HamperReq} (h : accessAllowed s q = true) : q.offset < 0x80000 := by
  refine offset_of_partitionOf (s := s) ?_
  unfold accessAllowed at h
  split at h
  · exact absurd h (by decide)
  · next p hp => rw [hp]; rfl

theorem leBytes_length (n w : Nat) : (leBytes n w).length = n := by
  induction n generalizing w with
  | zero => rfl
  | succ n ih => rw [leBytes, List.length_cons, ih]

/-- A 64-bit word put at its place reads back, and nothing else has changed. -/
theorem putWord_spec {m : List Host.Cell} (hm : Memory.wf m = true) {o : Nat} (ho : o < 0x80000) (d : Nat) :
    Memory.getBytes (Memory.putBytes m (wordBase o) (leBytes 8 d)) (wordBase o) 8 = leBytes 8 d ∧
    ∀ a, a < wordBase o ∨ wordBase o + 8 ≤ a → Memory.get (Memory.putBytes m (wordBase o) (leBytes 8 d)) a = Memory.get m a := by
  have hlen := leBytes_length 8 d
  have hbase : wordBase o + (leBytes 8 d).length ≤ 0x80000 := by rw [hlen, wordBase]; omega
  refine ⟨?_, fun a ha => Mem.get_putBytes_other hm (by rw [hlen]; exact ha)⟩
  have hback := Mem.getBytes_putBytes hm hbase
  rwa [hlen] at hback

/-- Without the unit key, and outside the secure partition, a word is its eight bytes (R25). -/
theorem hamperWord_bytes {s : State} {a : Nat} (h : s.nv.keyLoaded = false ∨ 0x4000 ≤ a) :
    hamperWord s a = leNat (Memory.getBytes s.hamper.mem (wordBase a) 8) := by
  refine if_neg fun hk => ?_
  obtain ⟨hkey, hlow⟩ := (Bool.and_eq_true _ _).mp hk
  have hlow := of_decide_eq_true hlow
  rcases h with h | h
  · exact absurd (hkey.symm.trans h) (by decide)
  · omega

/-! One granted access (R26, R30). -/

/-- The granted access stands, with no outcome yet. -/
def grantTaken (q : HamperReq) (s : State) : State :=
  modHamper (fun h => { h with lastGrant := some q, lastData := 0, lastBlocked := false, lastEccErr := false }) s

theorem hamperGrant_blocked {s : State} {q : HamperReq} (h : accessAllowed s q = false) (ecc : EccFind) : hamperGrant q ecc s =
    logFault .fabricErr 0 (masterCode q.master) q.offset (fabCapture q.offset (masterCode q.master) (blockedType q)
      (modHamper (fun h => { h with lastBlocked := true }) (grantTaken q s))) := by
  unfold hamperGrant
  dsimp only
  rw [h]
  rfl

theorem hamperGrant_write {s : State} {q : HamperReq} (h : accessAllowed s q = true) (hw : q.write = true) (ecc : EccFind) :
    hamperGrant q ecc s =
      modHamper (fun h => { h with mem := Memory.putBytes h.mem (wordBase q.offset) (leBytes 8 q.data) }) (grantTaken q s) := by
  unfold hamperGrant
  dsimp only
  rw [h, hw]
  rfl

/-- A granted read by what the code finds (R30). -/
def readGranted (q : HamperReq) (s : State) : EccFind → State
  | .clean => modHamper (fun h => { h with lastData := hamperWord s q.offset }) s
  | .single => modHamper (fun h => { h with
      lastData := hamperWord s q.offset, secCnt := satAdd max32 h.secCnt 1,
      correctPend := h.correctPend ++ [wordBase q.offset] }) s
  | .double => hamperDed (masterCode q.master) q.offset (modHamper (fun h => { h with lastEccErr := true }) s)

theorem hamperGrant_read {s : State} {q : HamperReq} (h : accessAllowed s q = true) (hw : q.write = false) (ecc : EccFind) :
    hamperGrant q ecc s = readGranted q (grantTaken q s) ecc := by
  unfold hamperGrant
  dsimp only
  rw [h, hw]
  cases ecc <;> rfl

/-- A read leaves the wheel, the grant and the memory. -/
theorem readGranted_hamper (q : HamperReq) (ecc : EccFind) (s : State) : (readGranted q s ecc).hamper.wheelSlot = s.hamper.wheelSlot ∧
    (readGranted q s ecc).hamper.lastGrant = s.hamper.lastGrant ∧ (readGranted q s ecc).hamper.mem = s.hamper.mem := by
  cases ecc with
  | clean => exact ⟨rfl, rfl, rfl⟩
  | single => exact ⟨rfl, rfl, rfl⟩
  | double => rw [readGranted, hamperDed_hamper]; exact ⟨rfl, rfl, rfl⟩

theorem hamperGrant_rest_grant (q : HamperReq) (ecc : EccFind) (s : State) : rest dedFields (hamperGrant q ecc s) = rest dedFields s :=
  hamperGrant_rest (by decide) (by decide) (by decide) (by decide) (by decide) (by decide) q ecc s

/-- An access outside its requester's partitions (R26, R456). -/
theorem hamperGrant_blocked_spec {s : State} {q : HamperReq} (h : accessAllowed s q = false) (ecc : EccFind) :
    (hamperGrant q ecc s).hamper = { (grantTaken q s).hamper with lastBlocked := true } ∧
    (s.fab.valid = false → (hamperGrant q ecc s).fab.valid = true ∧ (hamperGrant q ecc s).fab.addr = q.offset ∧
      (hamperGrant q ecc s).fab.master = masterCode q.master) ∧
    (s.fab.valid = true → (hamperGrant q ecc s).fab = { s.fab with cnt := satAdd max32 s.fab.cnt 1 }) := by
  rw [hamperGrant_blocked h, logFault_hamper, logFault_fab, fabCapture_hamper]
  exact ⟨rfl, fun hv => fabCapture_first (s := modHamper (fun h => { h with lastBlocked := true }) (grantTaken q s)) hv _ _ _,
    fun hv => fabCapture_later (s := modHamper (fun h => { h with lastBlocked := true }) (grantTaken q s)) hv _ _ _⟩

/-- Every granted access leaves the wheel and is the last one granted. -/
theorem hamperGrant_wheel (q : HamperReq) (ecc : EccFind) (s : State) :
    (hamperGrant q ecc s).hamper.wheelSlot = s.hamper.wheelSlot ∧ (hamperGrant q ecc s).hamper.lastGrant = some q := by
  cases ha : accessAllowed s q
  · rw [(hamperGrant_blocked_spec ha ecc).1]; exact ⟨rfl, rfl⟩
  · cases hw : q.write
    · rw [hamperGrant_read ha hw]
      obtain ⟨hslot, hgrant, -⟩ := readGranted_hamper q ecc (grantTaken q s)
      exact ⟨hslot, hgrant⟩
    · rw [hamperGrant_write ha hw]; exact ⟨rfl, rfl⟩

/-- The wheel has moved on (R28). -/
def wheelMoved (s : State) : State := modHamper (fun h => { h with wheelSlot := wheelNext h.wheelSlot }) s

theorem execHamperAccess_none {s : State} (h : sysRuns s = true) {reqs : List HamperReq} (hg : granted s reqs = none) (ecc : EccFind) :
    exec (.hamperAccess reqs ecc) s = .next (wheelMoved s) := by
  show execHamperAccess reqs ecc s = _
  rw [execHamperAccess, h, hg]; rfl

theorem execHamperAccess_some {s : State} (h : sysRuns s = true) {reqs : List HamperReq} {q : HamperReq} (hg : granted s reqs = some q)
    (ecc : EccFind) : exec (.hamperAccess reqs ecc) s = .next (useFree (hamperGrant q ecc (wheelMoved s))) := by
  show execHamperAccess reqs ecc s = _
  rw [execHamperAccess, h, hg]; rfl

theorem execHamperAccess_stopped {s : State} (h : sysRuns s = false) (hb : s.boot.phase ≠ .holdUp) (reqs : List HamperReq) (ecc : EccFind) :
    exec (.hamperAccess reqs ecc) s = .next s := by
  show execHamperAccess reqs ecc s = _
  rw [execHamperAccess, h, decide_eq_true hb]; rfl

theorem execHamperAccess_spec {s : State} (h : sysRuns s = true) {reqs : List HamperReq} {q : HamperReq} (hg : granted s reqs = some q)
    (ecc : EccFind) : ∃ t, exec (.hamperAccess reqs ecc) s = .next t ∧ t = { s with nv := t.nv, hamper := t.hamper, log := t.log, fab := t.fab, evc := t.evc, tw := t.tw, freeCtr := t.freeCtr } ∧
      t.hamper.wheelSlot = wheelNext s.hamper.wheelSlot ∧ t.hamper.lastGrant = some q ∧
      (accessAllowed s q = true → q.write = true → Canonical s →
        Memory.getBytes t.hamper.mem (wordBase q.offset) 8 = leBytes 8 q.data ∧
        ∀ a, a < wordBase q.offset ∨ wordBase q.offset + 8 ≤ a → Memory.get t.hamper.mem a = Memory.get s.hamper.mem a) ∧
      (accessAllowed s q = true → q.write = false → t.hamper.mem = s.hamper.mem ∧
        (ecc = .clean → (s.nv.keyLoaded = false ∨ 0x4000 ≤ q.offset) →
          t.hamper.lastData = leNat (Memory.getBytes s.hamper.mem (wordBase q.offset) 8) ∧ t.fab = s.fab ∧ t.log = s.log)) ∧
      (accessAllowed s q = false → t.hamper.mem = s.hamper.mem ∧ t.hamper.lastBlocked = true ∧
        (s.fab.valid = false → t.fab.valid = true ∧ t.fab.addr = q.offset ∧ t.fab.master = masterCode q.master) ∧
        (s.fab.valid = true → t.fab = { s.fab with cnt := satAdd max32 s.fab.cnt 1 })) := by
  obtain ⟨hslot, hgrant⟩ := hamperGrant_wheel q ecc (wheelMoved s)
  have hframe : rest [.nv, .hamper, .log, .fab, .evc, .tw, .freeCtr] (useFree (hamperGrant q ecc (wheelMoved s))) =
      rest [.nv, .hamper, .log, .fab, .evc, .tw, .freeCtr] s := by
    rw [useFree_rest (by decide)]
    exact rest_mono (by decide) ((hamperGrant_rest_grant q ecc (wheelMoved s)).trans (rest_with_hamper (by decide) s _))
  refine ⟨_, execHamperAccess_some h hg ecc, rest_patch hframe, hslot, hgrant, fun ha hw hm => ?_, fun ha hw => ⟨?_, fun he hk => ?_⟩, fun ha => ?_⟩
  · rw [hamperGrant_write (s := wheelMoved s) ha hw]
    exact putWord_spec hm (offset_of_accessAllowed ha) q.data
  · rw [hamperGrant_read (s := wheelMoved s) ha hw]
    exact (readGranted_hamper q ecc _).2.2
  · subst he
    rw [hamperGrant_read (s := wheelMoved s) ha hw]
    exact ⟨hamperWord_bytes (s := grantTaken q (wheelMoved s)) hk, rfl, rfl⟩
  · obtain ⟨hham, hfab⟩ := hamperGrant_blocked_spec (s := wheelMoved s) ha ecc
    refine ⟨?_, ?_, hfab⟩
    · show (hamperGrant q ecc (wheelMoved s)).hamper.mem = _
      rw [hham]; rfl
    · show (hamperGrant q ecc (wheelMoved s)).hamper.lastBlocked = _
      rw [hham]

/-! The scrub (R30, R31). -/

/-- The scrub has read one word on. -/
def scrubMoved (s : State) : State := { s with hamper := { s.hamper with
  correctPend := [], scrubPtr := (s.hamper.scrubPtr + 1) % 65536,
  scrubPass := if s.hamper.scrubPtr + 1 = 65536 then satAdd max32 s.hamper.scrubPass 1 else s.hamper.scrubPass } }

theorem execBackgroundScrub_clean {s : State} (h : sysRuns s = true) : exec (.backgroundScrub .clean) s = .next (scrubMoved s) := by
  show execBackgroundScrub .clean s = _
  rw [execBackgroundScrub, h]; rfl

theorem execBackgroundScrub_double {s : State} (h : sysRuns s = true) :
    exec (.backgroundScrub .double) s = .next (hamperDed 0x0D (8 * s.hamper.scrubPtr) (scrubMoved s)) := by
  show execBackgroundScrub .double s = _
  rw [execBackgroundScrub, h]; rfl

theorem execBackgroundScrub_spec {s : State} (h : sysRuns s = true) : ∃ t, exec (.backgroundScrub .double) s = .next t ∧
    t = { s with nv := t.nv, hamper := t.hamper, log := t.log, fab := t.fab, evc := t.evc, tw := t.tw } ∧
    t.hamper.dedCnt = satAdd max16 s.hamper.dedCnt 1 ∧ t.hamper.mem = s.hamper.mem ∧
    (s.fab.valid = false → t.fab.addr = 8 * s.hamper.scrubPtr ∧ t.fab.master = 0x0D) := by
  have hframe := (hamperDed_rest_ded 0x0D (8 * s.hamper.scrubPtr) (scrubMoved s)).trans (rest_with_hamper (by decide) s _)
  have hham := hamperDed_hamper 0x0D (8 * s.hamper.scrubPtr) (scrubMoved s)
  exact ⟨_, execBackgroundScrub_double h, rest_patch hframe, by rw [hham]; rfl, by rw [hham]; rfl,
    fun hv => hamperDed_first (s := scrubMoved s) hv _ _⟩

/-- Settles O2: what is granted is decided by the partitions, and only the granted access reaches the memory. -/
theorem hamperCycle : Obligations.HamperCycle := by
  unfold Obligations.HamperCycle
  exact fun s => ⟨fun reqs ecc h hb => execHamperAccess_stopped h hb reqs ecc, fun h => ⟨fun _ ecc hg => execHamperAccess_none h hg ecc,
    fun _ ecc _ hg => execHamperAccess_spec h hg ecc, execBackgroundScrub_clean h, execBackgroundScrub_spec h⟩⟩

end Sys2Proof.Proofs

namespace Sys2Proof.Proofs

open Sys2Proof.Machine Sys2Proof.Laws

/-! ### O14: enable, disable, clear and gate-off of the channels, and presence (R125, R133 to R141) -/

/-! One zone channel changes. -/

/-- The state `t` is `s` with zone channel `n` become `c`, but for the event sources. -/
structure ZinMoved (n : Fin 4) (c : ZinChan) (s t : State) : Prop where
  chan : t.zin[n] = c
  others : ∀ j : Fin 4, j ≠ n → t.zin[j] = s.zin[j]
  frame : rest [.zin, .evc, .tw] t = rest [.zin, .evc, .tw] s

theorem ZinMoved.refl (n : Fin 4) (s : State) : ZinMoved n s.zin[n] s s := ⟨rfl, fun _ _ => rfl, rfl⟩

theorem ZinMoved.trans {n : Fin 4} {c d : ZinChan} {s t u : State} (h : ZinMoved n c s t) (k : ZinMoved n d t u) : ZinMoved n d s u :=
  ⟨k.chan, fun j hj => (k.others j hj).trans (h.others j hj), k.frame.trans h.frame⟩

theorem modZin_moved (n : Fin 4) (f : ZinChan → ZinChan) (s : State) : ZinMoved n (f s.zin[n]) s (modZin n f s) :=
  ⟨vmod_get _ _ _, fun _ hj => vmod_get_ne hj _ _, modZin_rest (by decide) n f s⟩

/-- A zone channel taken to a state (R133, R140). -/
def toZin (ph : ZinPhase) (c : ZinChan) : ZinChan :=
  if c.phase = ph then c else { c with phase := ph, limTimer := decide (ph = .limit), normTimer := ph.normal }

@[simp] theorem toZin_phase (ph : ZinPhase) (c : ZinChan) : (toZin ph c).phase = ph := by
  unfold toZin
  split
  · assumption
  · rfl

/-- A move keeps what belongs to no state. -/
theorem toZin_keeps (ph : ZinPhase) (c : ZinChan) : (toZin ph c).inWindow = c.inWindow ∧ (toZin ph c).insRunning = c.insRunning ∧
    (toZin ph c).qualified = c.qualified ∧ (toZin ph c).retryTimer = c.retryTimer ∧ (toZin ph c).retryCnt = c.retryCnt ∧
    (toZin ph c).fault = c.fault ∧ (toZin ph c).enHeld = c.enHeld := by
  unfold toZin
  split <;> exact ⟨rfl, rfl, rfl, rfl, rfl, rfl, rfl⟩

theorem zinTo_moved (n : Fin 4) (ph : ZinPhase) (s : State) : ZinMoved n (toZin ph s.zin[n]) s (zinTo n ph s) := by
  unfold zinTo toZin
  split
  · exact ZinMoved.refl n s
  · obtain ⟨hchan, hothers, hframe⟩ := modZin_moved n (fun c => { c with
      phase := ph, limTimer := decide (ph = .limit), normTimer := ph.normal }) s
    obtain ⟨u, hu⟩ : ∃ u, u = modZin n (fun c => { c with phase := ph, limTimer := decide (ph = .limit), normTimer := ph.normal }) s := ⟨_, rfl⟩
    rw [← hu] at hchan hothers hframe ⊢
    have hzin := rest_zin (eventEdge_rest (F := [.evc, .tw]) (by decide) (by decide) (9 + n) u) (by decide)
    exact ⟨by rw [hzin, hchan], fun j hj => by rw [hzin, hothers j hj],
      (eventEdge_rest (by decide) (by decide) (9 + n) u).trans hframe⟩

/-- A channel of WAIT_IN that stands in its window has gone on to QUALIFY (R125). -/
def settledZin (c : ZinChan) : ZinChan :=
  if c.phase = .waitIn ∧ c.inWindow then toZin .qualify { c with insRunning := true, qualified := false } else c

theorem zinSettle_moved (n : Fin 4) (s : State) : ZinMoved n (settledZin s.zin[n]) s (zinSettle n s) := by
  unfold zinSettle settledZin
  dsimp only
  split
  · have hmod := modZin_moved n (fun c => { c with insRunning := true, qualified := false }) s
    have hto := zinTo_moved n .qualify (modZin n (fun c => { c with insRunning := true, qualified := false }) s)
    rw [hmod.chan] at hto
    exact hmod.trans hto
  · exact ZinMoved.refl n s

/-- A channel starts again from WAIT_IN (R133, R141). -/
def waitingZin (c : ZinChan) : ZinChan := settledZin (toZin .waitIn c)

theorem zinWait_moved (n : Fin 4) (s : State) : ZinMoved n (waitingZin s.zin[n]) s (zinSettle n (zinTo n .waitIn s)) := by
  have hto := zinTo_moved n .waitIn s
  have hset := zinSettle_moved n (zinTo n .waitIn s)
  rw [hto.chan] at hset
  exact hto.trans hset

theorem waitingZin_phase (c : ZinChan) : (waitingZin c).phase = if c.inWindow = true then .qualify else .waitIn := by
  unfold waitingZin settledZin
  rw [toZin_phase, (toZin_keeps .waitIn c).1]
  cases c.inWindow
  · exact toZin_phase _ _
  · rw [if_pos ⟨rfl, rfl⟩]
    exact toZin_phase _ _

theorem waitingZin_keeps (c : ZinChan) : (waitingZin c).retryCnt = c.retryCnt ∧ (waitingZin c).retryTimer = c.retryTimer ∧
    (waitingZin c).fault = c.fault := by
  obtain ⟨-, -, -, htimer, hcnt, hfault, -⟩ := toZin_keeps .waitIn c
  obtain ⟨-, -, -, htimer', hcnt', hfault', -⟩ :=
    toZin_keeps .qualify { toZin .waitIn c with insRunning := true, qualified := false }
  unfold waitingZin settledZin
  split
  · exact ⟨hcnt'.trans hcnt, htimer'.trans htimer, hfault'.trans hfault⟩
  · exact ⟨hcnt, htimer, hfault⟩

/-! ZIN_EN set and cleared (R133, R147). -/

theorem zinEnable_off {n : Fin 4} {s : State} (h : s.zin[n].phase = .off) : zinEnable n s = zinSettle n (zinTo n .waitIn s) := by
  unfold zinEnable; rw [h]

theorem zinEnable_disabling {n : Fin 4} {s : State} (h : s.zin[n].phase = .disabling) :
    zinEnable n s = modZin n (fun c => { c with enHeld := true }) s := by
  unfold zinEnable; rw [h]

theorem zinEnable_on {n : Fin 4} {s : State} (h : s.zin[n].phase ≠ .off) (hd : s.zin[n].phase ≠ .disabling) : zinEnable n s = s := by
  unfold zinEnable
  split
  · next h' => exact absurd h' h
  · next h' => exact absurd h' hd
  · rfl

theorem zinEnable_moved (n : Fin 4) (s : State) : ∃ c, ZinMoved n c s (zinEnable n s) ∧
    (s.zin[n].phase = .off → c = waitingZin s.zin[n]) ∧ (s.zin[n].phase = .disabling → c = { s.zin[n] with enHeld := true }) ∧
    (s.zin[n].phase ≠ .off → s.zin[n].phase ≠ .disabling → c = s.zin[n]) := by
  by_cases ho : s.zin[n].phase = .off
  · rw [zinEnable_off ho]
    exact ⟨_, zinWait_moved n s, fun _ => rfl, fun hd => absurd (ho.symm.trans hd) (by decide), fun h _ => absurd ho h⟩
  · by_cases hd : s.zin[n].phase = .disabling
    · rw [zinEnable_disabling hd]
      exact ⟨_, modZin_moved n _ s, fun h => absurd h ho, fun _ => rfl, fun _ h => absurd hd h⟩
    · rw [zinEnable_on ho hd]
      exact ⟨_, ZinMoved.refl n s, fun h => absurd h ho, fun h => absurd h hd, fun _ _ => rfl⟩

theorem zinDisable_off {n : Fin 4} {s : State} (h : s.zin[n].phase = .off) : zinDisable n s = s := by
  unfold zinDisable; rw [h]

theorem zinDisable_disabling {n : Fin 4} {s : State} (h : s.zin[n].phase = .disabling) :
    zinDisable n s = modZin n (fun c => { c with enHeld := false }) s := by
  unfold zinDisable; rw [h]

/-- A channel that is not off begins its disable (R147). -/
def zinDisabling (n : Fin 4) (s : State) : State :=
  zinTo n .disabling (modZin n (fun c => { c with insRunning := false, qualified := false, enHeld := false }) s)

theorem zinDisable_on {n : Fin 4} {s : State} (h : s.zin[n].phase ≠ .off) (hd : s.zin[n].phase ≠ .disabling) :
    zinDisable n s = powerPathChannels (zinDisabling n s) := by
  unfold zinDisable
  split
  · next h' => exact absurd h' h
  · next h' => exact absurd h' hd
  · rfl

theorem zinDisabling_moved (n : Fin 4) (s : State) :
    ZinMoved n (toZin .disabling { s.zin[n] with insRunning := false, qualified := false, enHeld := false }) s (zinDisabling n s) := by
  have hmod := modZin_moved n (fun c => { c with insRunning := false, qualified := false, enHeld := false }) s
  have hto := zinTo_moved n .disabling (modZin n (fun c => { c with insRunning := false, qualified := false, enHeld := false }) s)
  rw [hmod.chan] at hto
  exact hmod.trans hto

/-- What a disable of a zone channel may change. -/
abbrev zinDisableFields : List Fld := [.nv, .zin, .pp, .log, .evc, .tw]

theorem powerPathChannels_rest_disable (s : State) : rest [.nv, .pp, .log, .evc, .tw] (powerPathChannels s) = rest [.nv, .pp, .log, .evc, .tw] s :=
  sourceEval_rest (by decide) (by decide) (by decide) (by decide) (by decide) s

theorem zinDisable_spec (n : Fin 4) (s : State) : (s.zin[n].phase = .off → (zinDisable n s).zin[n] = s.zin[n]) ∧
    (s.zin[n].phase ≠ .off → (zinDisable n s).zin[n].phase = .disabling ∧ (zinDisable n s).zin[n].enHeld = false ∧
      (s.zin[n].phase ≠ .disabling → (zinDisable n s).zin[n].insRunning = false ∧ (zinDisable n s).zin[n].qualified = false)) ∧
    (∀ j : Fin 4, j ≠ n → (zinDisable n s).zin[j] = s.zin[j]) ∧ rest zinDisableFields (zinDisable n s) = rest zinDisableFields s := by
  by_cases ho : s.zin[n].phase = .off
  · rw [zinDisable_off ho]
    exact ⟨fun _ => rfl, fun h => absurd ho h, fun _ _ => rfl, rfl⟩
  · by_cases hd : s.zin[n].phase = .disabling
    · rw [zinDisable_disabling hd]
      obtain ⟨hchan, hothers, hframe⟩ := modZin_moved n (fun c => { c with enHeld := false }) s
      rw [hchan]
      exact ⟨fun h => absurd h ho, fun _ => ⟨hd, rfl, fun h => absurd hd h⟩, hothers, rest_mono (by decide) hframe⟩
    · rw [zinDisable_on ho hd]
      obtain ⟨hchan, hothers, hframe⟩ := zinDisabling_moved n s
      obtain ⟨u, hu⟩ : ∃ u, u = zinDisabling n s := ⟨_, rfl⟩
      rw [← hu] at hchan hothers hframe ⊢
      have hpath := powerPathChannels_rest_disable u
      obtain ⟨-, hins, hqual, -, -, -, hheld⟩ :=
        toZin_keeps .disabling { s.zin[n] with insRunning := false, qualified := false, enHeld := false }
      rw [rest_zin hpath (by decide), hchan]
      exact ⟨fun h => absurd h ho, fun _ => ⟨toZin_phase _ _, hheld, fun _ => ⟨hins, hqual⟩⟩, hothers,
        (rest_mono (by decide) hpath).trans (rest_mono (by decide) hframe)⟩

/-! ZIN_CLEAR (R141). -/

/-- The counts of a zone channel cleared. -/
def clearedZin (c : ZinChan) : ZinChan := { c with retryCnt := 0, retryTimer := false, fault := 0 }

theorem zinTurnOn_moved {n : Fin 4} {s : State} (h : s.zin[n].retryTimer = false) (near : Bool) :
    ZinMoved n (toZin (if near then .on else .inrush) s.zin[n]) s (zinTurnOn n near s) := by
  rw [zinTurnOn, h]
  exact zinTo_moved n _ s

/-- A channel whose retry is over: it turns on, or waits for t_ins (R139). -/
def retriedZin (near : Bool) (c : ZinChan) : ZinChan :=
  if c.qualified then toZin (if near then .on else .inrush) c else toZin .qualify { c with insRunning := true }

theorem zinRetryDone_moved {n : Fin 4} {s : State} (h : s.zin[n].retryTimer = false) (near : Bool) :
    ZinMoved n (retriedZin near s.zin[n]) s (zinRetryDone n near s) := by
  unfold zinRetryDone retriedZin
  split
  · exact zinTurnOn_moved h near
  · have hmod := modZin_moved n (fun c => { c with insRunning := true }) s
    have hto := zinTo_moved n .qualify (modZin n (fun c => { c with insRunning := true }) s)
    rw [hmod.chan] at hto
    exact hmod.trans hto

theorem retriedZin_keeps (near : Bool) (c : ZinChan) : (retriedZin near c).retryCnt = c.retryCnt ∧
    (retriedZin near c).retryTimer = c.retryTimer ∧ (retriedZin near c).fault = c.fault := by
  unfold retriedZin
  split
  · obtain ⟨-, -, -, htimer, hcnt, hfault, -⟩ := toZin_keeps (if near then .on else .inrush) c
    exact ⟨hcnt, htimer, hfault⟩
  · obtain ⟨-, -, -, htimer, hcnt, hfault, -⟩ := toZin_keeps .qualify { c with insRunning := true }
    exact ⟨hcnt, htimer, hfault⟩

theorem retriedZin_phase (near : Bool) (c : ZinChan) :
    (retriedZin near c).phase = if c.qualified = false then .qualify else if near = true then .on else .inrush := by
  unfold retriedZin
  cases c.qualified <;> exact toZin_phase _ _

theorem zinClearOp_limit {n : Fin 4} {s : State} (h : s.zin[n].phase = .limit) (near : Bool) : zinClearOp n near s = (s, .abort .state) :=
  if_pos h

theorem zinClearOp_locked {n : Fin 4} {s : State} (h : s.zin[n].phase = .locked) (near : Bool) :
    zinClearOp n near s = (zinSettle n (zinTo n .waitIn (modZin n clearedZin s)), .done) := by
  unfold zinClearOp
  rw [if_neg (by rw [h]; decide), h]
  rfl

theorem zinClearOp_retryWait {n : Fin 4} {s : State} (h : s.zin[n].phase = .retryWait) (near : Bool) :
    zinClearOp n near s = (zinRetryDone n near (modZin n clearedZin s), .done) := by
  unfold zinClearOp
  rw [if_neg (by rw [h]; decide), h]
  rfl

theorem zinClearOp_other {n : Fin 4} {s : State} (h : s.zin[n].phase ≠ .limit) (hl : s.zin[n].phase ≠ .locked)
    (hr : s.zin[n].phase ≠ .retryWait) (near : Bool) : zinClearOp n near s = (modZin n clearedZin s, .done) := by
  unfold zinClearOp
  rw [if_neg h]
  dsimp only
  split
  · next h' => exact absurd h' hl
  · next h' => exact absurd h' hr
  · rfl

theorem zinClearOp_moved {n : Fin 4} {s : State} (h : s.zin[n].phase ≠ .limit) (near : Bool) : ∃ c,
    ZinMoved n c s (zinClearOp n near s).1 ∧ (zinClearOp n near s).2 = .done ∧ c.retryCnt = 0 ∧ c.retryTimer = false ∧ c.fault = 0 ∧
    (s.zin[n].phase = .locked → c.phase = if s.zin[n].inWindow = true then .qualify else .waitIn) ∧
    (s.zin[n].phase = .retryWait → c.phase = if s.zin[n].qualified = false then .qualify else if near = true then .on else .inrush) := by
  have hmod := modZin_moved n clearedZin s
  by_cases hl : s.zin[n].phase = .locked
  · rw [zinClearOp_locked hl]
    have hwait := zinWait_moved n (modZin n clearedZin s)
    rw [hmod.chan] at hwait
    obtain ⟨hcnt, htimer, hfault⟩ := waitingZin_keeps (clearedZin s.zin[n])
    exact ⟨_, hmod.trans hwait, rfl, hcnt, htimer, hfault, fun _ => waitingZin_phase _, fun hr => absurd (hl.symm.trans hr) (by decide)⟩
  · by_cases hr : s.zin[n].phase = .retryWait
    · rw [zinClearOp_retryWait hr]
      have hdone := zinRetryDone_moved (n := n) (s := modZin n clearedZin s) (by rw [hmod.chan]; rfl) near
      rw [hmod.chan] at hdone
      obtain ⟨hcnt, htimer, hfault⟩ := retriedZin_keeps near (clearedZin s.zin[n])
      exact ⟨_, hmod.trans hdone, rfl, hcnt, htimer, hfault, fun h' => absurd h' hl, fun _ => retriedZin_phase near (clearedZin s.zin[n])⟩
    · rw [zinClearOp_other h hl hr]
      exact ⟨_, hmod, rfl, rfl, rfl, rfl, fun h' => absurd h' hl, fun h' => absurd h' hr⟩

/-! The commands of the zone channels. -/

theorem execZinEnSet_spec {s : State} {p : Port} {n : Fin 4} {row : ObjRow} (ha : answering s = true)
    (hc : checkWrite s p (0x2210 + n) 0x01 = .ok row) : ∃ t,
      exec (.zinEnSet p n) s = .next t ∧ t.ack = .done ∧ t.settings = mapPut (okey (0x2210 + n) 0x01) 1 s.settings ∧
      (s.zin[n].phase = .off → t.zin[n].phase = if s.zin[n].inWindow = true then .qualify else .waitIn) ∧
      (s.zin[n].phase = .disabling → t.zin[n].phase = .disabling ∧ t.zin[n].enHeld = true) ∧
      (s.zin[n].phase ≠ .off → s.zin[n].phase ≠ .disabling → t.zin[n] = s.zin[n]) ∧
      (∀ j : Fin 4, j ≠ n → t.zin[j] = s.zin[j]) ∧ t = { s with settings := t.settings, zin := t.zin, evc := t.evc, tw := t.tw, ack := t.ack } := by
  have hexec : exec (.zinEnSet p n) s = .next (setAck .done (zinEnable n (s.store (okey (0x2210 + n) 0x01) 1))) := by
    show Host.Outcome.next (directWrite p (okey (0x2210 + n) 0x01) s fun s => (zinEnable n (s.store (okey (0x2210 + n) 0x01) 1), .done)) = _
    rw [directWrite_ok (by decide) ha hc]
  obtain ⟨c, ⟨hchan, hothers, hframe⟩, hoff, hdis, hon⟩ := zinEnable_moved n (s.store (okey (0x2210 + n) 0x01) 1)
  obtain ⟨u, hu⟩ : ∃ u, u = zinEnable n (s.store (okey (0x2210 + n) 0x01) 1) := ⟨_, rfl⟩
  rw [← hu] at hexec hchan hothers hframe
  refine ⟨setAck .done u, hexec, rfl, rest_settings hframe (by decide), fun h => ?_, fun h => ?_, fun h h' => ?_, hothers,
    rest_patch (F := [.settings, .zin, .evc, .tw, .ack]) ((setAck_rest (by decide) _ u).trans
      ((rest_mono (by decide) hframe).trans (store_rest (by decide) s _ _)))⟩
  · show u.zin[n].phase = _
    rw [hchan, hoff h]
    exact waitingZin_phase s.zin[n]
  · show u.zin[n].phase = _ ∧ u.zin[n].enHeld = _
    rw [hchan, hdis h]
    exact ⟨h, rfl⟩
  · exact hchan.trans (hon h h')

theorem execZinEnClear_spec {s : State} {p : Port} {n : Fin 4} {row : ObjRow} (ha : answering s = true)
    (hc : checkWrite s p (0x2210 + n) 0x01 = .ok row) : ∃ t,
      exec (.zinEnClear p n) s = .next t ∧ t.ack = .done ∧ t.settings = mapPut (okey (0x2210 + n) 0x01) 0 s.settings ∧
      (s.zin[n].phase = .off → t.zin[n] = s.zin[n]) ∧
      (s.zin[n].phase ≠ .off → t.zin[n].phase = .disabling ∧ t.zin[n].enHeld = false ∧
        (s.zin[n].phase ≠ .disabling → t.zin[n].insRunning = false ∧ t.zin[n].qualified = false)) ∧
      (∀ j : Fin 4, j ≠ n → t.zin[j] = s.zin[j]) ∧ t = { s with settings := t.settings, nv := t.nv, zin := t.zin, pp := t.pp, log := t.log, evc := t.evc, tw := t.tw, ack := t.ack } := by
  have hexec : exec (.zinEnClear p n) s = .next (setAck .done (zinDisable n (s.store (okey (0x2210 + n) 0x01) 0))) := by
    show Host.Outcome.next (directWrite p (okey (0x2210 + n) 0x01) s fun s => (zinDisable n (s.store (okey (0x2210 + n) 0x01) 0), .done)) = _
    rw [directWrite_ok (by decide) ha hc]
  obtain ⟨hoff, hon, hothers, hframe⟩ := zinDisable_spec n (s.store (okey (0x2210 + n) 0x01) 0)
  obtain ⟨u, hu⟩ : ∃ u, u = zinDisable n (s.store (okey (0x2210 + n) 0x01) 0) := ⟨_, rfl⟩
  rw [← hu] at hexec hoff hon hothers hframe
  exact ⟨setAck .done u, hexec, rfl, rest_settings hframe (by decide), hoff, hon, hothers,
    rest_patch (F := [.settings, .nv, .zin, .pp, .log, .evc, .tw, .ack]) ((setAck_rest (by decide) _ u).trans
      ((rest_mono (by decide) hframe).trans (store_rest (by decide) s _ _)))⟩

/-- ZIN_CLEAR behind the checks (R141). -/
theorem execZinClear_ok {s : State} {p : Port} {n : Fin 4} {row : ObjRow} (ha : answering s = true)
    (hc : checkWrite s p (0x2210 + n) 0x10 = .ok row) (v : Nat) : exec (.zinClear p n v) s =
      .next (setAck (if v = 1 then zinClearOp n (zinNearBus n s) s else (s, .done)).2
        (if v = 1 then zinClearOp n (zinNearBus n s) s else (s, .done)).1) := by
  show Host.Outcome.next (directWrite p (okey (0x2210 + n) 0x10) s fun s => if v = 1 then zinClearOp n (zinNearBus n s) s else (s, .done)) = _
  rw [directWrite_ok (by decide) ha hc]

theorem execZinClear_spec {s : State} {p : Port} {n : Fin 4} {row : ObjRow} (ha : answering s = true)
    (hc : checkWrite s p (0x2210 + n) 0x10 = .ok row) {v : Nat} (hv : v = 1) (hp : s.zin[n].phase ≠ .limit) : ∃ t,
      exec (.zinClear p n v) s = .next t ∧ t.ack = .done ∧ t.zin[n].retryCnt = 0 ∧ t.zin[n].retryTimer = false ∧ t.zin[n].fault = 0 ∧
      (s.zin[n].phase = .locked → t.zin[n].phase = if s.zin[n].inWindow = true then .qualify else .waitIn) ∧
      (s.zin[n].phase = .retryWait → t.zin[n].phase = if s.zin[n].qualified = false then .qualify else if s.zin[n].v ≤ s.zbus.v + 1000 then .on else .inrush) ∧
      (∀ j : Fin 4, j ≠ n → t.zin[j] = s.zin[j]) ∧ t = { s with zin := t.zin, evc := t.evc, tw := t.tw, ack := t.ack } := by
  have hexec := execZinClear_ok ha hc v
  rw [if_pos hv] at hexec
  obtain ⟨c, ⟨hchan, hothers, hframe⟩, hack, hcnt, htimer, hfault, hlocked, hretry⟩ := zinClearOp_moved hp (zinNearBus n s)
  rw [hack] at hexec
  obtain ⟨u, hu⟩ : ∃ u, u = (zinClearOp n (zinNearBus n s) s).1 := ⟨_, rfl⟩
  rw [← hu] at hexec hchan hothers hframe
  have hnear : (zinNearBus n s = true) = (s.zin[n].v ≤ s.zbus.v + 1000) := by rw [zinNearBus, decide_eq_true_eq]
  refine ⟨setAck .done u, hexec, rfl, ?_, ?_, ?_, fun h => ?_, fun h => ?_, hothers,
    rest_patch (F := [.zin, .evc, .tw, .ack]) ((setAck_rest (by decide) _ u).trans (rest_mono (by decide) hframe))⟩
  · show u.zin[n].retryCnt = 0
    rw [hchan, hcnt]
  · show u.zin[n].retryTimer = false
    rw [hchan, htimer]
  · show u.zin[n].fault = 0
    rw [hchan, hfault]
  · show u.zin[n].phase = _
    rw [hchan, hlocked h]
  · show u.zin[n].phase = _
    rw [hchan, hretry h]
    simp only [hnear]

/-! One fused output changes. -/

/-- The state `t` is `s` with fused output `n` become `c`, but for the event sources. -/
structure FoMoved (n : Fin 8) (c : FoChan) (s t : State) : Prop where
  chan : t.fo[n] = c
  others : ∀ j : Fin 8, j ≠ n → t.fo[j] = s.fo[j]
  frame : rest [.fo, .evc, .tw] t = rest [.fo, .evc, .tw] s

theorem FoMoved.refl (n : Fin 8) (s : State) : FoMoved n s.fo[n] s s := ⟨rfl, fun _ _ => rfl, rfl⟩

theorem FoMoved.trans {n : Fin 8} {c d : FoChan} {s t u : State} (h : FoMoved n c s t) (k : FoMoved n d t u) : FoMoved n d s u :=
  ⟨k.chan, fun j hj => (k.others j hj).trans (h.others j hj), k.frame.trans h.frame⟩

/-- A moved output's boot and bus are those of before. -/
theorem FoMoved.powered {n : Fin 8} {c : FoChan} {s t : State} (h : FoMoved n c s t) : poweredOutputs t = poweredOutputs s := by
  rw [poweredOutputs, poweredOutputs, rest_boot h.frame (by decide)]

theorem FoMoved.zbus {n : Fin 8} {c : FoChan} {s t : State} (h : FoMoved n c s t) : t.zbus = s.zbus := rest_zbus h.frame (by decide)

theorem modFo_moved (n : Fin 8) (f : FoChan → FoChan) (s : State) : FoMoved n (f s.fo[n]) s (modFo n f s) :=
  ⟨vmod_get _ _ _, fun _ hj => vmod_get_ne hj _ _, modFo_rest (by decide) n f s⟩

/-- A fused output taken to a state (R137, R140). -/
def toFo (ph : FoPhase) (c : FoChan) : FoChan :=
  if c.phase = ph then c else { c with phase := ph, limTimer := decide (ph = .limit), normTimer := decide (ph = .on) }

@[simp] theorem toFo_phase (ph : FoPhase) (c : FoChan) : (toFo ph c).phase = ph := by
  unfold toFo
  split
  · assumption
  · rfl

/-- A move keeps what belongs to no state. -/
theorem toFo_keeps (ph : FoPhase) (c : FoChan) : (toFo ph c).present = c.present ∧ (toFo ph c).insRunning = c.insRunning ∧
    (toFo ph c).qualified = c.qualified ∧ (toFo ph c).retryTimer = c.retryTimer ∧ (toFo ph c).retryCnt = c.retryCnt ∧
    (toFo ph c).fault = c.fault := by
  unfold toFo
  split <;> exact ⟨rfl, rfl, rfl, rfl, rfl, rfl⟩

theorem foTo_moved (n : Fin 8) (ph : FoPhase) (s : State) : FoMoved n (toFo ph s.fo[n]) s (foTo n ph s) := by
  unfold foTo toFo
  split
  · exact FoMoved.refl n s
  · obtain ⟨hchan, hothers, hframe⟩ := modFo_moved n (fun c => { c with
      phase := ph, limTimer := decide (ph = .limit), normTimer := decide (ph = .on) }) s
    obtain ⟨u, hu⟩ : ∃ u, u = modFo n (fun c => { c with phase := ph, limTimer := decide (ph = .limit), normTimer := decide (ph = .on) }) s := ⟨_, rfl⟩
    rw [← hu] at hchan hothers hframe ⊢
    have hfo := rest_fo (eventEdge_rest (F := [.evc, .tw]) (by decide) (by decide) (13 + n) u) (by decide)
    exact ⟨by rw [hfo, hchan], fun j hj => by rw [hfo, hothers j hj],
      (eventEdge_rest (by decide) (by decide) (13 + n) u).trans hframe⟩

/-- An output of QUALIFY whose t_ins has ended has gone on (R137). -/
def qualifiedFo (powered : Bool) (c : FoChan) : FoChan :=
  if c.phase ≠ .qualify || !c.qualified || !powered then c
  else if !c.commanded then toFo .off c
  else if c.retryTimer then toFo .retryWait c
  else toFo .turnOn c

theorem foQualified_moved (n : Fin 8) (s : State) : FoMoved n (qualifiedFo (poweredOutputs s) s.fo[n]) s (foQualified n s) := by
  unfold foQualified qualifiedFo
  dsimp only
  split
  · exact FoMoved.refl n s
  · split
    · exact foTo_moved n .off s
    · split
      · exact foTo_moved n .retryWait s
      · exact foTo_moved n .turnOn s

/-- An output commanded on, as presence and the bus stand (R137). -/
def enteredFo (powered window : Bool) (c : FoChan) : FoChan :=
  if !c.present then toFo .absent c
  else if !window then toFo .waitBus c
  else qualifiedFo powered (toFo .qualify c)

theorem foEntry_moved (n : Fin 8) (s : State) : FoMoved n (enteredFo (poweredOutputs s) s.zbus.inWindow s.fo[n]) s (foEntry n s) := by
  unfold foEntry enteredFo
  dsimp only
  split
  · exact foTo_moved n .absent s
  · split
    · exact foTo_moved n .waitBus s
    · have hto := foTo_moved n .qualify s
      have hqual := foQualified_moved n (foTo n .qualify s)
      rw [hto.chan, hto.powered] at hqual
      exact hto.trans hqual

/-- The count, the timer, the faults and the presence of an output, which no move of it changes. -/
def foCounts (c : FoChan) : Nat × Bool × Nat × Bool := (c.retryCnt, c.retryTimer, c.fault, c.present)

theorem toFo_counts (ph : FoPhase) (c : FoChan) : foCounts (toFo ph c) = foCounts c := by
  obtain ⟨hpres, -, -, htimer, hcnt, hfault⟩ := toFo_keeps ph c
  rw [foCounts, htimer, hcnt, hfault, hpres, foCounts]

theorem qualifiedFo_counts (powered : Bool) (c : FoChan) : foCounts (qualifiedFo powered c) = foCounts c := by
  unfold qualifiedFo
  split
  · rfl
  · split
    · exact toFo_counts _ _
    · split <;> exact toFo_counts _ _

theorem enteredFo_counts (powered window : Bool) (c : FoChan) : foCounts (enteredFo powered window c) = foCounts c := by
  unfold enteredFo
  split
  · exact toFo_counts _ _
  · split
    · exact toFo_counts _ _
    · exact (qualifiedFo_counts _ _).trans (toFo_counts _ _)

/-! FO_CLEAR (R141). -/

/-- The counts of a fused output cleared. -/
def clearedFo (c : FoChan) : FoChan := { c with retryCnt := 0, retryTimer := false, fault := 0 }

theorem foRetryDone_moved (n : Fin 8) (s : State) : ∃ c, FoMoved n c s (foRetryDone n s) ∧ foCounts c = foCounts s.fo[n] ∧
    (s.fo[n].commanded = true → s.fo[n].qualified = true → c.phase = .turnOn) := by
  unfold foRetryDone
  split
  · next hc => exact ⟨_, foTo_moved n .off s, toFo_counts _ _, fun h => by rw [h] at hc; exact absurd hc (by decide)⟩
  · split
    · exact ⟨_, foTo_moved n .turnOn s, toFo_counts _ _, fun _ _ => toFo_phase _ _⟩
    · next hq => exact ⟨_, foEntry_moved n s, enteredFo_counts _ _ _, fun _ h => absurd h hq⟩

theorem foClearOp_limit {n : Fin 8} {s : State} (h : s.fo[n].phase = .limit) : foClearOp n s = (s, .abort .state) := if_pos h

theorem foClearOp_locked {n : Fin 8} {s : State} (h : s.fo[n].phase = .locked) : foClearOp n s =
    (if s.fo[n].commanded then foEntry n (modFo n clearedFo s) else foTo n .off (modFo n clearedFo s), .done) := by
  unfold foClearOp
  rw [if_neg (by rw [h]; decide), h]
  rfl

theorem foClearOp_retryWait {n : Fin 8} {s : State} (h : s.fo[n].phase = .retryWait) :
    foClearOp n s = (foRetryDone n (modFo n clearedFo s), .done) := by
  unfold foClearOp
  rw [if_neg (by rw [h]; decide), h]
  rfl

theorem foClearOp_other {n : Fin 8} {s : State} (h : s.fo[n].phase ≠ .limit) (hl : s.fo[n].phase ≠ .locked)
    (hr : s.fo[n].phase ≠ .retryWait) : foClearOp n s = (modFo n clearedFo s, .done) := by
  unfold foClearOp
  rw [if_neg h]
  dsimp only
  split
  · next h' => exact absurd h' hl
  · next h' => exact absurd h' hr
  · rfl

theorem foClearOp_moved {n : Fin 8} {s : State} (h : s.fo[n].phase ≠ .limit) : ∃ c,
    FoMoved n c s (foClearOp n s).1 ∧ (foClearOp n s).2 = .done ∧ foCounts c = foCounts (clearedFo s.fo[n]) ∧
    (s.fo[n].phase = .locked → s.fo[n].commanded = false → c.phase = .off) ∧
    (s.fo[n].phase = .retryWait → s.fo[n].commanded = true → s.fo[n].qualified = true → c.phase = .turnOn) := by
  have hmod := modFo_moved n clearedFo s
  by_cases hl : s.fo[n].phase = .locked
  · rw [foClearOp_locked hl]
    cases hc : s.fo[n].commanded
    · have hto := foTo_moved n .off (modFo n clearedFo s)
      rw [hmod.chan] at hto
      exact ⟨_, hmod.trans hto, rfl, toFo_counts _ _, fun _ _ => toFo_phase _ _, fun hr => absurd (hl.symm.trans hr) (by decide)⟩
    · have hentry := foEntry_moved n (modFo n clearedFo s)
      rw [hmod.chan] at hentry
      exact ⟨_, hmod.trans hentry, rfl, enteredFo_counts _ _ _, fun _ h' => (nomatch h'), fun hr => absurd (hl.symm.trans hr) (by decide)⟩
  · by_cases hr : s.fo[n].phase = .retryWait
    · rw [foClearOp_retryWait hr]
      obtain ⟨c, hdone, hcounts, hon⟩ := foRetryDone_moved n (modFo n clearedFo s)
      rw [hmod.chan] at hcounts hon
      exact ⟨c, hmod.trans hdone, rfl, hcounts, fun h' => absurd h' hl, fun _ => hon⟩
    · rw [foClearOp_other h hl hr]
      exact ⟨_, hmod, rfl, rfl, fun h' => absurd h' hl, fun h' => absurd h' hr⟩

/-- FO_CLEAR behind the checks (R141). -/
theorem execFoClear_ok {s : State} {p : Port} {n : Fin 8} {row : ObjRow} (ha : answering s = true)
    (hc : checkWrite s p (0x2220 + n) 0x0B = .ok row) (v : Nat) : exec (.foClear p n v) s =
      .next (setAck (if v = 1 then foClearOp n s else (s, .done)).2 (if v = 1 then foClearOp n s else (s, .done)).1) := by
  show Host.Outcome.next (directWrite p (okey (0x2220 + n) 0x0B) s fun s => if v = 1 then foClearOp n s else (s, .done)) = _
  rw [directWrite_ok (by decide) ha hc]

theorem execFoClear_spec {s : State} {p : Port} {n : Fin 8} {row : ObjRow} (ha : answering s = true)
    (hc : checkWrite s p (0x2220 + n) 0x0B = .ok row) {v : Nat} (hv : v = 1) (hp : s.fo[n].phase ≠ .limit) : ∃ t,
      exec (.foClear p n v) s = .next t ∧ t.ack = .done ∧ t.fo[n].retryCnt = 0 ∧ t.fo[n].retryTimer = false ∧ t.fo[n].fault = 0 ∧
      (s.fo[n].phase = .locked → s.fo[n].commanded = false → t.fo[n].phase = .off) ∧
      (s.fo[n].phase = .retryWait → s.fo[n].commanded = true → s.fo[n].qualified = true → t.fo[n].phase = .turnOn) ∧
      (∀ j : Fin 8, j ≠ n → t.fo[j] = s.fo[j]) ∧ t = { s with fo := t.fo, evc := t.evc, tw := t.tw, ack := t.ack } := by
  have hexec := execFoClear_ok ha hc v
  rw [if_pos hv] at hexec
  obtain ⟨c, ⟨hchan, hothers, hframe⟩, hack, hcounts, hlocked, hretry⟩ := foClearOp_moved hp
  rw [hack] at hexec
  obtain ⟨u, hu⟩ : ∃ u, u = (foClearOp n s).1 := ⟨_, rfl⟩
  rw [← hu] at hexec hchan hothers hframe
  rw [← hchan] at hcounts hlocked hretry
  simp only [foCounts, clearedFo, Prod.mk.injEq] at hcounts
  obtain ⟨hcnt, htimer, hfault, -⟩ := hcounts
  exact ⟨setAck .done u, hexec, rfl, hcnt, htimer, hfault, hlocked, hretry, hothers,
    rest_patch (F := [.fo, .evc, .tw, .ack]) ((setAck_rest (by decide) _ u).trans (rest_mono (by decide) hframe))⟩

/-! The gate of a fused output is off (R147). -/

theorem execFoGateOff_other {n : Fin 8} {s : State} (h : s.fo[n].phase ≠ .disabling) : exec (.foGateOff n) s = .next s := by
  show Host.Outcome.next (foReachOff n s) = _
  rw [foReachOff, if_neg h]

theorem execFoGateOff_spec {n : Fin 8} {s : State} (h : s.fo[n].phase = .disabling) (hh : s.fo[n].onHeld = false) : ∃ t,
    exec (.foGateOff n) s = .next t ∧ t.fo[n].phase = .off ∧ (∀ j : Fin 8, j ≠ n → t.fo[j] = s.fo[j]) ∧
      t = { s with fo := t.fo, evc := t.evc, tw := t.tw } := by
  have hexec : exec (.foGateOff n) s = .next (foTo n .off s) := by
    show Host.Outcome.next (foReachOff n s) = _
    rw [foReachOff, if_pos h]
    dsimp only
    rw [hh, if_neg (by decide)]
  obtain ⟨hchan, hothers, hframe⟩ := foTo_moved n .off s
  exact ⟨_, hexec, by rw [hchan, toFo_phase], hothers, rest_patch hframe⟩

/-! Presence lost and detected (R125, R135, R137). -/

/-- What presence and the bus window make of t_ins (R125). -/
def condFo (window : Bool) (c : FoChan) : FoChan :=
  if c.present && window then if c.insRunning || c.qualified then c else { c with insRunning := true }
  else { c with insRunning := false, qualified := false }

theorem foQualCond_moved (n : Fin 8) (s : State) : FoMoved n (condFo s.zbus.inWindow s.fo[n]) s (foQualCond n s) := by
  unfold foQualCond condFo
  split
  · split
    · exact FoMoved.refl n s
    · exact modFo_moved n (fun c => { c with insRunning := true }) s
  · exact modFo_moved n (fun c => { c with insRunning := false, qualified := false }) s

/-- The timing of t_ins moves no output and keeps its counts. -/
theorem condFo_keeps (window : Bool) (c : FoChan) : (condFo window c).phase = c.phase ∧ (condFo window c).present = c.present ∧
    (condFo window c).commanded = c.commanded ∧ (condFo window c).retryCnt = c.retryCnt := by
  unfold condFo
  split
  · split <;> exact ⟨rfl, rfl, rfl, rfl⟩
  · exact ⟨rfl, rfl, rfl, rfl⟩

/-- Without presence t_ins stands. -/
theorem condFo_absent {c : FoChan} (h : c.present = false) (window : Bool) :
    (condFo window c).insRunning = false ∧ (condFo window c).qualified = false := by
  unfold condFo
  rw [h]
  exact ⟨rfl, rfl⟩

/-- With presence inside the window t_ins runs for an output that has not met it. -/
theorem condFo_runs {c : FoChan} (h : c.present = true) (hq : c.qualified = false) :
    (condFo true c).insRunning = true ∧ (condFo true c).qualified = false := by
  unfold condFo
  cases hi : c.insRunning <;> simp [h, hq, hi]

/-- An output with its presence as given, and t_ins as it then stands. -/
def presenceSet (n : Fin 8) (f : FoChan → FoChan) (s : State) : State := foQualCond n (modFo n f s)

theorem presenceSet_moved (n : Fin 8) (f : FoChan → FoChan) (s : State) :
    FoMoved n (condFo s.zbus.inWindow (f s.fo[n])) s (presenceSet n f s) := by
  have hmod := modFo_moved n f s
  have hcond := foQualCond_moved n (modFo n f s)
  rw [hmod.chan, hmod.zbus] at hcond
  exact hmod.trans hcond

/-- What a wake may change. -/
theorem wakeOn_rest_wake (b : Nat) (s : State) : rest [.pwr, .groups, .rsto, .evc, .tw] (wakeOn b s) = rest [.pwr, .groups, .rsto, .evc, .tw] s :=
  wakeOn_rest (by decide) (by decide) (by decide) (by decide) (by decide) b s

/-- A moved output stands as it was moved after the wake that follows, and nothing else has changed. -/
theorem FoMoved.woken {n : Fin 8} {c : FoChan} {s t : State} (h : FoMoved n c s t) (b : Nat) : (wakeOn b t).fo[n] = c ∧
    (∀ j : Fin 8, j ≠ n → (wakeOn b t).fo[j] = s.fo[j]) ∧
    wakeOn b t = { s with pwr := (wakeOn b t).pwr, fo := (wakeOn b t).fo, groups := (wakeOn b t).groups, rsto := (wakeOn b t).rsto, evc := (wakeOn b t).evc, tw := (wakeOn b t).tw } := by
  have hwake := wakeOn_rest_wake b t
  obtain ⟨w, hw⟩ : ∃ w, w = wakeOn b t := ⟨_, rfl⟩
  rw [← hw] at hwake ⊢
  have hfo := rest_fo hwake (by decide)
  exact ⟨by rw [hfo, h.chan], fun j hj => by rw [hfo, h.others j hj],
    rest_patch (F := [.pwr, .fo, .groups, .rsto, .evc, .tw]) ((rest_mono (by decide) hwake).trans (rest_mono (by decide) h.frame))⟩

/-- Presence gone: a command on ends with it unless outputs are powered (R116). -/
def lostFo (powered : Bool) (c : FoChan) : FoChan := { c with present := false, commanded := c.commanded && powered }

/-- The output after its presence is lost. -/
def presenceLostOp (n : Fin 8) (s : State) : State :=
  if s.fo[n].phase ∈ [.off, .disabling, .locked] then presenceSet n (lostFo (poweredOutputs s)) s
  else foTo n .absent (presenceSet n (lostFo (poweredOutputs s)) s)

theorem execPresenceLost_eq (n : Fin 8) (s : State) : exec (.presenceLost n) s = .next (wakeOn 12 (presenceLostOp n s)) := by
  show execPresenceLost n s = _
  rw [execPresenceLost, presenceLostOp]
  cases s.fo[n].phase <;> rfl

theorem presenceLostOp_moved (n : Fin 8) (s : State) : ∃ c, FoMoved n c s (presenceLostOp n s) ∧ c.present = false ∧
    c.insRunning = false ∧ c.qualified = false ∧
    c.phase = (if s.fo[n].phase ∈ [.off, .disabling, .locked] then s.fo[n].phase else .absent) ∧ c.retryCnt = s.fo[n].retryCnt := by
  have hset := presenceSet_moved n (lostFo (poweredOutputs s)) s
  obtain ⟨hphase, hpres, -, hcnt⟩ := condFo_keeps s.zbus.inWindow (lostFo (poweredOutputs s) s.fo[n])
  obtain ⟨hins, hqual⟩ := condFo_absent (c := lostFo (poweredOutputs s) s.fo[n]) rfl s.zbus.inWindow
  unfold presenceLostOp
  split
  · exact ⟨_, hset, hpres, hins, hqual, hphase, hcnt⟩
  · have hto := foTo_moved n .absent (presenceSet n (lostFo (poweredOutputs s)) s)
    rw [hset.chan] at hto
    obtain ⟨kpres, kins, kqual, -, kcnt, -⟩ := toFo_keeps .absent (condFo s.zbus.inWindow (lostFo (poweredOutputs s) s.fo[n]))
    exact ⟨_, hset.trans hto, kpres.trans hpres, kins.trans hins, kqual.trans hqual, toFo_phase _ _, kcnt.trans hcnt⟩

theorem execPresenceLost_spec (n : Fin 8) (s : State) : ∃ t, exec (.presenceLost n) s = .next t ∧ t.fo[n].present = false ∧
    t.fo[n].insRunning = false ∧ t.fo[n].qualified = false ∧
    t.fo[n].phase = (if s.fo[n].phase ∈ [.off, .disabling, .locked] then s.fo[n].phase else .absent) ∧
    t.fo[n].retryCnt = s.fo[n].retryCnt ∧ (∀ j : Fin 8, j ≠ n → t.fo[j] = s.fo[j]) ∧ t = { s with pwr := t.pwr, fo := t.fo, groups := t.groups, rsto := t.rsto, evc := t.evc, tw := t.tw } := by
  obtain ⟨c, hmoved, hpres, hins, hqual, hphase, hcnt⟩ := presenceLostOp_moved n s
  obtain ⟨hchan, hothers, hframe⟩ := hmoved.woken 12
  rw [← hchan] at hpres hins hqual hphase hcnt
  exact ⟨_, execPresenceLost_eq n s, hpres, hins, hqual, hphase, hcnt, hothers, hframe⟩

/-- Presence there. -/
def foundFo (c : FoChan) : FoChan := { c with present := true }

/-- The output after its presence is detected. -/
def presenceDetectedOp (n : Fin 8) (s : State) : State :=
  if s.fo[n].phase = .absent then
    if !s.fo[n].commanded then foTo n .off (presenceSet n foundFo s)
    else if poweredOutputs s then foEntry n (presenceSet n foundFo s) else presenceSet n foundFo s
  else presenceSet n foundFo s

theorem execPresenceDetected_eq (n : Fin 8) (s : State) : exec (.presenceDetected n) s = .next (wakeOn 12 (presenceDetectedOp n s)) := rfl

/-- An output found present inside the window goes to QUALIFY with t_ins running, and stays there. -/
theorem enteredFo_qualify {c : FoChan} (h : c.present = true) (hq : c.qualified = false) (powered : Bool) :
    enteredFo powered true c = toFo .qualify c := by
  unfold enteredFo qualifiedFo
  rw [h, (toFo_keeps .qualify c).2.2.1, hq, toFo_phase]
  rfl

theorem enteredFo_waitBus {c : FoChan} (h : c.present = true) (powered : Bool) : enteredFo powered false c = toFo .waitBus c := by
  unfold enteredFo
  rw [h]
  rfl

/-- Where an output found present goes on to (R137). -/
theorem enteredFo_found (powered window : Bool) (c : FoChan) (h : c.present = true) :
    (enteredFo powered window (condFo window c)).present = true ∧ (enteredFo powered window (condFo window c)).retryCnt = c.retryCnt ∧
    (window = false → (enteredFo powered window (condFo window c)).phase = .waitBus) ∧
    (window = true → c.qualified = false → (enteredFo powered window (condFo window c)).phase = .qualify ∧
      (enteredFo powered window (condFo window c)).insRunning = true) := by
  obtain ⟨hphase, hpres, -, hcnt⟩ := condFo_keeps window c
  rw [h] at hpres
  have hcounts := enteredFo_counts powered window (condFo window c)
  simp only [foCounts, Prod.mk.injEq] at hcounts
  obtain ⟨kcnt, -, -, kpres⟩ := hcounts
  refine ⟨kpres.trans hpres, kcnt.trans hcnt, fun hw => ?_, fun hw hq => ?_⟩
  · subst hw
    rw [enteredFo_waitBus hpres, toFo_phase]
  · subst hw
    obtain ⟨hins, hqual⟩ := condFo_runs h hq
    rw [enteredFo_qualify hpres hqual, toFo_phase, (toFo_keeps .qualify _).2.1]
    exact ⟨rfl, hins⟩

theorem presenceDetectedOp_moved (n : Fin 8) (s : State) : ∃ c, FoMoved n c s (presenceDetectedOp n s) ∧ c.present = true ∧
    (s.fo[n].phase ≠ .absent → c.phase = s.fo[n].phase) ∧
    (s.fo[n].phase = .absent → s.fo[n].commanded = false → c.phase = .off) ∧
    (s.fo[n].phase = .absent → s.fo[n].commanded = true → poweredOutputs s = false → c.phase = .absent) ∧
    (s.fo[n].phase = .absent → s.fo[n].commanded = true → poweredOutputs s = true →
      (s.zbus.inWindow = false → c.phase = .waitBus) ∧
      (s.zbus.inWindow = true → s.fo[n].qualified = false → c.phase = .qualify ∧ c.insRunning = true)) ∧
    c.retryCnt = s.fo[n].retryCnt := by
  have hset := presenceSet_moved n foundFo s
  obtain ⟨hphase, hpres, -, hcnt⟩ := condFo_keeps s.zbus.inWindow (foundFo s.fo[n])
  unfold presenceDetectedOp
  by_cases ha : s.fo[n].phase = .absent
  · rw [if_pos ha]
    cases hc : s.fo[n].commanded
    · have hto := foTo_moved n .off (presenceSet n foundFo s)
      rw [hset.chan] at hto
      obtain ⟨kpres, -, -, -, kcnt, -⟩ := toFo_keeps .off (condFo s.zbus.inWindow (foundFo s.fo[n]))
      exact ⟨_, hset.trans hto, kpres.trans hpres, fun h => absurd ha h, fun _ _ => toFo_phase _ _, fun _ h => (nomatch h),
        fun _ h => (nomatch h), kcnt.trans hcnt⟩
    · cases hp : poweredOutputs s
      · exact ⟨_, hset, hpres, fun h => absurd ha h, fun _ h => (nomatch h), fun _ _ _ => hphase.trans ha, fun _ _ h => (nomatch h), hcnt⟩
      · have hentry := foEntry_moved n (presenceSet n foundFo s)
        rw [hset.chan, hset.zbus, hset.powered, hp] at hentry
        obtain ⟨kpres, kcnt, kbus, kqual⟩ := enteredFo_found true s.zbus.inWindow (foundFo s.fo[n]) rfl
        exact ⟨_, hset.trans hentry, kpres, fun h => absurd ha h, fun _ h => (nomatch h), fun _ _ h => (nomatch h),
          fun _ _ _ => ⟨kbus, kqual⟩, kcnt⟩
  · rw [if_neg ha]
    exact ⟨_, hset, hpres, fun _ => hphase, fun h => absurd h ha, fun h => absurd h ha, fun h => absurd h ha, hcnt⟩

theorem execPresenceDetected_spec (n : Fin 8) (s : State) : ∃ t, exec (.presenceDetected n) s = .next t ∧ t.fo[n].present = true ∧
    (s.fo[n].phase ≠ .absent → t.fo[n].phase = s.fo[n].phase) ∧
    (s.fo[n].phase = .absent → s.fo[n].commanded = false → t.fo[n].phase = .off) ∧
    (s.fo[n].phase = .absent → s.fo[n].commanded = true → poweredOutputs s = false → t.fo[n].phase = .absent) ∧
    (s.fo[n].phase = .absent → s.fo[n].commanded = true → poweredOutputs s = true →
      (s.zbus.inWindow = false → t.fo[n].phase = .waitBus) ∧
      (s.zbus.inWindow = true → s.fo[n].qualified = false → t.fo[n].phase = .qualify ∧ t.fo[n].insRunning = true)) ∧
    t.fo[n].retryCnt = s.fo[n].retryCnt ∧ (∀ j : Fin 8, j ≠ n → t.fo[j] = s.fo[j]) ∧ t = { s with pwr := t.pwr, fo := t.fo, groups := t.groups, rsto := t.rsto, evc := t.evc, tw := t.tw } := by
  obtain ⟨c, hmoved, hpres, hsame, hoff, habsent, hentry, hcnt⟩ := presenceDetectedOp_moved n s
  obtain ⟨hchan, hothers, hframe⟩ := hmoved.woken 12
  rw [← hchan] at hpres hsame hoff habsent hentry hcnt
  exact ⟨_, execPresenceDetected_eq n s, hpres, hsame, hoff, habsent, hentry, hcnt, hothers, hframe⟩

/-- Settles O14: each command moves its own channel as the state tables say, and nothing of another. -/
theorem channelCommandsAndPresence : Obligations.ChannelCommandsAndPresence := by
  unfold Obligations.ChannelCommandsAndPresence
  refine fun s p row => ⟨fun n ha hc => ⟨execZinEnSet_spec ha hc, execZinEnClear_spec ha hc⟩,
    fun n v ha hc => ⟨fun hv => ?_, fun hv hp => ?_, fun hv hp => execZinClear_spec ha hc hv hp⟩,
    fun n v ha hc => ⟨fun hv => ?_, fun hv hp => ?_, fun hv hp => execFoClear_spec ha hc hv hp⟩,
    fun _ => execFoGateOff_other, fun _ => execFoGateOff_spec, fun n => execPresenceLost_spec n s, fun n => execPresenceDetected_spec n s⟩
  · rw [execZinClear_ok ha hc, if_neg hv]; rfl
  · rw [execZinClear_ok ha hc, if_pos hv, zinClearOp_limit hp]; rfl
  · rw [execFoClear_ok ha hc, if_neg hv]; rfl
  · rw [execFoClear_ok ha hc, if_pos hv, foClearOp_limit hp]; rfl

end Sys2Proof.Proofs

namespace Sys2Proof.Proofs

open Sys2Proof.Machine Sys2Proof.Laws

/-! ### O3: what a frame does at the end that receives it (R32 to R35) -/

/-! One link changes. -/

/-- The state with link `k` become `l`. -/
def putLink (k : Fin 7) (l : LinkState) (s : State) : State := { s with links := vmod s.links k fun _ => l }

@[simp] theorem putLink_get (k : Fin 7) (l : LinkState) (s : State) : (putLink k l s).links[k] = l := vmod_get _ _ _

theorem putLink_get_ne {j k : Fin 7} (h : j ≠ k) (l : LinkState) (s : State) : (putLink k l s).links[j] = s.links[j] := vmod_get_ne h _ _

theorem putLink_self (k : Fin 7) (s : State) : putLink k s.links[k] s = s := by
  have hsame : (vmod s.links k fun _ => s.links[k]) = s.links := (vmod_congr rfl).trans (vmod_same s.links k)
  rw [putLink, hsame]

theorem modLink_putLink (k : Fin 7) (g : LinkState → LinkState) (l : LinkState) (s : State) :
    modLink k g (putLink k l s) = putLink k (g l) s := by
  rw [putLink, modLink, vmod_vmod]
  rfl

/-- The link with one end changed. -/
def setEnd (e : LinkEndSel) (g : LinkEnd → LinkEnd) (l : LinkState) : LinkState :=
  match e with
  | .atHelm => { l with helm := g l.helm }
  | .atRail => { l with rail := g l.rail }

theorem modEnd_putLink (k : Fin 7) (e : LinkEndSel) (g : LinkEnd → LinkEnd) (l : LinkState) (s : State) :
    modEnd k e g (putLink k l s) = putLink k (setEnd e g l) s := by
  cases e <;> exact modLink_putLink k _ l s

theorem modEnd_eq_putLink (k : Fin 7) (e : LinkEndSel) (g : LinkEnd → LinkEnd) (s : State) :
    modEnd k e g s = putLink k (setEnd e g s.links[k]) s := by
  have h := modEnd_putLink k e g s.links[k] s
  rwa [putLink_self] at h

theorem putLink_rest {F : List Fld} (h : Fld.links ∈ F) (k : Fin 7) (l : LinkState) (s : State) : rest F (putLink k l s) = rest F s :=
  rest_with_links h s _

/-! The books of an end that an acknowledgement leaves. -/

@[simp] theorem ackFrames_nextSeq (a : Nat) (e : LinkEnd) : (ackFrames a e).nextSeq = e.nextSeq := by unfold ackFrames; split <;> rfl
@[simp] theorem ackFrames_expected (a : Nat) (e : LinkEnd) : (ackFrames a e).expected = e.expected := by unfold ackFrames; split <;> rfl
@[simp] theorem ackFrames_waiting (a : Nat) (e : LinkEnd) : (ackFrames a e).waiting = e.waiting := by unfold ackFrames; split <;> rfl

/-- An acknowledgement leaves no more frames than there were. -/
theorem ackFrames_unacked_length (a : Nat) (e : LinkEnd) : (ackFrames a e).unacked.length ≤ e.unacked.length := by
  unfold ackFrames
  split
  · have hdrop := (List.dropWhile_suffix (fun f : LinkFrame => decide (f.seq ≠ a % 8)) (l := e.unacked)).length_le
    have htail := (List.tail_sublist (e.unacked.dropWhile fun f => decide (f.seq ≠ a % 8))).length_le
    exact htail.trans hdrop
  · exact Nat.le_refl _

/-- A frame that waits stands among those that wait. -/
theorem mem_waitFrame (f : LinkFrame) (e : LinkEnd) : f ∈ (waitFrame f e).waiting := by simp [waitFrame]

/-- A NAK that waits still does behind any other frame. -/
theorem nakWaits_waitFrame {e : LinkEnd} (h : nakWaits e = true) (f : LinkFrame) : nakWaits (waitFrame f e) = true := by
  obtain ⟨g, hg, hrank⟩ := List.any_eq_true.mp h
  have hrank := of_decide_eq_true hrank
  refine List.any_eq_true.mpr ⟨g, ?_, decide_eq_true hrank⟩
  simp [waitFrame, hg, hrank]

theorem waitFrame_empty {e : LinkEnd} (h : e.waiting = []) (f : LinkFrame) : (waitFrame f e).waiting = [f] := by
  rw [waitFrame, h]
  rfl

/-! A frame that is discarded (R35). -/

theorem onLink_absent {k : Fin 7} {s : State} (h : diePresent s k = false) (f : State → State) : onLink k s f = .fault .absentInPart := by
  rw [onLink, h]; rfl

theorem onLink_up {k : Fin 7} {s : State} (h : diePresent s k = true) (hs : sysRuns s = true) (hu : s.links[k].phase = .up)
    (f : State → State) : onLink k s f = .next (f s) := by
  rw [onLink, h, hs, decide_eq_true hu]; rfl

theorem frameGood_iff (body crc : Nat) : frameGood (body % 2 ^ 64) (crc % 2 ^ 16) = true ↔
    crc % 65536 = crc16 0xFFFF (beBytes 8 (body % 2 ^ 64)) ∧ body / 2 ^ 60 % 16 < 8 := by
  have htype : field (body % 2 ^ 64) 63 60 = body / 2 ^ 60 % 16 := by
    unfold field
    omega
  rw [frameGood, Bool.and_eq_true, decide_eq_true_eq, decide_eq_true_eq, htype]
  rfl

/-- The link once a frame to the end `recv` has failed: the other end has it among its unacknowledged ones (R35). -/
def lostLink (recv : LinkEndSel) (body : Nat) (l : LinkState) : LinkState :=
  if endClear l (otherEnd recv) && decide (2 ≤ field body 63 60)
  then setEnd (otherEnd recv) (frameOut ⟨0, 0, field body 53 48, .raw body, 0⟩) l else l

theorem lostFrame_eq (k : Fin 7) (recv : LinkEndSel) (body : Nat) (s : State) :
    lostFrame k recv body s = putLink k (lostLink recv body s.links[k]) s := by
  unfold lostFrame lostLink
  split
  · exact modEnd_eq_putLink k _ _ s
  · exact (putLink_self k s).symm

theorem linkEnd_setEnd_same (e : LinkEndSel) (g : LinkEnd → LinkEnd) (l : LinkState) : linkEnd (setEnd e g l) e = g (linkEnd l e) := by
  cases e <;> rfl

theorem linkEnd_setEnd_other (e : LinkEndSel) (g : LinkEnd → LinkEnd) (l : LinkState) :
    linkEnd (setEnd (otherEnd e) g l) e = linkEnd l e := by
  cases e <;> rfl

theorem linkEnd_setEnd_across (e : LinkEndSel) (g : LinkEnd → LinkEnd) (l : LinkState) :
    linkEnd (setEnd e g l) (otherEnd e) = linkEnd l (otherEnd e) := by
  cases e <;> rfl

/-- The end that a frame failed to reach is as it was. -/
theorem linkEnd_lostLink (recv : LinkEndSel) (body : Nat) (l : LinkState) : linkEnd (lostLink recv body l) recv = linkEnd l recv := by
  unfold lostLink
  split
  · exact linkEnd_setEnd_other recv _ l
  · rfl

/-- A frame known by its body alone is among the unacknowledged ones of its sender. -/
theorem lostLink_unacked {recv : LinkEndSel} {body : Nat} {l : LinkState} (hc : endClear l (otherEnd recv) = true)
    (hb : 2 ≤ field body 63 60) :
    ∃ f ∈ (linkEnd (lostLink recv body l) (otherEnd recv)).unacked, f.seq = (linkEnd l (otherEnd recv)).nextSeq := by
  rw [lostLink, hc, decide_eq_true hb, Bool.and_self, if_pos rfl, linkEnd_setEnd_same]
  exact ⟨stamped ⟨0, 0, field body 53 48, .raw body, 0⟩ (linkEnd l (otherEnd recv)), by simp [frameOut, numbered], rfl⟩

/-- The link with the NAK of a discarded frame waiting (R35). -/
def nakLink (recv : LinkEndSel) (body : Nat) (l : LinkState) : LinkState :=
  setEnd recv (fun x => waitFrame ⟨0, 0, 0, .nak x.expected, 0⟩ x) (lostLink recv body l)

theorem execLinkFrameBad_bad {s : State} {k : Fin 7} (h : diePresent s k = true) (hs : sysRuns s = true) (hu : s.links[k].phase = .up)
    {e : LinkEndSel} {body crc : Nat} (hbad : frameGood (body % 2 ^ 64) (crc % 2 ^ 16) = false) :
    exec (.linkFrameBad k e body crc) s = .next (putLink k (nakLink e (body % 2 ^ 64) s.links[k]) s) := by
  show execLinkFrameBad k e body crc s = _
  rw [execLinkFrameBad, onLink_up h hs hu]
  rw [hbad, if_neg (by decide), lostFrame_eq, modEnd_putLink]
  rfl

theorem execLinkFrameBad_good {s : State} {k : Fin 7} (h : diePresent s k = true) (hs : sysRuns s = true) (hu : s.links[k].phase = .up)
    {e : LinkEndSel} {body crc : Nat} (hgood : frameGood (body % 2 ^ 64) (crc % 2 ^ 16) = true) :
    exec (.linkFrameBad k e body crc) s = .next s := by
  show execLinkFrameBad k e body crc s = _
  rw [execLinkFrameBad, onLink_up h hs hu]
  rw [hgood, if_pos rfl]

theorem execLinkFrameBad_spec {s : State} {k : Fin 7} (h : diePresent s k = true) (hs : sysRuns s = true) (hu : s.links[k].phase = .up)
    {e : LinkEndSel} {body crc : Nat} (hbad : crc % 65536 ≠ crc16 0xFFFF (beBytes 8 (body % 2 ^ 64)) ∨ 8 ≤ body / 2 ^ 60 % 16) :
    ∃ t, exec (.linkFrameBad k e body crc) s = .next t ∧ t = { s with links := t.links } ∧ (∀ j : Fin 7, j ≠ k → t.links[j] = s.links[j]) ∧
      (∃ f ∈ (linkEnd t.links[k] e).waiting, f.payload = .nak (linkEnd s.links[k] e).expected) ∧
      (linkEnd t.links[k] e).unacked = (linkEnd s.links[k] e).unacked ∧
      (endClear s.links[k] (otherEnd e) = true → 2 ≤ body / 2 ^ 60 % 16 →
        ∃ f ∈ (linkEnd t.links[k] (otherEnd e)).unacked, f.seq = (linkEnd s.links[k] (otherEnd e)).nextSeq) := by
  have hgood : frameGood (body % 2 ^ 64) (crc % 2 ^ 16) = false := by
    refine Bool.eq_false_iff.mpr fun hg => ?_
    obtain ⟨hcrc, htype⟩ := (frameGood_iff body crc).mp hg
    rcases hbad with hbad | hbad
    · exact hbad hcrc
    · omega
  have htype : field (body % 2 ^ 64) 63 60 = body / 2 ^ 60 % 16 := by
    unfold field
    omega
  refine ⟨_, execLinkFrameBad_bad h hs hu hgood, rfl, fun j hj => putLink_get_ne hj _ _, ?_, ?_, fun hc hb => ?_⟩
  · rw [putLink_get, nakLink, linkEnd_setEnd_same, linkEnd_lostLink]
    exact ⟨_, mem_waitFrame _ _, rfl⟩
  · rw [putLink_get, nakLink, linkEnd_setEnd_same, linkEnd_lostLink]
    rfl
  · rw [putLink_get, nakLink, linkEnd_setEnd_across]
    exact lostLink_unacked hc (by rw [htype]; exact hb)

/-! IDLE (R32, R34). -/

theorem execLinkIdle_spec {s : State} {k : Fin 7} (h : diePresent s k = true) (hs : sysRuns s = true) (hu : s.links[k].phase = .up)
    (e : LinkEndSel) (ack : Nat) : ∃ t, exec (.linkIdle k e ack) s = .next t ∧ t = { s with links := t.links } ∧
      (∀ j : Fin 7, j ≠ k → t.links[j] = s.links[j]) ∧ (linkEnd t.links[k] e).waiting = (linkEnd s.links[k] e).waiting ∧
      (linkEnd t.links[k] e).expected = (linkEnd s.links[k] e).expected ∧
      (linkEnd t.links[k] e).unacked.length ≤ (linkEnd s.links[k] e).unacked.length := by
  have hexec : exec (.linkIdle k e ack) s = .next (putLink k (setEnd e (ackFrames ack) s.links[k]) s) := by
    show execLinkIdle k e ack s = _
    rw [execLinkIdle, onLink_up h hs hu, modEnd_eq_putLink]
  refine ⟨_, hexec, rfl, fun j hj => putLink_get_ne hj _ _, ?_⟩
  rw [putLink_get, linkEnd_setEnd_same]
  exact ⟨ackFrames_waiting _ _, ackFrames_expected _ _, ackFrames_unacked_length _ _⟩

/-! A good frame that is the expected one. -/

/-- Link `l` has become `l'` by a frame taken at the end `recv`, and what waited at the other end has left. -/
structure FrameTaken (recv : LinkEndSel) (l l' : LinkState) : Prop where
  expected : (linkEnd l' recv).expected = ((linkEnd l recv).expected + 1) % 8
  waiting : (linkEnd l' recv).waiting = (linkEnd l recv).waiting
  nextSeq : (linkEnd l' recv).nextSeq = (linkEnd l recv).nextSeq
  otherWaiting : (linkEnd l' (otherEnd recv)).waiting = []
  otherExpected : (linkEnd l' (otherEnd recv)).expected = (linkEnd l (otherEnd recv)).expected
  phase : l'.phase = l.phase
  objs : l'.objs = l.objs
  lastWr : l'.lastWr = l.lastWr
  data : l'.data = l.data

/-- A frame that comes again, and is now the expected one. -/
def takenAgain (recv : LinkEndSel) (ack : Nat) (l : LinkState) : LinkState :=
  setEnd recv (fun x => { x with expected := (x.expected + 1) % 8 }) (setEnd recv (ackFrames ack) l)

theorem takenAgain_taken {recv : LinkEndSel} {l : LinkState} (hw : (linkEnd l (otherEnd recv)).waiting = []) (ack : Nat) :
    FrameTaken recv l (takenAgain recv ack l) := by
  cases recv <;>
    exact ⟨by simp [takenAgain, setEnd, linkEnd], by simp [takenAgain, setEnd, linkEnd], by simp [takenAgain, setEnd, linkEnd],
      hw, rfl, rfl, rfl, rfl, rfl⟩

/-- The link once the one frame that waits at the rail die's end has crossed it. -/
def crossedUp (f : LinkFrame) (l : LinkState) : LinkState :=
  { l with
    rail := frameOut f { l.rail with waiting := [] }
    helm := frameIn f { l.rail with waiting := [] } l.helm }

/-- The frame `f` waits at the end across from `recv`, which has had its acknowledgement. -/
def waitsAcross (recv : LinkEndSel) (ack : Nat) (f : LinkFrame) (l : LinkState) : LinkState :=
  setEnd (otherEnd recv) (waitFrame f) (setEnd recv (ackFrames ack) l)

/-- A frame with a SEQ of its own leaves an end with its own books. -/
theorem frameOut_books {f : LinkFrame} (hn : numbered f.payload = true) (e : LinkEnd) : (frameOut f e).nextSeq = (e.nextSeq + 1) % 8 ∧
    (frameOut f e).expected = e.expected ∧ (frameOut f e).waiting = e.waiting := by
  simp [frameOut, hn]

theorem frameIn_books {f : LinkFrame} (hn : numbered f.payload = true) (o e : LinkEnd) : (frameIn f o e).expected = (o.nextSeq + 1) % 8 ∧
    (frameIn f o e).nextSeq = e.nextSeq ∧ (frameIn f o e).waiting = e.waiting := by
  simp [frameIn, hn]

theorem crossed_taken {f : LinkFrame} (hn : numbered f.payload = true) {l : LinkState} (hc : endClear l .atHelm = true) (ack : Nat) :
    FrameTaken .atRail l (crossed f (waitsAcross .atRail ack f l)) := by
  obtain ⟨hexp, hseq, hwait⟩ := frameIn_books hn { (waitsAcross .atRail ack f l).helm with waiting := [] } (ackFrames ack l.rail)
  obtain ⟨-, hout, hleft⟩ := frameOut_books hn { (waitsAcross .atRail ack f l).helm with waiting := [] }
  have hc := of_decide_eq_true hc
  exact ⟨hexp.trans (congrArg (fun n => (n + 1) % 8) hc), hwait.trans (ackFrames_waiting _ _), hseq.trans (ackFrames_nextSeq _ _),
    hleft, hout, rfl, rfl, rfl, rfl⟩

theorem crossedUp_taken {f : LinkFrame} (hn : numbered f.payload = true) {l : LinkState} (hc : endClear l .atRail = true) (ack : Nat) :
    FrameTaken .atHelm l (crossedUp f (waitsAcross .atHelm ack f l)) := by
  obtain ⟨hexp, hseq, hwait⟩ := frameIn_books hn { (waitsAcross .atHelm ack f l).rail with waiting := [] } (ackFrames ack l.helm)
  obtain ⟨-, hout, hleft⟩ := frameOut_books hn { (waitsAcross .atHelm ack f l).rail with waiting := [] }
  have hc := of_decide_eq_true hc
  exact ⟨hexp.trans (congrArg (fun n => (n + 1) % 8) hc), hwait.trans (ackFrames_waiting _ _), hseq.trans (ackFrames_nextSeq _ _),
    hleft, hout, rfl, rfl, rfl, rfl⟩

/-- With nothing waiting nothing leaves the helm die's end. -/
theorem helmPump_none {k : Fin 7} {s : State} (h : s.links[k].helm.waiting = []) : helmPump k s = s := by
  unfold helmPump
  split
  · rfl
  · rw [h, List.foldl_nil, modEnd_eq_putLink]
    refine Eq.trans ?_ (putLink_self k s)
    show putLink k { s.links[k] with helm := { s.links[k].helm with waiting := [] } } s = _
    rw [← h]

/-- With nothing waiting nothing leaves the rail die's end. -/
theorem railPump_none {k : Fin 7} {s : State} (h : s.links[k].rail.waiting = []) : railPump k s = s := by
  unfold railPump
  split
  · rfl
  · have hleave : leaving 3 s.links[k].rail = [] := by rw [leaving, h]; rfl
    have hafter : afterLeaving 3 s.links[k].rail = s.links[k].rail := by
      rw [afterLeaving, h, List.filter_nil, ← h]
    rw [hleave, List.foldl_nil, modEnd_eq_putLink]
    refine Eq.trans ?_ (putLink_self k s)
    show putLink k { s.links[k] with rail := afterLeaving 3 s.links[k].rail } s = _
    rw [hafter]

/-- An end sends whose one waiting frame is no NAK. -/
theorem endSends_one {l : LinkState} {e : LinkEndSel} {f : LinkFrame} (hu : l.phase = .up) (hc : endClear l e = true)
    (hw : (linkEnd l e).waiting = [f]) (hr : payloadRank f.payload ≠ 0) : endSends l e = true := by
  have hn : nakWaits (linkEnd l e) = false := by
    rw [nakWaits, hw]
    simp [hr]
  rw [endSends, hn, hc, decide_eq_true hu]
  rfl

/-- An end with a NAK waiting sends nothing else. -/
theorem endSends_nak {l : LinkState} {e : LinkEndSel} (h : nakWaits (linkEnd l e) = true) : endSends l e = false := by
  rw [endSends, h]; simp

/-- The one frame of the rail die's end reaches the helm die, if it is no TELEMETRY. -/
theorem railPump_one {k : Fin 7} {l : LinkState} {f : LinkFrame} (h : endSends l .atRail = true) (hw : l.rail.waiting = [f])
    (hr : payloadRank f.payload < 3) (s : State) : railPump k (putLink k l s) = helmTakes k f (putLink k (crossedUp f l) s) := by
  have hleave : leaving 3 l.rail = [f] := by rw [leaving, hw]; simp [hr]
  have hafter : afterLeaving 3 l.rail = { l.rail with waiting := [] } := by
    rw [afterLeaving, hw]
    simp [Nat.not_le.mpr hr]
  rw [railPump, putLink_get, h, hleave, modEnd_putLink]
  refine congrArg (helmTakes k f) ?_
  unfold crossLink
  rw [putLink_get, modEnd_putLink, modEnd_putLink]
  show putLink k { l with rail := frameOut f (afterLeaving 3 l.rail), helm := frameIn f (afterLeaving 3 l.rail) l.helm } s = _
  rw [hafter]
  rfl

theorem helmPump_putLink_one {k : Fin 7} {l : LinkState} {f : LinkFrame} (h : endSends l .atHelm = true) (hw : l.helm.waiting = [f])
    (s : State) : helmPump k (putLink k l s) = railTakes k f (putLink k (crossed f l) s) := by
  rw [helmPump_one (by rw [putLink_get]; exact h) (by rw [putLink_get]; exact hw)]
  refine congrArg (railTakes k f) ?_
  exact modLink_putLink k (crossed f) l s

theorem endClear_waitsAcross (recv : LinkEndSel) (ack : Nat) (f : LinkFrame) (l : LinkState) :
    endClear (waitsAcross recv ack f l) (otherEnd recv) = endClear l (otherEnd recv) := by
  cases recv with
  | atHelm =>
    show decide (l.rail.nextSeq = (ackFrames ack l.helm).expected) = decide (l.rail.nextSeq = l.helm.expected)
    rw [ackFrames_expected]
  | atRail =>
    show decide (l.helm.nextSeq = (ackFrames ack l.rail).expected) = decide (l.helm.nextSeq = l.rail.expected)
    rw [ackFrames_expected]

theorem takeFrame_other {k : Fin 7} {recv : LinkEndSel} {seq : Nat} {s : State} (h : (linkEnd s.links[k] recv).expected ≠ seq % 8)
    (ack : Nat) (f : LinkFrame) : takeFrame k recv seq ack f s = putLink k (setEnd recv (ackFrames ack) s.links[k]) s := by
  rw [takeFrame, if_pos h, modEnd_eq_putLink]

/-- A frame of the other end waits there for its turn. -/
theorem takeFrame_clear {k : Fin 7} {recv : LinkEndSel} {seq : Nat} {s : State} (h : (linkEnd s.links[k] recv).expected = seq % 8)
    (hc : endClear s.links[k] (otherEnd recv) = true) (ack : Nat) (f : LinkFrame) :
    takeFrame k recv seq ack f s = pumpEnd k (otherEnd recv) (putLink k (waitsAcross recv ack f s.links[k]) s) := by
  unfold takeFrame
  dsimp only
  rw [if_neg (not_not_intro h), if_pos hc, modEnd_eq_putLink k recv (ackFrames ack), modEnd_putLink]
  rfl

/-- A frame that comes again is taken at once. -/
theorem takeFrame_again {k : Fin 7} {recv : LinkEndSel} {seq : Nat} {s : State} (h : (linkEnd s.links[k] recv).expected = seq % 8)
    (hc : endClear s.links[k] (otherEnd recv) = false) (ack : Nat) (f : LinkFrame) :
    takeFrame k recv seq ack f s = pumpEnd k (otherEnd recv) (endTakes k recv f (putLink k (takenAgain recv ack s.links[k]) s)) := by
  unfold takeFrame
  dsimp only
  rw [if_neg (not_not_intro h), if_neg (by rw [hc]; decide), modEnd_eq_putLink k recv (ackFrames ack), modEnd_putLink]
  rfl

/-- The expected frame at the rail die with nothing else waiting: it does there what it is for. -/
theorem takeFrame_atRail {k : Fin 7} {seq : Nat} {s : State} {f : LinkFrame} (hu : s.links[k].phase = .up)
    (h : s.links[k].rail.expected = seq % 8) (hw : s.links[k].helm.waiting = []) (hn : numbered f.payload = true)
    (hr : payloadRank f.payload ≠ 0) (ack : Nat) : ∃ l, FrameTaken .atRail s.links[k] l ∧
      ((railTakes k f (putLink k l s)).links[k].helm.waiting = [] → takeFrame k .atRail seq ack f s = railTakes k f (putLink k l s)) := by
  cases hc : endClear s.links[k] .atHelm
  · refine ⟨_, takenAgain_taken (recv := .atRail) hw ack, fun hwait => ?_⟩
    rw [takeFrame_again (recv := .atRail) h hc]
    exact helmPump_none hwait
  · refine ⟨_, crossed_taken hn hc ack, fun _ => ?_⟩
    rw [takeFrame_clear (recv := .atRail) h hc]
    have hwait : (waitsAcross .atRail ack f s.links[k]).helm.waiting = [f] := waitFrame_empty hw f
    exact helmPump_putLink_one (endSends_one (l := waitsAcross .atRail ack f s.links[k]) (e := .atHelm) hu ((endClear_waitsAcross .atRail ack f s.links[k]).trans hc) hwait hr) hwait s

/-- The expected frame at the helm die with nothing else waiting, if it is no TELEMETRY. -/
theorem takeFrame_atHelm {k : Fin 7} {seq : Nat} {s : State} {f : LinkFrame} (hu : s.links[k].phase = .up)
    (h : s.links[k].helm.expected = seq % 8) (hw : s.links[k].rail.waiting = []) (hn : numbered f.payload = true)
    (hr : payloadRank f.payload ≠ 0) (hr3 : payloadRank f.payload < 3) (ack : Nat) : ∃ l, FrameTaken .atHelm s.links[k] l ∧
      ((helmTakes k f (putLink k l s)).links[k].rail.waiting = [] → takeFrame k .atHelm seq ack f s = helmTakes k f (putLink k l s)) := by
  cases hc : endClear s.links[k] .atRail
  · refine ⟨_, takenAgain_taken (recv := .atHelm) hw ack, fun hwait => ?_⟩
    rw [takeFrame_again (recv := .atHelm) h hc]
    exact railPump_none hwait
  · refine ⟨_, crossedUp_taken hn hc ack, fun _ => ?_⟩
    rw [takeFrame_clear (recv := .atHelm) h hc]
    have hwait : (waitsAcross .atHelm ack f s.links[k]).rail.waiting = [f] := waitFrame_empty hw f
    exact railPump_one (endSends_one (l := waitsAcross .atHelm ack f s.links[k]) (e := .atRail) hu ((endClear_waitsAcross .atHelm ack f s.links[k]).trans hc) hwait hr) hwait hr3 s

/-- The SEQ after the one that was expected. -/
theorem next_expected {n seq : Nat} (h : n = seq % 8) : (n + 1) % 8 = (seq + 1) % 8 := by omega

/-- A frame that waits behind a NAK goes no further. -/
theorem takeFrame_behind_nak {k : Fin 7} {recv : LinkEndSel} {seq : Nat} {s : State} (h : (linkEnd s.links[k] recv).expected = seq % 8)
    (hc : endClear s.links[k] (otherEnd recv) = true) (hn : nakWaits (linkEnd s.links[k] (otherEnd recv)) = true) (ack : Nat)
    (f : LinkFrame) : takeFrame k recv seq ack f s = putLink k (waitsAcross recv ack f s.links[k]) s := by
  rw [takeFrame_clear h hc]
  cases recv with
  | atHelm =>
    show railPump k _ = _
    have hsend : endSends (waitsAcross .atHelm ack f s.links[k]) .atRail = false := endSends_nak (nakWaits_waitFrame hn f)
    rw [railPump, putLink_get, hsend]
    rfl
  | atRail =>
    show helmPump k _ = _
    have hsend : endSends (waitsAcross .atRail ack f s.links[k]) .atHelm = false := endSends_nak (nakWaits_waitFrame hn f)
    rw [helmPump, putLink_get, hsend]
    rfl

/-! OBJ_WRITE (R33). -/

theorem objWords_of_find {s : State} {k : Fin 7} {key : Nat} {x : Nat × List Nat}
    (h : s.links[k].objs.find? (fun x => decide (x.1 = key)) = some x) : objWords s k key = x.2 := by
  rw [objWords, h]

/-- A local object reads as the frames that wrote it say. -/
theorem objWords_objWord (tag key w : Nat) (k : Fin 7) (l : LinkState) (s : State) : objWords (putLink k (objWord tag key w l) s) k key =
    if l.lastWr = some (tag, key) then (l.objs.find? fun x => decide (x.1 = key)).elim [] Prod.snd ++ [w] else [w] := by
  refine objWords_of_find (x := (key, if l.lastWr = some (tag, key) then
    (l.objs.find? fun x => decide (x.1 = key)).elim [] Prod.snd ++ [w] else [w])) ?_
  rw [putLink_get]
  exact List.find?_cons_of_pos (decide_eq_true rfl)

/-- The words of an object that a frame has written. -/
theorem objWords_written {s : State} {k : Fin 7} {key : Nat} (h : ∃ x ∈ s.links[k].objs, x.1 = key) :
    objWords s k key = (s.links[k].objs.find? fun x => decide (x.1 = key)).elim [] Prod.snd := by
  obtain ⟨x, hx, hkey⟩ := h
  cases hf : s.links[k].objs.find? (fun x => decide (x.1 = key)) with
  | none => exact absurd (decide_eq_true hkey) (List.find?_eq_none.mp hf x hx)
  | some y => exact objWords_of_find hf

theorem execLinkObjWrite_up {s : State} {k : Fin 7} (h : diePresent s k = true) (hs : sysRuns s = true) (hu : s.links[k].phase = .up)
    (seq ack tag obj sub v : Nat) : exec (.linkObjWrite k seq ack tag obj sub v) s =
      .next (takeFrame k .atRail seq ack ⟨0, 0, tag % 64, .objWrite obj sub v, 0⟩ s) :=
  onLink_up h hs hu _

theorem execLinkObjWrite_spec {s : State} {k : Fin 7} (h : diePresent s k = true) (hs : sysRuns s = true) (hu : s.links[k].phase = .up)
    {seq ack tag obj sub v : Nat} (he : s.links[k].rail.expected = seq % 8) (hw : s.links[k].helm.waiting = []) :
    ∃ t, exec (.linkObjWrite k seq ack tag obj sub v) s = .next t ∧ t = { s with links := t.links } ∧ (∀ j : Fin 7, j ≠ k → t.links[j] = s.links[j]) ∧
      t.links[k].rail.expected = (seq + 1) % 8 ∧
      (s.links[k].lastWr ≠ some (tag % 64, obj % 256 * 256 + sub % 256) → objWords t k (obj % 256 * 256 + sub % 256) = [v % 2 ^ 32]) ∧
      (s.links[k].lastWr = some (tag % 64, obj % 256 * 256 + sub % 256) →
        (∃ x ∈ s.links[k].objs, x.1 = obj % 256 * 256 + sub % 256) →
        objWords t k (obj % 256 * 256 + sub % 256) = objWords s k (obj % 256 * 256 + sub % 256) ++ [v % 2 ^ 32]) := by
  obtain ⟨l, htaken, htake⟩ := takeFrame_atRail (f := ⟨0, 0, tag % 64, .objWrite obj sub v, 0⟩) hu he hw rfl (by rw [payloadRank]; decide) ack
  have hrail : railTakes k ⟨0, 0, tag % 64, .objWrite obj sub v, 0⟩ (putLink k l s) =
      putLink k (objWord (tag % 64) (obj % 256 * 256 + sub % 256) (v % 2 ^ 32) l) s := by
    show modLink k (objWord (tag % 64 % 64) (obj % 256 * 256 + sub % 256) (v % 2 ^ 32)) (putLink k l s) = _
    rw [Nat.mod_mod, modLink_putLink]
  rw [hrail, putLink_get] at htake
  refine ⟨_, (execLinkObjWrite_up h hs hu seq ack tag obj sub v).trans (congrArg Host.Outcome.next (htake htaken.otherWaiting)), rfl,
    fun j hj => putLink_get_ne hj _ _, ?_, fun hl => ?_, fun hl hx => ?_⟩
  · rw [putLink_get]
    exact htaken.expected.trans (next_expected he)
  · rw [objWords_objWord, htaken.lastWr, if_neg hl]
  · rw [objWords_objWord, htaken.lastWr, if_pos hl, htaken.objs, objWords_written hx]

theorem execLinkObjWrite_behind_nak {s : State} {k : Fin 7} (h : diePresent s k = true) (hs : sysRuns s = true) (hu : s.links[k].phase = .up)
    {seq ack tag obj sub v : Nat} (he : s.links[k].rail.expected = seq % 8) (hc : endClear s.links[k] .atHelm = true)
    (hn : nakWaits s.links[k].helm = true) :
    ∃ t, exec (.linkObjWrite k seq ack tag obj sub v) s = .next t ∧ t = { s with links := t.links } ∧ t.links[k].objs = s.links[k].objs ∧
      t.links[k].rail.expected = s.links[k].rail.expected ∧ ⟨0, 0, tag % 64, .objWrite obj sub v, 0⟩ ∈ t.links[k].helm.waiting := by
  have hexec := execLinkObjWrite_up h hs hu seq ack tag obj sub v
  rw [takeFrame_behind_nak (recv := .atRail) he hc hn] at hexec
  refine ⟨_, hexec, rfl, ?_⟩
  rw [putLink_get]
  exact ⟨rfl, ackFrames_expected _ _, mem_waitFrame _ _⟩

theorem execLinkObjWrite_other {s : State} {k : Fin 7} (h : diePresent s k = true) (hs : sysRuns s = true) (hu : s.links[k].phase = .up)
    {seq ack tag obj sub v : Nat} (he : s.links[k].rail.expected ≠ seq % 8) :
    ∃ t, exec (.linkObjWrite k seq ack tag obj sub v) s = .next t ∧ t = { s with links := t.links } ∧ t.links[k].objs = s.links[k].objs ∧
      t.links[k].rail.expected = s.links[k].rail.expected := by
  have hexec := execLinkObjWrite_up h hs hu seq ack tag obj sub v
  rw [takeFrame_other (recv := .atRail) he] at hexec
  refine ⟨_, hexec, rfl, ?_⟩
  rw [putLink_get]
  exact ⟨rfl, ackFrames_expected _ _⟩

/-! OBJ_DATA (R33). -/

/-- The link with a data word added under a TAG. -/
def dataAdded (tag w : Nat) (l : LinkState) : LinkState := { l with data := addData tag w l.data }

theorem helmTakes_objData (k : Fin 7) (tag o b w : Nat) (l : LinkState) (s : State) :
    helmTakes k ⟨0, 0, tag % 64, .objData o b w, 0⟩ (putLink k l s) = putLink k (dataAdded (tag % 64) (w % 2 ^ 32) l) s := by
  show modLink k (fun l => { l with data := addData (tag % 64 % 64) (w % 2 ^ 32) l.data }) (putLink k l s) = _
  rw [Nat.mod_mod, modLink_putLink]
  rfl

theorem execLinkObjData_spec {s : State} {k : Fin 7} (h : diePresent s k = true) (hs : sysRuns s = true) (hu : s.links[k].phase = .up)
    {seq ack tag obj sub v : Nat} (he : s.links[k].helm.expected = seq % 8) (hw : s.links[k].rail.waiting = []) :
    ∃ t, exec (.linkObjData k seq ack tag obj sub v) s = .next t ∧ t = { s with links := t.links } ∧
      t.links[k].data = addData (tag % 64) (v % 2 ^ 32) s.links[k].data ∧ t.links[k].helm.expected = (seq + 1) % 8 := by
  obtain ⟨l, htaken, htake⟩ := takeFrame_atHelm (f := ⟨0, 0, tag % 64, .objData obj sub v, 0⟩) hu he hw rfl (by rw [payloadRank]; decide)
    (by rw [payloadRank]; decide) ack
  rw [helmTakes_objData, putLink_get] at htake
  have hexec : exec (.linkObjData k seq ack tag obj sub v) s = _ := onLink_up h hs hu _
  rw [htake htaken.otherWaiting] at hexec
  refine ⟨_, hexec, rfl, ?_⟩
  rw [putLink_get]
  exact ⟨congrArg (addData (tag % 64) (v % 2 ^ 32)) htaken.data, htaken.expected.trans (next_expected he)⟩

/-! OBJ_READ (R33). -/

/-- What an answer leaves of its link: the local objects, the SEQ expected at the rail die, what waits at the helm die. -/
def readBooks (k : Fin 7) (s : State) : List (Nat × List Nat) × Nat × List LinkFrame :=
  (s.links[k].objs, s.links[k].rail.expected, s.links[k].helm.waiting)

theorem readBooks_of_links {k : Fin 7} {s t : State} (h : t.links = s.links) : readBooks k t = readBooks k s := by
  rw [readBooks, h, readBooks]

theorem readBooks_putLink {k : Fin 7} {l : LinkState} {s : State} (ho : l.objs = s.links[k].objs)
    (hr : l.rail.expected = s.links[k].rail.expected) (hh : l.helm.waiting = s.links[k].helm.waiting) :
    readBooks k (putLink k l s) = readBooks k s := by
  rw [readBooks, putLink_get, ho, hr, hh, readBooks]

theorem frameOut_expected (f : LinkFrame) (e : LinkEnd) : (frameOut f e).expected = e.expected := by
  unfold frameOut
  dsimp only
  split <;> rfl

theorem frameIn_waiting (f : LinkFrame) (o e : LinkEnd) : (frameIn f o e).waiting = e.waiting := by
  unfold frameIn
  dsimp only
  split <;> exact ackFrames_waiting _ _

theorem crossLink_readBooks (k : Fin 7) (f : LinkFrame) (s : State) : readBooks k (crossLink k .atHelm f s) = readBooks k s := by
  have hcross : crossLink k .atHelm f s = putLink k { s.links[k] with
      rail := frameOut f s.links[k].rail, helm := frameIn f s.links[k].rail s.links[k].helm } s := by
    unfold crossLink
    dsimp only
    rw [modEnd_eq_putLink k (otherEnd .atHelm), modEnd_putLink]
    rfl
  rw [hcross]
  exact readBooks_putLink rfl (frameOut_expected _ _) (frameIn_waiting _ _ _)

theorem helmTakes_readBooks (k : Fin 7) (f : LinkFrame) (s : State) : readBooks k (helmTakes k f s) = readBooks k s := by
  unfold helmTakes
  split
  · exact readBooks_of_links (rest_links (eventIn_rest (F := [.evc, .tw]) (by decide) (by decide) _ _ _) (by decide))
  · next w _ =>
    show readBooks k (modLink k (dataAdded (f.tag % 64) (w % 2 ^ 32)) s) = _
    have hmod := modLink_putLink k (dataAdded (f.tag % 64) (w % 2 ^ 32)) s.links[k] s
    rw [putLink_self] at hmod
    rw [hmod]
    exact readBooks_putLink rfl rfl rfl
  · rfl

theorem modEnd_readBooks {k : Fin 7} {g : LinkEnd → LinkEnd} (hg : ∀ e, (g e).expected = e.expected) (s : State) :
    readBooks k (modEnd k .atRail g s) = readBooks k s := by
  rw [modEnd_eq_putLink]
  exact readBooks_putLink rfl (hg _) rfl

theorem railPump_readBooks (k : Fin 7) (s : State) : readBooks k (railPump k s) = readBooks k s := by
  unfold railPump
  split
  · rfl
  · rw [foldl_keeps (readBooks k) (fun a f => (helmTakes_readBooks k f _).trans (crossLink_readBooks k f a))]
    exact modEnd_readBooks (g := afterLeaving 3) (fun _ => rfl) s

theorem railSend_readBooks (k : Fin 7) (tag : Nat) (p : FramePayload) (s : State) : readBooks k (railSend k tag p s) = readBooks k s :=
  (railPump_readBooks k _).trans (modEnd_readBooks (g := waitFrame ⟨0, 0, tag % 64, p, 0⟩) (fun _ => rfl) s)

theorem objAnswer_readBooks (k : Fin 7) (tag o b : Nat) (s : State) : readBooks k (objAnswer k tag o b s) = readBooks k s :=
  foldl_keeps (readBooks k) (fun _ _ => railSend_readBooks k tag _ _) _ _

/-- An end whose frames leave at once, with the link UP. -/
structure SendsAtOnce (l : LinkState) : Prop where
  up : l.phase = .up
  waiting : l.rail.waiting = []
  clear : endClear l .atRail = true

/-- A data word of a free end crosses at once. -/
theorem railSend_free {k : Fin 7} {l : LinkState} (h : SendsAtOnce l) (tag o b w : Nat) (s : State) : ∃ l', SendsAtOnce l' ∧
    l'.data = addData (tag % 64) (w % 2 ^ 32) l.data ∧ railSend k tag (.objData o b w) (putLink k l s) = putLink k l' s := by
  obtain ⟨hup, hwait, hclear⟩ := h
  have hone : (waitFrame ⟨0, 0, tag % 64, .objData o b w, 0⟩ l.rail).waiting = [⟨0, 0, tag % 64, .objData o b w, 0⟩] := waitFrame_empty hwait _
  have hsend : endSends { l with rail := waitFrame ⟨0, 0, tag % 64, .objData o b w, 0⟩ l.rail } .atRail = true :=
    endSends_one hup hclear hone (by rw [payloadRank]; decide)
  refine ⟨dataAdded (tag % 64) (w % 2 ^ 32)
    (crossedUp ⟨0, 0, tag % 64, .objData o b w, 0⟩ { l with rail := waitFrame ⟨0, 0, tag % 64, .objData o b w, 0⟩ l.rail }), ⟨hup, rfl, ?_⟩, rfl, ?_⟩
  · exact decide_eq_true rfl
  · rw [railSend, modEnd_putLink]
    exact (railPump_one hsend hone (by rw [payloadRank]; decide) s).trans (helmTakes_objData k tag o b w _ s)

/-- The words of an answer cross one by one. -/
theorem railSends_free {k : Fin 7} (tag o b : Nat) (s : State) (ws : List Nat) {l : LinkState} (h : SendsAtOnce l) : ∃ l',
    l'.data = ws.foldl (fun d w => addData (tag % 64) (w % 2 ^ 32) d) l.data ∧
    ws.foldl (fun a w => railSend k tag (.objData o b w) a) (putLink k l s) = putLink k l' s := by
  induction ws generalizing l with
  | nil => exact ⟨l, rfl, rfl⟩
  | cons w ws ih =>
    obtain ⟨l₁, hfree, hdata, hsend⟩ := railSend_free (k := k) h tag o b w s
    obtain ⟨l', hdata', hsends⟩ := ih hfree
    rw [List.foldl_cons, List.foldl_cons, hsend, ← hdata]
    exact ⟨l', hdata', hsends⟩

theorem objWords_putLink {k : Fin 7} {l : LinkState} {s : State} (h : l.objs = s.links[k].objs) (key : Nat) :
    objWords (putLink k l s) k key = objWords s k key := by
  unfold objWords
  rw [putLink_get, h]
  rfl

theorem execLinkObjRead_spec {s : State} {k : Fin 7} (h : diePresent s k = true) (hs : sysRuns s = true) (hu : s.links[k].phase = .up)
    {seq ack tag obj sub : Nat} (he : s.links[k].rail.expected = seq % 8) (hw : s.links[k].helm.waiting = []) :
    ∃ t, exec (.linkObjRead k seq ack tag obj sub) s = .next t ∧ t = { s with links := t.links, evc := t.evc, tw := t.tw, freeCtr := t.freeCtr } ∧
      t.links[k].objs = s.links[k].objs ∧ t.links[k].rail.expected = (seq + 1) % 8 ∧
      (endFree s.links[k] .atRail = true → t.evc = s.evc ∧ t.tw = s.tw ∧
        t.links[k].data = (objWords s k (obj % 256 * 256 + sub % 256)).foldl
          (fun d w => addData (tag % 64) (w % 2 ^ 32) d) s.links[k].data) := by
  obtain ⟨l, htaken, htake⟩ := takeFrame_atRail (f := ⟨0, 0, tag % 64, .objRead obj sub, 0⟩) hu he hw rfl (by rw [payloadRank]; decide) ack
  have hbooks := objAnswer_readBooks k (tag % 64) obj sub (putLink k l s)
  have hrest := objAnswer_rest (F := [.links, .evc, .tw, .freeCtr]) (by decide) (by decide) (by decide) (by decide) k (tag % 64) obj sub (putLink k l s)
  simp only [readBooks, putLink_get, Prod.mk.injEq] at hbooks
  obtain ⟨hobjs, hexp, hwait⟩ := hbooks
  have hexec : exec (.linkObjRead k seq ack tag obj sub) s = _ := onLink_up h hs hu _
  rw [htake (hwait.trans htaken.otherWaiting)] at hexec
  refine ⟨_, hexec, rest_patch (F := [.links, .evc, .tw, .freeCtr]) (hrest.trans (putLink_rest (by decide) k l s)), hobjs.trans htaken.objs,
    hexp.trans (htaken.expected.trans (next_expected he)), fun hf => ?_⟩
  obtain ⟨hempty, hclear⟩ := (Bool.and_eq_true _ _).mp hf
  have hfree : SendsAtOnce l := ⟨htaken.phase.trans hu, htaken.waiting.trans (List.isEmpty_iff.mp hempty), by
    have hc := of_decide_eq_true hclear
    refine decide_eq_true ?_
    exact htaken.nextSeq.trans (hc.trans htaken.otherExpected.symm)⟩
  obtain ⟨l', hdata, hsends⟩ := railSends_free (k := k) (tag % 64) (obj % 256) (sub % 256) s (objWords s k (obj % 256 * 256 + sub % 256)) hfree
  have hanswer : objAnswer k (tag % 64) obj sub (putLink k l s) = useFree (putLink k l' s) := by
    rw [objAnswer, objWords_putLink htaken.objs, hsends]
  show (objAnswer k (tag % 64) obj sub (putLink k l s)).evc = _ ∧ (objAnswer k (tag % 64) obj sub (putLink k l s)).tw = _ ∧
    (objAnswer k (tag % 64) obj sub (putLink k l s)).links[k].data = _
  rw [hanswer]
  refine ⟨rfl, rfl, ?_⟩
  show (putLink k l' s).links[k].data = _
  rw [putLink_get, hdata, htaken.data, Nat.mod_mod]

/-! TELEMETRY (R27). -/

theorem telemetryPump_none {k : Fin 7} {s : State} (h : s.links[k].rail.waiting = []) : telemetryPump k s = s := by
  unfold telemetryPump
  split
  · rfl
  · rw [h, List.foldl_nil, modEnd_eq_putLink]
    refine Eq.trans ?_ (putLink_self k s)
    show putLink k { s.links[k] with rail := { s.links[k].rail with waiting := [] } } s = _
    rw [← h]

/-- The one TELEMETRY frame of the rail die's end goes into the mirror. -/
theorem telemetryPump_one {k : Fin 7} {l : LinkState} {ofs v : Nat} (h : endSends l .atRail = true)
    (hw : l.rail.waiting = [⟨0, 0, 0, .telemetry ofs v, 0⟩]) (s : State) :
    telemetryPump k (putLink k l s) = mirrorWord k ofs v (putLink k (crossedUp ⟨0, 0, 0, .telemetry ofs v, 0⟩ l) s) := by
  rw [telemetryPump, putLink_get, h, hw, modEnd_putLink]
  refine congrArg (mirrorWord k ofs v) ?_
  unfold crossLink
  rw [putLink_get, modEnd_putLink, modEnd_putLink]
  rfl

/-- A TELEMETRY frame stays where it waits until nothing else does. -/
theorem railPump_telemetry {k : Fin 7} {l : LinkState} {ofs v : Nat} (hw : l.rail.waiting = [⟨0, 0, 0, .telemetry ofs v, 0⟩]) (s : State) :
    railPump k (putLink k l s) = putLink k l s := by
  have hleave : leaving 3 l.rail = [] := by rw [leaving, hw]; rfl
  have hafter : afterLeaving 3 l.rail = l.rail := by
    have hkeep : l.rail.waiting.filter (fun f => decide (3 ≤ payloadRank f.payload)) = l.rail.waiting := by rw [hw]; rfl
    rw [afterLeaving, hkeep]
  unfold railPump
  split
  · rfl
  · rw [putLink_get, hleave, List.foldl_nil, modEnd_putLink]
    show putLink k { l with rail := afterLeaving 3 l.rail } s = _
    rw [hafter]

/-- A TELEMETRY frame at the helm die, and what then leaves the rail die. -/
def telemetryTaken (k : Fin 7) (seq ack ofs v : Nat) (s : State) : State :=
  telemetryPump k (if s.links[k].helm.expected = seq % 8 ∧ !endClear s.links[k] .atRail
    then mirrorWord k ofs v (takeFrame k .atHelm seq ack ⟨0, 0, 0, .telemetry ofs v, 0⟩ s)
    else takeFrame k .atHelm seq ack ⟨0, 0, 0, .telemetry ofs v, 0⟩ s)

theorem execLinkTelemetry_up {s : State} {k : Fin 7} (h : diePresent s k = true) (hs : sysRuns s = true) (hu : s.links[k].phase = .up)
    (seq ack ofs v : Nat) : exec (.linkTelemetry k seq ack ofs v) s = .next (telemetryTaken k seq ack ofs v s) := by
  show execLinkTelemetry k seq ack ofs v s = _
  rw [execLinkTelemetry, onLink_up h hs hu]
  rfl

/-- The expected TELEMETRY frame with nothing else waiting: its word is in the mirror. -/
theorem telemetryTaken_expected {s : State} {k : Fin 7} {seq ofs v : Nat} (hu : s.links[k].phase = .up)
    (he : s.links[k].helm.expected = seq % 8) (hw : s.links[k].rail.waiting = []) (ack : Nat) : ∃ l, FrameTaken .atHelm s.links[k] l ∧
      telemetryTaken k seq ack ofs v s = mirrorWord k ofs v (putLink k l s) := by
  cases hc : endClear s.links[k] .atRail
  · have htaken := takenAgain_taken (recv := .atHelm) hw ack
    refine ⟨_, htaken, ?_⟩
    have hnone : (putLink k (takenAgain .atHelm ack s.links[k]) s).links[k].rail.waiting = [] := by
      rw [putLink_get]; exact htaken.otherWaiting
    have htake : takeFrame k .atHelm seq ack ⟨0, 0, 0, .telemetry ofs v, 0⟩ s = putLink k (takenAgain .atHelm ack s.links[k]) s := by
      rw [takeFrame_again (recv := .atHelm) he hc]
      exact railPump_none hnone
    rw [telemetryTaken, if_pos ⟨he, by rw [hc]; rfl⟩, htake]
    exact telemetryPump_none hnone
  · have hwait : (waitsAcross .atHelm ack ⟨0, 0, 0, .telemetry ofs v, 0⟩ s.links[k]).rail.waiting = [⟨0, 0, 0, .telemetry ofs v, 0⟩] :=
      waitFrame_empty hw _
    refine ⟨_, crossedUp_taken (f := ⟨0, 0, 0, .telemetry ofs v, 0⟩) rfl hc ack, ?_⟩
    have htake : takeFrame k .atHelm seq ack ⟨0, 0, 0, .telemetry ofs v, 0⟩ s =
        putLink k (waitsAcross .atHelm ack ⟨0, 0, 0, .telemetry ofs v, 0⟩ s.links[k]) s := by
      rw [takeFrame_clear (recv := .atHelm) he hc]
      exact railPump_telemetry hwait s
    rw [telemetryTaken, if_neg (by rw [hc]; simp), htake]
    have hclear := (endClear_waitsAcross .atHelm ack ⟨0, 0, 0, .telemetry ofs v, 0⟩ s.links[k]).trans hc
    have hrank : payloadRank (.telemetry ofs v) ≠ 0 := by rw [payloadRank]; decide
    exact telemetryPump_one (endSends_one (l := waitsAcross .atHelm ack ⟨0, 0, 0, .telemetry ofs v, 0⟩ s.links[k]) (e := .atRail)
      hu hclear hwait hrank) hwait s

theorem mirrorWord_mem (k : Fin 7) (ofs v : Nat) (s : State) : (mirrorWord k ofs v s).hamper.mem =
    Memory.putBytes s.hamper.mem (0x2C000 + k * 0x4000 + 4 * (ofs % 4096)) (leBytes 4 v) := rfl

theorem execLinkTelemetry_spec {s : State} {k : Fin 7} (h : diePresent s k = true) (hs : sysRuns s = true) (hu : s.links[k].phase = .up)
    {seq ack ofs v : Nat} (he : s.links[k].helm.expected = seq % 8) (hw : s.links[k].rail.waiting = []) (hm : Canonical s) :
    ∃ t, exec (.linkTelemetry k seq ack ofs v) s = .next t ∧ t = { s with links := t.links, hamper := t.hamper } ∧ t.links[k].helm.expected = (seq + 1) % 8 ∧
      Memory.getBytes t.hamper.mem (0x2C000 + k * 0x4000 + 4 * (ofs % 4096)) 4 = leBytes 4 v ∧
      ∀ a, a < 0x2C000 + k * 0x4000 + 4 * (ofs % 4096) ∨ 0x2C000 + k * 0x4000 + 4 * (ofs % 4096) + 4 ≤ a →
        Memory.get t.hamper.mem a = Memory.get s.hamper.mem a := by
  obtain ⟨l, htaken, htake⟩ := telemetryTaken_expected (ofs := ofs) (v := v) hu he hw ack
  have hexec := execLinkTelemetry_up h hs hu seq ack ofs v
  rw [htake] at hexec
  have hlen := leBytes_length 4 v
  have hm' : Memory.wf (putLink k l s).hamper.mem = true := hm
  refine ⟨_, hexec, rfl, ?_, ?_, fun a ha => ?_⟩
  · show (putLink k l s).links[k].helm.expected = _
    rw [putLink_get]
    exact htaken.expected.trans (next_expected he)
  · have hback := Mem.getBytes_putBytes (k := 0x2C000 + k * 0x4000 + 4 * (ofs % 4096)) (l := leBytes 4 v) hm' (by omega)
    rwa [hlen, ← mirrorWord_mem] at hback
  · rw [mirrorWord_mem]
    exact Mem.get_putBytes_other hm' (by rw [hlen]; exact ha)

theorem execLinkTelemetry_behind_nak {s : State} {k : Fin 7} (h : diePresent s k = true) (hs : sysRuns s = true) (hu : s.links[k].phase = .up)
    {seq ack ofs v : Nat} (he : s.links[k].helm.expected = seq % 8) (hc : endClear s.links[k] .atRail = true)
    (hn : nakWaits s.links[k].rail = true) :
    ∃ t, exec (.linkTelemetry k seq ack ofs v) s = .next t ∧ t = { s with links := t.links } ∧ ⟨0, 0, 0, .telemetry ofs v, 0⟩ ∈ t.links[k].rail.waiting := by
  have htake := takeFrame_behind_nak (recv := .atHelm) he hc hn ack ⟨0, 0, 0, .telemetry ofs v, 0⟩
  have hsend : endSends (waitsAcross .atHelm ack ⟨0, 0, 0, .telemetry ofs v, 0⟩ s.links[k]) .atRail = false :=
    endSends_nak (nakWaits_waitFrame hn _)
  have hpump : telemetryTaken k seq ack ofs v s = putLink k (waitsAcross .atHelm ack ⟨0, 0, 0, .telemetry ofs v, 0⟩ s.links[k]) s := by
    rw [telemetryTaken, if_neg (by rw [hc]; simp), htake, telemetryPump, putLink_get, hsend]
    rfl
  have hexec := execLinkTelemetry_up h hs hu seq ack ofs v
  rw [hpump] at hexec
  refine ⟨_, hexec, rfl, ?_⟩
  rw [putLink_get]
  exact mem_waitFrame _ _

theorem execLinkTelemetry_other {s : State} {k : Fin 7} (h : diePresent s k = true) (hs : sysRuns s = true) (hu : s.links[k].phase = .up)
    {seq ack ofs v : Nat} (he : s.links[k].helm.expected ≠ seq % 8) (hw : s.links[k].rail.waiting = []) :
    ∃ t, exec (.linkTelemetry k seq ack ofs v) s = .next t ∧ t = { s with links := t.links } := by
  have hpump : telemetryTaken k seq ack ofs v s = putLink k (setEnd .atHelm (ackFrames ack) s.links[k]) s := by
    rw [telemetryTaken, if_neg fun hc => he hc.1, takeFrame_other (recv := .atHelm) he]
    refine telemetryPump_none ?_
    rw [putLink_get]
    exact hw
  have hexec := execLinkTelemetry_up h hs hu seq ack ofs v
  rw [hpump] at hexec
  exact ⟨_, hexec, rfl⟩

/-- A frame of an absent die faults. -/
theorem linkFrames_absent {s : State} {k : Fin 7} (h : diePresent s k = false) (e : LinkEndSel) (body crc seq ack tag obj sub v : Nat) :
    exec (.linkFrameBad k e body crc) s = .fault .absentInPart ∧ exec (.linkIdle k e ack) s = .fault .absentInPart ∧
    exec (.linkObjWrite k seq ack tag obj sub v) s = .fault .absentInPart ∧ exec (.linkTelemetry k seq ack obj v) s = .fault .absentInPart := by
  refine ⟨?_, onLink_absent h _, onLink_absent h _, ?_⟩
  · show execLinkFrameBad k e body crc s = _
    rw [execLinkFrameBad, onLink_absent h]
  · show execLinkTelemetry k seq ack obj v s = _
    rw [execLinkTelemetry, onLink_absent h]

/-- Settles O3: a frame taken at one end moves that end's SEQ on and does there what its TYPE says. -/
theorem linkReceive : Obligations.LinkReceive := by
  unfold Obligations.LinkReceive
  refine fun s k => ⟨linkFrames_absent, fun h hs hu => ⟨fun _ _ _ => execLinkFrameBad_spec h hs hu, fun e body crc hcrc htype => ?_, execLinkIdle_spec h hs hu,
      fun _ _ _ _ _ _ => execLinkObjWrite_spec h hs hu, fun _ _ _ _ _ _ => execLinkObjWrite_behind_nak h hs hu,
      fun _ _ _ _ _ _ => execLinkObjWrite_other h hs hu, fun _ _ _ _ _ => execLinkObjRead_spec h hs hu,
      fun _ _ _ _ _ _ => execLinkObjData_spec h hs hu, fun _ _ _ _ => execLinkTelemetry_spec h hs hu,
      fun _ _ _ _ => execLinkTelemetry_behind_nak h hs hu, fun _ _ _ _ => execLinkTelemetry_other h hs hu⟩⟩
  exact execLinkFrameBad_good h hs hu ((frameGood_iff body crc).mpr ⟨hcrc, htype⟩)

end Sys2Proof.Proofs

namespace Sys2Proof.Proofs

open Sys2Proof.Machine Sys2Proof.Laws

/-! ### O49: a link that goes down in the microsecond of a queued request

The last clause says of any links that a queued request of a port that may serve is served besides what else the microsecond does. What
waits at the link ends can take the port out of service before its turn: a NAK that arrives for a frame at its third attempt takes the
link down (R36), and the fault of a rail whose reaction is SYSTEM_RESET starts a full reset, which stops the port (R110). -/

/-- The request that waits. -/
def waitingReq : NetReq := .malformed 0 0 0 0

/-- Port 0 takes part in traffic with a request queued; at the helm die's end of link 0 waits the NAK of a frame whose second attempt
has failed; item 0, a rail of that die, has the reaction SYSTEM_RESET. -/
def resetByNak : State := { State.reset with
  boot.phase := .ready
  boot.step8 := true
  pwr.state := .run
  settings := [(okey 0x3400 1, 0), (okey 0x2500 1, 0), (okey 0x2600 1, 0), (okey 0x2600 2, 3)]
  can := vmod State.reset.can 0 fun c => { c with phase := .errorActive, inForce := [0, 2, 63, 16, 16, 1, 31, 8, 8, 0, 32], rxQueue := [waitingReq] }
  links := vmod State.reset.links 0 fun l => { l with
    phase := .up
    helm := { l.helm with waiting := [⟨0, 0, 0, .nak 0, 0⟩] }
    rail := { l.rail with unacked := [⟨0, 0, 0, .telemetry 0 0, 2⟩] } } }

theorem resetByNak_meets : resetByNak.boot.phase ≠ .porHeld ∧ sysRuns resetByNak = true ∧
    (∀ j : Fin 4, resetByNak.can[j].disabling = false) ∧ (∀ j : Fin 4, j ≠ 0 → resetByNak.can[j].rxQueue = []) ∧
    canTimingOk resetByNak 0 = true ∧ netReady resetByNak 0 = true ∧ resetByNak.can[(0 : Fin 4)].rxQueue = [waitingReq] := by
  decide +kernel

/-- The same state without the request. -/
def resetByNakIdle : State := { resetByNak with can := vmod resetByNak.can 0 fun c => { c with rxQueue := [] } }

/-- The request served besides, as the clause says. -/
def servedBesides : State :=
  serveReq 0 waitingReq { tick resetByNakIdle with can := vmod (tick resetByNakIdle).can 0 fun c => { c with rxQueue := [] } }

/-- The microsecond counts no request. -/
theorem tick_resetByNak_reqCnt : (tick resetByNak).can[(0 : Fin 4)].reqCnt = 0 := by decide +kernel

theorem servedBesides_reqCnt : servedBesides.can[(0 : Fin 4)].reqCnt = 1 := by decide +kernel

/-- Refutes O49: in `resetByNak` the microsecond starts a full reset before the port's turn, and its request is not served. -/
theorem not_emptyQueueTicks : ¬ Obligations.EmptyQueueTicks := by
  intro h
  obtain ⟨-, -, -, hserved⟩ := h resetByNak rfl
  obtain ⟨hpor, hsys, hdis, hother, htiming, hready, hqueue⟩ := resetByNak_meets
  have hstep : step resetByNak = .next servedBesides :=
    hserved 0 waitingReq [] resetByNakIdle (tick resetByNakIdle) hpor hsys hdis hother htiming hready hqueue rfl rfl
  have htick : tick resetByNak = servedBesides := Host.Outcome.next.inj hstep
  have hcount := servedBesides_reqCnt
  rw [← htick, tick_resetByNak_reqCnt] at hcount
  exact absurd hcount (by decide)

end Sys2Proof.Proofs

namespace Sys2Proof.Proofs

open Sys2Proof.Machine Sys2Proof.Laws

/-! ### O43: start, disable, bus-off, error states, heartbeats and malformed frames of a CAN port (R497 to R519) -/

/-! One port changes. -/

theorem modCan_get (n : Fin 4) (f : CanPort → CanPort) (s : State) : (modCan n f s).can[n] = f s.can[n] := vmod_get _ _ _

theorem modCan_get_ne {j n : Fin 4} (h : j ≠ n) (f : CanPort → CanPort) (s : State) : (modCan n f s).can[j] = s.can[j] := vmod_get_ne h _ _

theorem modCan_modCan (n : Fin 4) (f g : CanPort → CanPort) (s : State) : modCan n g (modCan n f s) = modCan n (fun c => g (f c)) s := by
  unfold modCan
  rw [vmod_vmod]

/-- Two changes that agree on the port as it stands. -/
theorem modCan_congr {n : Fin 4} {s : State} {f g : CanPort → CanPort} (h : f s.can[n] = g s.can[n]) : modCan n f s = modCan n g s := by
  unfold modCan
  rw [vmod_congr h]

theorem modCan_id {n : Fin 4} {s : State} {f : CanPort → CanPort} (h : f s.can[n] = s.can[n]) : modCan n f s = s := by
  refine (modCan_congr (g := fun c => c) h).trans ?_
  unfold modCan
  rw [vmod_same]

/-! Start (R497, R501). -/

theorem canStart_other {n : Fin 4} {s : State} (h : (s.can[n].phase.stopped && !s.can[n].disabling) = false) : canStart n s = s := by
  rw [canStart, h]; rfl

theorem canStart_runs {n : Fin 4} {s : State} (hs : s.can[n].phase.stopped = true) (hd : s.can[n].disabling = false)
    (hr : canShouldRun s n = true) : canStart n s = modCan n (fun c => { c with phase := .starting, hbCnt := 0, tec := 0, rec_ := 0 }) s := by
  rw [canStart, hs, hd, hr]; rfl

theorem canStart_refused {n : Fin 4} {s : State} (hs : s.can[n].phase.stopped = true) (hd : s.can[n].disabling = false)
    (hr : canShouldRun s n = false) : canStart n s =
      modCan n (fun c => { c with phase := if s.canEn n && poweredOutputs s && !canClock s then .noClock else .disabled }) s := by
  rw [canStart, hs, hd, hr]; rfl

/-- The state of traffic of a port that has started (R497). -/
def trafficPhase (monitor : Bool) : CanPhase := if monitor then .monitoring else .errorActive

theorem execCanPortStart_starting {n : Fin 4} {s t : State} (ht : canStart n s = t) (hp : t.can[n].phase = .starting) :
    exec (.canPortStart n) s = .next (modCan n (fun c => { c with phase := trafficPhase (canMonitor t n) }) t) := by
  show execCanPortStart n s = _
  rw [execCanPortStart, ht, if_pos hp]
  rfl

theorem execCanPortStart_other {n : Fin 4} {s t : State} (ht : canStart n s = t) (hp : t.can[n].phase ≠ .starting) :
    exec (.canPortStart n) s = .next t := by
  show execCanPortStart n s = _
  rw [execCanPortStart, ht, if_neg hp]

/-- A port that starts is not stopped. -/
theorem canStart_starting {n : Fin 4} {s : State} (h : s.can[n].phase = .starting) : canStart n s = s :=
  canStart_other (by rw [h]; rfl)

theorem execCanPortStart_runs {n : Fin 4} {s : State} (hs : s.can[n].phase.stopped = true) (hd : s.can[n].disabling = false)
    (hr : canShouldRun s n = true) : ∃ t,
      exec (.canPortStart n) s = .next t ∧ t.can[n].phase = (if canMonitor s n = true then .monitoring else .errorActive) ∧
      t.can[n].tec = 0 ∧ t.can[n].rec_ = 0 ∧ t.can[n].hbCnt = 0 ∧ (∀ j : Fin 4, j ≠ n → t.can[j] = s.can[j]) ∧ t = { s with can := t.can } := by
  have hstart := canStart_runs hs hd hr
  obtain ⟨u, hu⟩ : ∃ u, u = modCan n (fun c => { c with phase := .starting, hbCnt := 0, tec := 0, rec_ := 0 }) s := ⟨_, rfl⟩
  have hport : u.can[n] = { s.can[n] with phase := .starting, hbCnt := 0, tec := 0, rec_ := 0 } := by rw [hu, modCan_get]
  have hmon : canMonitor u n = canMonitor s n := by rw [canMonitor, canInForce, hport]; rfl
  rw [← hu] at hstart
  refine ⟨_, execCanPortStart_starting hstart (by rw [hport]), ?_⟩
  rw [modCan_get, hport, hmon]
  refine ⟨rfl, rfl, rfl, rfl, fun j hj => ?_, ?_⟩
  · rw [modCan_get_ne hj, hu, modCan_get_ne hj]
  · rw [hu, modCan_modCan]
    rfl

theorem execCanPortStart_refused {n : Fin 4} {s : State} (hs : s.can[n].phase.stopped = true)
    (h : s.can[n].disabling = true ∨ canShouldRun s n = false) : ∃ t,
      exec (.canPortStart n) s = .next t ∧ t.can[n].phase.stopped = true ∧ t.can[n].txQueue = s.can[n].txQueue ∧
      (∀ j : Fin 4, j ≠ n → t.can[j] = s.can[j]) ∧ t = { s with can := t.can } := by
  cases hd : s.can[n].disabling
  · have hr : canShouldRun s n = false := by
      rcases h with h | h
      · exact absurd (hd.symm.trans h) (by decide)
      · exact h
    have hstopped : (if (s.canEn n && poweredOutputs s && !canClock s) = true then CanPhase.noClock else .disabled).stopped = true := by
      split <;> rfl
    refine ⟨_, execCanPortStart_other (canStart_refused hs hd hr) ?_, ?_, ?_, fun j hj => modCan_get_ne hj _ _, rfl⟩
    · rw [modCan_get]
      intro hp
      rw [show (if (s.canEn n && poweredOutputs s && !canClock s) = true then CanPhase.noClock else .disabled) = .starting from hp] at hstopped
      exact absurd hstopped (by decide)
    · rw [modCan_get]
      exact hstopped
    · rw [modCan_get]
  · refine ⟨s, execCanPortStart_other (canStart_other (by rw [hs, hd]; rfl)) fun hp => ?_, hs, rfl, fun _ _ => rfl, rfl⟩
    rw [hp] at hs
    exact absurd hs (by decide)

/-! Disable (R43, R502). -/

/-- A port whose `CAN_EN` has been written 0 is not enabled. -/
theorem canEn_store (n : Fin 4) (s : State) : (s.store (okey (0x2D00 + n) 0x01) 0).canEn n = false := by
  have hshadow : shadowRail (s.store (okey (0x2D00 + n) 0x01) 0) (okey (0x2D00 + n) 0x01) = none := by
    have hblock : (0x2D00 + n.val) / 256 = 0x2D := by omega
    unfold shadowRail
    dsimp only
    rw [okey_div _ (by decide), hblock]
    rfl
  have hraw : (s.store (okey (0x2D00 + n) 0x01) 0).setRaw (okey (0x2D00 + n) 0x01) (bit true) = 0 := by
    rw [State.setRaw, hshadow]
    show (mapGet _ (mapPut _ 0 s.settings)).getD _ = 0
    rw [mapGet_mapPut_same]
    rfl
  rw [State.canEn, State.setFlag, hraw]
  rfl

theorem execCanEnClear_ok {s : State} {p : Port} {n : Fin 4} {row : ObjRow} (ha : answering s = true)
    (hc : checkWrite s p (0x2D00 + n) 0x01 = .ok row) :
    exec (.canEnClear p n) s = .next (setAck (canEnOp p n 0 s).2 (canEnOp p n 0 s).1) := by
  show Host.Outcome.next (directWrite p (okey (0x2D00 + n) 0x01) s (canEnOp p n 0)) = _
  rw [directWrite_ok (by decide) ha hc]

theorem canEnOp_own (n : Fin 4) (s : State) : canEnOp (portOfCan n) n 0 s = (s, .abort .state) := by
  unfold canEnOp
  dsimp only
  rw [if_neg (by rw [canEn_store]; decide), if_pos rfl]

theorem canEnOp_other {p : Port} {n : Fin 4} (h : p ≠ portOfCan n) (s : State) : canEnOp p n 0 s =
    (modCan n (fun c => if c.phase.stopped = true then { c with phase := .disabled } else { c with disabling := true, enHeld := false })
      (s.store (okey (0x2D00 + n) 0x01) 0), .done) := by
  unfold canEnOp
  dsimp only
  rw [if_neg (by rw [canEn_store]; decide), if_neg h]
  cases hs : (s.store (okey (0x2D00 + n) 0x01) 0).can[n].phase.stopped
  · rw [if_neg (by decide)]
    refine congrArg (·, Ack.done) (modCan_congr ?_)
    rw [if_neg (by rw [hs]; decide)]
  · rw [if_pos rfl]
    refine congrArg (·, Ack.done) (modCan_congr ?_)
    rw [if_pos hs]

/-! Bus-off (R503, R514, R536). -/

/-- A port out of traffic sends nothing (R497). -/
theorem canSends_quiet {n : Fin 4} {s : State} (ha : s.can[n].phase ≠ .errorActive) (hp : s.can[n].phase ≠ .errorPassive) :
    canSends s n = false := by
  rw [canSends, decide_eq_false ha, decide_eq_false hp]; rfl

/-- An abort at a port out of traffic is dropped and counted (R503). -/
theorem respond_abort_quiet {n : Fin 4} {s : State} (h : canSends s n = false) (w : PendResp) (c : AbortCode) :
    respond n w (.abort c) s = modCan n (fun p => { p with txDrop := satAdd max32 p.txDrop 1 }) s := by
  have hacc : canAccepts s n = false := by rw [canAccepts, h]; rfl
  have hcount : countAbort n c s = s := by rw [countAbort, hacc]; rfl
  show canSend n (fdFrame (countAbort n c s) n 1 _) (countAbort n c s) = _
  rw [hcount, canSend, hacc]
  rfl

/-- What a response of another request leaves of a port out of traffic. -/
def quietBooks (c : CanPort) : CanPhase × Nat × List CanFrame × List NetReq × Transfer :=
  (c.phase, c.boffCnt, c.txQueue, c.rxQueue, c.transfer)

theorem respondAll_quiet {n : Fin 4} (c : AbortCode) (ws : List PendResp) {s : State} (ha : s.can[n].phase ≠ .errorActive)
    (hp : s.can[n].phase ≠ .errorPassive) : quietBooks (ws.foldl (fun a w => respond n w (.abort c) a) s).can[n] = quietBooks s.can[n] := by
  induction ws generalizing s with
  | nil => rfl
  | cons w ws ih =>
    have hport : (respond n w (.abort c) s).can[n] = { s.can[n] with txDrop := satAdd max32 s.can[n].txDrop 1 } := by
      rw [respond_abort_quiet (canSends_quiet ha hp), modCan_get]
    rw [List.foldl_cons, ih (by rw [hport]; exact ha) (by rw [hport]; exact hp), hport]
    rfl

theorem canSend_get_ne {j n : Fin 4} (h : j ≠ n) (f : CanFrame) (s : State) : (canSend n f s).can[j] = s.can[j] := by
  unfold canSend
  split <;> exact modCan_get_ne h _ _

theorem countAbort_get_ne {j n : Fin 4} (h : j ≠ n) (c : AbortCode) (s : State) : (countAbort n c s).can[j] = s.can[j] := by
  unfold countAbort
  split
  · exact modCan_get_ne h _ _
  · rfl

/-- A response goes out of its own port. -/
theorem respond_get_ne {j n : Fin 4} (h : j ≠ n) (w : PendResp) (a : Ack) (s : State) : (respond n w a s).can[j] = s.can[j] := by
  unfold respond
  cases a with
  | none => exact modCan_get_ne h _ _
  | done | value | pending => exact canSend_get_ne h _ _
  | abort c => exact (canSend_get_ne h _ _).trans (countAbort_get_ne h c s)

/-- The acknowledges of image blocks are answered at the update's port. -/
theorem imageAcksEnd_port {n : Fin 4} {s : State} (h : s.update.port = portOfCan n) : imageAcksEnd s =
    (s.can[n].waiting.filter isImageWait).foldl (fun a w => respond n w (.abort .state) a)
      (modCan n (fun c => { c with waiting := c.waiting.filter fun w => !isImageWait w }) s) := by
  have hfin : fin? 4 s.update.port.val = some n := by
    rw [h, portOfCan, fin?, dif_pos n.isLt]
  rw [imageAcksEnd, hfin]

theorem imageAcksEnd_quiet {n : Fin 4} {s : State} (h : s.update.port = portOfCan n) (ha : s.can[n].phase ≠ .errorActive)
    (hp : s.can[n].phase ≠ .errorPassive) : quietBooks (imageAcksEnd s).can[n] = quietBooks s.can[n] ∧
    ∀ j : Fin 4, j ≠ n → (imageAcksEnd s).can[j] = s.can[j] := by
  rw [imageAcksEnd_port h]
  refine ⟨?_, fun j hj => ?_⟩
  · rw [respondAll_quiet .state _ (by rw [modCan_get]; exact ha) (by rw [modCan_get]; exact hp), modCan_get]
    rfl
  · rw [foldl_keeps (fun a => a.can[j]) fun a w => respond_get_ne hj w _ a]
    exact modCan_get_ne hj _ _

/-- The end of an update leaves the books of its port, if that is out of traffic, and every other port. -/
theorem updPortLost_quiet {n : Fin 4} {s : State} (ha : s.can[n].phase ≠ .errorActive) (hp : s.can[n].phase ≠ .errorPassive) :
    quietBooks (updPortLost (portOfCan n) s).can[n] = quietBooks s.can[n] ∧
    ∀ j : Fin 4, j ≠ n → (updPortLost (portOfCan n) s).can[j] = s.can[j] := by
  by_cases hport : s.update.port = portOfCan n
  · have hlost : updPortLost (portOfCan n) s = updStop s := if_pos hport
    rw [hlost]
    cases hr : updRuns s.update.phase
    · rw [updStop_idle hr]
      exact ⟨rfl, fun _ _ => rfl⟩
    · obtain ⟨u, hu⟩ : ∃ u : State, u = { s with update := { s.update with phase := .idle, header := [], got := [], written := 0 } } := ⟨_, rfl⟩
      have hstop : updStop s = eventEdge 35 (imageAcksEnd u) := by
        unfold updStop
        rcases (updRuns_iff _).mp hr with h | h <;> rw [h, hu]
      have hcan := rest_can (eventEdge_rest (F := [.evc, .tw]) (by decide) (by decide) 35 (imageAcksEnd u)) (by decide)
      have hucan : u.can = s.can := by rw [hu]
      obtain ⟨hbooks, hothers⟩ := imageAcksEnd_quiet (n := n) (s := u) (by rw [hu]; exact hport) (by rw [hucan]; exact ha) (by rw [hucan]; exact hp)
      rw [hstop, hcan]
      exact ⟨by rw [hbooks, hucan], fun j hj => by rw [hothers j hj, hucan]⟩
  · have hlost : updPortLost (portOfCan n) s = s := if_neg hport
    rw [hlost]
    exact ⟨rfl, fun _ _ => rfl⟩

theorem updPortLost_elsewhere {p : Port} {s : State} (h : s.update.port ≠ p) : updPortLost p s = s := if_neg h

/-- The port of a bus-off (R503). -/
def wentBusOff (auto : Bool) (tec : Nat) (c : CanPort) : CanPort :=
  { c with
    phase := if auto then .recovering else .busOff
    boffCnt := satAdd max16 c.boffCnt 1
    tec := tec
    transfer := .none
    txDrop := satAdd max32 c.txDrop c.txQueue.length
    txQueue := [] }

/-- The Logbook entry and the event of a bus-off. -/
def busOffLogged (n : Fin 4) (s : State) : State :=
  canEvent n (logFault .canBusOff 0 n (Config.free 503 s.freeCtr % 256 * 256 + s.can[n].rec_)
    (modCan n (wentBusOff (s.canBoffAuto n) (Config.free 503 s.freeCtr % 256)) s))

theorem execCanBusOff_sends {n : Fin 4} {s : State} (h : canSends s n = true) :
    exec (.canBusOff n) s = .next (useFree (updPortLost (portOfCan n) (busOffLogged n s))) := by
  show execCanBusOff n s = _
  rw [execCanBusOff, h, canDrop]
  dsimp only
  rw [modCan_modCan]
  rfl

theorem execCanBusOff_quiet {n : Fin 4} {s : State} (h : canSends s n = false) : exec (.canBusOff n) s = .next s := by
  show execCanBusOff n s = _
  rw [execCanBusOff, h]
  rfl

theorem busOffLogged_spec (n : Fin 4) (s : State) :
    (busOffLogged n s).can = vmod s.can n (wentBusOff (s.canBoffAuto n) (Config.free 503 s.freeCtr % 256)) ∧
    (busOffLogged n s).update = s.update ∧
    rest [.nv, .can, .log, .evc, .tw] (busOffLogged n s) = rest [.nv, .can, .log, .evc, .tw] s := by
  obtain ⟨u, hu⟩ : ∃ u, u = modCan n (wentBusOff (s.canBoffAuto n) (Config.free 503 s.freeCtr % 256)) s := ⟨_, rfl⟩
  have hrest : rest logFields (busOffLogged n s) = rest logFields u := by
    rw [busOffLogged, ← hu, canEvent, eventEdge_rest (by decide) (by decide)]
    exact logFault_rest_log _ _ _ _ _
  have hmod : rest [.can] u = rest [.can] s := by rw [hu]; exact rest_with_can (by decide) s _
  exact ⟨by rw [rest_can hrest (by decide), hu]; rfl, (rest_update hrest (by decide)).trans (rest_update hmod (by decide)),
    (rest_mono (by decide) hrest).trans (rest_mono (by decide) hmod)⟩

theorem execCanBusOff_spec {n : Fin 4} {s : State} (h : canSends s n = true) : ∃ t, exec (.canBusOff n) s = .next t ∧
    t.can[n].phase = (if s.canBoffAuto n = true then .recovering else .busOff) ∧
    t.can[n].boffCnt = satAdd max16 s.can[n].boffCnt 1 ∧ t.can[n].txQueue = [] ∧ t.can[n].rxQueue = s.can[n].rxQueue ∧
    t.can[n].transfer = .none ∧ (s.update.port ≠ portOfCan n → t.can[n].waiting = s.can[n].waiting ∧
      t.can[n].txDrop = satAdd max32 s.can[n].txDrop s.can[n].txQueue.length) ∧
    (∀ j : Fin 4, j ≠ n → t.can[j] = s.can[j]) ∧ t = { s with nv := t.nv, can := t.can, log := t.log, evc := t.evc, tw := t.tw, update := t.update, freeCtr := t.freeCtr } := by
  have hexec := execCanBusOff_sends h
  obtain ⟨hcan, hupd, hrest⟩ := busOffLogged_spec n s
  obtain ⟨u, hu⟩ : ∃ u, u = busOffLogged n s := ⟨_, rfl⟩
  rw [← hu] at hexec hcan hupd hrest
  have hport : u.can[n] = wentBusOff (s.canBoffAuto n) (Config.free 503 s.freeCtr % 256) s.can[n] := by rw [hcan, vmod_get]
  have hphase : u.can[n].phase = if s.canBoffAuto n = true then .recovering else .busOff := by rw [hport]; rfl
  obtain ⟨hbooks, hothers⟩ := updPortLost_quiet (n := n) (s := u) (by rw [hphase]; split <;> decide) (by rw [hphase]; split <;> decide)
  have hlost := updPortLost_rest (F := [.evc, .tw, .can, .update]) (by decide) (by decide) (by decide) (by decide) (portOfCan n) u
  have helse : s.update.port ≠ portOfCan n → updPortLost (portOfCan n) u = u := fun hne => updPortLost_elsewhere (by rw [hupd]; exact hne)
  obtain ⟨v, hv⟩ : ∃ v, v = updPortLost (portOfCan n) u := ⟨_, rfl⟩
  rw [← hv] at hexec hbooks hothers hlost helse
  rw [hport] at hbooks
  simp only [quietBooks, wentBusOff, Prod.mk.injEq] at hbooks
  obtain ⟨bphase, bcnt, btx, brx, btransfer⟩ := hbooks
  refine ⟨useFree v, hexec, bphase, bcnt, btx, brx, btransfer, fun hne => ?_, fun j hj => ?_,
    rest_patch (F := [.nv, .can, .log, .evc, .tw, .update, .freeCtr]) ((useFree_rest (by decide) v).trans
      ((rest_mono (by decide) hlost).trans (rest_mono (by decide) hrest)))⟩
  · show v.can[n].waiting = _ ∧ v.can[n].txDrop = _
    rw [helse hne, hport]
    exact ⟨rfl, rfl⟩
  · show v.can[j] = _
    rw [hothers j hj, hcan, vmod_get_ne hj]

/-! Error states (R497, R503). -/

/-- The port at its new error counters (R497). -/
def errorCounted (a b : Nat) (c : CanPort) : CanPort :=
  { c with
    tec := min 255 a, rec_ := min 255 b, phase := if 128 ≤ a ∨ 128 ≤ b then .errorPassive else .errorActive
    txQueue := c.txQueue.take 1 ++ (c.txQueue.drop 1).map fun f => { f with esi := !f.classical && decide (128 ≤ a ∨ 128 ≤ b) } }

theorem errorPassive_iff (a b : Nat) :
    ((if 128 ≤ a ∨ 128 ≤ b then CanPhase.errorPassive else .errorActive) = .errorPassive) ↔ (128 ≤ a ∨ 128 ≤ b) := by
  split
  · next h => exact ⟨fun _ => h, fun _ => rfl⟩
  · next h => exact ⟨fun e => absurd e (by decide), fun e => absurd e h⟩

theorem execCanErrorStateChange_quiet {n : Fin 4} {s : State} (h : canSends s n = false) (a b : Nat) :
    exec (.canErrorStateChange n a b) s = .next s := by
  show execCanErrorStateChange n a b s = _
  rw [execCanErrorStateChange, h]
  rfl

theorem execCanErrorStateChange_sends {n : Fin 4} {s : State} (h : canSends s n = true) (a b : Nat) :
    exec (.canErrorStateChange n a b) s = .next (if (if 128 ≤ a ∨ 128 ≤ b then CanPhase.errorPassive else .errorActive) = s.can[n].phase
      then modCan n (errorCounted a b) s else canEvent n (modCan n (errorCounted a b) s)) := by
  have hcount : errorCounted a b = fun c => { c with
      tec := min 255 a, rec_ := min 255 b, phase := if 128 ≤ a ∨ 128 ≤ b then .errorPassive else .errorActive
      txQueue := c.txQueue.take 1 ++ (c.txQueue.drop 1).map fun f =>
        { f with esi := !f.classical && decide ((if 128 ≤ a ∨ 128 ≤ b then CanPhase.errorPassive else .errorActive) = .errorPassive) } } := by
    funext c
    rw [decide_eq_decide.mpr (errorPassive_iff a b)]
    rfl
  rw [hcount]
  show execCanErrorStateChange n a b s = _
  rw [execCanErrorStateChange, h]
  rfl

theorem execCanErrorStateChange_spec {n : Fin 4} {s : State} (h : canSends s n = true) (a b : Nat) : ∃ t,
    exec (.canErrorStateChange n a b) s = .next t ∧ t.can = vmod s.can n (errorCounted a b) ∧ t = { s with can := t.can, evc := t.evc, tw := t.tw } := by
  have hexec := execCanErrorStateChange_sends h a b
  by_cases hp : (if 128 ≤ a ∨ 128 ≤ b then CanPhase.errorPassive else .errorActive) = s.can[n].phase
  · rw [if_pos hp] at hexec
    exact ⟨_, hexec, rfl, rfl⟩
  · rw [if_neg hp] at hexec
    have hrest := eventEdge_rest (F := [.evc, .tw]) (by decide) (by decide) (36 + n) (modCan n (errorCounted a b) s)
    exact ⟨_, hexec, rest_can hrest (by decide), rest_patch (F := [.can, .evc, .tw])
      ((rest_mono (by decide) hrest).trans (rest_with_can (by decide) s _))⟩

/-! Recovery (R503). -/

theorem execCanBoffRec_ok {s : State} {p : Port} {n : Fin 4} {row : ObjRow} (ha : answering s = true)
    (hc : checkWrite s p (0x2D00 + n) 0x18 = .ok row) (v : Nat) :
    exec (.canBoffRec p n v) s = .next (setAck (boffRecOp p n v s).2 (boffRecOp p n v s).1) := by
  show Host.Outcome.next (directWrite p (okey (0x2D00 + n) 0x18) s (boffRecOp p n v)) = _
  rw [directWrite_ok (by decide) ha hc]

theorem boffRecOp_ignored {v : Nat} (h : v ≠ 1) (p : Port) (n : Fin 4) (s : State) : boffRecOp p n v s = (s, .done) := if_pos h

theorem boffRecOp_own (n : Fin 4) (s : State) : boffRecOp (portOfCan n) n 1 s = (s, .abort .state) := by
  rw [boffRecOp, if_neg (by decide), if_pos rfl]

theorem boffRecOp_other {p : Port} {n : Fin 4} (h : p ≠ portOfCan n) (s : State) : boffRecOp p n 1 s =
    (modCan n (fun c => { c with phase := if c.phase = .busOff then .recovering else c.phase }) s, .done) := by
  rw [boffRecOp, if_neg (by decide), if_neg h]
  by_cases hp : s.can[n].phase = .busOff
  · rw [if_pos hp]
    exact congrArg (·, Ack.done) (modCan_congr (by rw [if_pos hp]))
  · rw [if_neg hp]
    exact congrArg (·, Ack.done) (modCan_id (by rw [if_neg hp])).symm

theorem execCanRecoveryDone_spec {n : Fin 4} {s : State} (h : s.can[n].phase = .recovering) : ∃ t, exec (.canRecoveryDone n) s = .next t ∧
    t.can = vmod s.can n (fun c => { c with phase := .errorActive, tec := 0, rec_ := 0 }) ∧ t = { s with can := t.can, evc := t.evc, tw := t.tw } := by
  have hexec : exec (.canRecoveryDone n) s = .next (canEvent n (modCan n (fun c => { c with phase := .errorActive, tec := 0, rec_ := 0 }) s)) :=
    congrArg Host.Outcome.next (if_pos h)
  have hrest := eventEdge_rest (F := [.evc, .tw]) (by decide) (by decide) (36 + n)
    (modCan n (fun c => { c with phase := .errorActive, tec := 0, rec_ := 0 }) s)
  exact ⟨_, hexec, rest_can hrest (by decide), rest_patch (F := [.can, .evc, .tw])
    ((rest_mono (by decide) hrest).trans (rest_with_can (by decide) s _))⟩

/-! Heartbeats (R518, R519). -/

theorem execHeartbeat_none {n : Fin 4} {s : State} (h : canSends s n = false ∨ s.hbPeriod n = 0 ∨ s.update.pause = true) :
    exec (.heartbeat n) s = .next s := by
  refine congrArg Host.Outcome.next (if_neg fun hc => ?_)
  simp only [Bool.and_eq_true, decide_eq_true_eq, Bool.not_eq_true'] at hc
  obtain ⟨⟨hs, hp⟩, hu⟩ := hc
  rcases h with h | h | h
  · exact absurd (h.symm.trans hs) (by decide)
  · exact hp h
  · exact absurd (h.symm.trans hu) (by decide)

theorem execHeartbeat_sent {n : Fin 4} {s : State} (hs : canSends s n = true) (hp : s.hbPeriod n ≠ 0) (hu : s.update.pause = false) :
    exec (.heartbeat n) s = .next { s with
      can := vmod s.can n fun c => { c with
        hbCnt := if c.disabling = true then c.hbCnt else (c.hbCnt + 1) % 256
        txQueue := if c.disabling = true then c.txQueue else c.txQueue ++ [⟨c.base + 0x7F, true, false, false, heartbeatBytes s n⟩]
        txDrop := if c.disabling = true then satAdd max32 c.txDrop 1 else c.txDrop } } := by
  have hexec : exec (.heartbeat n) s = .next (modCan n (fun c => { c with hbCnt := if canAccepts s n then (c.hbCnt + 1) % 256 else c.hbCnt })
      (canSend n ⟨s.can[n].base + 0x7F, true, false, false, heartbeatBytes s n⟩ s)) :=
    congrArg Host.Outcome.next (if_pos (by rw [hs, decide_eq_true hp, hu]; rfl))
  rw [hexec, canSend, canAccepts, hs]
  refine congrArg Host.Outcome.next ?_
  cases hd : s.can[n].disabling
  · rw [if_pos (by rfl), modCan_modCan]
    exact modCan_congr (by dsimp only; rw [hd]; rfl)
  · rw [if_neg (by decide), modCan_modCan]
    exact modCan_congr (by dsimp only; rw [hd]; rfl)

theorem execPeerHeartbeat_none {n : Fin 4} {s : State}
    (h : (canSends s n = false ∧ s.can[n].phase ≠ .monitoring) ∨ s.peerHbId n = 0xFFFF) (b : Bool) : exec (.peerHeartbeat n b) s = .next s := by
  refine congrArg Host.Outcome.next (if_neg fun hc => ?_)
  simp only [Bool.and_eq_true, Bool.or_eq_true, decide_eq_true_eq] at hc
  obtain ⟨hin, hid⟩ := hc
  rcases h with ⟨hs, hm⟩ | h
  · rcases hin with hin | hin
    · exact absurd (hs.symm.trans hin) (by decide)
    · exact hm hin
  · exact hid h

theorem execPeerHeartbeat_current {n : Fin 4} {s : State} (h : canSends s n = true ∨ s.can[n].phase = .monitoring)
    (hid : s.peerHbId n ≠ 0xFFFF) (b : Bool) : exec (.peerHeartbeat n b) s = .next { s with
      can := vmod s.can n fun c => { c with peerCur := true, peerClassical := b } } := by
  refine congrArg Host.Outcome.next (if_pos ?_)
  simp only [Bool.and_eq_true, Bool.or_eq_true, decide_eq_true_eq]
  exact ⟨h, hid⟩

/-! Malformed frames (R505, R508). -/

theorem served_quiet {n : Fin 4} {s : State} (h : canSends s n = false) (hm : s.can[n].phase ≠ .monitoring) (q : NetReq) :
    served n q s = s := by
  rw [served, h, if_neg hm]
  rfl

theorem execMalformed_short {k : Bool} {bs : List Byte} (h : k = true ∨ bs.length < 2) (n : Fin 4) (s : State) :
    exec (.malformed n k bs) s = .next (if canSends s n || decide (s.can[n].phase = .monitoring) then
      modCan n (fun c => { c with rxCnt := satAdd max32 c.rxCnt 1, rxDrop := satAdd max32 c.rxDrop 1 }) s else s) := by
  refine if_pos ?_
  rw [Bool.or_eq_true, decide_eq_true_eq]
  exact h

theorem execMalformed_served {bs : List Byte} (h : 2 ≤ bs.length) (n : Fin 4) (s : State) :
    exec (.malformed n false bs) s = .next (served n (parseReq bs) s) := by
  refine if_neg ?_
  rw [Bool.false_or, decide_eq_true_eq]
  omega

theorem execMalformed_quiet {n : Fin 4} {s : State} (h : canSends s n = false) (hm : s.can[n].phase ≠ .monitoring) (k : Bool)
    (bs : List Byte) : exec (.malformed n k bs) s = .next s := by
  by_cases hk : k = true ∨ bs.length < 2
  · rw [execMalformed_short hk, h, decide_eq_false hm]
    rfl
  · obtain ⟨hk, hl⟩ := not_or.mp hk
    rw [Bool.eq_false_iff.mpr hk, execMalformed_served (Nat.not_lt.mp hl), served_quiet h hm]

/-- A frame too short, or of a `CMD` that no request has, spells a malformed request (R508). -/
theorem parseReq_malformed {bs : List Byte} (h : bs.length < 8 ∨ fieldAt bs 0 1 ∉ [0x01, 0x02, 0x11, 0x12, 0x13, 0x14]) :
    ∃ cmd tag idx sub, parseReq bs = .malformed cmd tag idx sub := by
  refine ⟨fieldAt bs 0 1, fieldAt bs 1 1, fieldAt bs 2 2, fieldAt bs 4 1, ?_⟩
  unfold parseReq
  dsimp only
  by_cases hl : bs.length < 8
  · rw [if_pos hl]
  · have hcmd := h.resolve_left hl
    rw [if_neg hl, if_neg (fun hseg => hcmd (by rw [hseg]; decide)), if_pos]
    rw [Bool.or_eq_true, Bool.or_eq_true, Bool.not_eq_true', List.contains_eq_mem]
    refine .inl (.inl (decide_eq_false fun hmem => hcmd ?_))
    revert hmem
    simp only [List.mem_cons]
    tauto

/-- A port that takes frames sends an abort, and keeps it as its last (R526). -/
theorem respond_abort_sent {n : Fin 4} {s : State} (h : canAccepts s n = true) (w : PendResp) (c : AbortCode) : ∃ f : CanFrame,
    respond n w (.abort c) s = modCan n (fun p => { p with
      abortCnt := satAdd max32 p.abortCnt 1, lastAbort := c.num, txQueue := p.txQueue ++ [f] }) s := by
  obtain ⟨u, hu⟩ : ∃ u, u = modCan n (fun p => { p with abortCnt := satAdd max32 p.abortCnt 1, lastAbort := c.num }) s := ⟨_, rfl⟩
  have hcount : countAbort n c s = u := by rw [countAbort, h, hu]; rfl
  have hport : u.can[n] = { s.can[n] with abortCnt := satAdd max32 s.can[n].abortCnt 1, lastAbort := c.num } := by rw [hu, modCan_get]
  have hfree : u.freeCtr = s.freeCtr := by rw [hu]; rfl
  have hacc : canAccepts u n = true := by
    rw [← h]
    unfold canAccepts canSends canTimingOk canNominal canData canInForce
    rw [hport, hfree]
  refine ⟨fdFrame u n 1 (response w.cmd w.tag w.idx w.sub 1 (leBytes 4 c.num)), ?_⟩
  show canSend n (fdFrame (countAbort n c s) n 1 _) (countAbort n c s) = _
  rw [hcount, canSend, hacc, if_pos rfl]
  refine (congrArg (modCan n _) hu).trans ?_
  rw [modCan_modCan]

/-- A malformed request of a port whose turn it is. -/
theorem served_malformed {n : Fin 4} {s : State} (hs : canSends s n = true) (hf : reqFirst s n = true) (hfree : netFree s = true)
    (hd : s.can[n].disabling = false) (cmd tag idx sub : Nat) : ∃ f : CanFrame, served n (.malformed cmd tag idx sub) s =
      { s with
        can := vmod s.can n fun c => { c with
          rxCnt := satAdd max32 c.rxCnt 1, reqCnt := satAdd max32 c.reqCnt 1, abortCnt := satAdd max32 c.abortCnt 1
          lastAbort := 0x51010001, txQueue := c.txQueue ++ [f] }
        netLast := portOfCan n, ack := .abort .malformed } := by
  obtain ⟨u, hu⟩ : ∃ u, u = modCan n (fun c => { c with reqCnt := satAdd max32 c.reqCnt 1 })
      { modCan n (fun c => { c with rxCnt := satAdd max32 c.rxCnt 1 }) s with netLast := portOfCan n } := ⟨_, rfl⟩
  have hserve : served n (.malformed cmd tag idx sub) s = serveAbort n .malformed cmd tag idx sub u := by
    rw [served, hs, hf, hfree, hu]
    rfl
  have hflat : u = { s with
      can := vmod s.can n fun c => { c with rxCnt := satAdd max32 c.rxCnt 1, reqCnt := satAdd max32 c.reqCnt 1 }
      netLast := portOfCan n } := by
    rw [hu]
    unfold modCan
    dsimp only
    rw [vmod_vmod]
  have hport : u.can[n] = { s.can[n] with rxCnt := satAdd max32 s.can[n].rxCnt 1, reqCnt := satAdd max32 s.can[n].reqCnt 1 } := by
    rw [hflat, vmod_get]
  have hctr : u.freeCtr = s.freeCtr := by rw [hflat]
  have hacc : canAccepts u n = true := by
    have hsame : canSends u n = canSends s n := by
      unfold canSends canTimingOk canNominal canData canInForce
      rw [hport, hctr]
    rw [canAccepts, hsame, hs, hport, hd]
    rfl
  obtain ⟨f, hresp⟩ := respond_abort_sent hacc ⟨cmd ||| 0x80, tag, idx, sub, []⟩ .malformed
  refine ⟨f, ?_⟩
  rw [hserve, serveAbort, hresp, hflat]
  unfold modCan setAck
  dsimp only
  rw [vmod_vmod]
  rfl

theorem execMalformed_aborted {n : Fin 4} {s : State} {bs : List Byte} (hs : canSends s n = true) (hf : reqFirst s n = true)
    (hfree : netFree s = true) (hd : s.can[n].disabling = false) (hl : 2 ≤ bs.length)
    (hb : bs.length < 8 ∨ fieldAt bs 0 1 ∉ [0x01, 0x02, 0x11, 0x12, 0x13, 0x14]) : ∃ t, exec (.malformed n false bs) s = .next t ∧
      t.ack = .abort .malformed ∧ t.can[n].rxCnt = satAdd max32 s.can[n].rxCnt 1 ∧
      t.can[n].reqCnt = satAdd max32 s.can[n].reqCnt 1 ∧ t.can[n].abortCnt = satAdd max32 s.can[n].abortCnt 1 ∧
      t.can[n].lastAbort = 0x51010001 ∧ t.can[n].txQueue.length = s.can[n].txQueue.length + 1 ∧
      (∀ j : Fin 4, j ≠ n → t.can[j] = s.can[j]) ∧ t = { s with can := t.can, netLast := t.netLast, ack := t.ack } := by
  obtain ⟨cmd, tag, idx, sub, hparse⟩ := parseReq_malformed hb
  obtain ⟨f, hserved⟩ := served_malformed hs hf hfree hd cmd tag idx sub
  have hexec := execMalformed_served hl n s
  rw [hparse, hserved] at hexec
  refine ⟨_, hexec, rfl, ?_⟩
  rw [vmod_get]
  exact ⟨rfl, rfl, rfl, rfl, List.length_append, fun j hj => vmod_get_ne hj _ _, rfl⟩

/-- The bytes of a READ request (R510). -/
def readFrame (tag i u : Nat) : List Byte := leBytes 1 1 ++ leBytes 1 tag ++ leBytes 2 i ++ leBytes 1 u ++ [0, 0, 0]

theorem leNat_one_byte {v : Nat} (h : v < 256) : leNat [BitVec.ofNat 8 v] = v := by
  simp only [leNat, BitVec.toNat_ofNat]
  omega

theorem leNat_two_bytes {v : Nat} (h : v < 65536) : leNat [BitVec.ofNat 8 v, BitVec.ofNat 8 (v / 256)] = v := by
  simp only [leNat, BitVec.toNat_ofNat]
  omega

theorem parseReq_readFrame {tag i u : Nat} (ht : tag < 256) (hi : i < 65536) (hu : u < 256) :
    parseReq (readFrame tag i u) = .read tag i u := by
  have htag : fieldAt (readFrame tag i u) 1 1 = tag := leNat_one_byte ht
  have hidx : fieldAt (readFrame tag i u) 2 2 = i := leNat_two_bytes hi
  have hsub : fieldAt (readFrame tag i u) 4 1 = u := leNat_one_byte hu
  unfold parseReq
  dsimp only
  rw [htag, hidx, hsub]
  rfl

/-- Settles O43: each event of a port changes that port's books and no other's. -/
theorem canPorts : Obligations.CanPorts := by
  unfold Obligations.CanPorts
  refine fun s n => ⟨fun hp hm => ?_, fun hp hm => ?_, fun hp hs => execCanPortStart_other (canStart_other (by rw [hs]; rfl)) hp,
    execCanPortStart_runs, execCanPortStart_refused, fun p row ha hc => ⟨fun hp => ?_, fun hp => ?_⟩,
    fun h => ⟨execCanBusOff_quiet h, execCanErrorStateChange_quiet h⟩, execCanBusOff_spec, fun a b h => execCanErrorStateChange_spec h a b,
    fun p row ha hc => ⟨fun v hv => ?_, fun hp => ?_, fun hp => ?_⟩, fun h => congrArg Host.Outcome.next (if_neg h),
    execCanRecoveryDone_spec, execHeartbeat_none, execHeartbeat_sent, fun b h => execPeerHeartbeat_none h b,
    fun b h hid => execPeerHeartbeat_current h hid b, rfl, fun k bs h hm => execMalformed_quiet h hm k bs, fun k bs h hk => ?_,
    fun bs => execMalformed_aborted, fun bs h => execMalformed_served h n s, fun tag i u ht hi hu => ?_⟩
  · rw [execCanPortStart_starting (canStart_starting hp) hp, hm]; rfl
  · rw [execCanPortStart_starting (canStart_starting hp) hp, hm]; rfl
  · rw [execCanEnClear_ok ha hc, hp, canEnOp_own]; rfl
  · rw [execCanEnClear_ok ha hc, canEnOp_other hp]; rfl
  · rw [execCanBoffRec_ok ha hc, boffRecOp_ignored hv]; rfl
  · rw [execCanBoffRec_ok ha hc, hp, boffRecOp_own]; rfl
  · rw [execCanBoffRec_ok ha hc, boffRecOp_other hp]; rfl
  · rw [execMalformed_short hk, if_pos (by rw [Bool.or_eq_true, decide_eq_true_eq]; exact h)]; rfl
  · have hexec := execMalformed_served (bs := readFrame tag i u) (by show 2 ≤ 8; decide) n s
    rw [parseReq_readFrame ht hi hu] at hexec
    exact hexec

end Sys2Proof.Proofs

namespace Sys2Proof.Proofs

open Sys2Proof.Machine Sys2Proof.Laws

/-! ### O1: the monitors of the clocks (R14, R22 to R24, R453, R454) -/

/-! A fault whose full reset follows whatever the settings say (R454). -/

/-- A full reset notes the mask of its cause, and asserts `SAFE_N` unless it keeps rails (R105, R110). -/
theorem resetStart_mask (cause sub : Nat) (s : State) : ∃ u, resetStart cause sub s = recordMask (ctrAppend ctrCause cause (abandonWrites u)) ∧
    u.boot.curMask = 2 ^ cause ∧ u.safeN = if s.stationkeep && causeKeeps cause then s.safeN else true := by
  unfold resetStart
  dsimp only
  refine ⟨resetStops _ cause _ _, rfl, ?_, ?_⟩
  · rw [rest_boot (resetStops_rest _ _ _ _) (by decide)]
  · rw [rest_safeN (resetStops_rest _ _ _ _) (by decide)]

/-- A full reset of the class A cause keeps no rail. -/
theorem resetStart_classA (sub : Nat) (s : State) : (resetStart 8 sub s).boot.curMask = 2 ^ 8 ∧ (resetStart 8 sub s).safeN = true := by
  obtain ⟨u, hu, hmask, hsafe⟩ := resetStart_mask 8 sub s
  have hkeep : (s.stationkeep && causeKeeps 8) = false := Bool.and_eq_false_iff.mpr (.inr (by decide))
  rw [hu, rest_boot (resetRecord_rest 8 u) (by decide), rest_safeN (resetRecord_rest 8 u) (by decide), hsafe, hkeep]
  exact ⟨hmask, rfl⟩

/-- What a class A fault makes of the state before anything follows it. -/
def faultAsserted (code : FaultCode) (die src detail : Nat) (s : State) : State := logFault code die src detail (assertLine die s)

/-- A fault of the supervisor pair or of SYS resets the part (R14, R22). -/
theorem classA_resets {s : State} (h : s.boot.phase = .ready) {code : FaultCode} (hc : code = .lockstep ∨ code = .sysClkFail)
    (die src detail : Nat) : (classA code die src detail s).boot.phase = .inReset ∧ (classA code die src detail s).boot.curCause = 8 ∧
      (classA code die src detail s).boot.curSub = code.code ∧ (classA code die src detail s).boot.curMask = 2 ^ 8 ∧
      (classA code die src detail s).safeN = true := by
  obtain ⟨u, hu⟩ : ∃ u, u = faultAsserted code die src detail s := ⟨_, rfl⟩
  have hb : u.boot.phase = .ready := by rw [hu, faultAsserted, assertLine_logFault_boot, h]
  have hstart : classA code die src detail s = resetStart 8 code.code u := by
    rw [← startFullReset_ready hb, hu]
    rcases hc with hc | hc <;> rw [hc] <;> rfl
  obtain ⟨hphase, hcause, hsub⟩ := resetStart_boot 8 code.code u
  rw [hstart]
  exact ⟨hphase, hcause, hsub, resetStart_classA code.code u⟩

theorem lockstep_code : FaultCode.code .lockstep = 0x0101 := by decide

theorem sysClkFail_code : FaultCode.code .sysClkFail = 0x0102 := by decide

theorem execLockstepMismatch_spec {s : State} (hs : sysRuns s = true) (h : s.boot.phase = .ready) (word : Nat) : ∃ t,
    exec (.lockstepMismatch word) s = .next t ∧ t.boot.phase = .inReset ∧ t.boot.curCause = 8 ∧ t.boot.curSub = 0x0101 ∧
      t.boot.curMask = 2 ^ 8 ∧ t.safeN = true ∧
      t.part = s.part ∧ t.settings = s.settings ∧ t.clk = s.clk ∧ t.hamper = s.hamper ∧ t.roles = s.roles := by
  have hexec : exec (.lockstepMismatch word) s = .next (classA .lockstep 0 0 word s) := by
    show execLockstepMismatch word s = _
    rw [execLockstepMismatch, if_pos hs]
  obtain ⟨hphase, hcause, hsub, hmask, hsafe⟩ := classA_resets h (.inl rfl) 0 0 word
  have hrest := classA_classAFields .lockstep 0 0 word s
  obtain ⟨t, ht⟩ : ∃ t, t = classA .lockstep 0 0 word s := ⟨_, rfl⟩
  rw [← ht] at hexec hphase hcause hsub hmask hsafe hrest
  exact ⟨t, hexec, hphase, hcause, hsub.trans lockstep_code, hmask, hsafe, rest_part hrest (by decide), rest_settings hrest (by decide),
    rest_clk hrest (by decide), rest_hamper hrest (by decide), rest_roles hrest (by decide)⟩

theorem execSysClockCheck_out {s : State} (hs : sysRuns s = true) {kHz : Nat} (hk : kHz < 94000 ∨ 106000 < kHz) :
    exec (.sysClockCheck kHz) s = .next (classA .sysClkFail 0 0 kHz (clkTrip s)) := by
  have hbad : (decide (kHz < 94000) || decide (106000 < kHz)) = true := by simpa using hk
  show execSysClockCheck kHz s = _
  rw [execSysClockCheck, hs, hbad, Bool.and_self, if_pos rfl]

theorem execSysClockCheck_inside {s : State} {kHz : Nat} (hlo : 94000 ≤ kHz) (hhi : kHz ≤ 106000) :
    exec (.sysClockCheck kHz) s = .next s := by
  show execSysClockCheck kHz s = _
  rw [execSysClockCheck, decide_eq_false (Nat.not_lt.mpr hlo), decide_eq_false (Nat.not_lt.mpr hhi), Bool.or_self, Bool.and_false]
  rfl

theorem execSysClockCheck_spec {s : State} (hs : sysRuns s = true) {kHz : Nat} (h : s.boot.phase = .ready)
    (hk : kHz < 94000 ∨ 106000 < kHz) : ∃ t, exec (.sysClockCheck kHz) s = .next t ∧
      t.boot.phase = .inReset ∧ t.boot.curCause = 8 ∧ t.boot.curSub = 0x0102 ∧ t.safeN = true ∧
      t.clk = { s.clk with failCnt := satAdd max16 s.clk.failCnt 1 } ∧ t.settings = s.settings ∧ t.hamper = s.hamper := by
  have hexec := execSysClockCheck_out hs hk
  obtain ⟨u, hu⟩ : ∃ u, u = clkTrip s := ⟨_, rfl⟩
  rw [← hu] at hexec
  have hub : u.boot.phase = .ready := by rw [hu]; exact h
  obtain ⟨hphase, hcause, hsub, -, hsafe⟩ := classA_resets hub (.inr rfl) 0 0 kHz
  have hrest := classA_classAFields .sysClkFail 0 0 kHz u
  obtain ⟨t, ht⟩ : ∃ t, t = classA .sysClkFail 0 0 kHz u := ⟨_, rfl⟩
  rw [← ht] at hexec hphase hcause hsub hsafe hrest
  refine ⟨t, hexec, hphase, hcause, hsub.trans sysClkFail_code, hsafe, ?_, ?_, ?_⟩
  · rw [rest_clk hrest (by decide), hu]; rfl
  · rw [rest_settings hrest (by decide), hu]; rfl
  · rw [rest_hamper hrest (by decide), hu]; rfl

/-! A rail die's clock (R23). What the shutdowns of R290 do runs through every operation of a rail; none of them touches the marks of the
faulty dies. -/

/-- The dies with the class A mark, and the mark of die `k`'s clock. -/
def clockMarks (k : Fin 7) (s : State) : Nat × Bool := (s.log.aDies, s.dies[k].rsysBad)

theorem clockMarks_of_fields {k : Fin 7} {s t : State} (hl : t.log = s.log) (hd : t.dies = s.dies) : clockMarks k t = clockMarks k s := by
  rw [clockMarks, hl, hd, clockMarks]

/-- What leaves the Logbook and the dies leaves the marks. -/
theorem clockMarks_of_rest {F : List Fld} {k : Fin 7} {s t : State} (h : rest F t = rest F s) (hl : Fld.log ∉ F) (hd : Fld.dies ∉ F) :
    clockMarks k t = clockMarks k s :=
  clockMarks_of_fields (rest_log h hl) (rest_dies h hd)

theorem logLatch_aDies (f : HeldFault) (l : LogState) : (logLatch f l).aDies = l.aDies := by
  unfold logLatch
  split <;> rfl

theorem logFault_aDies (c : FaultCode) (d i x : Nat) (s : State) : (logFault c d i x s).log.aDies = s.log.aDies := by
  cases hr : s.log.ready
  · rw [logFault_held hr]
  · rw [(logFault_ready hr c d i x).1]
    obtain ⟨-, -, haDies, -⟩ := logRing_latches ⟨c, d, i, x⟩ { s with log := logLatch ⟨c, d, i, x⟩ s.log }
    rw [haDies]
    exact logLatch_aDies _ _

section
variable (k : Fin 7)

@[simp] theorem clockMarks_logFault (c : FaultCode) (d i x : Nat) (s : State) : clockMarks k (logFault c d i x s) = clockMarks k s := by
  rw [clockMarks, logFault_aDies, rest_dies (logFault_rest_log c d i x s) (by decide), clockMarks]

/-- A change of a die that keeps the mark of its clock. -/
theorem clockMarks_modDie {f : DieState → DieState} (hf : ∀ d, (f d).rsysBad = d.rsysBad) (j : Fin 7) (s : State) :
    clockMarks k (modDie j f s) = clockMarks k s :=
  congrArg (Prod.mk s.log.aDies) (vmod_get_keeps DieState.rsysBad hf s.dies j k)

@[simp] theorem clockMarks_modRail (r : Fin 28) (f : RailState → RailState) (s : State) : clockMarks k (modRail r f s) = clockMarks k s := rfl
theorem clockMarks_modPhase (ph : Fin 56) (f : PhaseState → PhaseState) (s : State) : clockMarks k (modPhase ph f s) = clockMarks k s := rfl
@[simp] theorem clockMarks_modItem (i : Fin 46) (f : ItemState → ItemState) (s : State) : clockMarks k (modItem i f s) = clockMarks k s := rfl
@[simp] theorem clockMarks_modGroup (g : Fin 8) (f : GroupState → GroupState) (s : State) : clockMarks k (modGroup g f s) = clockMarks k s := rfl

@[simp] theorem clockMarks_railEvent (r : Fin 28) (s : State) : clockMarks k (railEvent r s) = clockMarks k s :=
  clockMarks_of_rest (railEvent_rest (F := [.links, .evc, .tw]) (by decide) (by decide) (by decide) r s) (by decide) (by decide)

@[simp] theorem clockMarks_pgRefresh (r : Fin 28) (s : State) : clockMarks k (pgRefresh r s) = clockMarks k s :=
  clockMarks_of_rest (pgRefresh_rest (F := [.links, .rails, .evc, .tw]) (by decide) (by decide) (by decide) (by decide) r s) (by decide) (by decide)

@[simp] theorem clockMarks_groupTo (g : Fin 8) (ph : GroupPhase) (s : State) : clockMarks k (groupTo g ph s) = clockMarks k s :=
  clockMarks_of_rest (groupTo_rest (F := [.groups, .rsto, .evc, .tw]) (by decide) (by decide) (by decide) (by decide) g ph s) (by decide) (by decide)

@[simp] theorem clockMarks_itemsUnwait (g : Fin 8) (s : State) : clockMarks k (itemsUnwait g s) = clockMarks k s :=
  clockMarks_of_rest (itemsUnwait_rest (F := [.items]) (by decide) g s) (by decide) (by decide)

theorem clockMarks_sendLane (r : Fin 28) (w : Nat) (s : State) : clockMarks k (sendLane r w s) = clockMarks k s := by
  unfold sendLane
  split
  · rfl
  · exact foldl_keeps (clockMarks k) (fun a j => clockMarks_modDie k
      (f := fun d => { d with laneBad := false, lane := if d.laneBad || d.holding || d.held then d.lane else w }) (fun _ => rfl) j a) _ _

theorem clockMarks_followersToZero (r : Fin 28) (s : State) : clockMarks k (followersToZero r s) = clockMarks k s := by
  unfold followersToZero
  split
  · exact foldl_keeps (clockMarks k) (fun a j => clockMarks_modDie k (f := fun d => { d with ownLead := 0 }) (fun _ => rfl) j a) _ _
  · rfl

theorem clockMarks_vdrAtEnable (r : Fin 28) (s : State) : clockMarks k (vdrAtEnable r s) = clockMarks k s := by
  unfold vdrAtEnable
  split
  · rw [clockMarks_logFault]
    exact clockMarks_of_rest (latchFault_rest (F := [.links, .rails, .evc, .tw]) (by decide) (by decide) (by decide) (by decide) r 8 _)
      (by decide) (by decide)
  · rfl

theorem clockMarks_railEnable (r : Fin 28) (s : State) : clockMarks k (railEnable r s) = clockMarks k s := by
  unfold railEnable
  split
  · rfl
  · split
    · split <;> rfl
    · rw [clockMarks_vdrAtEnable, clockMarks_pgRefresh, clockMarks_followersToZero]
      rw [clockMarks_of_rest (epochWith_rest (F := [.rails]) (by decide) r _ _ _) (by decide) (by decide), clockMarks_modRail]
      exact (foldl_keeps (clockMarks k) (fun a ph => clockMarks_modPhase k ph _ a) _ _).trans (clockMarks_sendLane k r 0 s)

theorem clockMarks_railOffDone (r : Fin 28) (s : State) : clockMarks k (railOffDone r s) = clockMarks k s := by
  unfold railOffDone
  dsimp only
  (repeat' split) <;> simp [clockMarks_railEnable]

theorem clockMarks_railDisable (r : Fin 28) (atOnce : Bool) (s : State) : clockMarks k (railDisable r atOnce s) = clockMarks k s := by
  unfold railDisable
  dsimp only
  (repeat' split) <;> simp [clockMarks_railOffDone]

/-- No command of a rail reaches the marks (R199). -/
theorem clockMarks_applyRailCmd (c : RailCmd) (s : State) : clockMarks k (applyRailCmd c s) = clockMarks k s := by
  cases c with
  | setTarget r mv slew src =>
    exact clockMarks_of_rest (applyTarget_rest (F := [.rails]) (by decide) r mv slew src s) (by decide) (by decide)
  | enable r => exact clockMarks_railEnable k r s
  | disable r atOnce => exact clockMarks_railDisable k r atOnce s
  | hint r ifc tfc => exact clockMarks_of_rest (hintAccept_rest (F := [.rails, .phases]) (by decide) (by decide) r ifc tfc s) (by decide) (by decide)
  | clearFault r =>
    exact clockMarks_of_rest (clearFaultLatch_rest (F := [.links, .rails, .evc, .tw]) (by decide) (by decide) (by decide) (by decide) r s)
      (by decide) (by decide)

theorem clockMarks_railTakes (j : Fin 7) (f : LinkFrame) (s : State) : clockMarks k (railTakes j f s) = clockMarks k s := by
  unfold railTakes
  split
  · split
    · exact clockMarks_applyRailCmd k _ s
    · rfl
  · rfl
  · exact clockMarks_of_rest (objAnswer_rest (F := [.links, .evc, .tw, .freeCtr]) (by decide) (by decide) (by decide) (by decide) j _ _ _ s)
      (by decide) (by decide)
  · rfl

theorem clockMarks_helmPump (j : Fin 7) (s : State) : clockMarks k (helmPump j s) = clockMarks k s := by
  unfold helmPump
  split
  · rfl
  · exact foldl_keeps (clockMarks k) (fun a f => clockMarks_railTakes k j f (crossLink j .atRail f a)) _ _

@[simp] theorem clockMarks_sendCmd (c : RailCmd) (s : State) : clockMarks k (sendCmd c s) = clockMarks k s := clockMarks_helmPump k _ _

theorem clockMarks_switchOff (i : Fin 46) (s : State) : clockMarks k (switchOff i s) = clockMarks k s := by
  unfold switchOff
  split
  · rfl
  · dsimp only
    split
    · simp
    · rfl
    · exact (clockMarks_of_rest (foCommandOff_rest (F := [.fo, .evc, .tw]) (by decide) (by decide) (by decide) _ _) (by decide)
        (by decide)).trans rfl

theorem clockMarks_shutAdvance (fuel : Nat) (g : Fin 8) (s : State) : clockMarks k (shutAdvance fuel g s) = clockMarks k s := by
  induction fuel generalizing s with
  | zero => rfl
  | succ fuel ih =>
    unfold shutAdvance
    split
    · split
      · rw [ih]; rfl
      · rfl
    · split
      · rw [clockMarks_groupTo]; rfl
      · rw [ih]
        exact foldl_keeps (clockMarks k) (fun a i => clockMarks_switchOff k i a) _ _

theorem clockMarks_shutdown (g : Fin 8) (byFault : Bool) (first : Option (Fin 46)) (s : State) :
    clockMarks k (shutdown g byFault first s) = clockMarks k s := by
  unfold shutdown
  dsimp only
  rw [clockMarks_shutAdvance, clockMarks_groupTo]
  split
  · rw [clockMarks_switchOff, clockMarks_itemsUnwait]; rfl
  · rw [clockMarks_itemsUnwait]; rfl

theorem clockMarks_groupOff (g : Fin 8) (i : Fin 46) (s : State) : clockMarks k (groupOff g i s) = clockMarks k s := by
  unfold groupOff
  dsimp only
  split
  · rw [clockMarks_shutdown]; rfl
  · rw [clockMarks_shutdown]; rfl
  · rw [clockMarks_groupTo]; rfl
  · rfl

/-- The shutdowns that follow a class A fault leave the marks (R290). -/
theorem clockMarks_safeShutdowns (l : List (Fin 46)) (s : State) : clockMarks k (safeShutdowns l s) = clockMarks k s := by
  unfold safeShutdowns
  refine foldl_keeps (clockMarks k) (fun a g => ?_) _ _
  split
  · split
    · rfl
    · exact clockMarks_groupOff k _ _ a
  · rfl

end

/-- What the assertion of the fault line may change. -/
abbrev assertFields : List Fld := [.links, .fo, .rails, .regs, .chg, .evc, .tw]

/-- The line and `SAFE_N` asserted, the die marked. -/
def lineMarked (die : Nat) (s : State) : State :=
  { s with faultLine := true, safeN := true, log := { s.log with aDies := setBit s.log.aDies die } }

theorem assertLine_rest_line (die : Nat) (s : State) : rest assertFields (assertLine die s) = rest assertFields (lineMarked die s) := by
  unfold assertLine
  rw [pgRefreshAll_rest (by decide) (by decide) (by decide) (by decide), safeRailBits_rest (by decide) (by decide) (by decide) (by decide),
    safeOutputs_rest (by decide) (by decide) (by decide) (by decide) (by decide)]
  rfl

/-- What a class A fault without a reset may change besides its own marks. -/
abbrev followFields : List Fld :=
  [.nv, .links, .fo, .rails, .phases, .dies, .items, .groups, .regs, .rsto, .chg, .log, .evc, .tw, .update, .freeCtr]

theorem faultAsserted_rest (code : FaultCode) (die src detail : Nat) (s : State) :
    rest followFields (faultAsserted code die src detail s) = rest followFields (lineMarked die s) :=
  (rest_mono (by decide) (logFault_rest_log code die src detail _)).trans (rest_mono (by decide) (assertLine_rest_line die s))

theorem clockMarks_faultAsserted (k : Fin 7) (code : FaultCode) (die src detail : Nat) (s : State) :
    clockMarks k (faultAsserted code die src detail s) = clockMarks k (lineMarked die s) := by
  rw [faultAsserted, clockMarks_logFault]
  exact clockMarks_of_rest (assertLine_rest_line die s) (by decide) (by decide)

theorem faultAsserted_logAReset (code : FaultCode) (die src detail : Nat) (s : State) :
    (faultAsserted code die src detail s).logAReset = s.logAReset := by
  have hlog := logFault_rest_log code die src detail (assertLine die s)
  have hline := assertLine_rest_line die s
  exact logAReset_congr ((rest_settings hlog (by decide)).trans ((rest_settings hline (by decide)).trans rfl))
    ((rest_freeCtr hlog (by decide)).trans ((rest_freeCtr hline (by decide)).trans rfl))

/-- A clock fault of a die with `LOG_A_RESET` clear: its follow-up is held in an activation pause, else the shutdowns of R290. -/
theorem classA_rsysClkFail {s : State} (h : s.logAReset = false) (die src detail : Nat) (k : Fin 7) :
    clockMarks k (classA .rsysClkFail die src detail s) = clockMarks k (lineMarked die s) ∧
    rest followFields (classA .rsysClkFail die src detail s) = rest followFields (lineMarked die s) := by
  have hreset := (faultAsserted_logAReset .rsysClkFail die src detail s).trans h
  have hmarks := clockMarks_faultAsserted k .rsysClkFail die src detail s
  have hrest := faultAsserted_rest .rsysClkFail die src detail s
  have hfollow : classA .rsysClkFail die src detail s =
      classAFollow .rsysClkFail (safeItems s) (faultAsserted .rsysClkFail die src detail s) := rfl
  obtain ⟨u, hu⟩ : ∃ u, u = faultAsserted .rsysClkFail die src detail s := ⟨_, rfl⟩
  rw [← hu] at hreset hmarks hrest hfollow
  rw [hfollow]
  unfold classAFollow
  dsimp only
  split
  · exact ⟨hmarks, (rest_with_update (by decide) u _).trans hrest⟩
  · rw [hreset, if_neg (by decide)]
    exact ⟨(clockMarks_safeShutdowns k _ u).trans hmarks,
      (safeShutdowns_rest (by decide) (by decide) (by decide) (by decide) (by decide) (by decide) (by decide) (by decide) (by decide)
        (by decide) (by decide) (by decide) (by decide) (by decide) _ u).trans hrest⟩

theorem execRsysClockCheck_absent {s : State} {k : Fin 7} (h : diePresent s k = false) (kHz : Nat) :
    exec (.rsysClockCheck k kHz) s = .fault .absentInPart := by
  show execRsysClockCheck k kHz s = _
  rw [execRsysClockCheck, h, Bool.not_false, if_pos rfl]

/-- The mark of the die's clock as measured. -/
def clockMeasured (k : Fin 7) (bad : Bool) (s : State) : State := modDie k (fun d => { d with rsysBad := bad }) s

theorem execRsysClockCheck_inside {s : State} (hs : sysRuns s = true) {k : Fin 7} (h : diePresent s k = true) {kHz : Nat}
    (hlo : 97000 ≤ kHz) (hhi : kHz ≤ 103000) : exec (.rsysClockCheck k kHz) s = .next (clockMeasured k false s) := by
  show execRsysClockCheck k kHz s = _
  rw [execRsysClockCheck, h, hs, decide_eq_false (Nat.not_lt.mpr hlo), decide_eq_false (Nat.not_lt.mpr hhi)]
  simp only [Bool.not_true, Bool.or_self, Bool.false_and, Bool.false_eq_true, if_false]
  rfl

theorem execRsysClockCheck_out {s : State} (hs : sysRuns s = true) {k : Fin 7} (h : diePresent s k = true) {kHz : Nat}
    (hk : kHz < 97000 ∨ 103000 < kHz) (hb : s.dies[k].rsysBad = false) :
    exec (.rsysClockCheck k kHz) s = .next (classA .rsysClkFail (k + 1) (k + 1) kHz (clkTrip (clockMeasured k true s))) := by
  have hbad : (decide (kHz < 97000) || decide (103000 < kHz)) = true := by simpa using hk
  show execRsysClockCheck k kHz s = _
  rw [execRsysClockCheck, h, hs, hbad, hb]
  simp only [Bool.not_true, Bool.not_false, Bool.and_self, Bool.false_eq_true, if_false, if_true]
  rfl

theorem execRsysClockCheck_spec {s : State} (hs : sysRuns s = true) {k : Fin 7} {kHz : Nat} (h : diePresent s k = true)
    (hk : kHz < 97000 ∨ 103000 < kHz) (hb : s.dies[k].rsysBad = false) (hr : s.logAReset = false) : ∃ t,
      exec (.rsysClockCheck k kHz) s = .next t ∧ t.dies[k].rsysBad = true ∧ t.faultLine = true ∧ t.safeN = true ∧
      t.clk = { s.clk with failCnt := satAdd max16 s.clk.failCnt 1 } ∧ t.log.aDies = setBit s.log.aDies (k + 1) ∧
      t.boot = s.boot ∧ t.mram = s.mram ∧ t.settings = s.settings ∧ t.hamper = s.hamper := by
  have hexec := execRsysClockCheck_out hs h hk hb
  obtain ⟨u, hu⟩ : ∃ u, u = clkTrip (clockMeasured k true s) := ⟨_, rfl⟩
  have hur : u.logAReset = false := by rw [hu]; exact hr
  rw [← hu] at hexec
  obtain ⟨hmarks, hrest⟩ := classA_rsysClkFail hur (k + 1) (k + 1) kHz k
  obtain ⟨t, ht⟩ : ∃ t, t = classA .rsysClkFail (k + 1) (k + 1) kHz u := ⟨_, rfl⟩
  rw [← ht] at hexec hmarks hrest
  simp only [clockMarks, Prod.mk.injEq] at hmarks
  obtain ⟨haDies, hbadMark⟩ := hmarks
  refine ⟨t, hexec, hbadMark.trans ?_, rest_faultLine hrest (by decide), rest_safeN hrest (by decide), (rest_clk hrest (by decide)).trans ?_,
    haDies.trans ?_, (rest_boot hrest (by decide)).trans ?_, (rest_mram hrest (by decide)).trans ?_,
    (rest_settings hrest (by decide)).trans ?_, (rest_hamper hrest (by decide)).trans ?_⟩
  · rw [hu]
    exact congrArg DieState.rsysBad (vmod_get s.dies k _)
  all_goals rw [hu]; rfl

/-! The crystal and the CAN PLL (R24). -/

theorem canStart_get_ne {j n : Fin 4} (h : j ≠ n) (s : State) : (canStart n s).can[j] = s.can[j] := by
  unfold canStart
  split
  · split <;> exact modCan_get_ne h _ _
  · rfl

/-- The end of an update reaches its own port only. -/
theorem updPortLost_get_ne {j n : Fin 4} (h : j ≠ n) (s : State) : (updPortLost (portOfCan n) s).can[j] = s.can[j] := by
  by_cases hport : s.update.port = portOfCan n
  · have hlost : updPortLost (portOfCan n) s = updStop s := if_pos hport
    rw [hlost]
    cases hr : updRuns s.update.phase
    · rw [updStop_idle hr]
    · obtain ⟨u, hu⟩ : ∃ u : State, u = { s with update := { s.update with phase := .idle, header := [], got := [], written := 0 } } := ⟨_, rfl⟩
      have hstop : updStop s = eventEdge 35 (imageAcksEnd u) := by
        unfold updStop
        rcases (updRuns_iff _).mp hr with hp | hp <;> rw [hp, hu]
      have hcan := rest_can (eventEdge_rest (F := [.evc, .tw]) (by decide) (by decide) 35 (imageAcksEnd u)) (by decide)
      have hucan : u.can = s.can := by rw [hu]
      rw [hstop, hcan, imageAcksEnd_port (n := n) (s := u) (by rw [hu]; exact hport),
        foldl_keeps (fun a => a.can[j]) fun a w => respond_get_ne h w _ a, modCan_get_ne h, hucan]
  · rw [updPortLost_elsewhere hport]

theorem canStop_get (n : Fin 4) (ph : CanPhase) (s : State) : (canStop n ph s).can[n].phase = ph := by
  rw [canStop, modCan_get]

theorem canStop_get_ne {j n : Fin 4} (h : j ≠ n) (ph : CanPhase) (s : State) : (canStop n ph s).can[j] = s.can[j] := by
  rw [canStop, modCan_get_ne h, canDrop, modCan_get_ne h]

theorem canClockLost_get_ne {j n : Fin 4} (h : j ≠ n) (s : State) : (canClockLost n s).can[j] = s.can[j] := by
  unfold canClockLost
  split
  · exact canStart_get_ne h s
  · rw [updPortLost_get_ne h, canStop_get_ne h]

/-- A port that loses its clock is stopped. -/
theorem canClockLost_stopped {n : Fin 4} {s : State} (hc : canClock s = false) : (canClockLost n s).can[n].phase.stopped = true := by
  unfold canClockLost
  split
  · next hs =>
    cases hd : s.can[n].disabling
    · have hrun : canShouldRun s n = false := by rw [canShouldRun, hc, Bool.and_false]
      rw [canStart_refused hs hd hrun, modCan_get]
      dsimp only
      split <;> rfl
    · rw [canStart_other (by rw [hs, hd]; rfl)]
      exact hs
  · have hphase := canStop_get n (if s.canEn n then .noClock else .disabled) s
    obtain ⟨u, hu⟩ : ∃ u, u = canStop n (if s.canEn n then .noClock else .disabled) s := ⟨_, rfl⟩
    rw [← hu] at hphase ⊢
    have hstopped : u.can[n].phase = .noClock ∨ u.can[n].phase = .disabled := by
      rw [hphase]
      split
      · exact .inl rfl
      · exact .inr rfl
    obtain ⟨hbooks, -⟩ := updPortLost_quiet (n := n) (s := u) (by rcases hstopped with h | h <;> rw [h] <;> decide)
      (by rcases hstopped with h | h <;> rw [h] <;> decide)
    have hsame : (updPortLost (portOfCan n) u).can[n].phase = u.can[n].phase := congrArg Prod.fst hbooks
    rw [hsame]
    rcases hstopped with h | h <;> rw [h] <;> rfl

theorem canClockLost_rest_can (n : Fin 4) (s : State) : rest [.evc, .tw, .can, .update] (canClockLost n s) = rest [.evc, .tw, .can, .update] s :=
  canClockLost_rest (by decide) (by decide) (by decide) (by decide) n s

theorem canClock_of_clk {s t : State} (h : t.clk = s.clk) : canClock t = canClock s := by rw [canClock, h, canClock]

/-- Every port that loses its clock is stopped, and the others stand. -/
theorem canClocksLost_stopped (l : List (Fin 4)) {s : State} (hc : canClock s = false) (n : Fin 4) :
    (n ∈ l → (l.foldl (fun a m => canClockLost m a) s).can[n].phase.stopped = true) ∧
    (n ∉ l → (l.foldl (fun a m => canClockLost m a) s).can[n] = s.can[n]) := by
  induction l generalizing s with
  | nil => exact ⟨fun h => (nomatch h), fun _ => rfl⟩
  | cons m l ih =>
    have hclk := (canClock_of_clk (rest_clk (canClockLost_rest_can m s) (by decide))).trans hc
    obtain ⟨hin, hout⟩ := ih hclk
    rw [List.foldl_cons]
    refine ⟨fun h => ?_, fun h => ?_⟩
    · by_cases hl : n ∈ l
      · exact hin hl
      · have hm : n = m := (List.mem_cons.mp h).resolve_right hl
        rw [hout hl, hm]
        exact canClockLost_stopped hc
    · obtain ⟨hm, hl⟩ := not_or.mp (mt List.mem_cons.mpr h)
      rw [hout hl, canClockLost_get_ne hm]

/-- The crystal or the PLL has failed. -/
def clkStopped (c : ClockState) : ClockState := { c with xtalOk := false, canLock := false }

theorem canClockFail_spec (s : State) : (canClockFail clkStopped s).clk =
      { s.clk with xtalOk := false, canLock := false, failCnt := satAdd max16 s.clk.failCnt 1 } ∧
    (∀ n : Fin 4, (canClockFail clkStopped s).can[n].phase.stopped = true) ∧
    rest [.nv, .clk, .log, .evc, .tw, .can, .update] (canClockFail clkStopped s) = rest [.nv, .clk, .log, .evc, .tw, .can, .update] s := by
  obtain ⟨u, hu⟩ : ∃ u, u = clkTrip (modClk clkStopped s) := ⟨_, rfl⟩
  have huclk : canClock u = false := by rw [hu]; rfl
  obtain ⟨v, hv⟩ : ∃ v, v = (allFin 4).foldl (fun a n => canClockLost n a) u := ⟨_, rfl⟩
  have hfail : canClockFail clkStopped s = logFault .clkCanFail 0 0 (clkStatus v) v := by rw [canClockFail, ← hu, ← hv]
  have hlog := logFault_rest_log .clkCanFail 0 0 (clkStatus v) v
  have hports : rest [.evc, .tw, .can, .update] v = rest [.evc, .tw, .can, .update] u := by
    rw [hv]
    exact foldl_keeps _ (fun a n => canClockLost_rest_can n a) _ _
  rw [hfail]
  refine ⟨?_, fun n => ?_, ?_⟩
  · rw [rest_clk hlog (by decide), rest_clk hports (by decide), hu]
    rfl
  · rw [rest_can hlog (by decide), hv]
    exact (canClocksLost_stopped (allFin 4) huclk n).1 (List.mem_finRange n)
  · refine (rest_mono (by decide) hlog).trans ((rest_mono (by decide) hports).trans ?_)
    rw [hu]
    exact rest_with_clk (by decide) s _

theorem execCrystalStartTimeout_eq {s : State} (hs : sysRuns s = true) : exec .crystalStartTimeout s = .next (canClockFail clkStopped s) :=
  congrArg Host.Outcome.next (if_pos hs)

theorem execCanPllLockLoss_eq {s : State} (hs : sysRuns s = true) : exec .canPllLockLoss s = .next (canClockFail clkStopped s) :=
  congrArg Host.Outcome.next (if_pos hs)

/-- What a failed CAN clock leaves, whichever command reports it. -/
theorem canClockFail_next {c : Instr} {s : State} (h : exec c s = .next (canClockFail clkStopped s)) : ∃ t, exec c s = .next t ∧
    t.clk = { s.clk with xtalOk := false, canLock := false, failCnt := satAdd max16 s.clk.failCnt 1 } ∧
    (∀ n : Fin 4, t.can[n].phase.stopped = true) ∧ t = { s with nv := t.nv, clk := t.clk, log := t.log, evc := t.evc, tw := t.tw, can := t.can, update := t.update } := by
  obtain ⟨hclk, hstopped, hrest⟩ := canClockFail_spec s
  obtain ⟨t, ht⟩ : ∃ t, t = canClockFail clkStopped s := ⟨_, rfl⟩
  rw [← ht] at h hclk hstopped hrest
  exact ⟨t, h, hclk, hstopped, rest_patch hrest⟩

/-! The CAN clock comes (R24, R501). -/

/-- A port that starts goes on starting whatever port starts besides. -/
theorem canStart_keeps_starting {n : Fin 4} {s : State} (h : s.can[n].phase = .starting) (m : Fin 4) :
    (canStart m s).can[n].phase = .starting := by
  by_cases hm : n = m
  · rw [← hm, canStart_starting h, h]
  · rw [canStart_get_ne hm, h]

theorem canStarts_keep_starting (l : List (Fin 4)) {n : Fin 4} {s : State} (h : s.can[n].phase = .starting) :
    (l.foldl (fun a m => canStart m a) s).can[n].phase = .starting := by
  induction l generalizing s with
  | nil => exact h
  | cons m l ih => exact ih (canStart_keeps_starting h m)

/-- Whether a port may run does not hang on the ports. -/
theorem canShouldRun_of_rest {s t : State} (h : rest [.can] t = rest [.can] s) (n : Fin 4) : canShouldRun t n = canShouldRun s n := by
  have ht := rest_patch h
  rw [ht]
  rfl

/-- A stopped port that may run starts at its turn. -/
theorem canStarts_start (l : List (Fin 4)) {n : Fin 4} {s : State} (hn : n ∈ l) (hs : s.can[n].phase.stopped = true)
    (hd : s.can[n].disabling = false) (hr : canShouldRun s n = true) : (l.foldl (fun a m => canStart m a) s).can[n].phase = .starting := by
  induction l generalizing s with
  | nil => exact absurd hn (List.not_mem_nil)
  | cons m l ih =>
    rw [List.foldl_cons]
    by_cases hm : n = m
    · refine canStarts_keep_starting l ?_
      rw [← hm, canStart_runs hs hd hr, modCan_get]
    · have hport := canStart_get_ne hm s
      refine ih ((List.mem_cons.mp hn).resolve_left hm) (by rw [hport]; exact hs) (by rw [hport]; exact hd) ?_
      rw [canShouldRun_of_rest (canStart_rest (by decide) m s)]
      exact hr

theorem execCanClockGood_spec {s : State} (hs : sysRuns s = true) : ∃ t, exec .canClockGood s = .next t ∧
    t.clk = { s.clk with xtalOk := true, canLock := true } ∧
    (∀ n : Fin 4, s.canEn n = true → poweredOutputs s = true → (s.pwr.state = .run ∨ s.pwr.state = .doze) →
      s.can[n].phase.stopped = true → s.can[n].disabling = false → t.can[n].phase = .starting) ∧ t = { s with clk := t.clk, can := t.can } := by
  obtain ⟨u, hu⟩ : ∃ u, u = modClk (fun c => { c with xtalOk := true, canLock := true }) s := ⟨_, rfl⟩
  have hexec : exec .canClockGood s = .next (canStartAll u) := by
    rw [hu]
    exact congrArg Host.Outcome.next (if_pos hs)
  have hrest := canStartAll_rest (F := [.can]) (by decide) u
  refine ⟨_, hexec, ?_, fun n he hp hst hstop hd => ?_, rest_patch (F := [.clk, .can]) ((rest_mono (by decide) hrest).trans ?_)⟩
  · rw [rest_clk hrest (by decide), hu]
    rfl
  · have hucan : u.can = s.can := by rw [hu]; rfl
    have hrun : canShouldRun u n = true := by
      have hstate : (decide (s.pwr.state = .run) || decide (s.pwr.state = .doze)) = true := by simpa using hst
      have hsame : canShouldRun u n = (s.canEn n && poweredOutputs s && (decide (s.pwr.state = .run) || decide (s.pwr.state = .doze)) && true) := by
        rw [hu]; rfl
      rw [hsame, he, hp, hstate]
      rfl
    exact canStarts_start (allFin 4) (List.mem_finRange n) (by rw [hucan]; exact hstop) (by rw [hucan]; exact hd) hrun
  · rw [hu]
    exact rest_with_clk (by decide) s _

/-- Settles O1: the pair's and SYS's faults reset the part, a rail die's leaves the boot alone, and the CAN clock's reaches the ports. -/
theorem clockMonitors : Obligations.ClockMonitors := by
  unfold Obligations.ClockMonitors
  exact fun s hs => ⟨fun word h => execLockstepMismatch_spec hs h word, fun _ => execSysClockCheck_spec hs,
    fun _ => execSysClockCheck_inside, fun _ kHz h => execRsysClockCheck_absent h kHz, fun _ _ h => execRsysClockCheck_inside hs h,
    fun _ _ h => execRsysClockCheck_spec hs h, canClockFail_next (execCrystalStartTimeout_eq hs),
    canClockFail_next (execCanPllLockLoss_eq hs), execCanClockGood_spec hs⟩

end Sys2Proof.Proofs

namespace Sys2Proof.Proofs

open Sys2Proof.Machine Sys2Proof.Laws

/-! ### O6: the boot. Frames named by the fields that stay -/

/-- Every field of the state. -/
def everyFld : List Fld :=
  [.part, .settings, .mram, .nv, .clk, .hamper, .links, .straps, .boot, .sk, .pwr, .zin, .fo, .zbus, .rails, .phases, .gangs, .dies,
    .items, .groups, .regs, .rsto, .pp, .chg, .gauge, .hk, .therm, .wd, .ewd, .log, .faultLine, .safeN, .fab, .evc, .tw, .can, .roles,
    .reports, .xb, .netLast, .dirSel, .update, .skipCnt, .hintAt, .ack, .devTime, .aonAcc, .freeCtr, .pending]

/-- Every field but those of `K`: `rest (allBut K)` keeps `K` alone. -/
def allBut (K : List Fld) : List Fld := everyFld.filter fun f => f ∉ K

@[simp] theorem mem_allBut {K : List Fld} {f : Fld} : f ∈ allBut K ↔ f ∉ K := by
  have hall : f ∈ everyFld := by cases f <;> decide
  simp [allBut, hall]

theorem boot_of_rest {s t : State} (h : rest (allBut [.boot]) t = rest (allBut [.boot]) s) : t.boot = s.boot := rest_boot h (by simp)

section
variable {F : List Fld}

@[simp] theorem modBoot_rest (h : Fld.boot ∈ F) (f : BootState → BootState) (s : State) : rest F (modBoot f s) = rest F s :=
  rest_with_boot h s _
@[simp] theorem modSk_rest (h : Fld.sk ∈ F) (f : SkState → SkState) (s : State) : rest F (modSk f s) = rest F s := rest_with_sk h s _
@[simp] theorem trainLinks_rest (h : Fld.links ∈ F) (s : State) : rest F (trainLinks s) = rest F s := rest_with_links h s _
@[simp] theorem phasesConfigure_rest (h : Fld.phases ∈ F) (s : State) : rest F (phasesConfigure s) = rest F s := rest_with_phases h s _
@[simp] theorem wdConfigure_rest (h : Fld.wd ∈ F) (s : State) : rest F (wdConfigure s) = rest F s := rest_with_wd h s _
@[simp] theorem houseStart_rest (hk : Fld.hk ∈ F) (ht : Fld.therm ∈ F) (he : Fld.ewd ∈ F) (s : State) :
    rest F (houseStart s) = rest F s := by
  simp [houseStart, rest, hk, ht, he]

end

/-! ### What step 6 leaves of the store (R95, R379) -/

/-- The key and the tamper pin of the store's interface, the configuration copies and the Home Chart. -/
def storeKept (s : State) : Bool × Bool × Vector CfgCopy 3 × HomeChart := (s.nv.keyLoaded, s.nv.tamperLow, s.mram.cfg, s.mram.hc)

theorem storeKept_of_rest {s t : State} (h : rest (allBut [.nv, .mram]) t = rest (allBut [.nv, .mram]) s) : storeKept t = storeKept s := by
  rw [storeKept, storeKept, rest_nv h (by simp), rest_mram h (by simp)]

theorem modNv_storeKept {f : StoreState → StoreState} (hf : ∀ v, (f v).keyLoaded = v.keyLoaded ∧ (f v).tamperLow = v.tamperLow) (s : State) :
    storeKept (modNv f s) = storeKept s := by
  rw [storeKept, modNv, (hf s.nv).1, (hf s.nv).2, storeKept]

theorem logRing_storeKept (f : HeldFault) (s : State) : storeKept (logRing f s) = storeKept s := by
  unfold logRing; dsimp only; split <;> rfl

theorem logEntry_storeKept (f : HeldFault) (s : State) : storeKept (logEntry f s) = storeKept s := by
  have hring : storeKept (logRing f { s with log := logLatch f s.log }) = storeKept s := logRing_storeKept f _
  refine (storeKept_of_rest ?_).trans hring
  unfold logEntry
  split <;> simp

theorem logFault_storeKept (code : FaultCode) (die src detail : Nat) (s : State) :
    storeKept (logFault code die src detail s) = storeKept s := by
  unfold logFault
  split
  · exact logEntry_storeKept _ s
  · rfl

theorem startWriteBack_storeKept (s : State) : storeKept (startWriteBack s) = storeKept s := rfl

theorem areaFull_storeKept (s : State) : storeKept (areaFull s) = storeKept s := by
  unfold areaFull
  split
  · split
    · exact startWriteBack_storeKept s
    · rfl
  · rfl

theorem putCtrRec_storeKept (r : CtrRec) (s : State) : storeKept (putCtrRec r s) = storeKept s := by
  unfold putCtrRec
  split
  · rfl
  · split
    · rfl
    · exact areaFull_storeKept _

theorem ctrAppend_storeKept (id : Fin 12) (value : Nat) (s : State) : storeKept (ctrAppend id value s) = storeKept s :=
  putCtrRec_storeKept _ _

theorem loadCounters_storeKept (s : State) : storeKept (loadCounters s) = storeKept s := by
  unfold loadCounters; split <;> rfl

theorem bootRecord_storeKept (s : State) : storeKept (bootRecord s) = storeKept s := by
  unfold bootRecord
  dsimp only
  rw [ctrAppend_storeKept, ctrAppend_storeKept, ctrAppend_storeKept, ctrAppend_storeKept]
  rfl

theorem logSkTimeout_storeKept (s : State) : storeKept (logSkTimeout s) = storeKept s := by
  unfold logSkTimeout
  split
  · exact logFault_storeKept _ _ _ _ s
  · rfl

theorem logVote_storeKept (s : State) : storeKept (logVote s) = storeKept s := by
  unfold logVote
  extract_lets s1
  have h1 : storeKept s1 = storeKept s := by
    unfold s1; split
    · exact logFault_storeKept _ _ _ _ s
    · rfl
  split
  · exact (logFault_storeKept _ _ _ _ s1).trans h1
  · exact h1

theorem loadAlmanac_storeKept (s : State) : storeKept (loadAlmanac s) = storeKept s := by
  unfold loadAlmanac
  split
  · rfl
  · exact logFault_storeKept _ _ _ _ _

theorem abandonedWriteBacks_storeKept (s : State) : storeKept (abandonedWriteBacks s) = storeKept s := by
  refine foldl_keeps storeKept (fun a k => ?_) _ s
  dsimp only
  split
  · rfl
  · rw [logFault_storeKept]
    refine Eq.trans (b := storeKept (if a.mram.slots[k].wipLearn = true then learnResult 11 a else a)) rfl (storeKept_of_rest ?_)
    split <;> simp

theorem presentFix_storeKept (s : State) : storeKept (presentFix s) = storeKept s := by
  unfold presentFix
  refine (foldl_keeps storeKept (fun a k => ?_) _ _).trans rfl
  split
  · exact ctrAppend_storeKept _ _ a
  · rfl

theorem zoneConfigure_storeKept (n : Fin 4) (s : State) : storeKept (zoneConfigure n s) = storeKept s := by
  unfold zoneConfigure
  extract_lets x s1 s2
  have h1 : storeKept s1 = storeKept s := by
    unfold s1; split
    · exact logFault_storeKept _ _ _ _ s
    · rfl
  refine (storeKept_of_rest (s := s1) ?_).trans h1
  unfold s2
  (repeat' split) <;> simp

theorem channelsConfigure_storeKept (s : State) : storeKept (channelsConfigure s) = storeKept s := by
  unfold channelsConfigure
  refine Eq.trans (storeKept_of_rest ?_) (foldl_keeps storeKept (fun a n => zoneConfigure_storeKept n a) (allFin 4) s)
  simp

theorem railConfigure_storeKept (r : Fin 28) (s : State) : storeKept (railConfigure r s) = storeKept s := by
  unfold railConfigure; split <;> rfl

theorem gangForm_storeKept (g : Fin 4) (s : State) : storeKept (gangForm g s) = storeKept s := by
  unfold gangForm
  split
  · rfl
  · extract_lets code s1 s2
    split
    · refine (foldl_keeps storeKept (fun a k => ?_) _ _).trans (b := storeKept s2) ?_
      · split <;> rfl
      · unfold s2; split <;> rfl
    · exact logFault_storeKept _ _ _ _ _

theorem gangsConfigure_storeKept (s : State) : storeKept (gangsConfigure s) = storeKept s := by
  unfold gangsConfigure
  refine (foldl_keeps storeKept (fun a r => ?_) _ _).trans (foldl_keeps storeKept (fun a g => gangForm_storeKept g a) (allFin 4) s)
  split <;> rfl

theorem sourceEval_storeKept (s : State) : storeKept (sourceEval s) = storeKept s := by
  unfold sourceEval
  extract_lets t dis s1 s2
  have h2 : storeKept s2 = storeKept s := by
    refine (storeKept_of_rest (s := s1) ?_).trans rfl
    unfold s2; split <;> simp
  clear_value dis s2
  cases dis with
  | none => exact h2
  | some n =>
    dsimp only
    split
    · exact h2
    · exact (logFault_storeKept _ _ _ _ s2).trans h2

theorem pathStart_storeKept (s : State) : storeKept (pathStart s) = storeKept s := by
  unfold pathStart
  extract_lets s1 s2
  have h1 : storeKept (if s.boot.cold = true then pathFet s1 else s1) = storeKept s := by
    refine storeKept_of_rest ?_
    unfold s1
    (repeat' split) <;> simp
  have h2 : storeKept s2 = storeKept s := (sourceEval_storeKept _).trans h1
  split
  · exact h2
  · exact h2

theorem packStart_storeKept (s : State) : storeKept (packStart s) = storeKept s := by
  refine storeKept_of_rest ?_
  unfold packStart
  dsimp only
  split <;> simp

theorem portsConfigure_storeKept (s : State) : storeKept (portsConfigure s) = storeKept s := by
  refine (foldl_keeps storeKept (fun a n => storeKept_of_rest ?_) _ _).trans rfl
  simp

theorem itemConfigure_storeKept (i : Fin 46) (s : State) : storeKept (itemConfigure i s) = storeKept s := by
  unfold itemConfigure
  split
  · rfl
  · split
    · rfl
    · dsimp only
      split
      · rfl
      · exact logFault_storeKept _ _ _ _ _

theorem seqConfigure_storeKept (s : State) : storeKept (seqConfigure s) = storeKept s := by
  unfold seqConfigure
  dsimp only
  rw [foldl_keeps storeKept (fun a g => storeKept_of_rest (modGroup_rest (by simp) g _ a)),
    foldl_keeps storeKept fun a i => itemConfigure_storeKept i a]

theorem logStart_storeKept (s : State) : storeKept (logStart s) = storeKept s := by
  unfold logStart
  exact (foldl_keeps storeKept (fun a f => logEntry_storeKept f a) _ _).trans rfl

/-- Step 6 of the boot, but for the write-back that a full record area asks for and the phase that follows it. -/
theorem bootStep6_storeKept (s : State) : storeKept (bootStep6 s) = storeKept s := by
  unfold bootStep6
  extract_lets s1 s2 s3 s4
  have h1 : storeKept s1 = storeKept s := by
    unfold s1
    rw [presentFix_storeKept, abandonedWriteBacks_storeKept, loadAlmanac_storeKept, logVote_storeKept, logSkTimeout_storeKept,
      bootRecord_storeKept, loadCounters_storeKept]
    rfl
  have h2 : storeKept s2 = storeKept s1 := by
    unfold s2
    rw [foldl_keeps storeKept fun a r => railConfigure_storeKept r a, channelsConfigure_storeKept]
  have h3 : storeKept s3 = storeKept s2 := by
    unfold s3
    rw [pathStart_storeKept, gangsConfigure_storeKept, storeKept_of_rest (phasesConfigure_rest (by simp) s2)]
  have h4 : storeKept s4 = storeKept s3 := by
    unfold s4
    rw [modNv_storeKept, portsConfigure_storeKept, storeKept_of_rest (wdConfigure_rest (by simp) _),
      storeKept_of_rest (houseStart_rest (by simp) (by simp) (by simp) _), packStart_storeKept]
    exact fun _ => ⟨rfl, rfl⟩
  rw [areaFull_storeKept, storeKept_of_rest (modBoot_rest (by simp) _ _), logStart_storeKept, seqConfigure_storeKept, h4, h3, h2, h1]

end Sys2Proof.Proofs

namespace Sys2Proof.Proofs

open Sys2Proof.Machine Sys2Proof.Laws

/-! ### O6: power-on reset and its release (R76, R84, R95) -/

section
variable {F : List Fld}

@[simp] theorem loadCounters_rest (h : Fld.nv ∈ F) (s : State) : rest F (loadCounters s) = rest F s := by
  unfold loadCounters; split <;> simp [h]
@[simp] theorem homeChartSettings_rest (hs : Fld.settings ∈ F) (hz : Fld.zbus ∈ F) (s : State) :
    rest F (homeChartSettings s) = rest F s :=
  (rest_with_zbus hz _ _).trans (rest_with_settings hs s _)
@[simp] theorem clocksLock_rest (h : Fld.clk ∈ F) (s : State) : rest F (clocksLock s) = rest F s := by
  unfold clocksLock; split <;> simp [h]

end

/-- The supply's failure tears at most the journal, and only with entries that wait for it (R380). -/
theorem tearJournal_mram (s : State) : (s.log.ring = [] → (tearJournal s).mram = s.mram) ∧
    (tearJournal s).mram = { s.mram with journal := (tearJournal s).mram.journal, jnlTornRec := (tearJournal s).mram.jnlTornRec } := by
  unfold tearJournal
  refine ⟨fun h => ?_, ?_⟩
  · rw [h]; rfl
  · split <;> rfl

theorem execVauxPowerOnReset_spec {s : State} (h : s.boot.phase ≠ .holdUp) : ∃ t, exec .vauxPowerOnReset s = .next t ∧
    t.boot.phase = .porHeld ∧ t.pwr.state = .off ∧ t.hamper.mem = [] ∧ t.settings = [] ∧ (s.log.ring = [] → t.mram = s.mram) ∧
    t.mram = { s.mram with journal := t.mram.journal, jnlTornRec := t.mram.jnlTornRec } ∧ t.part = s.part ∧ t.pending = s.pending ∧
    ∀ r : Fin 28, t.rails[r].enabled = false ∧ t.rails[r].enPin = s.rails[r].enPin := by
  obtain ⟨hempty, htear⟩ := tearJournal_mram s
  have htorn : rest [.mram, .freeCtr] (useFree (tearJournal s)) = rest [.mram, .freeCtr] s := by simp
  have hpart : (useFree (tearJournal s)).part = s.part := rest_part htorn (by decide)
  have hpending : (useFree (tearJournal s)).pending = s.pending := rest_pending htorn (by decide)
  have hrails : ∀ (u : State) (r : Fin 28), (powerOnReset u).rails[r] = { RailState.init with enPin := u.rails[r].enPin } := by
    intro u r
    simp [powerOnReset, State.reset]
  refine ⟨powerOnReset (useFree (tearJournal s)), congrArg Host.Outcome.next (if_neg h), rfl, rfl, rfl, rfl, hempty, htear,
    hpart, hpending, fun r => ?_⟩
  rw [hrails, rest_rails htorn (by decide)]
  exact ⟨rfl, rfl⟩

/-- The boot from the release of the power-on reset leaves the store and the Hamper (R95). -/
theorem bootFromRelease_spec (s : State) : (bootFromRelease s).boot.phase = .strapWait ∧ (bootFromRelease s).pwr.state = .run ∧
    (bootFromRelease s).clk.aonOk = true ∧ (bootFromRelease s).devTime = 0 ∧ (bootFromRelease s).mram = s.mram ∧
    (bootFromRelease s).hamper = s.hamper := by
  have hload : rest [.nv, .settings, .zbus] (homeChartSettings (loadCounters s)) = rest [.nv, .settings, .zbus] s := by simp
  have hmram : (homeChartSettings (loadCounters s)).mram = s.mram := rest_mram hload (by decide)
  have hhamper : (homeChartSettings (loadCounters s)).hamper = s.hamper := rest_hamper hload (by decide)
  have hfet := fun u => bootFet_rest (F := [.pp]) (by decide) u
  unfold bootFromRelease
  refine ⟨?_, ?_, ?_, ?_, ?_, ?_⟩
  · rw [rest_boot (hfet _) (by decide)]; rfl
  · rw [rest_pwr (hfet _) (by decide)]; rfl
  · rw [rest_clk (hfet _) (by decide)]; rfl
  · rw [rest_devTime (hfet _) (by decide)]; rfl
  · rw [rest_mram (hfet _) (by decide)]; exact hmram
  · rw [rest_hamper (hfet _) (by decide)]; exact hhamper

theorem startFullReset_strapWait {s : State} (h : s.boot.phase = .strapWait) (cause sub : Nat) :
    startFullReset cause sub s = resetStart cause sub s := by
  unfold startFullReset
  rw [h]
  exact if_neg (by simp)

theorem execPowerOnResetRelease_boots {s : State} (h : s.boot.phase = .porHeld) (hn : s.boot.resetNInSave = false) :
    exec .powerOnResetRelease s = .next (bootFromRelease s) := by
  show execPowerOnResetRelease s = _
  unfold execPowerOnResetRelease
  rw [if_neg (not_not.mpr h), hn]
  rfl

/-- A `RESET_N` kept through a save starts its full reset at the release (R84). -/
theorem execPowerOnResetRelease_resets {s : State} (h : s.boot.phase = .porHeld) (hn : s.boot.resetNInSave = true) :
    ∃ t, exec .powerOnResetRelease s = .next t ∧ t.boot.phase = .inReset ∧ t.boot.curCause = 3 ∧ t.hamper = s.hamper := by
  obtain ⟨hphase, -, -, -, -, hhamper⟩ := bootFromRelease_spec s
  obtain ⟨hin, hcause, -⟩ := resetStart_boot 3 0 (bootFromRelease s)
  have hexec : exec .powerOnResetRelease s =
      .next (modBoot (fun b => { b with resetNLow := s.boot.resetNLow }) (resetStart 3 0 (bootFromRelease s))) := by
    show execPowerOnResetRelease s = _
    unfold execPowerOnResetRelease
    rw [if_neg (not_not.mpr h), hn, ← startFullReset_strapWait hphase]
    rfl
  refine ⟨_, hexec, hin, hcause, ?_⟩
  rw [← startFullReset_strapWait hphase, rest_hamper (modBoot_rest (F := classAFields) (by decide) _ _) (by decide),
    rest_hamper (startFullReset_classAFields 3 0 _) (by decide), hhamper]

/-! ### Straps (R60, R64) -/

/-- Bit `i` of the number is the `i`-th flag. -/
theorem testBit_bitsOf (l : List Bool) (i : Nat) : (bitsOf l).testBit i = l.getD i false := by
  induction l generalizing i with
  | nil => simp [bitsOf]
  | cons b l ih =>
    have hb : bit b < 2 := by cases b <;> decide
    cases i with
    | zero =>
      rw [bitsOf, Nat.testBit_zero]
      cases b <;> simp [bit, Nat.add_mod]
    | succ i =>
      have hdiv : (bit b + 2 * bitsOf l) / 2 = bitsOf l := by omega
      rw [bitsOf, Nat.testBit_succ, hdiv, ih]
      rfl

theorem clocksLock_sysLock (s : State) : (clocksLock s).clk.sysLock = true := by
  unfold clocksLock
  split
  · assumption
  · rfl

/-- The straps as the three samples give them (R60). -/
def strapsOf (a b d : BitVec 5) : StrapState :=
  ⟨bitsOf [strapBit a b d 0, strapBit a b d 1, strapBit a b d 2], strapBit a b d 3, strapBit a b d 4⟩

theorem strapsOf_twa (a b d : BitVec 5) {i : Nat} (h : i < 3) : (strapsOf a b d).twa.testBit i = strapBit a b d i := by
  rw [strapsOf, testBit_bitsOf]
  match i, h with
  | 0, _ => rfl
  | 1, _ => rfl
  | 2, _ => rfl

theorem execStrapSample_spec {s : State} (h : s.boot.phase = .strapWait) (a b d : BitVec 5) : ∃ t,
    exec (.strapSample a b d) s = .next t ∧ t.boot.phase = .selfTest ∧ t.boot.attempts = 0 ∧ t.clk.sysLock = true ∧
    t.straps = strapsOf a b d ∧
    t = { s with nv := t.nv, clk := t.clk, straps := t.straps, boot := t.boot, log := t.log, evc := t.evc, tw := t.tw } := by
  obtain ⟨s1, hs1⟩ : ∃ s1, s1 = { s with straps := strapsOf a b d } := ⟨_, rfl⟩
  obtain ⟨s2, hs2⟩ : ∃ s2, s2 = if 2 ≤ s.mram.lc ∧ s1.straps.testEn = true then logFault .testStrap 0 0 (strapStatus s1) s1 else s1 :=
    ⟨_, rfl⟩
  have hexec : exec (.strapSample a b d) s = .next (modBoot (fun x => { x with phase := .selfTest, attempts := 0 }) (clocksLock s2)) := by
    rw [hs2, hs1]
    exact if_neg (not_not.mpr h)
  have hlog : rest [.nv, .log, .evc, .tw] s2 = rest [.nv, .log, .evc, .tw] s1 := by
    rw [hs2]; split <;> simp
  have hstraps : s2.straps = strapsOf a b d := by rw [rest_straps hlog (by decide), hs1]
  have hframe : rest [.nv, .clk, .straps, .boot, .log, .evc, .tw] s2 = rest [.nv, .clk, .straps, .boot, .log, .evc, .tw] s := by
    rw [rest_mono (by decide) hlog, hs1]
    exact rest_with_straps (by decide) s _
  refine ⟨_, hexec, rfl, rfl, clocksLock_sysLock s2, ?_, rest_patch (F := [.nv, .clk, .straps, .boot, .log, .evc, .tw]) ?_⟩
  · exact (rest_straps (clocksLock_rest (F := [.clk]) (by decide) s2) (by decide)).trans hstraps
  · rw [modBoot_rest (by decide), clocksLock_rest (by decide), hframe]

end Sys2Proof.Proofs

namespace Sys2Proof.Proofs

open Sys2Proof.Machine Sys2Proof.Laws

/-! ### O6: the self-test of the Hamper and the bank (R97, R393 to R395, R532) -/

section
variable {F : List Fld}

@[simp] theorem weakWords_rest (hn : Fld.nv ∈ F) (hl : Fld.log ∈ F) (he : Fld.evc ∈ F) (ht : Fld.tw ∈ F) (weak : Vector Nat 8) (s : State) :
    rest F (weakWords weak s) = rest F s := by
  simp [weakWords, hn, hl, he, ht]
@[simp] theorem hamperZeroed_rest (hn : Fld.nv ∈ F) (hh : Fld.hamper ∈ F) (hu : Fld.update ∈ F) (s : State) :
    rest F (hamperZeroed s) = rest F s :=
  (modNv_rest hn _ _).trans ((rest_with_update hu { s with hamper := .init } _).trans (rest_with_hamper hh s _))
@[simp] theorem bootHalt_rest (hb : Fld.boot ∈ F) (hf : Fld.fo ∈ F) (hs : Fld.safeN ∈ F) (he : Fld.evc ∈ F) (ht : Fld.tw ∈ F) (s : State) :
    rest F (bootHalt s) = rest F s := by
  have hwith : ∀ (u : State) b n, rest F { u with boot := b, safeN := n } = rest F u := fun u b n =>
    (rest_with_safeN hs { u with boot := b } n).trans (rest_with_boot hb u b)
  exact (hwith (resetFos s) _ _).trans (resetFos_rest hf he ht s)
@[simp] theorem bootVote_rest (hs : Fld.settings ∈ F) (hb : Fld.boot ∈ F) (hp : Fld.pwr ∈ F) (hz : Fld.zbus ∈ F) (hr : Fld.rails ∈ F)
    (ho : Fld.roles ∈ F) (hk : Fld.skipCnt ∈ F) (s : State) : rest F (bootVote s) = rest F s := by
  have hwith : ∀ (u : State) p z, rest F { u with pwr := p, zbus := z } = rest F u := fun u p z =>
    (rest_with_zbus hz { u with pwr := p } z).trans (rest_with_pwr hp u p)
  exact (hwith (applyVote s) _ _).trans (applyVote_rest hs hb hr ho hk s)

end

/-! What each attempt leaves (R393, R394). -/

/-- The end of one attempt: the weak words are counted and the Hamper is zero. -/
def attemptEnd (weak : Vector Nat 8) (s : State) : State := hamperZeroed (weakWords weak s)

/-- What one attempt can write. -/
abbrev attemptFields : List Fld := [.nv, .hamper, .log, .evc, .tw, .update]

theorem attemptEnd_rest (weak : Vector Nat 8) (s : State) : rest attemptFields (attemptEnd weak s) = rest attemptFields s := by
  simp [attemptEnd]

theorem attemptEnd_kept (weak : Vector Nat 8) (s : State) : kept (attemptEnd weak s) = { kept s with mem := [] } := by
  have h := weakWords_kept weak s
  have hz : kept (attemptEnd weak s) = { kept (weakWords weak s) with mem := [] } := rfl
  rw [hz, h]

theorem attemptEnd_tamperLow (weak : Vector Nat 8) (s : State) : (attemptEnd weak s).nv.tamperLow = s.nv.tamperLow := by
  have hweak : storeKept (weakWords weak s) = storeKept s := by
    unfold weakWords
    dsimp only
    rw [foldl_keeps storeKept fun a b => ?_, modNv_storeKept]
    · exact fun _ => ⟨rfl, rfl⟩
    · split
      · exact logFault_storeKept _ _ _ _ a
      · rfl
  exact congrArg (fun x => x.2.1) hweak

/-! The halt (R110, R394). -/

/-- A fused output commanded off is no longer commanded, and the others stand (R137). -/
theorem foCommandOff_commanded (n m : Fin 8) (s : State) :
    (foCommandOff n s).fo[m].commanded = (s.fo[m].commanded && decide (m ≠ n)) := by
  obtain ⟨u, hu⟩ : ∃ u, u = modFo n (fun c => { c with commanded := false, onHeld := false }) s := ⟨_, rfl⟩
  have hmod : u.fo[m].commanded = (s.fo[m].commanded && decide (m ≠ n)) := by
    obtain ⟨hchan, hothers, -⟩ := modFo_moved n (fun c => { c with commanded := false, onHeld := false }) s
    rw [← hu] at hchan hothers
    by_cases h : m = n
    · rw [h, hchan]; simp
    · rw [hothers m h]; simp [h]
  have hto : ∀ ph, (foTo n ph u).fo[m].commanded = u.fo[m].commanded := by
    intro ph
    obtain ⟨hchan, hothers, -⟩ := foTo_moved n ph u
    by_cases h : m = n
    · rw [h, hchan]; unfold toFo; split <;> rfl
    · rw [hothers m h]
  unfold foCommandOff
  dsimp only
  rw [← hu, ← hmod]
  cases s.fo[n].phase
  case off | locked | disabling => rfl
  all_goals exact hto _

theorem resetFos_commanded (s : State) (n : Fin 8) : (resetFos s).fo[n].commanded = false := by
  have hoff : ∀ (l : List (Fin 8)) (a : State), (a.fo[n].commanded = false ∨ n ∈ l) →
      (l.foldl (fun a m => foCommandOff m a) a).fo[n].commanded = false := by
    intro l
    induction l with
    | nil => exact fun a h => h.resolve_right List.not_mem_nil
    | cons m l ih =>
      intro a h
      refine ih _ ?_
      rw [foCommandOff_commanded]
      by_cases hm : n = m
      · exact .inl (by simp [hm])
      · exact h.imp (fun hc => by rw [hc]; rfl) fun hn => (List.mem_cons.mp hn).resolve_left hm
  exact hoff _ s (.inr (List.mem_finRange n))

/-- A boot that halts asserts `SAFE_N` with no fused output commanded on. -/
theorem bootHalt_spec (s : State) : (bootHalt s).boot.phase = .halted ∧ (bootHalt s).safeN = true ∧
    ∀ n : Fin 8, (bootHalt s).fo[n].commanded = false := by
  have hfo := resetFos_commanded s
  unfold bootHalt
  generalize resetFos s = u at hfo ⊢
  exact ⟨rfl, rfl, hfo⟩

theorem bootHalt_frame (s : State) : rest [.boot, .fo, .safeN, .evc, .tw] (bootHalt s) = rest [.boot, .fo, .safeN, .evc, .tw] s := by
  simp

/-- The state that a good attempt hands to step 4: the unit key loaded unless `TAMPER_N` is low, the MRAM scanned. -/
def keyReady (w : Vector Nat 8) (s : State) : State := mramScan (keyLoad (attemptEnd w s))

theorem exec_selfTest_bad {s : State} (h : s.boot.phase = .selfTest) {f : Nat} (hf : f % 256 ≠ 0) (w : Vector Nat 8) :
    exec (.hamperSelfTestEnd w f) s = .next (if s.boot.attempts = 0 then modBoot (fun b => { b with attempts := 1 }) (attemptEnd w s)
      else bootHalt (ctrAppend ctrBist (f % 256 + 512 + 65536 * (s.nv.ctr[ctrBoot] % 65536)) (attemptEnd w s))) := by
  show execHamperSelfTestEnd w f s = _
  unfold execHamperSelfTestEnd
  rw [if_neg (not_not.mpr h)]
  exact if_pos hf

theorem exec_selfTest_good {s : State} (h : s.boot.phase = .selfTest) {f : Nat} (hf : f % 256 = 0) (w : Vector Nat 8) :
    exec (.hamperSelfTestEnd w f) s =
      .next (if (selectBank (keyReady w s)).2 = true then bootStep6 (bootVote (selectBank (keyReady w s)).1)
        else bootHalt (selectBank (keyReady w s)).1) := by
  show execHamperSelfTestEnd w f s = _
  unfold execHamperSelfTestEnd
  rw [if_neg (not_not.mpr h)]
  dsimp only
  rw [if_neg (not_not.mpr hf)]
  unfold keyReady attemptEnd
  rcases selectBank (mramScan (keyLoad (hamperZeroed (weakWords w s)))) with ⟨s2, _ | _⟩
  · rw [if_neg Bool.false_ne_true]
  · rw [if_pos rfl]

/-- A first attempt that fails is repeated. -/
theorem selfTest_firstFails {s : State} (h : s.boot.phase = .selfTest) {f : Nat} (hf : f % 256 ≠ 0) (ha : s.boot.attempts = 0)
    (w : Vector Nat 8) : ∃ t, exec (.hamperSelfTestEnd w f) s = .next t ∧ t.boot = { s.boot with attempts := 1 } ∧ t.hamper.mem = [] ∧
      t.nv.keyLoaded = false ∧
      t = { s with nv := t.nv, boot := t.boot, hamper := t.hamper, log := t.log, evc := t.evc, tw := t.tw, update := t.update } := by
  have hexec : exec (.hamperSelfTestEnd w f) s = .next (modBoot (fun b => { b with attempts := 1 }) (attemptEnd w s)) := by
    rw [exec_selfTest_bad h hf, if_pos ha]
  have hrest := attemptEnd_rest w s
  refine ⟨_, hexec, ?_, rfl, rfl, rest_patch (F := .boot :: attemptFields) ?_⟩
  · show { (attemptEnd w s).boot with attempts := 1 } = _
    rw [rest_boot hrest (by decide)]
  · rw [modBoot_rest (by decide), rest_mono (by decide) hrest]

/-- A second attempt that fails halts the boot. -/
theorem selfTest_secondFails {s : State} (h : s.boot.phase = .selfTest) {f : Nat} (hf : f % 256 ≠ 0) (ha : s.boot.attempts ≠ 0)
    (w : Vector Nat 8) : ∃ t, exec (.hamperSelfTestEnd w f) s = .next t ∧ t.boot.phase = .halted ∧ t.safeN = true ∧
      t.settings = s.settings ∧ t.hamper.mem = [] ∧ t.nv.keyLoaded = false ∧ ∀ n : Fin 8, t.fo[n].commanded = false := by
  obtain ⟨u, hu⟩ : ∃ u, u = ctrAppend ctrBist (f % 256 + 512 + 65536 * (s.nv.ctr[ctrBoot] % 65536)) (attemptEnd w s) := ⟨_, rfl⟩
  have hexec : exec (.hamperSelfTestEnd w f) s = .next (bootHalt u) := by
    rw [exec_selfTest_bad h hf, if_neg ha, hu]
  have hctr : rest [.mram, .nv, .freeCtr] u = rest [.mram, .nv, .freeCtr] (attemptEnd w s) := by rw [hu]; simp
  have hkey : u.nv.keyLoaded = false := by rw [hu]; exact congrArg Prod.fst (ctrAppend_storeKept _ _ (attemptEnd w s))
  have hhalt := bootHalt_frame u
  obtain ⟨hphase, hsafe, hfo⟩ := bootHalt_spec u
  refine ⟨_, hexec, hphase, hsafe, ?_, ?_, ?_, hfo⟩
  · rw [rest_settings hhalt (by decide), rest_settings hctr (by decide), rest_settings (attemptEnd_rest w s) (by decide)]
  · rw [rest_hamper hhalt (by decide), rest_hamper hctr (by decide)]; rfl
  · rw [rest_nv hhalt (by decide), hkey]

/-! A good attempt: the key, the MRAM and the bank (R395, R531, R532). -/

/-- With no flaw in the MRAM the boot's scan changes nothing but a counter of the store's interface (R367). -/
theorem mramScan_clean {s : State} (h : s.mram.errs = []) : ∃ n, mramScan s = modNv (fun v => { v with secCnt := n }) s := by
  unfold mramScan
  rw [h]
  exact ⟨_, rfl⟩

theorem bankIn_isSome {s : State} {ph : BankPhase} {k : Fin 2} (h : bankState s.mram.banks[k] = ph) : (bankIn s ph).isSome = true :=
  List.find?_isSome.mpr ⟨k, List.mem_finRange k, decide_eq_true h⟩

theorem bankIn_some {s : State} {ph : BankPhase} {k : Fin 2} (h : bankIn s ph = some k) : bankState s.mram.banks[k] = ph :=
  of_decide_eq_true (List.find?_some (p := fun k : Fin 2 => decide (bankState s.mram.banks[k] = ph)) h)

theorem bankIn_none {s : State} {ph : BankPhase} : bankIn s ph = none ↔ ∀ k : Fin 2, bankState s.mram.banks[k] ≠ ph := by
  refine List.find?_eq_none.trans ⟨fun h k => ?_, fun h k _ => ?_⟩
  · simpa using h k (List.mem_finRange k)
  · simpa using h k

/-- Step 4 before a bank is selected: a bank in TRIAL has failed (R532). -/
def trialFailed (s : State) : State :=
  modBoot (fun b => { b with fellBack := bankIn s .trial })
    (match bankIn s .trial with | some k => modBank k (fun b => { b with phase := .failed }) s | none => s)

theorem selectBank_eq (s : State) : selectBank s = match bankIn (trialFailed s) .active, bankIn (trialFailed s) .previous with
  | some k, _ => (runBank k (trialFailed s), true)
  | none, some k => (runBank k (modBank k (fun b => { b with phase := .active }) (trialFailed s)), true)
  | none, none => (trialFailed s, false) := rfl

theorem trialFailed_storeKept (s : State) : storeKept (trialFailed s) = storeKept s := by
  unfold trialFailed; split <;> rfl

theorem selectBank_storeKept (s : State) : storeKept (selectBank s).1 = storeKept s := by
  rw [selectBank_eq]
  split <;> exact trialFailed_storeKept s

/-- The bank that was in TRIAL counts as FAILED now, every other as before. -/
theorem trialFailed_bank (s : State) (k : Fin 2) : bankState (trialFailed s).mram.banks[k] =
    if bankIn s .trial = some k then .failed else bankState s.mram.banks[k] := by
  unfold trialFailed
  cases hb : bankIn s .trial with
  | none => rw [if_neg (by simp)]; rfl
  | some j =>
    by_cases hk : k = j
    · subst hk
      have hget : (modBank k (fun b => { b with phase := .failed }) s).mram.banks[k] = { s.mram.banks[k] with phase := .failed } :=
        vmod_get _ _ _
      show bankState (modBank k (fun b => { b with phase := .failed }) s).mram.banks[k] = _
      rw [hget, if_pos rfl]
      rfl
    · have hget : (modBank j (fun b => { b with phase := .failed }) s).mram.banks[k] = s.mram.banks[k] := vmod_get_ne hk _ _
      show bankState (modBank j (fun b => { b with phase := .failed }) s).mram.banks[k] = _
      rw [hget, if_neg (by simpa using fun e => hk e.symm)]

/-- With a bank that counts as ACTIVE one is selected. -/
theorem selectBank_active {s : State} {k : Fin 2} (h : bankState s.mram.banks[k] = .active) : (selectBank s).2 = true := by
  have htrial : bankIn s .trial ≠ some k := fun e => by
    have := bankIn_some e
    rw [h] at this
    exact absurd this (by decide)
  have hactive := bankIn_isSome (s := trialFailed s) ((trialFailed_bank s k).trans ((if_neg htrial).trans h))
  obtain ⟨j, hj⟩ := Option.isSome_iff_exists.mp hactive
  rw [selectBank_eq, hj]

/-- With none that counts as ACTIVE or PREVIOUS none is selected. -/
theorem selectBank_none {s : State} (h : ∀ k : Fin 2, bankState s.mram.banks[k] ≠ .active ∧ bankState s.mram.banks[k] ≠ .previous) :
    selectBank s = (trialFailed s, false) := by
  have hactive : bankIn (trialFailed s) .active = none := bankIn_none.mpr fun k => by
    rw [trialFailed_bank]
    split
    · decide
    · exact (h k).1
  have hprevious : bankIn (trialFailed s) .previous = none := bankIn_none.mpr fun k => by
    rw [trialFailed_bank]
    split
    · decide
    · exact (h k).2
  rw [selectBank_eq, hactive, hprevious]

/-- A bank still in TRIAL after step 4 has another one beside it that was in TRIAL too. -/
theorem trialFailed_trial (s : State) (k : Fin 2) : bankState (trialFailed s).mram.banks[k] ≠ .trial ∨
    ∃ j : Fin 2, j ≠ k ∧ bankState s.mram.banks[j] = .trial := by
  rw [trialFailed_bank]
  cases hb : bankIn s .trial with
  | none => exact .inl (by simpa using bankIn_none.mp hb k)
  | some j =>
    by_cases hk : j = k
    · exact .inl (by rw [if_pos (by rw [hk])]; decide)
    · exact .inr ⟨j, hk, bankIn_some hb⟩

/-- With no flaw in the MRAM a good attempt loads the key and leaves the MRAM. -/
theorem keyReady_spec {s : State} (h : s.mram.errs = []) (w : Vector Nat 8) : (keyReady w s).mram = s.mram ∧
    (keyReady w s).nv.keyLoaded = (!s.nv.tamperLow) ∧ kept (keyReady w s) = { kept s with mem := [] } := by
  have hmram : (attemptEnd w s).mram = s.mram := rest_mram (attemptEnd_rest w s) (by decide)
  obtain ⟨n, hn⟩ := mramScan_clean (s := keyLoad (attemptEnd w s)) (by rw [← h]; exact congrArg Mram.errs hmram)
  refine ⟨?_, ?_, ?_⟩
  · rw [keyReady, hn]; exact hmram
  · rw [keyReady, hn]; exact congrArg not (attemptEnd_tamperLow w s)
  · rw [keyReady, mramScan_kept, keyLoad_kept, attemptEnd_kept]

theorem logEntry_ready (f : HeldFault) (s : State) : (logEntry f s).log.ready = s.log.ready := by
  have hring : (logRing f { s with log := logLatch f s.log }).log.ready = s.log.ready := by
    unfold logRing logLatch
    (repeat' split) <;> rfl
  unfold logEntry
  dsimp only
  split
  · rw [rest_log (eventEdge_rest (F := [.evc, .tw]) (by decide) (by decide) 0 _) (by decide), hring]
  · exact hring

/-- Step 6 ends in the start of functions with the Logbook ready (R381). -/
theorem bootStep6_spec (s : State) : (bootStep6 s).boot.phase = .starting ∧ (bootStep6 s).log.ready = true := by
  unfold bootStep6
  extract_lets s1 s2 s3 s4
  obtain ⟨u, hu⟩ : ∃ u, u = logStart (seqConfigure s4) := ⟨_, rfl⟩
  have hready : u.log.ready = true := by
    rw [hu]
    unfold logStart
    rw [foldl_keeps (fun a => a.log.ready) fun a f => logEntry_ready f a]
  have hfull := areaFull_rest (F := [.mram, .nv, .freeCtr]) (by decide) (by decide) (by decide) (modBoot (fun b => { b with phase := .starting }) u)
  rw [← hu]
  exact ⟨congrArg BootState.phase (rest_boot hfull (by decide)), (congrArg LogState.ready (rest_log hfull (by decide))).trans hready⟩

/-- A good attempt with a bank that counts as ACTIVE goes on to the start of functions. -/
theorem selfTest_starts {s : State} (h : s.boot.phase = .selfTest) {f : Nat} (hf : f % 256 = 0) {k : Fin 2}
    (hk : bankState s.mram.banks[k] = .active) (he : s.mram.errs = []) (w : Vector Nat 8) : ∃ t,
      exec (.hamperSelfTestEnd w f) s = .next t ∧ t.boot.phase = .starting ∧ t.hamper.mem = [] ∧
      t.nv.keyLoaded = (!s.nv.tamperLow) ∧ t.log.ready = true ∧ t.part = s.part ∧ t.mram.cfg = s.mram.cfg ∧ t.mram.hc = s.mram.hc := by
  obtain ⟨hmram, hkey, hkept⟩ := keyReady_spec he w
  obtain ⟨u, hu⟩ : ∃ u, u = (selectBank (keyReady w s)).1 := ⟨_, rfl⟩
  have hexec : exec (.hamperSelfTestEnd w f) s = .next (bootStep6 (bootVote u)) := by
    rw [exec_selfTest_good h hf, selectBank_active (k := k) (by rw [hmram]; exact hk), if_pos rfl, hu]
  have hstore : storeKept (bootStep6 (bootVote u)) = storeKept (keyReady w s) := by
    rw [bootStep6_storeKept, storeKept_of_rest (s := u) (by simp), hu, selectBank_storeKept]
  have hk2 : kept (bootStep6 (bootVote u)) = { kept s with mem := [] } := by
    rw [bootStep6_kept, bootVote_kept, hu, selectBank_kept, hkept]
  obtain ⟨hphase, hready⟩ := bootStep6_spec (bootVote u)
  obtain ⟨t, ht⟩ : ∃ t, t = bootStep6 (bootVote u) := ⟨_, rfl⟩
  rw [← ht] at hexec hstore hk2 hphase hready
  refine ⟨_, hexec, hphase, congrArg Kept.mem hk2, ?_, hready, congrArg Kept.part hk2, ?_, ?_⟩
  · exact (congrArg Prod.fst hstore).trans hkey
  · exact (congrArg (fun x => x.2.2.1) hstore).trans (congrArg Mram.cfg hmram)
  · exact (congrArg (fun x => x.2.2.2) hstore).trans (congrArg Mram.hc hmram)

/-- A good attempt without a bank to run halts the boot. -/
theorem selfTest_noBank {s : State} (h : s.boot.phase = .selfTest) {f : Nat} (hf : f % 256 = 0) (he : s.mram.errs = [])
    (hk : ∀ k : Fin 2, bankState s.mram.banks[k] ≠ .active ∧ bankState s.mram.banks[k] ≠ .previous) (w : Vector Nat 8) : ∃ t,
      exec (.hamperSelfTestEnd w f) s = .next t ∧ t.boot.phase = .halted ∧ t.safeN = true ∧ t.hamper.mem = [] ∧
      ∀ k : Fin 2, bankState t.mram.banks[k] ≠ .trial ∨ ∃ j : Fin 2, j ≠ k ∧ bankState s.mram.banks[j] = .trial := by
  obtain ⟨hmram, -, hkept⟩ := keyReady_spec he w
  have hsel := selectBank_none (s := keyReady w s) (by rw [hmram]; exact hk)
  have hexec : exec (.hamperSelfTestEnd w f) s = .next (bootHalt (trialFailed (keyReady w s))) := by
    rw [exec_selfTest_good h hf, hsel, if_neg Bool.false_ne_true]
  have hmem : kept (bootHalt (trialFailed (keyReady w s))) = { kept s with mem := [] } := by
    have := selectBank_kept (keyReady w s)
    rw [hsel] at this
    rw [bootHalt_kept, this, hkept]
  obtain ⟨hphase, hsafe, -⟩ := bootHalt_spec (trialFailed (keyReady w s))
  have hbanks : (bootHalt (trialFailed (keyReady w s))).mram = (trialFailed (keyReady w s)).mram := rest_mram (bootHalt_frame _) (by decide)
  obtain ⟨t, ht⟩ : ∃ t, t = bootHalt (trialFailed (keyReady w s)) := ⟨_, rfl⟩
  rw [← ht] at hexec hmem hphase hsafe hbanks
  refine ⟨t, hexec, hphase, hsafe, congrArg Kept.mem hmem, fun k => ?_⟩
  rw [hbanks, ← hmram]
  exact trialFailed_trial (keyReady w s) k

end Sys2Proof.Proofs

namespace Sys2Proof.Proofs

open Sys2Proof.Machine Sys2Proof.Laws

/-! ### O6: the boot time. A full reset that a step starts rewrites the boot record, but not the time noted in it (R98, R106) -/

/-- The time that the boot took, as it was noted. -/
def bootTimeOf (s : State) : Nat := s.boot.bootTime

theorem bootTimeOf_of_rest {s t : State} (h : rest (allBut [.boot]) t = rest (allBut [.boot]) s) : bootTimeOf t = bootTimeOf s :=
  congrArg BootState.bootTime (rest_boot h (by simp))

theorem recordMask_bootTime (s : State) : bootTimeOf (recordMask s) = bootTimeOf s := bootTimeOf_of_rest (by simp)

theorem resetStart_bootTime (cause sub : Nat) (s : State) : bootTimeOf (resetStart cause sub s) = bootTimeOf s := by
  have hlearn : bootTimeOf (learnStop 8 (resetPath cause (parkTripsLogged s))) = bootTimeOf s := bootTimeOf_of_rest (by simp)
  unfold resetStart
  dsimp only
  refine (congrArg BootState.bootTime (rest_boot (resetRecord_rest cause (resetStops _ cause _ _)) (by decide))).trans ?_
  rw [rest_boot (resetStops_rest _ _ _ _) (by decide)]
  exact hlearn

theorem endStationKeeping_bootTime (cause : Nat) (s : State) : bootTimeOf (endStationKeeping cause s) = bootTimeOf s := by
  unfold endStationKeeping
  extract_lets kept s1 s2
  have h1 : bootTimeOf s1 = bootTimeOf s := by
    unfold s1
    rw [foldl_keeps bootTimeOf fun a r => bootTimeOf_of_rest ?_]
    rw [railToMid_rest (by simp) (by simp) (by simp) (by simp) (by simp) (by simp) (by simp) (by simp)]
    exact rest_with_sk (by simp) a _
  have h2 : bootTimeOf s2 = bootTimeOf s1 := by
    refine bootTimeOf_of_rest ?_
    unfold s2
    split <;> simp
  clear_value s2
  exact h2.trans h1

theorem secondCause_bootTime (cause : Nat) (s : State) : bootTimeOf (secondCause cause s) = bootTimeOf s := by
  unfold secondCause
  extract_lets b0 s0 b1 s1
  have h0 : bootTimeOf s0 = bootTimeOf s := by unfold s0; split <;> rfl
  have h1 : bootTimeOf s1 = bootTimeOf s := by
    unfold s1
    rw [recordMask_bootTime, bootTimeOf_of_rest (resetPath_rest (by simp) (by simp) cause _)]
    exact h0
  clear_value s0 s1
  split
  · exact h0
  · split
    · exact (endStationKeeping_bootTime cause s1).trans h1
    · exact h1

theorem startFullReset_bootTime (cause sub : Nat) (s : State) : bootTimeOf (startFullReset cause sub s) = bootTimeOf s := by
  unfold startFullReset
  split
  · rfl
  · split <;> rfl
  · exact secondCause_bootTime cause s
  all_goals
    split
    · rfl
    · exact resetStart_bootTime cause sub s

/-! Item faults and what they lead to (R287, R289). -/

theorem applyReaction_bootTime (i : Fin 46) (f : ItemFaultCode) (x : Reaction) (s : State) :
    bootTimeOf (applyReaction i f x s) = bootTimeOf s := by
  unfold applyReaction
  split
  · rfl
  · split
    · split <;> rfl
    · split <;> rfl
    · split
      · exact bootTimeOf_of_rest (by simp)
      · exact bootTimeOf_of_rest (by simp)
      · refine bootTimeOf_of_rest ?_
        dsimp only
        split <;> simp
      · exact startFullReset_bootTime _ _ s

theorem itemFaultsMark_bootTime (l : List (Fin 46 × ItemFaultCode)) (s : State) : bootTimeOf (itemFaultsMark l s) = bootTimeOf s := by
  unfold itemFaultsMark
  dsimp only
  rw [foldl_keeps bootTimeOf fun a x => bootTimeOf_of_rest ?_, foldl_keeps bootTimeOf fun a x => bootTimeOf_of_rest ?_]
  · split <;> simp
  · simp

theorem itemReact_bootTime (l : List (Fin 46 × ItemFaultCode)) (s : State) : bootTimeOf (itemReact l s) = bootTimeOf s := by
  unfold itemReact
  extract_lets worst chosen multi
  refine List.foldlRecOn (motive := fun acc : State × List (Fin 8) => bootTimeOf acc.1 = bootTimeOf s) chosen _ rfl fun acc hacc x _ => ?_
  dsimp only
  split
  · exact hacc
  · split
    · exact hacc
    · exact (applyReaction_bootTime _ _ _ acc.1).trans hacc

theorem itemFaults_bootTime (l : List (Fin 46 × ItemFaultCode)) (s : State) : bootTimeOf (itemFaults l s) = bootTimeOf s := by
  unfold itemFaults
  dsimp only
  split
  · exact itemFaultsMark_bootTime l s
  · rw [itemReact_bootTime, itemFaultsMark_bootTime]

theorem itemFault_bootTime (i : Fin 46) (f : ItemFaultCode) (s : State) : bootTimeOf (itemFault i f s) = bootTimeOf s :=
  itemFaults_bootTime _ s

theorem vdrDeclared_bootTime (s : State) : bootTimeOf (vdrDeclared s) = bootTimeOf s := by
  unfold vdrDeclared
  dsimp only
  rw [itemFaults_bootTime, foldl_keeps bootTimeOf fun a r => bootTimeOf_of_rest ?_]
  simp

/-! Powering up (R276). -/

theorem startStep_bootTime (g : Fin 8) (st : Fin 64) (s : State) : bootTimeOf (startStep g st s) = bootTimeOf s := by
  unfold startStep
  extract_lets s0 s1 s2
  rw [vdrDeclared_bootTime]
  refine bootTimeOf_of_rest ?_
  have h0 : rest (allBut [.boot]) s0 = rest (allBut [.boot]) s := by unfold s0; split <;> simp
  have h2 : rest (allBut [.boot]) s2 = rest (allBut [.boot]) s1 := by
    unfold s2
    rw [rest_foldl]
    intro a i
    split <;> simp
  rw [stepMoves_rest (by simp) (by simp) (by simp) (by simp) (by simp) (by simp) (by simp) (by simp) (by simp) (by simp) (by simp), h2,
    ← h0]
  exact modGroup_rest (by simp) g _ s0

theorem advance_bootTime (n : Nat) (g : Fin 8) (o : Option (Fin 64)) (s : State) : bootTimeOf (advance n g o s) = bootTimeOf s := by
  induction n generalizing o s with
  | zero => rfl
  | succ n ih =>
    unfold advance
    split
    · exact bootTimeOf_of_rest (by simp)
    · next st _ =>
      extract_lets s1 s2
      have h1 : bootTimeOf s1 = bootTimeOf s := bootTimeOf_of_rest (by simp [s1])
      have h2 : bootTimeOf s2 = bootTimeOf s := (startStep_bootTime g st s1).trans h1
      split
      · split
        · rw [ih, h2]
        · exact h2
      · exact h1

theorem powerUp_bootTime (g : Fin 8) (s : State) : bootTimeOf (powerUp g s) = bootTimeOf s := by
  unfold powerUp
  dsimp only
  rw [advance_bootTime]
  exact bootTimeOf_of_rest (by simp)

theorem requestRow_bootTime (g : Fin 8) (s : State) : bootTimeOf (requestRow g s) = bootTimeOf s := by
  unfold requestRow
  split
  · rfl
  · split
    · exact bootTimeOf_of_rest (by simp)
    · split
      · rfl
      · exact powerUp_bootTime g s

/-! Class A faults and rails that left station-keeping (R115, R453, R454). -/

theorem classAFollow_bootTime (code : FaultCode) (l : List (Fin 46)) (s : State) : bootTimeOf (classAFollow code l s) = bootTimeOf s := by
  unfold classAFollow
  split
  · exact startFullReset_bootTime _ _ s
  · exact startFullReset_bootTime _ _ s
  · exact startFullReset_bootTime _ _ s
  · split
    · rfl
    · split
      · exact startFullReset_bootTime _ _ s
      · exact bootTimeOf_of_rest (by simp)

theorem classATrip_bootTime (rs : List (Fin 28)) (code : FaultCode) (die src detail : Nat) (s0 s : State) :
    bootTimeOf (classATrip rs code die src detail s0 s) = bootTimeOf s := by
  unfold classATrip classA
  split
  · rw [classAFollow_bootTime]
    exact bootTimeOf_of_rest (by simp)
  · rw [classAFollow_bootTime]
    exact bootTimeOf_of_rest (by simp)

theorem skLeft_bootTime (x : SkLeft) (s : State) : bootTimeOf (skLeft x s) = bootTimeOf s := by
  unfold skLeft
  split
  · rfl
  · extract_lets sk s1 s2
    have h1 : rest (allBut [.boot]) s1 = rest (allBut [.boot]) s := rest_with_sk (by simp) s _
    clear_value s1
    split
    · exact bootTimeOf_of_rest ((modItem_rest (by simp) _ _ s1).trans h1)
    · next f _ =>
      have h2 : bootTimeOf s2 = bootTimeOf s := by
        refine bootTimeOf_of_rest (Eq.trans ?_ h1)
        unfold s2
        split <;> simp
      clear_value s2
      extract_lets s3
      have h3 : bootTimeOf s3 = bootTimeOf s2 := bootTimeOf_of_rest (setItemFault_rest (by simp) _ _ s2)
      clear_value s3
      split
      · split
        · exact Eq.trans (bootTimeOf_of_rest (by simp)) (h3.trans h2)
        · exact h3.trans h2
      · rw [itemFault_bootTime, h2]

theorem skLeftAll_bootTime (s : State) : bootTimeOf (skLeftAll s) = bootTimeOf s := by
  refine (foldl_keeps bootTimeOf (fun a x => ?_) s.sk.left s)
  split
  · exact skLeft_bootTime x a
  · rfl

theorem skSettle_bootTime (s : State) : bootTimeOf (skSettle s) = bootTimeOf s := by
  unfold skSettle
  split
  · rw [bootTimeOf_of_rest (skEndCheck_rest (by simp) (by simp) true _), skLeftAll_bootTime]
  · rfl

theorem stageFaultOp_bootTime (k : Fin 7) (s : State) : bootTimeOf (stageFaultOp k s) = bootTimeOf s := by
  unfold stageFaultOp
  dsimp only
  rw [skSettle_bootTime, classATrip_bootTime]
  exact foldl_keeps bootTimeOf (fun a r => bootTimeOf_of_rest (by simp)) _ s

theorem linkLost_bootTime (k : Fin 7) (hold : Bool) (s : State) : bootTimeOf (linkLost k hold s) = bootTimeOf s := by
  unfold linkLost
  extract_lets s1 s2 s3
  have h2 : rest (allBut [.boot]) s2 = rest (allBut [.boot]) s := by
    unfold s2 s1
    simp
  rw [itemFaults_bootTime]
  refine bootTimeOf_of_rest (Eq.trans ?_ h2)
  unfold s3
  (repeat' split) <;> simp

/-! Step 7 and step 8 (R95, R112). -/

theorem unlessReset_bootTime {f : State → State} (h : ∀ s, bootTimeOf (f s) = bootTimeOf s) (s : State) :
    bootTimeOf (unlessReset f s) = bootTimeOf s := by
  unfold unlessReset
  split
  · exact h s
  · rfl

section
variable {F : List Fld}

@[simp] theorem skAdopt_rest (hi : Fld.items ∈ F) (hr : Fld.rails ∈ F) (hs : Fld.sk ∈ F) (r : Fin 28) (s : State) :
    rest F (skAdopt r s) = rest F s := by
  simp [skAdopt, hi, hr, hs]

@[simp] theorem fosAdoptNow_rest (hf : Fld.fo ∈ F) (hi : Fld.items ∈ F) (he : Fld.evc ∈ F) (ht : Fld.tw ∈ F) (s : State) :
    rest F (fosAdoptNow s) = rest F s := by
  simp [fosAdoptNow, hf, hi, he, ht]

theorem unlessReset_rest {f : State → State} (h : ∀ s, rest F (f s) = rest F s) (s : State) : rest F (unlessReset f s) = rest F s := by
  unfold unlessReset
  split
  · exact h s
  · rfl

end

/-- The end of step 8: the throttle steps in force, Star Sight and the requests of the groups. -/
def bootStep8End (was : Bool) (s : State) : State :=
  (allFin 8).foldl (fun a g => if a.groups[g].request && a.groups[g].phase = .off then requestRow g a else a)
    (if (applyThrottle (skEndCheck was s)).wd.locked then wdStart (applyThrottle (skEndCheck was s)) else applyThrottle (skEndCheck was s))

/-- Step 8 up to the rails that left station-keeping: the requests of `GRP_AUTO` and the rails that are re-adopted. -/
def bootStep8Start (s : State) : State :=
  (allFin 28).foldl (fun a r => skAdopt r a) ((allFin 8).foldl (fun a g => modGroup g (fun x => { x with request := x.request || a.grpAuto g }) a)
    (rstoRefresh (modBoot (fun b => { b with step8 := true }) s)))

theorem bootStep8_eq (s : State) : bootStep8 s =
    unlessReset (bootStep8End (skOpen s || !s.sk.left.isEmpty)) (skLeftAll (bootStep8Start s)) := rfl

theorem bootStep8Start_rest (s : State) : rest [.boot, .sk, .rails, .items, .groups, .rsto] (bootStep8Start s) =
    rest [.boot, .sk, .rails, .items, .groups, .rsto] s := by
  simp [bootStep8Start]

theorem bootStep8Start_boot (s : State) : (bootStep8Start s).boot = { s.boot with step8 := true } := by
  have h : rest (allBut [.boot]) (bootStep8Start s) = rest (allBut [.boot]) (modBoot (fun b => { b with step8 := true }) s) := by
    simp [bootStep8Start]
  rw [boot_of_rest h]
  rfl

theorem bootStep8End_bootTime (was : Bool) (s : State) : bootTimeOf (bootStep8End was s) = bootTimeOf s := by
  unfold bootStep8End
  rw [foldl_keeps bootTimeOf fun a g => ?_]
  · refine bootTimeOf_of_rest ?_
    split <;> simp
  · split
    · exact requestRow_bootTime g a
    · rfl

theorem bootStep8_bootTime (s : State) : bootTimeOf (bootStep8 s) = bootTimeOf s := by
  rw [bootStep8_eq, unlessReset_bootTime fun a => bootStep8End_bootTime _ a, skLeftAll_bootTime, bootTimeOf, bootStep8Start_boot]
  rfl

end Sys2Proof.Proofs

namespace Sys2Proof.Proofs

open Sys2Proof.Machine Sys2Proof.Laws

/-! ### O6: object dictionary ready (R95, R98, R477) -/

/-- The boot record when the object dictionary is ready: the time that the boot took, and step 8 held while the thermal latch stands. -/
def readyRecord (u : Nat) (held : Bool) (b : BootState) : BootState :=
  { b with phase := .ready, odAnswering := true, bootTime := min max16 u, thermalHold := held }

/-- The power path and the boot record of the ready object dictionary. -/
def readyNoted (u : Nat) (s : State) : State := modBoot (readyRecord u s.therm.latch) (if s.boot.cold then s else pathFet s)

/-- The outputs, the CAN ports and the bank that fell back. -/
def readyLogged (u : Nat) (s : State) : State :=
  match s.boot.fellBack with
  | some k => logFault .bankFallback 0 k 0 (canStartAll (evRefresh (safeRefresh (readyNoted u s))))
  | none => canStartAll (evRefresh (safeRefresh (readyNoted u s)))

/-- Object dictionary ready, with the repair of the configuration copies, before the links and the stage faults are looked at. -/
def dictionaryReady (u : Nat) (s : State) : State :=
  nextRepair (modNv (fun v => { v with lfTailDone := v.lfFresh && v.lfTail.isEmpty }) (readyLogged u s))

/-- Step 7: the links that are not UP, the stage faults that stand, and the fused outputs. -/
def bootStep7 (s : State) : State := unlessReset fosAdoptNow (stageFaultsAgain (bootLinksDown s))

theorem readyNoted_fellBack (u : Nat) (s : State) :
    (canStartAll (evRefresh (safeRefresh (readyNoted u s)))).boot.fellBack = s.boot.fellBack := by
  have h : rest (allBut [.boot]) (canStartAll (evRefresh (safeRefresh (readyNoted u s)))) = rest (allBut [.boot]) (readyNoted u s) := by simp
  rw [boot_of_rest h]
  unfold readyNoted
  split <;> rfl

theorem exec_objectDictionaryReady {s : State} (h : s.boot.phase = .starting) (u : Nat) : exec (.objectDictionaryReady u) s =
    .next (if s.therm.latch then bootStep7 (dictionaryReady u s) else unlessReset bootStep8 (bootStep7 (dictionaryReady u s))) := by
  have hfell := readyNoted_fellBack u s
  show execObjectDictionaryReady u s = _
  unfold execObjectDictionaryReady dictionaryReady readyLogged bootStep7
  rw [if_neg (not_not.mpr h), ← hfell]
  rfl

/-- A repair taken up is no longer in the list. -/
theorem nextRepair_boot (s : State) : ∃ l, (nextRepair s).boot = { s.boot with repairs := l } := by
  unfold nextRepair
  split
  · exact ⟨_, rfl⟩
  · exact ⟨_, rfl⟩

theorem dictionaryReady_boot (u : Nat) (s : State) :
    ∃ l, (dictionaryReady u s).boot = readyRecord u s.therm.latch { s.boot with repairs := l } := by
  have hrest : rest (allBut [.boot]) (readyLogged u s) = rest (allBut [.boot]) (readyNoted u s) := by
    unfold readyLogged
    split <;> simp
  have hnoted : (readyNoted u s).boot = readyRecord u s.therm.latch s.boot := by
    unfold readyNoted
    split <;> rfl
  obtain ⟨l, hl⟩ := nextRepair_boot (modNv (fun v => { v with lfTailDone := v.lfFresh && v.lfTail.isEmpty }) (readyLogged u s))
  refine ⟨l, hl.trans ?_⟩
  show { (readyLogged u s).boot with repairs := l } = _
  rw [boot_of_rest hrest, hnoted]
  rfl

/-- What object dictionary ready writes before step 7. -/
abbrev readyFields : List Fld := [.mram, .nv, .boot, .pp, .log, .safeN, .evc, .tw, .can]

theorem dictionaryReady_rest (u : Nat) (s : State) : rest readyFields (dictionaryReady u s) = rest readyFields s := by
  unfold dictionaryReady readyLogged readyNoted
  (repeat' split) <;> simp

/-! The boot time and what the boot leaves, whatever the links and stages report. -/

theorem bootLinksDown_bootTime (s : State) : bootTimeOf (bootLinksDown s) = bootTimeOf s := by
  unfold bootLinksDown
  exact foldl_keeps bootTimeOf (fun a k => linkLost_bootTime k _ a) _ s

theorem stageFaultsAgain_bootTime (s : State) : bootTimeOf (stageFaultsAgain s) = bootTimeOf s := by
  unfold stageFaultsAgain
  exact foldl_keeps bootTimeOf (fun a k => unlessReset_bootTime (stageFaultOp_bootTime k) a) _ s

theorem bootStep7_bootTime (s : State) : bootTimeOf (bootStep7 s) = bootTimeOf s := by
  unfold bootStep7
  rw [unlessReset_bootTime fun a => bootTimeOf_of_rest ?_, stageFaultsAgain_bootTime, bootLinksDown_bootTime]
  simp

/-- What no step of the boot after the start of functions writes. -/
abbrev bootFixed : List Fld := allBut [.part, .hamper, .straps, .clk]

theorem bootStep7_fixed (s : State) : rest bootFixed (bootStep7 s) = rest bootFixed s := by
  have hstage : ∀ a, rest bootFixed (stageFaultsAgain a) = rest bootFixed a := fun a => by
    unfold stageFaultsAgain
    exact foldl_keeps (rest bootFixed) (fun b k => unlessReset_rest (fun c => by simp) b) _ a
  unfold bootStep7
  rw [unlessReset_rest fun a => ?_, hstage]
  · simp
  · simp

theorem bootStep8End_fixed (was : Bool) (s : State) : rest bootFixed (bootStep8End was s) = rest bootFixed s := by
  unfold bootStep8End
  rw [foldl_keeps (rest bootFixed) fun a g => ?_]
  · split <;> simp
  · split <;> simp

theorem bootStep8_fixed (s : State) : rest bootFixed (bootStep8 s) = rest bootFixed s := by
  rw [bootStep8_eq, unlessReset_rest fun a => bootStep8End_fixed _ a, skLeftAll_rest]
  · exact rest_mono (by simp) (bootStep8Start_rest s)
  all_goals simp

theorem dictionaryReady_fixed (u : Nat) (s : State) : rest bootFixed (dictionaryReady u s) = rest bootFixed s :=
  rest_mono (by simp) (dictionaryReady_rest u s)

/-- Object dictionary ready notes the boot time and leaves the part, the Hamper, the straps and the clocks. -/
theorem objectDictionaryReady_spec {s : State} (h : s.boot.phase = .starting) (u : Nat) : ∃ t, exec (.objectDictionaryReady u) s = .next t ∧
    t.boot.bootTime = min max16 u ∧ t.part = s.part ∧ t.hamper = s.hamper ∧ t.straps = s.straps ∧ t.clk = s.clk := by
  obtain ⟨l, hl⟩ := dictionaryReady_boot u s
  have h7 : bootTimeOf (bootStep7 (dictionaryReady u s)) = min max16 u := by
    rw [bootStep7_bootTime, bootTimeOf, hl]
    rfl
  have hf7 : rest bootFixed (bootStep7 (dictionaryReady u s)) = rest bootFixed s := (bootStep7_fixed _).trans (dictionaryReady_fixed u s)
  obtain ⟨t, ht⟩ : ∃ t, t = if s.therm.latch then bootStep7 (dictionaryReady u s) else unlessReset bootStep8 (bootStep7 (dictionaryReady u s)) :=
    ⟨_, rfl⟩
  have htime : bootTimeOf t = min max16 u := by
    rw [ht]
    split
    · exact h7
    · rw [unlessReset_bootTime bootStep8_bootTime, h7]
  have hfixed : rest bootFixed t = rest bootFixed s := by
    rw [ht]
    split
    · exact hf7
    · rw [unlessReset_rest bootStep8_fixed, hf7]
  refine ⟨t, ht ▸ exec_objectDictionaryReady h u, htime, ?_, ?_, ?_, ?_⟩
  · exact rest_part hfixed (by simp)
  · exact rest_hamper hfixed (by simp)
  · exact rest_straps hfixed (by simp)
  · exact rest_clk hfixed (by simp)

/-! With every link UP and no stage fault, step 7 looks at the fused outputs alone. -/

theorem bootLinksDown_up {s : State} (h : ∀ k : Fin 7, s.links[k].phase = .up) : bootLinksDown s = s := by
  unfold bootLinksDown
  rw [List.filter_eq_nil_iff.mpr fun k _ => by rw [h k]; simp]
  rfl

theorem stageFaultsAgain_none {s : State} (h : ∀ k : Fin 7, s.dies[k].stf = false) : stageFaultsAgain s = s := by
  unfold stageFaultsAgain
  rw [List.filter_eq_nil_iff.mpr fun k _ => by rw [h k]; simp]
  rfl

/-- What step 7 writes in the fused outputs. -/
abbrev adoptFields : List Fld := [.fo, .items, .evc, .tw]

theorem bootStep7_quiet {s : State} (hl : ∀ k : Fin 7, s.links[k].phase = .up) (hs : ∀ k : Fin 7, s.dies[k].stf = false) :
    rest adoptFields (bootStep7 s) = rest adoptFields s := by
  unfold bootStep7
  rw [bootLinksDown_up hl, stageFaultsAgain_none hs]
  exact unlessReset_rest (fun a => by simp) s

/-- The same of the boot, whose links and dies the ready object dictionary leaves. -/
theorem bootStep7_ready {s : State} (u : Nat) (h : ∀ k : Fin 7, s.links[k].phase = .up ∧ s.dies[k].stf = false) :
    rest adoptFields (bootStep7 (dictionaryReady u s)) = rest adoptFields (dictionaryReady u s) := by
  have hr := dictionaryReady_rest u s
  refine bootStep7_quiet (fun k => ?_) fun k => ?_
  · rw [rest_links hr (by decide)]; exact (h k).1
  · rw [rest_dies hr (by decide)]; exact (h k).2

/-- The thermal latch holds step 8. -/
theorem objectDictionaryReady_held {s : State} (h : s.boot.phase = .starting) (hlatch : s.therm.latch = true)
    (hk : ∀ k : Fin 7, s.links[k].phase = .up ∧ s.dies[k].stf = false) (u : Nat) : ∃ t, exec (.objectDictionaryReady u) s = .next t ∧
      t.boot.phase = .ready ∧ t.boot.odAnswering = true ∧ t.boot.thermalHold = true ∧ t.boot.step8 = s.boot.step8 ∧
      t.boot.bootTime = min max16 u ∧ t.settings = s.settings ∧ t.groups = s.groups := by
  have h7 := bootStep7_ready u hk
  have hr := dictionaryReady_rest u s
  obtain ⟨l, hl⟩ := dictionaryReady_boot u s
  have hboot := (rest_boot h7 (by decide)).trans hl
  rw [hlatch] at hboot
  refine ⟨_, (exec_objectDictionaryReady h u).trans (by rw [if_pos hlatch]), ?_, ?_, ?_, ?_, ?_, ?_, ?_⟩
  · rw [hboot]; rfl
  · rw [hboot]; rfl
  · rw [hboot]; rfl
  · rw [hboot]; rfl
  · rw [hboot]; rfl
  · rw [rest_settings h7 (by decide), rest_settings hr (by decide)]
  · rw [rest_groups h7 (by decide), rest_groups hr (by decide)]

end Sys2Proof.Proofs

namespace Sys2Proof.Proofs

open Sys2Proof.Machine Sys2Proof.Laws

/-! ### O6: step 8 with a `VDR` on every die. Nothing that the requests of the groups send to a rail declares a fault, so the boot record
stays as step 8 left it (R57, R276) -/

/-- The boot record is `b`, every die has its `VDR`, and no rail has a `VDR` fault to declare. -/
structure Calm (b : BootState) (s : State) : Prop where
  boot : s.boot = b
  vdrOk : ∀ k : Fin 7, s.dies[k].vdrOk = true
  vdrDue : ∀ r : Fin 28, s.rails[r].prot.vdrDue = false

section
variable {b : BootState} {s : State}

/-- Only the boot record, the dies and the rails matter. -/
theorem Calm.of_rest {t : State} (hs : Calm b s) (h : rest (allBut [.boot, .dies, .rails]) t = rest (allBut [.boot, .dies, .rails]) s) :
    Calm b t where
  boot := (rest_boot h (by simp)).trans hs.boot
  vdrOk k := by rw [rest_dies h (by simp)]; exact hs.vdrOk k
  vdrDue r := by rw [rest_rails h (by simp)]; exact hs.vdrDue r

theorem Calm.modRail (hs : Calm b s) {f : RailState → RailState} (r : Fin 28)
    (hf : ∀ x, x.prot.vdrDue = false → (f x).prot.vdrDue = false := by exact fun _ hx => hx) : Calm b (modRail r f s) where
  boot := hs.boot
  vdrOk := hs.vdrOk
  vdrDue q := by
    rw [Machine.modRail]
    by_cases h : q = r
    · rw [h, vmod_get]; exact hf _ (hs.vdrDue r)
    · rw [vmod_get_ne h]; exact hs.vdrDue q

theorem Calm.modDie (hs : Calm b s) {f : DieState → DieState} (k : Fin 7) (hf : ∀ d, (f d).vdrOk = d.vdrOk := by exact fun _ => rfl) :
    Calm b (modDie k f s) where
  boot := hs.boot
  vdrOk j := (vmod_get_keeps DieState.vdrOk hf s.dies k j).trans (hs.vdrOk j)
  vdrDue := hs.vdrDue

theorem Calm.foldl {α : Type} {f : State → α → State} (hf : ∀ a x, Calm b a → Calm b (f a x)) (l : List α) (hs : Calm b s) :
    Calm b (l.foldl f s) :=
  List.foldlRecOn l f hs fun a ha x _ => hf a x ha

/-! The operations of a rail. -/

theorem Calm.sendLane (hs : Calm b s) (r : Fin 28) (w : Nat) : Calm b (sendLane r w s) := by
  unfold Machine.sendLane
  split
  · exact hs
  · exact hs.foldl (fun a k ha => ha.modDie k) _

theorem Calm.followersToZero (hs : Calm b s) (r : Fin 28) : Calm b (followersToZero r s) := by
  unfold Machine.followersToZero
  split
  · exact hs.foldl (fun a k ha => ha.modDie k) _
  · exact hs

theorem Calm.railEvent (hs : Calm b s) (r : Fin 28) : Calm b (railEvent r s) := hs.of_rest (by simp)

theorem Calm.pgRefresh (hs : Calm b s) (r : Fin 28) : Calm b (pgRefresh r s) := by
  unfold Machine.pgRefresh
  dsimp only
  split
  · exact hs
  · split
    · exact (hs.modRail r).railEvent r
    · exact (hs.modRail r).railEvent r

/-- An enable finds no die without its `VDR`. -/
theorem vdrAtEnable_calm (hs : Calm b s) (r : Fin 28) : vdrAtEnable r s = s := by
  have hnone : vdrLowAt s r = none := List.findSome?_eq_none_iff.mpr fun ph _ => if_pos (hs.vdrOk _)
  rw [vdrAtEnable, hnone]

theorem Calm.railEnable (hs : Calm b s) (r : Fin 28) : Calm b (railEnable r s) := by
  unfold Machine.railEnable
  extract_lets tgt lat s1 s2
  split
  · exact hs
  · split
    · split
      · exact hs.modRail r
      · exact hs
    · have h1 : Calm b s1 := (hs.sendLane r 0).foldl (fun a ph ha => ha.of_rest (by simp)) _
      have h2 : Calm b s2 := h1.modRail r (by exact fun _ _ => rfl)
      have h3 := (h2.modRail (f := fun x => { x with loop := epochLoop (railN s2 r) (s.rotStride r) (s.rotEn r) x.loop }) r)
      have h4 := (h3.followersToZero r).pgRefresh r
      exact (vdrAtEnable_calm h4 r).symm ▸ h4

theorem Calm.railOffDone (hs : Calm b s) (r : Fin 28) : Calm b (railOffDone r s) := by
  unfold Machine.railOffDone
  split
  · exact hs
  · extract_lets held s1 cleared s2
    have h1 : Calm b s1 := hs.modRail r
    have h2 : Calm b s2 := by
      refine Calm.pgRefresh ?_ r
      split
      · exact h1.railEvent r
      · exact h1
    split
    · exact h2.railEnable r
    · exact h2

theorem Calm.railDisable (hs : Calm b s) (r : Fin 28) (atOnce : Bool) : Calm b (railDisable r atOnce s) := by
  unfold Machine.railDisable
  split
  · exact hs
  · split
    · dsimp only
      split
      · exact (hs.modRail r).railOffDone r
      · exact hs.modRail r
    · split
      · exact hs.railOffDone r
      · exact (hs.modRail r).pgRefresh r

theorem Calm.readdEvent (hs : Calm b s) (r : Fin 28) (stepAlarm : Bool) : Calm b (readdEvent r stepAlarm s) := by
  unfold Machine.readdEvent
  refine Calm.modRail (hs.foldl (fun a ph ha => ?_) _) r
  exact ha.of_rest (phaseBack_rest (by simp) ph a)

theorem Calm.hintAccept (hs : Calm b s) (r : Fin 28) (ifc tfc : Nat) : Calm b (hintAccept r ifc tfc s) := by
  unfold Machine.hintAccept
  split
  · exact hs
  · extract_lets s1 s2
    have h1 : Calm b s1 := hs.modRail r
    split
    · exact h1
    · refine Calm.modRail ?_ r
      unfold s2
      split
      · exact h1.readdEvent r false
      · exact h1

theorem Calm.applyTarget (hs : Calm b s) (r : Fin 28) (mv slew src : Nat) : Calm b (applyTarget r mv slew src s) := by
  unfold Machine.applyTarget moveTo
  split
  · exact hs.modRail r
  · dsimp only
    split
    · exact hs
    · exact hs.modRail r

/-- No command of a rail disturbs the calm (R199). -/
theorem Calm.applyRailCmd (hs : Calm b s) (c : RailCmd) : Calm b (applyRailCmd c s) := by
  cases c with
  | setTarget r mv slew src => exact hs.applyTarget r mv slew src
  | enable r => exact hs.railEnable r
  | disable r atOnce => exact hs.railDisable r atOnce
  | hint r ifc tfc => exact hs.hintAccept r ifc tfc
  | clearFault r => exact Calm.pgRefresh (hs.modRail r) r

theorem Calm.railTakes (hs : Calm b s) (k : Fin 7) (f : LinkFrame) : Calm b (railTakes k f s) := by
  unfold Machine.railTakes
  split
  · split
    · exact hs.applyRailCmd _
    · exact hs
  · exact hs.of_rest (by simp)
  · exact hs.of_rest (by simp)
  · exact hs

theorem Calm.helmPump (hs : Calm b s) (k : Fin 7) : Calm b (helmPump k s) := by
  unfold Machine.helmPump
  split
  · exact hs
  · exact Calm.foldl (fun a f ha => Calm.railTakes (ha.of_rest (by simp)) k f) _ (hs.of_rest (by simp))

theorem Calm.sendCmd (hs : Calm b s) (c : RailCmd) : Calm b (sendCmd c s) := Calm.helmPump (hs.of_rest (by simp)) _

/-! The sequencer (R276, R277). -/

theorem Calm.modItem (hs : Calm b s) (i : Fin 46) (f : ItemState → ItemState) : Calm b (modItem i f s) := hs.of_rest (by simp)

theorem Calm.switchOn (hs : Calm b s) (i : Fin 46) : Calm b (switchOn i s) := by
  unfold Machine.switchOn
  split
  · exact hs
  · split
    · exact hs.modItem i _
    · dsimp only
      split
      · split
        · exact (hs.modItem i _).modItem i _
        · split
          · exact (hs.modItem i _).modItem i _
          · exact ((hs.modItem i _).modItem i _).sendCmd _
      · exact hs.of_rest (by simp)
      · exact hs.of_rest (by simp)

theorem Calm.stepMoves (hs : Calm b s) (st : Fin 64) : Calm b (stepMoves st s) := by
  unfold Machine.stepMoves
  refine hs.foldl (fun a r ha => ?_) _
  dsimp only
  split
  · split
    · exact ha.of_rest (by simp)
    · exact Calm.sendCmd (ha.of_rest (by simp)) _
  · exact ha

theorem Calm.vdrDeclared (hs : Calm b s) : Calm b (vdrDeclared s) := by
  rw [vdrDeclared_none hs.vdrDue]
  exact hs

theorem Calm.startStep (hs : Calm b s) (g : Fin 8) (st : Fin 64) : Calm b (startStep g st s) := by
  unfold Machine.startStep
  extract_lets s0 s1 s2
  have h0 : Calm b s0 := by
    unfold s0
    split
    · exact hs.of_rest (by simp)
    · exact hs
  have h1 : Calm b s1 := h0.of_rest (by simp [s1])
  have h2 : Calm b s2 := by
    refine h1.foldl (fun a i ha => ?_) _
    dsimp only
    split
    · exact (ha.modItem i _).modItem i _
    · exact (ha.modItem i _).switchOn i
  clear_value s2
  exact (h2.stepMoves st).vdrDeclared

theorem Calm.groupTo (hs : Calm b s) (g : Fin 8) (ph : GroupPhase) : Calm b (groupTo g ph s) := hs.of_rest (by simp)

theorem Calm.modGroup (hs : Calm b s) (g : Fin 8) (f : GroupState → GroupState) : Calm b (modGroup g f s) := hs.of_rest (by simp)

theorem Calm.advance (hs : Calm b s) (n : Nat) (g : Fin 8) (o : Option (Fin 64)) : Calm b (advance n g o s) := by
  induction n generalizing o s with
  | zero => exact hs
  | succ n ih =>
    unfold Machine.advance
    split
    · exact (hs.modGroup g _).groupTo g _
    · next st _ =>
      extract_lets s1 s2
      have h1 : Calm b s1 := hs.of_rest (by simp [s1])
      have h2 : Calm b s2 := h1.startStep g st
      split
      · split
        · exact ih h2 _
        · exact h2
      · exact h1

theorem Calm.requestRow (hs : Calm b s) (g : Fin 8) : Calm b (requestRow g s) := by
  unfold Machine.requestRow
  split
  · exact hs
  · split
    · exact hs.groupTo g _
    · split
      · exact hs
      · exact Calm.advance ((hs.modGroup g _).groupTo g _) 65 g none

/-! Step 8. -/

theorem Calm.applyThrottle (hs : Calm b s) : Calm b (applyThrottle s) := by
  unfold Machine.applyThrottle
  refine Calm.foldl (fun a g ha => ?_) _ (hs.foldl (fun a r ha => ?_) _)
  · split
    · split
      · exact ha.of_rest (by simp)
      · exact ha
    · exact ha
  · split
    · exact ha.modRail r
    · exact ha

theorem Calm.bootStep8End (hs : Calm b s) (was : Bool) : Calm b (bootStep8End was s) := by
  have h1 : Calm b (Machine.applyThrottle (skEndCheck was s)) := Calm.applyThrottle (hs.of_rest (by simp))
  unfold Proofs.bootStep8End
  refine Calm.foldl (fun a g ha => ?_) _ ?_
  · split
    · exact ha.requestRow g
    · exact ha
  · split
    · exact h1.of_rest (by simp)
    · exact h1

theorem Calm.skAdopt (hs : Calm b s) (r : Fin 28) : Calm b (skAdopt r s) := by
  unfold Machine.skAdopt
  split
  · exact hs
  · exact Calm.modItem (Calm.modRail (hs.of_rest (modSk_rest (by simp) _ s)) r) _ _

/-- Nothing leaves station-keeping while rails are re-adopted. -/
theorem skAdopt_left (r : Fin 28) (s : State) : (skAdopt r s).sk.left = s.sk.left := by
  unfold skAdopt
  split <;> rfl

theorem bootStep8Start_left (s : State) : (bootStep8Start s).sk.left = s.sk.left := by
  unfold bootStep8Start
  rw [foldl_keeps (fun a => a.sk.left) fun a r => skAdopt_left r a]
  refine congrArg SkState.left (rest_sk (F := allBut [.sk]) ?_ (by simp))
  simp

theorem Calm.bootStep8Start (hs : Calm b s) : Calm { b with step8 := true } (bootStep8Start s) := by
  have h0 : Calm { b with step8 := true } (modBoot (fun b => { b with step8 := true }) s) :=
    ⟨congrArg (fun b => { b with step8 := true }) hs.boot, hs.vdrOk, hs.vdrDue⟩
  unfold Proofs.bootStep8Start
  exact Calm.foldl (fun a r ha => ha.skAdopt r) _ (Calm.foldl (fun a g ha => ha.modGroup g _) _ (h0.of_rest (by simp)))

theorem Calm.skLeftAll (hs : Calm b s) (hleft : s.sk.left = []) : Calm b (skLeftAll s) := by
  unfold Machine.skLeftAll
  rw [hleft]
  exact hs.of_rest (rest_with_sk (by simp) s _)

/-- With no rail that left station-keeping, step 8 runs to its end. -/
theorem Calm.bootStep8 (hs : Calm b s) (hleft : s.sk.left = []) (hready : b.phase = .ready) : Calm { b with step8 := true } (bootStep8 s) := by
  have h := hs.bootStep8Start.skLeftAll ((bootStep8Start_left s).trans hleft)
  rw [bootStep8_eq, unlessReset, if_pos (by rw [h.boot]; exact hready)]
  exact h.bootStep8End _

end

end Sys2Proof.Proofs

namespace Sys2Proof.Proofs

open Sys2Proof.Machine Sys2Proof.Laws

/-! ### O6: the end of the boot, and the whole statement -/

/-- With every link UP, no stage fault and `VDR` on every die the boot goes through step 8. -/
theorem objectDictionaryReady_step8 {s : State} (h : s.boot.phase = .starting) (hlatch : s.therm.latch = false) (hleft : s.sk.left = [])
    (hk : ∀ k : Fin 7, s.links[k].phase = .up ∧ s.dies[k].stf = false ∧ s.dies[k].vdrOk = true)
    (hr : ∀ r : Fin 28, s.rails[r].prot.vdrDue = false) (u : Nat) : ∃ t, exec (.objectDictionaryReady u) s = .next t ∧
      t.boot.phase = .ready ∧ t.boot.odAnswering = true ∧ t.boot.step8 = true ∧ t.boot.bootTime = min max16 u := by
  obtain ⟨l, hl⟩ := dictionaryReady_boot u s
  have h7 := bootStep7_ready u fun k => ⟨(hk k).1, (hk k).2.1⟩
  have hready := dictionaryReady_rest u s
  obtain ⟨t7, ht7⟩ : ∃ t7, t7 = bootStep7 (dictionaryReady u s) := ⟨_, rfl⟩
  rw [← ht7] at h7
  have hboot := (rest_boot h7 (by decide)).trans hl
  have hphase : t7.boot.phase = .ready := congrArg BootState.phase hboot
  have hdies := (rest_dies h7 (by decide)).trans (rest_dies hready (by decide))
  have hrails := (rest_rails h7 (by decide)).trans (rest_rails hready (by decide))
  have hsk := (rest_sk h7 (by decide)).trans (rest_sk hready (by decide))
  have hcalm : Calm (readyRecord u s.therm.latch { s.boot with repairs := l }) t7 :=
    ⟨hboot, fun k => by rw [hdies]; exact (hk k).2.2, fun r => by rw [hrails]; exact hr r⟩
  have h8 := hcalm.bootStep8 (by rw [hsk]; exact hleft) rfl
  have hexec : exec (.objectDictionaryReady u) s = .next (bootStep8 t7) := by
    rw [exec_objectDictionaryReady h, if_neg (by rw [hlatch]; decide), ← ht7, unlessReset, if_pos hphase]
  exact ⟨_, hexec, congrArg BootState.phase h8.boot, congrArg BootState.odAnswering h8.boot, congrArg BootState.step8 h8.boot,
    congrArg BootState.bootTime h8.boot⟩

theorem exec_objectDictionaryAnswering (s : State) : exec .objectDictionaryAnswering s =
    .next (if s.boot.phase = .ready ∧ (s.pwr.state = .run ∨ s.pwr.state = .doze) then { s with boot := { s.boot with odAnswering := true } }
      else s) := by
  show execObjectDictionaryAnswering s = _
  unfold execObjectDictionaryAnswering
  simp only [Bool.and_eq_true, Bool.or_eq_true, decide_eq_true_eq]
  rfl

/-- The samples of the straps are taken by majority, and the self-test follows (R60, R64). -/
theorem strapSample_spec {s : State} (h : s.boot.phase = .strapWait) (a b d : BitVec 5) : ∃ t,
    exec (.strapSample a b d) s = .next t ∧ t.boot.phase = .selfTest ∧ t.boot.attempts = 0 ∧ t.clk.sysLock = true ∧
    (∀ i, i < 3 → t.straps.twa.testBit i = majority (a.toNat.testBit i) (b.toNat.testBit i) (d.toNat.testBit i)) ∧
    t.straps.oldChart = majority (a.toNat.testBit 3) (b.toNat.testBit 3) (d.toNat.testBit 3) ∧
    t.straps.testEn = majority (a.toNat.testBit 4) (b.toNat.testBit 4) (d.toNat.testBit 4) ∧
    t = { s with nv := t.nv, clk := t.clk, straps := t.straps, boot := t.boot, log := t.log, evc := t.evc, tw := t.tw } := by
  obtain ⟨t, hexec, hphase, hattempts, hlock, hstraps, hframe⟩ := execStrapSample_spec h a b d
  refine ⟨t, hexec, hphase, hattempts, hlock, fun i hi => ?_, ?_, ?_, hframe⟩
  · rw [hstraps, strapsOf_twa a b d hi]; rfl
  · rw [hstraps]; rfl
  · rw [hstraps]; rfl

/-- Settles O6. Each step of the boot has its own lemma. Two need an argument of their own: that the boot time stands whatever the links and
the stages report (`bootTimeOf`), and that step 8 ends as it began where every die has its `VDR` (`Calm`). -/
theorem bootSteps : Obligations.BootSteps := by
  unfold Obligations.BootSteps
  intro s
  refine ⟨fun h => congrArg Host.Outcome.next (if_pos h), execVauxPowerOnReset_spec, fun h => if_pos h, fun h hn => ?_,
    execPowerOnResetRelease_resets, fun _ _ _ h => if_pos h, fun a b d h => strapSample_spec h a b d, fun _ _ h => if_pos h,
    fun w _ h hf ha => selfTest_firstFails h hf ha w, fun w _ h hf ha => selfTest_secondFails h hf ha w,
    fun w _ _ h hf hk he => selfTest_starts h hf hk he w, fun w _ h hf he hk => selfTest_noBank h hf he hk w, fun _ h => if_pos h,
    fun u h => objectDictionaryReady_spec h u, fun u h hlatch hk => objectDictionaryReady_held h hlatch hk u,
    fun u h hlatch hleft hk hr => objectDictionaryReady_step8 h hlatch hleft hk hr u, fun h hp => ?_, fun h => ?_⟩
  · exact ⟨_, execPowerOnResetRelease_boots h hn, bootFromRelease_spec s⟩
  · rw [exec_objectDictionaryAnswering, if_pos ⟨h, hp⟩]
  · rw [exec_objectDictionaryAnswering, if_neg]
    rintro ⟨hphase, hrun | hdoze⟩
    · rcases h with h | h | h
      · exact h hphase
      · rw [hrun] at h; exact absurd h (by decide)
      · rw [hrun] at h; exact absurd h (by decide)
    · rcases h with h | h | h
      · exact h hphase
      · rw [hdoze] at h; exact absurd h (by decide)
      · rw [hdoze] at h; exact absurd h (by decide)

end Sys2Proof.Proofs

namespace Sys2Proof.Proofs

open Sys2Proof.Machine Sys2Proof.Laws

/-! ### O50: the machine right after reset (R76, R88, R110, R393, R542) -/

/-- Settles O50: the state of the reset is written out, and every numbered element of it is the one initial element. -/
theorem resetInvariant : Obligations.ResetInvariant := by
  unfold Obligations.ResetInvariant
  refine ⟨rfl, Nat.zero_le 4, rfl, rfl, rfl, rfl, rfl, rfl, rfl, rfl, rfl, fun n => ?_, fun n => ?_, fun r => ?_, fun g => ?_, fun n => ?_,
    rfl, rfl⟩
  all_goals simp only [State.reset, Fin.getElem_fin, Vector.getElem_replicate]
  all_goals rfl

end Sys2Proof.Proofs

namespace Sys2Proof.Proofs

open Sys2Proof.Machine Sys2Proof.Laws

/-! ### Rails put at mid level (R110, R118, R385) -/

/-- What one step of a fold brings about and every step keeps holds at its end. -/
theorem foldl_establishes {α : Type} {P : State → Prop} {f : State → α → State} {x : α} {l : List α} (hx : x ∈ l)
    (hset : ∀ a, P (f a x)) (hkeep : ∀ a y, P a → P (f a y)) (s : State) : P (l.foldl f s) := by
  have hstays : ∀ (l : List α) (a : State), P a → P (l.foldl f a) := by
    intro l
    induction l with
    | nil => exact fun _ h => h
    | cons y l ih => exact fun a h => ih _ (hkeep a y h)
  induction l generalizing s with
  | nil => cases hx
  | cons y l ih =>
    rcases List.mem_cons.mp hx with rfl | hx
    · exact hstays l _ (hset s)
    · exact ih hx _

/-- A rail put at mid level is off, no other rail changes, and its link and events carry the change. -/
theorem railToMid_spec (r : Fin 28) (s : State) : (railToMid r s).rails[r].enabled = false ∧
    (∀ j : Fin 28, j ≠ r → (railToMid r s).rails[j] = s.rails[j]) ∧
    rest [.links, .rails, .evc, .tw] (railToMid r s) = rest [.links, .rails, .evc, .tw] s := by
  obtain ⟨s1, hs1⟩ : ∃ s1, s1 = modRail r (fun x => { x with enHeld := false }) s := ⟨_, rfl⟩
  have hother : ∀ j : Fin 28, j ≠ r → s1.rails[j] = s.rails[j] := fun j hj => by rw [hs1]; exact vmod_get_ne hj _ _
  have hrest : rest [.links, .rails, .evc, .tw] s1 = rest [.links, .rails, .evc, .tw] s := by
    rw [hs1]; exact modRail_rest (by decide) _ _ _
  have hheld : s1.rails[r].enHeld = false := by rw [hs1, modRail_rails, vmod_get]
  have hmid : railToMid r s = railOffDone r s1 := by rw [hs1]; rfl
  rw [hmid]
  cases he : s1.rails[r].enabled with
  | false =>
    have hid : railOffDone r s1 = s1 := if_pos (by rw [he]; rfl)
    rw [hid]
    exact ⟨he, hother, hrest⟩
  | true =>
    obtain ⟨hrails, hframe⟩ := railOffDone_spec he hheld
    refine ⟨?_, fun j hj => ?_, hframe.trans hrest⟩
    · rw [hrails, vmod_get, railOffPg]
      split <;> rfl
    · rw [hrails, vmod_get_ne hj, hother j hj]

/-- Putting any rail at mid level leaves a rail that is off, off. -/
theorem railToMid_keeps_off {r : Fin 28} {s : State} (h : s.rails[r].enabled = false) (q : Fin 28) :
    (railToMid q s).rails[r].enabled = false := by
  obtain ⟨hoff, hother, -⟩ := railToMid_spec q s
  by_cases e : r = q
  · rw [e]; exact hoff
  · rw [hother r e, h]

end Sys2Proof.Proofs

namespace Sys2Proof.Proofs

open Sys2Proof.Machine Sys2Proof.Laws

/-! ### O9: the start of a full reset at the pin and by command (R83, R84, R105 to R107, R113, R120) -/

/-- What a full reset keeps of station-keeping, and how it stands to `RESET_N` (R106, R113). -/
theorem resetStart_station (cause sub : Nat) (s : State) :
    (resetStart cause sub s).boot.resetNLow = decide (cause = 3) ∧
    (resetStart cause sub s).boot.skActive = (s.stationkeep && causeKeeps cause) ∧
    (resetStart cause sub s).boot.odAnswering = false ∧
    ∀ r : Fin 28, (resetStart cause sub s).sk.kept[r] = (s.stationkeep && causeKeeps cause && inRegulation s r) := by
  have hform : ∃ u, resetStart cause sub s = recordMask (ctrAppend ctrCause cause (abandonWrites u)) ∧
      u.boot.resetNLow = decide (cause = 3) ∧ u.boot.skActive = (s.stationkeep && causeKeeps cause) ∧ u.boot.odAnswering = false ∧
      u.sk.kept = Vector.ofFn fun r => s.stationkeep && causeKeeps cause && inRegulation s r := by
    unfold resetStart
    dsimp only
    refine ⟨resetStops _ cause _ _, rfl, ?_, ?_, ?_, ?_⟩
    · rw [rest_boot (resetStops_rest _ _ _ _) (by decide)]
    · rw [rest_boot (resetStops_rest _ _ _ _) (by decide)]
    · rw [rest_boot (resetStops_rest _ _ _ _) (by decide)]
    · rw [rest_sk (resetStops_rest _ _ _ _) (by decide)]
  obtain ⟨u, hu, hlow, hactive, hanswer, hkept⟩ := hform
  have hboot := rest_boot (resetRecord_rest cause u) (by decide)
  rw [hu, hboot, rest_sk (resetRecord_rest cause u) (by decide), hkept]
  exact ⟨hlow, hactive, hanswer, fun r => by simp⟩

/-- `RESET_N` is noted low. -/
def pinLow (s : State) : State := modBoot (fun b => { b with resetNLow := true }) s

theorem exec_resetPinRecognised {s : State} (h : s.boot.phase ≠ .porHeld) :
    exec .resetPinRecognised s = .next (startFullReset 3 0 (pinLow s)) :=
  congrArg Host.Outcome.next (if_neg h)

/-- `RESET_N` in a running device: the rails in regulation stay with `STATIONKEEP` set (R83, R105, R113). -/
theorem resetPinRecognised_ready {s : State} (h : s.boot.phase = .ready) : ∃ t, exec .resetPinRecognised s = .next t ∧
    t.boot.phase = .inReset ∧ t.boot.curCause = 3 ∧ t.boot.resetNLow = true ∧ t.boot.skActive = s.stationkeep ∧
    t.boot.odAnswering = false ∧ (∀ r : Fin 28, t.sk.kept[r] = (s.stationkeep && inRegulation s r)) ∧ t.settings = s.settings ∧
    t.hamper = s.hamper ∧ t.clk = s.clk ∧ t.roles = s.roles := by
  obtain ⟨s1, hs1⟩ : ∃ s1, s1 = pinLow s := ⟨_, rfl⟩
  have hready : s1.boot.phase = .ready := by rw [hs1]; exact h
  have hexec := exec_resetPinRecognised (s := s) (by rw [h]; decide)
  rw [← hs1, startFullReset_ready hready] at hexec
  have hrest : rest classAFields (resetStart 3 0 s1) = rest classAFields s := by
    rw [← startFullReset_ready hready, startFullReset_classAFields, hs1]
    exact modBoot_rest (by decide) _ _
  obtain ⟨hphase, hcause, -⟩ := resetStart_boot 3 0 s1
  obtain ⟨hlow, hactive, hanswer, hkept⟩ := resetStart_station 3 0 s1
  have hsk : s1.stationkeep = s.stationkeep := by rw [hs1]; rfl
  have hreg : ∀ r, inRegulation s1 r = inRegulation s r := fun r => by rw [hs1]; rfl
  have hcauses : causeKeeps 3 = true := rfl
  refine ⟨_, hexec, hphase, hcause, hlow, ?_, hanswer, fun r => ?_, rest_settings hrest (by decide), rest_hamper hrest (by decide),
    rest_clk hrest (by decide), rest_roles hrest (by decide)⟩
  · rw [hactive, hsk, hcauses, Bool.and_true]
  · rw [hkept, hsk, hcauses, Bool.and_true, hreg]

/-- `RESET_N` again in the reset that has it in its mask. -/
theorem secondCause_pinAgain {s : State} (h : s.boot.curMask.testBit 3 = true) : secondCause 3 s = pinLow s := if_pos h

/-- `RESET_N` as a second cause keeps station-keeping and adds its bit to the mask (R107). -/
theorem secondCause_pinFirst {s : State} (h : ¬s.boot.curMask.testBit 3 = true) : secondCause 3 s =
    recordMask (resetPath 3 (modBoot (fun b => { b with curMask := setBit b.curMask 3 }) (pinLow s))) := by
  have hkeeps (b : Bool) : ¬(b && !causeKeeps 3) = true := by cases b <;> decide
  exact (if_neg h).trans (if_neg (hkeeps _))

/-- What `RESET_N` during a full reset can change. -/
abbrev secondPinFields : List Fld := [.mram, .nv, .boot, .pp, .chg, .freeCtr]

theorem secondCause_pin (s : State) : (secondCause 3 s).boot.phase = s.boot.phase ∧ (secondCause 3 s).boot.curMask.testBit 3 = true ∧
    (secondCause 3 s).boot.curCause = s.boot.curCause ∧ rest secondPinFields (secondCause 3 s) = rest secondPinFields s := by
  by_cases h : s.boot.curMask.testBit 3 = true
  · rw [secondCause_pinAgain h]
    exact ⟨rfl, h, rfl, modBoot_rest (by decide) _ s⟩
  · obtain ⟨s1, hs1⟩ : ∃ s1, s1 = modBoot (fun b => { b with curMask := setBit b.curMask 3 }) (pinLow s) := ⟨_, rfl⟩
    have hrecord : rest [.mram, .nv, .pp, .chg, .freeCtr] (recordMask (resetPath 3 s1)) = rest [.mram, .nv, .pp, .chg, .freeCtr] s1 := by
      rw [recordMask_rest (by decide) (by decide) (by decide), resetPath_rest (by decide) (by decide)]
    have hs : rest secondPinFields s1 = rest secondPinFields s := by
      rw [hs1, modBoot_rest (by decide)]; exact modBoot_rest (by decide) _ s
    have hmask : s1.boot.curMask.testBit 3 = true := by
      rw [hs1]
      show (setBit s.boot.curMask 3).testBit 3 = true
      rw [setBit, Nat.testBit_or, Nat.testBit_two_pow_self, Bool.or_true]
    rw [secondCause_pinFirst h, ← hs1, rest_boot hrecord (by decide)]
    exact ⟨by rw [hs1]; rfl, hmask, by rw [hs1]; rfl, (rest_mono (by decide) hrecord).trans hs⟩

/-- `RESET_N` during a full reset adds its bit to the mask (R107). -/
theorem resetPinRecognised_inReset {s : State} (h : s.boot.phase = .inReset) : ∃ t, exec .resetPinRecognised s = .next t ∧
    t.boot.phase = .inReset ∧ t.boot.curMask.testBit 3 = true ∧ t.boot.curCause = s.boot.curCause ∧ t.settings = s.settings ∧
    t.hamper = s.hamper ∧ t.rails = s.rails := by
  have hexec := exec_resetPinRecognised (s := s) (by rw [h]; decide)
  have hstart : startFullReset 3 0 (pinLow s) = secondCause 3 (pinLow s) := by
    have hin : (pinLow s).boot.phase = .inReset := h
    unfold startFullReset; rw [hin]
  obtain ⟨hphase, hmask, hsame, hrest⟩ := secondCause_pin (pinLow s)
  have hframe := hrest.trans (modBoot_rest (by decide) _ s)
  exact ⟨_, hexec.trans (congrArg Host.Outcome.next hstart), hphase.trans h, hmask, hsame, rest_settings hframe (by decide),
    rest_hamper hframe (by decide), rest_rails hframe (by decide)⟩

/-- During hold-up `RESET_N` waits (R84). -/
theorem resetPinRecognised_holdUp {s : State} (h : s.boot.phase = .holdUp) : exec .resetPinRecognised s =
    .next { s with boot := { s.boot with resetNLow := true, resetNInSave := true } } := by
  have hup : (pinLow s).boot.phase = .holdUp := h
  rw [exec_resetPinRecognised (by rw [h]; decide)]
  unfold startFullReset
  rw [hup]
  rfl

/-- An accepted write of `RESET_CMD` goes to its owner (R120). -/
theorem exec_resetCmd {s : State} {p : Port} {row : ObjRow} (ha : answering s = true) (hw : checkWrite s p 0x2105 0x01 = .ok row)
    (v : Nat) : exec (.resetCmd p v) s = .next (setAck .done (if v = 0xA5C3 then startFullReset 4 0 s else s)) :=
  congrArg Host.Outcome.next (directWrite_ok (by decide) ha hw (resetCmdOp v))

/-- `RESET_CMD` with its key starts a full reset of cause 4 (R105, R120). -/
theorem resetCmd_key {s : State} {p : Port} {row : ObjRow} (ha : answering s = true) (hw : checkWrite s p 0x2105 0x01 = .ok row) :
    ∃ t, exec (.resetCmd p 0xA5C3) s = .next t ∧ t.ack = .done ∧ t.boot.phase = .inReset ∧ t.boot.curCause = 4 ∧ t.boot.curSub = 0 ∧
      t.settings = s.settings ∧ t.hamper = s.hamper := by
  have hready := startFullReset_ready (ready_of_answering ha) 4 0
  have hexec := exec_resetCmd ha hw 0xA5C3
  have hrest := startFullReset_classAFields 4 0 s
  have hboot := resetStart_boot 4 0 s
  rw [if_pos rfl, hready] at hexec
  rw [hready] at hrest
  obtain ⟨t, ht⟩ : ∃ t, t = resetStart 4 0 s := ⟨_, rfl⟩
  rw [← ht] at hexec hrest hboot
  obtain ⟨hphase, hcause, hsub⟩ := hboot
  exact ⟨setAck .done t, hexec, rfl, hphase, hcause, hsub, (rest_settings hrest (by decide) : t.settings = _),
    (rest_hamper hrest (by decide) : t.hamper = _)⟩

theorem resetCmd_other {s : State} {p : Port} {row : ObjRow} (ha : answering s = true) (hw : checkWrite s p 0x2105 0x01 = .ok row)
    {v : Nat} (hv : v ≠ 0xA5C3) : exec (.resetCmd p v) s = .next { s with ack := .done } := by
  rw [exec_resetCmd ha hw, if_neg hv]
  rfl

end Sys2Proof.Proofs

namespace Sys2Proof.Proofs

open Sys2Proof.Machine Sys2Proof.Laws

/-! ### O9: the end of a full reset (R106, R109, R380) -/

/-- Entries that fit are appended to the journal in their order (R380). -/
theorem journalPuts_fit (l : List LogRec) {s : State} (h : s.mram.journal.length + l.length ≤ 6144) :
    (l.foldl (fun a r => journalPut r a) s).mram.journal = s.mram.journal ++ l := by
  induction l generalizing s with
  | nil => exact (List.append_nil _).symm
  | cons r l ih =>
    rw [List.length_cons] at h
    have hput : (journalPut r s).mram.journal = s.mram.journal ++ [r] := if_pos (by omega)
    rw [List.foldl_cons, ih (by rw [hput, List.length_append, List.length_singleton]; omega), hput, List.append_assoc]
    rfl

/-- The flush of R106 empties the ring into the journal and leaves the configuration copies and the Home Chart. -/
theorem journalFlush_spec (s : State) : (journalFlush s).log.ring = [] ∧
    (s.mram.journal.length + s.log.ring.length ≤ 6144 → (journalFlush s).mram.journal = s.mram.journal ++ s.log.ring) ∧
    (s.log.ring = [] → (journalFlush s).mram.journal = s.mram.journal) ∧
    (journalFlush s).mram.cfg = s.mram.cfg ∧ (journalFlush s).mram.hc = s.mram.hc := by
  refine ⟨?_, fun h => journalPuts_fit _ h, fun h => ?_, ?_, ?_⟩
  · exact foldl_keeps (f := fun a r => journalPut r a) (fun a => a.log.ring) (fun _ _ => rfl) _ _
  · unfold journalFlush; rw [h]; rfl
  · exact foldl_keeps (f := fun a r => journalPut r a) (fun a => a.mram.cfg) (fun _ _ => rfl) _ _
  · exact foldl_keeps (f := fun a r => journalPut r a) (fun a => a.mram.hc) (fun _ _ => rfl) _ _

/-- What the end of a full reset lets stand, and where the boot starts (R109). -/
theorem endReset_spec (s : State) : (endReset s).boot.phase = .strapWait ∧ (endReset s).pwr.state = .run ∧ (endReset s).log.ring = [] ∧
    (endReset s).mram = s.mram ∧ (endReset s).settings = s.settings ∧ (endReset s).hamper = s.hamper ∧ (endReset s).pending = s.pending := by
  have hfet := fun u => bootFet_rest (F := [.pp]) (by decide) u
  unfold endReset
  refine ⟨?_, ?_, ?_, ?_, ?_, ?_, ?_⟩
  · rw [rest_boot (hfet _) (by decide)]
  · rw [rest_pwr (hfet _) (by decide)]
  · rw [rest_log (hfet _) (by decide)]; rfl
  · rw [rest_mram (hfet _) (by decide)]
  · rw [rest_settings (hfet _) (by decide)]
  · rw [rest_hamper (hfet _) (by decide)]
  · rw [rest_pending (hfet _) (by decide)]

/-- The flush leaves everything but the journal and the ring. -/
theorem journalFlush_frame (s : State) : rest [.mram, .log] (journalFlush s) = rest [.mram, .log] s :=
  journalFlush_rest (by decide) (by decide) s

/-- RESET_END: the ring is flushed; with `RESET_N` high the boot starts, with it low the end waits (R106). -/
theorem execResetEnd_spec {s : State} (h : s.boot.phase = .inReset) : ∃ t, exec .resetEnd s = .next t ∧ t.log.ring = [] ∧
    (s.mram.journal.length + s.log.ring.length ≤ 6144 → t.mram.journal = s.mram.journal ++ s.log.ring) ∧
    t.mram.cfg = s.mram.cfg ∧ t.mram.hc = s.mram.hc ∧ t.settings = s.settings ∧ t.hamper = s.hamper ∧ t.pending = s.pending ∧
    (s.boot.resetNLow = false → t.boot.phase = .strapWait ∧ t.pwr.state = .run) ∧
    (s.boot.resetNLow = true → t.boot.phase = .inReset ∧ t.boot.flushDone = true) := by
  obtain ⟨s1, hs1⟩ : ∃ s1, s1 = modBoot (fun b => { b with flushDone := true }) (journalFlush s) := ⟨_, rfl⟩
  obtain ⟨hring, hfit, -, hcfg, hhc⟩ := journalFlush_spec s
  have hframe := journalFlush_frame s
  have hmram : s1.mram = (journalFlush s).mram := by rw [hs1]; rfl
  have hrest : rest [.mram, .log, .boot] s1 = rest [.mram, .log, .boot] s := by
    rw [hs1, modBoot_rest (by decide)]; exact rest_mono (by decide) hframe
  have hexec : exec .resetEnd s = .next (if s.boot.resetNLow = true then s1 else endReset s1) := by
    rw [hs1]; exact if_neg (not_not.mpr h)
  rw [← hmram] at hfit hcfg hhc
  cases hlow : s.boot.resetNLow with
  | true =>
    rw [hlow, if_pos rfl] at hexec
    have hphase : s1.boot.phase = .inReset := by
      rw [hs1]; exact (congrArg BootState.phase (rest_boot hframe (by decide))).trans h
    exact ⟨s1, hexec, by rw [hs1]; exact hring, hfit, hcfg, hhc, rest_settings hrest (by decide), rest_hamper hrest (by decide),
      rest_pending hrest (by decide), fun e => absurd e (by decide), fun _ => ⟨hphase, by rw [hs1]; rfl⟩⟩
  | false =>
    rw [hlow, if_neg (by decide)] at hexec
    obtain ⟨hphase, hrun, hempty, hm, hset, hham, hpend⟩ := endReset_spec s1
    rw [← hm] at hfit hcfg hhc
    exact ⟨_, hexec, hempty, hfit, hcfg, hhc, hset.trans (rest_settings hrest (by decide)), hham.trans (rest_hamper hrest (by decide)),
      hpend.trans (rest_pending hrest (by decide)), fun _ => ⟨hphase, hrun⟩, fun e => absurd e (by decide)⟩

theorem execResetPinRise_waits {s : State} (h : s.boot.phase ≠ .inReset ∨ s.boot.flushDone = false) :
    exec .resetPinRise s = .next { s with boot := { s.boot with resetNLow := false } } := by
  refine congrArg Host.Outcome.next (if_neg ?_)
  intro hc
  rw [Bool.and_eq_true, decide_eq_true_eq] at hc
  obtain ⟨hphase, hdone⟩ := hc
  rcases h with h | h
  · exact h hphase
  · exact absurd (h.symm.trans hdone) (by decide)

/-- The rise of `RESET_N` ends a reset whose flush is done, and flushes what the ring has taken meanwhile (R106). -/
theorem execResetPinRise_ends {s : State} (h : s.boot.phase = .inReset) (hd : s.boot.flushDone = true) :
    ∃ t, exec .resetPinRise s = .next t ∧ t.boot.phase = .strapWait ∧ t.pwr.state = .run ∧ t.log.ring = [] ∧
      (s.log.ring = [] → t.mram.journal = s.mram.journal) ∧
      (s.mram.journal.length + s.log.ring.length ≤ 6144 → t.mram.journal = s.mram.journal ++ s.log.ring) ∧
      t.mram.cfg = s.mram.cfg ∧ t.mram.hc = s.mram.hc ∧ t.settings = s.settings ∧ t.hamper = s.hamper ∧ t.pending = s.pending := by
  obtain ⟨s1, hs1⟩ : ∃ s1, s1 = modBoot (fun b => { b with resetNLow := false }) s := ⟨_, rfl⟩
  have hexec : exec .resetPinRise s = .next (endReset (journalFlush s1)) := by
    rw [hs1]
    exact congrArg Host.Outcome.next (if_pos (by rw [Bool.and_eq_true, decide_eq_true_eq]; exact ⟨h, hd⟩))
  have hmram : s1.mram = s.mram := by rw [hs1]; rfl
  have hlog : s1.log = s.log := by rw [hs1]; rfl
  obtain ⟨-, hfit, hnone, hcfg, hhc⟩ := journalFlush_spec s1
  obtain ⟨hphase, hrun, hempty, hm, hset, hham, hpend⟩ := endReset_spec (journalFlush s1)
  have hrest : rest [.mram, .log, .boot] (journalFlush s1) = rest [.mram, .log, .boot] s := by
    rw [rest_mono (by decide) (journalFlush_frame s1), hs1]; exact modBoot_rest (by decide) _ _
  rw [← hm, hmram, hlog] at hfit hnone
  rw [← hm, hmram] at hcfg hhc
  exact ⟨_, hexec, hphase, hrun, hempty, hnone, hfit, hcfg, hhc, hset.trans (rest_settings hrest (by decide)),
    hham.trans (rest_hamper hrest (by decide)), hpend.trans (rest_pending hrest (by decide))⟩

end Sys2Proof.Proofs

namespace Sys2Proof.Proofs

open Sys2Proof.Machine Sys2Proof.Laws

/-! ### O9: rails that were not re-adopted (R118) -/

/-- What a rail that goes down at its deadline can change. -/
abbrev deadlineFields : List Fld := [.nv, .links, .sk, .rails, .phases, .dies, .log, .evc, .tw, .freeCtr]

theorem itemFault_classAFields (i : Fin 46) (f : ItemFaultCode) (s : State) :
    rest classAFields (itemFault i f s) = rest classAFields s := by
  simp

/-- The deadline of rail `r` is noted. -/
def skNoted (r : Fin 28) (s : State) : State :=
  modSk (fun x => { x with down := vset x.down r true, due := vset x.due r true }) s

/-- The rails whose turn has come go down, with rail `r` noted as down and due. -/
theorem skGoDown_noted (r : Fin 28) (s : State) :
    (skGoDown (skNoted r s)).sk.down[r] = true ∧
    (skGoDown (skNoted r s)).sk.due[r] = true ∧
    rest deadlineFields (skGoDown (skNoted r s)) =
      rest deadlineFields s := by
  have hdown := fun u => skGoDown_rest (F := [.nv, .links, .rails, .phases, .dies, .log, .evc, .tw, .freeCtr]) (by decide) (by decide)
    (by decide) (by decide) (by decide) (by decide) (by decide) (by decide) (by decide) u
  refine ⟨?_, ?_, ?_⟩
  · rw [rest_sk (hdown _) (by decide)]; simp [skNoted, modSk]
  · rw [rest_sk (hdown _) (by decide)]; simp [skNoted, modSk]
  · rw [rest_mono (by decide) (hdown _)]; exact modSk_rest (by decide) _ s

theorem execSkReadoptionDeadline_idle {s : State} {r : Fin 28} (hp : railPresent s r = true)
    (h : s.rails[r].stationKept = false ∨ s.sk.due[r] = true) : exec (.skReadoptionDeadline r) s = .next s := by
  have hc : (!s.rails[r].stationKept || s.sk.due[r]) = true := by
    rcases h with h | h
    · rw [h]; rfl
    · rw [h, Bool.or_true]
  show execSkReadoptionDeadline r s = _
  rw [execSkReadoptionDeadline, hp, hc]; rfl

/-- A deadline that passes takes the rail down (R118); with its item off or qualified no fault is declared. -/
theorem execSkReadoptionDeadline_spec {s : State} {r : Fin 28} (hp : railPresent s r = true) (hk : s.rails[r].stationKept = true)
    (hd : s.sk.due[r] = false) : ∃ t, exec (.skReadoptionDeadline r) s = .next t ∧ t.part = s.part ∧ t.settings = s.settings ∧
      t.hamper = s.hamper ∧
      ((s.items[railItem r].cmdOn = false ∨ s.items[railItem r].qual = true) → t.sk.down[r] = true ∧ t.sk.due[r] = true ∧
        t = { s with nv := t.nv, links := t.links, sk := t.sk, rails := t.rails, phases := t.phases, dies := t.dies, log := t.log, evc := t.evc, tw := t.tw, freeCtr := t.freeCtr }) := by
  obtain ⟨hdown, hdue, hrest⟩ := skGoDown_noted r s
  obtain ⟨s1, hs1⟩ : ∃ s1, s1 = skGoDown (skNoted r s) := ⟨_, rfl⟩
  rw [← hs1] at hdown hdue hrest
  obtain ⟨s2, hs2⟩ : ∃ s2, s2 = if (s.items[railItem r].cmdOn && !s.items[railItem r].qual) = true
    then itemFault (railItem r) .notReadopted s1 else s1 := ⟨_, rfl⟩
  have hexec : exec (.skReadoptionDeadline r) s = .next (skEndCheck true s2) := by
    show execSkReadoptionDeadline r s = _
    rw [execSkReadoptionDeadline, hp, hk, hd, hs2, hs1]; rfl
  have hend := skEndCheck_rest (F := [.evc, .tw]) (by decide) (by decide) true s2
  have hkept : rest classAFields (skEndCheck true s2) = rest classAFields s := by
    rw [rest_mono (by decide) hend, hs2]
    split
    · exact (itemFault_classAFields _ _ s1).trans (rest_mono (by decide) hrest)
    · exact rest_mono (by decide) hrest
  refine ⟨_, hexec, rest_part hkept (by decide), rest_settings hkept (by decide), rest_hamper hkept (by decide), fun hi => ?_⟩
  have hquiet : s2 = s1 := by
    rw [hs2]
    refine if_neg ?_
    rcases hi with hi | hi
    · rw [hi]; exact Bool.false_ne_true
    · rw [hi]; simp
  rw [hquiet] at hend ⊢
  refine ⟨?_, ?_, rest_patch (F := deadlineFields) ((rest_mono (by decide) hend).trans hrest)⟩
  · rw [rest_sk hend (by decide)]; exact hdown
  · rw [rest_sk hend (by decide)]; exact hdue

/-- A rail noted as down and put at mid level by its die's own timer (R118). -/
def skTimedOut (s : State) (q : Fin 28) : State := railToMid q (modSk (fun x => { x with down := vset x.down q true }) s)

theorem skTimedOut_sk (s : State) (q : Fin 28) : (skTimedOut s q).sk = { s.sk with down := vset s.sk.down q true } := by
  obtain ⟨-, -, hrest⟩ := railToMid_spec q (modSk (fun x => { x with down := vset x.down q true }) s)
  exact rest_sk hrest (by decide)

theorem execSkHardwareTimeout_idle {s : State} {k : Fin 7} (hp : diePresent s k = true) (h : ∀ r : Fin 28, s.rails[r].stationKept = false) :
    exec (.skHardwareTimeout k) s = .next s := by
  have hnone : (allFin 28).filter (fun r => s.rails[r].stationKept && (railDies s r).contains k) = [] :=
    List.filter_eq_nil_iff.mpr fun r _ => by rw [h r]; simp
  show execSkHardwareTimeout k s = _
  rw [execSkHardwareTimeout, hp, hnone]; rfl

/-- The die's own timer takes its kept rails to mid level (R118). -/
theorem execSkHardwareTimeout_spec {s : State} {k : Fin 7} {r : Fin 28} (hp : diePresent s k = true) (hk : s.rails[r].stationKept = true)
    (hd : (railDies s r).contains k = true) : ∃ t, exec (.skHardwareTimeout k) s = .next t ∧ t.sk.hwTimeout = true ∧
      t.sk.down[r] = true ∧ t.rails[r].enabled = false ∧
      t = { s with nv := t.nv, links := t.links, sk := t.sk, rails := t.rails, phases := t.phases, dies := t.dies, log := t.log, evc := t.evc, tw := t.tw } := by
  obtain ⟨l, hl⟩ : ∃ l, l = (allFin 28).filter fun r => s.rails[r].stationKept && (railDies s r).contains k := ⟨_, rfl⟩
  have hmem : r ∈ l := by rw [hl, List.mem_filter, hk, hd]; exact ⟨List.mem_finRange r, rfl⟩
  obtain ⟨s1, hs1⟩ : ∃ s1, s1 = l.foldl skTimedOut s := ⟨_, rfl⟩
  have hexec : exec (.skHardwareTimeout k) s = .next (skEndCheck true (modSk (fun x => { x with hwTimeout := true }) s1)) := by
    show execSkHardwareTimeout k s = _
    have hne : ¬l.isEmpty = true := by rw [List.isEmpty_iff]; exact List.ne_nil_of_mem hmem
    rw [execSkHardwareTimeout, hp, ← hl, hs1]
    exact if_neg hne
  have hdown : s1.sk.down[r] = true := by
    rw [hs1]
    refine foldl_establishes (P := fun a => a.sk.down[r] = true) hmem (fun a => ?_) (fun a q h => ?_) s
    · rw [skTimedOut_sk]; simp
    · rw [skTimedOut_sk]
      by_cases e : r = q
      · subst e; simp
      · exact (vset_getElem ..).trans ((if_neg (val_ne e)).trans h)
  have hoff : s1.rails[r].enabled = false := by
    rw [hs1]
    exact foldl_establishes (P := fun a => a.rails[r].enabled = false) hmem (fun a => (railToMid_spec r _).1)
      (fun a q h => railToMid_keeps_off (s := modSk (fun x => { x with down := vset x.down q true }) a) h q) s
  have hrest : rest [.links, .sk, .rails, .evc, .tw] s1 = rest [.links, .sk, .rails, .evc, .tw] s := by
    rw [hs1]
    refine rest_foldl skTimedOut (fun a q => ?_) l s
    obtain ⟨-, -, hmid⟩ := railToMid_spec q (modSk (fun x => { x with down := vset x.down q true }) a)
    exact (rest_mono (by decide) hmid).trans (modSk_rest (by decide) _ a)
  have hend := skEndCheck_rest (F := [.evc, .tw]) (by decide) (by decide) true (modSk (fun x => { x with hwTimeout := true }) s1)
  refine ⟨_, hexec, ?_, ?_, ?_, rest_patch (F := [.nv, .links, .sk, .rails, .phases, .dies, .log, .evc, .tw]) ?_⟩
  · rw [rest_sk hend (by decide)]; rfl
  · rw [rest_sk hend (by decide)]; exact hdown
  · rw [rest_rails hend (by decide)]; exact hoff
  · rw [rest_mono (by decide) hend, modSk_rest (by decide)]
    exact rest_mono (by decide) hrest

/-- Settles O9: the causes start `resetStart` or add to the mask by `secondCause`, the end is `endReset` after the flush, and a rail that
was not re-adopted goes down alone. -/
theorem fullReset : Obligations.FullReset := by
  unfold Obligations.FullReset
  intro s
  refine ⟨fun h => congrArg Host.Outcome.next (if_pos h), resetPinRecognised_ready, resetPinRecognised_inReset, resetPinRecognised_holdUp,
    fun p row ha hw => ⟨resetCmd_key ha hw, fun v hv => resetCmd_other ha hw hv⟩, fun h => if_pos h, execResetEnd_spec,
    execResetPinRise_waits, execResetPinRise_ends, fun r hp => ?_, fun r hp h => execSkReadoptionDeadline_idle hp h,
    fun r hp hk hd => execSkReadoptionDeadline_spec hp hk hd, fun k hp => ?_, fun k hp h => execSkHardwareTimeout_idle hp h,
    fun k r hp hk hd => execSkHardwareTimeout_spec hp hk hd⟩
  · show execSkReadoptionDeadline r s = _
    rw [execSkReadoptionDeadline, hp]; rfl
  · show execSkHardwareTimeout k s = _
    rw [execSkHardwareTimeout, hp]; rfl

end Sys2Proof.Proofs

namespace Sys2Proof.Proofs

open Sys2Proof.Machine Sys2Proof.Laws

/-! ### O34: hold-up entry (R84, R385, R386, R388, R389) -/

/-- What the supply's failure can tear of the journal (R380, R386). -/
theorem tearJournal_journal (s : State) : (tearJournal s).mram.journal = s.mram.journal ∨
    ((tearJournal s).mram.jnlTornRec = true ∧ s.log.ring ≠ [] ∧ (tearJournal s).mram.journal =
      if s.mram.journal.length < 6144 then s.mram.journal else s.mram.journal.tail) := by
  unfold tearJournal
  split
  · exact .inl rfl
  · next h =>
    refine .inr ⟨rfl, fun he => h ?_, rfl⟩
    rw [he]; rfl

/-- What the outputs of hold-up entry can change (R385). -/
abbrev holdUpFields : List Fld :=
  [.links, .zin, .fo, .zbus, .rails, .items, .groups, .regs, .rsto, .pp, .chg, .wd, .ewd, .evc, .tw, .can]

/-- The pins and functions of the helm die that hold-up entry stops, the rails aside (R385). -/
def helmStopped (s : State) : State := resetPins (resetCharger (resetRegs (resetZin (killFos s))))

theorem helmStopped_rest (s : State) : rest [.zin, .fo, .zbus, .regs, .rsto, .chg, .evc, .tw, .can] (helmStopped s) =
    rest [.zin, .fo, .zbus, .regs, .rsto, .chg, .evc, .tw, .can] s := by
  unfold helmStopped
  rw [resetPins_rest (by decide) (by decide) (by decide) (by decide), resetCharger_rest (by decide), resetRegs_rest (by decide),
    resetZin_rest (by decide), killFos_rest (by decide) (by decide) (by decide)]

/-- Every rail at mid level. -/
def railsToMid (s : State) : State := (allFin 28).foldl (fun a r => railToMid r a) s

theorem railsToMid_rest (s : State) : rest [.links, .rails, .evc, .tw] (railsToMid s) = rest [.links, .rails, .evc, .tw] s :=
  rest_foldl (fun a r => railToMid r a) (fun a r => (railToMid_spec r a).2.2) _ s

theorem railsToMid_off (r : Fin 28) (s : State) : (railsToMid s).rails[r].enabled = false :=
  foldl_establishes (P := fun a => a.rails[r].enabled = false) (List.mem_finRange r) (fun a => (railToMid_spec r a).1)
    (fun _ q h => railToMid_keeps_off h q) s

/-- The records that hold-up entry leaves of the outputs and the supervisors (R385). -/
def holdUpMarks (s : State) : State :=
  { s with
    zin := s.zin.map fun c => { c with
      coldStart := true, coldOn := c.phase.carries || (c.coldStart && c.coldOn),
      coldBlock := decide (c.phase = .block) || (c.coldStart && c.coldBlock),
      coldDone := c.phase.carries || (c.coldStart && c.coldDone), phase := .off }
    pp := chargerStopped s.pp
    zbus := { s.zbus with pfw := true }
    groups := Vector.replicate 8 .init
    items := Vector.replicate 46 .init
    wd := { s.wd with running := false }
    ewd := { s.ewd with running := false } }

theorem holdUpMarks_rest (s : State) : rest [.zin, .zbus, .items, .groups, .pp, .wd, .ewd] (holdUpMarks s) =
    rest [.zin, .zbus, .items, .groups, .pp, .wd, .ewd] s := by
  simp [holdUpMarks, rest]

theorem holdUpOutputs_eq (s : State) : holdUpOutputs s = holdUpMarks (helmStopped (railsToMid s)) := by
  unfold holdUpOutputs holdUpMarks helmStopped railsToMid
  rfl

theorem holdUpOutputs_off (r : Fin 28) (s : State) : (holdUpOutputs s).rails[r].enabled = false := by
  rw [holdUpOutputs_eq, rest_rails (holdUpMarks_rest _) (by decide), rest_rails (helmStopped_rest _) (by decide)]
  exact railsToMid_off r s

theorem holdUpOutputs_rest (s : State) : rest holdUpFields (holdUpOutputs s) = rest holdUpFields s := by
  rw [holdUpOutputs_eq, rest_mono (by decide) (holdUpMarks_rest _), rest_mono (by decide) (helmStopped_rest _),
    rest_mono (by decide) (railsToMid_rest s)]

/-- What is left once the writes are abandoned, an update is stopped and the outputs take their hold-up states (R385). -/
def holdUpStopped (s : State) : State := updStop (holdUpOutputs (dropWrites (learnStop 8 (tearJournal s))))

/-- What the stop of hold-up entry can change. -/
abbrev stoppedFields : List Fld := .nv :: .gauge :: .update :: holdUpFields

/-- What hold-up entry can change. -/
abbrev entryFields : List Fld := .mram :: .clk :: .boot :: .pwr :: .freeCtr :: stoppedFields

theorem holdUpStopped_rest (s : State) : rest stoppedFields (holdUpStopped s) = rest stoppedFields (tearJournal s) := by
  unfold holdUpStopped
  rw [updStop_rest (by decide) (by decide) (by decide) (by decide), rest_mono (by decide) (holdUpOutputs_rest _),
    dropWrites_rest (by decide), learnStop_rest (by decide) (by decide) (by decide) (by decide)]

theorem holdUpStopped_off (r : Fin 28) (s : State) : (holdUpStopped s).rails[r].enabled = false := by
  have hupd := updStop_rest (F := [.evc, .tw, .can, .update]) (by decide) (by decide) (by decide) (by decide)
    (holdUpOutputs (dropWrites (learnStop 8 (tearJournal s))))
  unfold holdUpStopped
  rw [rest_rails hupd (by decide)]
  exact holdUpOutputs_off r _

/-- The records of hold-up entry: whether and where the save writes (R386, R388). -/
def holdUpNoted (save : Bool) (k : Fin 2) (h : Nat) (s : State) : State :=
  { s with
    boot := { s.boot with phase := .holdUp, odAnswering := false, step8 := false, resetNInSave := false }
    pwr := { s.pwr with parkEntry := false }
    clk := { s.clk with huRun := true }
    nv := { s.nv with huSave := save, huSlot := k, hucap := h } }

theorem holdUpNoted_rest (save : Bool) (k : Fin 2) (h : Nat) (s : State) :
    rest [.nv, .clk, .boot, .pwr] (holdUpNoted save k h s) = rest [.nv, .clk, .boot, .pwr] s := by
  simp [holdUpNoted, rest]

/-- The Last Fix goes into its slot, still invalid, where a save is allowed. -/
def fixPut (save : Bool) (k : Fin 2) (fix : LfSlot) (s : State) : State :=
  if save then modFix k (fun _ => fix) (mramFresh (fixOffset k) 0x2000 s) else s

theorem fixPut_rest (save : Bool) (k : Fin 2) (fix : LfSlot) (s : State) : rest [.mram] (fixPut save k fix s) = rest [.mram] s := by
  unfold fixPut
  split
  · rw [modFix_rest (by decide), mramFresh_rest (by decide)]
  · rfl

/-- Of the store only the slot of the Last Fix changes, and the flaws under it. -/
theorem fixPut_mram (save : Bool) (k : Fin 2) (fix : LfSlot) (s : State) :
    (fixPut save k fix s).mram = { s.mram with
      lf := if save = true then vmod s.mram.lf k (fun _ => fix) else s.mram.lf, errs := (fixPut save k fix s).mram.errs } := by
  cases save <;> rfl

/-- The state after hold-up entry. -/
def holdUpEntered (h : Nat) (s : State) : State :=
  useFree (fixPut (saveAllowed s) (fixSlot s) (makeFix h s) (holdUpNoted (saveAllowed s) (fixSlot s) h (holdUpStopped s)))

theorem holdUpEntered_rest (h : Nat) (s : State) : rest [.mram, .freeCtr] (holdUpEntered h s) =
    rest [.mram, .freeCtr] (holdUpNoted (saveAllowed s) (fixSlot s) h (holdUpStopped s)) := by
  unfold holdUpEntered
  rw [useFree_rest (by decide)]
  exact rest_mono (by decide) (fixPut_rest _ _ _ _)

/-- Of the store hold-up entry changes the slot of the Last Fix, and the journal where it is torn. -/
theorem holdUpEntered_mram (h : Nat) (s : State) : (holdUpEntered h s).mram = { (tearJournal s).mram with
    lf := if saveAllowed s = true then vmod s.mram.lf (fixSlot s) (fun _ => makeFix h s) else s.mram.lf
    errs := (holdUpEntered h s).mram.errs } := by
  have hnoted : (holdUpNoted (saveAllowed s) (fixSlot s) h (holdUpStopped s)).mram = (tearJournal s).mram :=
    (rest_mram (holdUpNoted_rest _ _ h _) (by decide)).trans (rest_mram (holdUpStopped_rest s) (by decide))
  have hlf : (tearJournal s).mram.lf = s.mram.lf := by rw [(tearJournal_mram s).2]
  have hput := fixPut_mram (saveAllowed s) (fixSlot s) (makeFix h s) (holdUpNoted (saveAllowed s) (fixSlot s) h (holdUpStopped s))
  rw [hnoted, hlf] at hput
  exact hput

theorem exec_holdUpEntry {s : State} (hs : s.boot.phase ∉ [.porHeld, .holdUp]) (h : Nat) :
    exec (.holdUpEntry h) s = .next (holdUpEntered h s) := by
  have hc : ¬(decide (s.boot.phase = .porHeld) || decide (s.boot.phase = .holdUp)) = true := by
    rw [Bool.or_eq_true, decide_eq_true_eq, decide_eq_true_eq]
    rwa [List.mem_cons, List.mem_singleton] at hs
  show execHoldUpEntry h s = _
  unfold execHoldUpEntry holdUpEntered fixPut holdUpNoted holdUpStopped
  rw [if_neg hc]

theorem exec_holdUpEntry_again {s : State} (hs : s.boot.phase ∈ [.porHeld, .holdUp]) (h : Nat) :
    exec (.holdUpEntry h) s = .next s := by
  have hc : (decide (s.boot.phase = .porHeld) || decide (s.boot.phase = .holdUp)) = true := by
    rw [Bool.or_eq_true, decide_eq_true_eq, decide_eq_true_eq]
    rwa [List.mem_cons, List.mem_singleton] at hs
  show execHoldUpEntry h s = _
  unfold execHoldUpEntry
  rw [if_pos hc]

theorem holdUpEntry_spec {s : State} (hs : s.boot.phase ∉ [.porHeld, .holdUp]) (h : Nat) : ∃ t, exec (.holdUpEntry h) s = .next t ∧
    t.boot.phase = .holdUp ∧
    t.boot.odAnswering = false ∧ t.nv.huSlot = fixSlot s ∧ t.nv.huSave = saveAllowed s ∧ t.nv.hucap = h ∧
    (saveAllowed s = true → t.mram.lf[fixSlot s] = makeFix h s) ∧ (saveAllowed s = false → t.mram.lf = s.mram.lf) ∧
    (∀ k : Fin 2, k ≠ fixSlot s → t.mram.lf[k] = s.mram.lf[k]) ∧ (∀ r : Fin 28, t.rails[r].enabled = false) ∧
    t.mram.cfg = s.mram.cfg ∧ t.mram.hc = s.mram.hc ∧ t.mram.lc = s.mram.lc ∧
    (t.mram.journal = s.mram.journal ∨ (t.mram.jnlTornRec = true ∧ s.log.ring ≠ [] ∧ t.mram.journal =
      if s.mram.journal.length < 6144 then s.mram.journal else s.mram.journal.tail)) ∧
    t.part = s.part ∧ t.settings = s.settings ∧ t.hamper = s.hamper ∧ t.pending = s.pending ∧ t.safeN = s.safeN := by
  have hmram := holdUpEntered_mram h s
  have hrest := holdUpEntered_rest h s
  obtain ⟨t, ht⟩ : ∃ t, t = holdUpEntered h s := ⟨_, rfl⟩
  have hexec := exec_holdUpEntry hs h
  rw [← ht] at hmram hrest hexec
  have hlf : t.mram.lf = if saveAllowed s = true then vmod s.mram.lf (fixSlot s) (fun _ => makeFix h s) else s.mram.lf := by rw [hmram]
  have hboot := rest_boot hrest (by decide)
  have hnv := rest_nv hrest (by decide)
  have hstore := (tearJournal_mram s).2
  have hoff : t.rails = (holdUpStopped s).rails :=
    (rest_rails hrest (by decide)).trans (rest_rails (holdUpNoted_rest _ _ h _) (by decide))
  have hall : rest entryFields t = rest entryFields s := by
    rw [rest_mono (by decide) hrest, rest_mono (by decide) (holdUpNoted_rest _ _ h _), rest_mono (by decide) (holdUpStopped_rest s),
      tearJournal_rest (by decide)]
  refine ⟨t, hexec, ?_, ?_, ?_, ?_, ?_, fun ha => ?_, fun ha => ?_, fun k hk => ?_, fun r => ?_, ?_, ?_, ?_, ?_, ?_, ?_, ?_, ?_, ?_⟩
  · rw [hboot]; rfl
  · rw [hboot]; rfl
  · rw [hnv]; rfl
  · rw [hnv]; rfl
  · rw [hnv]; rfl
  · rw [hlf, if_pos ha, vmod_get]
  · rw [hlf, if_neg (by rw [ha]; decide)]
  · rw [hlf]
    split
    · rw [vmod_get_ne hk]
    · rfl
  · rw [hoff]; exact holdUpStopped_off r s
  · rw [hmram, hstore]
  · rw [hmram, hstore]
  · rw [hmram, hstore]
  · have hjournal : t.mram.journal = (tearJournal s).mram.journal := by rw [hmram]
    have htorn : t.mram.jnlTornRec = (tearJournal s).mram.jnlTornRec := by rw [hmram]
    rw [hjournal, htorn]
    exact tearJournal_journal s
  · exact rest_part hall (by decide)
  · exact rest_settings hall (by decide)
  · exact rest_hamper hall (by decide)
  · exact rest_pending hall (by decide)
  · exact rest_safeN hall (by decide)

end Sys2Proof.Proofs

namespace Sys2Proof.Proofs

open Sys2Proof.Machine Sys2Proof.Laws

/-! ### O34: the power-on reset that ends a save (R76, R84, R386, R387) -/

/-- During hold-up a full record area starts no write-back (R378, R385). -/
theorem areaFull_holdUp {s : State} (h : s.boot.phase = .holdUp) : areaFull s = s := by
  unfold areaFull
  split
  · exact if_neg (by rw [h]; simp)
  · rfl

theorem putCtrRec_mram_holdUp {s : State} (h : s.boot.phase = .holdUp) (r : CtrRec) :
    (putCtrRec r s).mram = { s.mram with slots := (putCtrRec r s).mram.slots } := by
  unfold putCtrRec
  split
  · rfl
  · split
    · rfl
    · rw [areaFull_holdUp (show (modSlot _ _ s).boot.phase = .holdUp from h)]; rfl

/-- A retained counter changes the gauge slots alone. -/
theorem ctrAppend_mram_holdUp {s : State} (h : s.boot.phase = .holdUp) (id : Fin 12) (v : Nat) :
    (ctrAppend id v s).mram = { s.mram with slots := (ctrAppend id v s).mram.slots } :=
  putCtrRec_mram_holdUp (s := modNv _ s) h _

theorem fixCounted_none {s : State} (h : s.nv.huSave = false) : fixCounted s = s := if_neg (by rw [h]; decide)

theorem fixCounted_mram {s : State} (h : s.boot.phase = .holdUp) :
    (fixCounted s).mram = { s.mram with slots := (fixCounted s).mram.slots } := by
  obtain ⟨u, hu⟩ : ∃ u, u = ctrAppend ctrCause 2 s := ⟨_, rfl⟩
  have hphase : u.boot.phase = .holdUp := by
    rw [hu, rest_boot (ctrAppend_rest (F := [.mram, .nv, .freeCtr]) (by decide) (by decide) (by decide) _ _ s) (by decide), h]
  have hcause : u.mram = { s.mram with slots := u.mram.slots } := by rw [hu]; exact ctrAppend_mram_holdUp h _ _
  unfold fixCounted
  split
  · rw [← hu]
    refine (ctrAppend_mram_holdUp hphase _ _).trans ?_
    rw [hcause]
  · rfl

theorem fixCounted_tamperLow (s : State) : (fixCounted s).nv.tamperLow = s.nv.tamperLow := by
  refine congrArg (fun x => x.2.1) (?_ : storeKept (fixCounted s) = storeKept s)
  unfold fixCounted
  split
  · rw [ctrAppend_storeKept, ctrAppend_storeKept]
  · rfl

theorem tearCtr_none {s : State} (h : s.nv.huSave = false) : tearCtr s = s := by
  unfold tearCtr
  rw [h]
  rfl

/-- A counter record that is cut off is torn in its slot (R378). -/
theorem tearCtr_spec (s : State) : (tearCtr s).nv = s.nv ∧ (tearCtr s).mram = { s.mram with slots := (tearCtr s).mram.slots } := by
  unfold tearCtr
  split <;> exact ⟨rfl, rfl⟩

theorem fixWritten_none {s : State} (h : s.nv.huSave = false) : fixWritten s = s := if_neg (by rw [h]; exact Bool.false_ne_true)

theorem fixWritten_stuck {s : State} (h : errIn s (fixOffset s.nv.huSlot) 0x1040 .stuck = true) : fixWritten s = s :=
  if_neg (by rw [h]; simp)

/-- The slot of the save becomes valid (R386). -/
theorem fixWritten_valid {s : State} (hs : s.nv.huSave = true) (h : errIn s (fixOffset s.nv.huSlot) 0x1040 .stuck = false) :
    fixWritten s = modFix s.nv.huSlot (fun x => { x with valid := true, torn := false }) s := if_pos (by rw [hs, h]; rfl)

theorem fixWritten_mram (s : State) : (fixWritten s).nv = s.nv ∧ (fixWritten s).mram = { s.mram with lf := (fixWritten s).mram.lf } := by
  unfold fixWritten
  split <;> exact ⟨rfl, rfl⟩

theorem fixWritten_other {s : State} {k : Fin 2} (hk : k ≠ s.nv.huSlot) : (fixWritten s).mram.lf[k] = s.mram.lf[k] := by
  unfold fixWritten
  split
  · exact vmod_get_ne hk _ _
  · rfl

/-- The slot after the first `n` steps of R386: written from the fourth on. -/
def fixAfter (n : Nat) (s : State) : State := if 4 ≤ n then fixWritten s else s

theorem fixAfter_rest (n : Nat) (s : State) : rest [.mram] (fixAfter n s) = rest [.mram] s := by
  unfold fixAfter
  split
  · exact fixWritten_rest (by decide) s
  · rfl

theorem fixAfter_mram (n : Nat) (s : State) : (fixAfter n s).nv = s.nv ∧
    (fixAfter n s).mram = { s.mram with lf := (fixAfter n s).mram.lf } := by
  unfold fixAfter
  split
  · exact fixWritten_mram s
  · exact ⟨rfl, rfl⟩

theorem fixAfter_none {s : State} (h : s.nv.huSave = false) (n : Nat) : fixAfter n s = s := by
  unfold fixAfter
  rw [fixWritten_none h, ite_self]

/-- The save after `n` of the six steps of R386 (R386, R387). -/
def savedTo (n : Nat) (s : State) : State :=
  if 6 ≤ n then fixCounted (fixAfter n s) else if n = 5 then useFree (tearCtr (fixAfter n s)) else fixAfter n s

/-- What a save can change. -/
abbrev saveFields : List Fld := [.mram, .nv, .freeCtr]

theorem savedTo_rest (n : Nat) (s : State) : rest saveFields (savedTo n s) = rest saveFields s := by
  have hfix : rest saveFields (fixAfter n s) = rest saveFields s := rest_mono (by decide) (fixAfter_rest n s)
  unfold savedTo
  split
  · rw [fixCounted_rest (by decide) (by decide) (by decide), hfix]
  · split
    · rw [useFree_rest (by decide), tearCtr_rest (by decide), hfix]
    · exact hfix

theorem savedTo_tamperLow (n : Nat) (s : State) : (savedTo n s).nv.tamperLow = s.nv.tamperLow := by
  have hfix : (fixAfter n s).nv.tamperLow = s.nv.tamperLow := by rw [(fixAfter_mram n s).1]
  unfold savedTo
  split
  · rw [fixCounted_tamperLow, hfix]
  · split
    · exact (congrArg StoreState.tamperLow (tearCtr_spec _).1).trans hfix
    · exact hfix

/-- After the Last Fix a save changes the gauge slots alone. -/
theorem savedTo_mram {s : State} (h : s.boot.phase = .holdUp) (n : Nat) :
    (savedTo n s).mram = { (fixAfter n s).mram with slots := (savedTo n s).mram.slots } := by
  have hphase : (fixAfter n s).boot.phase = .holdUp := by rw [rest_boot (fixAfter_rest n s) (by decide), h]
  unfold savedTo
  split
  · exact fixCounted_mram hphase
  · split
    · exact (tearCtr_spec _).2
    · rfl

theorem savedTo_lf {s : State} (h : s.boot.phase = .holdUp) (n : Nat) : (savedTo n s).mram.lf = (fixAfter n s).mram.lf := by
  rw [savedTo_mram h n]

/-- What a save that got to step `n` leaves of the store (R386, R387). -/
theorem savedTo_store {s : State} (h : s.boot.phase = .holdUp) (n : Nat) :
    (savedTo n s).mram = { s.mram with lf := (savedTo n s).mram.lf, slots := (savedTo n s).mram.slots } ∧
    (4 ≤ n → s.nv.huSave = true → errIn s (fixOffset s.nv.huSlot) 0x1040 .stuck = false →
      (savedTo n s).mram.lf[s.nv.huSlot] = { s.mram.lf[s.nv.huSlot] with valid := true, torn := false }) ∧
    ∀ k : Fin 2, k ≠ s.nv.huSlot → (savedTo n s).mram.lf[k] = s.mram.lf[k] := by
  refine ⟨?_, fun hn hs he => ?_, fun k hk => ?_⟩
  · refine (savedTo_mram h n).trans ?_
    rw [(fixAfter_mram n s).2, savedTo_lf h n]
  · rw [savedTo_lf h n, fixAfter, if_pos hn, fixWritten_valid hs he]
    exact vmod_get _ _ _
  · rw [savedTo_lf h n]
    unfold fixAfter
    split
    · exact fixWritten_other hk
    · rfl

/-- A slot that takes no write, or that no save writes, stays (R369, R388). -/
theorem savedTo_lf_unwritten {s : State} (h : s.boot.phase = .holdUp)
    (hn : s.nv.huSave = false ∨ errIn s (fixOffset s.nv.huSlot) 0x1040 .stuck = true) (n : Nat) :
    (savedTo n s).mram.lf = s.mram.lf := by
  have hfix : fixWritten s = s := hn.elim fixWritten_none fixWritten_stuck
  rw [savedTo_lf h n, fixAfter, hfix, ite_self]

/-- With no save the store stays. -/
theorem savedTo_none {s : State} (h : s.nv.huSave = false) (n : Nat) : (savedTo n s).mram = s.mram := by
  unfold savedTo
  rw [fixAfter_none h n, fixCounted_none h, tearCtr_none h]
  split
  · rfl
  · split <;> rfl

theorem savedTo_early {n : Nat} (hn : n < 4) (s : State) : savedTo n s = s := by
  unfold savedTo fixAfter
  rw [if_neg (by omega), if_neg (by omega), if_neg (by omega)]

/-- The power-on reset that ends a save, with what is left of a `RESET_N` in it (R84). -/
def savePowerOff (pin : Bool) (s : State) : State :=
  { powerOnReset s with boot := { (powerOnReset s).boot with resetNInSave := pin } }

/-- What stands at the pins through the power-on reset, with the cold start of the zone channels (R76, R111). -/
structure PinsStand (s t : State) : Prop where
  zin : ∀ c : Fin 4, t.zin[c] = { State.reset.zin[c] with
    inWindow := s.zin[c].inWindow
    coldOn := if s.zin[c].coldStart = true then s.zin[c].coldOn else State.reset.zin[c].coldOn
    coldBlock := if s.zin[c].coldStart = true then s.zin[c].coldBlock else State.reset.zin[c].coldBlock
    coldDone := if s.zin[c].coldStart = true then s.zin[c].coldDone else State.reset.zin[c].coldDone
    fault := if s.zin[c].coldStart = true then s.zin[c].fault else State.reset.zin[c].fault }
  fo : ∀ c : Fin 8, t.fo[c] = { State.reset.fo[c] with present := s.fo[c].present }
  rails : ∀ r : Fin 28, t.rails[r] = { State.reset.rails[r] with enPin := s.rails[r].enPin }
  dies : ∀ k : Fin 7, t.dies[k] = { State.reset.dies[k] with vdrOk := s.dies[k].vdrOk, stf := s.dies[k].stf }

theorem powerOnReset_pins (s : State) : PinsStand s (powerOnReset s) where
  zin c := by
    cases hc : s.zin[c].coldStart <;> simp_all [powerOnReset]
  fo c := by simp [powerOnReset]
  rails r := by simp [powerOnReset]
  dies k := by simp [powerOnReset]

/-- After a save the machine is as at reset but for what `powerOnReset` keeps (R76, R386). -/
theorem savePowerOff_savedTo (pin : Bool) (n : Nat) (s : State) : ∃ t, t = savePowerOff pin (savedTo n s) ∧
    t.mram = (savedTo n s).mram ∧ PinsStand s t ∧
    t = { State.reset with
      part := s.part, pending := s.pending, freeCtr := t.freeCtr, mram := t.mram
      zin := t.zin, fo := t.fo, rails := t.rails, dies := t.dies
      zbus := { State.reset.zbus with inWindow := s.zbus.inWindow, v := s.zbus.v }
      pp := { State.reset.pp with svcQual := s.pp.svcQual, svcRev := s.pp.svcRev, present := s.pp.present }
      nv := { State.reset.nv with tamperLow := s.nv.tamperLow }
      boot := { State.reset.boot with resetNLow := s.boot.resetNLow, resetNInSave := pin } } := by
  have hrest := savedTo_rest n s
  have htamper := savedTo_tamperLow n s
  obtain ⟨u, hu⟩ : ∃ u, u = savedTo n s := ⟨_, rfl⟩
  rw [← hu] at hrest htamper ⊢
  obtain ⟨hzin, hfo, hrails, hdies⟩ := powerOnReset_pins u
  rw [rest_zin hrest (by decide)] at hzin
  rw [rest_fo hrest (by decide)] at hfo
  rw [rest_rails hrest (by decide)] at hrails
  rw [rest_dies hrest (by decide)] at hdies
  refine ⟨_, rfl, rfl, ⟨hzin, hfo, hrails, hdies⟩, ?_⟩
  rw [← rest_part hrest (by decide), ← rest_pending hrest (by decide), ← rest_zbus hrest (by decide), ← rest_pp hrest (by decide),
    ← rest_boot hrest (by decide), ← htamper]
  rfl

theorem exec_holdUpSaveEnd {s : State} (h : s.boot.phase = .holdUp) (b : Bool) :
    exec (.holdUpSaveEnd b) s = .next (savePowerOff (s.boot.resetNInSave && b) (savedTo 6 s)) := if_neg (not_not.mpr h)

theorem exec_hucapPowerOnReset {s : State} (h : s.boot.phase = .holdUp) (n : Fin 7) :
    exec (.hucapPowerOnReset n) s = .next (savePowerOff State.reset.boot.resetNInSave (savedTo n.val s)) := by
  show execHucapPowerOnReset n s = _
  unfold execHucapPowerOnReset
  rw [if_neg (not_not.mpr h)]
  rfl

end Sys2Proof.Proofs

namespace Sys2Proof.Proofs

open Sys2Proof.Machine Sys2Proof.Laws

/-! ### O34: tamper (R391, R396, R397, R543) -/

/-- A retained counter's record goes to the write-back or waits for it; the rest of the store's interface stays (R378). -/
theorem putCtrRec_nv (r : CtrRec) (s : State) :
    ∃ w q l c, (putCtrRec r s).nv = { s.nv with wb := w, wbReq := q, wbLearn := l, ctrHeld := c } := by
  unfold putCtrRec
  split
  · exact ⟨_, _, _, _, rfl⟩
  · split
    · exact ⟨_, _, _, _, rfl⟩
    · unfold areaFull
      split
      · split
        · exact ⟨_, _, _, _, rfl⟩
        · exact ⟨_, _, _, _, rfl⟩
      · exact ⟨_, _, _, _, rfl⟩

/-- A fault's entry can count a lost journal record only. -/
theorem logFault_nv (code : FaultCode) (die src detail : Nat) (s : State) :
    ∃ n, (logFault code die src detail s).nv = { s.nv with jnlLost := n } := by
  have hring : ∀ (f : HeldFault) (u : State), ∃ n, (logRing f u).nv = { u.nv with jnlLost := n } := by
    intro f u
    unfold logRing
    split <;> exact ⟨_, rfl⟩
  unfold logFault
  split
  · obtain ⟨n, hn⟩ := hring ⟨code, die, src, detail⟩ { s with log := logLatch ⟨code, die, src, detail⟩ s.log }
    refine ⟨n, Eq.trans ?_ hn⟩
    unfold logEntry
    dsimp only
    split
    · exact rest_nv (eventEdge_rest (F := [.evc, .tw]) (by decide) (by decide) _ _) (by decide)
    · rfl
  · exact ⟨_, rfl⟩

/-- Bytes below `lo` read 0 once no entry below it is listed; the others read as before. -/
theorem get_filter_from (lo : Nat) (m : List Host.Cell) :
    (∀ a, a < lo → Memory.get (m.filter fun c => decide (lo ≤ c.1)) a = 0) ∧
    ∀ a, lo ≤ a → Memory.get (m.filter fun c => decide (lo ≤ c.1)) a = Memory.get m a := by
  induction m with
  | nil => exact ⟨fun _ _ => rfl, fun _ _ => rfl⟩
  | cons c l ih =>
    obtain ⟨k, b⟩ := c
    obtain ⟨hbelow, hfrom⟩ := ih
    by_cases hk : lo ≤ k
    · rw [List.filter_cons_of_pos (by rw [decide_eq_true_eq]; exact hk)]
      refine ⟨fun a ha => ?_, fun a ha => ?_⟩
      · rw [Memory.get, if_neg (by omega), if_pos (by omega)]
      · rw [Memory.get, Memory.get, hfrom a ha]
    · rw [List.filter_cons_of_neg (by rw [decide_eq_true_eq]; exact hk)]
      refine ⟨hbelow, fun a ha => ?_⟩
      rw [hfrom a ha]
      conv => rhs; rw [Memory.get, if_neg (by omega), if_neg (by omega)]

/-- What the store's interface holds of the secure partition and the tamper pin, with the retained counters. -/
def tamperMarks (v : StoreState) : Bool × Bool × Bool × Bool × Vector Nat 12 :=
  (v.tamperLow, v.keyLoaded, v.wiped, v.wipeTamper, v.ctr)

theorem ctrAppend_tamperMarks (id : Fin 12) (v : Nat) (s : State) : tamperMarks (ctrAppend id v s).nv =
    (s.nv.tamperLow, s.nv.keyLoaded, s.nv.wiped, s.nv.wipeTamper, vset s.nv.ctr id v) := by
  unfold ctrAppend
  obtain ⟨w, q, l, c, hnv⟩ := putCtrRec_nv ⟨false, id.val + 1, v, s.nv.ctrSeq⟩
    (modNv (fun x => { x with ctr := vset x.ctr id v, ctrSeq := seqNext x.ctrSeq }) s)
  rw [hnv]
  rfl

/-- The wipe of a tamper event, noted and counted (R396, R397, R543). -/
def tamperWiped (s : State) : State :=
  ctrAppend ctrTamper (satAdd max16 s.nv.ctr[ctrTamper] 1) (updStop (secureWipe true (modNv (fun v => { v with tamperLow := true }) s)))

theorem tamperWiped_marks (s : State) : tamperMarks (tamperWiped s).nv =
    (true, false, true, true, vset s.nv.ctr ctrTamper (satAdd max16 s.nv.ctr[ctrTamper] 1)) := by
  have hstop : ∀ u, (updStop u).nv = u.nv := fun u =>
    rest_nv (updStop_rest (F := [.evc, .tw, .can, .update]) (by decide) (by decide) (by decide) (by decide) u) (by decide)
  unfold tamperWiped
  rw [ctrAppend_tamperMarks, hstop]
  simp [secureWipe]

theorem tamperWiped_hamper (s : State) : (tamperWiped s).hamper.mem = s.hamper.mem.filter fun c => decide (0x4000 ≤ c.1) := by
  unfold tamperWiped
  rw [rest_hamper (ctrAppend_rest (F := [.mram, .nv, .freeCtr]) (by decide) (by decide) (by decide) _ _ _) (by decide),
    rest_hamper (updStop_rest (F := [.evc, .tw, .can, .update]) (by decide) (by decide) (by decide) (by decide) _) (by decide)]
  rfl

/-- What the report of a tamper event can change (R93, R452). -/
abbrev tamperFields : List Fld := [.mram, .nv, .hamper, .pwr, .groups, .rsto, .log, .evc, .tw, .update, .can, .freeCtr]

/-- The entry, the event and the wake that report it. -/
def tamperReported (n : Nat) (s : State) : State := wakeOn 13 (eventEdge 29 (logFault .tamper 0 0 n s))

theorem tamperReported_keeps (n : Nat) (s : State) : tamperMarks (tamperReported n s).nv = tamperMarks s.nv ∧
    (tamperReported n s).hamper = s.hamper := by
  have hwake : rest [.pwr, .groups, .rsto, .evc, .tw] (tamperReported n s) =
      rest [.pwr, .groups, .rsto, .evc, .tw] (logFault .tamper 0 0 n s) := by
    unfold tamperReported
    rw [wakeOn_rest (by decide) (by decide) (by decide) (by decide) (by decide), eventEdge_rest (by decide) (by decide)]
  have hlog := logFault_rest (F := [.nv, .log, .evc, .tw]) (by decide) (by decide) (by decide) (by decide) .tamper 0 0 n s
  obtain ⟨l, hl⟩ := logFault_nv .tamper 0 0 n s
  refine ⟨?_, (rest_hamper hwake (by decide)).trans (rest_hamper hlog (by decide))⟩
  rw [rest_nv hwake (by decide), hl]
  rfl

theorem execTamper_held {s : State} (h : s.nv.tamperLow = true) : exec .tamper s = .next s := if_pos h

theorem execTamper_porHeld {s : State} (hl : s.nv.tamperLow = false) (h : s.boot.phase = .porHeld) :
    exec .tamper s = .next { s with nv := { s.nv with tamperLow := true } } := by
  show execTamper s = _
  unfold execTamper
  rw [if_neg (by rw [hl]; exact Bool.false_ne_true)]
  exact if_pos h

/-- A tamper event outside power-on reset is the wipe, and in a device that is not in hold-up its report. -/
theorem execTamper_form {s : State} (hl : s.nv.tamperLow = false) (hp : s.boot.phase ≠ .porHeld) : ∃ t, exec .tamper s = .next t ∧
    tamperMarks t.nv = tamperMarks (tamperWiped s).nv ∧ t.hamper = (tamperWiped s).hamper := by
  obtain ⟨n, hn⟩ : ∃ n, n = satAdd max16 s.nv.ctr[ctrTamper] 1 := ⟨_, rfl⟩
  have hexec : exec .tamper s = if s.boot.phase = .holdUp then .next (tamperWiped s) else .next (tamperReported n (tamperWiped s)) := by
    show execTamper s = _
    unfold execTamper tamperWiped
    rw [if_neg (by rw [hl]; exact Bool.false_ne_true), ← hn]
    exact if_neg hp
  by_cases hh : s.boot.phase = .holdUp
  · rw [if_pos hh] at hexec
    exact ⟨_, hexec, rfl, rfl⟩
  · rw [if_neg hh] at hexec
    exact ⟨_, hexec, tamperReported_keeps n _⟩

theorem execTamper_spec {s : State} (hl : s.nv.tamperLow = false) (hp : s.boot.phase ≠ .porHeld) : ∃ t, exec .tamper s = .next t ∧
    t.nv.tamperLow = true ∧ t.nv.keyLoaded = false ∧ t.nv.wiped = true ∧ t.nv.wipeTamper = true ∧
    t.nv.ctr[ctrTamper] = satAdd max16 s.nv.ctr[ctrTamper] 1 ∧
    (Memory.wf s.hamper.mem = true → (∀ a, a < 0x4000 → Memory.get t.hamper.mem a = 0) ∧
      ∀ a, 0x4000 ≤ a → Memory.get t.hamper.mem a = Memory.get s.hamper.mem a) ∧
    t = { s with mram := t.mram, nv := t.nv, hamper := t.hamper, pwr := t.pwr, groups := t.groups, rsto := t.rsto, log := t.log, evc := t.evc, tw := t.tw, update := t.update, can := t.can, freeCtr := t.freeCtr } := by
  obtain ⟨t, hexec, hmarks, hhamper⟩ := execTamper_form hl hp
  rw [tamperWiped_marks, tamperMarks] at hmarks
  simp only [Prod.mk.injEq] at hmarks
  obtain ⟨hlow, hkey, hwiped, hby, hctr⟩ := hmarks
  have hleaves : Leaves tamperFields (exec .tamper s) s :=
    execTamper_rest (by decide) (by decide) (by decide) (by decide) (by decide) (by decide) (by decide) (by decide) (by decide)
      (by decide) (by decide) (by decide) s
  rw [hexec] at hleaves
  refine ⟨t, hexec, hlow, hkey, hwiped, hby, ?_, fun _ => ?_, rest_patch (F := tamperFields) hleaves⟩
  · rw [hctr]; simp
  · rw [hhamper, tamperWiped_hamper]
    exact get_filter_from 0x4000 s.hamper.mem

/-- Settles O34. Entry is `holdUpEntered`; the save's end and its cut are the power-on reset of the save after so many steps
(`savedTo`); a tamper event is `tamperWiped` and its report. -/
theorem holdUpAndTamper : Obligations.HoldUpAndTamper := by
  unfold Obligations.HoldUpAndTamper
  intro s
  refine ⟨fun h hs => exec_holdUpEntry_again hs h, fun h hs => holdUpEntry_spec hs h, fun b h => if_pos h, fun k h => if_pos h,
    fun b h => ?_, fun n h => ?_, execTamper_held, execTamper_porHeld, execTamper_spec, rfl⟩
  · obtain ⟨t, ht, hmram, hpins, hform⟩ := savePowerOff_savedTo (s.boot.resetNInSave && b) 6 s
    obtain ⟨hstore, hvalid, hother⟩ := savedTo_store h 6
    refine ⟨t, ht ▸ exec_holdUpSaveEnd h b, hform, hpins.zin, hpins.fo, hpins.rails, hpins.dies, ?_⟩
    rw [hmram]
    exact ⟨hstore, hvalid (by decide), fun hn => savedTo_lf_unwritten h hn 6, fun hn => savedTo_none hn 6, hother⟩
  · obtain ⟨t, ht, hmram, hpins, hform⟩ := savePowerOff_savedTo State.reset.boot.resetNInSave n.val s
    obtain ⟨hstore, hvalid, hother⟩ := savedTo_store h n.val
    refine ⟨t, ht ▸ exec_hucapPowerOnReset h n, hform, hpins.zin, hpins.fo, hpins.rails, hpins.dies, ?_⟩
    rw [hmram]
    exact ⟨hstore, hvalid, fun hn => by rw [savedTo_early hn], fun hn => savedTo_none hn n.val, hother⟩

end Sys2Proof.Proofs

namespace Sys2Proof.Proofs

open Sys2Proof.Machine Sys2Proof.Laws

/-! ### Accesses that are not answered or not permitted (R98, R515, R516) -/

theorem directWrite_silent {s : State} (h : answering s = false) (p : Port) (key : Nat) (f : State → State × Ack) :
    directWrite p key s f = { s with ack := .none } := by
  rw [directWrite, h]; rfl

theorem directWrite_refused {s : State} {p : Port} {i u : Nat} {x : AbortCode} (hu : u < 256) (h : answering s = true)
    (hw : checkWrite s p i u = .error x) (f : State → State × Ack) : directWrite p (okey i u) s f = { s with ack := .abort x } := by
  rw [directWrite, okey_div i hu, okey_mod i hu, hw, h]; rfl

theorem directRead_silent {s : State} (h : answering s = false) (p : Port) (key : Nat) (f : State → State × Nat) :
    directRead p key s f = { s with ack := .none } := by
  rw [directRead, h]; rfl

theorem directRead_refused {s : State} {p : Port} {i u : Nat} {x : AbortCode} (hu : u < 256) (h : answering s = true)
    (hr : checkRead s p i u = .error x) (f : State → State × Nat) : directRead p (okey i u) s f = { s with ack := .abort x } := by
  rw [directRead, okey_div i hu, okey_mod i hu, hr, h]; rfl

/-- The command `c` is a write that port `p` makes of the object `idx`, `sub`: one given straight to the object's owner, or one
with its bytes through the dictionary. -/
inductive WritesObject (p : Port) (c : Instr) (idx sub : Nat) : Prop
  | direct {f : State → State × Ack} (hsub : sub < 256) (h : ∀ s, exec c s = .next (directWrite p (okey idx sub) s f))
  | bytes {l : List Byte} (h : ∀ s, exec c s = .next (portWrite p idx sub l s))

theorem WritesObject.silent {p : Port} {c : Instr} {idx sub : Nat} (hc : WritesObject p c idx sub) {s : State}
    (h : answering s = false) : exec c s = .next { s with ack := .none } := by
  obtain ⟨_, he⟩ | he := hc
  · rw [he, directWrite_silent h]
  · rw [he, portWrite_silent h]

theorem WritesObject.refused {p : Port} {c : Instr} {idx sub : Nat} (hc : WritesObject p c idx sub) {s : State} {x : AbortCode}
    (h : answering s = true) (hw : checkWrite s p idx sub = .error x) : exec c s = .next { s with ack := .abort x } := by
  obtain ⟨hsub, he⟩ | he := hc
  · rw [he, directWrite_refused hsub h hw]
  · rw [he, portWrite_refused h hw]

/-- Settles O55: each listed command is a write of its object, and such a write acts only where the checks pass. -/
theorem refusedAccessesChangeNothing : Obligations.RefusedAccessesChangeNothing := by
  unfold Obligations.RefusedAccessesChangeNothing
  intro s p n m r q e v i u bs c idx sub hmem
  have hc : WritesObject p c idx sub := by
    simp only [List.mem_cons, Prod.mk.injEq, List.not_mem_nil, or_false] at hmem
    iterate 31
      obtain ⟨rfl, rfl, rfl⟩ | hmem := hmem
      · exact .direct (by omega) fun _ => rfl
    obtain ⟨rfl, rfl, rfl⟩ | hmem := hmem
    · exact .bytes (l := [0]) fun _ => rfl
    iterate 13
      obtain ⟨rfl, rfl, rfl⟩ | hmem := hmem
      · exact .direct (by omega) fun _ => rfl
    obtain ⟨rfl, rfl, rfl⟩ := hmem
    exact .bytes fun _ => rfl
  have hread : exec (.chgFaultRead p) s = .next (directRead p (okey 0x2701 0x11) s readChgFault) := rfl
  refine ⟨fun h => ⟨hc.silent h, ?_⟩, fun x h hw => hc.refused h hw, fun x h hr => ?_⟩
  · rw [hread, directRead_silent h]
  · rw [hread, directRead_refused (by decide) h hr]

end Sys2Proof.Proofs

namespace Sys2Proof.Proofs

open Sys2Proof.Machine Sys2Proof.Laws

/-! ### Zone input and zone bus windows (R125, R133, R137, R148) -/

/-! An input enters and leaves its window. -/

/-- What a wake leaves of a moved zone channel. -/
theorem wakeOn_zin (b : Nat) (s : State) : (wakeOn b s).zin = s.zin := rest_zin (wakeOn_rest_wake b s) (by decide)

theorem powerPathChannels_zin (s : State) : (powerPathChannels s).zin = s.zin := rest_zin (powerPathChannels_rest_disable s) (by decide)

/-- A zone channel whose input entered its window (R133): with its timers stopped it is marked alone (R111, R148). -/
def zinEntered (c : ZinChan) : ZinChan :=
  if c.timersStopped then { c with inWindow := true } else settledZin { c with inWindow := true }

/-- A zone channel whose input left its window (R133). -/
def zinLeft (c : ZinChan) : ZinChan :=
  if c.timersStopped = false ∧ c.phase ∈ [.qualify, .retryWait, .inrush, .on, .block, .limit] then
    toZin .waitIn { c with inWindow := false, insRunning := false, qualified := false }
  else { c with inWindow := false, insRunning := false, qualified := false }

theorem settledZin_keeps (c : ZinChan) : (settledZin c).inWindow = c.inWindow ∧ (settledZin c).retryCnt = c.retryCnt ∧
    (settledZin c).retryTimer = c.retryTimer ∧ (settledZin c).fault = c.fault := by
  unfold settledZin
  split
  · obtain ⟨hwin, -, -, htimer, hcnt, hfault, -⟩ := toZin_keeps .qualify { c with insRunning := true, qualified := false }
    exact ⟨hwin, hcnt, htimer, hfault⟩
  · exact ⟨rfl, rfl, rfl, rfl⟩

theorem settledZin_waits {c : ZinChan} (hp : c.phase = .waitIn) (hw : c.inWindow = true) : (settledZin c).phase = .qualify ∧
    (settledZin c).insRunning = true ∧ (settledZin c).qualified = false := by
  rw [settledZin, if_pos ⟨hp, hw⟩]
  obtain ⟨-, hins, hqual, -⟩ := toZin_keeps .qualify { c with insRunning := true, qualified := false }
  exact ⟨toZin_phase _ _, hins, hqual⟩

theorem settledZin_other {c : ZinChan} (hp : c.phase ≠ .waitIn) : settledZin c = c := if_neg fun h => hp h.1

/-- The channel as ZIN_WINDOW_ENTER leaves it, before the wake. -/
def windowEnterOp (n : Fin 4) (s : State) : State :=
  if s.zin[n].timersStopped then modZin n (fun c => { c with inWindow := true }) s
  else zinSettle n (modZin n (fun c => { c with inWindow := true }) s)

theorem execZinWindowEnter_eq (n : Fin 4) (s : State) : exec (.zinWindowEnter n) s = .next (wakeOn 11 (windowEnterOp n s)) := by
  show execZinWindowEnter n s = _
  rw [execZinWindowEnter, windowEnterOp]
  cases s.zin[n].timersStopped <;> rfl

theorem windowEnterOp_moved (n : Fin 4) (s : State) : ZinMoved n (zinEntered s.zin[n]) s (windowEnterOp n s) := by
  have hmod := modZin_moved n (fun c => { c with inWindow := true }) s
  unfold windowEnterOp zinEntered
  split
  · exact hmod
  · have hset := zinSettle_moved n (modZin n (fun c => { c with inWindow := true }) s)
    rw [hmod.chan] at hset
    exact hmod.trans hset

theorem zinEntered_keeps (c : ZinChan) : (zinEntered c).inWindow = true ∧ (zinEntered c).retryCnt = c.retryCnt ∧
    (zinEntered c).retryTimer = c.retryTimer ∧ (zinEntered c).fault = c.fault := by
  unfold zinEntered
  split
  · exact ⟨rfl, rfl, rfl, rfl⟩
  · exact settledZin_keeps { c with inWindow := true }

theorem zinEntered_waits {c : ZinChan} (ht : c.timersStopped = false) (hp : c.phase = .waitIn) : (zinEntered c).phase = .qualify ∧
    (zinEntered c).insRunning = true ∧ (zinEntered c).qualified = false := by
  rw [zinEntered, if_neg (by rw [ht]; decide)]
  exact settledZin_waits hp rfl

theorem zinEntered_other {c : ZinChan} (hp : c.phase ≠ .waitIn) : (zinEntered c).phase = c.phase := by
  unfold zinEntered
  split
  · rfl
  · rw [settledZin_other (c := { c with inWindow := true }) hp]

theorem execZinWindowEnter_spec (n : Fin 4) (s : State) : ∃ t, exec (.zinWindowEnter n) s = .next t ∧ t.zin[n] = zinEntered s.zin[n] ∧
    (∀ j : Fin 4, j ≠ n → t.zin[j] = s.zin[j]) ∧
    t = { s with pwr := t.pwr, zin := t.zin, groups := t.groups, rsto := t.rsto, evc := t.evc, tw := t.tw } := by
  obtain ⟨hchan, hothers, hframe⟩ := windowEnterOp_moved n s
  rw [← wakeOn_zin 11] at hchan hothers
  exact ⟨_, execZinWindowEnter_eq n s, hchan, hothers, rest_patch (F := [.pwr, .zin, .groups, .rsto, .evc, .tw])
    ((rest_mono (by decide) (wakeOn_rest_wake 11 _)).trans (rest_mono (by decide) hframe))⟩

/-- The channel as ZIN_WINDOW_EXIT leaves it, before the source type is judged again. -/
def windowExitOp (n : Fin 4) (s : State) : State :=
  if s.zin[n].timersStopped = false ∧ s.zin[n].phase ∈ [.qualify, .retryWait, .inrush, .on, .block, .limit] then
    zinTo n .waitIn (modZin n (fun c => { c with inWindow := false, insRunning := false, qualified := false }) s)
  else modZin n (fun c => { c with inWindow := false, insRunning := false, qualified := false }) s

theorem execZinWindowExit_eq (n : Fin 4) (s : State) :
    exec (.zinWindowExit n) s = .next (wakeOn 11 (powerPathChannels (windowExitOp n s))) := by
  show execZinWindowExit n s = _
  rw [execZinWindowExit, windowExitOp]
  cases s.zin[n].timersStopped
  · cases s.zin[n].phase <;> rfl
  · rfl

theorem windowExitOp_moved (n : Fin 4) (s : State) : ZinMoved n (zinLeft s.zin[n]) s (windowExitOp n s) := by
  have hmod := modZin_moved n (fun c => { c with inWindow := false, insRunning := false, qualified := false }) s
  unfold windowExitOp zinLeft
  split
  · have hto := zinTo_moved n .waitIn (modZin n (fun c => { c with inWindow := false, insRunning := false, qualified := false }) s)
    rw [hmod.chan] at hto
    exact hmod.trans hto
  · exact hmod

theorem zinLeft_keeps (c : ZinChan) : (zinLeft c).inWindow = false ∧ (zinLeft c).insRunning = false ∧ (zinLeft c).qualified = false ∧
    (zinLeft c).retryCnt = c.retryCnt ∧ (zinLeft c).retryTimer = c.retryTimer ∧ (zinLeft c).fault = c.fault := by
  unfold zinLeft
  split
  · obtain ⟨hwin, hins, hqual, htimer, hcnt, hfault, -⟩ :=
      toZin_keeps .waitIn { c with inWindow := false, insRunning := false, qualified := false }
    exact ⟨hwin, hins, hqual, hcnt, htimer, hfault⟩
  · exact ⟨rfl, rfl, rfl, rfl, rfl, rfl⟩

theorem zinLeft_leaves {c : ZinChan} (ht : c.timersStopped = false)
    (hp : c.phase ∈ [.qualify, .retryWait, .inrush, .on, .block, .limit]) : (zinLeft c).phase = .waitIn := by
  rw [zinLeft, if_pos ⟨ht, hp⟩, toZin_phase]

theorem zinLeft_stays {c : ZinChan} (hp : c.phase ∈ [.off, .waitIn, .locked, .disabling]) : (zinLeft c).phase = c.phase := by
  rw [zinLeft, if_neg]
  rintro ⟨-, h⟩
  revert hp h
  cases c.phase <;> decide

theorem execZinWindowExit_spec (n : Fin 4) (s : State) : ∃ t, exec (.zinWindowExit n) s = .next t ∧ t.zin[n] = zinLeft s.zin[n] ∧
    (∀ j : Fin 4, j ≠ n → t.zin[j] = s.zin[j]) ∧
    t = { s with nv := t.nv, pwr := t.pwr, zin := t.zin, groups := t.groups, rsto := t.rsto, pp := t.pp, log := t.log, evc := t.evc, tw := t.tw } := by
  obtain ⟨hchan, hothers, hframe⟩ := windowExitOp_moved n s
  rw [← powerPathChannels_zin, ← wakeOn_zin 11] at hchan hothers
  exact ⟨_, execZinWindowExit_eq n s, hchan, hothers, rest_patch (F := [.nv, .pwr, .zin, .groups, .rsto, .pp, .log, .evc, .tw])
    ((rest_mono (by decide) (wakeOn_rest_wake 11 _)).trans
      ((rest_mono (by decide) (powerPathChannels_rest_disable _)).trans (rest_mono (by decide) hframe)))⟩

/-! The bus enters and leaves its window. -/

/-- Moves of the outputs one by one: each listed output is moved as it stood, and the others stay. -/
theorem foldl_foMoved {f : State → Fin 8 → State} {g : FoChan → FoChan} {s0 : State}
    (hf : ∀ a n, rest [.fo, .evc, .tw] a = rest [.fo, .evc, .tw] s0 → FoMoved n (g a.fo[n]) a (f a n)) {l : List (Fin 8)} (hl : l.Nodup)
    {s : State} (hs : rest [.fo, .evc, .tw] s = rest [.fo, .evc, .tw] s0) : (∀ m : Fin 8, m ∉ l → (l.foldl f s).fo[m] = s.fo[m]) ∧
      (∀ m ∈ l, (l.foldl f s).fo[m] = g s.fo[m]) ∧ rest [.fo, .evc, .tw] (l.foldl f s) = rest [.fo, .evc, .tw] s0 := by
  induction l generalizing s with
  | nil => exact ⟨fun _ _ => rfl, fun _ h => absurd h List.not_mem_nil, hs⟩
  | cons n l ih =>
    obtain ⟨hn, hl⟩ := List.nodup_cons.mp hl
    obtain ⟨hchan, hothers, hframe⟩ := hf s n hs
    obtain ⟨kout, kin, kframe⟩ := ih hl (hframe.trans hs)
    refine ⟨fun m hm => ?_, fun m hm => ?_, kframe⟩
    · obtain ⟨hmn, hml⟩ := List.ne_and_not_mem_of_not_mem_cons hm
      exact (kout m hml).trans (hothers m hmn)
    · by_cases hmn : m = n
      · subst hmn
        exact (kout m hn).trans hchan
      · exact (kin m ((List.mem_cons.mp hm).resolve_left hmn)).trans (congrArg g (hothers m hmn))

/-- A fused output as the bus enters its window (R125, R137). -/
def foBusEntered (powered : Bool) (c : FoChan) : FoChan :=
  if c.phase = .waitBus && powered then qualifiedFo powered (toFo .qualify (condFo true c)) else condFo true c

/-- A fused output as the bus leaves its window (R137). -/
def foBusLeft (powered : Bool) (c : FoChan) : FoChan :=
  if powered = true ∧ c.phase ∈ [.qualify, .retryWait, .turnOn, .on, .limit] then toFo .waitBus (condFo false c) else condFo false c

/-- The bus stands inside its window, or not. -/
def busSet (inside : Bool) (s : State) : State := { s with zbus := { s.zbus with inWindow := inside } }

/-- What ZBUS_WINDOW_ENTER does to output `n`. -/
def busEnterFo (powered : Bool) (a : State) (n : Fin 8) : State :=
  if (foQualCond n a).fo[n].phase = .waitBus && powered then foQualified n (foTo n .qualify (foQualCond n a)) else foQualCond n a

/-- What ZBUS_WINDOW_EXIT does to output `n`. -/
def busExitFo (powered : Bool) (a : State) (n : Fin 8) : State :=
  if powered = true ∧ (foQualCond n a).fo[n].phase ∈ [.qualify, .retryWait, .turnOn, .on, .limit] then foTo n .waitBus (foQualCond n a)
  else foQualCond n a

theorem execZbusWindowEnter_eq (s : State) : exec .zbusWindowEnter s =
    .next ((allFin 8).foldl (busEnterFo (poweredOutputs s)) (busSet true s)) := rfl

theorem execZbusWindowExit_eq (s : State) : exec .zbusWindowExit s =
    .next ((allFin 8).foldl (busExitFo (poweredOutputs s)) (busSet false s)) := by
  show execZbusWindowExit s = _
  refine congrArg (fun f => Host.Outcome.next ((allFin 8).foldl f (busSet false s))) (funext fun a => funext fun n => ?_)
  unfold busExitFo
  cases poweredOutputs s
  · rfl
  · dsimp only
    cases (foQualCond n a).fo[n].phase <;> rfl

theorem foQualCond_on {n : Fin 8} {a s : State} {b : Bool} (h : rest [.fo, .evc, .tw] a = rest [.fo, .evc, .tw] (busSet b s)) :
    FoMoved n (condFo b a.fo[n]) a (foQualCond n a) ∧ poweredOutputs (foQualCond n a) = poweredOutputs s := by
  have hcond := foQualCond_moved n a
  have hboot : a.boot = (busSet b s).boot := rest_boot h (by decide)
  have hbus : a.zbus.inWindow = b := by rw [rest_zbus h (by decide)]; rfl
  rw [hbus] at hcond
  exact ⟨hcond, by rw [hcond.powered, poweredOutputs, poweredOutputs, hboot]; rfl⟩

theorem busEnterFo_moved {n : Fin 8} {a s : State} (h : rest [.fo, .evc, .tw] a = rest [.fo, .evc, .tw] (busSet true s)) :
    FoMoved n (foBusEntered (poweredOutputs s) a.fo[n]) a (busEnterFo (poweredOutputs s) a n) := by
  obtain ⟨hcond, hpow⟩ := foQualCond_on (n := n) h
  unfold busEnterFo foBusEntered
  rw [hcond.chan, (condFo_keeps true a.fo[n]).1]
  split
  · have hto := foTo_moved n .qualify (foQualCond n a)
    have hqual := foQualified_moved n (foTo n .qualify (foQualCond n a))
    rw [hcond.chan] at hto
    rw [hto.chan, hto.powered, hpow] at hqual
    exact hcond.trans (hto.trans hqual)
  · exact hcond

theorem busExitFo_moved {n : Fin 8} {a s : State} (h : rest [.fo, .evc, .tw] a = rest [.fo, .evc, .tw] (busSet false s)) :
    FoMoved n (foBusLeft (poweredOutputs s) a.fo[n]) a (busExitFo (poweredOutputs s) a n) := by
  obtain ⟨hcond, -⟩ := foQualCond_on (n := n) h
  unfold busExitFo foBusLeft
  rw [hcond.chan, (condFo_keeps false a.fo[n]).1]
  split
  · have hto := foTo_moved n .waitBus (foQualCond n a)
    rw [hcond.chan] at hto
    exact hcond.trans hto
  · exact hcond

/-- Every output moved after a change of the bus window, and nothing else but the events. -/
theorem foldl_busSet {f : State → Fin 8 → State} {g : FoChan → FoChan} {b : Bool} {s : State}
    (hf : ∀ a n, rest [.fo, .evc, .tw] a = rest [.fo, .evc, .tw] (busSet b s) → FoMoved n (g a.fo[n]) a (f a n)) :
    ∃ t, (allFin 8).foldl f (busSet b s) = t ∧ t.zbus = { s.zbus with inWindow := b } ∧ (∀ m : Fin 8, t.fo[m] = g s.fo[m]) ∧
      t = { s with fo := t.fo, zbus := t.zbus, evc := t.evc, tw := t.tw } := by
  obtain ⟨-, hfo, hframe⟩ := foldl_foMoved hf (List.nodup_finRange 8) (s := busSet b s) rfl
  exact ⟨_, rfl, rest_zbus hframe (by decide), fun m => hfo m (List.mem_finRange m), rest_patch (F := [.fo, .zbus, .evc, .tw])
    ((rest_mono (by decide) hframe).trans (rest_with_zbus (by decide) s _))⟩

theorem condFo_counts (window : Bool) (c : FoChan) : foCounts (condFo window c) = foCounts c := by
  unfold condFo
  split
  · split <;> rfl
  · rfl

theorem foBusEntered_counts (powered : Bool) (c : FoChan) : foCounts (foBusEntered powered c) = foCounts c := by
  unfold foBusEntered
  split
  · exact (qualifiedFo_counts _ _).trans ((toFo_counts _ _).trans (condFo_counts _ _))
  · exact condFo_counts _ _

theorem foBusLeft_counts (powered : Bool) (c : FoChan) : foCounts (foBusLeft powered c) = foCounts c := by
  unfold foBusLeft
  split
  · exact (toFo_counts _ _).trans (condFo_counts _ _)
  · exact condFo_counts _ _

theorem foCounts_eq {c d : FoChan} (h : foCounts c = foCounts d) : c.retryCnt = d.retryCnt ∧ c.retryTimer = d.retryTimer ∧ c.fault = d.fault := by
  simp only [foCounts, Prod.mk.injEq] at h
  obtain ⟨hcnt, htimer, hfault, -⟩ := h
  exact ⟨hcnt, htimer, hfault⟩

theorem condFo_qualified {c : FoChan} (h : c.qualified = false) (window : Bool) : (condFo window c).qualified = false := by
  unfold condFo
  split
  · split <;> exact h
  · rfl

/-- With presence inside the window t_ins runs or has ended. -/
theorem condFo_present {c : FoChan} (h : c.present = true) : (condFo true c).insRunning = true ∨ (condFo true c).qualified = true := by
  unfold condFo
  rw [h]
  cases hi : c.insRunning <;> cases hq : c.qualified <;> simp [hi, hq]

theorem qualifiedFo_timing (powered : Bool) (c : FoChan) :
    (qualifiedFo powered c).insRunning = c.insRunning ∧ (qualifiedFo powered c).qualified = c.qualified := by
  have hto : ∀ ph, (toFo ph c).insRunning = c.insRunning ∧ (toFo ph c).qualified = c.qualified := fun ph => by
    obtain ⟨-, hins, hqual, -⟩ := toFo_keeps ph c
    exact ⟨hins, hqual⟩
  unfold qualifiedFo
  split
  · exact ⟨rfl, rfl⟩
  · split
    · exact hto _
    · split <;> exact hto _

/-- An output of WAIT_BUS that has not met t_ins goes to QUALIFY (R137). -/
theorem foBusEntered_waits {c : FoChan} (hp : c.phase = .waitBus) (hq : c.qualified = false) : (foBusEntered true c).phase = .qualify := by
  rw [foBusEntered, hp, if_pos (by decide), qualifiedFo, (toFo_keeps .qualify _).2.2.1, condFo_qualified hq, if_pos (by simp), toFo_phase]

theorem foBusEntered_unpowered (c : FoChan) : (foBusEntered false c).phase = c.phase := by
  rw [foBusEntered, if_neg (by simp), (condFo_keeps true c).1]

theorem foBusEntered_other {c : FoChan} (hp : c.phase ≠ .waitBus) (powered : Bool) : (foBusEntered powered c).phase = c.phase := by
  rw [foBusEntered, if_neg (by simp [hp]), (condFo_keeps true c).1]

theorem foBusEntered_present {c : FoChan} (h : c.present = true) (powered : Bool) :
    (foBusEntered powered c).insRunning = true ∨ (foBusEntered powered c).qualified = true := by
  unfold foBusEntered
  split
  · obtain ⟨hins, hqual⟩ := qualifiedFo_timing powered (toFo .qualify (condFo true c))
    obtain ⟨-, kins, kqual, -⟩ := toFo_keeps .qualify (condFo true c)
    rw [hins, hqual, kins, kqual]
    exact condFo_present h
  · exact condFo_present h

theorem foBusLeft_timing (powered : Bool) (c : FoChan) : (foBusLeft powered c).insRunning = false ∧ (foBusLeft powered c).qualified = false := by
  have hcond : condFo false c = { c with insRunning := false, qualified := false } := by simp [condFo]
  obtain ⟨-, hins, hqual, -⟩ := toFo_keeps .waitBus { c with insRunning := false, qualified := false }
  rw [foBusLeft, hcond]
  split
  · exact ⟨hins, hqual⟩
  · exact ⟨rfl, rfl⟩

theorem foBusLeft_leaves {c : FoChan} (hp : c.phase ∈ [.qualify, .retryWait, .turnOn, .on, .limit]) : (foBusLeft true c).phase = .waitBus := by
  rw [foBusLeft, if_pos ⟨rfl, hp⟩, toFo_phase]

theorem foBusLeft_unpowered (c : FoChan) : (foBusLeft false c).phase = c.phase := by
  rw [foBusLeft, if_neg (by simp), (condFo_keeps false c).1]

theorem foBusLeft_stays {c : FoChan} (hp : c.phase ∈ [.off, .absent, .waitBus, .locked, .disabling]) (powered : Bool) :
    (foBusLeft powered c).phase = c.phase := by
  rw [foBusLeft, if_neg, (condFo_keeps false c).1]
  rintro ⟨-, h⟩
  revert hp h
  cases c.phase <;> decide

/-- Settles O10: an edge of an input's window moves its own channel, one of the bus window each output, as the state tables say. -/
theorem zoneAndBusWindows : Obligations.ZoneAndBusWindows := by
  unfold Obligations.ZoneAndBusWindows
  intro s
  refine ⟨fun n => ?_, fun n => ?_, ?_, ?_⟩
  · obtain ⟨t, hexec, hchan, hothers, hframe⟩ := execZinWindowEnter_spec n s
    obtain ⟨hwin, hcnt, htimer, hfault⟩ := zinEntered_keeps s.zin[n]
    rw [← hchan] at hwin hcnt htimer hfault
    exact ⟨t, hexec, hwin, hothers, hcnt, htimer, hfault, fun ht hp => hchan ▸ zinEntered_waits ht hp,
      fun hp => hchan ▸ zinEntered_other hp, hframe⟩
  · obtain ⟨t, hexec, hchan, hothers, hframe⟩ := execZinWindowExit_spec n s
    obtain ⟨hwin, hins, hqual, hcnt, htimer, hfault⟩ := zinLeft_keeps s.zin[n]
    rw [← hchan] at hwin hins hqual hcnt htimer hfault
    exact ⟨t, hexec, hwin, hins, hqual, hcnt, htimer, hfault, hothers, fun ht hp => hchan ▸ zinLeft_leaves ht hp,
      fun hp => hchan ▸ zinLeft_stays hp, hframe⟩
  · obtain ⟨t, ht, hbus, hfo, hframe⟩ := foldl_busSet (s := s) fun a n h => busEnterFo_moved (n := n) h
    refine ⟨t, by rw [execZbusWindowEnter_eq, ht], hbus, fun m => ?_, hframe⟩
    obtain ⟨hcnt, htimer, hfault⟩ := foCounts_eq (foBusEntered_counts (poweredOutputs s) s.fo[m])
    rw [hfo]
    exact ⟨fun hp hw hq => by rw [hp, foBusEntered_waits hw hq], fun hp => by rw [hp, foBusEntered_unpowered],
      fun hw => foBusEntered_other hw _, fun hp => foBusEntered_present hp _, hcnt, htimer, hfault⟩
  · obtain ⟨t, ht, hbus, hfo, hframe⟩ := foldl_busSet (s := s) fun a n h => busExitFo_moved (n := n) h
    refine ⟨t, by rw [execZbusWindowExit_eq, ht], hbus, fun m => ?_, hframe⟩
    obtain ⟨hcnt, htimer, hfault⟩ := foCounts_eq (foBusLeft_counts (poweredOutputs s) s.fo[m])
    obtain ⟨hins, hqual⟩ := foBusLeft_timing (poweredOutputs s) s.fo[m]
    rw [hfo]
    exact ⟨fun hp hw => by rw [hp, foBusLeft_leaves hw], fun hp => by rw [hp, foBusLeft_unpowered], fun hw => foBusLeft_stays hw _,
      hins, hqual, hcnt, htimer, hfault⟩

end Sys2Proof.Proofs

namespace Sys2Proof.Proofs

open Sys2Proof.Machine Sys2Proof.Laws

/-! ### Waking from PARK (R93, R94, R148, R346, R568) -/

/-! What a wake changes. -/

/-- What goes on at a wake, beside the power state itself (R94, R148, R346, R441, R492). -/
abbrev wakeFields : List Fld := [.nv, .zin, .fo, .groups, .rsto, .pp, .gauge, .wd, .ewd, .log, .evc, .tw, .can]

theorem zinWake_rest (n : Fin 4) (s : State) : rest wakeFields (zinWake n s) = rest wakeFields s := by
  unfold zinWake
  dsimp only
  (repeat' split) <;> simp

theorem wakeEvents_rest (fired : Nat) (s : State) : rest wakeFields (wakeEvents fired s) = rest wakeFields s := by
  unfold wakeEvents
  dsimp only
  split <;> simp

theorem restWake_rest (s : State) : rest wakeFields (restWake s) = rest wakeFields s := by
  unfold restWake
  simp

theorem wdWake_rest (s : State) : rest wakeFields (wdWake s) = rest wakeFields s := by
  unfold wdWake
  split
  · exact (rest_with_wd (by decide) _ _).trans (rest_with_wd (by decide) _ _)
  · rfl

/-- The power state of a wake: DOZE with the sources reported and none left (R93). -/
def wokenPwr (p : PwrCtl) : PwrCtl :=
  { p with state := .doze, req := .doze, wakeCause := p.fired, fired := 0, wakeTimerOn := false, ocLatch := 0 }

theorem wakeEnd_rest (u : State) (e : EwdState) (p : PathState) : rest wakeFields (canStartAll { u with ewd := e, pp := p }) = rest wakeFields u :=
  (canStartAll_rest (by decide) _).trans ((rest_with_pp (by decide) { u with ewd := e } p).trans (rest_with_ewd (by decide) u e))

theorem wakeNow_rest (s : State) : rest wakeFields (wakeNow s) = rest wakeFields (modPwr wokenPwr s) := by
  have hpwr : modPwr (fun p => { p with
      state := .doze, req := .doze, wakeCause := s.pwr.fired, fired := 0, wakeTimerOn := false, ocLatch := 0 }) s = modPwr wokenPwr s := rfl
  unfold wakeNow foWake
  refine (wakeEnd_rest _ _ _).trans ?_
  simp [hpwr, zinWake_rest, wakeEvents_rest, restWake_rest, wdWake_rest]

/-- The device is in DOZE, the sources that fired are in `WAKE_CAUSE`, and what PARK kept stands. -/
theorem wakeNow_spec (s : State) : (wakeNow s).pwr = wokenPwr s.pwr ∧ (wakeNow s).part = s.part ∧ (wakeNow s).settings = s.settings ∧
    (wakeNow s).mram = s.mram ∧ (wakeNow s).hamper = s.hamper ∧ (wakeNow s).clk = s.clk ∧ (wakeNow s).rails = s.rails ∧
    (wakeNow s).items = s.items := by
  have h := wakeNow_rest s
  obtain ⟨u, hu⟩ : ∃ u, u = modPwr wokenPwr s := ⟨_, rfl⟩
  rw [← hu] at h
  rw [rest_pwr h (by decide), rest_part h (by decide), rest_settings h (by decide), rest_mram h (by decide), rest_hamper h (by decide),
    rest_clk h (by decide), rest_rails h (by decide), rest_items h (by decide), hu]
  exact ⟨rfl, rfl, rfl, rfl, rfl, rfl, rfl, rfl⟩

/-! Sources fire in PARK (R93). -/

theorem testBit_setBit (w i j : Nat) : (setBit w i).testBit j = (w.testBit j || decide (i = j)) := by
  rw [setBit, Nat.testBit_or, Nat.testBit_two_pow]

/-- A wake source is enabled; `TAMPER_N` always is (R93). -/
def wakeEnabled (s : State) (b : Nat) : Bool := decide (b = 13) || s.wakeMask.testBit b

/-- The sources of the mask `n` have fired. -/
def firedBy (n : Nat) (s : State) : State := { s with pwr := { s.pwr with fired := s.pwr.fired ||| n } }

theorem firedBy_zero (s : State) : firedBy 0 s = s := by rw [firedBy, Nat.or_zero]

theorem firedBy_testBit {n b : Nat} (h : n.testBit b = true) (s : State) : (firedBy n s).pwr.fired.testBit b = true := by
  rw [firedBy, Nat.testBit_or, h, Bool.or_true]

theorem wakeOn_enabled {s : State} {b : Nat} (hp : s.pwr.state = .park) (he : s.pwr.parkEntry = false) (hb : wakeEnabled s b = true)
    (n : Nat) : wakeOn b (firedBy n s) = firedBy (setBit n b) s := by
  have hin : ¬(!((firedBy n s).pwr.parkEntry || decide ((firedBy n s).pwr.state = .park))) = true := by
    rw [show (firedBy n s).pwr.parkEntry = false from he, show (firedBy n s).pwr.state = .park from hp]
    decide
  have hentry : ¬(firedBy n s).pwr.parkEntry = true := by
    rw [show (firedBy n s).pwr.parkEntry = false from he]
    decide
  have hset : setBit (s.pwr.fired ||| n) b = s.pwr.fired ||| setBit n b := by rw [setBit, setBit, Nat.lor_assoc]
  unfold wakeOn
  rw [if_neg hin]
  refine (if_pos hb).trans ((if_neg hentry).trans ?_)
  rw [firedBy, hset, firedBy]

theorem wakeOn_disabled {s : State} {b : Nat} (hb : wakeEnabled s b = false) : wakeOn b s = s := by
  have hb : ¬wakeEnabled s b = true := by rw [hb]; decide
  unfold wakeOn
  split
  · rfl
  · exact if_neg hb

/-- Source `b` of the mask `m` counts: it is enabled, and in Old Chart mode no pin (R93, R568). -/
def sourceCounts (m : Nat) (s : State) (b : Nat) : Bool :=
  m.testBit b && !(s.pwr.oldChart && decide (s.pwr.state = .park) && decide (b < 8)) && wakeEnabled s b

/-- The mask of those of the listed sources that count, added to `n`. -/
def countedMask (m : Nat) (s : State) (l : List Nat) (n : Nat) : Nat := l.foldl (fun n b => if sourceCounts m s b then setBit n b else n) n

theorem fireAll_eq {s : State} (hp : s.pwr.state = .park) (he : s.pwr.parkEntry = false) (m : Nat) :
    fireAll m s = firedBy (countedMask m s (List.range 14) 0) s := by
  have hone : ∀ n b, (if m.testBit b && !(s.pwr.oldChart && decide (s.pwr.state = .park) && decide (b < 8)) then wakeOn b (firedBy n s)
      else firedBy n s) = firedBy (if sourceCounts m s b then setBit n b else n) s := fun n b => by
    unfold sourceCounts
    cases hm : m.testBit b && !(s.pwr.oldChart && decide (s.pwr.state = .park) && decide (b < 8))
    · rfl
    · cases hb : wakeEnabled s b
      · exact wakeOn_disabled (s := firedBy n s) hb
      · exact wakeOn_enabled hp he hb n
  have hall : ∀ (l : List Nat) (n : Nat), l.foldl (fun a b =>
      if m.testBit b && !(s.pwr.oldChart && decide (s.pwr.state = .park) && decide (b < 8)) then wakeOn b a else a) (firedBy n s) =
      firedBy (countedMask m s l n) s := fun l => by
    induction l with
    | nil => exact fun n => rfl
    | cons b l ih => exact fun n => by rw [List.foldl_cons, hone, ih]; rfl
  have h := hall (List.range 14) 0
  rwa [firedBy_zero] at h

theorem countedMask_keeps {n b : Nat} (h : n.testBit b = true) (m : Nat) (s : State) (l : List Nat) :
    (countedMask m s l n).testBit b = true := by
  induction l generalizing n with
  | nil => exact h
  | cons c l ih =>
    refine ih (n := if sourceCounts m s c then setBit n c else n) ?_
    split
    · rw [testBit_setBit, h, Bool.true_or]
    · exact h

theorem countedMask_counts {m b : Nat} {s : State} (hb : sourceCounts m s b = true) {l : List Nat} (hl : b ∈ l) (n : Nat) :
    (countedMask m s l n).testBit b = true := by
  induction l generalizing n with
  | nil => exact absurd hl List.not_mem_nil
  | cons c l ih =>
    rcases List.mem_cons.mp hl with rfl | hl
    · refine countedMask_keeps (n := if sourceCounts m s b then setBit n b else n) ?_ m s l
      rw [if_pos hb, testBit_setBit, decide_eq_true rfl, Bool.or_true]
    · exact ih hl _

theorem countedMask_none {m : Nat} {s : State} {l : List Nat} (h : ∀ b ∈ l, sourceCounts m s b = false) (n : Nat) : countedMask m s l n = n := by
  induction l with
  | nil => rfl
  | cons c l ih =>
    have hc : (if sourceCounts m s c then setBit n c else n) = n := if_neg (by rw [h c List.mem_cons_self]; decide)
    rw [countedMask, List.foldl_cons, hc]
    exact ih fun b hb => h b (List.mem_cons_of_mem c hb)

/-! The wakes. -/

/-- Some source has fired and SYS runs again: what a wake in PARK comes to. -/
theorem wakeNow_fired {s : State} {n b : Nat} (h : n.testBit b = true) : ∃ t, wakeNow (firedBy n s) = t ∧ t.pwr.state = .doze ∧
    t.pwr.req = .doze ∧ t.pwr.wakeCause.testBit b = true ∧ t.pwr.fired = 0 ∧ t.pwr.wakeTimerOn = false ∧ t.pwr.ocLatch = 0 ∧
    t.part = s.part ∧ t.settings = s.settings ∧ t.mram = s.mram ∧ t.hamper = s.hamper ∧ t.clk = s.clk ∧ t.rails = s.rails ∧
    t.items = s.items := by
  obtain ⟨hpwr, hkept⟩ := wakeNow_spec (firedBy n s)
  refine ⟨_, rfl, ?_⟩
  rw [hpwr]
  exact ⟨rfl, rfl, firedBy_testBit h s, rfl, rfl, rfl, hkept⟩

theorem ne_zero_of_testBit {n b : Nat} (h : n.testBit b = true) : n ≠ 0 := fun h0 => by
  rw [h0, Nat.zero_testBit] at h
  exact Bool.noConfusion h

theorem execWake_counts {s : State} {m b : Nat} (hp : s.pwr.state = .park) (he : s.pwr.parkEntry = false) (hb : b < 14)
    (hc : sourceCounts m s b = true) : ∃ n, n.testBit b = true ∧ exec (.wake m) s = .next (wakeNow (firedBy n s)) := by
  have hbit : (countedMask m s (List.range 14) 0).testBit b = true := countedMask_counts hc (List.mem_range.mpr hb) 0
  refine ⟨_, hbit, ?_⟩
  show execWake m s = _
  have hfired := ne_zero_of_testBit (firedBy_testBit hbit s)
  have hpark : (firedBy (countedMask m s (List.range 14) 0) s).pwr.state = .park := hp
  rw [execWake, fireAll_eq hp he m, hpark, decide_eq_true hfired]
  rfl

theorem execWake_none {s : State} {m : Nat} (hp : s.pwr.state = .park) (he : s.pwr.parkEntry = false) (hf : s.pwr.fired = 0)
    (h : ∀ b, b < 14 → sourceCounts m s b = false) : exec (.wake m) s = .next s := by
  show execWake m s = _
  rw [execWake, fireAll_eq hp he m, countedMask_none (fun b hb => h b (List.mem_range.mp hb)), firedBy_zero, hf]
  simp

theorem execWakeTimerExpire_stands {s : State} (h : s.pwr.wakeTimerOn = false) : exec .wakeTimerExpire s = .next s := by
  show execWakeTimerExpire s = _
  rw [execWakeTimerExpire, h]
  rfl

/-- The wake timer stopped. -/
def timerStopped (s : State) : State := modPwr (fun p => { p with wakeTimerOn := false }) s

theorem execWakeTimerExpire_runs {s : State} (h : s.pwr.wakeTimerOn = true) : exec .wakeTimerExpire s = .next
    (if decide ((wakeOn 10 (timerStopped s)).pwr.state = .park) && (wakeOn 10 (timerStopped s)).pwr.fired.testBit 10 then
      wakeNow (wakeOn 10 (timerStopped s)) else wakeOn 10 (timerStopped s)) := by
  show execWakeTimerExpire s = _
  rw [execWakeTimerExpire, h]
  rfl

theorem execWakeTimerExpire_wakes {s : State} (hp : s.pwr.state = .park) (he : s.pwr.parkEntry = false) (h : s.pwr.wakeTimerOn = true)
    (hm : s.wakeMask.testBit 10 = true) : exec .wakeTimerExpire s = .next (wakeNow (firedBy (setBit 0 10) (timerStopped s))) := by
  have hwake : wakeOn 10 (timerStopped s) = firedBy (setBit 0 10) (timerStopped s) := by
    have hen : wakeEnabled (timerStopped s) 10 = true := (congrArg (decide (10 = 13) || ·) hm).trans (Bool.or_true _)
    have := wakeOn_enabled (s := timerStopped s) hp he hen 0
    rwa [firedBy_zero] at this
  have hbit : (firedBy (setBit 0 10) (timerStopped s)).pwr.fired.testBit 10 = true := firedBy_testBit (by decide) _
  have hpark : (firedBy (setBit 0 10) (timerStopped s)).pwr.state = .park := hp
  rw [execWakeTimerExpire_runs h, hwake, hpark, hbit]
  rfl

/-- The pin of source `b` latched in Old Chart mode (R568). -/
def pinLatched (b : Fin 12) (s : State) : State := modPwr (fun p => { p with ocLatch := setBit p.ocLatch b }) s

theorem execOldChartWakeLatch_other {s : State} (h : s.pwr.oldChart = false) (b : Fin 12) : exec (.oldChartWakeLatch b) s = .next s := by
  show execOldChartWakeLatch b s = _
  rw [execOldChartWakeLatch, h]
  rfl

theorem execOldChartWakeLatch_latches {s : State} {b : Fin 12} (hp : s.pwr.state = .park) (h : s.pwr.oldChart = true) (hb : b.val < 8) :
    exec (.oldChartWakeLatch b) s = .next (if (wakeOn b (pinLatched b s)).pwr.fired.testBit b then wakeNow (wakeOn b (pinLatched b s))
      else wakeOn b (pinLatched b s)) := by
  show execOldChartWakeLatch b s = _
  rw [execOldChartWakeLatch, h, hp, if_neg (by simp [hb])]
  rfl

theorem execOldChartWakeLatch_wakes {s : State} {b : Fin 12} (hp : s.pwr.state = .park) (he : s.pwr.parkEntry = false)
    (h : s.pwr.oldChart = true) (hb : b.val < 8) (hm : s.wakeMask.testBit b = true) :
    exec (.oldChartWakeLatch b) s = .next (wakeNow (firedBy (setBit 0 b) (pinLatched b s))) := by
  have hwake : wakeOn b (pinLatched b s) = firedBy (setBit 0 b) (pinLatched b s) := by
    have hen : wakeEnabled (pinLatched b s) b = true := (congrArg (decide (b.val = 13) || ·) hm).trans (Bool.or_true _)
    have := wakeOn_enabled (s := pinLatched b s) hp he hen 0
    rwa [firedBy_zero] at this
  rw [execOldChartWakeLatch_latches hp h hb, hwake, if_pos (firedBy_testBit (by rw [testBit_setBit, decide_eq_true rfl, Bool.or_true]) _)]

theorem execOldChartWakeLatch_disabled {s : State} {b : Fin 12} (hp : s.pwr.state = .park) (h : s.pwr.oldChart = true) (hb : b.val < 8)
    (hm : s.wakeMask.testBit b = false) (hf : s.pwr.fired.testBit b = false) : exec (.oldChartWakeLatch b) s = .next (pinLatched b s) := by
  have hwake : wakeOn b (pinLatched b s) = pinLatched b s := wakeOn_disabled (by
    show (decide (b.val = 13) || s.wakeMask.testBit b) = false
    rw [hm, decide_eq_false (by omega)]; rfl)
  have hstill : ¬(pinLatched b s).pwr.fired.testBit b = true := by
    rw [show (pinLatched b s).pwr.fired.testBit b = false from hf]
    decide
  rw [execOldChartWakeLatch_latches hp h hb, hwake, if_neg hstill]

/-- Settles O8: a source that counts fires and SYS runs again with the settings and the rails of PARK; else PARK stays. -/
theorem wakeFromPark : Obligations.WakeFromPark := by
  unfold Obligations.WakeFromPark
  intro s hp he
  refine ⟨fun m b ho hb hm hen => ?_, fun m hf h => ?_, execWakeTimerExpire_stands, fun ht hm => ?_,
    fun b ho => execOldChartWakeLatch_other ho b, fun b ho hb hm => ?_, fun b ho hb hm hf => ?_⟩
  · have hc : sourceCounts m s b = true := by
      rw [sourceCounts, hm, ho, wakeEnabled]
      simpa using hen
    obtain ⟨n, hbit, hexec⟩ := execWake_counts hp he hb hc
    obtain ⟨t, ht, hstate, hreq, hcause, hfired, htimer, -, hkept⟩ := wakeNow_fired (s := s) hbit
    exact ⟨t, by rw [hexec, ht], hstate, hreq, hcause, hfired, htimer, hkept⟩
  · refine execWake_none hp he hf fun b hb => ?_
    cases hm : m.testBit b
    · rw [sourceCounts, hm]; rfl
    · obtain ⟨h13, hmask⟩ := h b hb hm
      rw [sourceCounts, wakeEnabled, hmask, decide_eq_false h13, Bool.or_false, Bool.and_false]
  · obtain ⟨t, h, hstate, -, hcause, hfired, htimer, -, -, hset, -, -, -, hrails, -⟩ :=
      wakeNow_fired (s := timerStopped s) (n := setBit 0 10) (b := 10) (by decide)
    exact ⟨t, by rw [execWakeTimerExpire_wakes hp he ht hm, h], hstate, hcause, htimer, hfired, hset, hrails⟩
  · obtain ⟨t, h, hstate, -, hcause, hfired, -, hlatch, -, hset, -, -, -, hrails, -⟩ :=
      wakeNow_fired (s := pinLatched b s) (n := setBit 0 b) (b := b) (by rw [testBit_setBit, decide_eq_true rfl, Bool.or_true])
    exact ⟨t, by rw [execOldChartWakeLatch_wakes hp he ho hb hm, h], hstate, hcause, hlatch, hfired, hset, hrails⟩
  · exact execOldChartWakeLatch_disabled hp ho hb hm hf

end Sys2Proof.Proofs

namespace Sys2Proof.Proofs

open Sys2Proof.Machine Sys2Proof.Laws

/-! ### Power states (R88 to R92) -/

/-! RUN is kept by what its steps lead to, a full reset among them (R92, R106, R276). -/

/-- The device is in RUN, asked for nothing else. -/
def Running (s : State) : Prop := s.pwr.state = .run ∧ s.pwr.req = .run ∧ s.pwr.parkEntry = false

theorem Running.of_pwr {s t : State} (hs : Running s) (h : t.pwr = s.pwr) : Running t := by
  rw [Running, h]
  exact hs

theorem Running.of_rest {s t : State} (hs : Running s) (h : rest (allBut [.pwr]) t = rest (allBut [.pwr]) s) : Running t :=
  hs.of_pwr (rest_pwr h (by simp))

/-- What every step keeps holds at the end of a fold. -/
theorem Running.foldl {α : Type} {f : State → α → State} (hf : ∀ a x, Running a → Running (f a x)) (l : List α) {s : State} (hs : Running s) :
    Running (l.foldl f s) := by
  induction l generalizing s with
  | nil => exact hs
  | cons x l ih => exact ih (hf s x hs)

/-- A full reset starts in RUN (R106). -/
theorem resetStart_running (cause sub : Nat) (s : State) : Running (resetStart cause sub s) := by
  have hpwr : (resetStart cause sub s).pwr =
      { (learnStop 8 (resetPath cause (parkTripsLogged s))).pwr with state := .run, req := .run, parkEntry := false } := by
    unfold resetStart
    dsimp only
    refine (rest_pwr (resetRecord_rest cause (resetStops _ cause _ _)) (by decide)).trans ?_
    rw [rest_pwr (resetStops_rest _ _ _ _) (by decide)]
  rw [Running, hpwr]
  exact ⟨rfl, rfl, rfl⟩

theorem Running.startFullReset {s : State} (hs : Running s) (cause sub : Nat) : Running (startFullReset cause sub s) := by
  unfold Machine.startFullReset
  split
  · exact hs
  · split
    · exact hs.of_pwr rfl
    · exact hs
  · exact hs.of_rest (by simp)
  all_goals
    split
    · exact hs
    · exact resetStart_running cause sub s

theorem Running.applyReaction {s : State} (hs : Running s) (i : Fin 46) (f : ItemFaultCode) (x : Reaction) : Running (applyReaction i f x s) := by
  unfold Machine.applyReaction
  split
  · exact hs
  · split
    · split
      · exact hs.of_pwr rfl
      · exact hs
    · split
      · exact hs.of_pwr rfl
      · exact hs
    · split
      · exact hs.of_rest (by simp)
      · exact hs.of_rest (by simp)
      · refine hs.of_rest ?_
        dsimp only
        split <;> simp
      · exact hs.startFullReset _ _

theorem Running.itemReact {s : State} (hs : Running s) (l : List (Fin 46 × ItemFaultCode)) : Running (itemReact l s) := by
  unfold Machine.itemReact
  extract_lets worst chosen multi
  refine List.foldlRecOn (motive := fun acc : State × List (Fin 8) => Running acc.1) chosen _ hs fun acc hacc x _ => ?_
  dsimp only
  split
  · exact hacc
  · split
    · exact hacc
    · exact hacc.applyReaction _ _ _

theorem Running.itemFaults {s : State} (hs : Running s) (l : List (Fin 46 × ItemFaultCode)) : Running (itemFaults l s) := by
  have hmark : Running (itemFaultsMark l s) := by
    unfold itemFaultsMark
    extract_lets s1
    have hlogged : Running s1 := by
      refine Running.foldl (fun a x ha => ?_) l hs
      dsimp only
      split
      · exact ha.of_rest (by simp)
      · exact ha.of_rest (by simp)
    refine Running.foldl (fun a x ha => ?_) _ hlogged
    exact ha.of_pwr rfl
  unfold Machine.itemFaults
  dsimp only
  split
  · exact hmark.of_pwr rfl
  · exact hmark.itemReact l

theorem Running.vdrDeclared {s : State} (hs : Running s) : Running (vdrDeclared s) := by
  unfold Machine.vdrDeclared
  refine Running.itemFaults (Running.foldl (fun a r ha => ?_) _ hs) _
  exact ha.of_pwr rfl

theorem Running.startStep {s : State} (hs : Running s) (g : Fin 8) (st : Fin 64) : Running (startStep g st s) := by
  unfold Machine.startStep
  extract_lets s0 s1 s2
  have h0 : Running s0 := by unfold s0; split <;> exact hs.of_rest (by simp)
  have h2 : Running s2 := by
    refine Running.foldl (fun a i ha => ?_) _ (h0.of_pwr rfl)
    dsimp only
    split
    · exact ha.of_pwr rfl
    · exact ha.of_rest (by simp)
  exact Running.vdrDeclared (h2.of_rest (by simp))

theorem Running.advance {s : State} (hs : Running s) (n : Nat) (g : Fin 8) (o : Option (Fin 64)) : Running (advance n g o s) := by
  induction n generalizing o s with
  | zero => exact hs
  | succ n ih =>
    unfold Machine.advance
    split
    · exact hs.of_rest (by simp)
    · next st _ =>
      extract_lets s1 s2
      have h1 : Running s1 := hs.of_rest (by simp [s1])
      split
      · split
        · exact ih (h1.startStep g st) _
        · exact h1.startStep g st
      · exact h1

theorem Running.stepGo {s : State} (hs : Running s) (g : Fin 8) (st : Fin 64) : Running (stepGo g st s) := by
  unfold Machine.stepGo
  dsimp only
  split
  · exact (hs.startStep g st).advance _ _ _
  · exact hs.startStep g st

theorem Running.checkStep {s : State} (hs : Running s) (g : Fin 8) : Running (checkStep g s) := by
  unfold Machine.checkStep
  split
  · split
    · split
      · exact hs.advance _ _ _
      · exact hs
    · exact hs
  · exact hs

theorem Running.seqSettle {s : State} (hs : Running s) : Running (seqSettle s) :=
  Running.foldl (fun _ g ha => ha.checkStep g) _ (Running.vdrDeclared (hs.of_rest (by simp)))

theorem Running.runSteps {s : State} (hs : Running s) : Running (runSteps s) := by
  refine Running.foldl (fun a g ha => ?_) _ hs
  split
  · split
    · exact ha.stepGo _ _
    · exact ha
  · exact ha

/-! The requests of RUN and DOZE (R91, R92). -/

/-- The state asked to RUN. -/
def askedRun (s : State) : State := modPwr (fun p => { p with state := .run, req := .run }) s

theorem toRun_running {s : State} (h : s.pwr.parkEntry = false) : Running (toRun s) := by
  have hrun : Running (askedRun s) := ⟨rfl, rfl, h⟩
  unfold toRun
  dsimp only
  split
  · exact (Running.runSteps (Running.of_rest (t := runItems (askedRun s)) hrun (by simp))).seqSettle
  · exact hrun

theorem toRun_other {s : State} (h : s.pwr.state ≠ .doze) : toRun s = askedRun s := if_neg h

theorem runSteps_fixed (s : State) : rest bootFixed (runSteps s) = rest bootFixed s := by
  refine foldl_keeps (rest bootFixed) (fun a g => ?_) _ s
  (repeat' split) <;> simp

theorem toRun_fixed (s : State) : rest bootFixed (toRun s) = rest bootFixed s := by
  have hrun : rest bootFixed (askedRun s) = rest bootFixed s := rest_with_pwr (by simp) s _
  unfold toRun
  dsimp only
  split
  · rw [seqSettle_rest (by simp) (by simp) (by simp) (by simp) (by simp) (by simp) (by simp) (by simp) (by simp) (by simp) (by simp)
      (by simp) (by simp) (by simp) (by simp) (by simp) (by simp) (by simp) (by simp) (by simp) (by simp) (by simp) (by simp) (by simp)
      (by simp) (by simp) (by simp) (by simp) (by simp), runSteps_fixed]
    exact (runItems_rest (by simp) (by simp) (by simp) (by simp) (by simp) (by simp) (by simp) (by simp) (by simp) (by simp) (by simp)
      (by simp) (askedRun s)).trans hrun
  · exact hrun

/-- A PARK entry withdrawn (R91): the device is asked for DOZE, and its groups are no longer PARKED. -/
theorem parkWithdraw_spec (s : State) : (parkWithdraw s).pwr = { s.pwr with parkEntry := false, req := .doze, wakeTimerOn := false } ∧
    rest [.pwr, .groups, .rsto, .evc, .tw] (parkWithdraw s) = rest [.pwr, .groups, .rsto, .evc, .tw] s :=
  ⟨rest_pwr (groupsUnpark_rest (F := [.groups, .rsto, .evc, .tw]) (by decide) (by decide) (by decide) (by decide) _) (by decide),
    parkWithdraw_rest (by decide) (by decide) (by decide) (by decide) (by decide) s⟩

theorem runOp_running (s : State) : Running (runOp s) := by
  unfold runOp
  cases he : s.pwr.parkEntry
  · exact toRun_running he
  · exact toRun_running (by rw [if_pos rfl, (parkWithdraw_spec s).1])

theorem runOp_fixed (s : State) : rest bootFixed (runOp s) = rest bootFixed s := by
  unfold runOp
  rw [toRun_fixed]
  split
  · exact rest_mono (by decide) (parkWithdraw_spec s).2
  · rfl

/-- The request last written is the one in force (R91). -/
theorem pwrStateReq_store {v : Nat} (h : v ≤ 2) (s : State) : (s.store (okey 0x2108 0x02) v).pwrStateReq = v := by
  have hraw : (s.store (okey 0x2108 0x02) v).setRaw (okey 0x2108 0x02) 0 = v := by
    show (mapGet _ (mapPut _ v s.settings)).getD _ = v
    rw [mapGet_mapPut_same]
    rfl
  rw [State.pwrStateReq, State.setRange, hraw]
  exact if_pos ⟨Nat.zero_le v, h⟩

theorem pwrReqOp_run (s : State) : pwrReqOp 0 s = (runOp (s.store (okey 0x2108 0x02) 0), .done) := by
  unfold pwrReqOp
  dsimp only
  rw [pwrStateReq_store (by decide)]
  rfl

theorem pwrReqOp_doze (s : State) : pwrReqOp 1 s = (dozeOp (s.store (okey 0x2108 0x02) 1), .done) := by
  unfold pwrReqOp
  dsimp only
  rw [pwrStateReq_store (by decide)]
  rfl

theorem pwrReqOp_park (s : State) : pwrReqOp 2 s = if s.pwr.parkEntry then (s.store (okey 0x2108 0x02) 2, .done)
    else if s.pwr.state = .doze then (parkAccept (s.store (okey 0x2108 0x02) 2), .done) else (s, .abort .state) := by
  unfold pwrReqOp
  dsimp only
  rw [pwrStateReq_store (by decide)]
  rfl

section
variable {s : State} {p : Port} {row : ObjRow} (ha : answering s = true) (hw : checkWrite s p 0x2108 0x02 = .ok row)
include ha hw

theorem exec_pwrStateReqRun : exec (.pwrStateReqRun p) s = .next (setAck .done (runOp (s.store (okey 0x2108 0x02) 0))) := by
  show Host.Outcome.next (directWrite p (okey 0x2108 0x02) s (pwrReqOp 0)) = _
  rw [directWrite_ok (by decide) ha hw, pwrReqOp_run]

theorem exec_pwrStateReqDoze : exec (.pwrStateReqDoze p) s = .next (setAck .done (dozeOp (s.store (okey 0x2108 0x02) 1))) := by
  show Host.Outcome.next (directWrite p (okey 0x2108 0x02) s (pwrReqOp 1)) = _
  rw [directWrite_ok (by decide) ha hw, pwrReqOp_doze]

theorem exec_pwrStateReqPark : exec (.pwrStateReqPark p) s = .next (setAck (pwrReqOp 2 s).2 (pwrReqOp 2 s).1) := by
  show Host.Outcome.next (directWrite p (okey 0x2108 0x02) s (pwrReqOp 2)) = _
  rw [directWrite_ok (by decide) ha hw]

theorem pwrStateReqRun_spec : ∃ t, exec (.pwrStateReqRun p) s = .next t ∧ t.ack = .done ∧ t.pwr.state = .run ∧ t.pwr.req = .run ∧
    t.pwr.parkEntry = false ∧ t.part = s.part ∧ t.hamper = s.hamper ∧ t.clk = s.clk := by
  obtain ⟨hstate, hreq, hentry⟩ := runOp_running (s.store (okey 0x2108 0x02) 0)
  have hfixed := (runOp_fixed (s.store (okey 0x2108 0x02) 0)).trans (rest_with_settings (by simp) s _)
  exact ⟨_, exec_pwrStateReqRun ha hw, rfl, hstate, hreq, hentry, rest_part hfixed (by simp), rest_hamper hfixed (by simp),
    rest_clk hfixed (by simp)⟩

theorem pwrStateReqRun_other (he : s.pwr.parkEntry = false) (hs : s.pwr.state ≠ .doze) : exec (.pwrStateReqRun p) s = .next { s with
    settings := mapPut (okey 0x2108 0x02) 0 s.settings, pwr := { s.pwr with state := .run, req := .run }, ack := .done } := by
  have hop : runOp (s.store (okey 0x2108 0x02) 0) = askedRun (s.store (okey 0x2108 0x02) 0) := by
    unfold runOp
    rw [if_neg (show ¬(s.store (okey 0x2108 0x02) 0).pwr.parkEntry = true from fun h => Bool.noConfusion (he.symm.trans h))]
    exact toRun_other hs
  rw [exec_pwrStateReqRun ha hw, hop]
  rfl

theorem pwrStateReqDoze_stands (he : s.pwr.parkEntry = false) : exec (.pwrStateReqDoze p) s = .next { s with
    settings := mapPut (okey 0x2108 0x02) 1 s.settings, pwr := { s.pwr with req := .doze }, ack := .done } := by
  have hop : dozeOp (s.store (okey 0x2108 0x02) 1) = modPwr (fun p => { p with req := .doze }) (s.store (okey 0x2108 0x02) 1) :=
    if_neg fun h => Bool.noConfusion (he.symm.trans h)
  rw [exec_pwrStateReqDoze ha hw, hop]
  rfl

theorem pwrStateReqDoze_withdraws (he : s.pwr.parkEntry = true) : ∃ t, exec (.pwrStateReqDoze p) s = .next t ∧ t.ack = .done ∧
    t.pwr.parkEntry = false ∧ t.pwr.req = .doze ∧ t.pwr.state = s.pwr.state ∧
    t = { s with settings := t.settings, pwr := t.pwr, groups := t.groups, rsto := t.rsto, evc := t.evc, tw := t.tw, ack := t.ack } := by
  have hop : dozeOp (s.store (okey 0x2108 0x02) 1) = parkWithdraw (s.store (okey 0x2108 0x02) 1) := if_pos he
  obtain ⟨hpwr, hframe⟩ := parkWithdraw_spec (s.store (okey 0x2108 0x02) 1)
  obtain ⟨u, hu⟩ : ∃ u, u = parkWithdraw (s.store (okey 0x2108 0x02) 1) := ⟨_, rfl⟩
  rw [← hu] at hop hpwr hframe
  have hrest : rest [.settings, .pwr, .groups, .rsto, .evc, .tw, .ack] (setAck .done u) =
      rest [.settings, .pwr, .groups, .rsto, .evc, .tw, .ack] s :=
    (setAck_rest (by decide) _ _).trans ((rest_mono (by decide) hframe).trans (store_rest (by decide) s _ _))
  have hack : (setAck .done u).pwr = u.pwr := rfl
  exact ⟨setAck .done u, by rw [exec_pwrStateReqDoze ha hw, hop], rfl, by rw [hack, hpwr], by rw [hack, hpwr], by rw [hack, hpwr]; rfl, rest_patch (F := [.settings, .pwr, .groups, .rsto, .evc, .tw, .ack]) hrest⟩

theorem pwrStateReqPark_refused (he : s.pwr.parkEntry = false) (hs : s.pwr.state ≠ .doze) :
    exec (.pwrStateReqPark p) s = .next { s with ack := .abort .state } := by
  rw [exec_pwrStateReqPark ha hw, pwrReqOp_park, if_neg (Bool.not_eq_true _ ▸ he), if_neg hs]
  rfl

theorem pwrStateReqPark_again (he : s.pwr.parkEntry = true) : exec (.pwrStateReqPark p) s =
    .next { s with settings := mapPut (okey 0x2108 0x02) 2 s.settings, ack := .done } := by
  rw [exec_pwrStateReqPark ha hw, pwrReqOp_park, if_pos he]
  rfl

end

end Sys2Proof.Proofs

namespace Sys2Proof.Proofs

open Sys2Proof.Machine Sys2Proof.Laws

/-! ### PARK (R90, R91) -/

/-! The parts of the acceptance. -/

theorem itemPark_rest (i : Fin 46) (s : State) : rest [.nv, .links, .fo, .rails, .phases, .dies, .items, .regs, .log, .evc, .tw, .freeCtr] (itemPark i s) =
    rest [.nv, .links, .fo, .rails, .phases, .dies, .items, .regs, .log, .evc, .tw, .freeCtr] s := by
  unfold itemPark
  (repeat' split) <;> simp

theorem groupPark_rest (g : Fin 8) (s : State) : rest [.items, .groups, .rsto, .evc, .tw] (groupPark g s) = rest [.items, .groups, .rsto, .evc, .tw] s := by
  unfold groupPark
  split
  · rfl
  · simp

/-- Moving a group changes no other group, and brings it to its state. -/
theorem groupTo_groups (g : Fin 8) (ph : GroupPhase) (s : State) : (groupTo g ph s).groups = vmod s.groups g fun x => { x with phase := ph } := by
  unfold groupTo
  split
  · next h =>
    have hself : vmod s.groups g (fun x => { x with phase := ph }) = vmod s.groups g id := vmod_congr (by rw [← h]; rfl)
    rw [hself]
    exact (Vector.set_getElem_self g.isLt).symm
  · rw [rest_groups (rstoRefresh_rest (F := [.rsto]) (by decide) _) (by decide),
      rest_groups (eventEdge_rest (F := [.evc, .tw]) (by decide) (by decide) _ _) (by decide)]
    rfl

/-- A group as PARK leaves it. -/
def groupRests (g : Fin 8) (s : State) : Prop := s.groups[g].phase = .parked ∨ s.groups[g].phase = .off ∨ s.groups[g].phase = .faulted

theorem groupPark_rests (g : Fin 8) (s : State) : groupRests g (groupPark g s) := by
  unfold groupPark
  split
  · next h =>
    rw [Bool.or_eq_true, decide_eq_true_eq, decide_eq_true_eq] at h
    exact .inr h
  · left
    rw [groupTo_groups, vmod_get]

theorem groupPark_other {g j : Fin 8} (h : j ≠ g) (s : State) : (groupPark g s).groups[j] = s.groups[j] := by
  by_cases hg : (decide (s.groups[g].phase = .off) || decide (s.groups[g].phase = .faulted)) = true
  · rw [groupPark, if_pos hg]
  · rw [groupPark, if_neg hg, groupTo_groups, vmod_get_ne h, rest_groups (itemsUnwait_rest (F := [.items]) (by decide) _ _) (by decide),
      modGroup_groups, vmod_get_ne h]

theorem groupPark_keeps_rests {j : Fin 8} {s : State} (g : Fin 8) (h : groupRests j s) : groupRests j (groupPark g s) := by
  by_cases hj : j = g
  · rw [hj]
    exact groupPark_rests g s
  · rw [groupRests, groupPark_other hj]
    exact h

theorem chgPause_current {s : State} (h : s.chg.current = 0) : (chgPause s).chg.current = 0 := by
  unfold chgPause
  split
  · unfold chgTo
    split
    · exact h
    · rw [rest_chg (eventEdge_rest (F := [.evc, .tw]) (by decide) (by decide) _ _) (by decide)]
      rfl
  · exact h

theorem ppTo_outRunning (ph : PpPhase) (s : State) : (ppTo ph s).gauge.outRunning = s.gauge.outRunning := by
  unfold ppTo
  split
  · rfl
  · rw [rest_gauge (eventEdge_rest (F := [.evc, .tw]) (by decide) (by decide) _ _) (by decide)]
    rfl

theorem outingEnd_ends (r : Nat) (s : State) : (outingEnd r s).gauge.outRunning = false := by
  unfold outingEnd
  split
  · next h =>
    rw [Bool.not_eq_true'] at h
    exact h
  · dsimp only
    split
    · rfl
    · exact ppTo_outRunning _ _

theorem learnIdle_outRunning (r : Nat) (s : State) : (learnIdle r s).gauge.outRunning = s.gauge.outRunning := by
  unfold learnIdle
  split
  · rfl
  · rw [learnResult, rest_gauge (eventEdge_rest (F := [.evc, .tw]) (by decide) (by decide) _ _) (by decide)]
    rfl

theorem learnStop_outRunning {r : Nat} {s : State} (h : s.gauge.outRunning = false) : (learnStop r s).gauge.outRunning = false := by
  unfold learnStop
  split
  · exact h
  · exact outingEnd_ends _ _

/-- The items and the groups at an accepted request of PARK. -/
def parkGroups (s : State) : State := (allFin 8).foldl (fun a g => groupPark g a) ((allFin 46).foldl (fun a i => itemPark i a) s)

/-- The charge, the outing and the learning cycle ended on top of it. -/
def parkStopped (s : State) : State := learnStop 8 (outingEnd 5 (chgPause (modChg (fun x => { x with current := 0 }) (parkGroups s))))

theorem parkAccept_eq (s : State) : parkAccept s = modPwr (fun p => { p with
    parkEntry := true, req := .park, fired := 0, wakeTimerOn := decide (s.wakeTimer ≠ 0) }) (modWd (fun w => { w with abandoned := true }) (parkStopped s)) := rfl

/-- What an accepted request of PARK may write, but for the power record. -/
abbrev parkFields : List Fld := [.nv, .links, .fo, .rails, .phases, .dies, .items, .groups, .regs, .rsto, .pp, .chg, .gauge, .log, .evc, .tw, .freeCtr]

theorem parkGroups_rest (s : State) : rest parkFields (parkGroups s) = rest parkFields s :=
  (foldl_keeps _ (fun a g => rest_mono (by decide) (groupPark_rest g a)) _ _).trans
    (foldl_keeps _ (fun a i => rest_mono (by decide) (itemPark_rest i a)) _ _)

theorem parkStopped_rest (s : State) : rest parkFields (parkStopped s) = rest parkFields s := by
  rw [parkStopped, learnStop_rest (by decide) (by decide) (by decide) (by decide), outingEnd_rest (by decide) (by decide) (by decide) (by decide),
    chgPause_rest (by decide) (by decide) (by decide), modChg_rest (by decide), parkGroups_rest]

/-- The power path and the learning cycle at PARK leave the groups and the charger as they are. -/
theorem parkStopped_tail (s : State) : rest [.pp, .gauge, .evc, .tw] (parkStopped s) =
    rest [.pp, .gauge, .evc, .tw] (chgPause (modChg (fun x => { x with current := 0 }) (parkGroups s))) :=
  (learnStop_rest (by decide) (by decide) (by decide) (by decide) _ _).trans (outingEnd_rest (by decide) (by decide) (by decide) (by decide) _ _)

theorem parkStopped_current (s : State) : (parkStopped s).chg.current = 0 := by
  rw [rest_chg (parkStopped_tail s) (by decide)]
  exact chgPause_current rfl

theorem parkStopped_outRunning (s : State) : (parkStopped s).gauge.outRunning = false := by
  rw [parkStopped]
  exact learnStop_outRunning (outingEnd_ends _ _)

theorem parkGroups_rests (g : Fin 8) (s : State) : groupRests g (parkGroups s) :=
  foldl_establishes (List.mem_finRange g) (groupPark_rests g) (fun _ j h => groupPark_keeps_rests j h) _

theorem parkStopped_rests (g : Fin 8) (s : State) : groupRests g (parkStopped s) := by
  have hrests := parkGroups_rests g s
  have htail := rest_groups (parkStopped_tail s) (by decide)
  obtain ⟨u, hu⟩ : ∃ u, u = parkGroups s := ⟨_, rfl⟩
  rw [← hu] at hrests htail
  have hgroups : (parkStopped s).groups = u.groups := htail.trans
    (rest_groups ((chgPause_rest (F := [.chg, .evc, .tw]) (by decide) (by decide) (by decide) _).trans (modChg_rest (by decide) _ u)) (by decide))
  rw [groupRests, hgroups]
  exact hrests

theorem parkAccept_spec (s : State) : (parkAccept s).pwr =
      { s.pwr with parkEntry := true, req := .park, fired := 0, wakeTimerOn := decide (s.wakeTimer ≠ 0) } ∧
    (parkAccept s).chg.current = 0 ∧ (parkAccept s).gauge.outRunning = false ∧ (∀ g, groupRests g (parkAccept s)) ∧
    rest (.pwr :: .wd :: parkFields) (parkAccept s) = rest (.pwr :: .wd :: parkFields) s := by
  have hcurrent := parkStopped_current s
  have hout := parkStopped_outRunning s
  have hgroups := fun g => parkStopped_rests g s
  have hrest := parkStopped_rest s
  rw [parkAccept_eq]
  obtain ⟨u, hu⟩ : ∃ u, u = parkStopped s := ⟨_, rfl⟩
  simp only [← hu] at hcurrent hout hgroups hrest ⊢
  refine ⟨?_, hcurrent, hout, hgroups, ?_⟩
  · rw [← rest_pwr hrest (by decide)]
    rfl
  · refine (rest_with_pwr (by decide) _ _).trans ?_
    rw [modWd_rest (by decide)]
    exact rest_mono (by decide) hrest

theorem pwrStateReqPark_accepted {s : State} {p : Port} {row : ObjRow} (ha : answering s = true) (hw : checkWrite s p 0x2108 0x02 = .ok row)
    (he : s.pwr.parkEntry = false) (hs : s.pwr.state = .doze) : ∃ t, exec (.pwrStateReqPark p) s = .next t ∧ t.ack = .done ∧
      t.pwr = { s.pwr with parkEntry := true, req := .park, fired := 0, wakeTimerOn := decide (s.wakeTimer ≠ 0) } ∧
      t.chg.current = 0 ∧ t.gauge.outRunning = false ∧ (∀ g, groupRests g t) ∧ t.part = s.part ∧ t.mram = s.mram ∧ t.hamper = s.hamper := by
  obtain ⟨hpwr, hchg, hout, hgroups, hframe⟩ := parkAccept_spec (s.store (okey 0x2108 0x02) 2)
  have htimer : (s.store (okey 0x2108 0x02) 2).wakeTimer = s.wakeTimer := setRaw_store_other (by decide) _ _ _
  rw [htimer] at hpwr
  have hop : pwrReqOp 2 s = (parkAccept (s.store (okey 0x2108 0x02) 2), .done) := by
    rw [pwrReqOp_park, if_neg (Bool.not_eq_true _ ▸ he), if_pos hs]
  obtain ⟨u, hu⟩ : ∃ u, u = parkAccept (s.store (okey 0x2108 0x02) 2) := ⟨_, rfl⟩
  rw [← hu] at hpwr hchg hout hgroups hframe hop
  have hrest : rest (.settings :: .pwr :: .wd :: parkFields) u = rest (.settings :: .pwr :: .wd :: parkFields) s :=
    (rest_mono (by decide) hframe).trans (store_rest (by decide) s _ _)
  exact ⟨setAck .done u, by rw [exec_pwrStateReqPark ha hw, hop], rfl, hpwr, hchg, hout, hgroups,
    (rest_part hrest (by decide) : u.part = s.part), (rest_mram hrest (by decide) : u.mram = s.mram),
    (rest_hamper hrest (by decide) : u.hamper = s.hamper)⟩

/-! DOZE is entered with no rail enabled (R92). -/

theorem exec_dozeEntry {s : State} (hb : s.boot.phase = .ready) (hs : s.pwr.state = .run) (hr : s.pwr.req = .doze) (hon : anyRailOn s = false) :
    exec .dozeEntry s = .next { s with pwr := { s.pwr with state := .doze } } := by
  show Host.Outcome.next (if _ then _ else _) = _
  rw [hb, hs, hr, hon]
  rfl

theorem exec_dozeEntry_railOn {s : State} (hon : anyRailOn s = true) : exec .dozeEntry s = .next s := by
  show Host.Outcome.next (if _ then _ else _) = _
  rw [hon, Bool.not_true, Bool.and_false]
  rfl

/-! SYS stops (R90, R91). -/

theorem exec_sysStop_waits {s : State} (h : s.pwr.parkEntry = false ∨ mayPark s = false) : exec .sysStop s = .next s := by
  refine if_pos ?_
  rcases h with h | h <;> simp [h]

theorem canPark_rest_can (n : Fin 4) (s : State) : rest [.evc, .tw, .can, .update] (canPark n s) = rest [.evc, .tw, .can, .update] s := by
  unfold canPark
  split
  · rfl
  · rw [updPortLost_rest (by decide) (by decide) (by decide) (by decide), canStop_rest (by decide)]

theorem canPark_get_ne {j n : Fin 4} (h : j ≠ n) (s : State) : (canPark n s).can[j] = s.can[j] := by
  by_cases hs : s.can[n].phase.stopped = true
  · rw [canPark, if_pos hs]
  · rw [canPark, if_neg hs, updPortLost_get_ne h, canStop_get_ne h]

/-- A port is stopped by PARK. -/
theorem canPark_stopped (n : Fin 4) (s : State) : (canPark n s).can[n].phase.stopped = true := by
  by_cases hs : s.can[n].phase.stopped = true
  · rw [canPark, if_pos hs]
    exact hs
  · rw [canPark, if_neg hs]
    have hphase := canStop_get n .disabled s
    obtain ⟨u, hu⟩ : ∃ u, u = canStop n .disabled s := ⟨_, rfl⟩
    rw [← hu] at hphase ⊢
    obtain ⟨hbooks, -⟩ := updPortLost_quiet (n := n) (s := u) (by rw [hphase]; decide) (by rw [hphase]; decide)
    have hsame : (updPortLost (portOfCan n) u).can[n].phase = u.can[n].phase := congrArg Prod.fst hbooks
    rw [hsame, hphase]
    rfl

/-- Every port stopped for PARK. -/
def portsParked (s : State) : State := (allFin 4).foldl (fun a n => canPark n a) s

theorem portsParked_rest (s : State) : rest [.evc, .tw, .can, .update] (portsParked s) = rest [.evc, .tw, .can, .update] s :=
  foldl_keeps _ (fun a n => canPark_rest_can n a) _ s

theorem portsParked_stopped (n : Fin 4) (s : State) : (portsParked s).can[n].phase.stopped = true := by
  refine foldl_establishes (P := fun a => a.can[n].phase.stopped = true) (List.mem_finRange n) (canPark_stopped n) (fun a m h => ?_) s
  by_cases hm : n = m
  · rw [← hm]
    exact canPark_stopped n a
  · rw [canPark_get_ne hm]
    exact h

/-- What PARK does to the rest of the device once the ports are stopped. -/
def parked (s : State) : State := { s with
  pwr := { s.pwr with state := .park, parkEntry := false }
  boot := { s.boot with odAnswering := false }
  ewd := { s.ewd with suspCnt := satAdd max32 s.ewd.suspCnt 1 }
  zin := s.zin.map fun x => { x with timersStopped := true, insRunning := false, limTimer := false }
  tw := s.tw.map fun t => { t with due := false }
  hk := { s.hk with disabling := false }
  pp := if anyKeptOn s then s.pp else chargerStopped s.pp
  gauge := { s.gauge with parkStart := s.devTime, parkSource := decide (s.pp.phase = .source) } }

theorem exec_sysStop {s : State} (he : s.pwr.parkEntry = true) (hm : mayPark s = true) : exec .sysStop s = .next (parked (portsParked s)) := by
  refine if_neg ?_
  simp [he, hm]

theorem parked_rest (s : State) : rest [.boot, .pwr, .zin, .pp, .gauge, .hk, .ewd, .tw] (parked s) = rest [.boot, .pwr, .zin, .pp, .gauge, .hk, .ewd, .tw] s := by
  unfold parked
  simp [rest]

theorem sysStop_parks {s : State} (he : s.pwr.parkEntry = true) (hm : mayPark s = true) :
    ∃ t, exec .sysStop s = .next t ∧ t.pwr.state = .park ∧ t.pwr.parkEntry = false ∧ t.boot.odAnswering = false ∧
      t.ewd.suspCnt = satAdd max32 s.ewd.suspCnt 1 ∧ (∀ n : Fin 4, t.can[n].phase.stopped = true) ∧
      t = { s with boot := t.boot, pwr := t.pwr, zin := t.zin, pp := t.pp, gauge := t.gauge, hk := t.hk, ewd := t.ewd, evc := t.evc, tw := t.tw, can := t.can, update := t.update } := by
  have hrest := portsParked_rest s
  have hstopped := fun n => portsParked_stopped n s
  have hexec := exec_sysStop he hm
  obtain ⟨u, hu⟩ : ∃ u, u = portsParked s := ⟨_, rfl⟩
  simp only [← hu] at hrest hstopped hexec
  refine ⟨parked u, hexec, rfl, rfl, rfl, ?_, hstopped, rest_patch (F := [.boot, .pwr, .zin, .pp, .gauge, .hk, .ewd, .evc, .tw, .can, .update])
    ((rest_mono (by decide) (parked_rest u)).trans (rest_mono (by decide) hrest))⟩
  rw [← rest_ewd hrest (by decide)]
  rfl

/-- Settles O7: a request is its operation on the stored setting, an accepted PARK parks every group, and SYS stops with every port. -/
theorem powerStates : Obligations.PowerStates := by
  unfold Obligations.PowerStates
  intro s p
  refine ⟨fun row ha hw => ?_, exec_dozeEntry, exec_dozeEntry_railOn, exec_sysStop_waits, sysStop_parks⟩
  refine ⟨pwrStateReqRun_spec ha hw, pwrStateReqRun_other ha hw, pwrStateReqDoze_stands ha hw, pwrStateReqDoze_withdraws ha hw,
    pwrStateReqPark_refused ha hw, fun he hs => ?_, pwrStateReqPark_again ha hw⟩
  obtain ⟨t, ht, hack, hpwr, hchg, hout, hgroups, hpart, hmram, hhamper⟩ := pwrStateReqPark_accepted ha hw he hs
  exact ⟨t, ht, hack, by rw [hpwr], by rw [hpwr], by rw [hpwr]; exact hs, by rw [hpwr], hchg, hout, by rw [hpwr]; exact decide_eq_true_iff,
    hgroups, hpart, hmram, hhamper⟩

end Sys2Proof.Proofs

namespace Sys2Proof.Proofs

open Sys2Proof.Machine Sys2Proof.Laws

/-! ### The vote at boot (R100 to R104) -/

/-! What step 6 leaves of the settings and of the boot record that the vote gave. -/

/-- Every field but the settings and the boot record. -/
abbrev notVoted : List Fld := allBut [.settings, .boot]

theorem logSkTimeout_rest (s : State) : rest notVoted (logSkTimeout s) = rest notVoted s := by
  unfold logSkTimeout
  split <;> simp

theorem logVote_rest (s : State) : rest notVoted (logVote s) = rest notVoted s := by
  unfold logVote
  dsimp only
  (repeat' split) <;> simp

theorem loadAlmanac_rest (s : State) : rest notVoted (loadAlmanac s) = rest notVoted s := by
  unfold loadAlmanac
  split <;> simp

theorem abandonedWriteBacks_rest (s : State) : rest notVoted (abandonedWriteBacks s) = rest notVoted s := by
  refine foldl_keeps _ (fun a k => ?_) _ s
  dsimp only
  (repeat' split) <;> simp

theorem presentFix_rest (s : State) : rest notVoted (presentFix s) = rest notVoted s := by
  unfold presentFix
  refine (foldl_keeps _ (fun a k => ?_) _ _).trans (modNv_rest (by simp) _ s)
  split <;> simp

theorem zoneConfigure_rest (n : Fin 4) (s : State) : rest notVoted (zoneConfigure n s) = rest notVoted s := by
  unfold zoneConfigure
  dsimp only
  (repeat' split) <;> simp

theorem channelsConfigure_rest (s : State) : rest notVoted (channelsConfigure s) = rest notVoted s := by
  unfold channelsConfigure
  refine (foldl_keeps _ (fun a n => ?_) _ _).trans (foldl_keeps _ (fun a n => zoneConfigure_rest n a) _ s)
  simp

theorem railConfigure_rest (r : Fin 28) (s : State) : rest notVoted (railConfigure r s) = rest notVoted s := by
  unfold railConfigure
  split <;> simp

theorem gangForm_rest (g : Fin 4) (s : State) : rest notVoted (gangForm g s) = rest notVoted s := by
  unfold gangForm
  split
  · rfl
  · extract_lets code s1 s2
    split
    · refine (foldl_keeps _ (fun a k => ?_) _ _).trans (b := rest notVoted s2) ?_
      · split <;> simp
      · unfold s2
        split <;> simp [s1]
    · simp

theorem gangsConfigure_rest (s : State) : rest notVoted (gangsConfigure s) = rest notVoted s := by
  unfold gangsConfigure
  refine (foldl_keeps _ (fun a r => ?_) _ _).trans (foldl_keeps _ (fun a g => gangForm_rest g a) _ s)
  split <;> simp

theorem pathStart_rest (s : State) : rest notVoted (pathStart s) = rest notVoted s := by
  unfold pathStart
  dsimp only
  (repeat' split) <;> simp

theorem packStart_rest (s : State) : rest notVoted (packStart s) = rest notVoted s := by
  unfold packStart
  dsimp only
  split <;> simp

theorem portsConfigure_rest (s : State) : rest notVoted (portsConfigure s) = rest notVoted s := by
  refine (foldl_keeps _ (fun a n => ?_) _ _).trans (rest_with_tw (by simp) s _)
  simp

theorem itemConfigure_rest (i : Fin 46) (s : State) : rest notVoted (itemConfigure i s) = rest notVoted s := by
  unfold itemConfigure
  split
  · rfl
  · split
    · simp
    · dsimp only
      split <;> simp

theorem seqConfigure_rest (s : State) : rest notVoted (seqConfigure s) = rest notVoted s := by
  unfold seqConfigure
  refine (foldl_keeps _ (fun a g => ?_) _ _).trans (foldl_keeps _ (fun a i => itemConfigure_rest i a) _ s)
  simp

theorem logStart_rest (s : State) : rest notVoted (logStart s) = rest notVoted s := by
  unfold logStart
  refine (foldl_keeps _ (fun a f => ?_) _ _).trans (rest_with_log (by simp) s _)
  simp

/-- What the vote leaves behind: the settings and its entries of the boot record. -/
structure Voted where
  settings : List (Nat × Nat)
  crcValid : Nat
  copyUsed : Nat
  cfgGen : Nat
  repairs : List (Fin 3)
  cfgRepaired : Bool
  cfgAbandoned : Bool
  cfgSplit : Bool
  hcUsed : Bool
  hcInvalid : Bool

def voted (s : State) : Voted :=
  ⟨s.settings, s.boot.crcValid, s.boot.copyUsed, s.boot.cfgGen, s.boot.repairs, s.boot.cfgRepaired, s.boot.cfgAbandoned, s.boot.cfgSplit,
    s.boot.hcUsed, s.boot.hcInvalid⟩

theorem voted_of_rest {s t : State} (h : rest notVoted t = rest notVoted s) : voted t = voted s := by
  rw [voted, rest_settings h (by simp), rest_boot h (by simp)]
  rfl

theorem bootRecord_voted (s : State) : voted (bootRecord s) = voted s := by
  unfold bootRecord
  dsimp only
  rw [voted_of_rest (ctrAppend_rest (by simp) (by simp) (by simp) _ _ _), voted_of_rest (ctrAppend_rest (by simp) (by simp) (by simp) _ _ _),
    voted_of_rest (ctrAppend_rest (by simp) (by simp) (by simp) _ _ _), voted_of_rest (ctrAppend_rest (by simp) (by simp) (by simp) _ _ _)]
  rfl

/-- Step 6 changes nothing that the vote gave. -/
theorem bootStep6_voted (s : State) : voted (bootStep6 s) = voted s := by
  unfold bootStep6
  extract_lets s1 s2 s3 s4
  have h1 : voted s1 = voted s := by
    unfold s1
    rw [voted_of_rest (presentFix_rest _), voted_of_rest (abandonedWriteBacks_rest _), voted_of_rest (loadAlmanac_rest _),
      voted_of_rest (logVote_rest _), voted_of_rest (logSkTimeout_rest _), bootRecord_voted, voted_of_rest (loadCounters_rest (by simp) _),
      voted_of_rest (trainLinks_rest (by simp) _)]
  have h2 : voted s2 = voted s1 := by
    unfold s2
    rw [voted_of_rest (foldl_keeps _ (fun a r => railConfigure_rest r a) _ _), voted_of_rest (channelsConfigure_rest _)]
  have h3 : voted s3 = voted s2 := by
    unfold s3
    rw [voted_of_rest (pathStart_rest _), voted_of_rest (gangsConfigure_rest _), voted_of_rest (phasesConfigure_rest (by simp) _)]
  have h4 : voted s4 = voted s3 := by
    unfold s4
    rw [voted_of_rest (modNv_rest (by simp) _ _), voted_of_rest (portsConfigure_rest _), voted_of_rest (wdConfigure_rest (by simp) _),
      voted_of_rest (houseStart_rest (by simp) (by simp) (by simp) _), voted_of_rest (packStart_rest _)]
  have hphase : ∀ u : State, voted (modBoot (fun b => { b with phase := .starting }) u) = voted u := fun _ => rfl
  rw [voted_of_rest (areaFull_rest (by simp) (by simp) (by simp) _), hphase, voted_of_rest (logStart_rest _), voted_of_rest (seqConfigure_rest _),
    h4, h3, h2, h1]

/-- What the vote over a store gives (R100, R103, R104). -/
def ballot (p : Part) (m : Mram) : Voted where
  settings := match (vote m.cfg).used with
    | some k => (applyBody p false m.cfg[k].body).1
    | none => if m.hc.valid then (applyBody p true m.hc.body).1 else []
  crcValid := bitsOf (m.cfg.toList.map fun c => c.valid)
  copyUsed := match (vote m.cfg).used with | some k => k.val | none => 3
  cfgGen := match (vote m.cfg).used with | some k => m.cfg[k].gen | none => 0
  repairs := (vote m.cfg).repairs
  cfgRepaired := !(vote m.cfg).repairs.isEmpty
  cfgAbandoned := (vote m.cfg).abandoned
  cfgSplit := (vote m.cfg).used.isNone
  hcUsed := (vote m.cfg).used.isNone
  hcInvalid := (vote m.cfg).used.isNone && !m.hc.valid

theorem takeHomeChart_voted (s : State) : voted (takeHomeChart s) = voted s :=
  voted_of_rest (takeHomeChart_rest (by simp) (by simp) (by simp) s)

theorem bootVote_voted (s : State) : voted (bootVote s) = ballot s.part s.mram := by
  have hmode : voted (bootVote s) = voted (applyVote s) := rfl
  rw [hmode]
  unfold applyVote ballot
  dsimp only
  rcases vote s.mram.cfg with ⟨_ | k, repairs, abandoned⟩
  · rw [takeHomeChart_voted, voted]
    cases s.mram.hc.valid <;> rfl
  · rw [takeHomeChart_voted]
    rfl

/-! The table of R100. -/

theorem copiesAgree_valid {x y : CfgCopy} (h : copiesAgree x y = true) : x.valid = true ∧ y.valid = true := by
  simp only [copiesAgree, Bool.and_eq_true] at h
  exact h.1.1

theorem copiesAgree_left {x y : CfgCopy} (h : x.valid = false) : copiesAgree x y = false := by simp [copiesAgree, h]

theorem copiesAgree_right {x y : CfgCopy} (h : y.valid = false) : copiesAgree x y = false := by simp [copiesAgree, h]

section
variable {cs : Vector CfgCopy 3}

theorem vote_first_second (h : copiesAgree cs[(0 : Fin 3)] cs[(1 : Fin 3)] = true) :
    vote cs = ⟨some 0, if copiesAgree cs[(1 : Fin 3)] cs[(2 : Fin 3)] = true then [] else [2], false⟩ := by
  obtain ⟨ha, hb⟩ := copiesAgree_valid h
  unfold vote
  dsimp only
  rw [ha, hb, h]
  cases hd : cs[(2 : Fin 3)].valid
  · rw [copiesAgree_right hd]
    rfl
  · cases copiesAgree cs[(1 : Fin 3)] cs[(2 : Fin 3)] <;> rfl

theorem vote_first_third (h : copiesAgree cs[(0 : Fin 3)] cs[(1 : Fin 3)] = false) (h2 : copiesAgree cs[(0 : Fin 3)] cs[(2 : Fin 3)] = true) :
    vote cs = ⟨some 0, [1], false⟩ := by
  obtain ⟨ha, hd⟩ := copiesAgree_valid h2
  unfold vote
  dsimp only
  rw [ha, hd, h, h2]
  cases cs[(1 : Fin 3)].valid <;> rfl

theorem vote_second_third (h : copiesAgree cs[(0 : Fin 3)] cs[(1 : Fin 3)] = false) (h2 : copiesAgree cs[(0 : Fin 3)] cs[(2 : Fin 3)] = false)
    (h3 : copiesAgree cs[(1 : Fin 3)] cs[(2 : Fin 3)] = true) : vote cs = ⟨some 1, [0], false⟩ := by
  obtain ⟨hb, hd⟩ := copiesAgree_valid h3
  unfold vote
  dsimp only
  rw [hb, hd, h, h2, h3]
  cases cs[(0 : Fin 3)].valid <;> rfl

theorem vote_abandoned (ha : cs[(0 : Fin 3)].valid = true) (hb : cs[(1 : Fin 3)].valid = false) (hd : cs[(2 : Fin 3)].valid = true)
    (hgen : cs[(0 : Fin 3)].gen = (cs[(2 : Fin 3)].gen + 1) % 2 ^ 32) (h : copiesAgree cs[(0 : Fin 3)] cs[(2 : Fin 3)] = false) :
    vote cs = ⟨some 2, [0, 1], true⟩ := by
  unfold vote
  dsimp only
  rw [ha, hb, hd, h]
  exact if_pos hgen

theorem vote_split (h : copiesAgree cs[(0 : Fin 3)] cs[(1 : Fin 3)] = false) (h2 : copiesAgree cs[(0 : Fin 3)] cs[(2 : Fin 3)] = false)
    (h3 : copiesAgree cs[(1 : Fin 3)] cs[(2 : Fin 3)] = false) (hn : ¬(cs[(0 : Fin 3)].valid = true ∧ cs[(1 : Fin 3)].valid = false ∧
      cs[(2 : Fin 3)].valid = true ∧ cs[(0 : Fin 3)].gen = (cs[(2 : Fin 3)].gen + 1) % 2 ^ 32)) : vote cs = ⟨none, [], false⟩ := by
  unfold vote
  dsimp only
  rw [h, h2, h3]
  cases ha : cs[(0 : Fin 3)].valid <;> cases hb : cs[(1 : Fin 3)].valid <;> cases hd : cs[(2 : Fin 3)].valid
  case true.false.true => exact if_neg fun hgen => hn ⟨ha, hb, hd, hgen⟩
  all_goals rfl

end

theorem copies_toList (cs : Vector CfgCopy 3) : cs.toList = [cs[(0 : Fin 3)], cs[(1 : Fin 3)], cs[(2 : Fin 3)]] := by
  obtain ⟨⟨l⟩, hl⟩ := cs
  match l, hl with
  | [a, b, d], _ => rfl

section
variable {p : Part} {m : Mram}

/-- A copy that the vote uses gives the settings. -/
theorem ballot_copy {k : Fin 3} {l : List (Fin 3)} {w : Bool} (h : vote m.cfg = ⟨some k, l, w⟩) : ballot p m =
    ⟨(applyBody p false m.cfg[k].body).1, bitsOf (m.cfg.toList.map fun c => c.valid), k.val, m.cfg[k].gen, l, !l.isEmpty, w, false, false, false⟩ := by
  unfold ballot
  rw [h]
  rfl

/-- With no copy that the vote uses the Home Chart gives them. -/
theorem ballot_split (h : vote m.cfg = ⟨none, [], false⟩) : ballot p m =
    ⟨if m.hc.valid = true then (applyBody p true m.hc.body).1 else [], bitsOf (m.cfg.toList.map fun c => c.valid), 3, 0, [], false, false, true, true,
      !m.hc.valid⟩ := by
  unfold ballot
  rw [h]
  rfl

end

/-- A good attempt with a bank that counts as ACTIVE votes over the store as it stands. -/
theorem selfTest_votes {s : State} (h : s.boot.phase = .selfTest) {f : Nat} (hf : f % 256 = 0) {k : Fin 2}
    (hk : bankState s.mram.banks[k] = .active) (he : s.mram.errs = []) (w : Vector Nat 8) : ∃ t,
      exec (.hamperSelfTestEnd w f) s = .next t ∧ voted t = ballot s.part s.mram ∧ t.mram.cfg = s.mram.cfg := by
  obtain ⟨hmram, -, hkept⟩ := keyReady_spec he w
  obtain ⟨u, hu⟩ : ∃ u, u = (selectBank (keyReady w s)).1 := ⟨_, rfl⟩
  have hexec : exec (.hamperSelfTestEnd w f) s = .next (bootStep6 (bootVote u)) := by
    rw [exec_selfTest_good h hf, selectBank_active (k := k) (by rw [hmram]; exact hk), if_pos rfl, hu]
  have hpart : u.part = s.part := by
    have hsel := selectBank_kept (keyReady w s)
    rw [← hu, hkept] at hsel
    exact congrArg Kept.part hsel
  have hstore : storeKept u = storeKept (keyReady w s) := by rw [hu, selectBank_storeKept]
  have hcfg : u.mram.cfg = s.mram.cfg := (congrArg (fun x => x.2.2.1) hstore).trans (congrArg Mram.cfg hmram)
  have hhc : u.mram.hc = s.mram.hc := (congrArg (fun x => x.2.2.2) hstore).trans (congrArg Mram.hc hmram)
  have hballot : ballot u.part u.mram = ballot s.part s.mram := by rw [ballot, hpart, hcfg, hhc, ballot]
  have hend : storeKept (bootStep6 (bootVote u)) = storeKept u := by rw [bootStep6_storeKept, storeKept_of_rest (s := u) (by simp)]
  have hvoted := (bootStep6_voted (bootVote u)).trans ((bootVote_voted u).trans hballot)
  obtain ⟨t, ht⟩ : ∃ t, t = bootStep6 (bootVote u) := ⟨_, rfl⟩
  rw [← ht] at hexec hend hvoted
  exact ⟨t, hexec, hvoted, (congrArg (fun x => x.2.2.1) hend).trans hcfg⟩

/-- A copy that the vote uses, with the copies it marks for repair: the table of R100 as its outcomes. -/
theorem vote_uses {cs : Vector CfgCopy 3} {a b d x : CfgCopy} {n : Nat} {l : List (Fin 3)} (ha : a = cs[(0 : Fin 3)]) (hb : b = cs[(1 : Fin 3)])
    (hd : d = cs[(2 : Fin 3)])
    (h : (copiesAgree a b = true ∧ x = a ∧ n = 0 ∧ l = if copiesAgree b d = true then [] else [2]) ∨
      (copiesAgree a b = false ∧ copiesAgree a d = true ∧ x = a ∧ n = 0 ∧ l = [1]) ∨
      (copiesAgree a b = false ∧ copiesAgree a d = false ∧ copiesAgree b d = true ∧ x = b ∧ n = 1 ∧ l = [0]) ∨
      (a.valid = true ∧ b.valid = false ∧ d.valid = true ∧ a.gen = (d.gen + 1) % 2 ^ 32 ∧ copiesAgree a d = false ∧
        x = d ∧ n = 2 ∧ l = [0, 1])) :
    ∃ j : Fin 3, vote cs = ⟨some j, l, decide (n = 2)⟩ ∧ x = cs[j] ∧ n = j.val := by
  subst ha hb hd
  rcases h with ⟨hab, rfl, rfl, rfl⟩ | ⟨hab, had, rfl, rfl, rfl⟩ | ⟨hab, had, hbd, rfl, rfl, rfl⟩ | ⟨hav, hbv, hdv, hgen, had, rfl, rfl, rfl⟩
  · exact ⟨0, vote_first_second hab, rfl, rfl⟩
  · exact ⟨0, vote_first_third hab had, rfl, rfl⟩
  · exact ⟨1, vote_second_third hab had hbd, rfl, rfl⟩
  · exact ⟨2, vote_abandoned hav hbv hdv hgen had, rfl, rfl⟩

section
variable {t s : State} (h : voted t = ballot s.part s.mram)
include h

theorem voted_crcValid : t.boot.crcValid = bitsOf [s.mram.cfg[(0 : Fin 3)].valid, s.mram.cfg[(1 : Fin 3)].valid, s.mram.cfg[(2 : Fin 3)].valid] := by
  have hcrc : t.boot.crcValid = (ballot s.part s.mram).crcValid := congrArg Voted.crcValid h
  rw [hcrc, ballot, copies_toList s.mram.cfg]
  rfl

theorem voted_copy {j : Fin 3} {l : List (Fin 3)} {n : Nat} (hj : vote s.mram.cfg = ⟨some j, l, decide (n = 2)⟩) :
    t.boot.copyUsed = j.val ∧ t.boot.cfgGen = s.mram.cfg[j].gen ∧ t.boot.repairs = l ∧ (t.boot.cfgRepaired = true ↔ l ≠ []) ∧
      (t.boot.cfgAbandoned = true ↔ n = 2) ∧ t.boot.cfgSplit = false ∧ t.boot.hcUsed = false ∧ t.boot.hcInvalid = false ∧
      t.settings = (applyBody s.part false s.mram.cfg[j].body).1 := by
  rw [ballot_copy hj, voted, Voted.mk.injEq] at h
  obtain ⟨hset, -, hused, hgen, hrep, hrepaired, habandoned, hsplit, hhc, hinv⟩ := h
  refine ⟨hused, hgen, hrep, ?_, by rw [habandoned, decide_eq_true_iff], hsplit, hhc, hinv, hset⟩
  rw [hrepaired]
  cases l <;> simp

theorem voted_split (hv : vote s.mram.cfg = ⟨none, [], false⟩) :
    t.boot.copyUsed = 3 ∧ t.boot.cfgGen = 0 ∧ t.boot.repairs = [] ∧ t.boot.cfgRepaired = false ∧ t.boot.cfgAbandoned = false ∧
      t.boot.cfgSplit = true ∧ t.boot.hcUsed = true ∧ t.boot.hcInvalid = !s.mram.hc.valid ∧
      t.settings = if s.mram.hc.valid = true then (applyBody s.part true s.mram.hc.body).1 else [] := by
  rw [ballot_split hv, voted, Voted.mk.injEq] at h
  obtain ⟨hset, -, hused, hgen, hrep, hrepaired, habandoned, hsplit, hhc, hinv⟩ := h
  exact ⟨hused, hgen, hrep, hrepaired, habandoned, hsplit, hhc, hinv, hset⟩

end

end Sys2Proof.Proofs

namespace Sys2Proof.Proofs

open Sys2Proof.Machine Sys2Proof.Laws

/-! ### The configuration copies (R369, R372, R373) -/

theorem startCopy_eq (k : Fin 3) (s : State) : startCopy k s = { s with
    nv := { s.nv with saveCopy := some k }
    mram := { (mramFresh (copyOffset k) 0x8000 s).mram with cfg := vmod s.mram.cfg k fun c => { c with valid := false, gen := 0 } } } := rfl

theorem mramFresh_nv (base n : Nat) (f : StoreState → StoreState) (s : State) : (mramFresh base n (modNv f s)).mram = (mramFresh base n s).mram := rfl

section
variable {s : State} {p : Port} {row : ObjRow} (ha : answering s = true) (hw : checkWrite s p 0x2801 0x01 = .ok row)
include ha hw

theorem exec_cfgSave (v : Nat) : exec (.cfgSave p v) s = .next (setAck (cfgSaveOp v s).2 (cfgSaveOp v s).1) :=
  congrArg Host.Outcome.next (directWrite_ok (by decide) ha hw _)

theorem cfgSave_runs (v : Nat) (hr : saveRuns s = true) : exec (.cfgSave p v) s = .next { s with ack := .abort .state } := by
  rw [exec_cfgSave ha hw, cfgSaveOp, if_pos hr]
  rfl

theorem cfgSave_noKey (v : Nat) (hv : v ≠ 0x5AFE) (hr : saveRuns s = false) : exec (.cfgSave p v) s = .next { s with ack := .done } := by
  rw [exec_cfgSave ha hw, cfgSaveOp, if_neg (Bool.not_eq_true _ ▸ hr), if_pos hv]
  rfl

theorem cfgSave_starts (hr : saveRuns s = false) : exec (.cfgSave p 0x5AFE) s = .next { s with
    ack := .done
    nv := { s.nv with
      saveGen := nextGen s, saveBody := imageOf s, saveStatus := 1, repairing := false, saveCopy := some 0 }
    mram := { (mramFresh 0x80000 0x8000 s).mram with cfg := vmod s.mram.cfg 0 fun c => { c with valid := false, gen := 0 } } } := by
  have hbase : copyOffset 0 = 0x80000 := rfl
  rw [exec_cfgSave ha hw, cfgSaveOp, if_neg (Bool.not_eq_true _ ▸ hr), if_neg (not_not.mpr rfl), startCopy_eq, hbase, mramFresh_nv]
  simp only [setAck, modNv]

end

theorem configCopyWritten_waits {s : State} (ok : Bool) (h : s.nv.saveCopy = none ∨ journalWaits s = true) :
    exec (.configCopyWritten ok) s = .next s := by
  show execConfigCopyWritten ok s = _
  unfold execConfigCopyWritten
  split
  · rfl
  · next k hk =>
    have hj := h.resolve_left (by rw [hk]; exact Option.some_ne_none k)
    rw [if_pos hj]

section
variable {s : State} {k : Fin 3} (hk : s.nv.saveCopy = some k) (hj : journalWaits s = false)
include hk hj

theorem exec_configCopyWritten (ok : Bool) : exec (.configCopyWritten ok) s = .next (if ok = true then copyDone k s else saveFailed k s) := by
  show execConfigCopyWritten ok s = _
  unfold execConfigCopyWritten
  rw [hk]
  exact congrArg Host.Outcome.next (if_neg (Bool.not_eq_true _ ▸ hj))

/-- A copy written well is valid, and the next one starts. -/
theorem configCopyWritten_next (hr : s.nv.repairing = false) (j : Fin 3) (hnext : j.val = k.val + 1) :
    exec (.configCopyWritten true) s = .next { s with
        nv := { s.nv with saveCopy := some j }
        mram := { (mramFresh (copyOffset j) 0x8000 s).mram with
          cfg := vmod (vset s.mram.cfg k ⟨true, s.nv.saveGen, s.nv.saveBody⟩) j fun c => { c with valid := false, gen := 0 } } } := by
  have hfin : fin? 3 (k.val + 1) = some j := by
    rw [← hnext]
    exact dif_pos j.isLt
  rw [exec_configCopyWritten hk hj, if_pos rfl, copyDone, if_neg (Bool.not_eq_true _ ▸ hr)]
  dsimp only
  rw [hfin]
  rfl

/-- A repair with no further copy to rewrite is done. -/
theorem configCopyWritten_repaired (hr : s.nv.repairing = true) (hl : s.boot.repairs = []) : ∃ t,
      exec (.configCopyWritten true) s = .next t ∧ t.mram.cfg = vset s.mram.cfg k ⟨true, s.nv.saveGen, s.nv.saveBody⟩ ∧
      t.nv.saveCopy = none ∧ t.nv.repairing = false ∧ t = { s with mram := t.mram, nv := t.nv, log := t.log, evc := t.evc, tw := t.tw } := by
  obtain ⟨s1, hs1⟩ : ∃ s1, s1 = modCopy k (fun _ => ⟨true, s.nv.saveGen, s.nv.saveBody⟩) s := ⟨_, rfl⟩
  obtain ⟨u, hu⟩ : ∃ u, u = logFault .configRepaired 0 k (configStatus s1) s1 := ⟨_, rfl⟩
  have hlog : rest [.nv, .log, .evc, .tw] u = rest [.nv, .log, .evc, .tw] s1 := by
    rw [hu]
    exact logFault_rest (by decide) (by decide) (by decide) (by decide) _ _ _ _ _
  have hcopy : rest [.mram, .nv, .log, .evc, .tw] s1 = rest [.mram, .nv, .log, .evc, .tw] s := by
    rw [hs1]
    exact modCopy_rest (by decide) _ _ _
  have hcfg : s1.mram.cfg = vset s.mram.cfg k ⟨true, s.nv.saveGen, s.nv.saveBody⟩ := by rw [hs1]; rfl
  have hrep : u.boot.repairs = [] := by rw [rest_boot hlog (by decide), rest_boot hcopy (by decide), hl]
  have hdone : nextRepair u = modNv (fun v => { v with repairing := false, saveCopy := none }) u := by
    unfold nextRepair
    rw [hrep]
  have hexec : exec (.configCopyWritten true) s = .next (modNv (fun v => { v with repairing := false, saveCopy := none }) u) := by
    rw [exec_configCopyWritten hk hj, if_pos rfl, copyDone, if_pos hr, ← hdone, hu, hs1]
  refine ⟨_, hexec, ?_, rfl, rfl, rest_patch (F := [.mram, .nv, .log, .evc, .tw]) ?_⟩
  · exact (congrArg Mram.cfg (rest_mram hlog (by decide))).trans hcfg
  · exact (modNv_rest (by decide) _ u).trans ((rest_mono (by decide) hlog).trans hcopy)

/-- A copy whose write fails is invalid and ends the save. -/
theorem configCopyWritten_fails (hr : s.nv.repairing = false) : ∃ t, exec (.configCopyWritten false) s = .next t ∧
      t.nv.saveCopy = none ∧ t.nv.saveStatus = 3 ∧ t.mram.cfg[k] = ⟨false, 0, s.nv.saveBody⟩ ∧
      (∀ j : Fin 3, j ≠ k → t.mram.cfg[j] = s.mram.cfg[j]) ∧ t = { s with mram := t.mram, nv := t.nv, log := t.log, evc := t.evc, tw := t.tw } := by
  obtain ⟨s1, hs1⟩ : ∃ s1, s1 = modCopy k (fun _ => ⟨false, 0, s.nv.saveBody⟩) s := ⟨_, rfl⟩
  obtain ⟨u, hu⟩ : ∃ u, u = logFault .mramWriteFail 0 0 (copyOffset k) s1 := ⟨_, rfl⟩
  obtain ⟨v, hv⟩ : ∃ v, v = modNv (fun v => { v with saveCopy := none, saveStatus := 3 }) u := ⟨_, rfl⟩
  have hlog : rest [.nv, .log, .evc, .tw] u = rest [.nv, .log, .evc, .tw] s1 := by
    rw [hu]
    exact logFault_rest (by decide) (by decide) (by decide) (by decide) _ _ _ _ _
  have hcopy : rest [.mram, .nv, .log, .evc, .tw] s1 = rest [.mram, .nv, .log, .evc, .tw] s := by
    rw [hs1]
    exact modCopy_rest (by decide) _ _ _
  have hend : rest [.evc, .tw] (saveEvent v) = rest [.evc, .tw] v := saveEvent_rest (by decide) (by decide) v
  have hexec : exec (.configCopyWritten false) s = .next (saveEvent v) := by
    rw [exec_configCopyWritten hk hj, if_neg Bool.false_ne_true, saveFailed, hr, hv, hu, hs1]
    rfl
  have hvnv : v.nv.saveCopy = none ∧ v.nv.saveStatus = 3 := by rw [hv]; exact ⟨rfl, rfl⟩
  have hvu : rest [.nv] v = rest [.nv] u := by rw [hv]; exact modNv_rest (by decide) _ u
  have hcfg : (saveEvent v).mram.cfg = vmod s.mram.cfg k fun _ => ⟨false, 0, s.nv.saveBody⟩ := by
    rw [rest_mram hend (by decide), rest_mram hvu (by decide), rest_mram hlog (by decide), hs1]
    rfl
  have hframe : rest [.mram, .nv, .log, .evc, .tw] (saveEvent v) = rest [.mram, .nv, .log, .evc, .tw] s :=
    (rest_mono (by decide) hend).trans ((rest_mono (by decide) hvu).trans ((rest_mono (by decide) hlog).trans hcopy))
  obtain ⟨t, ht⟩ : ∃ t, t = saveEvent v := ⟨_, rfl⟩
  rw [← ht] at hend hexec hcfg hframe
  have hnv : t.nv = v.nv := rest_nv hend (by decide)
  refine ⟨t, hexec, by rw [hnv, hvnv.1], by rw [hnv, hvnv.2], by rw [hcfg, vmod_get], fun j hjk => by rw [hcfg, vmod_get_ne hjk],
    rest_patch (F := [.mram, .nv, .log, .evc, .tw]) hframe⟩

end

/-- The third copy written well ends the save. -/
theorem configCopyWritten_saved {s : State} (hk : s.nv.saveCopy = some 2) (hr : s.nv.repairing = false) (hj : journalWaits s = false) :
    ∃ t, exec (.configCopyWritten true) s = .next t ∧
      t.mram.cfg = vset s.mram.cfg 2 ⟨true, s.nv.saveGen, s.nv.saveBody⟩ ∧ t.nv.saveCopy = none ∧ t.nv.saveStatus = 2 ∧
      t = { s with mram := t.mram, nv := t.nv, boot := t.boot, evc := t.evc, tw := t.tw } := by
  obtain ⟨u, hu⟩ : ∃ u, u = modNv (fun v => { v with saveCopy := none, saveStatus := 2 })
      (modBoot (fun b => { b with cfgGen := if s.boot.hcUsed then s.boot.cfgGen else s.nv.saveGen })
        (modCopy 2 (fun _ => ⟨true, s.nv.saveGen, s.nv.saveBody⟩) s)) := ⟨_, rfl⟩
  have hexec : exec (.configCopyWritten true) s = .next (saveEvent u) := by
    rw [exec_configCopyWritten hk hj, if_pos rfl, copyDone, hr, hu]
    rfl
  have hend : rest [.evc, .tw] (saveEvent u) = rest [.evc, .tw] u := saveEvent_rest (by decide) (by decide) u
  have hframe : rest [.mram, .nv, .boot, .evc, .tw] u = rest [.mram, .nv, .boot, .evc, .tw] s := by
    rw [hu, modNv_rest (by decide), modBoot_rest (by decide), modCopy_rest (by decide)]
  have hunv : u.nv.saveCopy = none ∧ u.nv.saveStatus = 2 := by rw [hu]; exact ⟨rfl, rfl⟩
  have hcfg : u.mram.cfg = vset s.mram.cfg 2 ⟨true, s.nv.saveGen, s.nv.saveBody⟩ := by rw [hu]; rfl
  obtain ⟨t, ht⟩ : ∃ t, t = saveEvent u := ⟨_, rfl⟩
  rw [← ht] at hend hexec
  have hnv : t.nv = u.nv := rest_nv hend (by decide)
  exact ⟨t, hexec, by rw [rest_mram hend (by decide), hcfg], by rw [hnv, hunv.1], by rw [hnv, hunv.2],
    rest_patch (F := [.mram, .nv, .boot, .evc, .tw]) ((rest_mono (by decide) hend).trans hframe)⟩

/-! ### The Home Chart (R374 to R376) -/

section
variable {s : State} {p : Port} {row : ObjRow} {b : List Byte} (ha : answering s = true) (hw : checkWrite s p 0x2802 0x01 = .ok row)
include ha hw

theorem exec_hcImageWrite : exec (.hcImageWrite p b) s = .next (setAck (hcImageOp p b s).2 (hcImageOp p b s).1) :=
  congrArg Host.Outcome.next (directWrite_ok (by decide) ha hw _)

theorem hcImageWrite_long (h : 32696 < b.length) : exec (.hcImageWrite p b) s = .next { s with ack := .abort .length } := by
  rw [exec_hcImageWrite ha hw, hcImageOp, if_pos h]
  rfl

theorem hcImageWrite_refused (h : b.length ≤ 32696) (hs : s.mram.lc ∉ [1, 2] ∨ hcLocked s = true ∨ s.nv.hcWrite ≠ none) :
    exec (.hcImageWrite p b) s = .next { s with ack := .abort .state } := by
  have hbad : (!(decide (s.mram.lc = 1) || decide (s.mram.lc = 2)) || hcLocked s || s.nv.hcWrite.isSome) = true := by
    rcases hs with hlc | hlock | hnone
    · have hlife : s.mram.lc ≠ 1 ∧ s.mram.lc ≠ 2 := by simpa using hlc
      simp [hlife]
    · simp [hlock]
    · simp [Option.isSome_iff_ne_none.mpr hnone]
  rw [exec_hcImageWrite ha hw, hcImageOp, if_neg (Nat.not_lt.mpr h), if_pos hbad]
  rfl

theorem hcImageWrite_starts (h : b.length ≤ 32696) (hlc : s.mram.lc ∈ [1, 2]) (hlock : hcLocked s = false) (hnone : s.nv.hcWrite = none) :
    exec (.hcImageWrite p b) s = .next { s with
          ack := .none, nv := { s.nv with hcWrite := some b, hcPort := p }
          mram := { (mramFresh 0x98000 0x7FF8 s).mram with hc := { s.mram.hc with valid := false } } } := by
  have hgood : (!(decide (s.mram.lc = 1) || decide (s.mram.lc = 2)) || hcLocked s || s.nv.hcWrite.isSome) = false := by
    have hlife : s.mram.lc = 1 ∨ s.mram.lc = 2 := by simpa using hlc
    rcases hlife with hlife | hlife <;> simp [hlife, hlock, hnone]
  rw [exec_hcImageWrite ha hw, hcImageOp, if_neg (Nat.not_lt.mpr h), hgood]
  rfl

end

section
variable {s : State} {p : Port} {row : ObjRow} {v : Nat} (ha : answering s = true) (hw : checkWrite s p 0x2802 0x02 = .ok row)
include ha hw

theorem exec_hcLock : exec (.hcLock p v) s = .next (setAck (hcLockOp v s).2 (hcLockOp v s).1) :=
  congrArg Host.Outcome.next (directWrite_ok (by decide) ha hw _)

theorem hcLock_nothing (h : v ≠ 0x4C4F434B ∨ hcLocked s = true) : exec (.hcLock p v) s = .next { s with ack := .done } := by
  have hno : (decide (v ≠ 0x4C4F434B) || hcLocked s) = true := by
    rcases h with h | h <;> simp [h]
  rw [exec_hcLock ha hw, hcLockOp, if_pos hno]
  rfl

theorem hcLock_refused (hv : v = 0x4C4F434B) (hlock : hcLocked s = false) (h : s.mram.lc ≠ 2 ∨ s.mram.hc.valid = false) :
    exec (.hcLock p v) s = .next { s with ack := .abort .state } := by
  have hbad : ¬(s.mram.lc = 2 ∧ s.mram.hc.valid = true) := fun ⟨hlc, hvalid⟩ =>
    h.elim (fun h => h hlc) fun h => Bool.noConfusion (hvalid.symm.trans h)
  rw [exec_hcLock ha hw, hcLockOp, if_neg (by simp [hv, hlock]), if_neg hbad]
  rfl

theorem hcLock_locks (hv : v = 0x4C4F434B) (hlock : hcLocked s = false) (hlc : s.mram.lc = 2) (hvalid : s.mram.hc.valid = true) :
    exec (.hcLock p v) s = .next { s with
        ack := .done
        mram := { s.mram with hc := { s.mram.hc with lockLo := 0x4C4F434B, lockHi := 0xB3B0BCB4 } } } := by
  rw [exec_hcLock ha hw, hcLockOp, if_neg (by simp [hv, hlock]), if_pos ⟨hlc, hvalid⟩]
  rfl

end

theorem homeChartWritten_waits {s : State} (ok : Bool) (h : s.nv.hcWrite = none ∨ journalWaits s = true) :
    exec (.homeChartWritten ok) s = .next s := by
  show execHomeChartWritten ok s = _
  unfold execHomeChartWritten
  split
  · rfl
  · next b hb =>
    have hj := h.resolve_left (by rw [hb]; exact Option.some_ne_none b)
    dsimp only
    rw [if_pos hj]

/-- The write of the chart is over, well or not. -/
def chartEnded (done : Bool) (s : State) : State := modNv (fun v => { v with hcWrite := none, hcNext := v.hcNext || done }) s

theorem chartEnded_nv (done : Bool) (s : State) : (chartEnded done s).nv = { s.nv with hcWrite := none, hcNext := s.nv.hcNext || done } := rfl

section
variable {s : State} {b : List Byte} (hb : s.nv.hcWrite = some b) (hj : journalWaits s = false)
include hb hj

theorem exec_homeChartWritten (ok : Bool) : exec (.homeChartWritten ok) s = .next (if (ok && !hcLocked s) = true
    then answerPort s.nv.hcPort 0x2802 1 .done (modHc (fun h => { h with valid := true, body := b }) (chartEnded (ok && !hcLocked s) s))
    else answerPort s.nv.hcPort 0x2802 1 (.abort .storeFail) (logFault .mramWriteFail 0 0 0x98000 (chartEnded (ok && !hcLocked s) s))) := by
  show execHomeChartWritten ok s = _
  unfold execHomeChartWritten
  rw [hb]
  exact congrArg Host.Outcome.next (if_neg (Bool.not_eq_true _ ▸ hj))

/-- A chart written well is valid from the next boot. -/
theorem homeChartWritten_done (hlock : hcLocked s = false) : ∃ t, exec (.homeChartWritten true) s = .next t ∧
      t.mram = { s.mram with hc := { s.mram.hc with valid := true, body := b } } ∧
      t.nv = { s.nv with hcWrite := none, hcNext := true } ∧ t = { s with mram := t.mram, nv := t.nv, tw := t.tw, can := t.can } := by
  have hdone : (true && !hcLocked s) = true := by rw [hlock]; rfl
  have hexec := exec_homeChartWritten hb hj true
  rw [if_pos hdone, hdone] at hexec
  obtain ⟨u, hu⟩ : ∃ u, u = modHc (fun h => { h with valid := true, body := b }) (chartEnded true s) := ⟨_, rfl⟩
  rw [← hu] at hexec
  have hanswer : rest [.tw, .can] (answerPort s.nv.hcPort 0x2802 1 .done u) = rest [.tw, .can] u := answerPort_rest (by decide) (by decide) _ _ _ _ _
  have hframe : rest [.mram, .nv, .tw, .can] u = rest [.mram, .nv, .tw, .can] s := by
    rw [hu, modHc_rest (by decide), chartEnded, modNv_rest (by decide)]
  have hmram : u.mram = { s.mram with hc := { s.mram.hc with valid := true, body := b } } := by rw [hu]; rfl
  have hnv : u.nv = { s.nv with hcWrite := none, hcNext := true } := by
    rw [hu, modHc, chartEnded_nv, Bool.or_true]
  obtain ⟨t, ht⟩ : ∃ t, t = answerPort s.nv.hcPort 0x2802 1 .done u := ⟨_, rfl⟩
  rw [← ht] at hexec hanswer
  exact ⟨t, hexec, by rw [rest_mram hanswer (by decide), hmram], by rw [rest_nv hanswer (by decide), hnv],
    rest_patch (F := [.mram, .nv, .tw, .can]) ((rest_mono (by decide) hanswer).trans hframe)⟩

/-- A chart that takes no word, by a failed write or the lock, stays as it is. -/
theorem homeChartWritten_fails (ok : Bool) (h : ok = false ∨ hcLocked s = true) : ∃ t, exec (.homeChartWritten ok) s = .next t ∧ t.mram = s.mram ∧
      t.nv.hcWrite = none ∧ t.nv.hcNext = s.nv.hcNext ∧ t = { s with nv := t.nv, log := t.log, evc := t.evc, tw := t.tw, can := t.can } := by
  have hdone : (ok && !hcLocked s) = false := by rcases h with h | h <;> simp [h]
  have hexec := exec_homeChartWritten hb hj ok
  rw [if_neg (Bool.not_eq_true _ ▸ hdone), hdone] at hexec
  obtain ⟨u, hu⟩ : ∃ u, u = logFault .mramWriteFail 0 0 0x98000 (chartEnded false s) := ⟨_, rfl⟩
  have hlog : rest [.nv, .log, .evc, .tw] u = rest [.nv, .log, .evc, .tw] s := by
    rw [hu, logFault_rest (by decide) (by decide) (by decide) (by decide), chartEnded, modNv_rest (by decide)]
  have hchart : u.nv.hcWrite = none ∧ u.nv.hcNext = s.nv.hcNext := by
    rw [hu]
    obtain ⟨n, hn⟩ := logFault_nv .mramWriteFail 0 0 0x98000 (chartEnded false s)
    rw [hn, chartEnded_nv, Bool.or_false]
    exact ⟨rfl, rfl⟩
  rw [← hu] at hexec
  have hanswer : rest [.tw, .can] (answerPort s.nv.hcPort 0x2802 1 (.abort .storeFail) u) = rest [.tw, .can] u :=
    answerPort_rest (by decide) (by decide) _ _ _ _ _
  obtain ⟨t, ht⟩ : ∃ t, t = answerPort s.nv.hcPort 0x2802 1 (.abort .storeFail) u := ⟨_, rfl⟩
  rw [← ht] at hexec hanswer
  have hnv : t.nv = u.nv := rest_nv hanswer (by decide)
  exact ⟨t, hexec, (rest_mram hanswer (by decide)).trans (rest_mram hlog (by decide)), by rw [hnv, hchart.1], by rw [hnv, hchart.2],
    rest_patch (F := [.nv, .log, .evc, .tw, .can]) ((rest_mono (by decide) hanswer).trans (rest_mono (by decide) hlog))⟩

end

/-! ### The journal (R380, R381) -/

theorem journalAppend_stopped {s : State} (h : sysRuns s = false) : exec .journalAppend s = .next s := if_pos (by rw [h]; rfl)

/-- What the append does while SYS runs and no tail of a Last Fix comes first. -/
theorem journalAppend_ring {s : State} (h : sysRuns s = true) (ht : s.nv.lfTail = [] ∨ s.boot.phase ≠ .ready) :
    exec .journalAppend s = .next (journalOne s) := by
  show execJournalAppend s = _
  unfold execJournalAppend
  rw [h, Bool.not_true, if_neg Bool.false_ne_true]
  split
  · next r l hphase hl =>
    rcases ht with ht | ht
    · rw [ht] at hl
      cases hl
    · exact absurd hphase ht
  · rfl

theorem journalAppend_empty {s : State} (h : sysRuns s = true) (ht : s.nv.lfTail = [] ∨ s.boot.phase ≠ .ready) (hr : s.log.ring = []) :
    exec .journalAppend s = .next s := by
  rw [journalAppend_ring h ht, journalOne, hr]

theorem journalPut_eq (r : LogRec) (s : State) : journalPut r s = { s with mram := { s.mram with
    journal := (if s.mram.journal.length < 6144 then s.mram.journal else s.mram.journal.tail) ++ [r], jnlTornRec := false } } := by
  unfold journalPut
  dsimp only
  split <;> rfl

theorem journalAppend_oldest {s : State} (r : LogRec) (l : List LogRec) (h : sysRuns s = true) (ht : s.nv.lfTail = [] ∨ s.boot.phase ≠ .ready)
    (hr : s.log.ring = r :: l) : exec .journalAppend s = .next { s with
      log := { s.log with ring := l }
      mram := { s.mram with
        journal := (if s.mram.journal.length < 6144 then s.mram.journal else s.mram.journal.tail) ++ [r]
        jnlTornRec := false } } := by
  rw [journalAppend_ring h ht, journalOne, hr]
  dsimp only
  rw [journalPut_eq]

theorem journalAppend_tail {s : State} (r : LogRec) (l : List LogRec) (h : sysRuns s = true) (hp : s.boot.phase = .ready)
    (ht : s.nv.lfTail = r :: l) : exec .journalAppend s = .next { s with
      nv := { s.nv with lfTail := l, lfTailDone := s.nv.lfTailDone || l.isEmpty }
      mram := { s.mram with
        journal := (if s.mram.journal.length < 6144 then s.mram.journal else s.mram.journal.tail) ++ [{ r with fromLf := true }]
        jnlTornRec := false } } := by
  show execJournalAppend s = _
  unfold execJournalAppend
  rw [h, hp, ht, Bool.not_true, if_neg Bool.false_ne_true]
  dsimp only
  rw [journalPut_eq]
  rfl

/-- Settles O33: each command by its operation, and the vote by the table of R100, whose outcome step 6 leaves as it is. -/
theorem configurationAndHomeChart : Obligations.ConfigurationAndHomeChart := by
  unfold Obligations.ConfigurationAndHomeChart
  intro s
  refine ⟨fun p row ha hw => ⟨cfgSave_runs ha hw, cfgSave_noKey ha hw, cfgSave_starts ha hw⟩,
    configCopyWritten_waits, fun k j hk hr hj hnext => configCopyWritten_next hk hj hr j hnext, configCopyWritten_saved,
    fun k hk hr hj => configCopyWritten_fails hk hj hr, fun k hk hr hl hj => configCopyWritten_repaired hk hj hr hl,
    fun p row b ha hw => ⟨hcImageWrite_long ha hw, hcImageWrite_refused ha hw, hcImageWrite_starts ha hw⟩,
    homeChartWritten_waits, fun b hb hj hlock => homeChartWritten_done hb hj hlock, fun ok b hb hj h => homeChartWritten_fails hb hj ok h,
    fun p row v ha hw => ⟨hcLock_nothing ha hw, hcLock_refused ha hw, hcLock_locks ha hw⟩,
    journalAppend_stopped, journalAppend_empty, journalAppend_oldest, journalAppend_tail, ?_⟩
  intro w f k a b d h hf hk he ha hb hd
  obtain ⟨t, ht, hvoted, hcfg⟩ := selfTest_votes h hf hk he w
  refine ⟨t, ht, by rw [voted_crcValid hvoted, ha, hb, hd], hcfg, fun x n l hcase => ?_, fun hab had hbd hn => ?_⟩
  · obtain ⟨j, hj, rfl, rfl⟩ := vote_uses ha hb hd hcase
    exact voted_copy hvoted hj
  · subst ha hb hd
    exact voted_split hvoted (vote_split hab had hbd hn)

end Sys2Proof.Proofs
